-- ==== Sys2Proof/Word.lean ====
section
/-! DEFINITION. The word types of the device and the plainest arithmetic on them. -/

namespace Sys2Proof

/-- A byte of memory. -/
abbrev Byte := BitVec 8
/-- A 16-bit cell word (Sornas-C data registers, f16 and angle values). -/
abbrev Half := BitVec 16
/-- A 32-bit register of the fabric, a Sornas-S register or an instruction word. -/
abbrev Word := BitVec 32
/-- A 64-bit quantity (TIME in nanoseconds). -/
abbrev Dword := BitVec 64
/-- A sparse table: number and value, numbers rising. -/
abbrev SMap (α : Type) := List (Nat × α)

end Sys2Proof
end

