-- ==== Sys2Proof/Config.lean ====
section
/-! DEFINITION. What one part or implementation fixes, and the free values: opaque constants, so that no proof can
see what they are. -/

namespace Sys2Proof

/-- The ordering code of the part: `true` for FX4896-M, `false` for FX4896-K (R2, R3: SYSCTL_DEVID.FLOW). -/
opaque Config.extendedFlow : Bool
/-- OTP: the hashes of the boot keys by slot (R583) and of the debug keys by slot (R586). -/
opaque Config.otpKeyHash : Nat → BitVec 256
opaque Config.otpDebugHash : Bool → BitVec 256
/-- OTP: the flash offset of the secondary image (R582). -/
opaque Config.otpSecondary : BitVec 32
/-- The unique device identification of the part (SYSCTL_UIDLO and SYSCTL_UIDHI). -/
opaque Config.uid : BitVec 64
/-- OTP: lifecycle, `true` for LOCKED (SYSCTL_BOOTSTAT.LC). -/
opaque Config.otpLocked : Bool
/-- OTP: the revoked key slots (SYSCTL_BOOTSTAT.KEYREV). -/
opaque Config.otpKeyRev : BitVec 4
/-- OTP: the least SVN accepted (SYSCTL_BOOTSTAT.SVNMIN). -/
opaque Config.otpSvnMin : BitVec 6
/-- A value the spec leaves open: the free value number `n` of a run (the state counts how many it has used). -/
opaque Config.freeValue : Nat → BitVec 64
/-- A byte of an on-chip array that the spec leaves undefined after a self-test, by free-value number and address. -/
opaque Config.freeByte : Nat → Nat → Byte

/-- The angle of a sin/cos pair within its quadrant, in 1/4096 of a signal period (R363, R397): the spec gives its accuracy,
not its rounding. -/
opaque Config.atan12 : Int → Int → Nat
/-- A position in turns where the safety parameter set gives 0 signal periods a turn (R397, R439). -/
opaque Config.noPeriods : Int → Int

/-- The first array code of Drip lane `k` (R592). -/
def Config.dripFirst (k : Nat) : Nat := if k < 4 then 32 * k else if k = 4 then 0x94 else 0x98

end Sys2Proof
end

