-- ==== Sys2Proof/Syntax.lean ====
section
/-! DEFINITION. The commands of the device: one constructor for each row of the spec's table of operations and events,
with the operands the row's rule gives it. -/

namespace Sys2Proof

/-- An agent that issues fabric transactions (R40), with its number within its kind. -/
inductive Agent
  /-- A control cell, by logical flat ID. -/
  | cell (c : Fin 128)
  /-- A column: 0 to 3 the region columns, 4 COLH. -/
  | col (c : Fin 5)
  /-- A Gallery firing engine, issuing with the chamber of the event it fires. -/
  | engine (e : Fin 4) (chamber : Fin 16)
  /-- The DMA of an Echo port or an Ethernet MAC, issuing with the chamber of the ring concerned. -/
  | echoDma (k : Fin 4) (chamber : Fin 16)
  | ethDma (k : Fin 4) (chamber : Fin 16)
  | debug
  | drip
  /-- The Grotto's mailbox side. -/
  | grotto
  /-- The controller of block 4r + b. -/
  | blockCtl (blk : Fin 16)
  deriving DecidableEq, Repr

/-- A Sornas processor: a logical control cell (Sornas-C), a column or the Grotto's safety column (Sornas-S). -/
inductive Proc
  | cell (c : Fin 128)
  | col (c : Fin 5)
  | grotto
  deriving DecidableEq, Repr

/-- What the check of an ECC word finds. -/
inductive Ecc
  | clean | single | uncorrectable
  deriving DecidableEq, Repr

/-- A CAN frame (R507, R512): its identifier has the layout of word 0 of R512. -/
structure CanFrame where
  ide  : Bool
  rtr  : Bool
  id   : BitVec 29
  fdf  : Bool
  brs  : Bool
  esi  : Bool
  dlc  : BitVec 4
  data : List Byte
  deriving DecidableEq, Repr

/-- How a frame on a CAN bus ends for its transmitter (R516, R517): an error has its LEC code, and may be one that ISO 11898-1
excepts from the transmit error counter. -/
inductive CanEnd
  | success
  | lost
  | error (lec : Fin 7) (excused : Bool)
  deriving DecidableEq, Repr

/-- How an I2C command ends (R527): done, with the byte received; a missing ACK; arbitration lost. -/
inductive I2cEnd
  | done (rdata : Byte)
  | nacked
  | arbLost
  deriving DecidableEq, Repr


/-- The arrays that their own controllers scrub (R413). -/
inductive ScrubArray
  | region (r : Fin 4)
  | sysram
  | tcm (c : Fin 5)
  | grotto
  | slots
  | rings
  deriving DecidableEq, Repr
/-- The commands of the device. Field operands of a Sornas instruction are the fields of its word (R130). -/
inductive Instr
  /-- REGISTER_WRITE (R6). A write to a register that has no row of its own is applied field by field as each field's access type states. -/
  | registerWrite (ag : Agent) (addr : Word) (v : Word)
  /-- RC_READ (R10). A read of an RC register returns its value and clears it, keeping increments made in the same tick. -/
  | rcRead (ag : Agent) (addr : Word)
  /-- TRANSACTION_TIMEOUT (R34). A crossbar or mesh transaction not complete 16 µs after issue ends with TIMEOUT. -/
  | transactionTimeout (ag : Agent) (write : Bool) (addr : Word)
  /-- ERROR_ESCALATION (R35). A report not acknowledged by its first responder within the stated time escalates to the next level. -/
  | errorEscalation (unit : Nat)
  /-- FAB_ERR_POP (R38). A write of 1 to FAB_ERR_POP removes the head entry of the fabric error log. -/
  | fabErrPop (ag : Agent) (v : Word)
  /-- BANK_SCRUB (R28). A block-memory bank grant slot that no requester uses is spent on an ECC scrub of that bank. -/
  | bankScrub (b : Fin 16) (bank : Fin 8) (line : BitVec 13) (found : Ecc)
  /-- ARRAY_SCRUB (R413). Controllers scrub their arrays so that each is scrubbed in full at least every 10 s. -/
  | arrayScrub (arr : ScrubArray) (word : BitVec 21) (found : Ecc)
  /-- TIME_ADVANCE (R56). In each fabric tick TIME advances by the increment, adjusted by any remaining slew; in PARK and KEEP it advances once per reference cycle. -/
  | timeAdvance
  /-- TIME_NS_LO_READ (R61). A read of TIME_NS_LO returns the low bits of TIME and latches its high bits and fraction for the issuing agent. -/
  | timeNsLoRead (ag : Agent)
  /-- TIME_INC_INT_WRITE (R56). A write of TIME_INC_INT stages the integer part of the increment without changing the increment in force. -/
  | timeIncIntWrite (ag : Agent) (v : Word)
  /-- TIME_INC_FRAC_WRITE (R57). A write of TIME_INC_FRAC forms the new increment from the staged integer part and clamps it to ±1,000 ppm. -/
  | timeIncFracWrite (ag : Agent) (v : Word)
  /-- STEP (R62). A write of TIME_CTRL.STEP captures the target and, at the next tick, steps TIME forward to it or refuses the step. -/
  | step (ag : Agent) (v : Word)
  /-- TIME_SLEW_WRITE (R64). A write of TIME_SLEW replaces the remaining slew. -/
  | timeSlewWrite (ag : Agent) (v : Word)
  /-- SRC_CHANGE (R69). A change of TIME_CTRL.SRC keeps the increment, makes the next sample a first sample and lowers LOCKED to ACQUIRE. -/
  | srcChange (ag : Agent) (v : Word)
  /-- TIME_OFS_IN_WRITE (R67). A firmware write of TIME_OFS_IN delivers a software offset sample, which is accepted or refused. -/
  | timeOfsInWrite (ag : Agent) (v : Word)
  /-- PPS_EDGE (R66). A selected edge on the PPS GPIO captures TIME and forms an offset sample modulo one second. -/
  | ppsEdge (pin : Fin 16) (rising : Bool)
  /-- SOURCE_LOST (R71). No sample accepted for HOLD_TMO × 100 ms marks the source lost and moves the quality level. -/
  | sourceLost
  /-- HOLDOVER_ERRB_UPDATE (R70). Every 1 ms in HOLDOVER, TIME_ERRB grows by the assumed drift. -/
  | holdoverErrbUpdate
  /-- RATE_CHECK (R73). Once per millisecond the reference cycles are counted against TIME's advance and a deviation sets RATE_ERR. -/
  | rateCheck (refCycles : Nat)
  /-- TRACKER_ENABLE (R74). A write of ANG_CFG.EN from 0 to 1 clears VALID and restarts every consecutive-update count of the tracker. -/
  | trackerEnable (ag : Agent) (x : Fin 8) (v : Word)
  /-- TRACKER_UPDATE (R77). Every 640 fabric ticks each enabled tracker predicts, judges its sources, fuses their innovations and records its outputs and stamp. -/
  | trackerUpdate
  /-- SOURCE_FAULT (R79). A source whose interface fails, whose observer input goes unwritten for OBS_TMO updates or whose innovation exceeds ELIM for ECNT updates is faulted. -/
  | sourceFault (x : Fin 8) (src : Fin 2)
  /-- TRACKER_FAULT (R82). After COAST_MAX consecutive coasting updates the tracker sets FAULT and clears VALID. -/
  | trackerFault (x : Fin 8)
  /-- ANGLE_SET (R84). ANG_CMD.SET loads the angle from SET_REV and ANG_SET_FRAC, clears VALID and advances ANG_SEQ. -/
  | angleSet (ag : Agent) (x : Fin 8) (rev : Half)
  /-- ANG_CMD_PRI (R80). ANG_CMD.PRI returns the tracker to source 0 if it is healthy and clears SUB. -/
  | angCmdPri (ag : Agent) (x : Fin 8)
  /-- ANG_OBS_WRITE (R79). A write of ANG_OBS supplies the observer angle and restarts the OBS_TMO count. -/
  | angObsWrite (ag : Agent) (x : Fin 8) (v : Word)
  /-- MODE_CHANGE (R80). A write that changes ANG_CFG.MODE takes effect from the next update and clears SUB. -/
  | modeChange (ag : Agent) (x : Fin 8) (mode : BitVec 2)
  /-- SUBMISSION (R97). A write of GAL_SUB_GO.GO submits the agent's staged event image to the Gallery. -/
  | submission (ag : Agent) (v : Word)
  /-- SUBMISSION_DECISION (R98). The Gallery checks a submission in order and accepts it into a slot or refuses it with a status. -/
  | submissionDecision
  /-- GAL_CANCEL (R100). A write of a handle to GAL_CANCEL cancels a pending uncommitted event or returns STALE_GEN or PERM. -/
  | galCancel (ag : Agent) (v : Word)
  /-- GAL_QUOTA_WRITE (R101). A write of a chamber's Gallery quota takes effect unless the reservations would exceed the slot memory. -/
  | galQuotaWrite (ag : Agent) (c : Fin 16) (v : Word)
  /-- TIME_EVENT_COMMIT (R103). A time event is committed to its engine when its due tick lies less than 64 firing ticks ahead. -/
  | timeEventCommit (n : Fin 49152)
  /-- EVENT_ISSUE (R108). In each issue slot an engine issues the owner's earliest due committed event, or lends the slot round robin. -/
  | eventIssue (e : Fin 4)
  /-- NOP_ACTION (R93). The Gallery NOP action takes no effect and serves to obtain a timed report. -/
  | nopAction (e : Fin 4)
  /-- CELL_EVENT (R93). The CELL_EVENT action writes a vector and payload into the event FIFO of the bound cell. -/
  | cellEvent (e : Fin 4)
  /-- PWM_EDGE (R274). The PWM_EDGE action enters an edge with its level and instant into the output's edge queue. -/
  | pwmEdge (e : Fin 4)
  /-- PWM_LOADALL (R282). The PWM_LOADALL action requests a load-all commit of the named groups at their next boundaries. -/
  | pwmLoadall (e : Fin 4)
  /-- ADC_TRIGGER (R315). The ADC_TRIGGER action presents one trigger to a converter, which takes or drops it at once. -/
  | adcTrigger (e : Fin 4)
  /-- PIN (R530). The PIN action drives a GPIO OUT bit low, high, toggled or high for WIDTH firing ticks. -/
  | pin (e : Fin 4)
  /-- RING_PUSH (R118). The RING_PUSH action writes a push entry carrying DATA into the home ring. -/
  | ringPush (e : Fin 4)
  /-- ECHO_SEND (R489). The ECHO_SEND action sends the next entry of a TIMED transmit ring on its Echo binding. -/
  | echoSend (e : Fin 4)
  /-- COLUMN_IRQ (R93). The COLUMN_IRQ action raises a Gallery interrupt line of a column with a payload. -/
  | columnIrq (e : Fin 4)
  /-- SAFE_CHECK (R395). The SAFE_CHECK action delivers a heartbeat to the Grotto, which checks its interval, token and TIME. -/
  | safeCheck (e : Fin 4)
  /-- HOLD_RETRY (R95). An engine retries a held action in an unused issue slot, round robin over chambers. -/
  | holdRetry (e : Fin 4)
  /-- HOLD_TIMEOUT (R95). A held action not taken 640 firing ticks after first issue ends with TIMEOUT. -/
  | holdTimeout (e : Fin 4)
  /-- RING_ENABLE (R114). A write of EN from 0 to 1 checks the ring's placement and, if valid, enables it with PROD and CONS at 0. -/
  | ringEnable (ag : Agent) (n : Fin 16384) (v : Word)
  /-- RING_DISABLE (R114). A write of EN = 0 disables a ring unless events are pending on it, which is refused with PERM. -/
  | ringDisable (ag : Agent) (n : Fin 16384) (v : Word)
  /-- RING_CONS_WRITE (R113). Software advances CONS of a receive ring, freeing entries for its producer. -/
  | ringConsWrite (ag : Agent) (n : Fin 16384) (cons : Half)
  /-- RING_PROD_WRITE (R116). Software advances PROD of a transmit ring, which counts as the link send. -/
  | ringProdWrite (ag : Agent) (n : Fin 16384) (prod : Half)
  /-- ADD (R137). ALU ADD writes the saturated sum of two registers. -/
  | add (p : Proc) (gd : BitVec 3) (rd : BitVec 5) (ra : BitVec 5) (rb : BitVec 5)
  /-- SUB (R137). ALU SUB writes the saturated difference of two registers. -/
  | sub (p : Proc) (gd : BitVec 3) (rd : BitVec 5) (ra : BitVec 5) (rb : BitVec 5)
  /-- ADDW (R137). ALU ADDW writes the wrapped sum. -/
  | addw (p : Proc) (gd : BitVec 3) (rd : BitVec 5) (ra : BitVec 5) (rb : BitVec 5)
  /-- SUBW (R137). ALU SUBW writes the wrapped difference. -/
  | subw (p : Proc) (gd : BitVec 3) (rd : BitVec 5) (ra : BitVec 5) (rb : BitVec 5)
  /-- AND (R137). ALU AND writes the bitwise and. -/
  | and (p : Proc) (gd : BitVec 3) (rd : BitVec 5) (ra : BitVec 5) (rb : BitVec 5)
  /-- OR (R137). ALU OR writes the bitwise or. -/
  | or (p : Proc) (gd : BitVec 3) (rd : BitVec 5) (ra : BitVec 5) (rb : BitVec 5)
  /-- XOR (R137). ALU XOR writes the bitwise exclusive or. -/
  | xor (p : Proc) (gd : BitVec 3) (rd : BitVec 5) (ra : BitVec 5) (rb : BitVec 5)
  /-- ANDN (R137). ALU ANDN writes ra and not rb. -/
  | andn (p : Proc) (gd : BitVec 3) (rd : BitVec 5) (ra : BitVec 5) (rb : BitVec 5)
  /-- SHL (R137). ALU SHL shifts left by a register amount. -/
  | shl (p : Proc) (gd : BitVec 3) (rd : BitVec 5) (ra : BitVec 5) (rb : BitVec 5)
  /-- SHR (R137). ALU SHR shifts right logically. -/
  | shr (p : Proc) (gd : BitVec 3) (rd : BitVec 5) (ra : BitVec 5) (rb : BitVec 5)
  /-- SRA (R137). ALU SRA shifts right arithmetically. -/
  | sra (p : Proc) (gd : BitVec 3) (rd : BitVec 5) (ra : BitVec 5) (rb : BitVec 5)
  /-- SHLS (R137). ALU SHLS shifts left with saturation. -/
  | shls (p : Proc) (gd : BitVec 3) (rd : BitVec 5) (ra : BitVec 5) (rb : BitVec 5)
  /-- MIN (R137). ALU MIN writes the signed minimum. -/
  | min (p : Proc) (gd : BitVec 3) (rd : BitVec 5) (ra : BitVec 5) (rb : BitVec 5)
  /-- MAX (R137). ALU MAX writes the signed maximum. -/
  | max (p : Proc) (gd : BitVec 3) (rd : BitVec 5) (ra : BitVec 5) (rb : BitVec 5)
  /-- MINU (R137). ALU MINU writes the unsigned minimum. -/
  | minu (p : Proc) (gd : BitVec 3) (rd : BitVec 5) (ra : BitVec 5) (rb : BitVec 5)
  /-- MAXU (R137). ALU MAXU writes the unsigned maximum. -/
  | maxu (p : Proc) (gd : BitVec 3) (rd : BitVec 5) (ra : BitVec 5) (rb : BitVec 5)
  /-- NEG (R137). ALU NEG writes the saturated negation. -/
  | neg (p : Proc) (gd : BitVec 3) (rd : BitVec 5) (ra : BitVec 5) (rb : BitVec 5)
  /-- ABS (R137). ALU ABS writes the saturated absolute value. -/
  | abs (p : Proc) (gd : BitVec 3) (rd : BitVec 5) (ra : BitVec 5) (rb : BitVec 5)
  /-- CLIP (R137). ALU CLIP clamps ra to plus or minus max(rb, 0). -/
  | clip (p : Proc) (gd : BitVec 3) (rd : BitVec 5) (ra : BitVec 5) (rb : BitVec 5)
  /-- CLS (R137). ALU CLS counts leading sign bits. -/
  | cls (p : Proc) (gd : BitVec 3) (rd : BitVec 5) (ra : BitVec 5) (rb : BitVec 5)
  /-- CLZ (R137). ALU CLZ counts leading zeros. -/
  | clz (p : Proc) (gd : BitVec 3) (rd : BitVec 5) (ra : BitVec 5) (rb : BitVec 5)
  /-- MOV (R137). ALU MOV copies a register. -/
  | mov (p : Proc) (gd : BitVec 3) (rd : BitVec 5) (ra : BitVec 5) (rb : BitVec 5)
  /-- AVG (R137). ALU AVG writes the rounded half sum. -/
  | avg (p : Proc) (gd : BitVec 3) (rd : BitVec 5) (ra : BitVec 5) (rb : BitVec 5)
  /-- ROR (R137). ALU ROR rotates right. -/
  | ror (p : Proc) (gd : BitVec 3) (rd : BitVec 5) (ra : BitVec 5) (rb : BitVec 5)
  /-- ADDI (R138). ADDI adds a sign-extended immediate with wrap. -/
  | addi (p : Proc) (gd : BitVec 3) (rd : BitVec 5) (ra : BitVec 5) (imm : BitVec 13)
  /-- ANDI (R138). ANDI ands a zero-extended immediate. -/
  | andi (p : Proc) (gd : BitVec 3) (rd : BitVec 5) (ra : BitVec 5) (imm : BitVec 13)
  /-- ORI (R138). ORI ors a zero-extended immediate. -/
  | ori (p : Proc) (gd : BitVec 3) (rd : BitVec 5) (ra : BitVec 5) (imm : BitVec 13)
  /-- XORI (R138). XORI exclusive-ors a zero-extended immediate. -/
  | xori (p : Proc) (gd : BitVec 3) (rd : BitVec 5) (ra : BitVec 5) (imm : BitVec 13)
  /-- SHI_SHL (R138). SHI with KIND SHL shifts left by an immediate. -/
  | shiShl (p : Proc) (gd : BitVec 3) (rd : BitVec 5) (ra : BitVec 5) (imm : BitVec 10)
  /-- SHI_SHR (R138). SHI with KIND SHR shifts right logically by an immediate. -/
  | shiShr (p : Proc) (gd : BitVec 3) (rd : BitVec 5) (ra : BitVec 5) (imm : BitVec 10)
  /-- SHI_SRA (R138). SHI with KIND SRA shifts right arithmetically by an immediate. -/
  | shiSra (p : Proc) (gd : BitVec 3) (rd : BitVec 5) (ra : BitVec 5) (imm : BitVec 10)
  /-- SHI_SHLS (R138). SHI with KIND SHLS shifts left with saturation by an immediate. -/
  | shiShls (p : Proc) (gd : BitVec 3) (rd : BitVec 5) (ra : BitVec 5) (imm : BitVec 10)
  /-- SHI_ROR (R138). SHI with KIND ROR rotates right by an immediate. -/
  | shiRor (p : Proc) (gd : BitVec 3) (rd : BitVec 5) (ra : BitVec 5) (imm : BitVec 10)
  /-- LI (R139). LI loads an immediate into a register. -/
  | li (p : Proc) (gd : BitVec 3) (rd : BitVec 5) (imm : BitVec 18)
  /-- LIH (R139). LIH loads the high part of a register from an immediate. -/
  | lih (p : Proc) (gd : BitVec 3) (rd : BitVec 5) (imm : BitVec 18)
  /-- EXTU (R140). BFX EXTU extracts a bit field zero-extended. -/
  | extu (p : Proc) (gd : BitVec 3) (rd : BitVec 5) (ra : BitVec 5) (pos : BitVec 5) (len1 : BitVec 5)
  /-- EXTS (R140). BFX EXTS extracts a bit field sign-extended. -/
  | exts (p : Proc) (gd : BitVec 3) (rd : BitVec 5) (ra : BitVec 5) (pos : BitVec 5) (len1 : BitVec 5)
  /-- INS (R140). BFX INS inserts low bits of ra into a field of rd. -/
  | ins (p : Proc) (gd : BitVec 3) (rd : BitVec 5) (ra : BitVec 5) (pos : BitVec 5) (len1 : BitVec 5)
  /-- CMP (R142). CMP compares two registers under COND and writes a predicate. -/
  | cmp (p : Proc) (gd : BitVec 3) (pd : BitVec 2) (cond : BitVec 3) (ra : BitVec 5) (rb : BitVec 5) (fn : BitVec 8)
  /-- CMPI (R142). CMPI compares a register with an immediate under COND and writes a predicate. -/
  | cmpi (p : Proc) (gd : BitVec 3) (pd : BitVec 2) (cond : BitVec 3) (ra : BitVec 5) (imm : BitVec 13)
  /-- PLOG (R143). PLOG combines predicates under OP2 into a predicate. -/
  | plog (p : Proc) (gd : BitVec 3) (pd : BitVec 2) (pa : BitVec 2) (pb : BitVec 2) (op2 : BitVec 3)
  /-- MULL (R144). MUL MULL writes the low part of the product. -/
  | mull (p : Proc) (gd : BitVec 3) (rd : BitVec 5) (ra : BitVec 5) (rb : BitVec 5)
  /-- MULH (R144). MUL MULH writes the high part of the signed product. -/
  | mulh (p : Proc) (gd : BitVec 3) (rd : BitVec 5) (ra : BitVec 5) (rb : BitVec 5)
  /-- MULHU (R144). MUL MULHU writes the high part of the unsigned product. -/
  | mulhu (p : Proc) (gd : BitVec 3) (rd : BitVec 5) (ra : BitVec 5) (rb : BitVec 5)
  /-- MULF (R144). MUL MULF writes the rounded, saturated fractional product. -/
  | mulf (p : Proc) (gd : BitVec 3) (rd : BitVec 5) (ra : BitVec 5) (rb : BitVec 5)
  /-- MULW (R144). MUL MULW writes the full product into a register pair. -/
  | mulw (p : Proc) (gd : BitVec 3) (rd : BitVec 5) (ra : BitVec 5) (rb : BitVec 5)
  /-- MAC (R145). MAC adds a doubled product to an accumulator with saturation. -/
  | mac (p : Proc) (gd : BitVec 3) (aa : BitVec 2) (ab : BitVec 2) (ra : BitVec 5) (rb : BitVec 5)
  /-- MSU (R145). MSU subtracts a doubled product from an accumulator. -/
  | msu (p : Proc) (gd : BitVec 3) (aa : BitVec 2) (ab : BitVec 2) (ra : BitVec 5) (rb : BitVec 5)
  /-- MPY (R145). MPY loads an accumulator with a doubled product. -/
  | mpy (p : Proc) (gd : BitVec 3) (aa : BitVec 2) (ab : BitVec 2) (ra : BitVec 5) (rb : BitVec 5)
  /-- MACI (R145). MACI adds an integer product to an accumulator. -/
  | maci (p : Proc) (gd : BitVec 3) (aa : BitVec 2) (ab : BitVec 2) (ra : BitVec 5) (rb : BitVec 5)
  /-- MAC2 (R145). MAC2 accumulates two products into two accumulators. -/
  | mac2 (p : Proc) (gd : BitVec 3) (aa : BitVec 2) (ab : BitVec 2) (ra : BitVec 5) (rb : BitVec 5)
  /-- MACD (R145). MACD accumulates the sum of two products. -/
  | macd (p : Proc) (gd : BitVec 3) (aa : BitVec 2) (ab : BitVec 2) (ra : BitVec 5) (rb : BitVec 5)
  /-- MACX (R145). MACX accumulates the difference of two products. -/
  | macx (p : Proc) (gd : BitVec 3) (aa : BitVec 2) (ab : BitVec 2) (ra : BitVec 5) (rb : BitVec 5)
  /-- MPYD (R145). MPYD loads the sum of two products. -/
  | mpyd (p : Proc) (gd : BitVec 3) (aa : BitVec 2) (ab : BitVec 2) (ra : BitVec 5) (rb : BitVec 5)
  /-- MPYX (R145). MPYX loads the difference of two products. -/
  | mpyx (p : Proc) (gd : BitVec 3) (aa : BitVec 2) (ab : BitVec 2) (ra : BitVec 5) (rb : BitVec 5)
  /-- CLRA (R146). CLRA clears an accumulator. -/
  | clra (p : Proc) (gd : BitVec 3) (aa : BitVec 2) (ab : BitVec 2) (ra : BitVec 5) (rb : BitVec 5)
  /-- LDAH (R146). LDAH loads an accumulator from an f16 register. -/
  | ldah (p : Proc) (gd : BitVec 3) (aa : BitVec 2) (ab : BitVec 2) (ra : BitVec 5) (rb : BitVec 5)
  /-- LDAW (R146). LDAW loads an accumulator from an f32 value. -/
  | ldaw (p : Proc) (gd : BitVec 3) (aa : BitVec 2) (ab : BitVec 2) (ra : BitVec 5) (rb : BitVec 5)
  /-- RDAH (R146). RDAH reads an accumulator into f16 with shift, rounding and saturation. -/
  | rdah (p : Proc) (gd : BitVec 3) (aa : BitVec 2) (ab : BitVec 2) (ra : BitVec 5) (rb : BitVec 5)
  /-- RDAW (R146). RDAW reads an accumulator into f32 with shift and saturation. -/
  | rdaw (p : Proc) (gd : BitVec 3) (aa : BitVec 2) (ab : BitVec 2) (ra : BitVec 5) (rb : BitVec 5)
  /-- SHA (R146). SHA shifts an accumulator by a signed amount. -/
  | sha (p : Proc) (gd : BitVec 3) (aa : BitVec 2) (ab : BitVec 2) (ra : BitVec 5) (rb : BitVec 5)
  /-- ADDA (R146). ADDA adds two accumulators. -/
  | adda (p : Proc) (gd : BitVec 3) (aa : BitVec 2) (ab : BitVec 2) (ra : BitVec 5) (rb : BitVec 5)
  /-- SUBA (R146). SUBA subtracts two accumulators. -/
  | suba (p : Proc) (gd : BitVec 3) (aa : BitVec 2) (ab : BitVec 2) (ra : BitVec 5) (rb : BitVec 5)
  /-- NEGA (R146). NEGA negates an accumulator. -/
  | nega (p : Proc) (gd : BitVec 3) (aa : BitVec 2) (ab : BitVec 2) (ra : BitVec 5) (rb : BitVec 5)
  /-- MOVA (R146). MOVA copies an accumulator. -/
  | mova (p : Proc) (gd : BitVec 3) (aa : BitVec 2) (ab : BitVec 2) (ra : BitVec 5) (rb : BitVec 5)
  /-- DIV (R147). DIV writes the saturated signed quotient. -/
  | div (p : Proc) (gd : BitVec 3) (rd : BitVec 5) (ra : BitVec 5) (rb : BitVec 5)
  /-- DIVU (R147). DIVU writes the unsigned quotient. -/
  | divu (p : Proc) (gd : BitVec 3) (rd : BitVec 5) (ra : BitVec 5) (rb : BitVec 5)
  /-- REM (R147). REM writes the signed remainder. -/
  | rem (p : Proc) (gd : BitVec 3) (rd : BitVec 5) (ra : BitVec 5) (rb : BitVec 5)
  /-- REMU (R147). REMU writes the unsigned remainder. -/
  | remu (p : Proc) (gd : BitVec 3) (rd : BitVec 5) (ra : BitVec 5) (rb : BitVec 5)
  /-- DIVF (R147). DIVF writes the saturated fractional quotient. -/
  | divf (p : Proc) (gd : BitVec 3) (rd : BitVec 5) (ra : BitVec 5) (rb : BitVec 5)
  /-- LD (R149). LD loads a word, pair or address register from base plus offset. -/
  | ld (p : Proc) (gd : BitVec 3) (rd : BitVec 5) (ra : BitVec 5) (wd : BitVec 2) (imm : BitVec 11)
  /-- LDU (R149). LDU loads with zero extension. -/
  | ldu (p : Proc) (gd : BitVec 3) (rd : BitVec 5) (ra : BitVec 5) (wd : BitVec 2) (imm : BitVec 11)
  /-- ST (R149). ST stores a word, pair or address register at base plus offset. -/
  | st (p : Proc) (gd : BitVec 3) (rd : BitVec 5) (ra : BitVec 5) (wd : BitVec 2) (imm : BitVec 11)
  /-- LDSTX_LOAD (R151). LDSTX with S = 0 loads and post- or pre-modifies its base. -/
  | ldstxLoad (p : Proc) (gd : BitVec 3) (rd : BitVec 5) (ra : BitVec 5) (wd : BitVec 2) (md : BitVec 2) (imm : BitVec 8)
  /-- LDSTX_STORE (R151). LDSTX with S = 1 stores and post- or pre-modifies its base. -/
  | ldstxStore (p : Proc) (gd : BitVec 3) (rd : BitVec 5) (ra : BitVec 5) (wd : BitVec 2) (md : BitVec 2) (imm : BitVec 8)
  /-- WRITE_BUFFER_DRAIN (R153). The oldest posted store leaves the cell's write buffer and is performed. -/
  | writeBufferDrain (c : Fin 128)
  /-- ACCESS_POSTED_TRAP (R154). A later refusal of a posted store raises the ACCESS_POSTED trap at the next instruction boundary. -/
  | accessPostedTrap (p : Proc)
  /-- BR (R155). BR branches by a signed offset. -/
  | br (p : Proc) (gd : BitVec 3) (off : BitVec 23)
  /-- CALL (R155). CALL writes the link and branches. -/
  | call (p : Proc) (gd : BitVec 3) (off : BitVec 23)
  /-- JR (R155). JR with FN 0x00 jumps to a register. -/
  | jr (p : Proc) (gd : BitVec 3) (rd : BitVec 5) (ra : BitVec 5) (rb : BitVec 5)
  /-- JR_LINK (R155). JR with FN 0x01 writes the link and jumps to a register. -/
  | jrLink (p : Proc) (gd : BitVec 3) (rd : BitVec 5) (ra : BitVec 5) (rb : BitVec 5)
  /-- LOOP (R156). LOOP starts a hardware loop over the following LEN instructions. -/
  | loop (p : Proc) (gd : BitVec 3) (n : BitVec 1) (ci : BitVec 1) (cnt : BitVec 12) (ra : BitVec 5) (len : BitVec 9)
  /-- NOP (R162). SYS NOP does nothing. -/
  | nop (p : Proc) (gd : BitVec 3) (rd : BitVec 5) (spn : BitVec 10)
  /-- TRAP (R162). SYS TRAP raises the TRAP trap with a 10-bit code. -/
  | trap (p : Proc) (gd : BitVec 3) (rd : BitVec 5) (spn : BitVec 10)
  /-- ERET (R170). ERET returns from a handler, restoring status and keeping SAT sticky. -/
  | eret (p : Proc) (gd : BitVec 3) (rd : BitVec 5) (spn : BitVec 10)
  /-- BRK (R162). SYS BRK halts into debug or raises the BRK trap. -/
  | brk (p : Proc) (gd : BitVec 3) (rd : BitVec 5) (spn : BitVec 10)
  /-- MFS (R163). MFS reads a special register. -/
  | mfs (p : Proc) (gd : BitVec 3) (rd : BitVec 5) (spn : BitVec 10)
  /-- MTS (R163). MTS writes a special register. -/
  | mts (p : Proc) (gd : BitVec 3) (rd : BitVec 5) (spn : BitVec 10)
  /-- EVENT_ENTRY (R169). At an instruction boundary with IE set and a non-empty FIFO, the cell takes the head entry and enters its handler. -/
  | eventEntry (c : Fin 128)
  /-- CLARKE (R177). XFORM CLARKE computes the two-phase Clarke transform. -/
  | clarke (p : Proc) (gd : BitVec 3) (rd : BitVec 5) (ra : BitVec 5) (rb : BitVec 5)
  /-- CLARKE3 (R177). XFORM CLARKE3 computes the Clarke transform from three currents. -/
  | clarke3 (p : Proc) (gd : BitVec 3) (rd : BitVec 5) (ra : BitVec 5) (rb : BitVec 5)
  /-- PARK (R177). XFORM PARK rotates a vector into the rotor frame. -/
  | park (p : Proc) (gd : BitVec 3) (rd : BitVec 5) (ra : BitVec 5) (rb : BitVec 5)
  /-- IPARK (R177). XFORM IPARK rotates a vector back to the stator frame. -/
  | ipark (p : Proc) (gd : BitVec 3) (rd : BitVec 5) (ra : BitVec 5) (rb : BitVec 5)
  /-- SINCOS (R177). XFORM SINCOS returns the cosine and sine of an angle. -/
  | sincos (p : Proc) (gd : BitVec 3) (rd : BitVec 5) (ra : BitVec 5) (rb : BitVec 5)
  /-- SV (R178). SVM SV produces three duties and a sector with min-max injection. -/
  | sv (p : Proc) (gd : BitVec 3) (rd : BitVec 5) (ra : BitVec 5) (rb : BitVec 5)
  /-- SIN (R178). SVM SIN produces three duties with no zero-sequence term. -/
  | sin (p : Proc) (gd : BitVec 3) (rd : BitVec 5) (ra : BitVec 5) (rb : BitVec 5)
  /-- DMIN (R178). SVM DMIN produces three duties with the lowest phase clamped to 0. -/
  | dmin (p : Proc) (gd : BitVec 3) (rd : BitVec 5) (ra : BitVec 5) (rb : BitVec 5)
  /-- VEC (R180). CORDIC VEC returns magnitude and phase of a vector. -/
  | vec (p : Proc) (gd : BitVec 3) (rd : BitVec 5) (ra : BitVec 5) (rb : BitVec 5)
  /-- ROT (R180). CORDIC ROT rotates a vector by an angle. -/
  | rot (p : Proc) (gd : BitVec 3) (rd : BitVec 5) (ra : BitVec 5) (rb : BitVec 5)
  /-- PI (R184). PICTL PI performs one PI regulator step with anti-windup. -/
  | pi (p : Proc) (gd : BitVec 3) (rd : BitVec 5) (ra : BitVec 5) (rb : BitVec 5) (fn : BitVec 5)
  /-- PID (R184). PICTL PID performs one PID regulator step with anti-windup. -/
  | pid (p : Proc) (gd : BitVec 3) (rd : BitVec 5) (ra : BitVec 5) (rb : BitVec 5) (fn : BitVec 5)
  /-- GBRD (R182). GBANK GBRD reads a coefficient of a named bank. -/
  | gbrd (p : Proc) (gd : BitVec 3) (rd : BitVec 5) (spn : BitVec 10)
  /-- GBRDA (R182). GBANK GBRDA reads a coefficient of the active bank. -/
  | gbrda (p : Proc) (gd : BitVec 3) (rd : BitVec 5) (spn : BitVec 10)
  /-- GBWR (R182). GBANK GBWR writes a coefficient of a bank marked writable. -/
  | gbwr (p : Proc) (gd : BitVec 3) (rd : BitVec 5) (spn : BitVec 10)
  /-- LUTG (R183). LUTG evaluates a gain-versus-error law from the active bank. -/
  | lutg (p : Proc) (gd : BitVec 3) (rd : BitVec 5) (ra : BitVec 5) (rb : BitVec 5) (fn : BitVec 8)
  /-- BLKMAC (R185). BLKMAC accumulates a dot product over a vector, interruptible at element boundaries. -/
  | blkmac (p : Proc) (gd : BitVec 3) (aa : BitVec 2) (ab : BitVec 2) (ra : BitVec 5) (rb : BitVec 5) (fn : BitVec 8) (most : BitVec 16)
  /-- MOVB (R186). MOVB copies words element by element. -/
  | movb (p : Proc) (gd : BitVec 3) (rd : BitVec 5) (ra : BitVec 5) (rb : BitVec 5) (most : BitVec 16)
  /-- FILLB (R186). FILLB fills words from one source word. -/
  | fillb (p : Proc) (gd : BitVec 3) (rd : BitVec 5) (ra : BitVec 5) (rb : BitVec 5) (most : BitVec 16)
  /-- CKPT (R190). CKPT writes the cell's state and data words into the inactive Flowstone record and makes it active. -/
  | ckpt (p : Proc) (gd : BitVec 3) (rd : BitVec 5) (ra : BitVec 5) (rb : BitVec 5) (fn : BitVec 8)
  /-- SUBMIT (R192). SUBMIT submits a Gallery event image from operand RAM, optionally waiting for the decision. -/
  | submit (p : Proc) (gd : BitVec 3) (rd : BitVec 5) (ra : BitVec 5) (rb : BitVec 5) (fn : BitVec 8)
  /-- WAIT (R194). WAIT sleeps until the event FIFO is non-empty or a timeout passes, leaving the entry. -/
  | wait (p : Proc) (gd : BitVec 3) (rd : BitVec 5) (ra : BitVec 5) (rb : BitVec 5) (fn : BitVec 7)
  /-- WAITP (R194). WAITP sleeps as WAIT and then pops the head entry into rd and ev. -/
  | waitp (p : Proc) (gd : BitVec 3) (rd : BitVec 5) (ra : BitVec 5) (rb : BitVec 5) (fn : BitVec 7)
  /-- WAIT_TIMEOUT (R194). The timeout of a WAIT with T = 1 expires and ends the sleep. -/
  | waitTimeout (c : Fin 128)
  /-- FENCE_B (R199). FENCE.B waits until buffered block-memory writes are acknowledged. -/
  | fenceB (p : Proc) (gd : BitVec 3) (rd : BitVec 5) (ra : BitVec 5) (rb : BitVec 5)
  /-- FENCE_R (R199). FENCE.R waits until writes at region scope are acknowledged. -/
  | fenceR (p : Proc) (gd : BitVec 3) (rd : BitVec 5) (ra : BitVec 5) (rb : BitVec 5)
  /-- FENCE_C (R199). FENCE.C waits until every buffered write is acknowledged. -/
  | fenceC (p : Proc) (gd : BitVec 3) (rd : BitVec 5) (ra : BitVec 5) (rb : BitVec 5)
  /-- FENCE_E (R200). FENCE.E marks the next submission or PROD write to leave only after earlier writes are acknowledged. -/
  | fenceE (p : Proc) (gd : BitVec 3) (rd : BitVec 5) (ra : BitVec 5) (rb : BitVec 5)
  /-- FENCE_COMPLETE (R46). A waiting fence completes when every earlier write is visible at its scope. -/
  | fenceComplete (p : Proc)
  /-- START (R208). CELL_CTRL.START maps, optionally loads, clears and starts a stopped or faulted logical cell. -/
  | start (ag : Agent) (c : Fin 128) (load : Bool) (entry : BitVec 12)
  /-- IMAGE_COPY_DONE (R208). The image copy of a START ends and the cell starts, or an ECC error ends the START with the cell FAULTED. -/
  | imageCopyDone (c : Fin 128)
  /-- STOP (R209). CELL_CTRL.STOP stops the logical cell at its next boundary. -/
  | stop (ag : Agent) (c : Fin 128)
  /-- CELL_BIND_WRITE (R210). A write of CELL_BIND binds converters, a tracker and PWM groups, or is discarded with PERM. -/
  | cellBindWrite (ag : Agent) (c : Fin 128) (v : Word)
  /-- KICK (R217). A write of CL_KICK restarts the cell's watchdog. -/
  | kick (c : Fin 128)
  /-- TRAPESC (R217). A trap handler that has not executed ERET within 1 µs is a cell fault. -/
  | trapesc (c : Fin 128)
  /-- WDT (R217). The cell watchdog expires without a kick and a cell fault is detected. -/
  | wdt (c : Fin 128)
  /-- CKAGE (R217). No successful CKPT for CKMAX µs is a cell fault. -/
  | ckage (c : Fin 128)
  /-- MIGRATION_COMPLETE (R219). After the image copy, the Flowstone record is restored and the spare resumes the program. -/
  | migrationComplete (c : Fin 128)
  /-- MIGRATION_HOLD_TIMEOUT (R221). A HOLD migration pattern with no commit within HOLDT × 8 µs changes to OFF. -/
  | migrationHoldTimeout (g : Fin 32)
  /-- RELEASE_PHYSICAL (R205). BLK_CTRL.RELEASE makes an ISOLATED physical cell IDLE and unmapped. -/
  | releasePhysical (ag : Agent) (b : Fin 16) (mask : Byte)
  /-- PMC_OVERFLOW_ENTRY (R229). A wrapped performance counter with OIE set writes an overflow entry into the cell FIFO. -/
  | pmcOverflowEntry (c : Fin 128)
  /-- AX_VDQ_WRITE (R234). A write of AX_VDQ supplies the voltage vector for field weakening and clears VSTALE. -/
  | axVdqWrite (ag : Agent) (x : Fin 8) (v : Word)
  /-- APPLY (R244). SH_CMD.APPLY recomputes the split at the next update. -/
  | apply (ag : Agent) (x : Fin 8)
  /-- EXCL (R242). SH_CMD.EXCL excludes a bridge from the share unit. -/
  | excl (ag : Agent) (x : Fin 8) (m : BitVec 4)
  /-- READMIT (R242). SH_CMD.READMIT returns a bridge to health if no cause is present. -/
  | readmit (ag : Agent) (x : Fin 8) (m : BitVec 4)
  /-- OPP_START (R250). OPP_CTRL.START arms the player to start a pattern at a command angle. -/
  | oppStart (ag : Agent) (x : Fin 8) (angle : Half) (p : BitVec 6)
  /-- OPP_SWITCH (R250). OPP_CTRL.SWITCH changes to a new pattern at a command angle. -/
  | oppSwitch (ag : Agent) (x : Fin 8) (angle : Half) (p : BitVec 6)
  /-- OPP_STOP (R250). OPP_CTRL.STOP ends the pattern at a command angle or disarms the player. -/
  | oppStop (ag : Agent) (x : Fin 8) (angle : Half)
  /-- SSX_CTRL_START (R255). SSX_CTRL.START moves the six-step unit from IDLE to CATCH. -/
  | ssxCtrlStart (ag : Agent) (x : Fin 8)
  /-- SSX_CTRL_STOP (R255). SSX_CTRL.STOP returns the six-step unit to IDLE with mask 6 at once. -/
  | ssxCtrlStop (ag : Agent) (x : Fin 8)
  /-- ZERO_CROSSING (R259). An accepted back-EMF zero crossing measures T60, schedules the next commutation and runs the synchronism checks. -/
  | zeroCrossing (x : Fin 8) (ph : Fin 3) (held : Nat)
  /-- COMMUTATION (R259). The scheduled commutation time arrives and the bridge mask steps to the next state. -/
  | commutation (x : Fin 8)
  /-- FORCED_COMMUTATION (R259). No crossing by the miss window forces a commutation and counts a miss. -/
  | forcedCommutation (x : Fin 8)
  /-- RAMP_COMMUTATION (R258). A forced commutation of the RAMP phase follows the previous one after T_i. -/
  | rampCommutation (x : Fin 8)
  /-- SSX_PHASE_TIMER (R255). The CATCH, BRAKE, ALIGN or RETRY time of the six-step unit expires and the phase changes. -/
  | ssxPhaseTimer (x : Fin 8)
  /-- GROUP_ENABLE (R268). A write of PWM_GCTL.EN from 0 to 1 arms a group to start at its start instant. -/
  | groupEnable (ag : Agent) (g : Fin 32) (v : Word)
  /-- GROUP_START (R268). The start instant arrives and the group's timebase begins at boundary B_0 with a commit of its shadows. -/
  | groupStart (g : Fin 32)
  /-- GROUP_DISABLE (R269). A write of EN = 0 zeroes the group's requests, empties its queues and fails its pending commits. -/
  | groupDisable (ag : Agent) (g : Fin 32) (v : Word)
  /-- PERIOD_BOUNDARY (R268). A period boundary B_n arrives, emitting PSTART and committing or failing requested commits. -/
  | periodBoundary (g : Fin 32)
  /-- PMID (R270). The mid-period instant arrives and the group emits PMID. -/
  | pmid (g : Fin 32)
  /-- SHADOW_SNAPSHOT (R282). At B_n − 100 ns the group takes a snapshot of its shadows for the coming commit. -/
  | shadowSnapshot (g : Fin 32)
  /-- PWM_LOADALL_WRITE (R282). A write of PWM_LOADALL requests a commit of the named groups. -/
  | pwmLoadallWrite (ag : Agent) (r : Fin 4) (v : Word)
  /-- CARRIER_EDGE (R272). A carrier reference edge at t_on or t_off changes a leg's requests. -/
  | carrierEdge (k : Fin 16) (p : Fin 3)
  /-- TABLE_EDGE (R273). A valid table entry's offset arrives and sets the leg reference level. -/
  | tableEdge (k : Fin 16) (p : Fin 3)
  /-- LIST_EDGE (R274). A queued edge's instant arrives and the output request takes its level. -/
  | listEdge (k : Fin 16) (i : Fin 6)
  /-- MIN_PULSE_RELEASE (R278). A change deferred by the minimum-pulse filter is applied once the pulse has lasted MINP. -/
  | minPulseRelease (k : Fin 16) (i : Fin 6)
  /-- DEAD_TIME_EXPIRY (R279). An output's turn-on delay after its partner turned off expires and it turns on if its input is still high. -/
  | deadTimeExpiry (k : Fin 16) (i : Fin 6)
  /-- MASK_INDEX_SET (R277). PWM_MCTL.SET sets the bridge's output mask index. -/
  | maskIndexSet (ag : Agent) (k : Fin 16) (v : Word)
  /-- GDL_ENABLE (R301). A write of GDL_CFG.EN from 0 to 1 puts the link in INIT. -/
  | gdlEnable (ag : Agent) (j : Fin 48) (v : Word)
  /-- GDL_INIT_RETRY (R301). INIT or DOWN repeats link initialisation every 100 µs until both sides reply correctly. -/
  | gdlInitRetry (j : Fin 48)
  /-- GDL_READ (R304). GDL_CMD with CMD READ issues a read transaction to a driver. -/
  | gdlRead (ag : Agent) (j : Fin 48) (sel : BitVec 2) (addr : BitVec 7)
  /-- GDL_WRITE (R304). GDL_CMD with CMD WRITE issues a write transaction to a driver. -/
  | gdlWrite (ag : Agent) (j : Fin 48) (sel : BitVec 2) (addr : BitVec 7) (data : Half)
  /-- CLRF (R307). GDL_CMD with CMD CLRF asks the driver to clear its latched fault. -/
  | clrf (ag : Agent) (j : Fin 48) (sel : BitVec 2)
  /-- GDL_NOP (R297). GDL_CMD with CMD NOP issues a no-operation transaction. -/
  | gdlNop (ag : Agent) (j : Fin 48) (sel : BitVec 2)
  /-- REPLY_FRAME (R298). A driver's reply frame ends a transaction, checked for CRC and echo. -/
  | replyFrame (j : Fin 48) (w : Word) (coded : Bool)
  /-- GDL_REPLY_TIMEOUT (R302). No start bit within 240 ns fails the transaction. -/
  | gdlReplyTimeout (j : Fin 48)
  /-- GDL_SILENCE_TIMEOUT (R302). No successful transaction for LTMO × 10 µs takes the link DOWN. -/
  | gdlSilenceTimeout (j : Fin 48)
  /-- STUCK_LINE (R295). A low lasting 400 ns or more is a stuck line and takes the link DOWN. -/
  | stuckLine (j : Fin 48)
  /-- FAULT_FRAME (R296). A driver's fault frame trips the bridge and records its side and kind. -/
  | faultFrame (j : Fin 48) (code : Option (Bool × Bool))
  /-- POLL_ROUND (R303). Every POLLPER µs the link reads its poll entries into the telemetry registers. -/
  | pollRound (j : Fin 48)
  /-- SCAN_START (R313). A converter starts the scan of its earliest ready waiting trigger. -/
  | scanStart (j : Fin 16)
  /-- ADC_RESULT (R318). A conversion result lands in ADC_RES with its flags and may notify the bound cell. -/
  | adcResult (j : Fin 16) (raw : BitVec 14) (above : Bool) (below : Bool)
  /-- REFRDY (R317). 50 µs after REFEN rises the reference buffer becomes ready. -/
  | refrdy (j : Fin 16)
  /-- DSM_OUTPUT (R327). After OSR modulator bits the sinc3 decimator delivers an output to DSM_RES. -/
  | dsmOutput (i : Fin 32) (bits : List Bool)
  /-- DSM_SYNC (R328). DSM_CTRL.SYNC synchronises the decimator at the next selected clock edge. -/
  | dsmSync (ag : Agent) (i : Fin 32)
  /-- DSM_ARM (R328). DSM_CTRL.ARM synchronises the decimator at the next PSTART of its group. -/
  | dsmArm (ag : Agent) (i : Fin 32)
  /-- STUCK_RUN (R330). STUCKN × 8 consecutive equal bits set DSM_STAT.STUCK. -/
  | stuckRun (i : Fin 32) (bits : List Bool)
  /-- COMPARATOR_OUTPUT_CHANGE (R338). A comparator output change held for FILT ticks is accepted, acting on trips, latches, capture, notification and the Sump. -/
  | comparatorOutputChange (c : Fin 64) (v : Int) (vref : Int) (vrefl : Int) (vrefh : Int) (held : Nat)
  /-- SETTLE_END (R337). A comparator's 500 ns settling time ends and crossings are assessed. -/
  | settleEnd (c : Fin 64) (v : Int) (vref : Int) (vrefl : Int) (vrefh : Int)
  /-- SAMPLED_EVALUATION (R344). A sampled comparator is evaluated 250 ns after every SPER-th tracker update. -/
  | sampledEvaluation (c : Fin 64) (v : Int) (vref : Int) (vrefl : Int) (vrefh : Int)
  /-- CHOPPER_TIMER (R348). The chopper's MINON or MINOFF time expires and the chopper follows CA.HI. -/
  | chopperTimer (r : Fin 4)
  /-- ENERGY_MODEL_UPDATE (R349). Every microsecond the Sump updates its resistor energy model and RESHOT. -/
  | energyModelUpdate (r : Fin 4)
  /-- EPISODE_END (R351). An OV1 episode ends after CA.HI has stayed 0 for RAMPT. -/
  | episodeEnd (r : Fin 4)
  /-- SUMP_DISCH (R352). SUMP_CTRL.DISCH requests active discharge if available. -/
  | sumpDisch (ag : Agent) (r : Fin 4) (v : Word)
  /-- DSTOP (R353). SUMP_CTRL.DSTOP ends a firmware discharge, or is refused for a Grotto discharge. -/
  | dstop (ag : Agent) (r : Fin 4)
  /-- DISCHARGE_PULSE_TIMER (R352). The DON or DOFF time of a pulsed discharge expires and the signal toggles. -/
  | dischargePulseTimer (r : Fin 4)
  /-- DISCHARGE_TIMEOUT (R353). A discharge not DONE within DTIME enters TIMEOUT, signals the Grotto and continues. -/
  | dischargeTimeout (r : Fin 4)
  /-- POS_SAMPLE (R363). A sin/cos or resolver sample is converted into a step and checked for amplitude and speed. -/
  | posSample (k : Fin 16) (sn : BitVec 12) (cs : BitVec 12) (neg : Bool)
  /-- EXCITATION_CHECK (R365). Over each excitation period the resolver excitation amplitude is checked. -/
  | excitationCheck (k : Fin 16) (amp : Nat)
  /-- QUAD_EDGE (R366). An accepted quadrature edge counts one step or a QERR fault. -/
  | quadEdge (k : Fin 16) (a : Bool) (b : Bool) (held : Nat)
  /-- REFERENCE_MARK (R367). A qualified PZ mark references or checks the interface phase. -/
  | referenceMark (k : Fin 16) (held : Nat)
  /-- HALL_EDGE (R368). An accepted Hall code change steps the sector or raises HINV or HSEQ. -/
  | hallEdge (k : Fin 16) (h : BitVec 3) (held : Nat)
  /-- SSI_FRAME_START (R369). At an allowed tracker update the interface starts an SSI frame. -/
  | ssiFrameStart (k : Fin 16)
  /-- SSI_FRAME_END (R369). An SSI frame ends and its value is kept or discarded. -/
  | ssiFrameEnd (k : Fin 16) (first : Bool) (value : Word) (again : Word) (check : Bool)
  /-- POS_SET (R360). POS_CMD.SET loads CNT and Φ from POS_SETV. -/
  | posSet (ag : Agent) (k : Fin 16)
  /-- ZARM (R367). POS_CMD.ZARM takes the next mark as reference. -/
  | zarm (ag : Agent) (k : Fin 16)
  /-- POS_ARM (R376). POS_CMD.ARM arms the compare table from its start. -/
  | posArm (ag : Agent) (k : Fin 16)
  /-- COMPARE_PULSE_END (R377). A compare pulse ends after PW fabric ticks. -/
  | comparePulseEnd (k : Fin 16) (one : Bool)
  /-- DIVIDER_STEP (R375). The divider issues one backlog step no closer than OSEP ticks to the previous one. -/
  | dividerStep (k : Fin 16)
  /-- ASC_DEAD_TIME_EXPIRY (R382). The ASC dead time expires and the outputs that the safe state turns on switch on. -/
  | ascDeadTimeExpiry (k : Fin 16)
  /-- ORDER_REFRESH_TIMEOUT (R391). The safety column fails to refresh its order register within 10 µs and the sequencer forces hardwired STO. -/
  | orderRefreshTimeout
  /-- LOCKSTEP_MISMATCH (R407). A column comparator mismatch, parity or rail fault halts the column. -/
  | lockstepMismatch (i : Fin 6) (cause : Fin 3)
  /-- ASYNC_MISMATCH (R408). An asynchronous input difference persisting beyond 3 cycles halts the column with ASYNC. -/
  | asyncMismatch (i : Fin 6) (persists : Bool)
  /-- INJECTION_PASS (R411). Every 100 ms a pass of 32 comparator injections runs, halting on an unreported injection. -/
  | injectionPass (i : Fin 6) (reported : Word)
  /-- CONFIRMED_ALIAS_READ (R409). A read of a confirmed alias waits for both synchronisers to agree and returns the agreed value. -/
  | confirmedAliasRead (c : Fin 5) (rd : BitVec 5) (wake : Bool) (agreed : Bool)
  /-- DOORBELL (R394). A write of GRT_DOORBELL submits the slot's mailbox request to the Grotto. -/
  | doorbell (ag : Agent) (k : Fin 5)
  /-- MAILBOX_REPLY (R394). The Grotto answers a mailbox request in the reply slot and raises the column's reply source. -/
  | mailboxReply (k : Fin 5)
  /-- SS1 (R421). The SS1 request raises an SS1 demand on the named axes. -/
  | ss1 (k : Fin 5)
  /-- STO (R420). The STO request raises an STO demand on the named axes. -/
  | sto (k : Fin 5)
  /-- RELEASE (R420). The RELEASE request takes the named axes out of STO unless a cause or demand persists. -/
  | release (k : Fin 5)
  /-- CLRFLT (R384). The CLRFLT request clears fault-log causes that no longer persist. -/
  | clrflt (k : Fin 5)
  /-- DISCH (R394). The DISCH request asks the Sumps of named regions to discharge. -/
  | disch (k : Fin 5)
  /-- PWRREQ (R560). The PWRREQ request asks the Grotto to consent to PARK or KEEP. -/
  | pwrreq (k : Fin 5)
  /-- OPEN (R446). PARAM OPEN opens the safety lock when every axis is in STO. -/
  | openSession (k : Fin 5)
  /-- PARAM_WRITE (R446). PARAM WRITE writes words of the safety parameter set. -/
  | paramWrite (k : Fin 5)
  /-- CHECK (R446). PARAM CHECK validates the set and computes its CCV. -/
  | check (k : Fin 5)
  /-- CONFIRM (R446). PARAM CONFIRM builds the confirmation record and closes the lock. -/
  | confirm (k : Fin 5)
  /-- LOADCONF (R446). PARAM LOADCONF validates the set and record, sets CCVOK and closes the lock. -/
  | loadconf (k : Fin 5)
  /-- CLOSE (R446). PARAM CLOSE closes the lock and compares the set with the record in force. -/
  | close (k : Fin 5)
  /-- PARAM_READ (R446). PARAM READ returns words of the parameter set. -/
  | paramRead (k : Fin 5)
  /-- HEARTBEAT_TIMEOUT (R395). A heartbeat channel with no delivery within HBPER + HBTOL is a fault of entry 8. -/
  | heartbeatTimeout (c : Fin 256)
  /-- CLOCK_MONITOR (R396). Every 10 µs the Grotto counts the reference and fabric clocks against its own. -/
  | clockMonitor (ref : Nat) (fab : Option Nat) (genA : BitVec 4) (genB : BitVec 4)
  /-- SUPPLY_FAULT (R396). A rail outside its Grotto window for 5 µs is a fault of entry 17. -/
  | supplyFault (rail : Fin 8) (mv : Int) (held : Nat)
  /-- TAP_SAMPLE (R397). A Grotto position tap sample updates the Grotto angle and detects tap faults. -/
  | tapSample (k : Fin 16) (sn : BitVec 12) (cs : BitVec 12) (pz : Bool)
  /-- TORQUE_MONITOR_SLICE (R398). In each axis slice the Grotto converts currents and link, computes torque and runs its checks and safety functions. -/
  | torqueMonitorSlice (x : Fin 8) (iar : BitVec 12) (ibr : BitVec 12) (iap : BitVec 12) (ibp : BitVec 12) (vdc : BitVec 12) (t0 : Half) (t1 : Half)
  /-- ASC_EXIT (R403). Speed below NASC − NHYS for 10 ms moves an axis from ASC to STO. -/
  | ascExit (x : Fin 8)
  /-- DISCHARGE_REQUEST (R403). After TREST at rest in STO the Grotto requests discharge from the link's Sumps. -/
  | dischargeRequest (l : Fin 8)
  /-- ENVELOPE_TIMEOUT (R400). No valid cross-link frame for ENVTMO puts the axis on its fallback envelope. -/
  | envelopeTimeout (x : Fin 8)
  /-- GROTTO_INIT_COMPLETE (R418). After injections, SRAM test and CCV comparison the Grotto leaves INIT for SAFE. -/
  | grottoInitComplete (inj : Bool) (sram : Bool)
  /-- CCV_CHECK (R443). Every 100 ms while CLOSED the Grotto recomputes the CCV and orders STO on a difference. -/
  | ccvCheck (hit : Option (Fin 16384 × Word))
  /-- SAFE_INPUT_CHANGE (R426). A safe-input level held for DEB is accepted and updates the pair's state and demand. -/
  | safeInputChange (i : Fin 32) (lvl : Bool) (held : Nat)
  /-- TEST_PULSE (R427). A test-pulse window ends and the channels wired through it are checked. -/
  | testPulse (t : Fin 8) (lows : Word)
  /-- DISCREPANCY_TIMEOUT (R429). Disagreement longer than DISC moves the pair to FAULT. -/
  | discrepancyTimeout (k : Fin 16)
  /-- XL_FRAME_RECEIVED (R435). A received cross-link frame is checked and, if accepted, applies its requests and envelopes. -/
  | xlFrameReceived (k : Fin 4) (f : List Byte) (bad : Bool)
  /-- XL_STATUS_SEND (R435). Every PERIOD µs an enabled cross link sends a STATUS frame. -/
  | xlStatusSend (k : Fin 4)
  /-- XL_TIMEOUT (R435). No accepted frame for TMO takes the link DOWN and applies its reaction. -/
  | xlTimeout (k : Fin 4)
  /-- CSRR (R453). CSRR reads a CSR. -/
  | csrr (p : Proc) (gd : BitVec 3) (rd : BitVec 5) (ra : BitVec 5) (imm : BitVec 13)
  /-- CSRW (R453). CSRW reads and writes a CSR. -/
  | csrw (p : Proc) (gd : BitVec 3) (rd : BitVec 5) (ra : BitVec 5) (imm : BitVec 13)
  /-- CSRS (R453). CSRS reads a CSR and sets bits. -/
  | csrs (p : Proc) (gd : BitVec 3) (rd : BitVec 5) (ra : BitVec 5) (imm : BitVec 13)
  /-- CSRC (R453). CSRC reads a CSR and clears bits. -/
  | csrc (p : Proc) (gd : BitVec 3) (rd : BitVec 5) (ra : BitVec 5) (imm : BitVec 13)
  /-- CURCH_WRITE (R466). A write of CURCH selects the column's chamber if permitted, else raises ACCESS. -/
  | curchWrite (p : Proc) (gd : BitVec 3) (rd : BitVec 5) (ra : BitVec 5)
  /-- SWI (R452). A write of SWI raises the software interrupt in the named columns. -/
  | swi (p : Proc) (gd : BitVec 3) (rd : BitVec 5) (ra : BitVec 5)
  /-- INTERRUPT_ENTRY (R456). A column takes a qualified interrupt source at a boundary and enters its handler. -/
  | interruptEntry (p : Proc)
  /-- CACHE_INVALIDATE_LINE (R462). CACHE FN 0x00 invalidates a data line. -/
  | cacheInvalidateLine (p : Proc) (gd : BitVec 3) (rd : BitVec 5) (ra : BitVec 5) (rb : BitVec 5)
  /-- CACHE_WRITEBACK_LINE (R462). CACHE FN 0x01 writes back a dirty data line. -/
  | cacheWritebackLine (p : Proc) (gd : BitVec 3) (rd : BitVec 5) (ra : BitVec 5) (rb : BitVec 5)
  /-- CACHE_FLUSH_LINE (R462). CACHE FN 0x02 writes back and invalidates a data line. -/
  | cacheFlushLine (p : Proc) (gd : BitVec 3) (rd : BitVec 5) (ra : BitVec 5) (rb : BitVec 5)
  /-- CACHE_INVALIDATE_ILINE (R462). CACHE FN 0x03 invalidates an instruction line. -/
  | cacheInvalidateIline (p : Proc) (gd : BitVec 3) (rd : BitVec 5) (ra : BitVec 5) (rb : BitVec 5)
  /-- CACHE_FLUSH_DATA (R462). CACHE FN 0x04 writes back and invalidates the whole data cache. -/
  | cacheFlushData (p : Proc) (gd : BitVec 3) (rd : BitVec 5) (ra : BitVec 5) (rb : BitVec 5) (most : BitVec 10)
  /-- CACHE_INVALIDATE_INSTR (R462). CACHE FN 0x05 invalidates the whole instruction cache. -/
  | cacheInvalidateInstr (p : Proc) (gd : BitVec 3) (rd : BitVec 5) (ra : BitVec 5) (rb : BitVec 5)
  /-- BMOV (R460). BMOV copies words between byte addresses. -/
  | bmov (p : Proc) (gd : BitVec 3) (rd : BitVec 5) (ra : BitVec 5) (rb : BitVec 5) (most : BitVec 16)
  /-- BMOV_FILL (R460). BMOV FN 0x01 writes one source word to every destination word. -/
  | bmovFill (p : Proc) (gd : BitVec 3) (rd : BitVec 5) (ra : BitVec 5) (rb : BitVec 5) (most : BitVec 16)
  /-- SAVEM (R460). SAVEM stores a range of registers. -/
  | savem (p : Proc) (gd : BitVec 3) (rd : BitVec 5) (ra : BitVec 5) (rb : BitVec 5) (fn : Byte) (most : BitVec 6)
  /-- RESTM (R460). RESTM loads a range of registers. -/
  | restm (p : Proc) (gd : BitVec 3) (rd : BitVec 5) (ra : BitVec 5) (rb : BitVec 5) (fn : Byte) (most : BitVec 6)
  /-- WFI (R459). WFI sleeps the column until an interrupt source would qualify. -/
  | wfi (p : Proc) (gd : BitVec 3) (rd : BitVec 5) (ra : BitVec 5) (rb : BitVec 5) (fn : Byte)
  /-- CHAMBER_CREATE (R466). A write of ACTIVE = 1 to a FREE chamber creates it. -/
  | chamberCreate (ag : Agent) (c : Fin 16) (v : Word)
  /-- CHAMBER_DELETE (R466). A write of ACTIVE = 0 deletes a chamber that owns nothing, or is refused. -/
  | chamberDelete (ag : Agent) (c : Fin 16) (v : Word)
  /-- ASSIGN (R467). A write of FAB_ASN_CMD moves every unit of the range to the new owner, or moves nothing. -/
  | assign (ag : Agent) (kind : BitVec 5) (c : Fin 16)
  /-- ASSIGN_FREE (R468). FAB_ASN_CMD with FREE set makes crossbar slots unowned. -/
  | assignFree (ag : Agent) (kind : BitVec 5)
  /-- FAB_QUERY (R642). A write of FAB_QUERY returns the owner of one unit in FAB_QUERY_RES. -/
  | fabQuery (ag : Agent) (kind : BitVec 5) (i : Half)
  /-- ABORT_CELL (R471). FAB_ABORT of a logical cell stops it and ends its events with ABORTED. -/
  | abortCell (ag : Agent) (t : Half)
  /-- ABORT_BLOCK (R471). FAB_ABORT of a block aborts its running cells, copies and scheduler channels. -/
  | abortBlock (ag : Agent) (t : Half)
  /-- ABORT_LINK (R471). FAB_ABORT of a link ends its transaction in progress with ABORTED. -/
  | abortLink (ag : Agent) (t : Half)
  /-- ABORT_REGION (R471). FAB_ABORT of a region aborts its blocks, crossbar transactions and peripherals. -/
  | abortRegion (ag : Agent) (t : Half)
  /-- ABORT_CHAMBER (R471). FAB_ABORT of a chamber aborts everything it owns, its events and its transactions. -/
  | abortChamber (ag : Agent) (t : Half)
  /-- ABORT_COMPLETE (R472). An abort completes, or its units are forced at the bound, and FAB_ABORT_RES reports. -/
  | abortComplete (late : Byte)
  /-- COLUMN_WATCHDOG_EXPIRY (R476). A column watchdog expires without a kick, setting WDTEXP. -/
  | columnWatchdogExpiry (c : Fin 5)
  /-- COLKICK (R476). A write of SYSCTL_COLKICK restarts the column watchdog. -/
  | colkick (ag : Agent) (c : Fin 5) (v : Word)
  /-- COLUMN_RESET (R477). SYSCTL_COLCTL.RST stops, resets and injects a region column. -/
  | columnReset (ag : Agent) (c : Fin 5)
  /-- COLUMN_RESTART (R477). The reset region column executes its first instruction at SYSCTL_COLBOOT and redirection ends. -/
  | columnRestart (c : Fin 4)
  /-- ECHO_DATA (R491). A received DATA frame is forwarded or consumed into its destination ring, with an ACK if requested. -/
  | echoData (k : Fin 4) (l : List Byte) (ago : Nat) (bad : Bool) (eccBad : Bool)
  /-- ECHO_ACK (R492). A received ACK ends the matching send with its status. -/
  | echoAck (k : Fin 4) (l : List Byte) (bad : Bool)
  /-- TT_SYNC (R495). A received TT_SYNC is answered with a TT_RESP carrying t2 and t3. -/
  | ttSync (k : Fin 4) (l : List Byte) (bad : Bool) (ago : Nat) (lead : Nat)
  /-- TT_RESP (R496). A received TT_RESP yields the offset and path delay, and a servo sample on EPORT. -/
  | ttResp (k : Fin 4) (l : List Byte) (bad : Bool) (ago : Nat)
  /-- ECHO_BREAK (R485). A BREAK frame updates the break map and is forwarded. -/
  | echoBreak (k : Fin 4) (l : List Byte) (bad : Bool) (seg : Fin 64)
  /-- MEND (R485). A MEND frame clears a segment from the break map and is forwarded. -/
  | mend (k : Fin 4) (l : List Byte) (bad : Bool) (seg : Fin 64)
  /-- TT_SYNC_SEND (R495). Every TTPER ms an initiating port sends a TT_SYNC. -/
  | ttSyncSend (k : Fin 4) (lead : Nat)
  /-- TT_TIMEOUT (R496). A TT_RESP not received within 100 µs sets TTLOST. -/
  | ttTimeout (k : Fin 4)
  /-- PORT_UP (R481). Synchronisation held for 100 µs brings an Echo port UP and a MEND is sent. -/
  | portUp (k : Fin 4) (held : Bool)
  /-- PORT_DOWN (R481). Loss of synchronisation takes an Echo port DOWN and a BREAK is sent. -/
  | portDown (k : Fin 4)
  /-- ECHO_SLOT_TRANSMIT (R487). In each 256 ns slot a port sends the oldest waiting frame of the owning or borrowing class. -/
  | echoSlotTransmit (k : Fin 4)
  /-- ACK_TIMEOUT (R492). No ACK within ACKTMO ends the send with TIMEOUT. -/
  | ackTimeout
  /-- ETH_FRAME_RECEIVED (R498). A received Ethernet frame is filtered and written into its queue ring or dropped. -/
  | ethFrameReceived (k : Fin 4) (l : List Byte) (ago : Nat)
  /-- ETH_TRANSMIT (R500). A transmit slot sends the next frame of its queue and reports its outcome. -/
  | ethTransmit (k : Fin 4) (lead : Nat)
  /-- ETH_LINK_CHANGE (R504). A change of the in-band link status sets LINKEV. -/
  | ethLinkChange (k : Fin 4) (up : Bool) (speed : BitVec 2)
  /-- MDIO_TRANSACTION (R497). A write of ETH_MDIO starts an MDIO transaction. -/
  | mdioTransaction (ag : Agent) (v : Word)
  /-- MDIO_DONE (R497). An MDIO transaction ends and BUSY falls. -/
  | mdioDone (data : Half)
  /-- CAN_FRAME_RECEIVED (R511). A valid CAN frame is filtered and written into its ring or discarded. -/
  | canFrameReceived (k : Fin 8) (f : CanFrame) (ago : Nat)
  /-- CAN_REQ (R514). CAN_TXBk_CTL.REQ makes a transmit buffer pending. -/
  | canReq (ag : Agent) (k : Fin 8) (b : Fin 3) (v : Word)
  /-- CAN_ABORT (R517). CAN_TXBk_CTL.ABORT ends a pending buffer or marks the frame on the bus to end. -/
  | canAbort (ag : Agent) (k : Fin 8) (b : Fin 3) (v : Word)
  /-- TX_SELECTION (R515). At a selection point the controller selects a pending buffer and starts its frame. -/
  | txSelection (k : Fin 8)
  /-- CAN_TX_END (R517). A transmitted frame succeeds, loses arbitration or meets an error, ending or returning to selection. -/
  | canTxEnd (k : Fin 8) (how : CanEnd)
  /-- RECOVER (R518). CAN_CTRL.RECOVER begins bus-off recovery. -/
  | recover (ag : Agent) (k : Fin 8) (v : Word)
  /-- BUS_OFF_RECOVERY (R518). 128 occurrences of 11 recessive bits return the controller to error-active. -/
  | busOffRecovery (k : Fin 8)
  /-- SPI_TXD_WRITE (R521). A write of SPI_TXD pushes a word for a host transfer. -/
  | spiTxdWrite (ag : Agent) (k : Fin 4) (v : Word)
  /-- SPI_WORD_DONE (R521). A host SPI word is shifted and the received word enters the FIFO. -/
  | spiWordDone (k : Fin 4) (miso : Word)
  /-- SPI_TARGET_WRITE (R522). A target WRITE frame writes words into the system SRAM window. -/
  | spiTargetWrite (off : BitVec 24) (data : List Byte)
  /-- SPI_TARGET_READ (R522). A target READ frame returns words from the window. -/
  | spiTargetRead (off : BitVec 24) (n : Nat)
  /-- SPI_TARGET_STATUS (R522). A target STATUS frame returns ERR, BUSY and the frame count. -/
  | spiTargetStatus
  /-- SPI_CS_RISE (R523). The rise of CS ends a target frame, discarding a partial word and setting TWDONE when writes are acknowledged. -/
  | spiCsRise (unknown : Bool)
  /-- XSPI_CMD (R525). A write of XSPI_CMD issues an indirect flash operation. -/
  | xspiCmd (ag : Agent) (v : Word)
  /-- XSPI_DONE (R525). An indirect flash operation ends and DONE is set. -/
  | xspiDone (data : List Byte) (timeout : Bool)
  /-- UART_TXD_WRITE (R526). A write of UART_TXD pushes a byte for transmission. -/
  | uartTxdWrite (ag : Agent) (k : Fin 2) (v : Word)
  /-- UART_RX_BYTE (R526). A received character enters the FIFO with its errors, or is discarded on overrun. -/
  | uartRxByte (k : Fin 2) (b : Byte) (fe : Bool) (pe : Bool) (brk : Bool)
  /-- I2C_CMD (R527). A write of I2C_CMD performs a START, one byte and an optional STOP. -/
  | i2cCmd (ag : Agent) (k : Fin 2) (v : Word)
  /-- I2C_DONE (R527). An I2C command ends with DONE, NACKED or ARBLOST. -/
  | i2cDone (k : Fin 2) (how : I2cEnd)
  /-- I2C_TIMEOUT (R527). SCL held low for 25 ms ends the command with TMO and releases the bus. -/
  | i2cTimeout (k : Fin 2)
  /-- GPIO_SET (R528). A write of GPIO_SET sets OUT bits of owned pins. -/
  | gpioSet (ag : Agent) (v : Word)
  /-- GPIO_CLR (R528). A write of GPIO_CLR clears OUT bits of owned pins. -/
  | gpioClr (ag : Agent) (v : Word)
  /-- GPIO_INPUT_CHANGE (R529). A filtered GPIO input change updates GPIO_IN and sets EV if selected. -/
  | gpioInputChange (n : Fin 16) (level : Bool) (held : Nat)
  /-- PIN_PULSE_END (R530). WIDTH firing ticks after a PIN high pulse, the OUT bit is cleared. -/
  | pinPulseEnd (n : Fin 16)
  /-- AVS_WRITE_VOLTAGE (R533). AVS_REQ OP 0b00 widens the Grotto window and sends a voltage write to the regulator. -/
  | avsWriteVoltage (ag : Agent) (k : Fin 2) (v : Word)
  /-- AVS_READ_VOLTAGE (R532). AVS_REQ OP 0b01 reads the regulator voltage. -/
  | avsReadVoltage (ag : Agent) (k : Fin 2) (v : Word)
  /-- AVS_READ_STATUS (R532). AVS_REQ OP 0b10 reads the regulator Status. -/
  | avsReadStatus (ag : Agent) (k : Fin 2) (v : Word)
  /-- AVS_STATUS_POLL (R533). Every 10 µs the controller reads Status until VDone ends the request with OK. -/
  | avsStatusPoll (k : Fin 2)
  /-- AVS_RESEND (R533). After an acknowledge of 0b01 the write frame is sent again 10 µs later. -/
  | avsResend (k : Fin 2)
  /-- AVS_TIMEOUT (R533). A voltage request not OK within 2 ms ends with TIMEOUT. -/
  | avsTimeout (k : Fin 2)
  /-- SENSOR_ROUND (R536). Every 100 µs the die sensors are read, judged, and TDIE and the thresholds evaluated. -/
  | sensorRound (t : Vector Half 24)
  /-- HALT (R540). Once every axis is in STO after an orderly stop, cells stop, region columns are held and Drip stops. -/
  | halt
  /-- SERVICE_WRITE (R538). A write of THERM_CTRL.SERVICE enters or leaves service, discarded while LATCH is set. -/
  | serviceWrite (ag : Agent) (v : Word)
  /-- CURRENT_ESTIMATE (R544). Every 10 µs the core current is estimated and the throttle level adjusted. -/
  | currentEstimate (c : Nat) (q : Nat) (d : Nat)
  /-- LANTERN_STEP (R546). Every 10 µs the Lantern computes losses, junction temperatures, bridge steps and limits. -/
  | lanternStep (r : Fin 4)
  /-- DOZE (R562). PWR_CTRL.REQ for DOZE waits for quiescence to stop the cell and column clock trees. -/
  | doze (ag : Agent)
  /-- KEEP (R567). PWR_CTRL.REQ for KEEP starts the entry sequence, keeping the Grotto running. -/
  | keep (ag : Agent)
  /-- QUIESCENCE (R562). Quiescence is reached and the clock trees stop, completing DOZE entry or passing abort point A2. -/
  | quiescence
  /-- QUIESCENCE_TIMEOUT (R562). Quiescence not reached within QTMO ends the request with TIMEOUT or abandons entry. -/
  | quiescenceTimeout
  /-- ENTRY_DRAIN (R567). Posted writes drain and the Grotto confirms STO, passing A3 and A4. -/
  | entryDrain
  /-- ENTRY_COMMIT (R567). At A4 + 120 ns entry commits, retention is saved and the power switches open. -/
  | entryCommit
  /-- ENTRY_COMPLETE (R570). The 550 mV retention request ends and entry is complete. -/
  | entryComplete
  /-- DOZE_EXIT (R563). An exit request restarts the cell and column clock trees. -/
  | dozeExit
  /-- CONSENT_EXPIRY (R560). The Grotto's consent line falls 10 ms after it was raised. -/
  | consentExpiry
  /-- WAKE_SAMPLE (R564). A wake comparator samples its ball and moves its output and latch. -/
  | wakeSample (k : Fin 8) (v : Int)
  /-- WAKE (R571). A level wake is accepted in PARK or KEEP and the device requests the running voltage. -/
  | wake
  /-- WAKE_POWER_UP (R571). The running voltage is acknowledged and the power switches close. -/
  | wakePowerUp
  /-- WAKE_PLL_LOCK (R571). The fabric PLL locks, retention is restored and execution resumes. -/
  | wakePllLock (levels : BitVec 16)
  /-- WAKE_FAILURE (R572). A failed regulator request or PLL lock returns to retention, drives FAULT# and counts a try. -/
  | wakeFailure
  /-- WAKE_RETRY (R572). 100 ms after a failed wake the wake is retried from its voltage request. -/
  | wakeRetry
  /-- POWER_ON_RESET (R576). PORST# low resets the whole device including the Grotto. -/
  | powerOnReset
  /-- SUPPLY_MONITOR_RESET (R621). A core, SRAM or I/O supply below its monitor threshold causes a power-on reset that spares the Grotto. -/
  | supplyMonitorReset (rail : Fin 3) (mv : Nat)
  /-- GROTTO_RESET (R576). The VDD_GROTTO monitor holds the Grotto in reset with every output off. -/
  | grottoReset (mv : Nat)
  /-- COLD_RESET (R576). SYSCTL_RSTCTL.COLD causes a cold reset. -/
  | coldReset (ag : Agent)
  /-- WARM_RESET (R576). SYSCTL_RSTCTL.WARM causes a warm reset. -/
  | warmReset (ag : Agent)
  /-- WRST (R579). A low on WRST# of at least 1 µs causes a warm reset. -/
  | wrst (low : Nat)
  /-- COLH_HALT_RESET (R579). With HALTWARM set, a warm reset follows a COLH halt or stop by 100 µs. -/
  | colhHaltReset
  /-- RESET_RELEASE (R578). The internal reset ends 10 µs after its last cause and start-up begins. -/
  | resetRelease (mode : BitVec 2) (testen : Bool)
  /-- SELF_TEST_WAVE (R590). A wave of the start-up self-test runs and records any first failure. -/
  | selfTestWave (bad : Option (Byte × Bool × Byte))
  /-- BOOT (R583). The boot ROM authenticates and loads an image, raises BOOTOK and jumps to ENTRY, or fails. -/
  | boot (prim : Option (List Byte)) (sec : Option (List Byte))
  /-- NEWCHAL (R586). DBG_CTRL.NEWCHAL asks for a fresh debug nonce. -/
  | newchal (ag : Agent)
  /-- NONCE_READY (R586). The fresh nonce is placed in DBG_CHAL and NONCEV is set. -/
  | nonceReady (nonce : BitVec 256)
  /-- DBG_SUBMIT (R586). DBG_CTRL.SUBMIT submits a signed response for verification. -/
  | dbgSubmit (ag : Agent) (level : BitVec 2) (kslot : Bool)
  /-- DBG_DECISION (R587). The debug response is accepted, unlocking the level, or refused and counted toward BLOCKED. -/
  | dbgDecision
  /-- DRIP_SLICE (R594). A Drip lane tests one slice of 1 KiB with the complement pattern and reports failed words. -/
  | dripSlice (k : Fin 6) (fails : List Nat)
  /-- TAP_RESET (R611). TRST#, five TMS-high edges or a power-on reset put the TAP in Test-Logic-Reset. -/
  | tapReset
  /-- EXTEST (R613). EXTEST drives balls from the update cells in board-test mode. -/
  | extest (balls : BitVec 418) (cells : BitVec 1254)
  /-- IDCODE (R614). IDCODE selects the device identification register. -/
  | idcode
  /-- SAMPLE_PRELOAD (R613). SAMPLE/PRELOAD captures ball levels without changing any ball. -/
  | samplePreload (balls : BitVec 418) (cells : BitVec 1254)
  /-- CLAMP (R613). CLAMP holds balls from the update cells with BYPASS selected. -/
  | clamp
  /-- HIGHZ (R613). HIGHZ sets every output and IO ball to high impedance. -/
  | highz
  /-- EXTEST_PULSE (R613). EXTEST_PULSE performs IEEE 1149.6 tests on ETH and ECHO transmitters. -/
  | extestPulse (balls : BitVec 418) (cells : BitVec 1254)
  /-- EXTEST_TRAIN (R613). EXTEST_TRAIN performs IEEE 1149.6 train tests on ETH and ECHO transmitters. -/
  | extestTrain (balls : BitVec 418) (cells : BitVec 1254)
  /-- DEBUG (R613). DEBUG selects the DBGACC register when TESTEN was sampled 0. -/
  | debug
  /-- BYPASS (R613). BYPASS selects the one-bit bypass register. -/
  | bypass
  /-- DBGACC_ACCESS (R616). Update-DR of DBGACC starts a 32-bit fabric access as the debug agent. -/
  | dbgaccAccess (rnw : Bool) (addr : Word) (data : Word)
  /-- TIMER_COMPARE (R454). TIME reaches TMRCMP and the column's timer source 0x3C becomes pending, ending WFI or DOZE. -/
  | timerCompare (i : Fin 6)
  /-- RAMP_LIMIT_EXPIRY (R351). RAMPT after the start of an OV1 episode, with CA.HI still 1, RAMPTO is set and reported. -/
  | rampLimitExpiry (r : Fin 4)
  /-- CAN_RECEIVE_ERROR (R507). An error detected on a frame being received raises the receive error counter, sets LEC and may make the controller error-passive. -/
  | canReceiveError (k : Fin 8) (code : Fin 7) (eight : Bool)
  /-- UART_TX_BYTE_DONE (R526). A UART character finishes leaving the transmitter, and TXE is set when the FIFO has emptied. -/
  | uartTxByteDone (k : Fin 2)
  /-- AVS_FRAME_END (R533). An AVSBus frame ends and the regulator's acknowledge or read data decides whether the request goes on, resends or ends. -/
  | avsFrameEnd (k : Fin 2) (ack : BitVec 2) (data : Half) (vdone : Bool)
  deriving DecidableEq, Repr

end Sys2Proof
end

