-- ==== Sys2Proof/Decode.lean ====
section
/-! DEFINITION. Words that spell commands. The device is a block: no row of its table of operations gives a word bits (each row's
list of fields is empty), so no word spells a command. -/

namespace Sys2Proof

/-- The command that a word of the table spells: none, because no row of the table has bits. -/
def decodeTableWord (_nbits _w : Nat) : Option Instr := none

end Sys2Proof
end

