-- ==== Sys2Proof/Machine/RegDef.lean ====
section
/-! DEFINITION. How a register family of the register map is described: its addresses, its fields, their access types
and its reset values. -/

namespace Sys2Proof.Machine

/-- A field of a register, bits `[hi:lo]`. -/
structure Fld where
  hi : Nat
  lo : Nat
  deriving DecidableEq, Repr

/-- The access types of R6. `st` is RW and static: writable only while the unit is disabled. -/
inductive Acc
  | rw | ro | wo | w1c | rc | rws | st
  deriving DecidableEq, Repr

/-- A register family: one register, or an array of them over up to three strides. -/
structure RegFam where
  /-- The register's name in the spec. -/
  name  : String
  /-- Fabric byte address of instance 0. -/
  base  : Nat
  /-- Count and byte stride of each index, the slowest first. -/
  dims  : List (Nat × Nat)
  /-- Reset value of instance `i` (R8: the value after a power-on reset). -/
  reset : Nat → Word
  /-- The fields that are not reserved, with their access types. -/
  flds  : List (Fld × Acc)
  /-- One copy of the register per agent. -/
  perAgent : Bool := false

end Sys2Proof.Machine
end

