-- ==== Sys2Proof/Machine/RegMapChip.lean ====
section
/-! DEFINITION. Register families of the chip memory map, chapters 00, 01, 02, 03, 06: names, addresses, fields, access types and
reset values as the register tables of the spec give them. -/

namespace Sys2Proof.Machine

abbrev SYSCTL_DEVID_STEP_MAJ : Fld := ⟨31, 28⟩
abbrev SYSCTL_DEVID_STEP_MIN : Fld := ⟨27, 24⟩
abbrev SYSCTL_DEVID_PART : Fld := ⟨23, 8⟩
abbrev SYSCTL_DEVID_FLOW : Fld := ⟨7, 4⟩
/-- SYSCTL_DEVID (00_scope.md, line 33). -/
def SYSCTL_DEVID : RegFam :=
  { name := "SYSCTL_DEVID", base := 0x40000000, dims := [], reset := fun _ => if Config.extendedFlow then 0x10489620 else 0x10489610,
    flds := [(SYSCTL_DEVID_STEP_MAJ, .ro), (SYSCTL_DEVID_STEP_MIN, .ro), (SYSCTL_DEVID_PART, .ro), (SYSCTL_DEVID_FLOW, .ro)] }

abbrev FAB_ERR_STAT_OVF : Fld := ⟨31, 31⟩
abbrev FAB_ERR_STAT_COUNT : Fld := ⟨4, 0⟩
/-- FAB_ERR_STAT (01_architecture.md, line 271). -/
def FAB_ERR_STAT : RegFam :=
  { name := "FAB_ERR_STAT", base := 0x40050000, dims := [], reset := fun _ => 0x00000000,
    flds := [(FAB_ERR_STAT_OVF, .w1c), (FAB_ERR_STAT_COUNT, .ro)] }

abbrev FAB_ERR_INFO_STATUS : Fld := ⟨31, 24⟩
abbrev FAB_ERR_INFO_CHAMBER : Fld := ⟨23, 20⟩
abbrev FAB_ERR_INFO_LEVEL : Fld := ⟨19, 18⟩
abbrev FAB_ERR_INFO_KIND : Fld := ⟨17, 16⟩
abbrev FAB_ERR_INFO_SOURCE : Fld := ⟨15, 8⟩
abbrev FAB_ERR_INFO_VALID : Fld := ⟨0, 0⟩
/-- FAB_ERR_INFO (01_architecture.md, line 279). -/
def FAB_ERR_INFO : RegFam :=
  { name := "FAB_ERR_INFO", base := 0x40050004, dims := [], reset := fun _ => 0x00000000,
    flds := [(FAB_ERR_INFO_STATUS, .ro), (FAB_ERR_INFO_CHAMBER, .ro), (FAB_ERR_INFO_LEVEL, .ro), (FAB_ERR_INFO_KIND, .ro),
      (FAB_ERR_INFO_SOURCE, .ro), (FAB_ERR_INFO_VALID, .ro)] }

abbrev FAB_ERR_ADDR_ADDR : Fld := ⟨31, 0⟩
/-- FAB_ERR_ADDR (01_architecture.md, line 302). -/
def FAB_ERR_ADDR : RegFam :=
  { name := "FAB_ERR_ADDR", base := 0x40050008, dims := [], reset := fun _ => 0x00000000,
    flds := [(FAB_ERR_ADDR_ADDR, .ro)] }

abbrev FAB_ERR_TIME_NS : Fld := ⟨31, 0⟩
/-- FAB_ERR_TIME (01_architecture.md, line 308). -/
def FAB_ERR_TIME : RegFam :=
  { name := "FAB_ERR_TIME", base := 0x4005000C, dims := [], reset := fun _ => 0x00000000,
    flds := [(FAB_ERR_TIME_NS, .ro)] }

abbrev FAB_ERR_POP_POP : Fld := ⟨0, 0⟩
/-- FAB_ERR_POP (01_architecture.md, line 314). -/
def FAB_ERR_POP : RegFam :=
  { name := "FAB_ERR_POP", base := 0x40050010, dims := [], reset := fun _ => 0x00000000,
    flds := [(FAB_ERR_POP_POP, .wo)] }

abbrev FAB_ERR_DROP_DROPPED : Fld := ⟨31, 0⟩
/-- FAB_ERR_DROP (01_architecture.md, line 321). -/
def FAB_ERR_DROP : RegFam :=
  { name := "FAB_ERR_DROP", base := 0x40050014, dims := [], reset := fun _ => 0x00000000,
    flds := [(FAB_ERR_DROP_DROPPED, .rc)] }

abbrev TIME_NS_LO_NS_LO : Fld := ⟨31, 0⟩
/-- TIME_NS_LO (02_time_and_angle.md, line 45). -/
def TIME_NS_LO : RegFam :=
  { name := "TIME_NS_LO", base := 0x40010000, dims := [], reset := fun _ => 0x00000000,
    flds := [(TIME_NS_LO_NS_LO, .ro)] }

abbrev TIME_NS_HI_NS_HI : Fld := ⟨31, 0⟩
/-- TIME_NS_HI (02_time_and_angle.md, line 51). -/
def TIME_NS_HI : RegFam :=
  { name := "TIME_NS_HI", base := 0x40010004, dims := [], reset := fun _ => 0x00000000,
    flds := [(TIME_NS_HI_NS_HI, .ro)], perAgent := true }

abbrev TIME_FRAC_FRAC : Fld := ⟨31, 16⟩
/-- TIME_FRAC (02_time_and_angle.md, line 57). -/
def TIME_FRAC : RegFam :=
  { name := "TIME_FRAC", base := 0x40010008, dims := [], reset := fun _ => 0x00000000,
    flds := [(TIME_FRAC_FRAC, .ro)], perAgent := true }

abbrev TIME_CTRL_SERVO_EN : Fld := ⟨31, 31⟩
abbrev TIME_CTRL_SRC : Fld := ⟨30, 28⟩
abbrev TIME_CTRL_EPORT : Fld := ⟨27, 26⟩
abbrev TIME_CTRL_PPS_GPIO : Fld := ⟨25, 22⟩
abbrev TIME_CTRL_PPS_POL : Fld := ⟨21, 21⟩
abbrev TIME_CTRL_STEP : Fld := ⟨20, 20⟩
/-- TIME_CTRL (02_time_and_angle.md, line 147). -/
def TIME_CTRL : RegFam :=
  { name := "TIME_CTRL", base := 0x40010010, dims := [], reset := fun _ => 0x00000000,
    flds := [(TIME_CTRL_SERVO_EN, .rw), (TIME_CTRL_SRC, .rw), (TIME_CTRL_EPORT, .rw), (TIME_CTRL_PPS_GPIO, .rw),
      (TIME_CTRL_PPS_POL, .rw), (TIME_CTRL_STEP, .wo)] }

abbrev TIME_STAT_LEVEL : Fld := ⟨31, 29⟩
abbrev TIME_STAT_STEP_REF : Fld := ⟨28, 28⟩
abbrev TIME_STAT_OFS_REF : Fld := ⟨27, 27⟩
abbrev TIME_STAT_RATE_ERR : Fld := ⟨26, 26⟩
abbrev TIME_STAT_INC_CLAMP : Fld := ⟨25, 25⟩
abbrev TIME_STAT_SRC_LOST : Fld := ⟨24, 24⟩
abbrev TIME_STAT_SAMPLES : Fld := ⟨15, 0⟩
/-- TIME_STAT (02_time_and_angle.md, line 159). -/
def TIME_STAT : RegFam :=
  { name := "TIME_STAT", base := 0x40010014, dims := [], reset := fun _ => 0x00000000,
    flds := [(TIME_STAT_LEVEL, .ro), (TIME_STAT_STEP_REF, .w1c), (TIME_STAT_OFS_REF, .w1c), (TIME_STAT_RATE_ERR, .w1c),
      (TIME_STAT_INC_CLAMP, .w1c), (TIME_STAT_SRC_LOST, .w1c), (TIME_STAT_SAMPLES, .ro)] }

abbrev TIME_INC_INT_INT : Fld := ⟨1, 0⟩
/-- TIME_INC_INT (02_time_and_angle.md, line 172). -/
def TIME_INC_INT : RegFam :=
  { name := "TIME_INC_INT", base := 0x40010018, dims := [], reset := fun _ => 0x00000001,
    flds := [(TIME_INC_INT_INT, .rw)] }

abbrev TIME_INC_FRAC_FRAC : Fld := ⟨31, 0⟩
/-- TIME_INC_FRAC (02_time_and_angle.md, line 179). -/
def TIME_INC_FRAC : RegFam :=
  { name := "TIME_INC_FRAC", base := 0x4001001C, dims := [], reset := fun _ => 0x90000000,
    flds := [(TIME_INC_FRAC_FRAC, .rw)] }

abbrev TIME_STEP_LO_TARGET : Fld := ⟨31, 0⟩
/-- TIME_STEP_LO (02_time_and_angle.md, line 185). -/
def TIME_STEP_LO : RegFam :=
  { name := "TIME_STEP_LO", base := 0x40010020, dims := [], reset := fun _ => 0x00000000,
    flds := [(TIME_STEP_LO_TARGET, .rw)] }

abbrev TIME_STEP_HI_TARGET : Fld := ⟨31, 0⟩
/-- TIME_STEP_HI (02_time_and_angle.md, line 185). -/
def TIME_STEP_HI : RegFam :=
  { name := "TIME_STEP_HI", base := 0x40010024, dims := [], reset := fun _ => 0x00000000,
    flds := [(TIME_STEP_HI_TARGET, .rw)] }

abbrev TIME_SLEW_SLEW : Fld := ⟨31, 0⟩
/-- TIME_SLEW (02_time_and_angle.md, line 191). -/
def TIME_SLEW : RegFam :=
  { name := "TIME_SLEW", base := 0x40010028, dims := [], reset := fun _ => 0x00000000,
    flds := [(TIME_SLEW_SLEW, .rw)] }

abbrev TIME_OFS_IN_OFS : Fld := ⟨31, 0⟩
/-- TIME_OFS_IN (02_time_and_angle.md, line 197). -/
def TIME_OFS_IN : RegFam :=
  { name := "TIME_OFS_IN", base := 0x4001002C, dims := [], reset := fun _ => 0x00000000,
    flds := [(TIME_OFS_IN_OFS, .wo)] }

abbrev TIME_SERVO_KF : Fld := ⟨31, 28⟩
abbrev TIME_SERVO_LOCK_CNT : Fld := ⟨27, 24⟩
abbrev TIME_SERVO_HOLD_TMO : Fld := ⟨23, 16⟩
abbrev TIME_SERVO_LOCK_THR : Fld := ⟨15, 0⟩
/-- TIME_SERVO (02_time_and_angle.md, line 203). -/
def TIME_SERVO : RegFam :=
  { name := "TIME_SERVO", base := 0x40010030, dims := [], reset := fun _ => 0x281E0064,
    flds := [(TIME_SERVO_KF, .rw), (TIME_SERVO_LOCK_CNT, .rw), (TIME_SERVO_HOLD_TMO, .rw), (TIME_SERVO_LOCK_THR, .rw)] }

abbrev TIME_PPS_DELAY : Fld := ⟨31, 0⟩
/-- TIME_PPS (02_time_and_angle.md, line 212). -/
def TIME_PPS : RegFam :=
  { name := "TIME_PPS", base := 0x40010034, dims := [], reset := fun _ => 0x00000000,
    flds := [(TIME_PPS_DELAY, .rw)] }

abbrev TIME_ERRB_ERRB : Fld := ⟨31, 0⟩
/-- TIME_ERRB (02_time_and_angle.md, line 218). -/
def TIME_ERRB : RegFam :=
  { name := "TIME_ERRB", base := 0x40010038, dims := [], reset := fun _ => 0xFFFFFFFF,
    flds := [(TIME_ERRB_ERRB, .ro)] }

abbrev TIME_HDRIFT_PPB : Fld := ⟨15, 0⟩
/-- TIME_HDRIFT (02_time_and_angle.md, line 224). -/
def TIME_HDRIFT : RegFam :=
  { name := "TIME_HDRIFT", base := 0x4001003C, dims := [], reset := fun _ => 0x00000064,
    flds := [(TIME_HDRIFT_PPB, .rw)] }

abbrev TIME_LASTOFS_OFS : Fld := ⟨31, 0⟩
/-- TIME_LASTOFS (02_time_and_angle.md, line 231). -/
def TIME_LASTOFS : RegFam :=
  { name := "TIME_LASTOFS", base := 0x40010040, dims := [], reset := fun _ => 0x00000000,
    flds := [(TIME_LASTOFS_OFS, .ro)] }

abbrev ANG_CFG_EN : Fld := ⟨31, 31⟩
abbrev ANG_CFG_MODE : Fld := ⟨30, 29⟩
abbrev ANG_CFG_PP : Fld := ⟨22, 16⟩
abbrev ANG_CFG_EOFS : Fld := ⟨15, 0⟩
/-- ANG_CFG (02_time_and_angle.md, line 375). -/
def ANG_CFG : RegFam :=
  { name := "ANG_CFG", base := 0x22081000, dims := [(4, 0x4000000), (2, 0x100)], reset := fun _ => 0x00010000,
    flds := [(ANG_CFG_EN, .rw), (ANG_CFG_MODE, .rw), (ANG_CFG_PP, .rw), (ANG_CFG_EOFS, .rw)] }

abbrev ANG_SRC_SEL1 : Fld := ⟨31, 28⟩
abbrev ANG_SRC_SEL0 : Fld := ⟨27, 24⟩
abbrev ANG_SRC_PER1 : Fld := ⟨23, 18⟩
abbrev ANG_SRC_PER0 : Fld := ⟨17, 12⟩
abbrev ANG_SRC_WGT : Fld := ⟨11, 4⟩
/-- ANG_SRC (02_time_and_angle.md, line 385). -/
def ANG_SRC : RegFam :=
  { name := "ANG_SRC", base := 0x22081004, dims := [(4, 0x4000000), (2, 0x100)], reset := fun _ => 0xF0000800,
    flds := [(ANG_SRC_SEL1, .rw), (ANG_SRC_SEL0, .rw), (ANG_SRC_PER1, .rw), (ANG_SRC_PER0, .rw),
      (ANG_SRC_WGT, .rw)] }

abbrev ANG_GAIN_K1 : Fld := ⟨31, 16⟩
abbrev ANG_GAIN_K2 : Fld := ⟨15, 0⟩
/-- ANG_GAIN (02_time_and_angle.md, line 396). -/
def ANG_GAIN : RegFam :=
  { name := "ANG_GAIN", base := 0x22081008, dims := [(4, 0x4000000), (2, 0x100)], reset := fun _ => 0x30413083,
    flds := [(ANG_GAIN_K1, .rw), (ANG_GAIN_K2, .rw)] }

abbrev ANG_GAIN3_K3 : Fld := ⟨15, 0⟩
/-- ANG_GAIN3 (02_time_and_angle.md, line 403). -/
def ANG_GAIN3 : RegFam :=
  { name := "ANG_GAIN3", base := 0x2208100C, dims := [(4, 0x4000000), (2, 0x100)], reset := fun _ => 0x00004107,
    flds := [(ANG_GAIN3_K3, .rw)] }

abbrev ANG_LIM_ELIM : Fld := ⟨31, 16⟩
abbrev ANG_LIM_ECNT : Fld := ⟨15, 8⟩
abbrev ANG_LIM_COAST_MAX : Fld := ⟨7, 0⟩
/-- ANG_LIM (02_time_and_angle.md, line 410). -/
def ANG_LIM : RegFam :=
  { name := "ANG_LIM", base := 0x22081010, dims := [(4, 0x4000000), (2, 0x100)], reset := fun _ => 0x04000464,
    flds := [(ANG_LIM_ELIM, .rw), (ANG_LIM_ECNT, .rw), (ANG_LIM_COAST_MAX, .rw)] }

abbrev ANG_DLY_OBS_TMO : Fld := ⟨31, 24⟩
abbrev ANG_DLY_DLY1 : Fld := ⟨23, 12⟩
abbrev ANG_DLY_DLY0 : Fld := ⟨11, 0⟩
/-- ANG_DLY (02_time_and_angle.md, line 418). -/
def ANG_DLY : RegFam :=
  { name := "ANG_DLY", base := 0x22081014, dims := [(4, 0x4000000), (2, 0x100)], reset := fun _ => 0x32000000,
    flds := [(ANG_DLY_OBS_TMO, .rw), (ANG_DLY_DLY1, .rw), (ANG_DLY_DLY0, .rw)] }

abbrev ANG_STAT_VALID : Fld := ⟨31, 31⟩
abbrev ANG_STAT_COAST : Fld := ⟨30, 30⟩
abbrev ANG_STAT_FAULT : Fld := ⟨29, 29⟩
abbrev ANG_STAT_SUB : Fld := ⟨28, 28⟩
abbrev ANG_STAT_SF1 : Fld := ⟨27, 27⟩
abbrev ANG_STAT_SF0 : Fld := ⟨26, 26⟩
abbrev ANG_STAT_ETRIP : Fld := ⟨25, 25⟩
abbrev ANG_STAT_SAT : Fld := ⟨24, 24⟩
/-- ANG_STAT (02_time_and_angle.md, line 426). -/
def ANG_STAT : RegFam :=
  { name := "ANG_STAT", base := 0x22081018, dims := [(4, 0x4000000), (2, 0x100)], reset := fun _ => 0x00000000,
    flds := [(ANG_STAT_VALID, .ro), (ANG_STAT_COAST, .ro), (ANG_STAT_FAULT, .w1c), (ANG_STAT_SUB, .ro),
      (ANG_STAT_SF1, .w1c), (ANG_STAT_SF0, .w1c), (ANG_STAT_ETRIP, .w1c), (ANG_STAT_SAT, .w1c)] }

abbrev ANG_SET_FRAC_FRAC : Fld := ⟨31, 0⟩
/-- ANG_SET_FRAC (02_time_and_angle.md, line 440). -/
def ANG_SET_FRAC : RegFam :=
  { name := "ANG_SET_FRAC", base := 0x2208101C, dims := [(4, 0x4000000), (2, 0x100)], reset := fun _ => 0x00000000,
    flds := [(ANG_SET_FRAC_FRAC, .rw)] }

abbrev ANG_CMD_SET_REV : Fld := ⟨31, 16⟩
abbrev ANG_CMD_PRI : Fld := ⟨1, 1⟩
abbrev ANG_CMD_SET : Fld := ⟨0, 0⟩
/-- ANG_CMD (02_time_and_angle.md, line 446). -/
def ANG_CMD : RegFam :=
  { name := "ANG_CMD", base := 0x22081020, dims := [(4, 0x4000000), (2, 0x100)], reset := fun _ => 0x00000000,
    flds := [(ANG_CMD_SET_REV, .wo), (ANG_CMD_PRI, .wo), (ANG_CMD_SET, .wo)] }

abbrev ANG_OBS_ANGLE : Fld := ⟨15, 0⟩
/-- ANG_OBS (02_time_and_angle.md, line 455). -/
def ANG_OBS : RegFam :=
  { name := "ANG_OBS", base := 0x22081024, dims := [(4, 0x4000000), (2, 0x100)], reset := fun _ => 0x00000000,
    flds := [(ANG_OBS_ANGLE, .rw)] }

abbrev ANG_SEQ_SEQ : Fld := ⟨15, 0⟩
/-- ANG_SEQ (02_time_and_angle.md, line 462). -/
def ANG_SEQ : RegFam :=
  { name := "ANG_SEQ", base := 0x22081040, dims := [(4, 0x4000000), (2, 0x100)], reset := fun _ => 0x00000000,
    flds := [(ANG_SEQ_SEQ, .ro)] }

abbrev ANG_FRAC_VALUE : Fld := ⟨31, 0⟩
/-- ANG_FRAC (02_time_and_angle.md, line 469). -/
def ANG_FRAC : RegFam :=
  { name := "ANG_FRAC", base := 0x22081044, dims := [(4, 0x4000000), (2, 0x100)], reset := fun _ => 0x00000000,
    flds := [(ANG_FRAC_VALUE, .ro)] }

abbrev ANG_SPEED_VALUE : Fld := ⟨31, 0⟩
/-- ANG_SPEED (02_time_and_angle.md, line 469). -/
def ANG_SPEED : RegFam :=
  { name := "ANG_SPEED", base := 0x2208104C, dims := [(4, 0x4000000), (2, 0x100)], reset := fun _ => 0x00000000,
    flds := [(ANG_SPEED_VALUE, .ro)] }

abbrev ANG_ACCEL_VALUE : Fld := ⟨31, 0⟩
/-- ANG_ACCEL (02_time_and_angle.md, line 469). -/
def ANG_ACCEL : RegFam :=
  { name := "ANG_ACCEL", base := 0x22081050, dims := [(4, 0x4000000), (2, 0x100)], reset := fun _ => 0x00000000,
    flds := [(ANG_ACCEL_VALUE, .ro)] }

abbrev ANG_REV_VALUE : Fld := ⟨15, 0⟩
/-- ANG_REV (02_time_and_angle.md, line 475). -/
def ANG_REV : RegFam :=
  { name := "ANG_REV", base := 0x22081048, dims := [(4, 0x4000000), (2, 0x100)], reset := fun _ => 0x00000000,
    flds := [(ANG_REV_VALUE, .ro)] }

abbrev ANG_ELEC_VALUE : Fld := ⟨15, 0⟩
/-- ANG_ELEC (02_time_and_angle.md, line 475). -/
def ANG_ELEC : RegFam :=
  { name := "ANG_ELEC", base := 0x22081054, dims := [(4, 0x4000000), (2, 0x100)], reset := fun _ => 0x00000000,
    flds := [(ANG_ELEC_VALUE, .ro)] }

abbrev ANG_TS_LO_NS : Fld := ⟨31, 0⟩
/-- ANG_TS_LO (02_time_and_angle.md, line 482). -/
def ANG_TS_LO : RegFam :=
  { name := "ANG_TS_LO", base := 0x22081058, dims := [(4, 0x4000000), (2, 0x100)], reset := fun _ => 0x00000000,
    flds := [(ANG_TS_LO_NS, .ro)] }

abbrev ANG_TS_HI_NS : Fld := ⟨31, 0⟩
/-- ANG_TS_HI (02_time_and_angle.md, line 482). -/
def ANG_TS_HI : RegFam :=
  { name := "ANG_TS_HI", base := 0x2208105C, dims := [(4, 0x4000000), (2, 0x100)], reset := fun _ => 0x00000000,
    flds := [(ANG_TS_HI_NS, .ro)] }

abbrev GAL_CTRL_TW_BW : Fld := ⟨3, 0⟩
/-- GAL_CTRL (03_gallery.md, line 344). -/
def GAL_CTRL : RegFam :=
  { name := "GAL_CTRL", base := 0x30000000, dims := [], reset := fun _ => 0x00000005,
    flds := [(GAL_CTRL_TW_BW, .rw)] }

abbrev GAL_STAT_RPT_DROP : Fld := ⟨31, 31⟩
abbrev GAL_STAT_ECC : Fld := ⟨30, 30⟩
abbrev GAL_STAT_USED : Fld := ⟨15, 0⟩
/-- GAL_STAT (03_gallery.md, line 351). -/
def GAL_STAT : RegFam :=
  { name := "GAL_STAT", base := 0x30000004, dims := [], reset := fun _ => 0x00000000,
    flds := [(GAL_STAT_RPT_DROP, .w1c), (GAL_STAT_ECC, .w1c), (GAL_STAT_USED, .ro)] }

abbrev GAL_RPTDROP_DROPPED : Fld := ⟨31, 0⟩
/-- GAL_RPTDROP (03_gallery.md, line 360). -/
def GAL_RPTDROP : RegFam :=
  { name := "GAL_RPTDROP", base := 0x30000008, dims := [], reset := fun _ => 0x00000000,
    flds := [(GAL_RPTDROP_DROPPED, .rc)] }

abbrev GAL_SUB_W0_STAMP_LO : Fld := ⟨31, 0⟩
/-- GAL_SUB_W0 (03_gallery.md, line 366). -/
def GAL_SUB_W0 : RegFam :=
  { name := "GAL_SUB_W0", base := 0x30000010, dims := [], reset := fun _ => 0x00000000,
    flds := [(GAL_SUB_W0_STAMP_LO, .rw)], perAgent := true }

abbrev GAL_SUB_W1_STAMP_HI : Fld := ⟨31, 0⟩
/-- GAL_SUB_W1 (03_gallery.md, line 372). -/
def GAL_SUB_W1 : RegFam :=
  { name := "GAL_SUB_W1", base := 0x30000014, dims := [], reset := fun _ => 0x00000000,
    flds := [(GAL_SUB_W1_STAMP_HI, .rw)], perAgent := true }

abbrev GAL_SUB_W2_STAMP_FR : Fld := ⟨31, 24⟩
abbrev GAL_SUB_W2_ACTION : Fld := ⟨23, 20⟩
abbrev GAL_SUB_W2_DOMAIN : Fld := ⟨19, 19⟩
abbrev GAL_SUB_W2_AXIS : Fld := ⟨18, 16⟩
abbrev GAL_SUB_W2_MUSTNOT_LATE : Fld := ⟨15, 15⟩
abbrev GAL_SUB_W2_REPORT : Fld := ⟨14, 14⟩
abbrev GAL_SUB_W2_HRING : Fld := ⟨13, 0⟩
/-- GAL_SUB_W2 (03_gallery.md, line 378). -/
def GAL_SUB_W2 : RegFam :=
  { name := "GAL_SUB_W2", base := 0x30000018, dims := [], reset := fun _ => 0x00000000,
    flds := [(GAL_SUB_W2_STAMP_FR, .rw), (GAL_SUB_W2_ACTION, .rw), (GAL_SUB_W2_DOMAIN, .rw), (GAL_SUB_W2_AXIS, .rw),
      (GAL_SUB_W2_MUSTNOT_LATE, .rw), (GAL_SUB_W2_REPORT, .rw), (GAL_SUB_W2_HRING, .rw)], perAgent := true }

abbrev GAL_SUB_W3_ARG : Fld := ⟨31, 0⟩
/-- GAL_SUB_W3 (03_gallery.md, line 390). -/
def GAL_SUB_W3 : RegFam :=
  { name := "GAL_SUB_W3", base := 0x3000001C, dims := [], reset := fun _ => 0x00000000,
    flds := [(GAL_SUB_W3_ARG, .rw)], perAgent := true }

abbrev GAL_SUB_GO_ORDERED : Fld := ⟨1, 1⟩
abbrev GAL_SUB_GO_GO : Fld := ⟨0, 0⟩
/-- GAL_SUB_GO (03_gallery.md, line 396). -/
def GAL_SUB_GO : RegFam :=
  { name := "GAL_SUB_GO", base := 0x30000020, dims := [], reset := fun _ => 0x00000000,
    flds := [(GAL_SUB_GO_ORDERED, .wo), (GAL_SUB_GO_GO, .wo)] }

abbrev GAL_SUB_RES_STATUS : Fld := ⟨31, 24⟩
abbrev GAL_SUB_RES_TAG : Fld := ⟨23, 16⟩
abbrev GAL_SUB_RES_SLOT : Fld := ⟨15, 0⟩
/-- GAL_SUB_RES (03_gallery.md, line 404). -/
def GAL_SUB_RES : RegFam :=
  { name := "GAL_SUB_RES", base := 0x30000024, dims := [], reset := fun _ => 0x00000000,
    flds := [(GAL_SUB_RES_STATUS, .ro), (GAL_SUB_RES_TAG, .ro), (GAL_SUB_RES_SLOT, .ro)], perAgent := true }

abbrev GAL_CANCEL_TAG : Fld := ⟨23, 16⟩
abbrev GAL_CANCEL_SLOT : Fld := ⟨15, 0⟩
/-- GAL_CANCEL (03_gallery.md, line 412). -/
def GAL_CANCEL : RegFam :=
  { name := "GAL_CANCEL", base := 0x30000028, dims := [], reset := fun _ => 0x00000000,
    flds := [(GAL_CANCEL_TAG, .wo), (GAL_CANCEL_SLOT, .wo)] }

abbrev GAL_CANCEL_RES_STATUS : Fld := ⟨31, 24⟩
/-- GAL_CANCEL_RES (03_gallery.md, line 420). -/
def GAL_CANCEL_RES : RegFam :=
  { name := "GAL_CANCEL_RES", base := 0x3000002C, dims := [], reset := fun _ => 0x00000000,
    flds := [(GAL_CANCEL_RES_STATUS, .ro)], perAgent := true }

abbrev GAL_QUOTA_MAX : Fld := ⟨31, 16⟩
abbrev GAL_QUOTA_RSV : Fld := ⟨15, 0⟩
/-- GAL_QUOTA (03_gallery.md, line 427). -/
def GAL_QUOTA : RegFam :=
  { name := "GAL_QUOTA", base := 0x30000100, dims := [(16, 0x4)], reset := fun i => if i = 0 then 0xC000C000 else 0,
    flds := [(GAL_QUOTA_MAX, .rw), (GAL_QUOTA_RSV, .rw)] }

abbrev GAL_USE_USED : Fld := ⟨15, 0⟩
/-- GAL_USE (03_gallery.md, line 434). -/
def GAL_USE : RegFam :=
  { name := "GAL_USE", base := 0x30000140, dims := [(16, 0x4)], reset := fun _ => 0x00000000,
    flds := [(GAL_USE_USED, .ro)] }

/-- GAL_SHARE_LO (03_gallery.md, line 441). -/
def GAL_SHARE_LO : RegFam :=
  { name := "GAL_SHARE_LO", base := 0x30000200, dims := [(4, 0x8)], reset := fun _ => 0x00000000,
    flds := [(⟨3, 0⟩, .rw), (⟨7, 4⟩, .rw), (⟨11, 8⟩, .rw), (⟨15, 12⟩, .rw),
      (⟨19, 16⟩, .rw), (⟨23, 20⟩, .rw), (⟨27, 24⟩, .rw), (⟨31, 28⟩, .rw)] }

/-- GAL_SHARE_HI (03_gallery.md, line 441). -/
def GAL_SHARE_HI : RegFam :=
  { name := "GAL_SHARE_HI", base := 0x30000204, dims := [(4, 0x8)], reset := fun _ => 0x00000000,
    flds := [(⟨3, 0⟩, .rw), (⟨7, 4⟩, .rw), (⟨11, 8⟩, .rw), (⟨15, 12⟩, .rw),
      (⟨19, 16⟩, .rw), (⟨23, 20⟩, .rw), (⟨27, 24⟩, .rw), (⟨31, 28⟩, .rw)] }

abbrev GAL_ENG_LATECNT_COUNT : Fld := ⟨31, 0⟩
/-- GAL_ENG_LATECNT (03_gallery.md, line 447). -/
def GAL_ENG_LATECNT : RegFam :=
  { name := "GAL_ENG_LATECNT", base := 0x30000300, dims := [(4, 0x10)], reset := fun _ => 0x00000000,
    flds := [(GAL_ENG_LATECNT_COUNT, .rc)] }

abbrev GAL_ENG_CANCNT_COUNT : Fld := ⟨31, 0⟩
/-- GAL_ENG_CANCNT (03_gallery.md, line 447). -/
def GAL_ENG_CANCNT : RegFam :=
  { name := "GAL_ENG_CANCNT", base := 0x30000308, dims := [(4, 0x10)], reset := fun _ => 0x00000000,
    flds := [(GAL_ENG_CANCNT_COUNT, .rc)] }

abbrev GAL_ENG_TMOCNT_COUNT : Fld := ⟨31, 0⟩
/-- GAL_ENG_TMOCNT (03_gallery.md, line 447). -/
def GAL_ENG_TMOCNT : RegFam :=
  { name := "GAL_ENG_TMOCNT", base := 0x3000030C, dims := [(4, 0x10)], reset := fun _ => 0x00000000,
    flds := [(GAL_ENG_TMOCNT_COUNT, .rc)] }

abbrev GAL_ENG_LMAX_LMAX : Fld := ⟨15, 0⟩
/-- GAL_ENG_LMAX (03_gallery.md, line 453). -/
def GAL_ENG_LMAX : RegFam :=
  { name := "GAL_ENG_LMAX", base := 0x30000304, dims := [(4, 0x10)], reset := fun _ => 0x00000000,
    flds := [(GAL_ENG_LMAX_LMAX, .rc)] }

abbrev GAL_AX_CFG_WMIN : Fld := ⟨31, 0⟩
/-- GAL_AX_CFG (03_gallery.md, line 460). -/
def GAL_AX_CFG : RegFam :=
  { name := "GAL_AX_CFG", base := 0x30000400, dims := [(8, 0x8)], reset := fun _ => 0x000010C7,
    flds := [(GAL_AX_CFG_WMIN, .rw)] }

abbrev GAL_AX_STAT_HELD : Fld := ⟨31, 31⟩
abbrev GAL_AX_STAT_RANGE : Fld := ⟨30, 30⟩
abbrev GAL_AX_STAT_PEND : Fld := ⟨15, 0⟩
/-- GAL_AX_STAT (03_gallery.md, line 466). -/
def GAL_AX_STAT : RegFam :=
  { name := "GAL_AX_STAT", base := 0x30000404, dims := [(8, 0x8)], reset := fun _ => 0x00000000,
    flds := [(GAL_AX_STAT_HELD, .ro), (GAL_AX_STAT_RANGE, .w1c), (GAL_AX_STAT_PEND, .ro)] }

abbrev GAL_RING_BASE_BASE : Fld := ⟨31, 4⟩
abbrev GAL_RING_BASE_TXR : Fld := ⟨3, 3⟩
/-- GAL_RING_BASE (03_gallery.md, line 479). -/
def GAL_RING_BASE : RegFam :=
  { name := "GAL_RING_BASE", base := 0x31000000, dims := [(16384, 0x10)], reset := fun _ => 0x00000000,
    flds := [(GAL_RING_BASE_BASE, .rw), (GAL_RING_BASE_TXR, .rw)] }

abbrev GAL_RING_IDX_PROD : Fld := ⟨31, 16⟩
abbrev GAL_RING_IDX_CONS : Fld := ⟨15, 0⟩
/-- GAL_RING_IDX (03_gallery.md, line 487). -/
def GAL_RING_IDX : RegFam :=
  { name := "GAL_RING_IDX", base := 0x31000004, dims := [(16384, 0x10)], reset := fun _ => 0x00000000,
    flds := [(GAL_RING_IDX_PROD, .rw), (GAL_RING_IDX_CONS, .rw)] }

abbrev GAL_RING_CFG_OWNER : Fld := ⟨31, 28⟩
abbrev GAL_RING_CFG_LDEPTH : Fld := ⟨27, 24⟩
abbrev GAL_RING_CFG_ESZ : Fld := ⟨23, 22⟩
abbrev GAL_RING_CFG_ENG : Fld := ⟨21, 20⟩
abbrev GAL_RING_CFG_PGEN : Fld := ⟨19, 12⟩
abbrev GAL_RING_CFG_NTYPE : Fld := ⟨11, 10⟩
abbrev GAL_RING_CFG_NTGT : Fld := ⟨9, 3⟩
abbrev GAL_RING_CFG_ROVF : Fld := ⟨2, 2⟩
abbrev GAL_RING_CFG_EN : Fld := ⟨1, 1⟩
abbrev GAL_RING_CFG_AUTO : Fld := ⟨0, 0⟩
/-- GAL_RING_CFG (03_gallery.md, line 494). -/
def GAL_RING_CFG : RegFam :=
  { name := "GAL_RING_CFG", base := 0x31000008, dims := [(16384, 0x10)], reset := fun _ => 0x02000000,
    flds := [(GAL_RING_CFG_OWNER, .ro), (GAL_RING_CFG_LDEPTH, .rw), (GAL_RING_CFG_ESZ, .rw), (GAL_RING_CFG_ENG, .rw),
      (GAL_RING_CFG_PGEN, .ro), (GAL_RING_CFG_NTYPE, .rw), (GAL_RING_CFG_NTGT, .rw), (GAL_RING_CFG_ROVF, .w1c),
      (GAL_RING_CFG_EN, .rw), (GAL_RING_CFG_AUTO, .rw)] }

abbrev GAL_RING_TOL_TOL : Fld := ⟨31, 16⟩
abbrev GAL_RING_TOL_PEND : Fld := ⟨15, 0⟩
/-- GAL_RING_TOL (03_gallery.md, line 509). -/
def GAL_RING_TOL : RegFam :=
  { name := "GAL_RING_TOL", base := 0x3100000C, dims := [(16384, 0x10)], reset := fun _ => 0x00000000,
    flds := [(GAL_RING_TOL_TOL, .rw), (GAL_RING_TOL_PEND, .ro)] }

abbrev BLK_CTRL_RELEASE : Fld := ⟨7, 0⟩
/-- BLK_CTRL (06_cells_and_torque_continuity.md, line 439). -/
def BLK_CTRL : RegFam :=
  { name := "BLK_CTRL", base := 0x22082000, dims := [(4, 0x4000000), (4, 0x400)], reset := fun _ => 0x00000000,
    flds := [(BLK_CTRL_RELEASE, .wo)] }

abbrev BLK_STAT_MIG : Fld := ⟨31, 31⟩
abbrev BLK_STAT_FAULT : Fld := ⟨30, 30⟩
/-- BLK_STAT (06_cells_and_torque_continuity.md, line 446). -/
def BLK_STAT : RegFam :=
  { name := "BLK_STAT", base := 0x22082004, dims := [(4, 0x4000000), (4, 0x400)], reset := fun _ => 0x00000000,
    flds := [(BLK_STAT_MIG, .w1c), (BLK_STAT_FAULT, .w1c)] }

/-- BLK_PSTATE (06_cells_and_torque_continuity.md, line 454). -/
def BLK_PSTATE : RegFam :=
  { name := "BLK_PSTATE", base := 0x22082008, dims := [(4, 0x4000000), (4, 0x400)], reset := fun _ => 0x00000000,
    flds := [(⟨3, 0⟩, .ro), (⟨7, 4⟩, .ro), (⟨11, 8⟩, .ro), (⟨15, 12⟩, .ro),
      (⟨19, 16⟩, .ro), (⟨23, 20⟩, .ro), (⟨27, 24⟩, .ro), (⟨31, 28⟩, .ro)] }

/-- BLK_MAP (06_cells_and_torque_continuity.md, line 460). -/
def BLK_MAP : RegFam :=
  { name := "BLK_MAP", base := 0x2208200C, dims := [(4, 0x4000000), (4, 0x400)], reset := fun _ => 0xFEDCBA98,
    flds := [(⟨3, 3⟩, .ro), (⟨2, 0⟩, .ro), (⟨7, 7⟩, .ro), (⟨6, 4⟩, .ro),
      (⟨11, 11⟩, .ro), (⟨10, 8⟩, .ro), (⟨15, 15⟩, .ro), (⟨14, 12⟩, .ro),
      (⟨19, 19⟩, .ro), (⟨18, 16⟩, .ro), (⟨23, 23⟩, .ro), (⟨22, 20⟩, .ro),
      (⟨27, 27⟩, .ro), (⟨26, 24⟩, .ro), (⟨31, 31⟩, .ro), (⟨30, 28⟩, .ro)] }

/-- BLK_MPART (06_cells_and_torque_continuity.md, line 467). -/
def BLK_MPART : RegFam :=
  { name := "BLK_MPART", base := 0x22082010, dims := [(4, 0x4000000), (4, 0x400)], reset := fun _ => 0x00000000,
    flds := [(⟨3, 0⟩, .rw), (⟨7, 4⟩, .rw), (⟨11, 8⟩, .rw), (⟨15, 12⟩, .rw),
      (⟨19, 16⟩, .rw), (⟨23, 20⟩, .rw), (⟨27, 24⟩, .rw), (⟨31, 28⟩, .rw)] }

abbrev BLK_GSWR_WR : Fld := ⟨15, 0⟩
/-- BLK_GSWR (06_cells_and_torque_continuity.md, line 473). -/
def BLK_GSWR : RegFam :=
  { name := "BLK_GSWR", base := 0x22082014, dims := [(4, 0x4000000), (4, 0x400)], reset := fun _ => 0x00000000,
    flds := [(BLK_GSWR_WR, .rw)] }

abbrev BLK_MIGLOG_STATUS : Fld := ⟨31, 24⟩
abbrev BLK_MIGLOG_CAUSE : Fld := ⟨23, 20⟩
abbrev BLK_MIGLOG_COLD : Fld := ⟨19, 19⟩
abbrev BLK_MIGLOG_LID : Fld := ⟨18, 16⟩
abbrev BLK_MIGLOG_FROM : Fld := ⟨14, 12⟩
abbrev BLK_MIGLOG_TO : Fld := ⟨10, 8⟩
abbrev BLK_MIGLOG_GEN : Fld := ⟨7, 0⟩
/-- BLK_MIGLOG (06_cells_and_torque_continuity.md, line 480). -/
def BLK_MIGLOG : RegFam :=
  { name := "BLK_MIGLOG", base := 0x22082018, dims := [(4, 0x4000000), (4, 0x400)], reset := fun _ => 0x00000000,
    flds := [(BLK_MIGLOG_STATUS, .ro), (BLK_MIGLOG_CAUSE, .ro), (BLK_MIGLOG_COLD, .ro), (BLK_MIGLOG_LID, .ro),
      (BLK_MIGLOG_FROM, .ro), (BLK_MIGLOG_TO, .ro), (BLK_MIGLOG_GEN, .ro)] }

abbrev BLK_MIGTIME_VALUE : Fld := ⟨31, 0⟩
/-- BLK_MIGTIME (06_cells_and_torque_continuity.md, line 494). -/
def BLK_MIGTIME : RegFam :=
  { name := "BLK_MIGTIME", base := 0x2208201C, dims := [(4, 0x4000000), (4, 0x400)], reset := fun _ => 0x00000000,
    flds := [(BLK_MIGTIME_VALUE, .ro)] }

abbrev BLK_MIGDUR_VALUE : Fld := ⟨31, 0⟩
/-- BLK_MIGDUR (06_cells_and_torque_continuity.md, line 494). -/
def BLK_MIGDUR : RegFam :=
  { name := "BLK_MIGDUR", base := 0x22082020, dims := [(4, 0x4000000), (4, 0x400)], reset := fun _ => 0x00000000,
    flds := [(BLK_MIGDUR_VALUE, .ro)] }

abbrev CELL_CTRL_ENTRY : Fld := ⟨27, 16⟩
abbrev CELL_CTRL_LOAD : Fld := ⟨2, 2⟩
abbrev CELL_CTRL_STOP : Fld := ⟨1, 1⟩
abbrev CELL_CTRL_START : Fld := ⟨0, 0⟩
/-- CELL_CTRL (06_cells_and_torque_continuity.md, line 504). -/
def CELL_CTRL : RegFam :=
  { name := "CELL_CTRL", base := 0x22082100, dims := [(4, 0x4000000), (4, 0x400), (8, 0x40)], reset := fun _ => 0x00000000,
    flds := [(CELL_CTRL_ENTRY, .wo), (CELL_CTRL_LOAD, .wo), (CELL_CTRL_STOP, .wo), (CELL_CTRL_START, .wo)] }

abbrev CELL_STAT_LSTATE : Fld := ⟨31, 29⟩
abbrev CELL_STAT_CAUSE : Fld := ⟨28, 25⟩
abbrev CELL_STAT_FLT : Fld := ⟨24, 24⟩
abbrev CELL_STAT_MIG : Fld := ⟨23, 23⟩
abbrev CELL_STAT_TWLOST : Fld := ⟨22, 22⟩
abbrev CELL_STAT_COLD : Fld := ⟨21, 21⟩
abbrev CELL_STAT_EVDROP : Fld := ⟨15, 8⟩
abbrev CELL_STAT_GEN : Fld := ⟨7, 0⟩
/-- CELL_STAT (06_cells_and_torque_continuity.md, line 515). -/
def CELL_STAT : RegFam :=
  { name := "CELL_STAT", base := 0x22082104, dims := [(4, 0x4000000), (4, 0x400), (8, 0x40)], reset := fun _ => 0x000000FF,
    flds := [(CELL_STAT_LSTATE, .ro), (CELL_STAT_CAUSE, .ro), (CELL_STAT_FLT, .w1c), (CELL_STAT_MIG, .w1c),
      (CELL_STAT_TWLOST, .w1c), (CELL_STAT_COLD, .w1c), (CELL_STAT_EVDROP, .rc), (CELL_STAT_GEN, .ro)] }

abbrev CELL_CFG_ROLE : Fld := ⟨31, 30⟩
abbrev CELL_CFG_FACT : Fld := ⟨29, 28⟩
abbrev CELL_CFG_FLOW : Fld := ⟨27, 27⟩
abbrev CELL_CFG_MPAT : Fld := ⟨26, 26⟩
abbrev CELL_CFG_HOLDT : Fld := ⟨25, 21⟩
abbrev CELL_CFG_CHAMBER : Fld := ⟨19, 16⟩
abbrev CELL_CFG_SPMASK : Fld := ⟨15, 8⟩
/-- CELL_CFG (06_cells_and_torque_continuity.md, line 529). -/
def CELL_CFG : RegFam :=
  { name := "CELL_CFG", base := 0x22082108, dims := [(4, 0x4000000), (4, 0x400), (8, 0x40)], reset := fun _ => 0x1440FF00,
    flds := [(CELL_CFG_ROLE, .rw), (CELL_CFG_FACT, .rw), (CELL_CFG_FLOW, .rw), (CELL_CFG_MPAT, .rw),
      (CELL_CFG_HOLDT, .rw), (CELL_CFG_CHAMBER, .ro), (CELL_CFG_SPMASK, .rw)] }

abbrev CELL_PIMG_LEN : Fld := ⟨29, 16⟩
abbrev CELL_PIMG_BASE : Fld := ⟨11, 0⟩
/-- CELL_PIMG (06_cells_and_torque_continuity.md, line 543). -/
def CELL_PIMG : RegFam :=
  { name := "CELL_PIMG", base := 0x2208210C, dims := [(4, 0x4000000), (4, 0x400), (8, 0x40)], reset := fun _ => 0x00000000,
    flds := [(CELL_PIMG_LEN, .rw), (CELL_PIMG_BASE, .rw)] }

abbrev CELL_SIMG_LEN : Fld := ⟨29, 16⟩
abbrev CELL_SIMG_BASE : Fld := ⟨11, 0⟩
/-- CELL_SIMG (06_cells_and_torque_continuity.md, line 543). -/
def CELL_SIMG : RegFam :=
  { name := "CELL_SIMG", base := 0x22082110, dims := [(4, 0x4000000), (4, 0x400), (8, 0x40)], reset := fun _ => 0x00000000,
    flds := [(CELL_SIMG_LEN, .rw), (CELL_SIMG_BASE, .rw)] }

abbrev CELL_WDT_CKMAX : Fld := ⟨31, 16⟩
abbrev CELL_WDT_WDT : Fld := ⟨15, 0⟩
/-- CELL_WDT (06_cells_and_torque_continuity.md, line 552). -/
def CELL_WDT : RegFam :=
  { name := "CELL_WDT", base := 0x22082114, dims := [(4, 0x4000000), (4, 0x400), (8, 0x40)], reset := fun _ => 0x00000000,
    flds := [(CELL_WDT_CKMAX, .rw), (CELL_WDT_WDT, .rw)] }

abbrev CELL_BIND_PWMG : Fld := ⟨31, 24⟩
abbrev CELL_BIND_ADCM : Fld := ⟨23, 20⟩
abbrev CELL_BIND_EOS : Fld := ⟨19, 19⟩
abbrev CELL_BIND_TRK : Fld := ⟨18, 17⟩
abbrev CELL_BIND_ADCVEC : Fld := ⟨15, 12⟩
abbrev CELL_BIND_TRKVEC : Fld := ⟨11, 8⟩
/-- CELL_BIND (06_cells_and_torque_continuity.md, line 559). -/
def CELL_BIND : RegFam :=
  { name := "CELL_BIND", base := 0x22082118, dims := [(4, 0x4000000), (4, 0x400), (8, 0x40)], reset := fun _ => 0x00000000,
    flds := [(CELL_BIND_PWMG, .rw), (CELL_BIND_ADCM, .rw), (CELL_BIND_EOS, .rw), (CELL_BIND_TRK, .rw),
      (CELL_BIND_ADCVEC, .rw), (CELL_BIND_TRKVEC, .rw)] }

abbrev CELL_GSCFG_EN : Fld := ⟨31, 31⟩
abbrev CELL_GSCFG_EVEN : Fld := ⟨30, 30⟩
abbrev CELL_GSCFG_XSRC : Fld := ⟨29, 28⟩
abbrev CELL_GSCFG_YSRC : Fld := ⟨27, 26⟩
abbrev CELL_GSCFG_VEC : Fld := ⟨25, 22⟩
abbrev CELL_GSCFG_DWELL : Fld := ⟨15, 8⟩
abbrev CELL_GSCFG_KY : Fld := ⟨3, 2⟩
abbrev CELL_GSCFG_KX : Fld := ⟨1, 0⟩
/-- CELL_GSCFG (06_cells_and_torque_continuity.md, line 572). -/
def CELL_GSCFG : RegFam :=
  { name := "CELL_GSCFG", base := 0x2208211C, dims := [(4, 0x4000000), (4, 0x400), (8, 0x40)], reset := fun _ => 0x3C000000,
    flds := [(CELL_GSCFG_EN, .rw), (CELL_GSCFG_EVEN, .rw), (CELL_GSCFG_XSRC, .rw), (CELL_GSCFG_YSRC, .rw),
      (CELL_GSCFG_VEC, .rw), (CELL_GSCFG_DWELL, .rw), (CELL_GSCFG_KY, .ro), (CELL_GSCFG_KX, .ro)] }

abbrev CELL_GSX_TH1 : Fld := ⟨31, 16⟩
abbrev CELL_GSX_TH0 : Fld := ⟨15, 0⟩
/-- CELL_GSX (06_cells_and_torque_continuity.md, line 587). -/
def CELL_GSX : RegFam :=
  { name := "CELL_GSX", base := 0x22082120, dims := [(4, 0x4000000), (4, 0x400), (8, 0x40)], reset := fun _ => 0xFFFFFFFF,
    flds := [(CELL_GSX_TH1, .rw), (CELL_GSX_TH0, .rw)] }

abbrev CELL_GSY_TH1 : Fld := ⟨31, 16⟩
abbrev CELL_GSY_TH0 : Fld := ⟨15, 0⟩
/-- CELL_GSY (06_cells_and_torque_continuity.md, line 587). -/
def CELL_GSY : RegFam :=
  { name := "CELL_GSY", base := 0x22082128, dims := [(4, 0x4000000), (4, 0x400), (8, 0x40)], reset := fun _ => 0xFFFFFFFF,
    flds := [(CELL_GSY_TH1, .rw), (CELL_GSY_TH0, .rw)] }

abbrev CELL_GSX2_H : Fld := ⟨31, 16⟩
abbrev CELL_GSX2_TH2 : Fld := ⟨15, 0⟩
/-- CELL_GSX2 (06_cells_and_torque_continuity.md, line 594). -/
def CELL_GSX2 : RegFam :=
  { name := "CELL_GSX2", base := 0x22082124, dims := [(4, 0x4000000), (4, 0x400), (8, 0x40)], reset := fun _ => 0x0000FFFF,
    flds := [(CELL_GSX2_H, .rw), (CELL_GSX2_TH2, .rw)] }

abbrev CELL_GSY2_H : Fld := ⟨31, 16⟩
abbrev CELL_GSY2_TH2 : Fld := ⟨15, 0⟩
/-- CELL_GSY2 (06_cells_and_torque_continuity.md, line 594). -/
def CELL_GSY2 : RegFam :=
  { name := "CELL_GSY2", base := 0x2208212C, dims := [(4, 0x4000000), (4, 0x400), (8, 0x40)], reset := fun _ => 0x0000FFFF,
    flds := [(CELL_GSY2_H, .rw), (CELL_GSY2_TH2, .rw)] }

/-- CELL_GSMAP_LO (06_cells_and_torque_continuity.md, line 601). -/
def CELL_GSMAP_LO : RegFam :=
  { name := "CELL_GSMAP_LO", base := 0x22082130, dims := [(4, 0x4000000), (4, 0x400), (8, 0x40)], reset := fun _ => 0x00000000,
    flds := [(⟨3, 0⟩, .rw), (⟨7, 4⟩, .rw), (⟨11, 8⟩, .rw), (⟨15, 12⟩, .rw),
      (⟨19, 16⟩, .rw), (⟨23, 20⟩, .rw), (⟨27, 24⟩, .rw), (⟨31, 28⟩, .rw)] }

/-- CELL_GSMAP_HI (06_cells_and_torque_continuity.md, line 601). -/
def CELL_GSMAP_HI : RegFam :=
  { name := "CELL_GSMAP_HI", base := 0x22082134, dims := [(4, 0x4000000), (4, 0x400), (8, 0x40)], reset := fun _ => 0x00000000,
    flds := [(⟨3, 0⟩, .rw), (⟨7, 4⟩, .rw), (⟨11, 8⟩, .rw), (⟨15, 12⟩, .rw),
      (⟨19, 16⟩, .rw), (⟨23, 20⟩, .rw), (⟨27, 24⟩, .rw), (⟨31, 28⟩, .rw)] }

abbrev CELL_CYCLE_COUNT : Fld := ⟨31, 0⟩
/-- CELL_CYCLE (06_cells_and_torque_continuity.md, line 607). -/
def CELL_CYCLE : RegFam :=
  { name := "CELL_CYCLE", base := 0x22082138, dims := [(4, 0x4000000), (4, 0x400), (8, 0x40)], reset := fun _ => 0x00000000,
    flds := [(CELL_CYCLE_COUNT, .ro)] }

end Sys2Proof.Machine
end

