-- ==== Sys2Proof/Machine/RegMapLinks.lean ====
section
/-! DEFINITION. Register families of the chip memory map, chapters 15, 16, 17, 18, 19: names, addresses, fields, access types and
reset values as the register tables of the spec give them. -/

namespace Sys2Proof.Machine

abbrev ECHO_CFG_EN : Fld := ⟨31, 31⟩
abbrev ECHO_CFG_TTEN : Fld := ⟨30, 30⟩
abbrev ECHO_CFG_TTPER : Fld := ⟨29, 22⟩
abbrev ECHO_CFG_ASYM : Fld := ⟨15, 0⟩
/-- ECHO_CFG (15_echo_and_ethernet.md, line 247). -/
def ECHO_CFG : RegFam :=
  { name := "ECHO_CFG", base := 0x40300000, dims := [(4, 0x10000)], reset := fun _ => 0x00400000,
    flds := [(ECHO_CFG_EN, .rw), (ECHO_CFG_TTEN, .rw), (ECHO_CFG_TTPER, .rw), (ECHO_CFG_ASYM, .rw)] }

abbrev ECHO_STAT_LINK : Fld := ⟨31, 30⟩
abbrev ECHO_STAT_DOWNEV : Fld := ⟨29, 29⟩
abbrev ECHO_STAT_TTLOST : Fld := ⟨28, 28⟩
abbrev ECHO_STAT_CFULL : Fld := ⟨27, 27⟩
abbrev ECHO_STAT_BRKEV : Fld := ⟨26, 26⟩
/-- ECHO_STAT (15_echo_and_ethernet.md, line 257). -/
def ECHO_STAT : RegFam :=
  { name := "ECHO_STAT", base := 0x40300004, dims := [(4, 0x10000)], reset := fun _ => 0x00000000,
    flds := [(ECHO_STAT_LINK, .ro), (ECHO_STAT_DOWNEV, .w1c), (ECHO_STAT_TTLOST, .w1c), (ECHO_STAT_CFULL, .w1c),
      (ECHO_STAT_BRKEV, .w1c)] }

abbrev ECHO_CNT_CRC : Fld := ⟨31, 24⟩
abbrev ECHO_CNT_LOSS : Fld := ⟨23, 16⟩
abbrev ECHO_CNT_CLSDROP : Fld := ⟨15, 8⟩
abbrev ECHO_CNT_NOROUTE : Fld := ⟨7, 0⟩
/-- ECHO_CNT (15_echo_and_ethernet.md, line 270). -/
def ECHO_CNT : RegFam :=
  { name := "ECHO_CNT", base := 0x40300008, dims := [(4, 0x10000)], reset := fun _ => 0x00000000,
    flds := [(ECHO_CNT_CRC, .rc), (ECHO_CNT_LOSS, .rc), (ECHO_CNT_CLSDROP, .rc), (ECHO_CNT_NOROUTE, .rc)] }

abbrev ECHO_TTOFS_VALUE : Fld := ⟨31, 0⟩
/-- ECHO_TTOFS (15_echo_and_ethernet.md, line 279). -/
def ECHO_TTOFS : RegFam :=
  { name := "ECHO_TTOFS", base := 0x40300010, dims := [(4, 0x10000)], reset := fun _ => 0x00000000,
    flds := [(ECHO_TTOFS_VALUE, .ro)] }

abbrev ECHO_TTDLY_VALUE : Fld := ⟨31, 0⟩
/-- ECHO_TTDLY (15_echo_and_ethernet.md, line 279). -/
def ECHO_TTDLY : RegFam :=
  { name := "ECHO_TTDLY", base := 0x40300014, dims := [(4, 0x10000)], reset := fun _ => 0x00000000,
    flds := [(ECHO_TTDLY_VALUE, .ro)] }

/-- ECHO_CLSLO (15_echo_and_ethernet.md, line 285). -/
def ECHO_CLSLO : RegFam :=
  { name := "ECHO_CLSLO", base := 0x40300020, dims := [(4, 0x10000)], reset := fun _ => 0x00000000,
    flds := [(⟨3, 0⟩, .rw), (⟨7, 4⟩, .rw), (⟨11, 8⟩, .rw), (⟨15, 12⟩, .rw),
      (⟨19, 16⟩, .rw), (⟨23, 20⟩, .rw), (⟨27, 24⟩, .rw), (⟨31, 28⟩, .rw)] }

/-- ECHO_CLSHI (15_echo_and_ethernet.md, line 285). -/
def ECHO_CLSHI : RegFam :=
  { name := "ECHO_CLSHI", base := 0x40300024, dims := [(4, 0x10000)], reset := fun _ => 0x00000000,
    flds := [(⟨3, 0⟩, .rw), (⟨7, 4⟩, .rw), (⟨11, 8⟩, .rw), (⟨15, 12⟩, .rw),
      (⟨19, 16⟩, .rw), (⟨23, 20⟩, .rw), (⟨27, 24⟩, .rw), (⟨31, 28⟩, .rw)] }

abbrev ECHO_NODE_RSZ : Fld := ⟨29, 24⟩
abbrev ECHO_NODE_ID : Fld := ⟨13, 0⟩
/-- ECHO_NODE (15_echo_and_ethernet.md, line 291). -/
def ECHO_NODE : RegFam :=
  { name := "ECHO_NODE", base := 0x40300100, dims := [(2, 0x20000)], reset := fun _ => 0x00000000,
    flds := [(ECHO_NODE_RSZ, .rw), (ECHO_NODE_ID, .rw)] }

abbrev ECHO_BRKLO_SEG : Fld := ⟨31, 0⟩
/-- ECHO_BRKLO (15_echo_and_ethernet.md, line 300). -/
def ECHO_BRKLO : RegFam :=
  { name := "ECHO_BRKLO", base := 0x40300108, dims := [(2, 0x20000)], reset := fun _ => 0x00000000,
    flds := [(ECHO_BRKLO_SEG, .ro)] }

abbrev ECHO_BRKHI_SEG : Fld := ⟨31, 0⟩
/-- ECHO_BRKHI (15_echo_and_ethernet.md, line 300). -/
def ECHO_BRKHI : RegFam :=
  { name := "ECHO_BRKHI", base := 0x4030010C, dims := [(2, 0x20000)], reset := fun _ => 0x00000000,
    flds := [(ECHO_BRKHI_SEG, .ro)] }

abbrev ECHO_CHCFG_RXEN : Fld := ⟨31, 31⟩
abbrev ECHO_CHCFG_CLASSES : Fld := ⟨15, 0⟩
/-- ECHO_CHCFG (15_echo_and_ethernet.md, line 306). -/
def ECHO_CHCFG : RegFam :=
  { name := "ECHO_CHCFG", base := 0x40300140, dims := [(2, 0x20000), (16, 0x4)], reset := fun i => if i % 16 = 0 then 0x8000FFFF else 0,
    flds := [(ECHO_CHCFG_RXEN, .rw), (ECHO_CHCFG_CLASSES, .rw)] }

abbrev ECHO_TXB_EN : Fld := ⟨31, 31⟩
abbrev ECHO_TXB_MODE : Fld := ⟨30, 30⟩
abbrev ECHO_TXB_CLS : Fld := ⟨29, 26⟩
abbrev ECHO_TXB_RING : Fld := ⟨13, 0⟩
/-- ECHO_TXB (15_echo_and_ethernet.md, line 314). -/
def ECHO_TXB : RegFam :=
  { name := "ECHO_TXB", base := 0x40300200, dims := [(2, 0x20000), (16, 0x8)], reset := fun _ => 0x00000000,
    flds := [(ECHO_TXB_EN, .rw), (ECHO_TXB_MODE, .rw), (ECHO_TXB_CLS, .rw), (ECHO_TXB_RING, .rw)] }

abbrev ECHO_TXBX_REPALL : Fld := ⟨31, 31⟩
abbrev ECHO_TXBX_ACKTMO : Fld := ⟨25, 16⟩
abbrev ECHO_TXBX_CRING : Fld := ⟨13, 0⟩
/-- ECHO_TXBX (15_echo_and_ethernet.md, line 314). -/
def ECHO_TXBX : RegFam :=
  { name := "ECHO_TXBX", base := 0x40300204, dims := [(2, 0x20000), (16, 0x8)], reset := fun _ => 0x00000000,
    flds := [(ECHO_TXBX_REPALL, .rw), (ECHO_TXBX_ACKTMO, .rw), (ECHO_TXBX_CRING, .rw)] }

abbrev ECHO_RT_V : Fld := ⟨31, 31⟩
abbrev ECHO_RT_X : Fld := ⟨30, 30⟩
abbrev ECHO_RT_POS : Fld := ⟨5, 0⟩
/-- ECHO_RT (15_echo_and_ethernet.md, line 325). -/
def ECHO_RT : RegFam :=
  { name := "ECHO_RT", base := 0x40300400, dims := [(2, 0x20000), (256, 0x4)], reset := fun _ => 0x00000000,
    flds := [(ECHO_RT_V, .rw), (ECHO_RT_X, .rw), (ECHO_RT_POS, .rw)] }

abbrev ECHO_MG_V : Fld := ⟨31, 31⟩
abbrev ECHO_MG_NODE : Fld := ⟨29, 16⟩
abbrev ECHO_MG_DRING : Fld := ⟨13, 0⟩
/-- ECHO_MG (15_echo_and_ethernet.md, line 334). -/
def ECHO_MG : RegFam :=
  { name := "ECHO_MG", base := 0x40300800, dims := [(2, 0x20000), (16, 0x40), (16, 0x4)], reset := fun _ => 0x00000000,
    flds := [(ECHO_MG_V, .rw), (ECHO_MG_NODE, .rw), (ECHO_MG_DRING, .rw)] }

abbrev ETH_CFG_EN : Fld := ⟨31, 31⟩
abbrev ETH_CFG_PROMISC : Fld := ⟨30, 30⟩
abbrev ETH_CFG_RXPAUSE : Fld := ⟨29, 29⟩
abbrev ETH_CFG_BCAST : Fld := ⟨28, 28⟩
abbrev ETH_CFG_DEFQ : Fld := ⟨27, 25⟩
abbrev ETH_CFG_PTPQ : Fld := ⟨24, 22⟩
/-- ETH_CFG (15_echo_and_ethernet.md, line 346). -/
def ETH_CFG : RegFam :=
  { name := "ETH_CFG", base := 0x40080000, dims := [(4, 0x10000)], reset := fun _ => 0x31C00000,
    flds := [(ETH_CFG_EN, .rw), (ETH_CFG_PROMISC, .rw), (ETH_CFG_RXPAUSE, .rw), (ETH_CFG_BCAST, .rw),
      (ETH_CFG_DEFQ, .rw), (ETH_CFG_PTPQ, .rw)] }

abbrev ETH_STAT_LINK : Fld := ⟨31, 31⟩
abbrev ETH_STAT_SPEED : Fld := ⟨30, 29⟩
abbrev ETH_STAT_PAUSED : Fld := ⟨28, 28⟩
abbrev ETH_STAT_LINKEV : Fld := ⟨27, 27⟩
/-- ETH_STAT (15_echo_and_ethernet.md, line 358). -/
def ETH_STAT : RegFam :=
  { name := "ETH_STAT", base := 0x40080004, dims := [(4, 0x10000)], reset := fun _ => 0x00000000,
    flds := [(ETH_STAT_LINK, .ro), (ETH_STAT_SPEED, .ro), (ETH_STAT_PAUSED, .ro), (ETH_STAT_LINKEV, .w1c)] }

abbrev ETH_MACLO_VALUE : Fld := ⟨31, 0⟩
/-- ETH_MACLO (15_echo_and_ethernet.md, line 368). -/
def ETH_MACLO : RegFam :=
  { name := "ETH_MACLO", base := 0x40080008, dims := [(4, 0x10000)], reset := fun _ => 0x00000000,
    flds := [(ETH_MACLO_VALUE, .rw)] }

abbrev ETH_MACHI_VALUE : Fld := ⟨15, 0⟩
/-- ETH_MACHI (15_echo_and_ethernet.md, line 368). -/
def ETH_MACHI : RegFam :=
  { name := "ETH_MACHI", base := 0x4008000C, dims := [(4, 0x10000)], reset := fun _ => 0x00000000,
    flds := [(ETH_MACHI_VALUE, .rw)] }

abbrev ETH_HASHLO_VALUE : Fld := ⟨31, 0⟩
/-- ETH_HASHLO (15_echo_and_ethernet.md, line 368). -/
def ETH_HASHLO : RegFam :=
  { name := "ETH_HASHLO", base := 0x40080010, dims := [(4, 0x10000)], reset := fun _ => 0x00000000,
    flds := [(ETH_HASHLO_VALUE, .rw)] }

abbrev ETH_HASHHI_VALUE : Fld := ⟨31, 0⟩
/-- ETH_HASHHI (15_echo_and_ethernet.md, line 368). -/
def ETH_HASHHI : RegFam :=
  { name := "ETH_HASHHI", base := 0x40080014, dims := [(4, 0x10000)], reset := fun _ => 0x00000000,
    flds := [(ETH_HASHHI_VALUE, .rw)] }

/-- ETH_PCPMAP (15_echo_and_ethernet.md, line 374). -/
def ETH_PCPMAP : RegFam :=
  { name := "ETH_PCPMAP", base := 0x40080018, dims := [(4, 0x10000)], reset := fun _ => 0x00FAC688,
    flds := [(⟨2, 0⟩, .rw), (⟨5, 3⟩, .rw), (⟨8, 6⟩, .rw), (⟨11, 9⟩, .rw),
      (⟨14, 12⟩, .rw), (⟨17, 15⟩, .rw), (⟨20, 18⟩, .rw), (⟨23, 21⟩, .rw)] }

abbrev ETH_RXQ_EN : Fld := ⟨31, 31⟩
abbrev ETH_RXQ_RING : Fld := ⟨13, 0⟩
/-- ETH_RXQ (15_echo_and_ethernet.md, line 381). -/
def ETH_RXQ : RegFam :=
  { name := "ETH_RXQ", base := 0x40080040, dims := [(4, 0x10000), (8, 0x4)], reset := fun _ => 0x00000000,
    flds := [(ETH_RXQ_EN, .rw), (ETH_RXQ_RING, .rw)] }

abbrev ETH_TXQ_EN : Fld := ⟨31, 31⟩
abbrev ETH_TXQ_RING : Fld := ⟨13, 0⟩
/-- ETH_TXQ (15_echo_and_ethernet.md, line 381). -/
def ETH_TXQ : RegFam :=
  { name := "ETH_TXQ", base := 0x40080060, dims := [(4, 0x10000), (8, 0x8)], reset := fun _ => 0x00000000,
    flds := [(ETH_TXQ_EN, .rw), (ETH_TXQ_RING, .rw)] }

abbrev ETH_TXC_RING : Fld := ⟨13, 0⟩
/-- ETH_TXC (15_echo_and_ethernet.md, line 381). -/
def ETH_TXC : RegFam :=
  { name := "ETH_TXC", base := 0x40080064, dims := [(4, 0x10000), (8, 0x8)], reset := fun _ => 0x00000000,
    flds := [(ETH_TXC_RING, .rw)] }

/-- ETH_SLOTLO (15_echo_and_ethernet.md, line 389). -/
def ETH_SLOTLO : RegFam :=
  { name := "ETH_SLOTLO", base := 0x400800A0, dims := [(4, 0x10000)], reset := fun _ => 0xFEDCBA98,
    flds := [(⟨3, 3⟩, .rw), (⟨2, 0⟩, .rw), (⟨7, 7⟩, .rw), (⟨6, 4⟩, .rw),
      (⟨11, 11⟩, .rw), (⟨10, 8⟩, .rw), (⟨15, 15⟩, .rw), (⟨14, 12⟩, .rw),
      (⟨19, 19⟩, .rw), (⟨18, 16⟩, .rw), (⟨23, 23⟩, .rw), (⟨22, 20⟩, .rw),
      (⟨27, 27⟩, .rw), (⟨26, 24⟩, .rw), (⟨31, 31⟩, .rw), (⟨30, 28⟩, .rw)] }

/-- ETH_SLOTHI (15_echo_and_ethernet.md, line 389). -/
def ETH_SLOTHI : RegFam :=
  { name := "ETH_SLOTHI", base := 0x400800A4, dims := [(4, 0x10000)], reset := fun _ => 0xFEDCBA98,
    flds := [(⟨3, 3⟩, .rw), (⟨2, 0⟩, .rw), (⟨7, 7⟩, .rw), (⟨6, 4⟩, .rw),
      (⟨11, 11⟩, .rw), (⟨10, 8⟩, .rw), (⟨15, 15⟩, .rw), (⟨14, 12⟩, .rw),
      (⟨19, 19⟩, .rw), (⟨18, 16⟩, .rw), (⟨23, 23⟩, .rw), (⟨22, 20⟩, .rw),
      (⟨27, 27⟩, .rw), (⟨26, 24⟩, .rw), (⟨31, 31⟩, .rw), (⟨30, 28⟩, .rw)] }

abbrev ETH_TSLAT_TXLAT : Fld := ⟨31, 16⟩
abbrev ETH_TSLAT_RXLAT : Fld := ⟨15, 0⟩
/-- ETH_TSLAT (15_echo_and_ethernet.md, line 396). -/
def ETH_TSLAT : RegFam :=
  { name := "ETH_TSLAT", base := 0x400800A8, dims := [(4, 0x10000)], reset := fun _ => 0x00000000,
    flds := [(ETH_TSLAT_TXLAT, .rw), (ETH_TSLAT_RXLAT, .rw)] }

abbrev ETH_CNT_FCS : Fld := ⟨31, 24⟩
abbrev ETH_CNT_LEN : Fld := ⟨23, 16⟩
abbrev ETH_CNT_RXDROP : Fld := ⟨15, 8⟩
abbrev ETH_CNT_TXERR : Fld := ⟨7, 0⟩
/-- ETH_CNT (15_echo_and_ethernet.md, line 403). -/
def ETH_CNT : RegFam :=
  { name := "ETH_CNT", base := 0x400800B0, dims := [(4, 0x10000)], reset := fun _ => 0x00000000,
    flds := [(ETH_CNT_FCS, .rc), (ETH_CNT_LEN, .rc), (ETH_CNT_RXDROP, .rc), (ETH_CNT_TXERR, .rc)] }

abbrev ETH_MDIO_BUSY : Fld := ⟨31, 31⟩
abbrev ETH_MDIO_ST : Fld := ⟨30, 30⟩
abbrev ETH_MDIO_OP : Fld := ⟨29, 28⟩
abbrev ETH_MDIO_PHYAD : Fld := ⟨27, 23⟩
abbrev ETH_MDIO_REGAD : Fld := ⟨22, 18⟩
abbrev ETH_MDIO_DATA : Fld := ⟨15, 0⟩
/-- ETH_MDIO (15_echo_and_ethernet.md, line 412). -/
def ETH_MDIO : RegFam :=
  { name := "ETH_MDIO", base := 0x40080100, dims := [], reset := fun _ => 0x60000000,
    flds := [(ETH_MDIO_BUSY, .ro), (ETH_MDIO_ST, .rw), (ETH_MDIO_OP, .rw), (ETH_MDIO_PHYAD, .rw),
      (ETH_MDIO_REGAD, .rw), (ETH_MDIO_DATA, .rw)] }

abbrev CAN_IRQ_EN : Fld := ⟨31, 31⟩
abbrev CAN_IRQ_COL : Fld := ⟨30, 28⟩
/-- CAN_IRQ (16_can_and_serial.md, line 21). -/
def CAN_IRQ : RegFam :=
  { name := "CAN_IRQ", base := 0x401000FC, dims := [(8, 0x10000)], reset := fun _ => 0x40000000,
    flds := [(CAN_IRQ_EN, .rw), (CAN_IRQ_COL, .rw)] }

abbrev SPI_IRQ_EN : Fld := ⟨31, 31⟩
abbrev SPI_IRQ_COL : Fld := ⟨30, 28⟩
/-- SPI_IRQ (16_can_and_serial.md, line 21). -/
def SPI_IRQ : RegFam :=
  { name := "SPI_IRQ", base := 0x402000FC, dims := [(4, 0x10000)], reset := fun _ => 0x40000000,
    flds := [(SPI_IRQ_EN, .rw), (SPI_IRQ_COL, .rw)] }

abbrev XSPI_IRQ_EN : Fld := ⟨31, 31⟩
abbrev XSPI_IRQ_COL : Fld := ⟨30, 28⟩
/-- XSPI_IRQ (16_can_and_serial.md, line 21). -/
def XSPI_IRQ : RegFam :=
  { name := "XSPI_IRQ", base := 0x402400FC, dims := [], reset := fun _ => 0x40000000,
    flds := [(XSPI_IRQ_EN, .rw), (XSPI_IRQ_COL, .rw)] }

abbrev UART_IRQ_EN : Fld := ⟨31, 31⟩
abbrev UART_IRQ_COL : Fld := ⟨30, 28⟩
/-- UART_IRQ (16_can_and_serial.md, line 21). -/
def UART_IRQ : RegFam :=
  { name := "UART_IRQ", base := 0x402800FC, dims := [(2, 0x10000)], reset := fun _ => 0x40000000,
    flds := [(UART_IRQ_EN, .rw), (UART_IRQ_COL, .rw)] }

abbrev I2C_IRQ_EN : Fld := ⟨31, 31⟩
abbrev I2C_IRQ_COL : Fld := ⟨30, 28⟩
/-- I2C_IRQ (16_can_and_serial.md, line 21). -/
def I2C_IRQ : RegFam :=
  { name := "I2C_IRQ", base := 0x402C00FC, dims := [(2, 0x10000)], reset := fun _ => 0x40000000,
    flds := [(I2C_IRQ_EN, .rw), (I2C_IRQ_COL, .rw)] }

abbrev AVS_IRQ_EN : Fld := ⟨31, 31⟩
abbrev AVS_IRQ_COL : Fld := ⟨30, 28⟩
/-- AVS_IRQ (16_can_and_serial.md, line 21). -/
def AVS_IRQ : RegFam :=
  { name := "AVS_IRQ", base := 0x402E00FC, dims := [(2, 0x10000)], reset := fun _ => 0x40000000,
    flds := [(AVS_IRQ_EN, .rw), (AVS_IRQ_COL, .rw)] }

abbrev GPIO_IRQ_EN : Fld := ⟨31, 31⟩
abbrev GPIO_IRQ_COL : Fld := ⟨30, 28⟩
/-- GPIO_IRQ (16_can_and_serial.md, line 21). -/
def GPIO_IRQ : RegFam :=
  { name := "GPIO_IRQ", base := 0x404000FC, dims := [], reset := fun _ => 0x40000000,
    flds := [(GPIO_IRQ_EN, .rw), (GPIO_IRQ_COL, .rw)] }

abbrev ECHO_IRQ_EN : Fld := ⟨31, 31⟩
abbrev ECHO_IRQ_COL : Fld := ⟨30, 28⟩
/-- ECHO_IRQ (16_can_and_serial.md, line 21). -/
def ECHO_IRQ : RegFam :=
  { name := "ECHO_IRQ", base := 0x403000FC, dims := [(4, 0x10000)], reset := fun _ => 0x40000000,
    flds := [(ECHO_IRQ_EN, .rw), (ECHO_IRQ_COL, .rw)] }

abbrev ETH_IRQ_EN : Fld := ⟨31, 31⟩
abbrev ETH_IRQ_COL : Fld := ⟨30, 28⟩
/-- ETH_IRQ (16_can_and_serial.md, line 21). -/
def ETH_IRQ : RegFam :=
  { name := "ETH_IRQ", base := 0x400800FC, dims := [(4, 0x10000)], reset := fun _ => 0x40000000,
    flds := [(ETH_IRQ_EN, .rw), (ETH_IRQ_COL, .rw)] }

abbrev THERM_IRQ_EN : Fld := ⟨31, 31⟩
abbrev THERM_IRQ_COL : Fld := ⟨30, 28⟩
/-- THERM_IRQ (16_can_and_serial.md, line 21). -/
def THERM_IRQ : RegFam :=
  { name := "THERM_IRQ", base := 0x400300FC, dims := [], reset := fun _ => 0x40000000,
    flds := [(THERM_IRQ_EN, .rw), (THERM_IRQ_COL, .rw)] }

abbrev PWR_IRQ_EN : Fld := ⟨31, 31⟩
abbrev PWR_IRQ_COL : Fld := ⟨30, 28⟩
/-- PWR_IRQ (16_can_and_serial.md, line 21). -/
def PWR_IRQ : RegFam :=
  { name := "PWR_IRQ", base := 0x400200FC, dims := [], reset := fun _ => 0x40000000,
    flds := [(PWR_IRQ_EN, .rw), (PWR_IRQ_COL, .rw)] }

abbrev LAN_IRQ_EN : Fld := ⟨31, 31⟩
abbrev LAN_IRQ_COL : Fld := ⟨30, 28⟩
/-- LAN_IRQ (16_can_and_serial.md, line 21). -/
def LAN_IRQ : RegFam :=
  { name := "LAN_IRQ", base := 0x220700FC, dims := [(4, 0x4000000)], reset := fun _ => 0x40000000,
    flds := [(LAN_IRQ_EN, .rw), (LAN_IRQ_COL, .rw)] }

abbrev DRIP_IRQ_EN : Fld := ⟨31, 31⟩
abbrev DRIP_IRQ_COL : Fld := ⟨30, 28⟩
/-- DRIP_IRQ (16_can_and_serial.md, line 21). -/
def DRIP_IRQ : RegFam :=
  { name := "DRIP_IRQ", base := 0x400400FC, dims := [], reset := fun _ => 0x40000000,
    flds := [(DRIP_IRQ_EN, .rw), (DRIP_IRQ_COL, .rw)] }

abbrev CAN_CFG_EN : Fld := ⟨31, 31⟩
abbrev CAN_CFG_MODE : Fld := ⟨30, 29⟩
abbrev CAN_CFG_TXPRIO : Fld := ⟨28, 28⟩
abbrev CAN_CFG_AUTOREC : Fld := ⟨27, 27⟩
abbrev CAN_CFG_PEXEN : Fld := ⟨26, 26⟩
/-- CAN_CFG (16_can_and_serial.md, line 136). -/
def CAN_CFG : RegFam :=
  { name := "CAN_CFG", base := 0x40100000, dims := [(8, 0x10000)], reset := fun _ => 0x08000000,
    flds := [(CAN_CFG_EN, .rw), (CAN_CFG_MODE, .st), (CAN_CFG_TXPRIO, .st), (CAN_CFG_AUTOREC, .rw),
      (CAN_CFG_PEXEN, .st)] }

abbrev CAN_NBT_TRIPLE : Fld := ⟨31, 31⟩
abbrev CAN_NBT_NBRP : Fld := ⟨30, 23⟩
abbrev CAN_NBT_NTSEG1 : Fld := ⟨22, 15⟩
abbrev CAN_NBT_NTSEG2 : Fld := ⟨14, 8⟩
abbrev CAN_NBT_NSJW : Fld := ⟨6, 0⟩
/-- CAN_NBT (16_can_and_serial.md, line 147). -/
def CAN_NBT : RegFam :=
  { name := "CAN_NBT", base := 0x40100004, dims := [(8, 0x10000)], reset := fun _ => 0x003F1F1F,
    flds := [(CAN_NBT_TRIPLE, .st), (CAN_NBT_NBRP, .st), (CAN_NBT_NTSEG1, .st), (CAN_NBT_NTSEG2, .st),
      (CAN_NBT_NSJW, .st)] }

abbrev CAN_DBT_DBRP : Fld := ⟨31, 27⟩
abbrev CAN_DBT_DTSEG1 : Fld := ⟨26, 22⟩
abbrev CAN_DBT_DTSEG2 : Fld := ⟨21, 18⟩
abbrev CAN_DBT_DSJW : Fld := ⟨17, 14⟩
abbrev CAN_DBT_TDC : Fld := ⟨13, 13⟩
abbrev CAN_DBT_TDCO : Fld := ⟨12, 6⟩
/-- CAN_DBT (16_can_and_serial.md, line 147). -/
def CAN_DBT : RegFam :=
  { name := "CAN_DBT", base := 0x40100008, dims := [(8, 0x10000)], reset := fun _ => 0x07266780,
    flds := [(CAN_DBT_DBRP, .st), (CAN_DBT_DTSEG1, .st), (CAN_DBT_DTSEG2, .st), (CAN_DBT_DSJW, .st),
      (CAN_DBT_TDC, .st), (CAN_DBT_TDCO, .st)] }

abbrev CAN_CTRL_RECOVER : Fld := ⟨0, 0⟩
/-- CAN_CTRL (16_can_and_serial.md, line 156). -/
def CAN_CTRL : RegFam :=
  { name := "CAN_CTRL", base := 0x4010000C, dims := [(8, 0x10000)], reset := fun _ => 0x00000000,
    flds := [(CAN_CTRL_RECOVER, .wo)] }

abbrev CAN_STAT_TXDONE : Fld := ⟨31, 29⟩
abbrev CAN_STAT_RXAV : Fld := ⟨28, 28⟩
abbrev CAN_STAT_RXLOST : Fld := ⟨27, 27⟩
abbrev CAN_STAT_BOFF : Fld := ⟨26, 26⟩
abbrev CAN_STAT_EPASS : Fld := ⟨25, 25⟩
abbrev CAN_STAT_PEX : Fld := ⟨24, 24⟩
abbrev CAN_STAT_TRIPIGN : Fld := ⟨23, 23⟩
/-- CAN_STAT (16_can_and_serial.md, line 163). -/
def CAN_STAT : RegFam :=
  { name := "CAN_STAT", base := 0x40100010, dims := [(8, 0x10000)], reset := fun _ => 0x00000000,
    flds := [(CAN_STAT_TXDONE, .w1c), (CAN_STAT_RXAV, .w1c), (CAN_STAT_RXLOST, .w1c), (CAN_STAT_BOFF, .w1c),
      (CAN_STAT_EPASS, .w1c), (CAN_STAT_PEX, .w1c), (CAN_STAT_TRIPIGN, .w1c)] }

abbrev CAN_ERR_STATE : Fld := ⟨31, 30⟩
abbrev CAN_ERR_LEC : Fld := ⟨29, 27⟩
abbrev CAN_ERR_REC : Fld := ⟨23, 16⟩
abbrev CAN_ERR_TEC : Fld := ⟨15, 8⟩
/-- CAN_ERR (16_can_and_serial.md, line 176). -/
def CAN_ERR : RegFam :=
  { name := "CAN_ERR", base := 0x40100014, dims := [(8, 0x10000)], reset := fun _ => 0x00000000,
    flds := [(CAN_ERR_STATE, .ro), (CAN_ERR_LEC, .ro), (CAN_ERR_REC, .ro), (CAN_ERR_TEC, .ro)] }

abbrev CAN_CNT_RXDROP : Fld := ⟨31, 16⟩
abbrev CAN_CNT_RXNOM : Fld := ⟨15, 0⟩
/-- CAN_CNT (16_can_and_serial.md, line 187). -/
def CAN_CNT : RegFam :=
  { name := "CAN_CNT", base := 0x40100018, dims := [(8, 0x10000)], reset := fun _ => 0x00000000,
    flds := [(CAN_CNT_RXDROP, .rc), (CAN_CNT_RXNOM, .rc)] }

abbrev CAN_FLTID_IDE : Fld := ⟨31, 31⟩
abbrev CAN_FLTID_RTR : Fld := ⟨30, 30⟩
abbrev CAN_FLTID_ID : Fld := ⟨28, 0⟩
/-- CAN_FLTID (16_can_and_serial.md, line 194). -/
def CAN_FLTID : RegFam :=
  { name := "CAN_FLTID", base := 0x40100040, dims := [(8, 0x10000), (16, 0x10)], reset := fun _ => 0x00000000,
    flds := [(CAN_FLTID_IDE, .rw), (CAN_FLTID_RTR, .rw), (CAN_FLTID_ID, .rw)] }

abbrev CAN_FLTM_RTRM : Fld := ⟨30, 30⟩
abbrev CAN_FLTM_MASK : Fld := ⟨28, 0⟩
/-- CAN_FLTM (16_can_and_serial.md, line 194). -/
def CAN_FLTM : RegFam :=
  { name := "CAN_FLTM", base := 0x40100044, dims := [(8, 0x10000), (16, 0x10)], reset := fun _ => 0x00000000,
    flds := [(CAN_FLTM_RTRM, .rw), (CAN_FLTM_MASK, .rw)] }

abbrev CAN_FLTC_EN : Fld := ⟨31, 31⟩
abbrev CAN_FLTC_RING : Fld := ⟨13, 0⟩
/-- CAN_FLTC (16_can_and_serial.md, line 194). -/
def CAN_FLTC : RegFam :=
  { name := "CAN_FLTC", base := 0x40100048, dims := [(8, 0x10000), (16, 0x10)], reset := fun _ => 0x00000000,
    flds := [(CAN_FLTC_EN, .rw), (CAN_FLTC_RING, .rw)] }

abbrev CAN_TXB_ID_VALUE : Fld := ⟨31, 0⟩
/-- CAN_TXB_ID (16_can_and_serial.md, line 204). -/
def CAN_TXB_ID : RegFam :=
  { name := "CAN_TXB_ID", base := 0x40100200, dims := [(8, 0x10000), (3, 0x80)], reset := fun _ => 0x00000000,
    flds := [(CAN_TXB_ID_VALUE, .rw)] }

abbrev CAN_TXB_DATA_VALUE : Fld := ⟨31, 0⟩
/-- CAN_TXB_DATA (16_can_and_serial.md, line 204). -/
def CAN_TXB_DATA : RegFam :=
  { name := "CAN_TXB_DATA", base := 0x40100240, dims := [(8, 0x10000), (3, 0x80), (16, 0x4)], reset := fun _ => 0x00000000,
    flds := [(CAN_TXB_DATA_VALUE, .rw)] }

abbrev CAN_TXB_CTL_FDF : Fld := ⟨31, 31⟩
abbrev CAN_TXB_CTL_BRS : Fld := ⟨30, 30⟩
abbrev CAN_TXB_CTL_DLC : Fld := ⟨29, 26⟩
abbrev CAN_TXB_CTL_ABORT : Fld := ⟨1, 1⟩
abbrev CAN_TXB_CTL_REQ : Fld := ⟨0, 0⟩
/-- CAN_TXB_CTL (16_can_and_serial.md, line 204). -/
def CAN_TXB_CTL : RegFam :=
  { name := "CAN_TXB_CTL", base := 0x40100204, dims := [(8, 0x10000), (3, 0x80)], reset := fun _ => 0x00000000,
    flds := [(CAN_TXB_CTL_FDF, .rw), (CAN_TXB_CTL_BRS, .rw), (CAN_TXB_CTL_DLC, .rw), (CAN_TXB_CTL_ABORT, .wo),
      (CAN_TXB_CTL_REQ, .wo)] }

abbrev CAN_TXB_RES_PEND : Fld := ⟨31, 31⟩
abbrev CAN_TXB_RES_STATUS : Fld := ⟨23, 16⟩
/-- CAN_TXB_RES (16_can_and_serial.md, line 215). -/
def CAN_TXB_RES : RegFam :=
  { name := "CAN_TXB_RES", base := 0x40100208, dims := [(8, 0x10000), (3, 0x80)], reset := fun _ => 0x00000000,
    flds := [(CAN_TXB_RES_PEND, .ro), (CAN_TXB_RES_STATUS, .ro)] }

abbrev CAN_TXB_TS_NS : Fld := ⟨31, 0⟩
/-- CAN_TXB_TS (16_can_and_serial.md, line 215). -/
def CAN_TXB_TS : RegFam :=
  { name := "CAN_TXB_TS", base := 0x4010020C, dims := [(8, 0x10000), (3, 0x80)], reset := fun _ => 0x00000000,
    flds := [(CAN_TXB_TS_NS, .ro)] }

abbrev THERM_S_VALID : Fld := ⟨31, 31⟩
abbrev THERM_S_BAD : Fld := ⟨30, 30⟩
abbrev THERM_S_T : Fld := ⟨15, 0⟩
/-- THERM_S (17_thermal.md, line 240). -/
def THERM_S : RegFam :=
  { name := "THERM_S", base := 0x40030000, dims := [(24, 0x4)], reset := fun _ => 0x00000000,
    flds := [(THERM_S_VALID, .ro), (THERM_S_BAD, .w1c), (THERM_S_T, .ro)] }

abbrev THERM_STAT_STEP : Fld := ⟨31, 29⟩
abbrev THERM_STAT_TLVL : Fld := ⟨28, 27⟩
abbrev THERM_STAT_WARN : Fld := ⟨26, 26⟩
abbrev THERM_STAT_STOPREQ : Fld := ⟨25, 25⟩
abbrev THERM_STAT_HALT : Fld := ⟨24, 24⟩
abbrev THERM_STAT_LATCH : Fld := ⟨23, 23⟩
abbrev THERM_STAT_BUDOVR : Fld := ⟨22, 22⟩
abbrev THERM_STAT_STEPEV : Fld := ⟨21, 21⟩
abbrev THERM_STAT_FEWSENS : Fld := ⟨20, 20⟩
abbrev THERM_STAT_TDIE : Fld := ⟨15, 0⟩
/-- THERM_STAT (17_thermal.md, line 249). -/
def THERM_STAT : RegFam :=
  { name := "THERM_STAT", base := 0x40030080, dims := [], reset := fun _ => 0x00000000,
    flds := [(THERM_STAT_STEP, .ro), (THERM_STAT_TLVL, .ro), (THERM_STAT_WARN, .w1c), (THERM_STAT_STOPREQ, .ro),
      (THERM_STAT_HALT, .ro), (THERM_STAT_LATCH, .ro), (THERM_STAT_BUDOVR, .w1c), (THERM_STAT_STEPEV, .w1c),
      (THERM_STAT_FEWSENS, .w1c), (THERM_STAT_TDIE, .ro)] }

abbrev THERM_CTRL_SERVICE : Fld := ⟨31, 31⟩
/-- THERM_CTRL (17_thermal.md, line 265). -/
def THERM_CTRL : RegFam :=
  { name := "THERM_CTRL", base := 0x40030084, dims := [], reset := fun _ => 0x00000000,
    flds := [(THERM_CTRL_SERVICE, .rw)] }

abbrev THERM_THR_TWARN : Fld := ⟨31, 24⟩
abbrev THERM_THR_TSTOP : Fld := ⟨23, 16⟩
abbrev THERM_THR_HYS : Fld := ⟨15, 8⟩
/-- THERM_THR (17_thermal.md, line 272). -/
def THERM_THR : RegFam :=
  { name := "THERM_THR", base := 0x40030088, dims := [], reset := fun _ => 0x7D910300,
    flds := [(THERM_THR_TWARN, .rw), (THERM_THR_TSTOP, .rw), (THERM_THR_HYS, .rw)] }

/-- THERM_RIMLO (17_thermal.md, line 281). -/
def THERM_RIMLO : RegFam :=
  { name := "THERM_RIMLO", base := 0x4003008C, dims := [], reset := fun _ => 0x7D78736E,
    flds := [(⟨7, 0⟩, .rw), (⟨15, 8⟩, .rw), (⟨23, 16⟩, .rw), (⟨31, 24⟩, .rw)] }

/-- THERM_RIMHI (17_thermal.md, line 281). -/
def THERM_RIMHI : RegFam :=
  { name := "THERM_RIMHI", base := 0x40030090, dims := [], reset := fun _ => 0x008C8782,
    flds := [(⟨7, 0⟩, .rw), (⟨15, 8⟩, .rw), (⟨23, 16⟩, .rw)] }

abbrev THERM_EST_I : Fld := ⟨15, 0⟩
/-- THERM_EST (17_thermal.md, line 287). -/
def THERM_EST : RegFam :=
  { name := "THERM_EST", base := 0x40030094, dims := [], reset := fun _ => 0x00000000,
    flds := [(THERM_EST_I, .ro)] }

abbrev THERM_KCOEF_KCELL : Fld := ⟨31, 24⟩
abbrev THERM_KCOEF_KCOL : Fld := ⟨23, 16⟩
abbrev THERM_KCOEF_KDRIP : Fld := ⟨15, 8⟩
abbrev THERM_KCOEF_IHYS : Fld := ⟨7, 0⟩
/-- THERM_KCOEF (17_thermal.md, line 294). -/
def THERM_KCOEF : RegFam :=
  { name := "THERM_KCOEF", base := 0x40030098, dims := [], reset := fun _ => 0x6E3C1E32,
    flds := [(THERM_KCOEF_KCELL, .rw), (THERM_KCOEF_KCOL, .rw), (THERM_KCOEF_KDRIP, .rw), (THERM_KCOEF_IHYS, .rw)] }

abbrev THERM_BUD_VALUE : Fld := ⟨15, 0⟩
/-- THERM_BUD (17_thermal.md, line 303). -/
def THERM_BUD : RegFam :=
  { name := "THERM_BUD", base := 0x400300A0, dims := [(8, 0x4)], reset := fun i => BitVec.ofNat 32 (3200 - 200 * i),
    flds := [(THERM_BUD_VALUE, .rw)] }

abbrev THERM_LEAK_VALUE : Fld := ⟨15, 0⟩
/-- THERM_LEAK (17_thermal.md, line 303). -/
def THERM_LEAK : RegFam :=
  { name := "THERM_LEAK", base := 0x400300C0, dims := [(8, 0x4)], reset := fun i => BitVec.ofNat 32 ([20, 40, 80, 150, 260, 430, 720, 1200].getD i 0),
    flds := [(THERM_LEAK_VALUE, .rw)] }

abbrev GRT_TEMP_T1 : Fld := ⟨31, 16⟩
abbrev GRT_TEMP_T0 : Fld := ⟨15, 0⟩
/-- GRT_TEMP (17_thermal.md, line 312). -/
def GRT_TEMP : RegFam :=
  { name := "GRT_TEMP", base := 0x18001160, dims := [], reset := fun _ => 0x00000000,
    flds := [(GRT_TEMP_T1, .ro), (GRT_TEMP_T0, .ro)] }

abbrev LAN_CFG_EN : Fld := ⟨31, 31⟩
abbrev LAN_CFG_RIMEN : Fld := ⟨30, 30⟩
abbrev LAN_CFG_BADTAB : Fld := ⟨29, 29⟩
abbrev LAN_CFG_VADC : Fld := ⟨28, 27⟩
abbrev LAN_CFG_VCH : Fld := ⟨26, 24⟩
/-- LAN_CFG (17_thermal.md, line 321). -/
def LAN_CFG : RegFam :=
  { name := "LAN_CFG", base := 0x22070000, dims := [(4, 0x4000000)], reset := fun _ => 0x00000000,
    flds := [(LAN_CFG_EN, .rw), (LAN_CFG_RIMEN, .rw), (LAN_CFG_BADTAB, .w1c), (LAN_CFG_VADC, .rw),
      (LAN_CFG_VCH, .rw)] }

abbrev LAN_TBASE_BASE : Fld := ⟨20, 8⟩
/-- LAN_TBASE (17_thermal.md, line 332). -/
def LAN_TBASE : RegFam :=
  { name := "LAN_TBASE", base := 0x22070004, dims := [(4, 0x4000000)], reset := fun _ => 0x00000000,
    flds := [(LAN_TBASE_BASE, .rw)] }

abbrev LAN_SCALE_IFS : Fld := ⟨31, 16⟩
abbrev LAN_SCALE_VFS : Fld := ⟨15, 0⟩
/-- LAN_SCALE (17_thermal.md, line 340). -/
def LAN_SCALE : RegFam :=
  { name := "LAN_SCALE", base := 0x22070008, dims := [(4, 0x4000000)], reset := fun _ => 0x07D008CA,
    flds := [(LAN_SCALE_IFS, .rw), (LAN_SCALE_VFS, .rw)] }

/-- LAN_VGRID (17_thermal.md, line 347). -/
def LAN_VGRID : RegFam :=
  { name := "LAN_VGRID", base := 0x2207000C, dims := [(4, 0x4000000)], reset := fun _ => 0xF0C8A078,
    flds := [(⟨7, 0⟩, .rw), (⟨15, 8⟩, .rw), (⟨23, 16⟩, .rw), (⟨31, 24⟩, .rw)] }

/-- LAN_TGRID (17_thermal.md, line 347). -/
def LAN_TGRID : RegFam :=
  { name := "LAN_TGRID", base := 0x22070010, dims := [(4, 0x4000000)], reset := fun _ => 0x967D4B19,
    flds := [(⟨7, 0⟩, .rw), (⟨15, 8⟩, .rw), (⟨23, 16⟩, .rw), (⟨31, 24⟩, .rw)] }

abbrev LAN_NTC_NTCAGE : Fld := ⟨31, 16⟩
abbrev LAN_NTC_TREFDEF : Fld := ⟨15, 0⟩
/-- LAN_NTC (17_thermal.md, line 353). -/
def LAN_NTC : RegFam :=
  { name := "LAN_NTC", base := 0x22070014, dims := [(4, 0x4000000)], reset := fun _ => 0x27100690,
    flds := [(LAN_NTC_NTCAGE, .rw), (LAN_NTC_TREFDEF, .rw)] }

abbrev LAN_LCFG_EN : Fld := ⟨31, 31⟩
abbrev LAN_LCFG_ISRC : Fld := ⟨30, 30⟩
abbrev LAN_LCFG_ADC : Fld := ⟨29, 28⟩
abbrev LAN_LCFG_CH : Fld := ⟨27, 25⟩
abbrev LAN_LCFG_NGDL : Fld := ⟨24, 21⟩
abbrev LAN_LCFG_NPOLL : Fld := ⟨20, 18⟩
/-- LAN_LCFG (17_thermal.md, line 360). -/
def LAN_LCFG : RegFam :=
  { name := "LAN_LCFG", base := 0x22070040, dims := [(4, 0x4000000), (12, 0x4)], reset := fun _ => 0x00000000,
    flds := [(LAN_LCFG_EN, .rw), (LAN_LCFG_ISRC, .rw), (LAN_LCFG_ADC, .rw), (LAN_LCFG_CH, .rw),
      (LAN_LCFG_NGDL, .rw), (LAN_LCFG_NPOLL, .rw)] }

abbrev LAN_I_I : Fld := ⟨15, 0⟩
/-- LAN_I (17_thermal.md, line 372). -/
def LAN_I : RegFam :=
  { name := "LAN_I", base := 0x22070080, dims := [(4, 0x4000000), (12, 0x4)], reset := fun _ => 0x00000000,
    flds := [(LAN_I_I, .rw)] }

abbrev LAN_FS_R : Fld := ⟨31, 16⟩
abbrev LAN_FS_ASH : Fld := ⟨15, 12⟩
abbrev LAN_FS_A : Fld := ⟨11, 0⟩
/-- LAN_FS (17_thermal.md, line 379). -/
def LAN_FS : RegFam :=
  { name := "LAN_FS", base := 0x220700B0, dims := [(4, 0x4000000), (4, 0x4)], reset := fun _ => 0x00000000,
    flds := [(LAN_FS_R, .rw), (LAN_FS_ASH, .rw), (LAN_FS_A, .rw)] }

abbrev LAN_FD_R : Fld := ⟨31, 16⟩
abbrev LAN_FD_ASH : Fld := ⟨15, 12⟩
abbrev LAN_FD_A : Fld := ⟨11, 0⟩
/-- LAN_FD (17_thermal.md, line 379). -/
def LAN_FD : RegFam :=
  { name := "LAN_FD", base := 0x220700C0, dims := [(4, 0x4000000), (4, 0x4)], reset := fun _ => 0x00000000,
    flds := [(LAN_FD_R, .rw), (LAN_FD_ASH, .rw), (LAN_FD_A, .rw)] }

/-- LAN_RTHLO (17_thermal.md, line 387). -/
def LAN_RTHLO : RegFam :=
  { name := "LAN_RTHLO", base := 0x220700D0, dims := [(4, 0x4000000)], reset := fun _ => 0x7D78736E,
    flds := [(⟨7, 0⟩, .rw), (⟨15, 8⟩, .rw), (⟨23, 16⟩, .rw), (⟨31, 24⟩, .rw)] }

abbrev LAN_RTHHI_RHYS : Fld := ⟨31, 24⟩
abbrev LAN_RTHHI_TH0 : Fld := ⟨7, 0⟩
abbrev LAN_RTHHI_TH1 : Fld := ⟨15, 8⟩
abbrev LAN_RTHHI_TH2 : Fld := ⟨23, 16⟩
/-- LAN_RTHHI (17_thermal.md, line 387). -/
def LAN_RTHHI : RegFam :=
  { name := "LAN_RTHHI", base := 0x220700D4, dims := [(4, 0x4000000)], reset := fun _ => 0x038C8782,
    flds := [(LAN_RTHHI_RHYS, .rw), (LAN_RTHHI_TH0, .rw), (LAN_RTHHI_TH1, .rw), (LAN_RTHHI_TH2, .rw)] }

abbrev LAN_RLIM_LIM : Fld := ⟨15, 0⟩
/-- LAN_RLIM (17_thermal.md, line 394). -/
def LAN_RLIM : RegFam :=
  { name := "LAN_RLIM", base := 0x22070100, dims := [(4, 0x4000000), (8, 0x4)], reset := fun i => BitVec.ofNat 32 (0x7FFF - 0x800 * (i % 8)),
    flds := [(LAN_RLIM_LIM, .rw)] }

abbrev LAN_BSTAT_STEP : Fld := ⟨31, 29⟩
abbrev LAN_BSTAT_OT : Fld := ⟨28, 28⟩
abbrev LAN_BSTAT_NTCSTALE : Fld := ⟨27, 27⟩
abbrev LAN_BSTAT_STEPEV : Fld := ⟨26, 26⟩
abbrev LAN_BSTAT_W : Fld := ⟨23, 16⟩
abbrev LAN_BSTAT_TJMAX : Fld := ⟨15, 0⟩
/-- LAN_BSTAT (17_thermal.md, line 401). -/
def LAN_BSTAT : RegFam :=
  { name := "LAN_BSTAT", base := 0x22070120, dims := [(4, 0x4000000), (4, 0x4)], reset := fun _ => 0x00FF0000,
    flds := [(LAN_BSTAT_STEP, .ro), (LAN_BSTAT_OT, .w1c), (LAN_BSTAT_NTCSTALE, .w1c), (LAN_BSTAT_STEPEV, .w1c),
      (LAN_BSTAT_W, .ro), (LAN_BSTAT_TJMAX, .ro)] }

abbrev LAN_BLIM_LIM : Fld := ⟨15, 0⟩
/-- LAN_BLIM (17_thermal.md, line 413). -/
def LAN_BLIM : RegFam :=
  { name := "LAN_BLIM", base := 0x22070130, dims := [(4, 0x4000000), (4, 0x4)], reset := fun _ => 0x00007FFF,
    flds := [(LAN_BLIM_LIM, .ro)] }

abbrev LAN_EVT_NEV : Fld := ⟨31, 31⟩
abbrev LAN_EVT_CELL : Fld := ⟨30, 26⟩
abbrev LAN_EVT_VEC : Fld := ⟨25, 22⟩
abbrev LAN_EVT_TJOT : Fld := ⟨15, 8⟩
abbrev LAN_EVT_HSPAN : Fld := ⟨7, 0⟩
/-- LAN_EVT (17_thermal.md, line 420). -/
def LAN_EVT : RegFam :=
  { name := "LAN_EVT", base := 0x22070140, dims := [(4, 0x4000000)], reset := fun _ => 0x00009640,
    flds := [(LAN_EVT_NEV, .rw), (LAN_EVT_CELL, .rw), (LAN_EVT_VEC, .rw), (LAN_EVT_TJOT, .rw),
      (LAN_EVT_HSPAN, .rw)] }

abbrev LAN_TJA_SW : Fld := ⟨31, 16⟩
abbrev LAN_TJA_DIO : Fld := ⟨15, 0⟩
/-- LAN_TJA (17_thermal.md, line 433). -/
def LAN_TJA : RegFam :=
  { name := "LAN_TJA", base := 0x22070200, dims := [(4, 0x4000000), (12, 0x8)], reset := fun _ => 0x00000000,
    flds := [(LAN_TJA_SW, .ro), (LAN_TJA_DIO, .ro)] }

abbrev LAN_TJB_SW : Fld := ⟨31, 16⟩
abbrev LAN_TJB_DIO : Fld := ⟨15, 0⟩
/-- LAN_TJB (17_thermal.md, line 433). -/
def LAN_TJB : RegFam :=
  { name := "LAN_TJB", base := 0x22070204, dims := [(4, 0x4000000), (12, 0x8)], reset := fun _ => 0x00000000,
    flds := [(LAN_TJB_SW, .ro), (LAN_TJB_DIO, .ro)] }

abbrev PWR_CTRL_REQ : Fld := ⟨31, 31⟩
abbrev PWR_CTRL_TARGET : Fld := ⟨2, 0⟩
/-- PWR_CTRL (18_power_states.md, line 224). -/
def PWR_CTRL : RegFam :=
  { name := "PWR_CTRL", base := 0x40020000, dims := [], reset := fun _ => 0x00000000,
    flds := [(PWR_CTRL_REQ, .wo), (PWR_CTRL_TARGET, .wo)] }

abbrev PWR_STAT_BUSY : Fld := ⟨31, 31⟩
abbrev PWR_STAT_TARGET : Fld := ⟨30, 28⟩
abbrev PWR_STAT_CONSENTP : Fld := ⟨25, 25⟩
abbrev PWR_STAT_CONSENTK : Fld := ⟨24, 24⟩
abbrev PWR_STAT_RESULT : Fld := ⟨23, 16⟩
abbrev PWR_STAT_ABPT : Fld := ⟨15, 13⟩
abbrev PWR_STAT_REASON : Fld := ⟨12, 8⟩
abbrev PWR_STAT_DONE : Fld := ⟨7, 7⟩
/-- PWR_STAT (18_power_states.md, line 232). -/
def PWR_STAT : RegFam :=
  { name := "PWR_STAT", base := 0x40020004, dims := [], reset := fun _ => 0x00000000,
    flds := [(PWR_STAT_BUSY, .ro), (PWR_STAT_TARGET, .ro), (PWR_STAT_CONSENTP, .ro), (PWR_STAT_CONSENTK, .ro),
      (PWR_STAT_RESULT, .ro), (PWR_STAT_ABPT, .ro), (PWR_STAT_REASON, .ro), (PWR_STAT_DONE, .w1c)] }

abbrev PWR_CFG_WAKE_RETRY : Fld := ⟨31, 24⟩
abbrev PWR_CFG_QTMO : Fld := ⟨15, 0⟩
/-- PWR_CFG (18_power_states.md, line 247). -/
def PWR_CFG : RegFam :=
  { name := "PWR_CFG", base := 0x40020008, dims := [], reset := fun _ => 0x03000064,
    flds := [(PWR_CFG_WAKE_RETRY, .rw), (PWR_CFG_QTMO, .rw)] }

abbrev PWR_WCFG_EN : Fld := ⟨31, 31⟩
abbrev PWR_WCFG_WLVL : Fld := ⟨30, 30⟩
abbrev PWR_WCFG_LATCH : Fld := ⟨29, 29⟩
abbrev PWR_WCFG_FILT : Fld := ⟨28, 26⟩
abbrev PWR_WCFG_SPER : Fld := ⟨25, 16⟩
abbrev PWR_WCFG_HYS : Fld := ⟨15, 8⟩
abbrev PWR_WCFG_THR : Fld := ⟨7, 0⟩
/-- PWR_WCFG (18_power_states.md, line 255). -/
def PWR_WCFG : RegFam :=
  { name := "PWR_WCFG", base := 0x40020040, dims := [(8, 0x4)], reset := fun _ => 0x44090880,
    flds := [(PWR_WCFG_EN, .rw), (PWR_WCFG_WLVL, .rw), (PWR_WCFG_LATCH, .rw), (PWR_WCFG_FILT, .rw),
      (PWR_WCFG_SPER, .rw), (PWR_WCFG_HYS, .rw), (PWR_WCFG_THR, .rw)] }

abbrev PWR_WSTAT_WLAT : Fld := ⟨23, 16⟩
abbrev PWR_WSTAT_OUT : Fld := ⟨7, 0⟩
/-- PWR_WSTAT (18_power_states.md, line 267). -/
def PWR_WSTAT : RegFam :=
  { name := "PWR_WSTAT", base := 0x40020060, dims := [], reset := fun _ => 0x00000000,
    flds := [(PWR_WSTAT_WLAT, .w1c), (PWR_WSTAT_OUT, .ro)] }

abbrev WAKE_STAT_FAIL : Fld := ⟨31, 31⟩
abbrev WAKE_STAT_COLD : Fld := ⟨30, 30⟩
abbrev WAKE_STAT_VRETF : Fld := ⟨29, 29⟩
abbrev WAKE_STAT_RST : Fld := ⟨28, 28⟩
abbrev WAKE_STAT_CAUSE : Fld := ⟨25, 24⟩
abbrev WAKE_STAT_TRIES : Fld := ⟨23, 16⟩
abbrev WAKE_STAT_SRC : Fld := ⟨15, 8⟩
abbrev WAKE_STAT_COUNT : Fld := ⟨7, 0⟩
/-- WAKE_STAT (18_power_states.md, line 276). -/
def WAKE_STAT : RegFam :=
  { name := "WAKE_STAT", base := 0x40020080, dims := [], reset := fun _ => 0x00000000,
    flds := [(WAKE_STAT_FAIL, .w1c), (WAKE_STAT_COLD, .w1c), (WAKE_STAT_VRETF, .w1c), (WAKE_STAT_RST, .w1c),
      (WAKE_STAT_CAUSE, .ro), (WAKE_STAT_TRIES, .ro), (WAKE_STAT_SRC, .ro), (WAKE_STAT_COUNT, .ro)] }

abbrev SYSCTL_RSTCAUSE_PORPIN : Fld := ⟨31, 31⟩
abbrev SYSCTL_RSTCAUSE_PORMON : Fld := ⟨30, 30⟩
abbrev SYSCTL_RSTCAUSE_COLDWAKE : Fld := ⟨29, 29⟩
abbrev SYSCTL_RSTCAUSE_COLDSW : Fld := ⟨28, 28⟩
abbrev SYSCTL_RSTCAUSE_WARMPIN : Fld := ⟨27, 27⟩
abbrev SYSCTL_RSTCAUSE_WARMSW : Fld := ⟨26, 26⟩
abbrev SYSCTL_RSTCAUSE_COLHHALT : Fld := ⟨25, 25⟩
abbrev SYSCTL_RSTCAUSE_COLHWDT : Fld := ⟨24, 24⟩
abbrev SYSCTL_RSTCAUSE_DEBUG : Fld := ⟨23, 23⟩
/-- SYSCTL_RSTCAUSE (19_reset_boot_selftest.md, line 243). -/
def SYSCTL_RSTCAUSE : RegFam :=
  { name := "SYSCTL_RSTCAUSE", base := 0x40000200, dims := [], reset := fun _ => 0x80000000,
    flds := [(SYSCTL_RSTCAUSE_PORPIN, .w1c), (SYSCTL_RSTCAUSE_PORMON, .w1c), (SYSCTL_RSTCAUSE_COLDWAKE, .w1c), (SYSCTL_RSTCAUSE_COLDSW, .w1c),
      (SYSCTL_RSTCAUSE_WARMPIN, .w1c), (SYSCTL_RSTCAUSE_WARMSW, .w1c), (SYSCTL_RSTCAUSE_COLHHALT, .w1c), (SYSCTL_RSTCAUSE_COLHWDT, .w1c),
      (SYSCTL_RSTCAUSE_DEBUG, .w1c)] }

abbrev SYSCTL_RSTCTL_WARM : Fld := ⟨31, 31⟩
abbrev SYSCTL_RSTCTL_COLD : Fld := ⟨30, 30⟩
/-- SYSCTL_RSTCTL (19_reset_boot_selftest.md, line 258). -/
def SYSCTL_RSTCTL : RegFam :=
  { name := "SYSCTL_RSTCTL", base := 0x40000204, dims := [], reset := fun _ => 0x00000000,
    flds := [(SYSCTL_RSTCTL_WARM, .wo), (SYSCTL_RSTCTL_COLD, .wo)] }

abbrev SYSCTL_RSTCFG_HALTWARM : Fld := ⟨31, 31⟩
abbrev SYSCTL_RSTCFG_WDTWARM : Fld := ⟨30, 30⟩
abbrev SYSCTL_RSTCFG_KEEPEN : Fld := ⟨29, 29⟩
/-- SYSCTL_RSTCFG (19_reset_boot_selftest.md, line 266). -/
def SYSCTL_RSTCFG : RegFam :=
  { name := "SYSCTL_RSTCFG", base := 0x40000208, dims := [], reset := fun _ => 0xE0000000,
    flds := [(SYSCTL_RSTCFG_HALTWARM, .rw), (SYSCTL_RSTCFG_WDTWARM, .rw), (SYSCTL_RSTCFG_KEEPEN, .rw)] }

abbrev SYSCTL_BOOTSTAT_BOOTOK : Fld := ⟨31, 31⟩
abbrev SYSCTL_BOOTSTAT_RESULT : Fld := ⟨30, 28⟩
abbrev SYSCTL_BOOTSTAT_ALT : Fld := ⟨27, 27⟩
abbrev SYSCTL_BOOTSTAT_BOOTMODE : Fld := ⟨26, 25⟩
abbrev SYSCTL_BOOTSTAT_LC : Fld := ⟨24, 24⟩
abbrev SYSCTL_BOOTSTAT_KEYREV : Fld := ⟨23, 20⟩
abbrev SYSCTL_BOOTSTAT_KEYIDX : Fld := ⟨19, 18⟩
abbrev SYSCTL_BOOTSTAT_SVNMIN : Fld := ⟨13, 8⟩
abbrev SYSCTL_BOOTSTAT_SVN : Fld := ⟨5, 0⟩
/-- SYSCTL_BOOTSTAT (19_reset_boot_selftest.md, line 275). -/
def SYSCTL_BOOTSTAT : RegFam :=
  { name := "SYSCTL_BOOTSTAT", base := 0x4000020C, dims := [], reset := fun _ => BitVec.ofNat 32 (Config.otpLocked.toNat * 2^24 + Config.otpKeyRev.toNat * 2^20 + Config.otpSvnMin.toNat * 2^8),
    flds := [(SYSCTL_BOOTSTAT_BOOTOK, .ro), (SYSCTL_BOOTSTAT_RESULT, .ro), (SYSCTL_BOOTSTAT_ALT, .ro), (SYSCTL_BOOTSTAT_BOOTMODE, .ro),
      (SYSCTL_BOOTSTAT_LC, .ro), (SYSCTL_BOOTSTAT_KEYREV, .ro), (SYSCTL_BOOTSTAT_KEYIDX, .ro), (SYSCTL_BOOTSTAT_SVNMIN, .ro),
      (SYSCTL_BOOTSTAT_SVN, .ro)] }

abbrev SYSCTL_UIDLO_UID : Fld := ⟨31, 0⟩
/-- SYSCTL_UIDLO (19_reset_boot_selftest.md, line 291). -/
def SYSCTL_UIDLO : RegFam :=
  { name := "SYSCTL_UIDLO", base := 0x40000210, dims := [], reset := fun _ => Config.uid.setWidth 32,
    flds := [(SYSCTL_UIDLO_UID, .ro)] }

abbrev SYSCTL_UIDHI_UID : Fld := ⟨31, 0⟩
/-- SYSCTL_UIDHI (19_reset_boot_selftest.md, line 291). -/
def SYSCTL_UIDHI : RegFam :=
  { name := "SYSCTL_UIDHI", base := 0x40000214, dims := [], reset := fun _ => (Config.uid >>> 32).setWidth 32,
    flds := [(SYSCTL_UIDHI_UID, .ro)] }

abbrev SYSCTL_STRES_DONE : Fld := ⟨31, 31⟩
abbrev SYSCTL_STRES_FAIL : Fld := ⟨30, 30⟩
abbrev SYSCTL_STRES_WAVE : Fld := ⟨29, 27⟩
abbrev SYSCTL_STRES_STATUS : Fld := ⟨23, 16⟩
abbrev SYSCTL_STRES_LOGIC : Fld := ⟨15, 15⟩
abbrev SYSCTL_STRES_UNIT : Fld := ⟨7, 0⟩
/-- SYSCTL_STRES (19_reset_boot_selftest.md, line 297). -/
def SYSCTL_STRES : RegFam :=
  { name := "SYSCTL_STRES", base := 0x40000220, dims := [], reset := fun _ => 0x00000000,
    flds := [(SYSCTL_STRES_DONE, .ro), (SYSCTL_STRES_FAIL, .ro), (SYSCTL_STRES_WAVE, .ro), (SYSCTL_STRES_STATUS, .ro),
      (SYSCTL_STRES_LOGIC, .ro), (SYSCTL_STRES_UNIT, .ro)] }

abbrev SYSCTL_STTIME_US : Fld := ⟨31, 0⟩
/-- SYSCTL_STTIME (19_reset_boot_selftest.md, line 310). -/
def SYSCTL_STTIME : RegFam :=
  { name := "SYSCTL_STTIME", base := 0x40000224, dims := [], reset := fun _ => 0x00000000,
    flds := [(SYSCTL_STTIME_US, .ro)] }

abbrev DBG_STAT_LEVEL : Fld := ⟨31, 30⟩
abbrev DBG_STAT_NONCEV : Fld := ⟨29, 29⟩
abbrev DBG_STAT_BUSY : Fld := ⟨28, 28⟩
abbrev DBG_STAT_BLOCKED : Fld := ⟨27, 27⟩
abbrev DBG_STAT_FAILS : Fld := ⟨1, 0⟩
/-- DBG_STAT (19_reset_boot_selftest.md, line 318). -/
def DBG_STAT : RegFam :=
  { name := "DBG_STAT", base := 0xF0000000, dims := [], reset := fun _ => 0x00000000,
    flds := [(DBG_STAT_LEVEL, .ro), (DBG_STAT_NONCEV, .ro), (DBG_STAT_BUSY, .ro), (DBG_STAT_BLOCKED, .ro),
      (DBG_STAT_FAILS, .ro)] }

abbrev DBG_CTRL_NEWCHAL : Fld := ⟨31, 31⟩
abbrev DBG_CTRL_SUBMIT : Fld := ⟨30, 30⟩
abbrev DBG_CTRL_LEVEL : Fld := ⟨29, 28⟩
abbrev DBG_CTRL_KSLOT : Fld := ⟨27, 27⟩
/-- DBG_CTRL (19_reset_boot_selftest.md, line 329). -/
def DBG_CTRL : RegFam :=
  { name := "DBG_CTRL", base := 0xF0000004, dims := [], reset := fun _ => 0x00000000,
    flds := [(DBG_CTRL_NEWCHAL, .wo), (DBG_CTRL_SUBMIT, .wo), (DBG_CTRL_LEVEL, .wo), (DBG_CTRL_KSLOT, .wo)] }

abbrev DBG_CHAL_DATA : Fld := ⟨31, 0⟩
/-- DBG_CHAL (19_reset_boot_selftest.md, line 339). -/
def DBG_CHAL : RegFam :=
  { name := "DBG_CHAL", base := 0xF0000020, dims := [(8, 0x4)], reset := fun _ => 0x00000000,
    flds := [(DBG_CHAL_DATA, .ro)] }

abbrev DBG_KEY_DATA : Fld := ⟨31, 0⟩
/-- DBG_KEY (19_reset_boot_selftest.md, line 339). -/
def DBG_KEY : RegFam :=
  { name := "DBG_KEY", base := 0xF0000040, dims := [(16, 0x4)], reset := fun _ => 0x00000000,
    flds := [(DBG_KEY_DATA, .wo)] }

abbrev DBG_RESP_DATA : Fld := ⟨31, 0⟩
/-- DBG_RESP (19_reset_boot_selftest.md, line 339). -/
def DBG_RESP : RegFam :=
  { name := "DBG_RESP", base := 0xF0000080, dims := [(16, 0x4)], reset := fun _ => 0x00000000,
    flds := [(DBG_RESP_DATA, .wo)] }

abbrev DRIP_CTRL_EN : Fld := ⟨31, 31⟩
abbrev DRIP_CTRL_LANEEN : Fld := ⟨29, 24⟩
abbrev DRIP_CTRL_DPER : Fld := ⟨15, 0⟩
/-- DRIP_CTRL (19_reset_boot_selftest.md, line 347). -/
def DRIP_CTRL : RegFam :=
  { name := "DRIP_CTRL", base := 0x40040000, dims := [], reset := fun _ => 0xBF0003E8,
    flds := [(DRIP_CTRL_EN, .rws), (DRIP_CTRL_LANEEN, .rws), (DRIP_CTRL_DPER, .rws)] }

abbrev DRIP_STAT_SLOW : Fld := ⟨29, 24⟩
abbrev DRIP_STAT_SKIP : Fld := ⟨21, 16⟩
abbrev DRIP_STAT_FAIL : Fld := ⟨13, 8⟩
/-- DRIP_STAT (19_reset_boot_selftest.md, line 357). -/
def DRIP_STAT : RegFam :=
  { name := "DRIP_STAT", base := 0x40040004, dims := [], reset := fun _ => 0x00000000,
    flds := [(DRIP_STAT_SLOW, .w1c), (DRIP_STAT_SKIP, .w1c), (DRIP_STAT_FAIL, .w1c)] }

abbrev DRIP_LANE_ARRAY : Fld := ⟨31, 24⟩
abbrev DRIP_LANE_SLICE : Fld := ⟨23, 8⟩
abbrev DRIP_LANE_PASSES : Fld := ⟨7, 0⟩
/-- DRIP_LANE (19_reset_boot_selftest.md, line 369). -/
def DRIP_LANE : RegFam :=
  { name := "DRIP_LANE", base := 0x40040010, dims := [(6, 0x4)], reset := fun i => BitVec.ofNat 32 (Config.dripFirst i * 2^24),
    flds := [(DRIP_LANE_ARRAY, .ro), (DRIP_LANE_SLICE, .ro), (DRIP_LANE_PASSES, .ro)] }

abbrev DRIP_PASST_MS : Fld := ⟨31, 0⟩
/-- DRIP_PASST (19_reset_boot_selftest.md, line 369). -/
def DRIP_PASST : RegFam :=
  { name := "DRIP_PASST", base := 0x40040030, dims := [(6, 0x4)], reset := fun _ => 0x00000000,
    flds := [(DRIP_PASST_MS, .ro)] }

abbrev DRIP_ERR_ARRAY : Fld := ⟨31, 24⟩
abbrev DRIP_ERR_STATUS : Fld := ⟨23, 16⟩
/-- DRIP_ERR (19_reset_boot_selftest.md, line 378). -/
def DRIP_ERR : RegFam :=
  { name := "DRIP_ERR", base := 0x40040050, dims := [], reset := fun _ => 0x00000000,
    flds := [(DRIP_ERR_ARRAY, .ro), (DRIP_ERR_STATUS, .ro)] }

abbrev DRIP_ERRADDR_ADDR : Fld := ⟨31, 0⟩
/-- DRIP_ERRADDR (19_reset_boot_selftest.md, line 378). -/
def DRIP_ERRADDR : RegFam :=
  { name := "DRIP_ERRADDR", base := 0x40040054, dims := [], reset := fun _ => 0x00000000,
    flds := [(DRIP_ERRADDR_ADDR, .ro)] }

abbrev DRIP_ERRCNT_COUNT : Fld := ⟨31, 0⟩
/-- DRIP_ERRCNT (19_reset_boot_selftest.md, line 378). -/
def DRIP_ERRCNT : RegFam :=
  { name := "DRIP_ERRCNT", base := 0x40040058, dims := [], reset := fun _ => 0x00000000,
    flds := [(DRIP_ERRCNT_COUNT, .rc)] }

abbrev SPI_CFG_EN : Fld := ⟨31, 31⟩
abbrev SPI_CFG_TGT : Fld := ⟨30, 30⟩
abbrev SPI_CFG_CPOL : Fld := ⟨29, 29⟩
abbrev SPI_CFG_CPHA : Fld := ⟨28, 28⟩
abbrev SPI_CFG_LSBF : Fld := ⟨27, 27⟩
abbrev SPI_CFG_WLEN : Fld := ⟨26, 22⟩
abbrev SPI_CFG_CSHOLD : Fld := ⟨21, 21⟩
abbrev SPI_CFG_DIV : Fld := ⟨11, 0⟩
/-- SPI_CFG (16_can_and_serial.md, line 241). -/
def SPI_CFG : RegFam :=
  { name := "SPI_CFG", base := 0x40200000, dims := [(4, 0x10000)], reset := fun _ => 0x01C00020,
    flds := [(SPI_CFG_EN, .rw), (SPI_CFG_TGT, .st), (SPI_CFG_CPOL, .st), (SPI_CFG_CPHA, .st),
      (SPI_CFG_LSBF, .st), (SPI_CFG_WLEN, .st), (SPI_CFG_CSHOLD, .rw), (SPI_CFG_DIV, .st)] }

abbrev SPI_TXD_DATA : Fld := ⟨31, 0⟩
/-- SPI_TXD (16_can_and_serial.md, line 241). -/
def SPI_TXD : RegFam :=
  { name := "SPI_TXD", base := 0x40200004, dims := [(4, 0x10000)], reset := fun _ => 0x00000000,
    flds := [(SPI_TXD_DATA, .wo)] }

abbrev SPI_RXD_DATA : Fld := ⟨31, 0⟩
/-- SPI_RXD (16_can_and_serial.md, line 241). -/
def SPI_RXD : RegFam :=
  { name := "SPI_RXD", base := 0x40200008, dims := [(4, 0x10000)], reset := fun _ => 0x00000000,
    flds := [(SPI_RXD_DATA, .rc)] }

abbrev SPI_STAT_BUSY : Fld := ⟨31, 31⟩
abbrev SPI_STAT_TERR : Fld := ⟨30, 30⟩
abbrev SPI_STAT_TWDONE : Fld := ⟨29, 29⟩
abbrev SPI_STAT_OVR : Fld := ⟨28, 28⟩
abbrev SPI_STAT_UNDER : Fld := ⟨27, 27⟩
abbrev SPI_STAT_RXCNT : Fld := ⟨20, 16⟩
abbrev SPI_STAT_TXCNT : Fld := ⟨12, 8⟩
/-- SPI_STAT (16_can_and_serial.md, line 241). -/
def SPI_STAT : RegFam :=
  { name := "SPI_STAT", base := 0x4020000C, dims := [(4, 0x10000)], reset := fun _ => 0x00000000,
    flds := [(SPI_STAT_BUSY, .ro), (SPI_STAT_TERR, .w1c), (SPI_STAT_TWDONE, .w1c), (SPI_STAT_OVR, .w1c),
      (SPI_STAT_UNDER, .w1c), (SPI_STAT_RXCNT, .ro), (SPI_STAT_TXCNT, .ro)] }

abbrev SPI_TWIN_BASE : Fld := ⟨31, 16⟩
abbrev SPI_TWIN_SIZE : Fld := ⟨6, 0⟩
/-- SPI_TWIN (16_can_and_serial.md, line 241). -/
def SPI_TWIN : RegFam :=
  { name := "SPI_TWIN", base := 0x40200010, dims := [(4, 0x10000)], reset := fun _ => 0x10000000,
    flds := [(SPI_TWIN_BASE, .rw), (SPI_TWIN_SIZE, .rw)] }

abbrev XSPI_CFG_EN : Fld := ⟨31, 31⟩
abbrev XSPI_CFG_MODE : Fld := ⟨30, 30⟩
abbrev XSPI_CFG_DUMMY : Fld := ⟨29, 24⟩
abbrev XSPI_CFG_RDOP : Fld := ⟨23, 16⟩
abbrev XSPI_CFG_DIV : Fld := ⟨3, 0⟩
/-- XSPI_CFG (16_can_and_serial.md, line 267). -/
def XSPI_CFG : RegFam :=
  { name := "XSPI_CFG", base := 0x40240000, dims := [], reset := fun _ => 0x880B0008,
    flds := [(XSPI_CFG_EN, .rw), (XSPI_CFG_MODE, .st), (XSPI_CFG_DUMMY, .st), (XSPI_CFG_RDOP, .st),
      (XSPI_CFG_DIV, .st)] }

abbrev XSPI_CMD_DIR : Fld := ⟨31, 31⟩
abbrev XSPI_CMD_ADR : Fld := ⟨30, 30⟩
abbrev XSPI_CMD_DUMMY : Fld := ⟨29, 24⟩
abbrev XSPI_CMD_OP : Fld := ⟨23, 16⟩
abbrev XSPI_CMD_LEN : Fld := ⟨6, 0⟩
/-- XSPI_CMD (16_can_and_serial.md, line 267). -/
def XSPI_CMD : RegFam :=
  { name := "XSPI_CMD", base := 0x40240004, dims := [], reset := fun _ => 0x00000000,
    flds := [(XSPI_CMD_DIR, .wo), (XSPI_CMD_ADR, .wo), (XSPI_CMD_DUMMY, .wo), (XSPI_CMD_OP, .wo),
      (XSPI_CMD_LEN, .wo)] }

abbrev XSPI_ADDR_ADDR : Fld := ⟨31, 0⟩
/-- XSPI_ADDR (16_can_and_serial.md, line 267). -/
def XSPI_ADDR : RegFam :=
  { name := "XSPI_ADDR", base := 0x40240008, dims := [], reset := fun _ => 0x00000000,
    flds := [(XSPI_ADDR_ADDR, .rw)] }

abbrev XSPI_DATA_DATA : Fld := ⟨31, 0⟩
/-- XSPI_DATA (16_can_and_serial.md, line 267). -/
def XSPI_DATA : RegFam :=
  { name := "XSPI_DATA", base := 0x4024000C, dims := [], reset := fun _ => 0x00000000,
    flds := [(XSPI_DATA_DATA, .rw)] }

abbrev XSPI_STAT_BUSY : Fld := ⟨31, 31⟩
abbrev XSPI_STAT_DONE : Fld := ⟨30, 30⟩
abbrev XSPI_STAT_STATUS : Fld := ⟨23, 16⟩
/-- XSPI_STAT (16_can_and_serial.md, line 267). -/
def XSPI_STAT : RegFam :=
  { name := "XSPI_STAT", base := 0x40240010, dims := [], reset := fun _ => 0x00000000,
    flds := [(XSPI_STAT_BUSY, .ro), (XSPI_STAT_DONE, .w1c), (XSPI_STAT_STATUS, .ro)] }

abbrev UART_CFG_EN : Fld := ⟨31, 31⟩
abbrev UART_CFG_PAR : Fld := ⟨30, 30⟩
abbrev UART_CFG_ODD : Fld := ⟨29, 29⟩
abbrev UART_CFG_STOP2 : Fld := ⟨28, 28⟩
abbrev UART_CFG_DATA7 : Fld := ⟨27, 27⟩
abbrev UART_CFG_DIV : Fld := ⟨19, 0⟩
/-- UART_CFG (16_can_and_serial.md, line 287). -/
def UART_CFG : RegFam :=
  { name := "UART_CFG", base := 0x40280000, dims := [(2, 0x10000)], reset := fun _ => 0x00002B67,
    flds := [(UART_CFG_EN, .rw), (UART_CFG_PAR, .st), (UART_CFG_ODD, .st), (UART_CFG_STOP2, .st),
      (UART_CFG_DATA7, .st), (UART_CFG_DIV, .st)] }

abbrev UART_TXD_DATA : Fld := ⟨7, 0⟩
/-- UART_TXD (16_can_and_serial.md, line 287). -/
def UART_TXD : RegFam :=
  { name := "UART_TXD", base := 0x40280004, dims := [(2, 0x10000)], reset := fun _ => 0x00000000,
    flds := [(UART_TXD_DATA, .wo)] }

abbrev UART_RXD_EMPTY : Fld := ⟨31, 31⟩
abbrev UART_RXD_FE : Fld := ⟨15, 15⟩
abbrev UART_RXD_PE : Fld := ⟨14, 14⟩
abbrev UART_RXD_BRK : Fld := ⟨13, 13⟩
abbrev UART_RXD_DATA : Fld := ⟨7, 0⟩
/-- UART_RXD (16_can_and_serial.md, line 287). -/
def UART_RXD : RegFam :=
  { name := "UART_RXD", base := 0x40280008, dims := [(2, 0x10000)], reset := fun _ => 0x80000000,
    flds := [(UART_RXD_EMPTY, .rc), (UART_RXD_FE, .rc), (UART_RXD_PE, .rc), (UART_RXD_BRK, .rc),
      (UART_RXD_DATA, .rc)] }

abbrev UART_STAT_TXBUSY : Fld := ⟨31, 31⟩
abbrev UART_STAT_OVR : Fld := ⟨30, 30⟩
abbrev UART_STAT_ERR : Fld := ⟨29, 29⟩
abbrev UART_STAT_RXAV : Fld := ⟨28, 28⟩
abbrev UART_STAT_TXE : Fld := ⟨27, 27⟩
abbrev UART_STAT_RXCNT : Fld := ⟨21, 16⟩
abbrev UART_STAT_TXCNT : Fld := ⟨13, 8⟩
/-- UART_STAT (16_can_and_serial.md, line 287). -/
def UART_STAT : RegFam :=
  { name := "UART_STAT", base := 0x4028000C, dims := [(2, 0x10000)], reset := fun _ => 0x00000000,
    flds := [(UART_STAT_TXBUSY, .ro), (UART_STAT_OVR, .w1c), (UART_STAT_ERR, .w1c), (UART_STAT_RXAV, .w1c),
      (UART_STAT_TXE, .w1c), (UART_STAT_RXCNT, .ro), (UART_STAT_TXCNT, .ro)] }

abbrev I2C_CFG_EN : Fld := ⟨31, 31⟩
abbrev I2C_CFG_DIV : Fld := ⟨15, 0⟩
/-- I2C_CFG (16_can_and_serial.md, line 314). -/
def I2C_CFG : RegFam :=
  { name := "I2C_CFG", base := 0x402C0000, dims := [(2, 0x10000)], reset := fun _ => 0x00000190,
    flds := [(I2C_CFG_EN, .rw), (I2C_CFG_DIV, .st)] }

abbrev I2C_CMD_START : Fld := ⟨31, 31⟩
abbrev I2C_CMD_STOP : Fld := ⟨30, 30⟩
abbrev I2C_CMD_RD : Fld := ⟨29, 29⟩
abbrev I2C_CMD_NACK : Fld := ⟨28, 28⟩
abbrev I2C_CMD_CLEAR : Fld := ⟨27, 27⟩
abbrev I2C_CMD_DATA : Fld := ⟨7, 0⟩
/-- I2C_CMD (16_can_and_serial.md, line 314). -/
def I2C_CMD : RegFam :=
  { name := "I2C_CMD", base := 0x402C0004, dims := [(2, 0x10000)], reset := fun _ => 0x00000000,
    flds := [(I2C_CMD_START, .wo), (I2C_CMD_STOP, .wo), (I2C_CMD_RD, .wo), (I2C_CMD_NACK, .wo),
      (I2C_CMD_CLEAR, .wo), (I2C_CMD_DATA, .wo)] }

abbrev I2C_STAT_BUSY : Fld := ⟨31, 31⟩
abbrev I2C_STAT_DONE : Fld := ⟨30, 30⟩
abbrev I2C_STAT_NACKED : Fld := ⟨29, 29⟩
abbrev I2C_STAT_ARBLOST : Fld := ⟨28, 28⟩
abbrev I2C_STAT_TMO : Fld := ⟨27, 27⟩
abbrev I2C_STAT_RDATA : Fld := ⟨7, 0⟩
/-- I2C_STAT (16_can_and_serial.md, line 314). -/
def I2C_STAT : RegFam :=
  { name := "I2C_STAT", base := 0x402C0008, dims := [(2, 0x10000)], reset := fun _ => 0x00000000,
    flds := [(I2C_STAT_BUSY, .ro), (I2C_STAT_DONE, .w1c), (I2C_STAT_NACKED, .w1c), (I2C_STAT_ARBLOST, .w1c),
      (I2C_STAT_TMO, .w1c), (I2C_STAT_RDATA, .ro)] }

abbrev GPIO_DIR_DIR : Fld := ⟨15, 0⟩
/-- GPIO_DIR (16_can_and_serial.md, line 350). -/
def GPIO_DIR : RegFam :=
  { name := "GPIO_DIR", base := 0x40400000, dims := [], reset := fun _ => 0x00000000,
    flds := [(GPIO_DIR_DIR, .rw)] }

abbrev GPIO_OUT_OUT : Fld := ⟨15, 0⟩
/-- GPIO_OUT (16_can_and_serial.md, line 350). -/
def GPIO_OUT : RegFam :=
  { name := "GPIO_OUT", base := 0x40400004, dims := [], reset := fun _ => 0x00000000,
    flds := [(GPIO_OUT_OUT, .rw)] }

abbrev GPIO_SET_SET : Fld := ⟨15, 0⟩
/-- GPIO_SET (16_can_and_serial.md, line 350). -/
def GPIO_SET : RegFam :=
  { name := "GPIO_SET", base := 0x40400008, dims := [], reset := fun _ => 0x00000000,
    flds := [(GPIO_SET_SET, .wo)] }

abbrev GPIO_CLR_CLR : Fld := ⟨15, 0⟩
/-- GPIO_CLR (16_can_and_serial.md, line 350). -/
def GPIO_CLR : RegFam :=
  { name := "GPIO_CLR", base := 0x4040000C, dims := [], reset := fun _ => 0x00000000,
    flds := [(GPIO_CLR_CLR, .wo)] }

abbrev GPIO_IN_IN : Fld := ⟨15, 0⟩
/-- GPIO_IN (16_can_and_serial.md, line 350). -/
def GPIO_IN : RegFam :=
  { name := "GPIO_IN", base := 0x40400010, dims := [], reset := fun _ => 0x00000000,
    flds := [(GPIO_IN_IN, .ro)] }

abbrev GPIO_EDGE_RISE : Fld := ⟨31, 16⟩
abbrev GPIO_EDGE_FALL : Fld := ⟨15, 0⟩
/-- GPIO_EDGE (16_can_and_serial.md, line 350). -/
def GPIO_EDGE : RegFam :=
  { name := "GPIO_EDGE", base := 0x40400014, dims := [], reset := fun _ => 0x00000000,
    flds := [(GPIO_EDGE_RISE, .rw), (GPIO_EDGE_FALL, .rw)] }

abbrev GPIO_STAT_EV : Fld := ⟨15, 0⟩
/-- GPIO_STAT (16_can_and_serial.md, line 350). -/
def GPIO_STAT : RegFam :=
  { name := "GPIO_STAT", base := 0x40400018, dims := [], reset := fun _ => 0x00000000,
    flds := [(GPIO_STAT_EV, .w1c)] }

abbrev GPIO_FILT_FILT : Fld := ⟨7, 0⟩
/-- GPIO_FILT (16_can_and_serial.md, line 350). -/
def GPIO_FILT : RegFam :=
  { name := "GPIO_FILT", base := 0x4040001C, dims := [], reset := fun _ => 0x00000002,
    flds := [(GPIO_FILT_FILT, .rw)] }

abbrev AVS_CFG_EN : Fld := ⟨31, 31⟩
abbrev AVS_CFG_DIV : Fld := ⟨23, 16⟩
abbrev AVS_CFG_RAIL : Fld := ⟨3, 0⟩
/-- AVS_CFG (16_can_and_serial.md, line 394). -/
def AVS_CFG : RegFam :=
  { name := "AVS_CFG", base := 0x402E0000, dims := [(2, 0x10000)], reset := fun _ => 0x00100000,
    flds := [(AVS_CFG_EN, .rw), (AVS_CFG_DIV, .st), (AVS_CFG_RAIL, .st)] }

abbrev AVS_LIM_VMAX : Fld := ⟨31, 16⟩
abbrev AVS_LIM_VMIN : Fld := ⟨15, 0⟩
/-- AVS_LIM (16_can_and_serial.md, line 394). -/
def AVS_LIM : RegFam :=
  { name := "AVS_LIM", base := 0x402E0004, dims := [(2, 0x10000)], reset := fun _ => 0x035202D0,
    flds := [(AVS_LIM_VMAX, .rw), (AVS_LIM_VMIN, .rw)] }

abbrev AVS_REQ_OP : Fld := ⟨31, 30⟩
abbrev AVS_REQ_MV : Fld := ⟨15, 0⟩
/-- AVS_REQ (16_can_and_serial.md, line 394). -/
def AVS_REQ : RegFam :=
  { name := "AVS_REQ", base := 0x402E0008, dims := [(2, 0x10000)], reset := fun _ => 0x00000000,
    flds := [(AVS_REQ_OP, .wo), (AVS_REQ_MV, .wo)] }

abbrev AVS_RES_BUSY : Fld := ⟨31, 31⟩
abbrev AVS_RES_DONE : Fld := ⟨30, 30⟩
abbrev AVS_RES_STATUS : Fld := ⟨23, 16⟩
abbrev AVS_RES_DATA : Fld := ⟨15, 0⟩
/-- AVS_RES (16_can_and_serial.md, line 394). -/
def AVS_RES : RegFam :=
  { name := "AVS_RES", base := 0x402E000C, dims := [(2, 0x10000)], reset := fun _ => 0x00000000,
    flds := [(AVS_RES_BUSY, .ro), (AVS_RES_DONE, .w1c), (AVS_RES_STATUS, .ro), (AVS_RES_DATA, .ro)] }

abbrev AVS_VACK_MV : Fld := ⟨15, 0⟩
/-- AVS_VACK (16_can_and_serial.md, line 394). -/
def AVS_VACK : RegFam :=
  { name := "AVS_VACK", base := 0x402E0010, dims := [(2, 0x10000)], reset := fun _ => 0x00000000,
    flds := [(AVS_VACK_MV, .ro)] }

end Sys2Proof.Machine
end

