-- ==== Sys2Proof/Machine/RegMapMotor.lean ====
section
/-! DEFINITION. Register families of the chip memory map, chapters 07, 08, 09: names, addresses, fields, access types and
reset values as the register tables of the spec give them. -/

namespace Sys2Proof.Machine

abbrev AX_CFG_EN : Fld := ⟨31, 31⟩
abbrev AX_CFG_TSRC : Fld := ⟨30, 30⟩
abbrev AX_CFG_TFFADD : Fld := ⟨29, 29⟩
abbrev AX_CFG_VEN : Fld := ⟨28, 28⟩
abbrev AX_CFG_VADC : Fld := ⟨27, 26⟩
abbrev AX_CFG_VCH : Fld := ⟨25, 23⟩
abbrev AX_CFG_VSH : Fld := ⟨22, 19⟩
abbrev AX_CFG_VTMO : Fld := ⟨15, 8⟩
/-- AX_CFG (07_machine_control.md, line 429). -/
def AX_CFG : RegFam :=
  { name := "AX_CFG", base := 0x22081400, dims := [(4, 0x4000000), (2, 0x100)], reset := fun _ => 0x00204000,
    flds := [(AX_CFG_EN, .rw), (AX_CFG_TSRC, .rw), (AX_CFG_TFFADD, .rw), (AX_CFG_VEN, .rw),
      (AX_CFG_VADC, .rw), (AX_CFG_VCH, .rw), (AX_CFG_VSH, .rw), (AX_CFG_VTMO, .rw)] }

abbrev AX_TCMD_T : Fld := ⟨15, 0⟩
/-- AX_TCMD (07_machine_control.md, line 444). -/
def AX_TCMD : RegFam :=
  { name := "AX_TCMD", base := 0x22081404, dims := [(4, 0x4000000), (2, 0x100)], reset := fun _ => 0x00000000,
    flds := [(AX_TCMD_T, .rw)] }

abbrev AX_TFF_T : Fld := ⟨15, 0⟩
/-- AX_TFF (07_machine_control.md, line 444). -/
def AX_TFF : RegFam :=
  { name := "AX_TFF", base := 0x22081424, dims := [(4, 0x4000000), (2, 0x100)], reset := fun _ => 0x00000000,
    flds := [(AX_TFF_T, .ro)] }

abbrev AX_VDQ_Q : Fld := ⟨31, 16⟩
abbrev AX_VDQ_D : Fld := ⟨15, 0⟩
/-- AX_VDQ (07_machine_control.md, line 451). -/
def AX_VDQ : RegFam :=
  { name := "AX_VDQ", base := 0x22081408, dims := [(4, 0x4000000), (2, 0x100)], reset := fun _ => 0x00000000,
    flds := [(AX_VDQ_Q, .rw), (AX_VDQ_D, .rw)] }

abbrev AX_IREF_Q : Fld := ⟨31, 16⟩
abbrev AX_IREF_D : Fld := ⟨15, 0⟩
/-- AX_IREF (07_machine_control.md, line 451). -/
def AX_IREF : RegFam :=
  { name := "AX_IREF", base := 0x2208140C, dims := [(4, 0x4000000), (2, 0x100)], reset := fun _ => 0x00000000,
    flds := [(AX_IREF_Q, .ro), (AX_IREF_D, .ro)] }

abbrev AX_FW_KFW : Fld := ⟨31, 16⟩
abbrev AX_FW_MREF : Fld := ⟨15, 0⟩
/-- AX_FW (07_machine_control.md, line 458). -/
def AX_FW : RegFam :=
  { name := "AX_FW", base := 0x22081410, dims := [(4, 0x4000000), (2, 0x100)], reset := fun _ => 0x00004634,
    flds := [(AX_FW_KFW, .rw), (AX_FW_MREF, .rw)] }

abbrev AX_LIM_IDFW : Fld := ⟨31, 16⟩
abbrev AX_LIM_IMAX : Fld := ⟨15, 0⟩
/-- AX_LIM (07_machine_control.md, line 465). -/
def AX_LIM : RegFam :=
  { name := "AX_LIM", base := 0x22081414, dims := [(4, 0x4000000), (2, 0x100)], reset := fun _ => 0x00007FFF,
    flds := [(AX_LIM_IDFW, .rw), (AX_LIM_IMAX, .rw)] }

abbrev AX_VNOM_VMIN : Fld := ⟨31, 16⟩
abbrev AX_VNOM_VNOM : Fld := ⟨15, 0⟩
/-- AX_VNOM (07_machine_control.md, line 472). -/
def AX_VNOM : RegFam :=
  { name := "AX_VNOM", base := 0x22081418, dims := [(4, 0x4000000), (2, 0x100)], reset := fun _ => 0x00008000,
    flds := [(AX_VNOM_VMIN, .rw), (AX_VNOM_VNOM, .rw)] }

abbrev AX_KV_VDCF : Fld := ⟨31, 16⟩
abbrev AX_KV_KV : Fld := ⟨15, 0⟩
/-- AX_KV (07_machine_control.md, line 479). -/
def AX_KV : RegFam :=
  { name := "AX_KV", base := 0x2208141C, dims := [(4, 0x4000000), (2, 0x100)], reset := fun _ => 0x00004000,
    flds := [(AX_KV_VDCF, .ro), (AX_KV_KV, .ro)] }

abbrev AX_FF_KJ : Fld := ⟨31, 16⟩
abbrev AX_FF_ASRC : Fld := ⟨9, 8⟩
abbrev AX_FF_JSH : Fld := ⟨5, 0⟩
/-- AX_FF (07_machine_control.md, line 486). -/
def AX_FF : RegFam :=
  { name := "AX_FF", base := 0x22081420, dims := [(4, 0x4000000), (2, 0x100)], reset := fun _ => 0x00000000,
    flds := [(AX_FF_KJ, .rw), (AX_FF_ASRC, .rw), (AX_FF_JSH, .rw)] }

abbrev AX_STAT_FW : Fld := ⟨31, 31⟩
abbrev AX_STAT_ILIM : Fld := ⟨30, 30⟩
abbrev AX_STAT_VSTALE : Fld := ⟨29, 29⟩
abbrev AX_STAT_VLOW : Fld := ⟨28, 28⟩
abbrev AX_STAT_SAT : Fld := ⟨27, 27⟩
/-- AX_STAT (07_machine_control.md, line 496). -/
def AX_STAT : RegFam :=
  { name := "AX_STAT", base := 0x22081428, dims := [(4, 0x4000000), (2, 0x100)], reset := fun _ => 0x00000000,
    flds := [(AX_STAT_FW, .ro), (AX_STAT_ILIM, .ro), (AX_STAT_VSTALE, .ro), (AX_STAT_VLOW, .ro),
      (AX_STAT_SAT, .w1c)] }

abbrev AX_TAB_IQ : Fld := ⟨31, 16⟩
abbrev AX_TAB_ID : Fld := ⟨15, 0⟩
/-- AX_TAB (07_machine_control.md, line 507). -/
def AX_TAB : RegFam :=
  { name := "AX_TAB", base := 0x22081480, dims := [(4, 0x4000000), (2, 0x100), (17, 0x4)], reset := fun i => if i % 17 = 16 then 0x7FFF0000 else BitVec.ofNat 32 (0x8000000 * (i % 17)),
    flds := [(AX_TAB_IQ, .rw), (AX_TAB_ID, .rw)] }

abbrev SPF_CFG_EN : Fld := ⟨31, 31⟩
abbrev SPF_CFG_SRC : Fld := ⟨30, 29⟩
abbrev SPF_CFG_DIV : Fld := ⟨28, 25⟩
abbrev SPF_CFG_KSH : Fld := ⟨24, 21⟩
abbrev SPF_CFG_SIDX : Fld := ⟨20, 19⟩
abbrev SPF_CFG_SCH : Fld := ⟨18, 16⟩
abbrev SPF_CFG_FWX : Fld := ⟨15, 12⟩
/-- SPF_CFG (07_machine_control.md, line 514). -/
def SPF_CFG : RegFam :=
  { name := "SPF_CFG", base := 0x22081440, dims := [(4, 0x4000000), (2, 0x100)], reset := fun _ => 0x00800000,
    flds := [(SPF_CFG_EN, .rw), (SPF_CFG_SRC, .rw), (SPF_CFG_DIV, .rw), (SPF_CFG_KSH, .rw),
      (SPF_CFG_SIDX, .rw), (SPF_CFG_SCH, .rw), (SPF_CFG_FWX, .rw)] }

abbrev SPF_IN_VALUE : Fld := ⟨31, 0⟩
/-- SPF_IN (07_machine_control.md, line 527). -/
def SPF_IN : RegFam :=
  { name := "SPF_IN", base := 0x22081444, dims := [(4, 0x4000000), (2, 0x100)], reset := fun _ => 0x00000000,
    flds := [(SPF_IN_VALUE, .rw)] }

abbrev SPF_VMAX_VALUE : Fld := ⟨31, 0⟩
/-- SPF_VMAX (07_machine_control.md, line 527). -/
def SPF_VMAX : RegFam :=
  { name := "SPF_VMAX", base := 0x22081448, dims := [(4, 0x4000000), (2, 0x100)], reset := fun _ => 0x00000000,
    flds := [(SPF_VMAX_VALUE, .rw)] }

abbrev SPF_AMAX_VALUE : Fld := ⟨31, 0⟩
/-- SPF_AMAX (07_machine_control.md, line 527). -/
def SPF_AMAX : RegFam :=
  { name := "SPF_AMAX", base := 0x2208144C, dims := [(4, 0x4000000), (2, 0x100)], reset := fun _ => 0x00000000,
    flds := [(SPF_AMAX_VALUE, .rw)] }

abbrev SPF_REF_VALUE : Fld := ⟨31, 0⟩
/-- SPF_REF (07_machine_control.md, line 533). -/
def SPF_REF : RegFam :=
  { name := "SPF_REF", base := 0x22081450, dims := [(4, 0x4000000), (2, 0x100)], reset := fun _ => 0x00000000,
    flds := [(SPF_REF_VALUE, .ro)] }

abbrev SPF_VEL_VALUE : Fld := ⟨31, 0⟩
/-- SPF_VEL (07_machine_control.md, line 533). -/
def SPF_VEL : RegFam :=
  { name := "SPF_VEL", base := 0x22081454, dims := [(4, 0x4000000), (2, 0x100)], reset := fun _ => 0x00000000,
    flds := [(SPF_VEL_VALUE, .ro)] }

abbrev SPF_ACC_VALUE : Fld := ⟨31, 0⟩
/-- SPF_ACC (07_machine_control.md, line 533). -/
def SPF_ACC : RegFam :=
  { name := "SPF_ACC", base := 0x22081458, dims := [(4, 0x4000000), (2, 0x100)], reset := fun _ => 0x00000000,
    flds := [(SPF_ACC_VALUE, .ro)] }

abbrev SPF_GAIN_GAIN : Fld := ⟨31, 16⟩
abbrev SPF_GAIN_OFS : Fld := ⟨15, 0⟩
/-- SPF_GAIN (07_machine_control.md, line 539). -/
def SPF_GAIN : RegFam :=
  { name := "SPF_GAIN", base := 0x2208145C, dims := [(4, 0x4000000), (2, 0x100)], reset := fun _ => 0x00010001,
    flds := [(SPF_GAIN_GAIN, .rw), (SPF_GAIN_OFS, .rw)] }

abbrev SPF_STAT_INLOST : Fld := ⟨31, 31⟩
abbrev SPF_STAT_VLIM : Fld := ⟨30, 30⟩
abbrev SPF_STAT_ALIM : Fld := ⟨29, 29⟩
/-- SPF_STAT (07_machine_control.md, line 546). -/
def SPF_STAT : RegFam :=
  { name := "SPF_STAT", base := 0x22081460, dims := [(4, 0x4000000), (2, 0x100)], reset := fun _ => 0x00000000,
    flds := [(SPF_STAT_INLOST, .w1c), (SPF_STAT_VLIM, .ro), (SPF_STAT_ALIM, .ro)] }

abbrev SH_CFG_EN : Fld := ⟨31, 31⟩
abbrev SH_CFG_POLICY : Fld := ⟨30, 29⟩
abbrev SH_CFG_AUTO : Fld := ⟨28, 28⟩
abbrev SH_CFG_RIM : Fld := ⟨27, 27⟩
abbrev SH_CFG_MEMB : Fld := ⟨19, 16⟩
/-- SH_CFG (07_machine_control.md, line 555). -/
def SH_CFG : RegFam :=
  { name := "SH_CFG", base := 0x22081600, dims := [(4, 0x4000000), (2, 0x80)], reset := fun _ => 0x10000000,
    flds := [(SH_CFG_EN, .rw), (SH_CFG_POLICY, .rw), (SH_CFG_AUTO, .rw), (SH_CFG_RIM, .rw),
      (SH_CFG_MEMB, .rw)] }

abbrev SH_CMD_APPLY : Fld := ⟨31, 31⟩
abbrev SH_CMD_EXCL : Fld := ⟨19, 16⟩
abbrev SH_CMD_READMIT : Fld := ⟨3, 0⟩
/-- SH_CMD (07_machine_control.md, line 567). -/
def SH_CMD : RegFam :=
  { name := "SH_CMD", base := 0x22081604, dims := [(4, 0x4000000), (2, 0x80)], reset := fun _ => 0x00000000,
    flds := [(SH_CMD_APPLY, .wo), (SH_CMD_EXCL, .wo), (SH_CMD_READMIT, .wo)] }

/-- SH_W (07_machine_control.md, line 577). -/
def SH_W : RegFam :=
  { name := "SH_W", base := 0x22081608, dims := [(4, 0x4000000), (2, 0x80)], reset := fun _ => 0x01010101,
    flds := [(⟨7, 0⟩, .rw), (⟨15, 8⟩, .rw), (⟨23, 16⟩, .rw), (⟨31, 24⟩, .rw)] }

abbrev SH_LIM01_LIMH : Fld := ⟨31, 16⟩
abbrev SH_LIM01_LIML : Fld := ⟨15, 0⟩
/-- SH_LIM01 (07_machine_control.md, line 583). -/
def SH_LIM01 : RegFam :=
  { name := "SH_LIM01", base := 0x2208160C, dims := [(4, 0x4000000), (2, 0x80)], reset := fun _ => 0x7FFF7FFF,
    flds := [(SH_LIM01_LIMH, .rw), (SH_LIM01_LIML, .rw)] }

abbrev SH_LIM23_LIMH : Fld := ⟨31, 16⟩
abbrev SH_LIM23_LIML : Fld := ⟨15, 0⟩
/-- SH_LIM23 (07_machine_control.md, line 583). -/
def SH_LIM23 : RegFam :=
  { name := "SH_LIM23", base := 0x22081610, dims := [(4, 0x4000000), (2, 0x80)], reset := fun _ => 0x7FFF7FFF,
    flds := [(SH_LIM23_LIMH, .rw), (SH_LIM23_LIML, .rw)] }

abbrev SH_STAT_STATUS : Fld := ⟨31, 24⟩
abbrev SH_STAT_HEALTHY : Fld := ⟨23, 20⟩
abbrev SH_STAT_MASK : Fld := ⟨19, 16⟩
abbrev SH_STAT_CLIP : Fld := ⟨15, 15⟩
abbrev SH_STAT_CHG : Fld := ⟨14, 14⟩
/-- SH_STAT (07_machine_control.md, line 590). -/
def SH_STAT : RegFam :=
  { name := "SH_STAT", base := 0x22081614, dims := [(4, 0x4000000), (2, 0x80)], reset := fun _ => 0x00000000,
    flds := [(SH_STAT_STATUS, .ro), (SH_STAT_HEALTHY, .ro), (SH_STAT_MASK, .ro), (SH_STAT_CLIP, .ro),
      (SH_STAT_CHG, .w1c)] }

abbrev SH_SHORT_SHORT : Fld := ⟨15, 0⟩
/-- SH_SHORT (07_machine_control.md, line 601). -/
def SH_SHORT : RegFam :=
  { name := "SH_SHORT", base := 0x22081618, dims := [(4, 0x4000000), (2, 0x80)], reset := fun _ => 0x00000000,
    flds := [(SH_SHORT_SHORT, .ro)] }

/-- SH_CAUSE (07_machine_control.md, line 608). -/
def SH_CAUSE : RegFam :=
  { name := "SH_CAUSE", base := 0x2208161C, dims := [(4, 0x4000000), (2, 0x80)], reset := fun _ => 0x00000000,
    flds := [(⟨3, 0⟩, .ro), (⟨7, 4⟩, .ro), (⟨11, 8⟩, .ro), (⟨15, 12⟩, .ro)] }

abbrev SH_IREF_IQ : Fld := ⟨31, 16⟩
abbrev SH_IREF_ID : Fld := ⟨15, 0⟩
/-- SH_IREF (07_machine_control.md, line 615). -/
def SH_IREF : RegFam :=
  { name := "SH_IREF", base := 0x22081620, dims := [(4, 0x4000000), (2, 0x80), (4, 0x4)], reset := fun _ => 0x00000000,
    flds := [(SH_IREF_IQ, .ro), (SH_IREF_ID, .ro)] }

abbrev OPP_CFG_EN : Fld := ⟨31, 31⟩
abbrev OPP_CFG_DIR : Fld := ⟨30, 30⟩
abbrev OPP_CFG_MLATE : Fld := ⟨29, 29⟩
abbrev OPP_CFG_BR : Fld := ⟨27, 24⟩
abbrev OPP_CFG_LA : Fld := ⟨23, 16⟩
abbrev OPP_CFG_HRING : Fld := ⟨13, 0⟩
/-- OPP_CFG (07_machine_control.md, line 622). -/
def OPP_CFG : RegFam :=
  { name := "OPP_CFG", base := 0x22081800, dims := [(4, 0x4000000), (2, 0x80)], reset := fun _ => 0x20200000,
    flds := [(OPP_CFG_EN, .rw), (OPP_CFG_DIR, .rw), (OPP_CFG_MLATE, .rw), (OPP_CFG_BR, .rw),
      (OPP_CFG_LA, .rw), (OPP_CFG_HRING, .rw)] }

abbrev OPP_TAB_BASE : Fld := ⟨20, 8⟩
/-- OPP_TAB (07_machine_control.md, line 635). -/
def OPP_TAB : RegFam :=
  { name := "OPP_TAB", base := 0x22081804, dims := [(4, 0x4000000), (2, 0x80)], reset := fun _ => 0x00000000,
    flds := [(OPP_TAB_BASE, .rw)] }

abbrev OPP_CTRL_ANGLE : Fld := ⟨31, 16⟩
abbrev OPP_CTRL_PAT : Fld := ⟨13, 8⟩
abbrev OPP_CTRL_STOP : Fld := ⟨2, 2⟩
abbrev OPP_CTRL_SWITCH : Fld := ⟨1, 1⟩
abbrev OPP_CTRL_START : Fld := ⟨0, 0⟩
/-- OPP_CTRL (07_machine_control.md, line 643). -/
def OPP_CTRL : RegFam :=
  { name := "OPP_CTRL", base := 0x22081808, dims := [(4, 0x4000000), (2, 0x80)], reset := fun _ => 0x00000000,
    flds := [(OPP_CTRL_ANGLE, .wo), (OPP_CTRL_PAT, .wo), (OPP_CTRL_STOP, .wo), (OPP_CTRL_SWITCH, .wo),
      (OPP_CTRL_START, .wo)] }

abbrev OPP_STAT_STATE : Fld := ⟨31, 29⟩
abbrev OPP_STAT_BADPAT : Fld := ⟨28, 28⟩
abbrev OPP_STAT_CMDREF : Fld := ⟨27, 27⟩
abbrev OPP_STAT_REFUSED : Fld := ⟨26, 26⟩
abbrev OPP_STAT_TRKLOST : Fld := ⟨25, 25⟩
abbrev OPP_STAT_SLOW : Fld := ⟨24, 24⟩
abbrev OPP_STAT_BEHIND : Fld := ⟨23, 23⟩
abbrev OPP_STAT_SWPEND : Fld := ⟨22, 22⟩
abbrev OPP_STAT_PAT : Fld := ⟨13, 8⟩
abbrev OPP_STAT_NEXT : Fld := ⟨5, 0⟩
/-- OPP_STAT (07_machine_control.md, line 655). -/
def OPP_STAT : RegFam :=
  { name := "OPP_STAT", base := 0x2208180C, dims := [(4, 0x4000000), (2, 0x80)], reset := fun _ => 0x00000000,
    flds := [(OPP_STAT_STATE, .ro), (OPP_STAT_BADPAT, .w1c), (OPP_STAT_CMDREF, .w1c), (OPP_STAT_REFUSED, .w1c),
      (OPP_STAT_TRKLOST, .w1c), (OPP_STAT_SLOW, .ro), (OPP_STAT_BEHIND, .w1c), (OPP_STAT_SWPEND, .ro),
      (OPP_STAT_PAT, .ro), (OPP_STAT_NEXT, .ro)] }

/-- OPP_BOFS (07_machine_control.md, line 672). -/
def OPP_BOFS : RegFam :=
  { name := "OPP_BOFS", base := 0x22081810, dims := [(4, 0x4000000), (2, 0x80)], reset := fun _ => 0x00000000,
    flds := [(⟨7, 0⟩, .rw), (⟨15, 8⟩, .rw), (⟨23, 16⟩, .rw), (⟨31, 24⟩, .rw)] }

abbrev OPP_EDGES_COUNT : Fld := ⟨31, 0⟩
/-- OPP_EDGES (07_machine_control.md, line 678). -/
def OPP_EDGES : RegFam :=
  { name := "OPP_EDGES", base := 0x22081814, dims := [(4, 0x4000000), (2, 0x80)], reset := fun _ => 0x00000000,
    flds := [(OPP_EDGES_COUNT, .rc)] }

abbrev OPP_REFST_STATUS : Fld := ⟨31, 24⟩
/-- OPP_REFST (07_machine_control.md, line 684). -/
def OPP_REFST : RegFam :=
  { name := "OPP_REFST", base := 0x22081818, dims := [(4, 0x4000000), (2, 0x80)], reset := fun _ => 0x00000000,
    flds := [(OPP_REFST_STATUS, .ro)] }

abbrev SSX_CFG_EN : Fld := ⟨31, 31⟩
abbrev SSX_CFG_DIR : Fld := ⟨30, 30⟩
abbrev SSX_CFG_CEV : Fld := ⟨29, 29⟩
abbrev SSX_CFG_OBS : Fld := ⟨28, 28⟩
abbrev SSX_CFG_BR : Fld := ⟨27, 26⟩
abbrev SSX_CFG_CELL : Fld := ⟨25, 21⟩
abbrev SSX_CFG_VEC : Fld := ⟨20, 17⟩
abbrev SSX_CFG_CMPU : Fld := ⟨15, 12⟩
abbrev SSX_CFG_CMPV : Fld := ⟨11, 8⟩
abbrev SSX_CFG_CMPW : Fld := ⟨7, 4⟩
/-- SSX_CFG (07_machine_control.md, line 691). -/
def SSX_CFG : RegFam :=
  { name := "SSX_CFG", base := 0x22081A00, dims := [(4, 0x4000000), (2, 0x80)], reset := fun _ => 0x00000120,
    flds := [(SSX_CFG_EN, .rw), (SSX_CFG_DIR, .rw), (SSX_CFG_CEV, .rw), (SSX_CFG_OBS, .rw),
      (SSX_CFG_BR, .rw), (SSX_CFG_CELL, .rw), (SSX_CFG_VEC, .rw), (SSX_CFG_CMPU, .rw),
      (SSX_CFG_CMPV, .rw), (SSX_CFG_CMPW, .rw)] }

abbrev SSX_ZC_BLANK : Fld := ⟨31, 20⟩
abbrev SSX_ZC_FILT : Fld := ⟨19, 12⟩
abbrev SSX_ZC_ADV : Fld := ⟨11, 6⟩
abbrev SSX_ZC_MISSW : Fld := ⟨5, 2⟩
/-- SSX_ZC (07_machine_control.md, line 708). -/
def SSX_ZC : RegFam :=
  { name := "SSX_ZC", base := 0x22081A04, dims := [(4, 0x4000000), (2, 0x80)], reset := fun _ => 0x03208838,
    flds := [(SSX_ZC_BLANK, .rw), (SSX_ZC_FILT, .rw), (SSX_ZC_ADV, .rw), (SSX_ZC_MISSW, .rw)] }

abbrev SSX_LIM_RATIO : Fld := ⟨31, 24⟩
abbrev SSX_LIM_MISSMAX : Fld := ⟨23, 20⟩
abbrev SSX_LIM_LOSCNT : Fld := ⟨19, 16⟩
abbrev SSX_LIM_LOSLIM : Fld := ⟨15, 0⟩
/-- SSX_LIM (07_machine_control.md, line 718). -/
def SSX_LIM : RegFam :=
  { name := "SSX_LIM", base := 0x22081A08, dims := [(4, 0x4000000), (2, 0x80)], reset := fun _ => 0x60331555,
    flds := [(SSX_LIM_RATIO, .rw), (SSX_LIM_MISSMAX, .rw), (SSX_LIM_LOSCNT, .rw), (SSX_LIM_LOSLIM, .rw)] }

abbrev SSX_START_CATCH_T : Fld := ⟨31, 24⟩
abbrev SSX_START_ALIGN_T : Fld := ⟨23, 16⟩
abbrev SSX_START_ALIGN_S : Fld := ⟨15, 13⟩
abbrev SSX_START_BRAKE_T : Fld := ⟨7, 0⟩
/-- SSX_START (07_machine_control.md, line 727). -/
def SSX_START : RegFam :=
  { name := "SSX_START", base := 0x22081A0C, dims := [(4, 0x4000000), (2, 0x80)], reset := fun _ => 0x326400C8,
    flds := [(SSX_START_CATCH_T, .rw), (SSX_START_ALIGN_T, .rw), (SSX_START_ALIGN_S, .rw), (SSX_START_BRAKE_T, .rw)] }

abbrev SSX_RAMP_T0 : Fld := ⟨31, 16⟩
abbrev SSX_RAMP_RAMPK : Fld := ⟨15, 8⟩
abbrev SSX_RAMP_HANDN : Fld := ⟨7, 4⟩
/-- SSX_RAMP (07_machine_control.md, line 737). -/
def SSX_RAMP : RegFam :=
  { name := "SSX_RAMP", base := 0x22081A10, dims := [(4, 0x4000000), (2, 0x80)], reset := fun _ => 0x4E20F060,
    flds := [(SSX_RAMP_T0, .rw), (SSX_RAMP_RAMPK, .rw), (SSX_RAMP_HANDN, .rw)] }

abbrev SSX_TEND_BRK60 : Fld := ⟨31, 16⟩
abbrev SSX_TEND_TEND : Fld := ⟨15, 0⟩
/-- SSX_TEND (07_machine_control.md, line 746). -/
def SSX_TEND : RegFam :=
  { name := "SSX_TEND", base := 0x22081A14, dims := [(4, 0x4000000), (2, 0x80)], reset := fun _ => 0x138801F4,
    flds := [(SSX_TEND_BRK60, .rw), (SSX_TEND_TEND, .rw)] }

abbrev SSX_RETRY_RETRY_MAX : Fld := ⟨31, 24⟩
abbrev SSX_RETRY_RETRY_DLY : Fld := ⟨23, 16⟩
abbrev SSX_RETRY_ZOFS : Fld := ⟨15, 0⟩
/-- SSX_RETRY (07_machine_control.md, line 753). -/
def SSX_RETRY : RegFam :=
  { name := "SSX_RETRY", base := 0x22081A18, dims := [(4, 0x4000000), (2, 0x80)], reset := fun _ => 0x030A0000,
    flds := [(SSX_RETRY_RETRY_MAX, .rw), (SSX_RETRY_RETRY_DLY, .rw), (SSX_RETRY_ZOFS, .rw)] }

abbrev SSX_CTRL_STOP : Fld := ⟨1, 1⟩
abbrev SSX_CTRL_START : Fld := ⟨0, 0⟩
/-- SSX_CTRL (07_machine_control.md, line 761). -/
def SSX_CTRL : RegFam :=
  { name := "SSX_CTRL", base := 0x22081A1C, dims := [(4, 0x4000000), (2, 0x80)], reset := fun _ => 0x00000000,
    flds := [(SSX_CTRL_STOP, .wo), (SSX_CTRL_START, .wo)] }

abbrev SSX_STAT_PHASE : Fld := ⟨31, 29⟩
abbrev SSX_STAT_STATE : Fld := ⟨28, 26⟩
abbrev SSX_STAT_CAUSE : Fld := ⟨25, 22⟩
abbrev SSX_STAT_RETRIES : Fld := ⟨21, 14⟩
abbrev SSX_STAT_FAULT : Fld := ⟨13, 13⟩
abbrev SSX_STAT_EVLOST : Fld := ⟨12, 12⟩
/-- SSX_STAT (07_machine_control.md, line 769). -/
def SSX_STAT : RegFam :=
  { name := "SSX_STAT", base := 0x22081A20, dims := [(4, 0x4000000), (2, 0x80)], reset := fun _ => 0x18000000,
    flds := [(SSX_STAT_PHASE, .ro), (SSX_STAT_STATE, .ro), (SSX_STAT_CAUSE, .ro), (SSX_STAT_RETRIES, .ro),
      (SSX_STAT_FAULT, .w1c), (SSX_STAT_EVLOST, .w1c)] }

abbrev SSX_T60_T60 : Fld := ⟨31, 0⟩
/-- SSX_T60 (07_machine_control.md, line 781). -/
def SSX_T60 : RegFam :=
  { name := "SSX_T60", base := 0x22081A24, dims := [(4, 0x4000000), (2, 0x80)], reset := fun _ => 0x00000000,
    flds := [(SSX_T60_T60, .ro)] }

abbrev PWM_LOADALL_GROUPS : Fld := ⟨7, 0⟩
/-- PWM_LOADALL (08_pwm_and_gate_links.md, line 424). -/
def PWM_LOADALL : RegFam :=
  { name := "PWM_LOADALL", base := 0x22000000, dims := [(4, 0x4000000)], reset := fun _ => 0x00000000,
    flds := [(PWM_LOADALL_GROUPS, .wo)] }

abbrev PWM_LARES_BUSY : Fld := ⟨31, 31⟩
abbrev PWM_LARES_STATUS : Fld := ⟨23, 16⟩
abbrev PWM_LARES_MASK : Fld := ⟨7, 0⟩
/-- PWM_LARES (08_pwm_and_gate_links.md, line 431). -/
def PWM_LARES : RegFam :=
  { name := "PWM_LARES", base := 0x22000004, dims := [(4, 0x4000000)], reset := fun _ => 0x00000000,
    flds := [(PWM_LARES_BUSY, .ro), (PWM_LARES_STATUS, .ro), (PWM_LARES_MASK, .ro)], perAgent := true }

abbrev PWM_GCTL_EN : Fld := ⟨31, 31⟩
abbrev PWM_GCTL_ABPAT : Fld := ⟨30, 30⟩
abbrev PWM_GCTL_STARTFR : Fld := ⟨23, 16⟩
/-- PWM_GCTL (08_pwm_and_gate_links.md, line 443). -/
def PWM_GCTL : RegFam :=
  { name := "PWM_GCTL", base := 0x22000100, dims := [(4, 0x4000000), (8, 0x20)], reset := fun _ => 0x40000000,
    flds := [(PWM_GCTL_EN, .rw), (PWM_GCTL_ABPAT, .rw), (PWM_GCTL_STARTFR, .rw)] }

abbrev PWM_GPER_CMODE : Fld := ⟨31, 31⟩
abbrev PWM_GPER_PER : Fld := ⟨23, 0⟩
/-- PWM_GPER (08_pwm_and_gate_links.md, line 453). -/
def PWM_GPER : RegFam :=
  { name := "PWM_GPER", base := 0x22000104, dims := [(4, 0x4000000), (8, 0x20)], reset := fun _ => 0x00006400,
    flds := [(PWM_GPER_CMODE, .rw), (PWM_GPER_PER, .rw)] }

abbrev PWM_GSTART_LO_NS : Fld := ⟨31, 0⟩
/-- PWM_GSTART_LO (08_pwm_and_gate_links.md, line 461). -/
def PWM_GSTART_LO : RegFam :=
  { name := "PWM_GSTART_LO", base := 0x22000108, dims := [(4, 0x4000000), (8, 0x20)], reset := fun _ => 0x00000000,
    flds := [(PWM_GSTART_LO_NS, .rw)] }

abbrev PWM_GSTART_HI_NS : Fld := ⟨31, 0⟩
/-- PWM_GSTART_HI (08_pwm_and_gate_links.md, line 461). -/
def PWM_GSTART_HI : RegFam :=
  { name := "PWM_GSTART_HI", base := 0x2200010C, dims := [(4, 0x4000000), (8, 0x20)], reset := fun _ => 0x00000000,
    flds := [(PWM_GSTART_HI_NS, .rw)] }

abbrev PWM_GSTAT_RUN : Fld := ⟨31, 31⟩
abbrev PWM_GSTAT_ABORT : Fld := ⟨30, 30⟩
abbrev PWM_GSTAT_MIGP : Fld := ⟨29, 29⟩
abbrev PWM_GSTAT_SAFE : Fld := ⟨28, 28⟩
abbrev PWM_GSTAT_LATESTART : Fld := ⟨27, 27⟩
abbrev PWM_GSTAT_CFAIL : Fld := ⟨26, 26⟩
abbrev PWM_GSTAT_PEND : Fld := ⟨25, 25⟩
abbrev PWM_GSTAT_COMMITS : Fld := ⟨15, 0⟩
/-- PWM_GSTAT (08_pwm_and_gate_links.md, line 467). -/
def PWM_GSTAT : RegFam :=
  { name := "PWM_GSTAT", base := 0x22000110, dims := [(4, 0x4000000), (8, 0x20)], reset := fun _ => 0x00000000,
    flds := [(PWM_GSTAT_RUN, .ro), (PWM_GSTAT_ABORT, .w1c), (PWM_GSTAT_MIGP, .ro), (PWM_GSTAT_SAFE, .ro),
      (PWM_GSTAT_LATESTART, .w1c), (PWM_GSTAT_CFAIL, .w1c), (PWM_GSTAT_PEND, .ro), (PWM_GSTAT_COMMITS, .ro)] }

abbrev PWM_GPOS_VALUE : Fld := ⟨31, 0⟩
/-- PWM_GPOS (08_pwm_and_gate_links.md, line 481). -/
def PWM_GPOS : RegFam :=
  { name := "PWM_GPOS", base := 0x22000114, dims := [(4, 0x4000000), (8, 0x20)], reset := fun _ => 0x00000000,
    flds := [(PWM_GPOS_VALUE, .ro)] }

abbrev PWM_GBND_VALUE : Fld := ⟨31, 0⟩
/-- PWM_GBND (08_pwm_and_gate_links.md, line 481). -/
def PWM_GBND : RegFam :=
  { name := "PWM_GBND", base := 0x22000118, dims := [(4, 0x4000000), (8, 0x20)], reset := fun _ => 0x00000000,
    flds := [(PWM_GBND_VALUE, .ro)] }

abbrev PWM_BMODE_MODE : Fld := ⟨31, 30⟩
abbrev PWM_BMODE_MSH : Fld := ⟨29, 29⟩
abbrev PWM_BMODE_MIDX : Fld := ⟨26, 24⟩
/-- PWM_BMODE (08_pwm_and_gate_links.md, line 489). -/
def PWM_BMODE : RegFam :=
  { name := "PWM_BMODE", base := 0x22000400, dims := [(4, 0x4000000), (4, 0x100)], reset := fun _ => 0x00000000,
    flds := [(PWM_BMODE_MODE, .rw), (PWM_BMODE_MSH, .rw), (PWM_BMODE_MIDX, .rw)] }

abbrev PWM_DUTY_DUTY : Fld := ⟨15, 0⟩
/-- PWM_DUTY (08_pwm_and_gate_links.md, line 499). -/
def PWM_DUTY : RegFam :=
  { name := "PWM_DUTY", base := 0x22000404, dims := [(4, 0x4000000), (4, 0x100), (3, 0x4)], reset := fun _ => 0x00000000,
    flds := [(PWM_DUTY_DUTY, .rw)] }

abbrev PWM_BCFG_MEN : Fld := ⟨31, 31⟩
abbrev PWM_BCFG_MPMODE : Fld := ⟨30, 29⟩
abbrev PWM_BCFG_GRP : Fld := ⟨28, 26⟩
abbrev PWM_BCFG_TRIPSSD : Fld := ⟨25, 25⟩
abbrev PWM_BCFG_POL : Fld := ⟨23, 18⟩
abbrev PWM_BCFG_LMODE2 : Fld := ⟨17, 16⟩
abbrev PWM_BCFG_LMODE1 : Fld := ⟨15, 14⟩
abbrev PWM_BCFG_LMODE0 : Fld := ⟨13, 12⟩
/-- PWM_BCFG (08_pwm_and_gate_links.md, line 506). -/
def PWM_BCFG : RegFam :=
  { name := "PWM_BCFG", base := 0x22000410, dims := [(4, 0x4000000), (4, 0x100)], reset := fun _ => 0x00000000,
    flds := [(PWM_BCFG_MEN, .st), (PWM_BCFG_MPMODE, .st), (PWM_BCFG_GRP, .st), (PWM_BCFG_TRIPSSD, .st),
      (PWM_BCFG_POL, .st), (PWM_BCFG_LMODE2, .st), (PWM_BCFG_LMODE1, .st), (PWM_BCFG_LMODE0, .st)] }

abbrev PWM_MINP_MINP : Fld := ⟨15, 0⟩
/-- PWM_MINP (08_pwm_and_gate_links.md, line 521). -/
def PWM_MINP : RegFam :=
  { name := "PWM_MINP", base := 0x22000414, dims := [(4, 0x4000000), (4, 0x100)], reset := fun _ => 0x00000000,
    flds := [(PWM_MINP_MINP, .st)] }

abbrev PWM_DT_DTF : Fld := ⟨31, 16⟩
abbrev PWM_DT_DTR : Fld := ⟨15, 0⟩
/-- PWM_DT (08_pwm_and_gate_links.md, line 528). -/
def PWM_DT : RegFam :=
  { name := "PWM_DT", base := 0x22000418, dims := [(4, 0x4000000), (4, 0x100), (3, 0x4)], reset := fun _ => 0x14001400,
    flds := [(PWM_DT_DTF, .st), (PWM_DT_DTR, .st)] }

abbrev PWM_MCTL_SET : Fld := ⟨31, 31⟩
abbrev PWM_MCTL_IDX : Fld := ⟨2, 0⟩
/-- PWM_MCTL (08_pwm_and_gate_links.md, line 535). -/
def PWM_MCTL : RegFam :=
  { name := "PWM_MCTL", base := 0x22000424, dims := [(4, 0x4000000), (4, 0x100)], reset := fun _ => 0x00000000,
    flds := [(PWM_MCTL_SET, .wo), (PWM_MCTL_IDX, .wo)] }

abbrev PWM_BSTAT_TRIP : Fld := ⟨31, 31⟩
abbrev PWM_BSTAT_TCAUSE : Fld := ⟨30, 28⟩
abbrev PWM_BSTAT_SAFE : Fld := ⟨27, 27⟩
abbrev PWM_BSTAT_ABORTP : Fld := ⟨26, 26⟩
abbrev PWM_BSTAT_MIGP : Fld := ⟨25, 25⟩
abbrev PWM_BSTAT_SHOOT : Fld := ⟨24, 24⟩
abbrev PWM_BSTAT_ABSORB : Fld := ⟨23, 23⟩
abbrev PWM_BSTAT_DEFER : Fld := ⟨22, 22⟩
abbrev PWM_BSTAT_MIDX : Fld := ⟨21, 19⟩
abbrev PWM_BSTAT_QDROP : Fld := ⟨15, 8⟩
/-- PWM_BSTAT (08_pwm_and_gate_links.md, line 543). -/
def PWM_BSTAT : RegFam :=
  { name := "PWM_BSTAT", base := 0x22000428, dims := [(4, 0x4000000), (4, 0x100)], reset := fun _ => 0x00000000,
    flds := [(PWM_BSTAT_TRIP, .w1c), (PWM_BSTAT_TCAUSE, .ro), (PWM_BSTAT_SAFE, .ro), (PWM_BSTAT_ABORTP, .ro),
      (PWM_BSTAT_MIGP, .ro), (PWM_BSTAT_SHOOT, .w1c), (PWM_BSTAT_ABSORB, .w1c), (PWM_BSTAT_DEFER, .w1c),
      (PWM_BSTAT_MIDX, .ro), (PWM_BSTAT_QDROP, .rc)] }

abbrev PWM_TAB_V : Fld := ⟨31, 31⟩
abbrev PWM_TAB_LEVEL : Fld := ⟨30, 30⟩
abbrev PWM_TAB_OFS : Fld := ⟨23, 0⟩
/-- PWM_TAB (08_pwm_and_gate_links.md, line 560). -/
def PWM_TAB : RegFam :=
  { name := "PWM_TAB", base := 0x22000440, dims := [(4, 0x4000000), (4, 0x100), (3, 0x10), (4, 0x4)], reset := fun _ => 0x00000000,
    flds := [(PWM_TAB_V, .rw), (PWM_TAB_LEVEL, .rw), (PWM_TAB_OFS, .rw)] }

/-- PWM_MASK (08_pwm_and_gate_links.md, line 569). -/
def PWM_MASK : RegFam :=
  { name := "PWM_MASK", base := 0x220004C0, dims := [(4, 0x4000000), (4, 0x100), (8, 0x4)], reset := fun _ => 0x00000555,
    flds := [(⟨1, 0⟩, .st), (⟨3, 2⟩, .st), (⟨5, 4⟩, .st), (⟨7, 6⟩, .st),
      (⟨9, 8⟩, .st), (⟨11, 10⟩, .st)] }

abbrev GDL_CFG_EN : Fld := ⟨31, 31⟩
abbrev GDL_CFG_REQ : Fld := ⟨30, 30⟩
abbrev GDL_CFG_AUTORD : Fld := ⟨29, 29⟩
abbrev GDL_CFG_ERRMAX : Fld := ⟨28, 24⟩
abbrev GDL_CFG_POLLPER : Fld := ⟨23, 16⟩
abbrev GDL_CFG_LTMO : Fld := ⟨15, 8⟩
abbrev GDL_CFG_NPOLL : Fld := ⟨7, 4⟩
/-- GDL_CFG (08_pwm_and_gate_links.md, line 578). -/
def GDL_CFG : RegFam :=
  { name := "GDL_CFG", base := 0x22040000, dims := [(4, 0x4000000), (12, 0x100)], reset := fun _ => 0x23640A00,
    flds := [(GDL_CFG_EN, .rw), (GDL_CFG_REQ, .rw), (GDL_CFG_AUTORD, .rw), (GDL_CFG_ERRMAX, .rw),
      (GDL_CFG_POLLPER, .rw), (GDL_CFG_LTMO, .rw), (GDL_CFG_NPOLL, .rw)] }

abbrev GDL_STAT_LINK : Fld := ⟨31, 30⟩
abbrev GDL_STAT_FAULT : Fld := ⟨29, 29⟩
abbrev GDL_STAT_FSIDE : Fld := ⟨28, 28⟩
abbrev GDL_STAT_FKIND : Fld := ⟨27, 26⟩
abbrev GDL_STAT_DOWNEV : Fld := ⟨25, 25⟩
abbrev GDL_STAT_SSDSENT : Fld := ⟨24, 24⟩
/-- GDL_STAT (08_pwm_and_gate_links.md, line 591). -/
def GDL_STAT : RegFam :=
  { name := "GDL_STAT", base := 0x22040004, dims := [(4, 0x4000000), (12, 0x100)], reset := fun _ => 0x00000000,
    flds := [(GDL_STAT_LINK, .ro), (GDL_STAT_FAULT, .w1c), (GDL_STAT_FSIDE, .ro), (GDL_STAT_FKIND, .ro),
      (GDL_STAT_DOWNEV, .w1c), (GDL_STAT_SSDSENT, .w1c)] }

abbrev GDL_ERRCNT_CRC : Fld := ⟨31, 24⟩
abbrev GDL_ERRCNT_NOREPLY : Fld := ⟨23, 16⟩
abbrev GDL_ERRCNT_MANCH : Fld := ⟨15, 8⟩
abbrev GDL_ERRCNT_ECHO : Fld := ⟨7, 0⟩
/-- GDL_ERRCNT (08_pwm_and_gate_links.md, line 603). -/
def GDL_ERRCNT : RegFam :=
  { name := "GDL_ERRCNT", base := 0x22040008, dims := [(4, 0x4000000), (12, 0x100)], reset := fun _ => 0x00000000,
    flds := [(GDL_ERRCNT_CRC, .rc), (GDL_ERRCNT_NOREPLY, .rc), (GDL_ERRCNT_MANCH, .rc), (GDL_ERRCNT_ECHO, .rc)] }

abbrev GDL_CMD_SEL : Fld := ⟨31, 30⟩
abbrev GDL_CMD_CMD : Fld := ⟨29, 28⟩
abbrev GDL_CMD_ADDR : Fld := ⟨22, 16⟩
abbrev GDL_CMD_DATA : Fld := ⟨15, 0⟩
/-- GDL_CMD (08_pwm_and_gate_links.md, line 612). -/
def GDL_CMD : RegFam :=
  { name := "GDL_CMD", base := 0x2204000C, dims := [(4, 0x4000000), (12, 0x100)], reset := fun _ => 0x00000000,
    flds := [(GDL_CMD_SEL, .wo), (GDL_CMD_CMD, .wo), (GDL_CMD_ADDR, .wo), (GDL_CMD_DATA, .wo)] }

abbrev GDL_CRES_BUSY : Fld := ⟨31, 31⟩
abbrev GDL_CRES_MASK : Fld := ⟨25, 24⟩
abbrev GDL_CRES_STATUS : Fld := ⟨23, 16⟩
abbrev GDL_CRES_DATA : Fld := ⟨15, 0⟩
/-- GDL_CRES (08_pwm_and_gate_links.md, line 622). -/
def GDL_CRES : RegFam :=
  { name := "GDL_CRES", base := 0x22040010, dims := [(4, 0x4000000), (12, 0x100)], reset := fun _ => 0x00000000,
    flds := [(GDL_CRES_BUSY, .ro), (GDL_CRES_MASK, .ro), (GDL_CRES_STATUS, .ro), (GDL_CRES_DATA, .ro)] }

abbrev GDL_FSTAT_LOW : Fld := ⟨31, 16⟩
abbrev GDL_FSTAT_HIGH : Fld := ⟨15, 0⟩
/-- GDL_FSTAT (08_pwm_and_gate_links.md, line 632). -/
def GDL_FSTAT : RegFam :=
  { name := "GDL_FSTAT", base := 0x22040014, dims := [(4, 0x4000000), (12, 0x100)], reset := fun _ => 0x00000000,
    flds := [(GDL_FSTAT_LOW, .ro), (GDL_FSTAT_HIGH, .ro)] }

abbrev GDL_POLL_SEL : Fld := ⟨31, 30⟩
abbrev GDL_POLL_ADDR : Fld := ⟨22, 16⟩
/-- GDL_POLL (08_pwm_and_gate_links.md, line 639). -/
def GDL_POLL : RegFam :=
  { name := "GDL_POLL", base := 0x22040020, dims := [(4, 0x4000000), (12, 0x100), (8, 0x4)], reset := fun _ => 0x00000000,
    flds := [(GDL_POLL_SEL, .rw), (GDL_POLL_ADDR, .rw)] }

abbrev GDL_TEL_VALID : Fld := ⟨31, 31⟩
abbrev GDL_TEL_FLT : Fld := ⟨30, 30⟩
abbrev GDL_TEL_AGE : Fld := ⟨29, 16⟩
abbrev GDL_TEL_DATA : Fld := ⟨15, 0⟩
/-- GDL_TEL (08_pwm_and_gate_links.md, line 648). -/
def GDL_TEL : RegFam :=
  { name := "GDL_TEL", base := 0x22040040, dims := [(4, 0x4000000), (12, 0x100), (8, 0x4)], reset := fun _ => 0x3FFF0000,
    flds := [(GDL_TEL_VALID, .ro), (GDL_TEL_FLT, .ro), (GDL_TEL_AGE, .ro), (GDL_TEL_DATA, .ro)] }

abbrev ADC_CFG_EN : Fld := ⟨31, 31⟩
abbrev ADC_CFG_REFEN : Fld := ⟨30, 30⟩
abbrev ADC_CFG_SGN : Fld := ⟨13, 8⟩
abbrev ADC_CFG_SMASK : Fld := ⟨5, 0⟩
/-- ADC_CFG (09_sensing.md, line 264). -/
def ADC_CFG : RegFam :=
  { name := "ADC_CFG", base := 0x22010000, dims := [(4, 0x4000000), (4, 0x100)], reset := fun _ => 0x00000001,
    flds := [(ADC_CFG_EN, .rw), (ADC_CFG_REFEN, .rw), (ADC_CFG_SGN, .rw), (ADC_CFG_SMASK, .rw)] }

abbrev ADC_DLY_GDLY : Fld := ⟨31, 16⟩
abbrev ADC_DLY_PDLY : Fld := ⟨15, 0⟩
/-- ADC_DLY (09_sensing.md, line 275). -/
def ADC_DLY : RegFam :=
  { name := "ADC_DLY", base := 0x22010004, dims := [(4, 0x4000000), (4, 0x100)], reset := fun _ => 0x00000000,
    flds := [(ADC_DLY_GDLY, .rw), (ADC_DLY_PDLY, .rw)] }

abbrev ADC_PTRG_EVT : Fld := ⟨31, 30⟩
abbrev ADC_PTRG_GRPS : Fld := ⟨23, 16⟩
abbrev ADC_PTRG_PMASK : Fld := ⟨5, 0⟩
/-- ADC_PTRG (09_sensing.md, line 282). -/
def ADC_PTRG : RegFam :=
  { name := "ADC_PTRG", base := 0x22010008, dims := [(4, 0x4000000), (4, 0x100)], reset := fun _ => 0x00000000,
    flds := [(ADC_PTRG_EVT, .rw), (ADC_PTRG_GRPS, .rw), (ADC_PTRG_PMASK, .rw)] }

abbrev ADC_RES_NEW : Fld := ⟨31, 31⟩
abbrev ADC_RES_OVR : Fld := ⟨30, 30⟩
abbrev ADC_RES_OR : Fld := ⟨29, 29⟩
abbrev ADC_RES_SUSP : Fld := ⟨28, 28⟩
abbrev ADC_RES_SGN : Fld := ⟨27, 27⟩
abbrev ADC_RES_CH : Fld := ⟨26, 24⟩
abbrev ADC_RES_SCAN : Fld := ⟨23, 16⟩
abbrev ADC_RES_DATA : Fld := ⟨15, 0⟩
/-- ADC_RES (09_sensing.md, line 292). -/
def ADC_RES : RegFam :=
  { name := "ADC_RES", base := 0x2201000C, dims := [(4, 0x4000000), (4, 0x100)], reset := fun _ => 0x00000000,
    flds := [(ADC_RES_NEW, .rc), (ADC_RES_OVR, .rc), (ADC_RES_OR, .ro), (ADC_RES_SUSP, .ro),
      (ADC_RES_SGN, .ro), (ADC_RES_CH, .ro), (ADC_RES_SCAN, .ro), (ADC_RES_DATA, .ro)] }

abbrev ADC_STAT_REFRDY : Fld := ⟨31, 31⟩
abbrev ADC_STAT_BUSY : Fld := ⟨30, 30⟩
abbrev ADC_STAT_TDROP : Fld := ⟨29, 29⟩
abbrev ADC_STAT_NRDY : Fld := ⟨28, 28⟩
abbrev ADC_STAT_OCLP : Fld := ⟨27, 27⟩
abbrev ADC_STAT_OUTST : Fld := ⟨26, 24⟩
abbrev ADC_STAT_OR : Fld := ⟨5, 0⟩
/-- ADC_STAT (09_sensing.md, line 305). -/
def ADC_STAT : RegFam :=
  { name := "ADC_STAT", base := 0x22010010, dims := [(4, 0x4000000), (4, 0x100)], reset := fun _ => 0x00000000,
    flds := [(ADC_STAT_REFRDY, .ro), (ADC_STAT_BUSY, .ro), (ADC_STAT_TDROP, .w1c), (ADC_STAT_NRDY, .w1c),
      (ADC_STAT_OCLP, .w1c), (ADC_STAT_OUTST, .ro), (ADC_STAT_OR, .w1c)] }

abbrev ADC_TRGDROP_DROPPED : Fld := ⟨31, 0⟩
/-- ADC_TRGDROP (09_sensing.md, line 318). -/
def ADC_TRGDROP : RegFam :=
  { name := "ADC_TRGDROP", base := 0x22010014, dims := [(4, 0x4000000), (4, 0x100)], reset := fun _ => 0x00000000,
    flds := [(ADC_TRGDROP_DROPPED, .rc)] }

abbrev ADC_OFS_OFS : Fld := ⟨15, 0⟩
/-- ADC_OFS (09_sensing.md, line 324). -/
def ADC_OFS : RegFam :=
  { name := "ADC_OFS", base := 0x22010020, dims := [(4, 0x4000000), (4, 0x100), (6, 0x4)], reset := fun _ => 0x00008000,
    flds := [(ADC_OFS_OFS, .rw)] }

abbrev DSM_CFG_EN : Fld := ⟨31, 31⟩
abbrev DSM_CFG_CLKSEL : Fld := ⟨30, 30⟩
abbrev DSM_CFG_EDGE : Fld := ⟨29, 29⟩
abbrev DSM_CFG_INV : Fld := ⟨28, 28⟩
abbrev DSM_CFG_SGRP : Fld := ⟨27, 25⟩
abbrev DSM_CFG_OSR : Fld := ⟨24, 16⟩
abbrev DSM_CFG_NEV : Fld := ⟨15, 15⟩
abbrev DSM_CFG_CELL : Fld := ⟨14, 10⟩
abbrev DSM_CFG_VEC : Fld := ⟨9, 6⟩
abbrev DSM_CFG_STUCKN : Fld := ⟨5, 0⟩
/-- DSM_CFG (09_sensing.md, line 333). -/
def DSM_CFG : RegFam :=
  { name := "DSM_CFG", base := 0x22050000, dims := [(4, 0x4000000), (8, 0x40)], reset := fun _ => 0x00400000,
    flds := [(DSM_CFG_EN, .rw), (DSM_CFG_CLKSEL, .rw), (DSM_CFG_EDGE, .rw), (DSM_CFG_INV, .rw),
      (DSM_CFG_SGRP, .rw), (DSM_CFG_OSR, .rw), (DSM_CFG_NEV, .rw), (DSM_CFG_CELL, .rw),
      (DSM_CFG_VEC, .rw), (DSM_CFG_STUCKN, .rw)] }

abbrev DSM_CTRL_ARM : Fld := ⟨1, 1⟩
abbrev DSM_CTRL_SYNC : Fld := ⟨0, 0⟩
/-- DSM_CTRL (09_sensing.md, line 348). -/
def DSM_CTRL : RegFam :=
  { name := "DSM_CTRL", base := 0x22050004, dims := [(4, 0x4000000), (8, 0x40)], reset := fun _ => 0x00000000,
    flds := [(DSM_CTRL_ARM, .wo), (DSM_CTRL_SYNC, .wo)] }

abbrev DSM_RES_VALID : Fld := ⟨31, 31⟩
abbrev DSM_RES_NEW : Fld := ⟨30, 30⟩
abbrev DSM_RES_OVR : Fld := ⟨29, 29⟩
abbrev DSM_RES_CLIP : Fld := ⟨28, 28⟩
abbrev DSM_RES_COUNT : Fld := ⟨23, 16⟩
abbrev DSM_RES_DATA : Fld := ⟨15, 0⟩
/-- DSM_RES (09_sensing.md, line 356). -/
def DSM_RES : RegFam :=
  { name := "DSM_RES", base := 0x22050008, dims := [(4, 0x4000000), (8, 0x40)], reset := fun _ => 0x00000000,
    flds := [(DSM_RES_VALID, .ro), (DSM_RES_NEW, .rc), (DSM_RES_OVR, .rc), (DSM_RES_CLIP, .ro),
      (DSM_RES_COUNT, .ro), (DSM_RES_DATA, .ro)] }

abbrev DSM_STAT_STUCK : Fld := ⟨31, 31⟩
abbrev DSM_STAT_EVLOST : Fld := ⟨30, 30⟩
abbrev DSM_STAT_ARMED : Fld := ⟨29, 29⟩
abbrev DSM_STAT_RUN : Fld := ⟨28, 28⟩
/-- DSM_STAT (09_sensing.md, line 368). -/
def DSM_STAT : RegFam :=
  { name := "DSM_STAT", base := 0x2205000C, dims := [(4, 0x4000000), (8, 0x40)], reset := fun _ => 0x00000000,
    flds := [(DSM_STAT_STUCK, .w1c), (DSM_STAT_EVLOST, .w1c), (DSM_STAT_ARMED, .ro), (DSM_STAT_RUN, .ro)] }

abbrev DSMCLK_CFG_EN : Fld := ⟨31, 31⟩
abbrev DSMCLK_CFG_SRC : Fld := ⟨30, 30⟩
abbrev DSMCLK_CFG_DIV : Fld := ⟨8, 0⟩
/-- DSMCLK_CFG (09_sensing.md, line 378). -/
def DSMCLK_CFG : RegFam :=
  { name := "DSMCLK_CFG", base := 0x22050400, dims := [(4, 0x4000000), (2, 0x4)], reset := fun _ => 0x00000010,
    flds := [(DSMCLK_CFG_EN, .rw), (DSMCLK_CFG_SRC, .rw), (DSMCLK_CFG_DIV, .rw)] }

end Sys2Proof.Machine
end

