-- ==== Sys2Proof/Machine/RegMapSense.lean ====
section
/-! DEFINITION. Register families of the chip memory map, chapters 10, 11, 12, 13, 14: names, addresses, fields, access types and
reset values as the register tables of the spec give them. -/

namespace Sys2Proof.Machine

abbrev CMP_CFG_EN : Fld := ⟨31, 31⟩
abbrev CMP_CFG_MODE : Fld := ⟨30, 30⟩
abbrev CMP_CFG_SMP : Fld := ⟨29, 29⟩
abbrev CMP_CFG_TEST : Fld := ⟨28, 27⟩
abbrev CMP_CFG_INSEL : Fld := ⟨23, 19⟩
abbrev CMP_CFG_RSEL : Fld := ⟨18, 14⟩
abbrev CMP_CFG_FILT : Fld := ⟨13, 8⟩
abbrev CMP_CFG_PCLR : Fld := ⟨7, 7⟩
abbrev CMP_CFG_CLRGRP : Fld := ⟨6, 4⟩
/-- CMP_CFG (10_protection_and_sump.md, line 238). -/
def CMP_CFG : RegFam :=
  { name := "CMP_CFG", base := 0x22020000, dims := [(4, 0x4000000), (16, 0x40)], reset := fun _ => 0x00000000,
    flds := [(CMP_CFG_EN, .rw), (CMP_CFG_MODE, .rw), (CMP_CFG_SMP, .rw), (CMP_CFG_TEST, .rw),
      (CMP_CFG_INSEL, .rw), (CMP_CFG_RSEL, .rw), (CMP_CFG_FILT, .rw), (CMP_CFG_PCLR, .rw),
      (CMP_CFG_CLRGRP, .rw)] }

abbrev CMP_THR_THH : Fld := ⟨27, 16⟩
abbrev CMP_THR_THL : Fld := ⟨11, 0⟩
/-- CMP_THR (10_protection_and_sump.md, line 254). -/
def CMP_THR : RegFam :=
  { name := "CMP_THR", base := 0x22020004, dims := [(4, 0x4000000), (16, 0x40)], reset := fun _ => 0x0FFF0000,
    flds := [(CMP_THR_THH, .rw), (CMP_THR_THL, .rw)] }

abbrev CMP_HYS_SPER : Fld := ⟨31, 24⟩
abbrev CMP_HYS_HYS : Fld := ⟨7, 0⟩
/-- CMP_HYS (10_protection_and_sump.md, line 263). -/
def CMP_HYS : RegFam :=
  { name := "CMP_HYS", base := 0x22020008, dims := [(4, 0x4000000), (16, 0x40)], reset := fun _ => 0x0A000004,
    flds := [(CMP_HYS_SPER, .rw), (CMP_HYS_HYS, .rw)] }

abbrev CMP_ROUTE_TRIPB : Fld := ⟨31, 28⟩
abbrev CMP_ROUTE_TSRC : Fld := ⟨27, 26⟩
abbrev CMP_ROUTE_IE : Fld := ⟨25, 25⟩
abbrev CMP_ROUTE_NEV : Fld := ⟨24, 24⟩
abbrev CMP_ROUTE_CELL : Fld := ⟨23, 19⟩
abbrev CMP_ROUTE_VEC : Fld := ⟨18, 15⟩
abbrev CMP_ROUTE_WAKE : Fld := ⟨14, 14⟩
abbrev CMP_ROUTE_CAPS : Fld := ⟨13, 13⟩
abbrev CMP_ROUTE_CAPE : Fld := ⟨12, 11⟩
/-- CMP_ROUTE (10_protection_and_sump.md, line 271). -/
def CMP_ROUTE : RegFam :=
  { name := "CMP_ROUTE", base := 0x2202000C, dims := [(4, 0x4000000), (16, 0x40)], reset := fun _ => 0x00000000,
    flds := [(CMP_ROUTE_TRIPB, .rw), (CMP_ROUTE_TSRC, .rw), (CMP_ROUTE_IE, .rw), (CMP_ROUTE_NEV, .rw),
      (CMP_ROUTE_CELL, .rw), (CMP_ROUTE_VEC, .rw), (CMP_ROUTE_WAKE, .rw), (CMP_ROUTE_CAPS, .rw),
      (CMP_ROUTE_CAPE, .rw)] }

abbrev CMP_STAT_HI : Fld := ⟨31, 31⟩
abbrev CMP_STAT_LO : Fld := ⟨30, 30⟩
abbrev CMP_STAT_HIL : Fld := ⟨29, 29⟩
abbrev CMP_STAT_LOL : Fld := ⟨28, 28⟩
abbrev CMP_STAT_SETTLE : Fld := ⟨27, 27⟩
abbrev CMP_STAT_EVLOST : Fld := ⟨26, 26⟩
/-- CMP_STAT (10_protection_and_sump.md, line 286). -/
def CMP_STAT : RegFam :=
  { name := "CMP_STAT", base := 0x22020010, dims := [(4, 0x4000000), (16, 0x40)], reset := fun _ => 0x00000000,
    flds := [(CMP_STAT_HI, .ro), (CMP_STAT_LO, .ro), (CMP_STAT_HIL, .w1c), (CMP_STAT_LOL, .w1c),
      (CMP_STAT_SETTLE, .ro), (CMP_STAT_EVLOST, .w1c)] }

abbrev CMP_CAP_NEW : Fld := ⟨31, 31⟩
abbrev CMP_CAP_OVR : Fld := ⟨30, 30⟩
abbrev CMP_CAP_EDGE : Fld := ⟨29, 29⟩
abbrev CMP_CAP_NS : Fld := ⟨28, 0⟩
/-- CMP_CAP (10_protection_and_sump.md, line 298). -/
def CMP_CAP : RegFam :=
  { name := "CMP_CAP", base := 0x22020014, dims := [(4, 0x4000000), (16, 0x40)], reset := fun _ => 0x00000000,
    flds := [(CMP_CAP_NEW, .rc), (CMP_CAP_OVR, .rc), (CMP_CAP_EDGE, .ro), (CMP_CAP_NS, .ro)] }

abbrev CMP_SUM_LOL : Fld := ⟨31, 16⟩
abbrev CMP_SUM_HIL : Fld := ⟨15, 0⟩
/-- CMP_SUM (10_protection_and_sump.md, line 307). -/
def CMP_SUM : RegFam :=
  { name := "CMP_SUM", base := 0x22020400, dims := [(4, 0x4000000)], reset := fun _ => 0x00000000,
    flds := [(CMP_SUM_LOL, .ro), (CMP_SUM_HIL, .ro)] }

abbrev SUMP_CFG_EN : Fld := ⟨31, 31⟩
abbrev SUMP_CFG_CHEN : Fld := ⟨30, 30⟩
abbrev SUMP_CFG_CA : Fld := ⟨27, 24⟩
abbrev SUMP_CFG_CB : Fld := ⟨23, 20⟩
abbrev SUMP_CFG_CLEG : Fld := ⟨19, 16⟩
abbrev SUMP_CFG_DLEG : Fld := ⟨15, 12⟩
/-- SUMP_CFG (10_protection_and_sump.md, line 316). -/
def SUMP_CFG : RegFam :=
  { name := "SUMP_CFG", base := 0x22060000, dims := [(4, 0x4000000)], reset := fun _ => 0x001FF000,
    flds := [(SUMP_CFG_EN, .rw), (SUMP_CFG_CHEN, .rw), (SUMP_CFG_CA, .rw), (SUMP_CFG_CB, .rw),
      (SUMP_CFG_CLEG, .rw), (SUMP_CFG_DLEG, .rw)] }

abbrev SUMP_EVT_NEV0 : Fld := ⟨31, 31⟩
abbrev SUMP_EVT_CELL0 : Fld := ⟨30, 26⟩
abbrev SUMP_EVT_NEV1 : Fld := ⟨25, 25⟩
abbrev SUMP_EVT_CELL1 : Fld := ⟨24, 20⟩
abbrev SUMP_EVT_VEC : Fld := ⟨19, 16⟩
abbrev SUMP_EVT_IE : Fld := ⟨15, 15⟩
/-- SUMP_EVT (10_protection_and_sump.md, line 329). -/
def SUMP_EVT : RegFam :=
  { name := "SUMP_EVT", base := 0x22060004, dims := [(4, 0x4000000)], reset := fun _ => 0x00000000,
    flds := [(SUMP_EVT_NEV0, .rw), (SUMP_EVT_CELL0, .rw), (SUMP_EVT_NEV1, .rw), (SUMP_EVT_CELL1, .rw),
      (SUMP_EVT_VEC, .rw), (SUMP_EVT_IE, .rw)] }

abbrev SUMP_CHOP_MINON : Fld := ⟨31, 24⟩
abbrev SUMP_CHOP_MINOFF : Fld := ⟨23, 16⟩
abbrev SUMP_CHOP_RAMPT : Fld := ⟨15, 0⟩
/-- SUMP_CHOP (10_protection_and_sump.md, line 341). -/
def SUMP_CHOP : RegFam :=
  { name := "SUMP_CHOP", base := 0x22060008, dims := [(4, 0x4000000)], reset := fun _ => 0x0A0A00C8,
    flds := [(SUMP_CHOP_MINON, .rw), (SUMP_CHOP_MINOFF, .rw), (SUMP_CHOP_RAMPT, .rw)] }

abbrev SUMP_RES_EMAX : Fld := ⟨31, 16⟩
abbrev SUMP_RES_INC : Fld := ⟨15, 8⟩
abbrev SUMP_RES_DEC : Fld := ⟨7, 0⟩
/-- SUMP_RES (10_protection_and_sump.md, line 349). -/
def SUMP_RES : RegFam :=
  { name := "SUMP_RES", base := 0x2206000C, dims := [(4, 0x4000000)], reset := fun _ => 0x00000101,
    flds := [(SUMP_RES_EMAX, .rw), (SUMP_RES_INC, .rw), (SUMP_RES_DEC, .rw)] }

abbrev SUMP_DIS_DTIME : Fld := ⟨31, 16⟩
abbrev SUMP_DIS_DON : Fld := ⟨15, 8⟩
abbrev SUMP_DIS_DOFF : Fld := ⟨7, 0⟩
/-- SUMP_DIS (10_protection_and_sump.md, line 357). -/
def SUMP_DIS : RegFam :=
  { name := "SUMP_DIS", base := 0x22060010, dims := [(4, 0x4000000)], reset := fun _ => 0x07D00000,
    flds := [(SUMP_DIS_DTIME, .rw), (SUMP_DIS_DON, .rw), (SUMP_DIS_DOFF, .rw)] }

abbrev SUMP_CTRL_DSTOP : Fld := ⟨1, 1⟩
abbrev SUMP_CTRL_DISCH : Fld := ⟨0, 0⟩
/-- SUMP_CTRL (10_protection_and_sump.md, line 365). -/
def SUMP_CTRL : RegFam :=
  { name := "SUMP_CTRL", base := 0x22060014, dims := [(4, 0x4000000)], reset := fun _ => 0x00000000,
    flds := [(SUMP_CTRL_DSTOP, .wo), (SUMP_CTRL_DISCH, .wo)] }

abbrev SUMP_STAT_DSTATE : Fld := ⟨31, 30⟩
abbrev SUMP_STAT_DREQ : Fld := ⟨29, 28⟩
abbrev SUMP_STAT_DAVAIL : Fld := ⟨27, 27⟩
abbrev SUMP_STAT_CHOP : Fld := ⟨26, 26⟩
abbrev SUMP_STAT_DIS : Fld := ⟨25, 25⟩
abbrev SUMP_STAT_EPIS : Fld := ⟨24, 24⟩
abbrev SUMP_STAT_OV1 : Fld := ⟨23, 23⟩
abbrev SUMP_STAT_OV2 : Fld := ⟨22, 22⟩
abbrev SUMP_STAT_UV : Fld := ⟨21, 21⟩
abbrev SUMP_STAT_RAMPTO : Fld := ⟨20, 20⟩
abbrev SUMP_STAT_RESHOT : Fld := ⟨19, 19⟩
abbrev SUMP_STAT_DTO : Fld := ⟨18, 18⟩
abbrev SUMP_STAT_REQREF : Fld := ⟨17, 17⟩
abbrev SUMP_STAT_EVLOST : Fld := ⟨16, 16⟩
abbrev SUMP_STAT_DMS : Fld := ⟨15, 0⟩
/-- SUMP_STAT (10_protection_and_sump.md, line 373). -/
def SUMP_STAT : RegFam :=
  { name := "SUMP_STAT", base := 0x22060018, dims := [(4, 0x4000000)], reset := fun _ => 0x00000000,
    flds := [(SUMP_STAT_DSTATE, .ro), (SUMP_STAT_DREQ, .ro), (SUMP_STAT_DAVAIL, .ro), (SUMP_STAT_CHOP, .ro),
      (SUMP_STAT_DIS, .ro), (SUMP_STAT_EPIS, .ro), (SUMP_STAT_OV1, .w1c), (SUMP_STAT_OV2, .w1c),
      (SUMP_STAT_UV, .w1c), (SUMP_STAT_RAMPTO, .w1c), (SUMP_STAT_RESHOT, .ro), (SUMP_STAT_DTO, .w1c),
      (SUMP_STAT_REQREF, .w1c), (SUMP_STAT_EVLOST, .w1c), (SUMP_STAT_DMS, .ro)] }

abbrev SUMP_E_E : Fld := ⟨31, 0⟩
/-- SUMP_E (10_protection_and_sump.md, line 393). -/
def SUMP_E : RegFam :=
  { name := "SUMP_E", base := 0x2206001C, dims := [(4, 0x4000000)], reset := fun _ => 0x00000000,
    flds := [(SUMP_E_E, .ro)] }

abbrev POS_CFG_EN : Fld := ⟨31, 31⟩
abbrev POS_CFG_MODE : Fld := ⟨30, 28⟩
abbrev POS_CFG_EXTRAP : Fld := ⟨27, 27⟩
abbrev POS_CFG_DIRINV : Fld := ⟨26, 26⟩
abbrev POS_CFG_ZEN : Fld := ⟨25, 25⟩
abbrev POS_CFG_ZQUAL : Fld := ⟨24, 23⟩
abbrev POS_CFG_HOFS : Fld := ⟨22, 20⟩
abbrev POS_CFG_FILT : Fld := ⟨19, 14⟩
abbrev POS_CFG_LOSN : Fld := ⟨13, 10⟩
abbrev POS_CFG_IE : Fld := ⟨9, 9⟩
/-- POS_CFG (11_position_feedback.md, line 262). -/
def POS_CFG : RegFam :=
  { name := "POS_CFG", base := 0x22030000, dims := [(4, 0x4000000), (4, 0x800)], reset := fun _ => 0x09810C00,
    flds := [(POS_CFG_EN, .rw), (POS_CFG_MODE, .rw), (POS_CFG_EXTRAP, .rw), (POS_CFG_DIRINV, .rw),
      (POS_CFG_ZEN, .rw), (POS_CFG_ZQUAL, .rw), (POS_CFG_HOFS, .rw), (POS_CFG_FILT, .rw),
      (POS_CFG_LOSN, .rw), (POS_CFG_IE, .rw)] }

abbrev POS_SPT_VALUE : Fld := ⟨31, 0⟩
/-- POS_SPT (11_position_feedback.md, line 278). -/
def POS_SPT : RegFam :=
  { name := "POS_SPT", base := 0x22030004, dims := [(4, 0x4000000), (4, 0x800)], reset := fun _ => 0x00001000,
    flds := [(POS_SPT_VALUE, .rw)] }

abbrev POS_ZREF_VALUE : Fld := ⟨31, 0⟩
/-- POS_ZREF (11_position_feedback.md, line 278). -/
def POS_ZREF : RegFam :=
  { name := "POS_ZREF", base := 0x22030008, dims := [(4, 0x4000000), (4, 0x800)], reset := fun _ => 0x00000000,
    flds := [(POS_ZREF_VALUE, .rw)] }

abbrev POS_SETV_VALUE : Fld := ⟨31, 0⟩
/-- POS_SETV (11_position_feedback.md, line 278). -/
def POS_SETV : RegFam :=
  { name := "POS_SETV", base := 0x22030038, dims := [(4, 0x4000000), (4, 0x800)], reset := fun _ => 0x00000000,
    flds := [(POS_SETV_VALUE, .rw)] }

abbrev POS_ZTOL_ZTOL : Fld := ⟨15, 0⟩
/-- POS_ZTOL (11_position_feedback.md, line 284). -/
def POS_ZTOL : RegFam :=
  { name := "POS_ZTOL", base := 0x2203000C, dims := [(4, 0x4000000), (4, 0x800)], reset := fun _ => 0x00000004,
    flds := [(POS_ZTOL_ZTOL, .rw)] }

abbrev POS_AMP_AMAX : Fld := ⟨31, 16⟩
abbrev POS_AMP_AMIN : Fld := ⟨15, 0⟩
/-- POS_AMP (11_position_feedback.md, line 291). -/
def POS_AMP : RegFam :=
  { name := "POS_AMP", base := 0x22030010, dims := [(4, 0x4000000), (4, 0x800)], reset := fun _ => 0x0B000200,
    flds := [(POS_AMP_AMAX, .rw), (POS_AMP_AMIN, .rw)] }

abbrev POS_TRIM_SOFS : Fld := ⟨31, 24⟩
abbrev POS_TRIM_COFS : Fld := ⟨23, 16⟩
abbrev POS_TRIM_CGAIN : Fld := ⟨15, 0⟩
/-- POS_TRIM (11_position_feedback.md, line 298). -/
def POS_TRIM : RegFam :=
  { name := "POS_TRIM", base := 0x22030014, dims := [(4, 0x4000000), (4, 0x800)], reset := fun _ => 0x00004000,
    flds := [(POS_TRIM_SOFS, .rw), (POS_TRIM_COFS, .rw), (POS_TRIM_CGAIN, .rw)] }

abbrev POS_EXC_EXEN : Fld := ⟨31, 31⟩
abbrev POS_EXC_AMP : Fld := ⟨30, 24⟩
abbrev POS_EXC_PERIOD : Fld := ⟨18, 0⟩
/-- POS_EXC (11_position_feedback.md, line 306). -/
def POS_EXC : RegFam :=
  { name := "POS_EXC", base := 0x22030018, dims := [(4, 0x4000000), (4, 0x800)], reset := fun _ => 0x4000FA00,
    flds := [(POS_EXC_EXEN, .rw), (POS_EXC_AMP, .rw), (POS_EXC_PERIOD, .rw)] }

abbrev POS_EXCPH_PHS : Fld := ⟨31, 0⟩
/-- POS_EXCPH (11_position_feedback.md, line 315). -/
def POS_EXCPH : RegFam :=
  { name := "POS_EXCPH", base := 0x2203001C, dims := [(4, 0x4000000), (4, 0x800)], reset := fun _ => 0x00000000,
    flds := [(POS_EXCPH_PHS, .rw)] }

abbrev POS_SSI_CDIV : Fld := ⟨31, 20⟩
abbrev POS_SSI_NB : Fld := ⟨19, 14⟩
abbrev POS_SSI_STB : Fld := ⟨13, 8⟩
abbrev POS_SSI_GRAY : Fld := ⟨7, 7⟩
abbrev POS_SSI_RPT : Fld := ⟨6, 6⟩
/-- POS_SSI (11_position_feedback.md, line 321). -/
def POS_SSI : RegFam :=
  { name := "POS_SSI", base := 0x22030020, dims := [(4, 0x4000000), (4, 0x800)], reset := fun _ => 0x04064D00,
    flds := [(POS_SSI_CDIV, .rw), (POS_SSI_NB, .rw), (POS_SSI_STB, .rw), (POS_SSI_GRAY, .rw),
      (POS_SSI_RPT, .rw)] }

abbrev POS_SSIT_SSIPER : Fld := ⟨31, 16⟩
abbrev POS_SSIT_TM : Fld := ⟨15, 8⟩
abbrev POS_SSIT_CDLY : Fld := ⟨7, 0⟩
/-- POS_SSIT (11_position_feedback.md, line 332). -/
def POS_SSIT : RegFam :=
  { name := "POS_SSIT", base := 0x22030024, dims := [(4, 0x4000000), (4, 0x800)], reset := fun _ => 0x00201400,
    flds := [(POS_SSIT_SSIPER, .rw), (POS_SSIT_TM, .rw), (POS_SSIT_CDLY, .rw)] }

abbrev POS_XMAX_XMAX : Fld := ⟨15, 0⟩
/-- POS_XMAX (11_position_feedback.md, line 340). -/
def POS_XMAX : RegFam :=
  { name := "POS_XMAX", base := 0x22030028, dims := [(4, 0x4000000), (4, 0x800)], reset := fun _ => 0x000003E8,
    flds := [(POS_XMAX_XMAX, .rw)] }

abbrev POS_CNT_VALUE : Fld := ⟨31, 0⟩
/-- POS_CNT (11_position_feedback.md, line 347). -/
def POS_CNT : RegFam :=
  { name := "POS_CNT", base := 0x2203002C, dims := [(4, 0x4000000), (4, 0x800)], reset := fun _ => 0x00000000,
    flds := [(POS_CNT_VALUE, .ro)] }

abbrev POS_PHI_VALUE : Fld := ⟨31, 0⟩
/-- POS_PHI (11_position_feedback.md, line 347). -/
def POS_PHI : RegFam :=
  { name := "POS_PHI", base := 0x22030030, dims := [(4, 0x4000000), (4, 0x800)], reset := fun _ => 0x00000000,
    flds := [(POS_PHI_VALUE, .ro)] }

abbrev POS_MEAS_VALUE : Fld := ⟨31, 0⟩
/-- POS_MEAS (11_position_feedback.md, line 347). -/
def POS_MEAS : RegFam :=
  { name := "POS_MEAS", base := 0x22030034, dims := [(4, 0x4000000), (4, 0x800)], reset := fun _ => 0x00000000,
    flds := [(POS_MEAS_VALUE, .ro)] }

abbrev POS_CMD_ARM : Fld := ⟨2, 2⟩
abbrev POS_CMD_ZARM : Fld := ⟨1, 1⟩
abbrev POS_CMD_SET : Fld := ⟨0, 0⟩
/-- POS_CMD (11_position_feedback.md, line 353). -/
def POS_CMD : RegFam :=
  { name := "POS_CMD", base := 0x2203003C, dims := [(4, 0x4000000), (4, 0x800)], reset := fun _ => 0x00000000,
    flds := [(POS_CMD_ARM, .wo), (POS_CMD_ZARM, .wo), (POS_CMD_SET, .wo)] }

abbrev POS_STAT_HEALTHY : Fld := ⟨31, 31⟩
abbrev POS_STAT_LOSS : Fld := ⟨30, 30⟩
abbrev POS_STAT_PLAUS : Fld := ⟨29, 29⟩
abbrev POS_STAT_CAUSE : Fld := ⟨28, 25⟩
abbrev POS_STAT_ZREFD : Fld := ⟨24, 24⟩
abbrev POS_STAT_RESUMED : Fld := ⟨23, 23⟩
abbrev POS_STAT_HCODE : Fld := ⟨22, 20⟩
abbrev POS_STAT_AMP : Fld := ⟨15, 0⟩
/-- POS_STAT (11_position_feedback.md, line 362). -/
def POS_STAT : RegFam :=
  { name := "POS_STAT", base := 0x22030040, dims := [(4, 0x4000000), (4, 0x800)], reset := fun _ => 0x00000000,
    flds := [(POS_STAT_HEALTHY, .ro), (POS_STAT_LOSS, .w1c), (POS_STAT_PLAUS, .w1c), (POS_STAT_CAUSE, .ro),
      (POS_STAT_ZREFD, .ro), (POS_STAT_RESUMED, .w1c), (POS_STAT_HCODE, .ro), (POS_STAT_AMP, .ro)] }

abbrev POS_SSIRAW_VALUE : Fld := ⟨31, 0⟩
/-- POS_SSIRAW (11_position_feedback.md, line 376). -/
def POS_SSIRAW : RegFam :=
  { name := "POS_SSIRAW", base := 0x22030048, dims := [(4, 0x4000000), (4, 0x800)], reset := fun _ => 0x00000000,
    flds := [(POS_SSIRAW_VALUE, .ro)] }

abbrev POS_OUT0_SRC : Fld := ⟨31, 29⟩
abbrev POS_OUT0_PSEL : Fld := ⟨28, 27⟩
abbrev POS_OUT0_LEVEL : Fld := ⟨26, 26⟩
abbrev POS_OUT0_INV : Fld := ⟨25, 25⟩
abbrev POS_OUT0_PW : Fld := ⟨15, 0⟩
/-- POS_OUT0 (11_position_feedback.md, line 382). -/
def POS_OUT0 : RegFam :=
  { name := "POS_OUT0", base := 0x22030050, dims := [(4, 0x4000000), (4, 0x800)], reset := fun _ => 0x00000040,
    flds := [(POS_OUT0_SRC, .rw), (POS_OUT0_PSEL, .rw), (POS_OUT0_LEVEL, .rw), (POS_OUT0_INV, .rw),
      (POS_OUT0_PW, .rw)] }

abbrev POS_OUT1_SRC : Fld := ⟨31, 29⟩
abbrev POS_OUT1_PSEL : Fld := ⟨28, 27⟩
abbrev POS_OUT1_LEVEL : Fld := ⟨26, 26⟩
abbrev POS_OUT1_INV : Fld := ⟨25, 25⟩
abbrev POS_OUT1_PW : Fld := ⟨15, 0⟩
/-- POS_OUT1 (11_position_feedback.md, line 382). -/
def POS_OUT1 : RegFam :=
  { name := "POS_OUT1", base := 0x22030054, dims := [(4, 0x4000000), (4, 0x800)], reset := fun _ => 0x00000040,
    flds := [(POS_OUT1_SRC, .rw), (POS_OUT1_PSEL, .rw), (POS_OUT1_LEVEL, .rw), (POS_OUT1_INV, .rw),
      (POS_OUT1_PW, .rw)] }

abbrev POS_DIV_N : Fld := ⟨31, 16⟩
abbrev POS_DIV_M : Fld := ⟨15, 0⟩
/-- POS_DIV (11_position_feedback.md, line 393). -/
def POS_DIV : RegFam :=
  { name := "POS_DIV", base := 0x22030058, dims := [(4, 0x4000000), (4, 0x800)], reset := fun _ => 0x00010001,
    flds := [(POS_DIV_N, .rw), (POS_DIV_M, .rw)] }

abbrev POS_DIVCFG_DMODE : Fld := ⟨31, 31⟩
abbrev POS_DIVCFG_DIVOVF : Fld := ⟨30, 30⟩
abbrev POS_DIVCFG_OSEP : Fld := ⟨23, 16⟩
abbrev POS_DIVCFG_BACKLOG : Fld := ⟨15, 0⟩
/-- POS_DIVCFG (11_position_feedback.md, line 400). -/
def POS_DIVCFG : RegFam :=
  { name := "POS_DIVCFG", base := 0x2203005C, dims := [(4, 0x4000000), (4, 0x800)], reset := fun _ => 0x00080000,
    flds := [(POS_DIVCFG_DMODE, .rw), (POS_DIVCFG_DIVOVF, .w1c), (POS_DIVCFG_OSEP, .rw), (POS_DIVCFG_BACKLOG, .ro)] }

abbrev POS_CMPCTL_EN : Fld := ⟨31, 31⟩
abbrev POS_CMPCTL_DIR : Fld := ⟨30, 30⟩
abbrev POS_CMPCTL_EV : Fld := ⟨29, 29⟩
abbrev POS_CMPCTL_CELL : Fld := ⟨28, 24⟩
abbrev POS_CMPCTL_VEC : Fld := ⟨23, 20⟩
abbrev POS_CMPCTL_NENT : Fld := ⟨8, 0⟩
/-- POS_CMPCTL (11_position_feedback.md, line 410). -/
def POS_CMPCTL : RegFam :=
  { name := "POS_CMPCTL", base := 0x22030060, dims := [(4, 0x4000000), (4, 0x800)], reset := fun _ => 0x00000001,
    flds := [(POS_CMPCTL_EN, .rw), (POS_CMPCTL_DIR, .rw), (POS_CMPCTL_EV, .rw), (POS_CMPCTL_CELL, .rw),
      (POS_CMPCTL_VEC, .rw), (POS_CMPCTL_NENT, .rw)] }

abbrev POS_CMPBASE_VALUE : Fld := ⟨31, 0⟩
/-- POS_CMPBASE (11_position_feedback.md, line 422). -/
def POS_CMPBASE : RegFam :=
  { name := "POS_CMPBASE", base := 0x22030064, dims := [(4, 0x4000000), (4, 0x800)], reset := fun _ => 0x00000000,
    flds := [(POS_CMPBASE_VALUE, .rw)] }

abbrev POS_CMPPER_VALUE : Fld := ⟨31, 0⟩
/-- POS_CMPPER (11_position_feedback.md, line 422). -/
def POS_CMPPER : RegFam :=
  { name := "POS_CMPPER", base := 0x22030068, dims := [(4, 0x4000000), (4, 0x800)], reset := fun _ => 0x00000000,
    flds := [(POS_CMPPER_VALUE, .rw)] }

abbrev POS_CMPSTAT_DONE : Fld := ⟨31, 31⟩
abbrev POS_CMPSTAT_PAST : Fld := ⟨30, 30⟩
abbrev POS_CMPSTAT_MERGE : Fld := ⟨29, 29⟩
abbrev POS_CMPSTAT_EVLOST : Fld := ⟨28, 28⟩
abbrev POS_CMPSTAT_IDX : Fld := ⟨24, 16⟩
abbrev POS_CMPSTAT_LAP : Fld := ⟨15, 0⟩
/-- POS_CMPSTAT (11_position_feedback.md, line 428). -/
def POS_CMPSTAT : RegFam :=
  { name := "POS_CMPSTAT", base := 0x2203006C, dims := [(4, 0x4000000), (4, 0x800)], reset := fun _ => 0x00000000,
    flds := [(POS_CMPSTAT_DONE, .ro), (POS_CMPSTAT_PAST, .w1c), (POS_CMPSTAT_MERGE, .w1c), (POS_CMPSTAT_EVLOST, .w1c),
      (POS_CMPSTAT_IDX, .ro), (POS_CMPSTAT_LAP, .ro)] }

abbrev POS_CMP_OUT1 : Fld := ⟨31, 31⟩
abbrev POS_CMP_OUT0 : Fld := ⟨30, 30⟩
abbrev POS_CMP_TOG : Fld := ⟨29, 29⟩
abbrev POS_CMP_EV : Fld := ⟨28, 28⟩
abbrev POS_CMP_OFS : Fld := ⟨23, 0⟩
/-- POS_CMP (11_position_feedback.md, line 440). -/
def POS_CMP : RegFam :=
  { name := "POS_CMP", base := 0x22030400, dims := [(4, 0x4000000), (4, 0x800), (256, 0x4)], reset := fun _ => 0x00000000,
    flds := [(POS_CMP_OUT1, .rw), (POS_CMP_OUT0, .rw), (POS_CMP_TOG, .rw), (POS_CMP_EV, .rw),
      (POS_CMP_OFS, .rw)] }

abbrev SYSCTL_LSSTAT_HALT : Fld := ⟨31, 31⟩
abbrev SYSCTL_LSSTAT_CAUSE : Fld := ⟨30, 28⟩
abbrev SYSCTL_LSSTAT_UNCONF : Fld := ⟨16, 16⟩
abbrev SYSCTL_LSSTAT_INJ : Fld := ⟨15, 8⟩
abbrev SYSCTL_LSSTAT_SUPP : Fld := ⟨7, 0⟩
/-- SYSCTL_LSSTAT (12_safety_architecture.md, line 348). -/
def SYSCTL_LSSTAT : RegFam :=
  { name := "SYSCTL_LSSTAT", base := 0x40000100, dims := [(5, 0x4)], reset := fun _ => 0x00000000,
    flds := [(SYSCTL_LSSTAT_HALT, .ro), (SYSCTL_LSSTAT_CAUSE, .ro), (SYSCTL_LSSTAT_UNCONF, .w1c), (SYSCTL_LSSTAT_INJ, .ro),
      (SYSCTL_LSSTAT_SUPP, .rc)] }

abbrev GRT_STAT_GSTATE : Fld := ⟨31, 29⟩
abbrev GRT_STAT_CCVOK : Fld := ⟨28, 28⟩
abbrev GRT_STAT_XLUP : Fld := ⟨27, 24⟩
abbrev GRT_STAT_FLTIDX : Fld := ⟨7, 0⟩
/-- GRT_STAT (12_safety_architecture.md, line 412). -/
def GRT_STAT : RegFam :=
  { name := "GRT_STAT", base := 0x18001000, dims := [], reset := fun _ => 0x00000000,
    flds := [(GRT_STAT_GSTATE, .ro), (GRT_STAT_CCVOK, .ro), (GRT_STAT_XLUP, .ro), (GRT_STAT_FLTIDX, .ro)] }

abbrev GRT_AXSTAT_OUT : Fld := ⟨31, 30⟩
abbrev GRT_AXSTAT_TMVALID : Fld := ⟨29, 29⟩
abbrev GRT_AXSTAT_ENVSTALE : Fld := ⟨28, 28⟩
abbrev GRT_AXSTAT_MAGMODE : Fld := ⟨27, 27⟩
abbrev GRT_AXSTAT_CAUSE : Fld := ⟨26, 22⟩
abbrev GRT_AXSTAT_SPEED : Fld := ⟨15, 0⟩
/-- GRT_AXSTAT (12_safety_architecture.md, line 422). -/
def GRT_AXSTAT : RegFam :=
  { name := "GRT_AXSTAT", base := 0x18001040, dims := [(8, 0x4)], reset := fun _ => 0x48000000,
    flds := [(GRT_AXSTAT_OUT, .ro), (GRT_AXSTAT_TMVALID, .ro), (GRT_AXSTAT_ENVSTALE, .ro), (GRT_AXSTAT_MAGMODE, .ro),
      (GRT_AXSTAT_CAUSE, .ro), (GRT_AXSTAT_SPEED, .ro)] }

abbrev GRT_TMON_VDC : Fld := ⟨31, 16⟩
abbrev GRT_TMON_TG : Fld := ⟨15, 0⟩
/-- GRT_TMON (12_safety_architecture.md, line 434). -/
def GRT_TMON : RegFam :=
  { name := "GRT_TMON", base := 0x18001080, dims := [(8, 0x8)], reset := fun _ => 0x00000000,
    flds := [(GRT_TMON_VDC, .ro), (GRT_TMON_TG, .ro)] }

abbrev GRT_TENV_THI : Fld := ⟨31, 16⟩
abbrev GRT_TENV_TLO : Fld := ⟨15, 0⟩
/-- GRT_TENV (12_safety_architecture.md, line 441). -/
def GRT_TENV : RegFam :=
  { name := "GRT_TENV", base := 0x18001084, dims := [(8, 0x8)], reset := fun _ => 0x00000000,
    flds := [(GRT_TENV_THI, .ro), (GRT_TENV_TLO, .ro)] }

abbrev GRT_FLT_ENTRY : Fld := ⟨31, 27⟩
abbrev GRT_FLT_ACTION : Fld := ⟨26, 24⟩
abbrev GRT_FLT_UNIT : Fld := ⟨23, 16⟩
abbrev GRT_FLT_DETAIL : Fld := ⟨15, 0⟩
/-- GRT_FLT (12_safety_architecture.md, line 448). -/
def GRT_FLT : RegFam :=
  { name := "GRT_FLT", base := 0x18001400, dims := [(256, 0x8)], reset := fun _ => 0x00000000,
    flds := [(GRT_FLT_ENTRY, .ro), (GRT_FLT_ACTION, .ro), (GRT_FLT_UNIT, .ro), (GRT_FLT_DETAIL, .ro)] }

abbrev GRT_FLTTIME_US : Fld := ⟨31, 0⟩
/-- GRT_FLTTIME (12_safety_architecture.md, line 457). -/
def GRT_FLTTIME : RegFam :=
  { name := "GRT_FLTTIME", base := 0x18001404, dims := [(256, 0x8)], reset := fun _ => 0x00000000,
    flds := [(GRT_FLTTIME_US, .ro)] }

abbrev GRT_FUNC_SS1 : Fld := ⟨31, 31⟩
abbrev GRT_FUNC_SLS : Fld := ⟨30, 30⟩
abbrev GRT_FUNC_SLSN : Fld := ⟨29, 28⟩
abbrev GRT_FUNC_SDI : Fld := ⟨27, 27⟩
abbrev GRT_FUNC_SDIDIR : Fld := ⟨26, 26⟩
abbrev GRT_FUNC_SLP : Fld := ⟨25, 25⟩
abbrev GRT_FUNC_SRC : Fld := ⟨23, 18⟩
abbrev GRT_FUNC_SS1MS : Fld := ⟨15, 0⟩
/-- GRT_FUNC (13_safety_functions.md, line 399). -/
def GRT_FUNC : RegFam :=
  { name := "GRT_FUNC", base := 0x18001100, dims := [(8, 0x4)], reset := fun _ => 0x00000000,
    flds := [(GRT_FUNC_SS1, .ro), (GRT_FUNC_SLS, .ro), (GRT_FUNC_SLSN, .ro), (GRT_FUNC_SDI, .ro),
      (GRT_FUNC_SDIDIR, .ro), (GRT_FUNC_SLP, .ro), (GRT_FUNC_SRC, .ro), (GRT_FUNC_SS1MS, .ro)] }

/-- GRT_SIP (13_safety_functions.md, line 414). -/
def GRT_SIP : RegFam :=
  { name := "GRT_SIP", base := 0x18001120, dims := [], reset := fun _ => 0xFFFFFFFF,
    flds := [(⟨1, 0⟩, .ro), (⟨3, 2⟩, .ro), (⟨5, 4⟩, .ro), (⟨7, 6⟩, .ro),
      (⟨9, 8⟩, .ro), (⟨11, 10⟩, .ro), (⟨13, 12⟩, .ro), (⟨15, 14⟩, .ro),
      (⟨17, 16⟩, .ro), (⟨19, 18⟩, .ro), (⟨21, 20⟩, .ro), (⟨23, 22⟩, .ro),
      (⟨25, 24⟩, .ro), (⟨27, 26⟩, .ro), (⟨29, 28⟩, .ro), (⟨31, 30⟩, .ro)] }

abbrev GRT_XLSTAT_UP : Fld := ⟨31, 31⟩
abbrev GRT_XLSTAT_DISC : Fld := ⟨23, 16⟩
abbrev GRT_XLSTAT_SEQ : Fld := ⟨15, 0⟩
/-- GRT_XLSTAT (13_safety_functions.md, line 420). -/
def GRT_XLSTAT : RegFam :=
  { name := "GRT_XLSTAT", base := 0x18001130, dims := [(4, 0x4)], reset := fun _ => 0x00000000,
    flds := [(GRT_XLSTAT_UP, .ro), (GRT_XLSTAT_DISC, .ro), (GRT_XLSTAT_SEQ, .ro)] }

abbrev GRT_PSTAT_LOCK : Fld := ⟨31, 30⟩
abbrev GRT_PSTAT_CHKOK : Fld := ⟨29, 29⟩
abbrev GRT_PSTAT_RECOK : Fld := ⟨28, 28⟩
/-- GRT_PSTAT (13_safety_functions.md, line 429). -/
def GRT_PSTAT : RegFam :=
  { name := "GRT_PSTAT", base := 0x18001140, dims := [], reset := fun _ => 0x00000000,
    flds := [(GRT_PSTAT_LOCK, .ro), (GRT_PSTAT_CHKOK, .ro), (GRT_PSTAT_RECOK, .ro)] }

abbrev GRT_CCV_CCV : Fld := ⟨31, 0⟩
/-- GRT_CCV (13_safety_functions.md, line 438). -/
def GRT_CCV : RegFam :=
  { name := "GRT_CCV", base := 0x18001144, dims := [], reset := fun _ => 0x00000000,
    flds := [(GRT_CCV_CCV, .ro)] }

abbrev GRT_CCVCONF_CCV : Fld := ⟨31, 0⟩
/-- GRT_CCVCONF (13_safety_functions.md, line 438). -/
def GRT_CCVCONF : RegFam :=
  { name := "GRT_CCVCONF", base := 0x18001148, dims := [], reset := fun _ => 0x00000000,
    flds := [(GRT_CCVCONF_CCV, .ro)] }

abbrev FAB_ABORT_KIND : Fld := ⟨31, 29⟩
abbrev FAB_ABORT_TARGET : Fld := ⟨15, 0⟩
/-- FAB_ABORT (14_columns_and_chambers.md, line 341). -/
def FAB_ABORT : RegFam :=
  { name := "FAB_ABORT", base := 0x40050100, dims := [], reset := fun _ => 0x00000000,
    flds := [(FAB_ABORT_KIND, .wo), (FAB_ABORT_TARGET, .wo)] }

abbrev FAB_ABORT_RES_BUSY : Fld := ⟨31, 31⟩
abbrev FAB_ABORT_RES_STATUS : Fld := ⟨23, 16⟩
abbrev FAB_ABORT_RES_MASK : Fld := ⟨7, 0⟩
/-- FAB_ABORT_RES (14_columns_and_chambers.md, line 349). -/
def FAB_ABORT_RES : RegFam :=
  { name := "FAB_ABORT_RES", base := 0x40050104, dims := [], reset := fun _ => 0x00000000,
    flds := [(FAB_ABORT_RES_BUSY, .ro), (FAB_ABORT_RES_STATUS, .ro), (FAB_ABORT_RES_MASK, .ro)] }

abbrev FAB_ABORT_TIME_CYCLES : Fld := ⟨31, 0⟩
/-- FAB_ABORT_TIME (14_columns_and_chambers.md, line 359). -/
def FAB_ABORT_TIME : RegFam :=
  { name := "FAB_ABORT_TIME", base := 0x40050108, dims := [], reset := fun _ => 0x00000000,
    flds := [(FAB_ABORT_TIME_CYCLES, .ro)] }

abbrev FAB_ASN_RANGE_COUNT : Fld := ⟨31, 16⟩
abbrev FAB_ASN_RANGE_FIRST : Fld := ⟨15, 0⟩
/-- FAB_ASN_RANGE (14_columns_and_chambers.md, line 365). -/
def FAB_ASN_RANGE : RegFam :=
  { name := "FAB_ASN_RANGE", base := 0x40050180, dims := [], reset := fun _ => 0x00010000,
    flds := [(FAB_ASN_RANGE_COUNT, .rw), (FAB_ASN_RANGE_FIRST, .rw)] }

abbrev FAB_ASN_CMD_KIND : Fld := ⟨31, 27⟩
abbrev FAB_ASN_CMD_FREE : Fld := ⟨26, 26⟩
abbrev FAB_ASN_CMD_CHAMBER : Fld := ⟨3, 0⟩
/-- FAB_ASN_CMD (14_columns_and_chambers.md, line 372). -/
def FAB_ASN_CMD : RegFam :=
  { name := "FAB_ASN_CMD", base := 0x40050184, dims := [], reset := fun _ => 0x00000000,
    flds := [(FAB_ASN_CMD_KIND, .wo), (FAB_ASN_CMD_FREE, .wo), (FAB_ASN_CMD_CHAMBER, .wo)] }

abbrev FAB_ASN_RES_STATUS : Fld := ⟨31, 24⟩
abbrev FAB_ASN_RES_BADIDX : Fld := ⟨15, 0⟩
/-- FAB_ASN_RES (14_columns_and_chambers.md, line 381). -/
def FAB_ASN_RES : RegFam :=
  { name := "FAB_ASN_RES", base := 0x40050188, dims := [], reset := fun _ => 0x00000000,
    flds := [(FAB_ASN_RES_STATUS, .ro), (FAB_ASN_RES_BADIDX, .ro)] }

abbrev FAB_QUERY_KIND : Fld := ⟨31, 27⟩
abbrev FAB_QUERY_INDEX : Fld := ⟨15, 0⟩
/-- FAB_QUERY (14_columns_and_chambers.md, line 389). -/
def FAB_QUERY : RegFam :=
  { name := "FAB_QUERY", base := 0x40050190, dims := [], reset := fun _ => 0x00000000,
    flds := [(FAB_QUERY_KIND, .wo), (FAB_QUERY_INDEX, .wo)], perAgent := true }

abbrev FAB_QUERY_RES_OWNED : Fld := ⟨31, 31⟩
abbrev FAB_QUERY_RES_OWNER : Fld := ⟨3, 0⟩
/-- FAB_QUERY_RES (14_columns_and_chambers.md, line 397). -/
def FAB_QUERY_RES : RegFam :=
  { name := "FAB_QUERY_RES", base := 0x40050194, dims := [], reset := fun _ => 0x00000000,
    flds := [(FAB_QUERY_RES_OWNED, .ro), (FAB_QUERY_RES_OWNER, .ro)], perAgent := true }

/-- FAB_MESHW (14_columns_and_chambers.md, line 410). -/
def FAB_MESHW : RegFam :=
  { name := "FAB_MESHW", base := 0x40050200, dims := [(4, 0x4)], reset := fun i => if i = 0 then 0x40 else 0,
    flds := [(⟨6, 0⟩, .rw), (⟨14, 8⟩, .rw), (⟨22, 16⟩, .rw), (⟨30, 24⟩, .rw)] }

abbrev FAB_CH_CFG_ACTIVE : Fld := ⟨31, 31⟩
abbrev FAB_CH_CFG_PERF_USER : Fld := ⟨30, 30⟩
abbrev FAB_CH_CFG_COLMASK : Fld := ⟨4, 0⟩
/-- FAB_CH_CFG (14_columns_and_chambers.md, line 417). -/
def FAB_CH_CFG : RegFam :=
  { name := "FAB_CH_CFG", base := 0x40050300, dims := [(16, 0x4)], reset := fun i => if i = 0 then 0x8000001F else 0,
    flds := [(FAB_CH_CFG_ACTIVE, .rw), (FAB_CH_CFG_PERF_USER, .rw), (FAB_CH_CFG_COLMASK, .rw)] }

abbrev SYSCTL_COLCTL_RST : Fld := ⟨31, 31⟩
abbrev SYSCTL_COLCTL_HALTED : Fld := ⟨30, 30⟩
abbrev SYSCTL_COLCTL_STOPPED : Fld := ⟨29, 29⟩
abbrev SYSCTL_COLCTL_WDTEXP : Fld := ⟨28, 28⟩
abbrev SYSCTL_COLCTL_REDIR : Fld := ⟨27, 27⟩
abbrev SYSCTL_COLCTL_WDT : Fld := ⟨15, 0⟩
/-- SYSCTL_COLCTL (14_columns_and_chambers.md, line 426). -/
def SYSCTL_COLCTL : RegFam :=
  { name := "SYSCTL_COLCTL", base := 0x40000140, dims := [(5, 0x4)], reset := fun _ => 0x00000000,
    flds := [(SYSCTL_COLCTL_RST, .wo), (SYSCTL_COLCTL_HALTED, .ro), (SYSCTL_COLCTL_STOPPED, .ro), (SYSCTL_COLCTL_WDTEXP, .w1c),
      (SYSCTL_COLCTL_REDIR, .ro), (SYSCTL_COLCTL_WDT, .rw)] }

abbrev SYSCTL_COLKICK_KICK : Fld := ⟨0, 0⟩
/-- SYSCTL_COLKICK (14_columns_and_chambers.md, line 438). -/
def SYSCTL_COLKICK : RegFam :=
  { name := "SYSCTL_COLKICK", base := 0x40000160, dims := [(5, 0x4)], reset := fun _ => 0x00000000,
    flds := [(SYSCTL_COLKICK_KICK, .wo)] }

abbrev SYSCTL_COLBOOT_ADDR : Fld := ⟨31, 2⟩
/-- SYSCTL_COLBOOT (14_columns_and_chambers.md, line 445). -/
def SYSCTL_COLBOOT : RegFam :=
  { name := "SYSCTL_COLBOOT", base := 0x40000180, dims := [(5, 0x4)], reset := fun _ => 0x80000000,
    flds := [(SYSCTL_COLBOOT_ADDR, .rw)] }

end Sys2Proof.Machine
end

