-- ==== Sys2Proof/Machine/RegMap.lean ====
section
/-! DEFINITION. The whole register map: every register family of the chip memory map, and the family and instance at an
address. -/

namespace Sys2Proof.Machine

/-- The register families of chapter 00. -/
def regFams00 : List RegFam :=
  [SYSCTL_DEVID]

/-- The register families of chapter 01. -/
def regFams01 : List RegFam :=
  [FAB_ERR_STAT, FAB_ERR_INFO, FAB_ERR_ADDR, FAB_ERR_TIME, FAB_ERR_POP, FAB_ERR_DROP]

/-- The register families of chapter 02. -/
def regFams02 : List RegFam :=
  [TIME_NS_LO, TIME_NS_HI, TIME_FRAC, TIME_CTRL, TIME_STAT, TIME_INC_INT,
   TIME_INC_FRAC, TIME_STEP_LO, TIME_STEP_HI, TIME_SLEW, TIME_OFS_IN, TIME_SERVO,
   TIME_PPS, TIME_ERRB, TIME_HDRIFT, TIME_LASTOFS, ANG_CFG, ANG_SRC,
   ANG_GAIN, ANG_GAIN3, ANG_LIM, ANG_DLY, ANG_STAT, ANG_SET_FRAC,
   ANG_CMD, ANG_OBS, ANG_SEQ, ANG_FRAC, ANG_SPEED, ANG_ACCEL,
   ANG_REV, ANG_ELEC, ANG_TS_LO, ANG_TS_HI]

/-- The register families of chapter 03. -/
def regFams03 : List RegFam :=
  [GAL_CTRL, GAL_STAT, GAL_RPTDROP, GAL_SUB_W0, GAL_SUB_W1, GAL_SUB_W2,
   GAL_SUB_W3, GAL_SUB_GO, GAL_SUB_RES, GAL_CANCEL, GAL_CANCEL_RES, GAL_QUOTA,
   GAL_USE, GAL_SHARE_LO, GAL_SHARE_HI, GAL_ENG_LATECNT, GAL_ENG_CANCNT, GAL_ENG_TMOCNT,
   GAL_ENG_LMAX, GAL_AX_CFG, GAL_AX_STAT, GAL_RING_BASE, GAL_RING_IDX, GAL_RING_CFG,
   GAL_RING_TOL]

/-- The register families of chapter 06. -/
def regFams06 : List RegFam :=
  [BLK_CTRL, BLK_STAT, BLK_PSTATE, BLK_MAP, BLK_MPART, BLK_GSWR,
   BLK_MIGLOG, BLK_MIGTIME, BLK_MIGDUR, CELL_CTRL, CELL_STAT, CELL_CFG,
   CELL_PIMG, CELL_SIMG, CELL_WDT, CELL_BIND, CELL_GSCFG, CELL_GSX,
   CELL_GSY, CELL_GSX2, CELL_GSY2, CELL_GSMAP_LO, CELL_GSMAP_HI, CELL_CYCLE]

/-- The register families of chapter 07. -/
def regFams07 : List RegFam :=
  [AX_CFG, AX_TCMD, AX_TFF, AX_VDQ, AX_IREF, AX_FW,
   AX_LIM, AX_VNOM, AX_KV, AX_FF, AX_STAT, AX_TAB,
   SPF_CFG, SPF_IN, SPF_VMAX, SPF_AMAX, SPF_REF, SPF_VEL,
   SPF_ACC, SPF_GAIN, SPF_STAT, SH_CFG, SH_CMD, SH_W,
   SH_LIM01, SH_LIM23, SH_STAT, SH_SHORT, SH_CAUSE, SH_IREF,
   OPP_CFG, OPP_TAB, OPP_CTRL, OPP_STAT, OPP_BOFS, OPP_EDGES,
   OPP_REFST, SSX_CFG, SSX_ZC, SSX_LIM, SSX_START, SSX_RAMP,
   SSX_TEND, SSX_RETRY, SSX_CTRL, SSX_STAT, SSX_T60]

/-- The register families of chapter 08. -/
def regFams08 : List RegFam :=
  [PWM_LOADALL, PWM_LARES, PWM_GCTL, PWM_GPER, PWM_GSTART_LO, PWM_GSTART_HI,
   PWM_GSTAT, PWM_GPOS, PWM_GBND, PWM_BMODE, PWM_DUTY, PWM_BCFG,
   PWM_MINP, PWM_DT, PWM_MCTL, PWM_BSTAT, PWM_TAB, PWM_MASK,
   GDL_CFG, GDL_STAT, GDL_ERRCNT, GDL_CMD, GDL_CRES, GDL_FSTAT,
   GDL_POLL, GDL_TEL]

/-- The register families of chapter 09. -/
def regFams09 : List RegFam :=
  [ADC_CFG, ADC_DLY, ADC_PTRG, ADC_RES, ADC_STAT, ADC_TRGDROP,
   ADC_OFS, DSM_CFG, DSM_CTRL, DSM_RES, DSM_STAT, DSMCLK_CFG]

/-- The register families of chapter 10. -/
def regFams10 : List RegFam :=
  [CMP_CFG, CMP_THR, CMP_HYS, CMP_ROUTE, CMP_STAT, CMP_CAP,
   CMP_SUM, SUMP_CFG, SUMP_EVT, SUMP_CHOP, SUMP_RES, SUMP_DIS,
   SUMP_CTRL, SUMP_STAT, SUMP_E]

/-- The register families of chapter 11. -/
def regFams11 : List RegFam :=
  [POS_CFG, POS_SPT, POS_ZREF, POS_SETV, POS_ZTOL, POS_AMP,
   POS_TRIM, POS_EXC, POS_EXCPH, POS_SSI, POS_SSIT, POS_XMAX,
   POS_CNT, POS_PHI, POS_MEAS, POS_CMD, POS_STAT, POS_SSIRAW,
   POS_OUT0, POS_OUT1, POS_DIV, POS_DIVCFG, POS_CMPCTL, POS_CMPBASE,
   POS_CMPPER, POS_CMPSTAT, POS_CMP]

/-- The register families of chapter 12. -/
def regFams12 : List RegFam :=
  [SYSCTL_LSSTAT, GRT_STAT, GRT_AXSTAT, GRT_TMON, GRT_TENV, GRT_FLT,
   GRT_FLTTIME]

/-- The register families of chapter 13. -/
def regFams13 : List RegFam :=
  [GRT_FUNC, GRT_SIP, GRT_XLSTAT, GRT_PSTAT, GRT_CCV, GRT_CCVCONF]

/-- The register families of chapter 14. -/
def regFams14 : List RegFam :=
  [FAB_ABORT, FAB_ABORT_RES, FAB_ABORT_TIME, FAB_ASN_RANGE, FAB_ASN_CMD, FAB_ASN_RES,
   FAB_QUERY, FAB_QUERY_RES, FAB_MESHW, FAB_CH_CFG, SYSCTL_COLCTL, SYSCTL_COLKICK,
   SYSCTL_COLBOOT]

/-- The register families of chapter 15. -/
def regFams15 : List RegFam :=
  [ECHO_CFG, ECHO_STAT, ECHO_CNT, ECHO_TTOFS, ECHO_TTDLY, ECHO_CLSLO,
   ECHO_CLSHI, ECHO_NODE, ECHO_BRKLO, ECHO_BRKHI, ECHO_CHCFG, ECHO_TXB,
   ECHO_TXBX, ECHO_RT, ECHO_MG, ETH_CFG, ETH_STAT, ETH_MACLO,
   ETH_MACHI, ETH_HASHLO, ETH_HASHHI, ETH_PCPMAP, ETH_RXQ, ETH_TXQ,
   ETH_TXC, ETH_SLOTLO, ETH_SLOTHI, ETH_TSLAT, ETH_CNT, ETH_MDIO]

/-- The register families of chapter 16. -/
def regFams16 : List RegFam :=
  [CAN_IRQ, SPI_IRQ, XSPI_IRQ, UART_IRQ, I2C_IRQ, AVS_IRQ,
   GPIO_IRQ, ECHO_IRQ, ETH_IRQ, THERM_IRQ, PWR_IRQ, LAN_IRQ,
   DRIP_IRQ, CAN_CFG, CAN_NBT, CAN_DBT, CAN_CTRL, CAN_STAT,
   CAN_ERR, CAN_CNT, CAN_FLTID, CAN_FLTM, CAN_FLTC, CAN_TXB_ID,
   CAN_TXB_DATA, CAN_TXB_CTL, CAN_TXB_RES, CAN_TXB_TS, SPI_CFG, SPI_TXD,
   SPI_RXD, SPI_STAT, SPI_TWIN, XSPI_CFG, XSPI_CMD, XSPI_ADDR,
   XSPI_DATA, XSPI_STAT, UART_CFG, UART_TXD, UART_RXD, UART_STAT,
   I2C_CFG, I2C_CMD, I2C_STAT, GPIO_DIR, GPIO_OUT, GPIO_SET,
   GPIO_CLR, GPIO_IN, GPIO_EDGE, GPIO_STAT, GPIO_FILT, AVS_CFG,
   AVS_LIM, AVS_REQ, AVS_RES, AVS_VACK]

/-- The register families of chapter 17. -/
def regFams17 : List RegFam :=
  [THERM_S, THERM_STAT, THERM_CTRL, THERM_THR, THERM_RIMLO, THERM_RIMHI,
   THERM_EST, THERM_KCOEF, THERM_BUD, THERM_LEAK, GRT_TEMP, LAN_CFG,
   LAN_TBASE, LAN_SCALE, LAN_VGRID, LAN_TGRID, LAN_NTC, LAN_LCFG,
   LAN_I, LAN_FS, LAN_FD, LAN_RTHLO, LAN_RTHHI, LAN_RLIM,
   LAN_BSTAT, LAN_BLIM, LAN_EVT, LAN_TJA, LAN_TJB]

/-- The register families of chapter 18. -/
def regFams18 : List RegFam :=
  [PWR_CTRL, PWR_STAT, PWR_CFG, PWR_WCFG, PWR_WSTAT, WAKE_STAT]

/-- The register families of chapter 19. -/
def regFams19 : List RegFam :=
  [SYSCTL_RSTCAUSE, SYSCTL_RSTCTL, SYSCTL_RSTCFG, SYSCTL_BOOTSTAT, SYSCTL_UIDLO, SYSCTL_UIDHI,
   SYSCTL_STRES, SYSCTL_STTIME, DBG_STAT, DBG_CTRL, DBG_CHAL, DBG_KEY,
   DBG_RESP, DRIP_CTRL, DRIP_STAT, DRIP_LANE, DRIP_PASST, DRIP_ERR,
   DRIP_ERRADDR, DRIP_ERRCNT]

/-- Every register family. -/
def regFams : List RegFam :=
  regFams00 ++ regFams01 ++ regFams02 ++ regFams03 ++ regFams06 ++ regFams07 ++ regFams08 ++ regFams09 ++ regFams10 ++ regFams11 ++ regFams12 ++ regFams13 ++ regFams14 ++ regFams15 ++ regFams16 ++ regFams17 ++ regFams18 ++ regFams19

end Sys2Proof.Machine
end

