-- ==== Sys2Proof/Machine/State.lean ====
section
/-! DEFINITION. The state of the FX4896 as plain data: everything the spec gives the device, and the queue of the
commands that wait. The registers of the memory map stand in one sparse store (`State.regs`), the addressed memories in
another (`State.mem`); what no register shows stands in the structures below, unit by unit. -/

namespace Sys2Proof.Machine

/-- No command of this block ends in a fault: every error the spec describes is a state (a log entry, a flag, a trap, a
stopped cell or column, a driven line), and the machine goes on. Nobody raises a fault; the type is empty. -/
inductive Fault
  deriving DecidableEq, Repr

/-- Why a command has no meaning. -/
inductive Refusal
  /-- Raised by an arm of `exec` whose command has no meaning yet, named by its mnemonic. Safe: the machine stops. -/
  | notModelled (mnemonic : String)
  deriving DecidableEq, Repr

/-! ## Fabric (01_architecture.md) -/

/-- An entry of the fabric error log (R38, R39): the words the FAB_ERR_ registers show while it is the head. -/
structure ErrEntry where
  /-- FAB_ERR_INFO of the entry, VALID included. -/
  info : Word
  /-- FAB_ERR_ADDR of the entry. -/
  addr : Word
  /-- FAB_ERR_TIME of the entry. -/
  ns   : Word
  deriving DecidableEq, Repr

/-- A report of an error on its way up the levels (R35): its level (0 cell, 1 block, 2 region, 3 chip, 4 the Grotto), the
unit it names and the fabric tick at which it reached that level. -/
structure Report where
  level : Nat
  unit  : Nat
  since : Nat
  deriving DecidableEq, Repr

/-! ## TIME and angle (02_time_and_angle.md) -/

/-- The TIME block (R54 to R73), beside its registers. -/
structure TimeUnit where
  /-- TIME: 64 integer bits of ns above 32 fraction bits (R54, R56). Reset 0 (R55). -/
  now        : BitVec 96
  /-- The increment in force, 2 integer bits above 32 fraction bits (R56). Reset 1.5625 ns. -/
  inc        : BitVec 34
  /-- Remaining slew in 2⁻¹⁰ ns (R64). Reset 0. -/
  slew       : Int
  /-- A step requested and not yet performed: its captured target (R62). Reset none. -/
  stepTarget : Option Dword
  /-- The fabric tick of the last step, if there was one (R67). Reset none. -/
  stepTick   : Option Nat
  /-- The next accepted sample is a first sample (R68). Reset true. -/
  first      : Bool
  /-- Fabric ticks since the last accepted sample (R68, R71). Reset 0. -/
  sinceTicks : Nat
  /-- Consecutive accepted samples with |o| ≤ LOCK_THR (R70). Reset 0. -/
  inLock     : Nat
  /-- Consecutive accepted samples with |o| > LOCK_THR (R71). Reset 0. -/
  outLock    : Nat
  /-- |o| of the last accepted samples, newest first, at most 15 (R70). Reset empty. -/
  lastAbs    : List Nat
  /-- Lock has been reached since power-on (R70: FREE). Reset false. -/
  everLocked : Bool
  /-- TIME_ERRB at entry to HOLDOVER, and TIME in ns at that entry (R70). Reset 0. -/
  holdErr    : Nat
  holdFrom   : Nat
  /-- TIME in 2⁻³² ns at the last rate check (R73). Reset 0. -/
  rateFrom   : Nat
  deriving DecidableEq, Repr

/-- What a tracker keeps for one of its two sources (R79). -/
structure SrcState where
  /-- Consecutive updates with |es| >> 16 above ELIM. -/
  overs     : Nat
  /-- Consecutive updates with |es| >> 16 at or below ELIM, counted while faulted for ELIM. -/
  under    : Nat
  /-- Updates since the last ANG_OBS write, or since the enable. -/
  obsAge   : Nat
  /-- Faulted because the position interface is not HEALTHY. -/
  badIface : Bool
  /-- Faulted because the observer input went unwritten. -/
  badObs   : Bool
  /-- Faulted because the innovation exceeded ELIM for ECNT updates. -/
  badErr   : Bool
  deriving DecidableEq, Repr

/-- An angle tracker beside its registers (R74 to R84). -/
structure Tracker where
  /-- A: 16 bits of revolutions above 48 bits of fraction (R75). Reset DESIGN CHOICE 0. -/
  a       : BitVec 64
  /-- W: signed, 2⁻⁴⁸ turn per µs (R75). Reset DESIGN CHOICE 0. -/
  w       : BitVec 48
  /-- C: signed, 2⁻⁶⁴ turn per µs² (R75). Reset DESIGN CHOICE 0. -/
  c       : BitVec 48
  src     : Vector SrcState 2
  /-- Consecutive coasting updates (R82). -/
  coasts  : Nat
  /-- Consecutive updates in which every source in use was within ELIM (R83). -/
  goods   : Nat
  deriving DecidableEq, Repr

/-! ## Gallery and rings (03_gallery.md) -/

/-- A request that spans several units and is not yet decided (R52): units asked, units undecided, and the status of each
unit that failed. -/
structure Multi where
  asked : BitVec 16
  open_ : BitVec 16
  fails : List (Nat × Nat)
  deriving DecidableEq, Repr

/-- What an engine has issued (R94, R108): the fabric tick of the effect, the phase, the first fabric tick of the issue slot,
the lateness in firing ticks and TIME[31:0] at issue. -/
structure Issue where
  tick  : Nat
  phase : Nat
  first : Nat
  late  : Nat
  ns    : Word
  deriving DecidableEq, Repr

/-- A pending event (R90 to R123). -/
structure GEvent where
  slot    : Nat
  w0      : Word
  w1      : Word
  w2      : Word
  w3      : Word
  chamber : Nat
  engine  : Fin 4
  /-- Order of acceptance (R99). -/
  order   : Nat
  /-- Direction of an angle event: 0 FORWARD, 1 BACKWARD, 2 EITHER and not resolved (R91, R104). -/
  dir     : Nat
  committed : Bool
  /-- The committed instant of an angle event in 1/256 ns (R104); none while there is none, or for an event due at once. -/
  instant : Option Nat
  /-- Due tick, in firing ticks of the count of R94, and phase, once known for good. -/
  due     : Option (Int × Nat)
  /-- Crossing lateness (R106), and whether MUSTNOT_LATE does not apply. -/
  lc      : Nat
  exempt  : Bool
  issued  : Option Issue
  /-- The action waits in the engine's hold entry of the event's chamber (R95). -/
  held    : Bool
  /-- A multi-unit action whose units are not all decided (R96). -/
  span    : Option Multi
  /-- The event's target lay in an aborted unit (R123). -/
  doomed  : Bool
  deriving DecidableEq, Repr

/-- How a submission reached the Gallery, and so where its decision goes (R97, R193, R249). -/
inductive SubSrc
  /-- A write of GAL_SUB_GO. -/
  | reg
  /-- SUBMIT of a cell with WAIT = 0 or 1. -/
  | cell (wait : Bool)
  /-- The pattern player of an axis. -/
  | player (axis : Nat)
  deriving DecidableEq, Repr

/-- A submission that waits for its decision (R97, R99). -/
structure Sub where
  agent   : Agent
  chamber : Nat
  w0      : Word
  w1      : Word
  w2      : Word
  w3      : Word
  src     : SubSrc
  deriving DecidableEq, Repr

/-- A firing engine (R95, R108): the chambers last lent a slot and last retried, and the issue slot, by its first fabric
tick, last used by a firing and by a retry. -/
structure Engine where
  lend      : Nat
  retry     : Nat
  slotUsed  : Option Nat
  retryUsed : Option Nat
  deriving DecidableEq, Repr

/-- The Gallery beside its registers and the slot memory. -/
structure Gallery where
  /-- Pending events in order of acceptance. -/
  events  : List GEvent
  waiting : List Sub
  /-- The chamber last served by the submission unit (R99). -/
  served  : Nat
  /-- The next order of acceptance. -/
  order   : Nat
  /-- Tags by slot (R100). -/
  tags    : SMap (BitVec 8)
  eng     : Vector Engine 4
  /-- Rings whose notification waits for its target (R120). -/
  notify  : List Nat
  /-- Load-all requests of agents, by 256 × region + agent ID (R285). -/
  loadall : SMap Multi
  deriving DecidableEq, Repr

/-! ## Sornas processors (04_sornas_model.md, 05_sornas_control_ops.md, 14_columns_and_chambers.md) -/

/-- The register file and status of a Sornas processor (R127, R128, R163). In Sornas-C, `r` holds d0 to d15 in the low 16
bits of entries 0 to 15 and a0 to a7 in the low 20 bits of entries 16 to 23; in Sornas-S it holds g0 to g31. Every field
reads 0 at reset and after a start (R127) except `st`. -/
structure Core where
  r      : Vector Word 32
  /-- fr0 to fr15 (Sornas-S, R128). -/
  fr     : Vector Word 16
  acc    : Vector (BitVec 40) 4
  /-- p3 to p0; p0 reads 1 whatever bit 0 holds. -/
  p      : BitVec 4
  lc     : Vector (BitVec 16) 2
  ls     : Vector Word 2
  le     : Vector Word 2
  /-- Loop 1 was started later than loop 0 (R157). -/
  lord   : Bool
  /-- ix (Sornas-C, 16 bits) or xprog (Sornas-S). -/
  prog   : Word
  /-- st in bits 15 to 0; in Sornas-S the whole of STATUS (R451). -/
  st     : Word
  ev     : Half
  /-- gb (R181): [15] FIX, [7:4] SCHED, [3:0] BANK. -/
  gb     : Half
  pc     : Word
  xepc   : Word
  xst    : Word
  xcause : Word
  xtval  : Word
  /-- XVEC (Sornas-C). -/
  xvec   : Word
  deriving DecidableEq, Repr

/-- What a processor waits for between two commands. -/
inductive WaitState
  /-- Not waiting. -/
  | run
  /-- Asleep in WAIT: pop (P), destination field, and the fabric tick of the timeout if T = 1 (R194). -/
  | sleep (pop : Bool) (rd : Nat) (deadline : Option Nat)
  /-- A fence of scope 0 B, 1 R, 2 C waits for acknowledgements (R199). -/
  | fence (scope : Nat)
  /-- A SUBMIT with WAIT = 1 waits for its decision, for pair `rd` (R193). -/
  | decision (rd : Nat)
  /-- A column asleep in WFI (R459). -/
  | wfi
  /-- Halted into debug by BRK (R162). -/
  | debug
  deriving DecidableEq, Repr

/-- An entry of a cell's write buffer (R153). -/
inductive WbufEntry
  /-- A 16-bit store to block memory: fabric byte address, datum, and the cell word address of the store. -/
  | mem (addr : Nat) (v : Half) (word : Nat)
  /-- A 32-bit register write through the port window: fabric byte address, value, cell word address, marked by FENCE.E. -/
  | reg (addr : Nat) (v : Word) (word : Nat)
  /-- A submission: the staged image, ORDERED, and whether the cell waits for the decision (R192). -/
  | submit (w0 w1 w2 w3 : Word) (ordered wait : Bool)
  deriving DecidableEq, Repr

/-- An entry of a cell's event FIFO (R169): vector, payload, and the ring whose notification it is, if it is one (R120). -/
structure FifoEntry where
  vec     : Nat
  payload : Half
  ring    : Option Nat
  deriving DecidableEq, Repr

/-- A physical control cell (R204, R205) beside its program and operand RAM. -/
structure Phys where
  core    : Core
  /-- Event FIFO, oldest first, at most 16 (R14, R198). -/
  fifo    : List FifoEntry
  /-- Write buffer, oldest first, at most 4 (R153). -/
  wbuf    : List WbufEntry
  /-- Read latch of the port window: register address and bits [31:16] (R160). -/
  latch   : Option (Nat × Half)
  /-- Write stage of the port window: register address and bits [31:16] (R160). -/
  stage   : Option (Nat × Half)
  wait    : WaitState
  /-- A refusal of a posted store that has arrived: status and cell word address (R154). -/
  refusal : Option (Nat × Nat)
  /-- FENCE.E has marked the next submission (R200). -/
  fenceE  : Bool
  /-- Fabric tick of the last trap entry while its handler runs (R217 TRAPESC). -/
  trapAt  : Option Nat
  deriving DecidableEq, Repr

/-- A START or a migration in progress on a logical cell (R208, R219). -/
inductive CellWork
  | none
  /-- START with LOAD: its writer, ENTRY, a STOP held until it runs. -/
  | start (ag : Agent) (entry : Nat) (stop : Bool)
  /-- Migration: failed physical cell, spare and the logical cell that held it, cause, fabric tick and TIME[31:0] of detection,
  restarted once, STOP held, the second spare taken for a twin and the logical cell that held it. -/
  | migrate (failed spare spareOf cause : Nat) (since : Nat) (ns : Word) (again stop : Bool) (second : Option (Nat × Nat))
  deriving DecidableEq, Repr

/-- A logical control cell (R204) beside its CELL_ registers. -/
structure LCell where
  work     : CellWork
  /-- The physical secondary of a twin (R224). -/
  twin     : Option Nat
  /-- Fabric ticks at which the watchdog and the checkpoint-age timer last restarted (R217). -/
  kickAt   : Nat
  ckAt     : Nat
  /-- CL_CYCLE: its value at the cell cycle `cycAt`; it counts on while the cell is RUNNING (R228). -/
  cyc      : Word
  cycAt    : Nat
  /-- CL_STAT.MIG, CL_STAT.COLD and CL_STAT.GEN. -/
  clMig    : Bool
  clCold   : Bool
  clGen    : BitVec 8
  /-- CL_GSIN. -/
  gsin     : Word
  /-- CL_PMC0 to CL_PMC3, CL_PMSEL0 to CL_PMSEL3 and CL_PMSTAT (R228, R229). -/
  pmc      : Vector Word 4
  pmsel    : Vector (BitVec 8) 4
  pmstat   : Word
  /-- Overflow entries that wait to enter the FIFO (R229). -/
  pmPend   : BitVec 4
  /-- The block controller's shadow of XVEC (R219). -/
  xvecSh   : Word
  /-- Gain-scheduler channel: remaining dwell, map written since the last evaluation, first evaluation after EN (R214). -/
  dwell    : Nat
  mapDirty : Bool
  gsFirst  : Bool
  deriving DecidableEq, Repr

/-- A block's gain banks and Flowstone store (R182, R216). -/
structure Block where
  /-- K[bank][i] at 64 × bank + i. -/
  gain : SMap Half
  /-- Store words 0 to 2,047. -/
  flow : SMap Half
  deriving DecidableEq, Repr

/-- A line of a column's cache (R462). -/
structure CacheLine where
  dirty : Bool
  data  : List Byte
  deriving DecidableEq, Repr

/-- A payload held by a Gallery interrupt line (R454): chamber of the event, payload, and the ring it notifies for. -/
structure LinePayload where
  chamber : Nat
  payload : Half
  ring    : Option Nat
  deriving DecidableEq, Repr

/-- A Sornas-S processor: columns 0 to 3, COLH (4) and the Grotto's safety column (5). -/
structure SProc where
  core    : Core
  /-- The CSRs of R452 from 0x020 on, by number; an unlisted CSR holds 0. -/
  csr     : SMap Word
  wait    : WaitState
  /-- Gallery interrupt lines 0 to 15. -/
  lines   : Vector (Option LinePayload) 16
  /-- Columns that have raised the software interrupt here (R454). -/
  swi     : BitVec 5
  /-- A refusal of a posted store that has arrived: status and byte address (R154). -/
  refusal : Option (Nat × Nat)
  fenceE  : Bool
  /-- Data and instruction cache by line number (R462). -/
  dcache  : SMap CacheLine
  icache  : SMap CacheLine
  /-- Fabric tick at which the watchdog last restarted (R476). -/
  kickAt  : Nat
  /-- In reset, waiting for its first instruction (R477). -/
  inReset : Bool
  /-- SYSCTL_COLCTL.RST has been written, and the first instruction is to come. -/
  restart : Bool
  /-- The column cycle at which CYCLE last held 0 (R464). -/
  cycAt   : Nat
  deriving DecidableEq, Repr

/-- A FAB_ABORT in progress (R470 to R472): kind, target, the fabric tick and the units that have not finished. -/
structure AbortWork where
  kind   : Nat
  target : Nat
  since  : Nat
  mask   : BitVec 8
  deriving DecidableEq, Repr
/-! ## The units of an axis (07_machine_control.md) -/

/-- A pattern record as the player holds it (R246): its start level and its angles. -/
structure OppPat where
  start  : Bool
  angles : List Nat
  deriving DecidableEq, Repr

/-- A START or SWITCH that waits for its point (R250), with its pattern and the number of the pattern. -/
structure OppCmd where
  start : Bool
  x0   : Nat
  pat  : OppPat
  no   : Nat
  deriving DecidableEq, Repr

/-- A pattern player beside its registers (R248). -/
structure Opp where
  pat    : OppPat
  /-- E, and the cursor with the last gate emitted there (96: all of them), both modulo 2⁶⁴ in 2⁻³² electrical turn. -/
  e      : Nat
  cursor : Nat
  gate   : Nat
  /-- A[63:16] at the last update. -/
  prev   : Nat
  cmd    : Option OppCmd
  /-- The point of an accepted STOP. -/
  stop   : Option Nat
  deriving DecidableEq, Repr

/-- A six-step unit beside its registers (R255 to R261); times are fabric ticks. -/
structure Ssx where
  /-- Entry to the present phase. -/
  since  : Nat
  /-- The last commutation, the last accepted crossing, and the commutation scheduled. -/
  com    : Nat
  zc     : Nat
  sched  : Option Nat
  /-- A crossing has been accepted since the last commutation. -/
  seen   : Bool
  /-- T_i of the ramp. -/
  ti     : Nat
  /-- Consecutive consistent intervals (R258). -/
  good   : Nat
  /-- Consecutive failures of the three checks (R259). -/
  miss   : Nat
  ratio  : Nat
  obs    : Nat
  /-- Consecutive commutations in RUN (R260). -/
  coms   : Nat
  /-- Transitions seen in CATCH: index and time, newest first, at most 3 (R257). -/
  trans  : List (Nat × Nat)
  deriving DecidableEq, Repr

/-- The units of an axis beside their registers. -/
structure AxisU where
  /-- dI, AX_VDQ written since the last update, updates since then, and the link filter (R233, R234, R236). -/
  dI     : Int
  vfresh : Bool
  vAge   : Nat
  vf     : Nat
  /-- The follower: updates until its next evaluation, its input, first evaluation after EN, previous count, remainder,
  the last steps for PFREQ (newest first, at most 1,024), and an input lost (R238 to R240). -/
  wait   : Nat
  fin    : Int
  first  : Bool
  prev   : Nat
  rem    : Int
  hist   : List Int
  lost   : Bool
  /-- The share unit: APPLY, EXCL and READMIT written and not yet acted on (R242, R244). -/
  apply  : Bool
  excl   : BitVec 4
  readm  : BitVec 4
  /-- Health changed with AUTO = 0 and APPLY has not been written since: the outputs hold (R244). -/
  frozen : Bool
  opp    : Opp
  ssx    : Ssx
  deriving DecidableEq, Repr

/-! ## PWM and gate-driver links (08_pwm_and_gate_links.md) -/

/-- A gate output in the stages of R266. Instants are in units u of 195.3125 ps of the fabric clock: 8 × fabric tick and on. -/
structure POut where
  /-- The source's request (stage 1). -/
  src     : Bool
  /-- The request after mask and minimum-pulse filter (stages 2 and 3). -/
  req     : Bool
  /-- The instant at which `req` last changed, if it has. -/
  chgAt   : Option Nat
  /-- Changes of the request held back by the filter or the firing-tick rule, in order: instant asked, level (R274, R278). -/
  held    : List (Nat × Bool)
  /-- The edge queue (R274): instant, level; oldest first, at most 32. -/
  queue   : List (Nat × Bool)
  /-- The input of the interlock (after stage 4) and its output (stage 5). -/
  inp     : Bool
  out     : Bool
  /-- The instant at which the interlock last turned the output off, if it has been on. -/
  offAt   : Option Nat
  /-- The instant at which the output turns on if its input stays high (R279). -/
  onAt    : Option Nat
  /-- The output after the safe-pattern override (stage 6), with the interlock of the override (R290). -/
  gate    : Bool
  gateOff : Option Nat
  gateOn  : Option Nat
  deriving DecidableEq, Repr

/-- The committed state of a bridge (R281). -/
structure BAct where
  bmode : Word
  duty  : Vector Half 3
  tab   : Vector Word 12
  deriving DecidableEq, Repr

/-- A bridge. -/
structure Bridge where
  outs  : Vector POut 6
  act   : BAct
  /-- The references of the legs (R271), and the on- and off-offsets of the present period in CARRIER mode (R272). -/
  ref   : Vector Bool 3
  tOn   : Vector Nat 3
  tOff  : Vector Nat 3
  /-- Table entries already applied in this period, bit 4 × leg + entry (R273). -/
  done  : BitVec 12
  /-- Both outputs of a leg are held off until an input falls (R279, SHOOT). -/
  shoot : Vector Bool 3
  /-- The trip is in force: it stays until the first commit after TRIP was cleared with no cause present (R286). -/
  trip  : Bool
  /-- Outputs turn off at this instant: the soft shutdown of R306. -/
  ssdAt : Option Nat
  /-- The Grotto's safe pattern: the outputs it orders on (none: no pattern) (R290). -/
  safe  : Option (BitVec 6)
  /-- Released by the Grotto and not yet committed: outputs stay off (R290). -/
  released : Bool
  /-- Pads driven since the last power-on reset, and their copies of POL (R607). -/
  pads  : BitVec 6
  pol   : BitVec 6
  deriving DecidableEq, Repr

/-- Who requested a load-all commit: an agent by a register write, or the Gallery slot of an event (R282). -/
inductive Requester
  | agent (id : Nat)
  | slot (n : Nat)
  deriving DecidableEq, Repr

/-- The shadows of a group as captured (R282): PWM_GPER, and the bridges of the group. -/
structure Snapshot where
  gper    : Word
  bridges : List (Nat × BAct)
  deriving DecidableEq, Repr

/-- A PWM group. -/
structure PGroup where
  /-- EN was written and the start instant has not arrived (R268). -/
  armed : Bool
  /-- The start instant in u, where the group starts late (R268). -/
  lateAt : Option Nat
  /-- The instant of the last boundary. -/
  bnd   : Nat
  /-- PMID of this period has been emitted (R270). -/
  mid   : Bool
  /-- PWM_GPER in force. -/
  gper  : Word
  /-- Requesters of the commit at the next boundary, and of the one after it (R282, R283). -/
  reqs  : List Requester
  late  : List Requester
  snap  : Option Snapshot
  /-- The abort pattern is in force (R286). -/
  abort : Bool
  /-- The migration pattern in force: the logical cell, HOLD, and the fabric tick of its start (R221, R286). -/
  mig   : Option (Nat × Bool × Nat)
  deriving DecidableEq, Repr

/-- A transaction of a gate-driver link (R297, R304, R305): where it came from, and its master frame. -/
inductive GdlFrom
  | init (step : Nat) | auto | cmd | poll (k : Nat)
  deriving DecidableEq, Repr

/-- A transaction in progress: the side whose reply is awaited, sides left, sides failed, the fabric tick from which the
present reply is awaited, and the status and data so far. -/
structure GdlTx where
  src    : GdlFrom
  sel    : Nat
  cmd    : Nat
  addr   : Nat
  data   : Nat
  seq    : Nat
  second : Bool
  failed : BitVec 2
  status : Nat
  reply  : Nat
  since  : Nat
  deriving DecidableEq, Repr

/-- A gate-driver link beside its registers. -/
structure Gdl where
  /-- SEQ of the last master frame (R297). -/
  seq    : Nat
  busy   : Option GdlTx
  /-- A command written and not yet issued (R304). -/
  cmd    : Option Word
  /-- Sides whose STATUS is to be read after a fault frame (R305). -/
  auto   : List Nat
  /-- The next entry of the poll round in progress (R303), and the fabric tick of the last round. -/
  poll   : Option Nat
  pollAt : Nat
  /-- Consecutive failures, and the fabric tick of the last success (R302). -/
  fails  : Nat
  okAt   : Nat
  /-- The fabric tick from which the next initialisation counts (R301, R302), and whether one is due. -/
  initAt : Nat
  /-- Fabric ticks of the last successful reads of the poll entries (R303). -/
  telAt  : Vector (Option Nat) 8
  /-- Sides that fault frames have named since GDL_STAT.FAULT was last clear: bit 0 high, bit 1 low (R402). -/
  named  : BitVec 2
  deriving DecidableEq, Repr
/-! ## Sensing (09_sensing.md) -/

/-- A trigger outstanding at a converter (R311 to R313): ready tick, arrival rank, mask. -/
structure Trig where
  ready : Nat
  rank  : Nat
  mask  : BitVec 6
  deriving DecidableEq, Repr

/-- A slot whose result has not landed (R310): its start tick, channel and scan number, whether it is the last of its scan,
and the format in force at its start once that has passed (R321): signed, offset. -/
structure Slot where
  start : Nat
  ch    : Fin 6
  scan  : Nat
  last  : Bool
  fmt   : Option (Bool × Nat)
  deriving DecidableEq, Repr

/-- A converter beside its registers. -/
structure Adc where
  /-- Triggers that wait, in arrival order. -/
  queue  : List Trig
  /-- The end of the scan that runs or ran last. -/
  ends   : Nat
  /-- Slots whose results have not landed, in order. -/
  land   : List Slot
  /-- Scans started. -/
  scans  : Nat
  /-- REFEN last rose at this tick. -/
  refAt  : Nat
  /-- Start of the last over-range slot of each channel; the channel and start of the last slot, and whether it was
  over-range (R324). -/
  overAt : Vector (Option Nat) 6
  last   : Option (Fin 6 × Nat × Bool)
  /-- The latest signed and the latest unsigned result of each channel, as the Lantern copies them. -/
  latS   : Vector Half 6
  latU   : Vector Half 6
  deriving DecidableEq, Repr

/-- A delta-sigma input beside its registers (R327, R328, R330). -/
structure Dsm where
  i1   : Int
  i2   : Int
  i3   : Int
  z1   : Int
  z2   : Int
  z3   : Int
  n    : Nat
  k    : Nat
  /-- Outputs since the last synchronisation. -/
  cnt  : Nat
  /-- SYNC asked for at the next edge. -/
  sync : Bool
  /-- The last bit and the length of the run it ends. -/
  bit  : Bool
  run  : Nat
  deriving DecidableEq, Repr
/-! ## Comparators and Sumps (10_protection_and_sump.md) -/

/-- A Sump beside its registers; instants are fabric ticks. -/
structure Sump where
  /-- The last change of the chopper signal, if there was one (R348). -/
  chopAt  : Option Nat
  /-- The start of the running OV1 episode (R351). -/
  epAt    : Nat
  /-- The last fall of CA.HI within the episode; none while CA.HI is 1. -/
  lowAt   : Option Nat
  /-- Entry to RUN of the discharge (R352), and the last change of a pulsed discharge signal. -/
  disAt   : Nat
  pulseAt : Nat
  /-- The chopper or discharge signal was 1 since the last update of the energy model (R349). -/
  used    : Bool
  deriving DecidableEq, Repr
/-! ## Position feedback (11_position_feedback.md) -/

/-- A position interface beside its registers. -/
structure Pos where
  /-- The angle of the last sample, if one has been taken (R363). -/
  ang    : Option Nat
  /-- Consecutive samples below AMIN, above AMAX, and frames discarded (R370). -/
  lo     : Nat
  hi     : Nat
  bad    : Nat
  /-- Fault conditions that persist, bit CAUSE. -/
  conds  : BitVec 10
  /-- Accepted levels of A, B and Z (H1, H2, H3). -/
  a      : Bool
  b      : Bool
  z      : Bool
  /-- Quadrant of the last sin/cos sample: s ≥ 0, c ≥ 0 (R367). -/
  quad   : BitVec 2
  /-- ZARM written and its mark not yet taken. -/
  zarm   : Bool
  /-- The last two fresh readings: value and fabric tick (R372). -/
  v0     : Option (Nat × Nat)
  v1     : Option (Nat × Nat)
  /-- The Hall sector taken. -/
  sect   : Option Nat
  /-- SSI: a frame in progress since, the end and the start of the last frame, and the last single-turn value. -/
  frame  : Option Nat
  ended  : Option Nat
  began  : Option Nat
  ssi    : Option Nat
  /-- A sample, edge or frame is the first after a return from PARK or KEEP (R380). -/
  fresh  : Bool
  /-- Divider: acc, the fabric ticks of the last step and of the last change of DIR, A′ and B′ (DMODE 1: outB is DIR)
  (R375). -/
  acc    : Int
  dirAt  : Option Nat
  stepAt : Option Nat
  outA   : Bool
  outB   : Bool
  /-- Compare table: armed, IDX, lap j, and the levels of PO0 and PO1 with the ticks at which their pulses end. -/
  armed  : Bool
  idx    : Nat
  lap    : Int
  po0    : Bool
  po1    : Bool
  end0   : Option Nat
  end1   : Option Nat
  deriving DecidableEq, Repr
/-! ## The Grotto (12_safety_architecture.md, 13_safety_functions.md) -/

/-- A mailbox slot (R394). -/
structure Mail where
  /-- The request that waits for its answer: header, body and check word. -/
  req : Option (List Word)
  /-- The status and reply body the Grotto has decided on. -/
  ans : Option (Nat × List Word)
  /-- A reply stands in the reply slot and raises the column's source 0x3B (R454). -/
  irq : Bool
  deriving DecidableEq, Repr

/-- The Grotto's position tap of an interface (R397). -/
structure Tap where
  /-- 4,096 × C + φ, once a sample has been taken. -/
  pos   : Option Int
  /-- C has been set at a reference mark. -/
  refd  : Bool
  pz    : Bool
  fault : Bool
  /-- `pos` at the last samples, newest first, at most 201. -/
  hist  : List Int
  deriving DecidableEq, Repr

/-- An axis as the Grotto keeps it, beside its status registers. Times are in the Grotto's microseconds. -/
structure GAxis where
  /-- Demands latched until RELEASE: mailbox STO and SS1, heartbeat SS1, violation SS1 and STO (R420). -/
  mbSto   : Bool
  mbSs1   : Bool
  hbSs1   : Bool
  vioSs1  : Bool
  vioSto  : Bool
  /-- An STO and an SS1 demand were raised at the last evaluation. -/
  stoUp   : Bool
  ss1Up   : Bool
  /-- SS1 running: its start and n0 (R421). -/
  ss1     : Option (Nat × Nat)
  /-- Consecutive slices outside the envelope (R398), and with sensors in disagreement (R399). -/
  n       : Nat
  nsen    : Nat
  /-- TMVALID fell at this time, at this speed (R401). -/
  fell    : Option (Nat × Nat)
  /-- s has stayed below NASC − NHYS, and below NREST in STO, since (R403). -/
  lowAt   : Option Nat
  restAt  : Option Nat
  /-- SLS: the limit index in force, when it began, and the one monitored until its ramp ends, 0 for none (R422). -/
  slsN    : Nat
  slsAt   : Nat
  slsOld  : Nat
  /-- SDI: p0 of the demands that admit positive and negative rotation (R423). -/
  sdiP    : Option Int
  sdiN    : Option Int
  /-- The envelope of the last valid cross-link frame: when it came, THI and TLO (R400). -/
  env     : Option (Nat × Int × Int)
  /-- A violation of SLS, SDI and SLP is present, bits 0 to 2 (R425). -/
  vio     : BitVec 3
  /-- Discharge has been requested since the axis came to rest (R403). -/
  reqd    : Bool
  deriving DecidableEq, Repr

/-- A safe-input pair (R429, R430). `lv`: the accepted levels of its channels. -/
structure Pair where
  lvA    : Option Bool
  lvB    : Option Bool
  /-- Disagreement has lasted since. -/
  disAt  : Option Nat
  /-- The test-pulse outputs whose last pulse was a fault on each channel (R427). -/
  tpA    : Byte
  tpB    : Byte
  /-- Both channels have been not healthy since. -/
  offAt  : Option Nat
  /-- The pair's own state (R429, R430), and the time it entered OK. -/
  own    : BitVec 2
  okAt   : Nat
  /-- Two-hand control: both buttons must be released first. -/
  rel    : Bool
  deriving DecidableEq, Repr

/-- A cross link (R435, R436). -/
structure XLink where
  /-- The link went DOWN and has not come UP again: its reaction is raised (R435). -/
  lost   : Bool
  /-- Consecutive accepted frames while DOWN. -/
  run    : Nat
  lastAt : Nat
  /-- Requests of the last frame that took effect, by slot. -/
  sto    : BitVec 8
  ss1    : BitVec 8
  sls    : Half
  /-- Slots whose peer is not in RUN (R436, ROLE 1). -/
  out    : BitVec 8
  txSeq  : Half
  /-- The last STATUS frame sent. -/
  sent   : List Byte
  deriving DecidableEq, Repr

/-- The last delivery of a heartbeat channel (R395): the Grotto's clock, TOKEN and the firing TIME in ns; `late` once it has
been missed. -/
structure Beat where
  at_   : Nat
  token : Nat
  ns    : Nat
  late  : Bool
  deriving DecidableEq, Repr

/-- The Grotto beside its status registers. -/
structure Grotto where
  /-- The Grotto's clock since its reset, in 1/3200 µs. -/
  clk    : Nat
  mail   : Vector Mail 5
  tap    : Vector Tap 16
  axis   : Vector GAxis 8
  pair   : Vector Pair 16
  xl     : Vector XLink 4
  beats  : SMap Beat
  /-- The Grotto's own copy of the parameter set, by word offset (R443), and the set in force. -/
  param  : SMap Word
  cfg    : Option (SMap Word)
  /-- The confirmation record (R444). -/
  record : Option (List Word)
  /-- A WRITE came since the last CHECK (R446). -/
  dirty  : Bool
  /-- Fault-log entries not cleared by CLRFLT (R384), oldest first: log index, entry and unit. -/
  open_  : List (Nat × Nat × Nat)
  /-- Entries whose cause persists, as entry × 256 + unit. -/
  causes : List Nat
  /-- The OV2 line of a Sump has ordered a safe state whose confirmation by the tap is due, by axis (R347). -/
  ov2    : BitVec 8
  /-- Gate enables as driven, one bit a region (R383), and when each last changed. -/
  genA   : BitVec 4
  genB   : BitVec 4
  genAt  : Nat
  /-- Registered injections and SRAM test passed (R418). -/
  tested : Bool
  /-- The line BOOTOK (R584). -/
  bootOk : Bool
  /-- The value of VDD_CORE in mV that a request adds to its window (R533). -/
  coreWin : Option Nat
  deriving DecidableEq, Repr

/-! ## Rings as links consume them, Echo and Ethernet (03_gallery.md, 15_echo_and_ethernet.md) -/

/-- How far the hardware consumer of a transmit ring has read (R115): the lap it expects, the index of the next entry, and the
index at which it has reported STALE_GEN. -/
structure TxRing where
  lap  : Nat
  next : Nat
  told : Option Nat
  deriving DecidableEq, Repr

/-- A DATA or ACK frame as a port queues it (R482). -/
structure EFrame where
  ack     : Bool
  ackreq  : Bool
  /-- WRAP (R486). -/
  wrap    : Bool
  hops    : Nat
  src     : Nat
  dst     : Nat
  dring   : Nat
  cls     : Nat
  eseq    : Nat
  /-- STATUS of an ACK. -/
  status  : Nat
  payload : List Byte
  /-- A frame of a binding of this chip: the binding 16m + k, the index of its entry and the unit. -/
  own     : Option (Nat × Nat × Nat)
  deriving DecidableEq, Repr

/-- What a port puts on its line (R482, R485, R495). -/
inductive ELine
  | frame (f : EFrame)
  | sync
  | resp (t2 t3 : Nat)
  | brk (seg hops : Nat)
  | mend (seg hops : Nat)
  deriving DecidableEq, Repr

/-- An Echo port (R482, R487, R488, R495): its waiting frames, oldest first; the class last lent a slot; the slot of its
frame of 16; the LSEQ last sent and last accepted; the exchange in progress, as t1 in 1/256 ns and the tick of the SYNC; the
tick of the last SYNC; and the last frame put on the line with its LSEQ. -/
structure EPort where
  queue : List EFrame
  lend  : Nat
  slot  : Nat
  txSeq : BitVec 16
  rxSeq : Option (BitVec 16)
  tt    : Option (Nat × Nat)
  ttAt  : Option Nat
  line  : Option (BitVec 16 × ELine)
  deriving DecidableEq, Repr

/-- One destination of a send (R492): its number, its node, its port, and the tick at which its ACK is overdue once the frame
has gone. -/
structure EUnit where
  unit : Nat
  node : Nat
  port : Nat
  due  : Option Nat
  deriving DecidableEq, Repr

/-- A send in progress (R489 to R492): its binding, its entry's index, the ECHO_SEND event it ends (slot and order), its
units, and its outcome once decided. -/
structure ESend where
  bind   : Nat
  ring   : Nat
  eseq   : Nat
  ackreq : Bool
  event  : Option (Nat × Nat)
  multi  : Multi
  units  : List EUnit
  result : Option (Nat × Nat)
  deriving DecidableEq, Repr

/-- The Echo ports and the sends of their bindings, in order of sending. -/
structure Echo where
  port  : Vector EPort 4
  sends : List ESend
  deriving DecidableEq, Repr

/-- An Ethernet MAC (R500): the slot of its 16, the queue last lent one, the pause in force (its first tick and its length in
ns) and the last frame sent. -/
structure EMac where
  slot  : Nat
  lend  : Nat
  pause : Option (Nat × Nat)
  line  : List Byte
  deriving DecidableEq, Repr

/-! ## CAN and serial ports (16_can_and_serial.md) -/

/-- The frame a CAN controller sends (R515, R517): its buffer, whether an ABORT has marked it, and TIME[31:0] at its SOF. -/
structure CanTx where
  buf   : Fin 3
  abort : Bool
  sof   : Word
  deriving DecidableEq, Repr

/-- A CAN controller: the frame on the bus, and whether firmware has begun a bus-off recovery (R518). -/
structure CanCtl where
  bus     : Option CanTx
  recover : Bool
  deriving DecidableEq, Repr

/-- An SPI controller (R521 to R523): its FIFOs, oldest first, the level of CS (true: low), the last word sent; and as a
target, frames completed modulo 64, the words last returned to the controller, the status byte last sent, and what the frame in progress has
done: whether it wrote, and whether a partial word stands. -/
structure SpiCtl where
  tx      : List Word
  rx      : List Word
  csLow   : Bool
  sent    : Word
  frames  : Nat
  reply   : List Word
  status  : Byte
  wrote   : Bool
  partl   : Bool
  deriving DecidableEq, Repr

/-- The XSPI controller (R525): the word of the operation in progress, the data FIFO. -/
structure XspiCtl where
  cmd  : Option Word
  fifo : List Word
  deriving DecidableEq, Repr

/-- A UART (R526): the bytes that wait, and the characters received as UART_RXD shows them. -/
structure UartCtl where
  tx : List Byte
  rx : List Word
  deriving DecidableEq, Repr

/-- An I2C controller (R527): the command in progress, and whether it holds the bus. -/
structure I2cCtl where
  cmd  : Option Word
  held : Bool
  deriving DecidableEq, Repr

/-- Where a request of an AVSBus port stands (R533): a frame is on the bus, the frame is to be sent again, or Status is to be
read, at the times given. -/
inductive AvsStage
  | frame (status : Bool)
  | resend (at_ : Nat)
  | poll (at_ : Nat)
  deriving DecidableEq, Repr

/-- A request of an AVSBus port: operation, voltage, the start of its first frame, frames sent again for an acknowledge of
0b01, whether one was sent again for 0b10, whether the power-state sequencer made it, and its stage. Times are in 1/16 ns of
the always-on count. -/
structure AvsReq where
  op      : Nat
  mv      : Nat
  since   : Nat
  resends : Nat
  again   : Bool
  seq     : Bool
  stage   : AvsStage
  deriving DecidableEq, Repr

/-- An AVSBus port: its request, and the outcome and data of the sequencer's last request. -/
structure AvsCtl where
  req    : Option AvsReq
  seqRes : Option (Nat × Nat)
  deriving DecidableEq, Repr

/-! ## Thermal management (17_thermal.md) -/

/-- A threshold of the die temperature (R537): reached, and the consecutive rounds that speak for a change. -/
structure Thr where
  on  : Bool
  run : Nat
  deriving DecidableEq, Repr

/-- Die thermal management beside its registers. -/
structure Therm where
  /-- Consecutive rounds in which a sensor has disagreed (R536). -/
  dis   : Vector Nat 24
  /-- TWARN, TSTOP, 155 °C and TRIM1 to TRIM7. -/
  thr   : Vector Thr 10
  /-- Consecutive windows under budget, and at L = 3 over it (R544). -/
  under : Nat
  overs  : Nat
  /-- The Grotto's sensors (R542): consecutive frames at 155 °C of each, and in disagreement. -/
  gov   : Vector Nat 2
  gdis  : Nat
  deriving DecidableEq, Repr

/-- A gate output over the window of a Lantern step (R546): on-time in fabric ticks, turn-on edges, and its level. -/
structure LanIn where
  ton   : Nat
  edges : Nat
  last  : Bool
  deriving DecidableEq, Repr

/-- A Lantern beside its registers (R549, R550): the Foster terms in 2⁻³² K by 16 × leg + 4 × device + k (devices SH, DH, SL,
DL); the last fresh Tref by leg; the window of each output by 2 × leg, low + 1. -/
structure Lantern where
  theta : SMap Int
  tref  : SMap Int
  win   : SMap LanIn
  deriving DecidableEq, Repr

/-! ## Power states (18_power_states.md) -/

/-- Where the device stands among the states of R555 and on the way between them. `target`: 1 DOZE, 2 PARK, 3 KEEP. `since`
is in 1/16 ns of the always-on count. -/
inductive PwrPhase
  | run
  /-- A request waits for quiescence (R562; R567, step 2). -/
  | quiesce (target since : Nat)
  | doze
  /-- A2 passed and the clock trees stopped: posted writes drain (R567, step 4). -/
  | drain (target since : Nat)
  /-- A3 passed: the Grotto's confirmation is awaited (R567, step 6). -/
  | confirm (target since : Nat)
  /-- A4 passed: wake detection passes over (R569). -/
  | handover (target since : Nat)
  /-- Committed; the request of 550 mV is in progress (R567, step 10). -/
  | entering (target : Nat)
  | asleep (target : Nat)
  /-- A wake in its step 2 (regulator), 4 (PLL) or 5 (restore) of R571. -/
  | wake (target step since : Nat)
  /-- A wake failed; the next attempt begins 100 ms after `since` (R572). -/
  | retry (target since : Nat)
  deriving DecidableEq, Repr

/-- A wake comparator (R564, R565): its accepted output, consecutive samples that disagree with it. -/
structure Wcmp where
  out   : Bool
  agree : Nat
  deriving DecidableEq, Repr

/-- The power sequencer beside its registers. -/
structure Power where
  phase : PwrPhase
  /-- An exit request from DOZE has come while its request is in progress (R563). -/
  exitReq : Bool
  /-- The running voltage in mV, read at A4 (R571). -/
  vrun  : Nat
  /-- The Grotto's microsecond until which it holds its consent line for PARK and KEEP (R560). -/
  consentP : Option Nat
  consentK : Option Nat
  wcmp  : Vector Wcmp 8
  deriving DecidableEq, Repr

/-! ## Reset, boot, self-test, Drip and the debug port (19_reset_boot_selftest.md, 20_balls_and_package.md) -/

/-- Where the start-up sequence stands (R578, R588). Times are in 1/16 ns of the always-on count. -/
inductive StartUp
  /-- COLH runs, or waits for the debug port: the sequence is over. -/
  | up
  /-- The internal reset of scope 3 power-on, 2 cold, 1 warm lasts; its last cause came at `since`. -/
  | held (scope since : Nat)
  /-- The self-test has completed `waves` waves; step 4 began at `since`. -/
  | test (waves since : Nat)
  /-- The self-test is done and COLH is in the boot ROM. -/
  | rom
  deriving DecidableEq, Repr

/-- A Drip lane (R592, R593): the fabric tick at which its last slice started, and that at which its pass began. -/
structure DripLane where
  at_  : Option Nat
  from_ : Nat
  deriving DecidableEq, Repr

/-- A debug response that is being verified (R586): LEVEL, KSLOT and the nonce, if one was valid at SUBMIT. -/
structure DbgSub where
  level : Nat
  kslot : Bool
  nonce : Option (BitVec 256)
  deriving DecidableEq, Repr

/-- The instructions of the TAP (R613). -/
inductive TapIr
  | extest | idcode | sample | clamp | highz | pulse | train | debug | bypass
  deriving DecidableEq, Repr

/-- The test access port (R611 to R616). -/
structure Tap1149 where
  /-- TESTEN as sampled at the release of PORST# (R612). -/
  testen : Bool
  /-- The instruction in force. -/
  ir     : TapIr
  /-- The update cells of the boundary-scan register (R615). -/
  upd    : BitVec 1254
  /-- What the selected register captured. -/
  dr     : BitVec 1254
  /-- The outcome of the last DBGACC access: status and read data (R616). -/
  acc    : Option (Nat × Word)
  deriving DecidableEq, Repr

/-- Reset, boot and test beside their registers. -/
structure Boot where
  start  : StartUp
  /-- The always-on count at which COLH halted or stopped (R579). -/
  colhAt : Option Nat
  /-- A fresh nonce has been asked for (R586). -/
  want   : Bool
  sub    : Option DbgSub
  drip   : Vector DripLane 6
  tap    : Tap1149
  deriving DecidableEq, Repr

/-! ## The whole state -/

/-- The state of the device. -/
structure State where
  /-- The commands that wait, first in, first out. -/
  pending : List Instr
  /-- The addressed memories, one byte per listed address (Host.Cell): addresses rising, no listed byte 0. Fabric byte
  addresses as R19 and R22 give them; a column's private TCM stands at `tcmKey`, the Grotto's SRAM at `grottoKey`. -/
  mem     : List Host.Cell
  /-- ECC words in error, by the address of the word: 1 a single-bit error, 2 an uncorrectable one (R36). -/
  ecc     : SMap (BitVec 2)
  /-- Corrected errors counted (R36). -/
  eccCount : Nat
  /-- The registers of the memory map, by address (an agent's own copy lies 2³² × (agent ID + 1) higher). A register that is
  not listed holds its reset value. -/
  regs    : SMap Word
  /-- Fabric ticks; the count pauses in PARK and KEEP. At the end of a fabric reset it stands at a multiple of 1,280, where every
  grid of R29, R74 and R94 begins. -/
  tick    : Nat
  /-- Cell cycles and column cycles since the last fabric reset: the ticks with the clock trees running, and the column cycles in
  them (R464, R544, R562). -/
  cellTick : Nat
  colTick : Nat
  /-- How many free values the run has used (the model's own field). -/
  freeCtr : Nat
  /-- The fabric error log, head first, at most 16 entries (R38). -/
  fabLog  : List ErrEntry
  /-- Error reports on their way up (R35). -/
  reports : List Report
  /-- Owner chambers (R26, R468) by kind × 2¹⁶ + index; an unlisted unit belongs to chamber 0, 16 means unowned. -/
  owner   : SMap Nat
  /-- Owners of crossbar slots that a change does not reach before the next round of their table (R468). -/
  slotOld : SMap Nat
  time    : TimeUnit
  trk     : Vector Tracker 8
  /-- The fabric tick of the last update of the trackers (R74). -/
  trkAt   : Option Nat
  phys    : Vector Phys 128
  lcell   : Vector LCell 128
  block   : Vector Block 16
  sproc   : Vector SProc 6
  abort   : Option AbortWork
  /-- FAB_ABORT_RES decided and not read (source 0x39, R454). -/
  abortIrq : Bool
  gal     : Gallery
  axis    : Vector AxisU 8
  bridge  : Vector Bridge 16
  grp     : Vector PGroup 32
  gdl     : Vector Gdl 48
  adc     : Vector Adc 16
  dsm     : Vector Dsm 32
  /-- The fabric tick at which each settling comparator has settled (R337). -/
  settle  : Vector (Option Nat) 64
  sump    : Vector Sump 4
  pos     : Vector Pos 16
  grt     : Grotto
  txr     : SMap TxRing
  echo    : Echo
  eth     : Vector EMac 4
  /-- Time since power-on in 1/16 ns, by the fabric clock or the reference: the count of the always-on units. -/
  aon     : Nat
  can     : Vector CanCtl 8
  spi     : Vector SpiCtl 4
  xspi    : XspiCtl
  uart    : Vector UartCtl 2
  i2c     : Vector I2cCtl 2
  /-- The firing tick at which a pulsed pin is cleared (R530). -/
  pulse   : SMap Nat
  avs     : Vector AvsCtl 2
  therm   : Therm
  lan     : Vector Lantern 4
  power   : Power
  boot    : Boot
  deriving DecidableEq, Repr

/-- Registers after a start or reset (R127, R477). -/
def coreReset (st : Word) : Core :=
  { r := Vector.replicate 32 0, fr := Vector.replicate 16 0, acc := Vector.replicate 4 0, p := 0,
    lc := Vector.replicate 2 0, ls := Vector.replicate 2 0, le := Vector.replicate 2 0, lord := false, prog := 0,
    st := st, ev := 0, gb := 0, pc := 0, xepc := 0, xst := 0, xcause := 0, xtval := 0, xvec := 0 }

/-- A physical cell after reset: IDLE, registers cleared, st with SATEN = 1. -/
def physReset : Phys :=
  { core := coreReset 0x200, fifo := [], wbuf := [], latch := none, stage := none, wait := .run, refusal := none,
    fenceE := false, trapAt := none }

/-- A logical cell after reset. -/
def lcellReset : LCell :=
  { work := .none, twin := none, kickAt := 0, ckAt := 0, cyc := 0, cycAt := 0, clMig := false, clCold := false,
    clGen := 0xFF, gsin := 0, pmc := Vector.replicate 4 0, pmsel := Vector.replicate 4 0, pmstat := 0, pmPend := 0,
    xvecSh := 0, dwell := 0, mapDirty := false, gsFirst := false }

/-- A column after reset: supervisor mode, SATEN = 1 (R451, R477). -/
def sprocReset : SProc :=
  { core := coreReset 0x80000200, csr := [], wait := .run, lines := Vector.replicate 16 none, swi := 0, refusal := none,
    fenceE := false, dcache := [], icache := [], kickAt := 0, inReset := false, restart := false, cycAt := 0 }

/-- The TIME block after a power-on reset (R55). -/
def timeReset : TimeUnit :=
  { now := 0, inc := 0x190000000, slew := 0, stepTarget := none, stepTick := none, first := true, sinceTicks := 0,
    inLock := 0, outLock := 0, lastAbs := [], everLocked := false, holdErr := 0, holdFrom := 0, rateFrom := 0 }

/-- A tracker source after reset. -/
def srcReset : SrcState :=
  { overs := 0, under := 0, obsAge := 0, badIface := false, badObs := false, badErr := false }

/-- A tracker after reset. -/
def trackerReset : Tracker :=
  { a := 0, w := 0, c := 0, src := Vector.replicate 2 srcReset, coasts := 0, goods := 0 }

/-- The Gallery after a fabric reset (R125). -/
def galleryReset : Gallery :=
  { events := [], waiting := [], served := 15, order := 0, tags := [],
    eng := Vector.replicate 4 { lend := 15, retry := 15, slotUsed := none, retryUsed := none }, notify := [],
    loadall := [] }

/-- The units of an axis after reset. -/
def axisReset : AxisU :=
  { dI := 0, vfresh := false, vAge := 0, vf := 0, wait := 0, fin := 0, first := true, prev := 0, rem := 0, hist := [],
    lost := false, apply := false, excl := 0, readm := 0, frozen := false,
    opp := { pat := { start := false, angles := [] }, e := 0, cursor := 0, gate := 96, prev := 0, cmd := none, stop := none },
    ssx := { since := 0, com := 0, zc := 0, sched := none, seen := false, ti := 0, good := 0, miss := 0, ratio := 0,
             obs := 0, coms := 0, trans := [] } }
/-- A gate output after reset: off. -/
def poutReset : POut :=
  { src := false, req := false, chgAt := none, held := [], queue := [], inp := false, out := false, offAt := none,
    onAt := none, gate := false, gateOff := none, gateOn := none }

/-- A bridge after reset: the safe pattern is that of STO until a parameter set assigns the bridges (R396, R418). -/
def bridgeReset : Bridge :=
  { outs := Vector.replicate 6 poutReset,
    act := { bmode := 0, duty := Vector.replicate 3 0, tab := Vector.replicate 12 0 },
    ref := Vector.replicate 3 false, tOn := Vector.replicate 3 0, tOff := Vector.replicate 3 0, done := 0,
    shoot := Vector.replicate 3 false, trip := false, ssdAt := none, safe := some 0, released := false, pads := 0, pol := 0 }

/-- A PWM group after reset. -/
def pgroupReset : PGroup :=
  { armed := false, lateAt := none, bnd := 0, mid := false, gper := 0x6400, reqs := [], late := [], snap := none,
    abort := false, mig := none }

/-- A gate-driver link after reset: DOWN. -/
def gdlReset : Gdl :=
  { seq := 0, busy := none, cmd := none, auto := [], poll := none, pollAt := 0, fails := 0, okAt := 0, initAt := 0,
    telAt := Vector.replicate 8 none, named := 0 }

/-- A converter after reset. -/
def adcReset : Adc :=
  { queue := [], ends := 0, land := [], scans := 0, refAt := 0, overAt := Vector.replicate 6 none, last := none,
    latS := Vector.replicate 6 0, latU := Vector.replicate 6 0 }

/-- A delta-sigma input after reset. -/
def dsmReset : Dsm :=
  { i1 := 0, i2 := 0, i3 := 0, z1 := 0, z2 := 0, z3 := 0, n := 0, k := 0, cnt := 0, sync := false, bit := false, run := 0 }
/-- A Sump after reset. -/
def sumpReset : Sump :=
  { chopAt := none, epAt := 0, lowAt := none, disAt := 0, pulseAt := 0, used := false }
/-- A position interface after reset. -/
def posReset : Pos :=
  { ang := none, lo := 0, hi := 0, bad := 0, conds := 0, a := false, b := false, z := false, quad := 0, zarm := false,
    v0 := none, v1 := none, sect := none, frame := none, ended := none, began := none, ssi := none, fresh := false, acc := 0,
    dirAt := none, stepAt := none, outA := false, outB := false, armed := false, idx := 0, lap := 0, po0 := false,
    po1 := false, end0 := none, end1 := none }
/-- A Grotto axis after the Grotto's reset. -/
def gaxisReset : GAxis :=
  { mbSto := false, mbSs1 := false, hbSs1 := false, vioSs1 := false, vioSto := false, stoUp := false,
    ss1Up := false, ss1 := none, n := 0, nsen := 0, fell := none, lowAt := none, restAt := none, slsN := 0, slsAt := 0, slsOld := 0, sdiP := none,
    sdiN := none, env := none, vio := 0, reqd := false }

/-- A pair after the Grotto's reset: DEMAND (R429). -/
def pairReset : Pair :=
  { lvA := none, lvB := none, disAt := none, tpA := 0, tpB := 0, offAt := none, own := 0,
    okAt := 0, rel := false }

/-- The Grotto after its reset (R418). -/
def grottoReset : Grotto :=
  { clk := 0, mail := Vector.replicate 5 { req := none, ans := none, irq := false },
    tap := Vector.replicate 16 { pos := none, refd := false, pz := false, fault := false, hist := [] },
    axis := Vector.replicate 8 gaxisReset, pair := Vector.replicate 16 pairReset,
    xl := Vector.replicate 4 { lost := false, run := 0, lastAt := 0, sto := 0, ss1 := 0, sls := 0, out := 0, txSeq := 0, sent := [] },
    beats := [], param := [], cfg := none, record := none, dirty := false, open_ := [], causes := [],
    ov2 := 0, genA := 0, genB := 0, genAt := 0, tested := false, bootOk := false, coreWin := none }
/-- The Echo ports after a fabric reset (R503). -/
def echoReset : Echo :=
  { port := Vector.replicate 4 { queue := [], lend := 15, slot := 0, txSeq := 0, rxSeq := none, tt := none, ttAt := none, line := none },
    sends := [] }

/-- A MAC after a fabric reset. -/
def emacReset : EMac := { slot := 0, lend := 7, pause := none, line := [] }

/-- Ports of chapter 16 after a fabric reset. -/
def canReset : CanCtl := { bus := none, recover := false }
/-- An SPI controller after a fabric reset. -/
def spiReset : SpiCtl :=
  { tx := [], rx := [], csLow := false, sent := 0, frames := 0, reply := [], status := 0, wrote := false, partl := false }
/-- The XSPI controller after a fabric reset. -/
def xspiReset : XspiCtl := { cmd := none, fifo := [] }
/-- A UART after a fabric reset. -/
def uartReset : UartCtl := { tx := [], rx := [] }
/-- An I2C controller after a fabric reset. -/
def i2cReset : I2cCtl := { cmd := none, held := false }
/-- An AVSBus port after a power-on reset. -/
def avsReset : AvsCtl := { req := none, seqRes := none }

/-- Die thermal management after a fabric reset. -/
def thermReset : Therm :=
  { dis := Vector.replicate 24 0, thr := Vector.replicate 10 { on := false, run := 0 }, under := 0, overs := 0,
    gov := Vector.replicate 2 0, gdis := 0 }
/-- A Lantern after a fabric reset. -/
def lanternReset : Lantern := { theta := [], tref := [], win := [] }

/-- The power sequencer after a power-on reset. -/
def powerReset : Power :=
  { phase := .run, exitReq := false, vrun := 0, consentP := none, consentK := none,
    wcmp := Vector.replicate 8 { out := false, agree := 0 } }

/-- Reset, boot and test while a power-on reset lasts. -/
def bootReset : Boot :=
  { start := .held 3 0, colhAt := none, want := false, sub := none,
    drip := Vector.replicate 6 { at_ := none, from_ := 0 },
    tap := { testen := false, ir := .idcode, upd := 0, dr := 0, acc := none } }

/-- The machine right after a power-on reset. -/
def State.reset : State :=
  { pending := [], mem := [], ecc := [], eccCount := 0, regs := [], tick := 0, cellTick := 0, colTick := 0, freeCtr := 0, fabLog := [], reports := [], owner := [], slotOld := [], time := timeReset, trk := Vector.replicate 8 trackerReset, trkAt := none,
    phys := Vector.replicate 128 physReset, lcell := Vector.replicate 128 lcellReset,
    block := Vector.replicate 16 { gain := [], flow := [] }, sproc := (Vector.replicate 6 { sprocReset with inReset := true }).set 5 sprocReset, abort := none,
    abortIrq := false
    , gal := galleryReset
    , axis := Vector.replicate 8 axisReset
    , bridge := Vector.replicate 16 bridgeReset, grp := Vector.replicate 32 pgroupReset,
      gdl := Vector.replicate 48 gdlReset
    , adc := Vector.replicate 16 adcReset, dsm := Vector.replicate 32 dsmReset
    , settle := Vector.replicate 64 none, sump := Vector.replicate 4 sumpReset
    , pos := Vector.replicate 16 posReset
    , grt := grottoReset
    , txr := [], echo := echoReset, eth := Vector.replicate 4 emacReset
    , aon := 0, can := Vector.replicate 8 canReset, spi := Vector.replicate 4 spiReset, xspi := xspiReset,
    uart := Vector.replicate 2 uartReset, i2c := Vector.replicate 2 i2cReset, pulse := [], avs := Vector.replicate 2 avsReset
    , therm := thermReset, lan := Vector.replicate 4 lanternReset
    , power := powerReset
    , boot := bootReset
  }

end Sys2Proof.Machine
end

