-- ==== Sys2Proof/Machine/Store.lean ====
section
/-! DEFINITION. The stores of the state: sparse tables, the memory in its canonical form, the register store and the
fields of a register; and the exact integer helpers of the spec's pseudocode. -/

namespace Sys2Proof.Machine

/-! ## Sparse tables -/

/-- The entry at `k`, or `d`. -/
def smGet {α : Type} (d : α) : SMap α → Nat → α
  | [], _ => d
  | (j, v) :: m, k => if j = k then v else smGet d m k

/-- The table with `v` at `k`, keys kept rising. -/
def smSet {α : Type} : SMap α → Nat → α → SMap α
  | [], k, v => [(k, v)]
  | (j, w) :: m, k, v =>
    if k < j then (k, v) :: (j, w) :: m
    else if j = k then (k, v) :: m
    else (j, w) :: smSet m k v

/-- The table without the entries whose keys satisfy `p`. -/
def smDrop {α : Type} (p : Nat → Bool) (m : SMap α) : SMap α := m.filter fun e => !p e.1

/-! ## Memory -/

/-- The byte at address `a`; an unlisted address reads 0. -/
def memGet (m : List Host.Cell) (a : Nat) : Byte := smGet 0 m a

/-- Memory with byte `v` at `a`, in the canonical form: addresses rising, no byte 0 listed. -/
def memPut : List Host.Cell → Nat → Byte → List Host.Cell
  | [], a, v => if v = 0 then [] else [(a, v)]
  | (j, w) :: m, a, v =>
    if a < j then (if v = 0 then (j, w) :: m else (a, v) :: (j, w) :: m)
    else if j = a then (if v = 0 then m else (a, v) :: m)
    else (j, w) :: memPut m a v

/-- The canonical form: addresses strictly rising and no listed byte 0. -/
def memWf : List Host.Cell → Bool
  | [] => true
  | [(_, v)] => v != 0
  | (a, v) :: (b, w) :: m => v != 0 && a < b && memWf ((b, w) :: m)

/-- The 16-bit word at `a`, little-endian (R5). -/
def memHalf (m : List Host.Cell) (a : Nat) : Half := memGet m (a + 1) ++ memGet m a

/-- The 32-bit word at `a`, little-endian (R5). -/
def memWord (m : List Host.Cell) (a : Nat) : Word := memHalf m (a + 2) ++ memHalf m a

/-- Memory with the 16-bit word `v` at `a`. -/
def memPutHalf (m : List Host.Cell) (a : Nat) (v : Half) : List Host.Cell :=
  memPut (memPut m a (v.extractLsb' 0 8)) (a + 1) (v.extractLsb' 8 8)

/-- Memory with the 32-bit word `v` at `a`. -/
def memPutWord (m : List Host.Cell) (a : Nat) (v : Word) : List Host.Cell :=
  memPutHalf (memPutHalf m a (v.extractLsb' 0 16)) (a + 2) (v.extractLsb' 16 16)

/-- Memory with the bytes `l` from `a` on. -/
def memPutList (m : List Host.Cell) (a : Nat) : List Byte → List Host.Cell
  | [] => m
  | b :: l => memPutList (memPut m a b) (a + 1) l

/-- The `n` bytes from `a` on. -/
def memList (m : List Host.Cell) (a : Nat) : Nat → List Byte
  | 0 => []
  | n + 1 => memGet m a :: memList m (a + 1) n

/-! ## Exact integers -/

/-- An n-bit pattern read as a signed integer (sext of the spec's notation). -/
def sx (n x : Nat) : Int := if x % 2 ^ n < 2 ^ (n - 1) then (x % 2 ^ n : Nat) else ((x % 2 ^ n : Nat) : Int) - 2 ^ n

/-- An integer as an n-bit pattern. -/
def pat (n : Nat) (x : Int) : Nat := (x % 2 ^ n).toNat

/-- wrap(x, n): x modulo 2ⁿ in the signed range. -/
def wrapS (n : Nat) (x : Int) : Int := sx n (pat n x)

/-- Clamp to a range. -/
def clampI (x lo hi : Int) : Int := if x < lo then lo else if hi < x then hi else x

/-- Saturate to n bits signed. -/
def satS (n : Nat) (x : Int) : Int := clampI x (-(2 ^ (n - 1))) (2 ^ (n - 1) - 1)

/-- x does not fit n bits signed. -/
def oflow (n : Nat) (x : Int) : Bool := x < -(2 ^ (n - 1)) || 2 ^ (n - 1) - 1 < x

/-- Bit i of a natural number. -/
def bitN (x i : Nat) : Bool := x / 2 ^ i % 2 == 1

/-- The natural number of a truth value. -/
def b2n (b : Bool) : Nat := if b then 1 else 0

/-- Saturating increment of an n-bit counter. -/
def incSat (n x k : Nat) : Nat := min (x + k) (2 ^ n - 1)

/-! ## Registers -/

/-- The bits of a field. -/
def Fld.get (F : Fld) (w : Word) : Nat := w.toNat / 2 ^ F.lo % 2 ^ (F.hi + 1 - F.lo)

/-- The bits of a field as a signed integer. -/
def Fld.gets (F : Fld) (w : Word) : Int := sx (F.hi + 1 - F.lo) (F.get w)

/-- A word with a field replaced. -/
def Fld.put (F : Fld) (w : Word) (v : Nat) : Word :=
  BitVec.ofNat 32 (w.toNat - F.get w * 2 ^ F.lo + v % 2 ^ (F.hi + 1 - F.lo) * 2 ^ F.lo)

/-- Field i of equal fields of width w from bit 0 up. -/
def fldAt (w i : Nat) : Fld := ⟨w * i + w - 1, w * i⟩

/-- How many registers the dimensions span. -/
def dimSize : List (Nat × Nat) → Nat
  | [] => 1
  | (n, _) :: l => n * dimSize l

/-- The byte offset of instance i. -/
def dimOff : List (Nat × Nat) → Nat → Nat
  | [], _ => 0
  | (_, st) :: l, i => i / dimSize l * st + dimOff l (i % dimSize l)

/-- The instance at a byte offset, if there is one. -/
def dimIdx : List (Nat × Nat) → Nat → Option Nat
  | [], o => if o = 0 then some 0 else none
  | (n, st) :: l, o =>
    if o / st < n then
      match dimIdx l (o % st) with
      | some k => some (o / st * dimSize l + k)
      | none => none
    else none

/-- Fabric byte address of instance i. -/
def RegFam.addr (f : RegFam) (i : Nat) : Nat := f.base + dimOff f.dims i

/-- Where the register store keeps instance i for agent `ag` (R40), or the one copy of a register that is not per agent. -/
def RegFam.key (f : RegFam) (ag i : Nat) : Nat := f.addr i + if f.perAgent then 2 ^ 32 * (ag + 1) else 0

/-- Register i of a family. -/
def State.reg (s : State) (f : RegFam) (i : Nat) : Word := smGet (f.reset i) s.regs (f.addr i)

/-- Register i of a per-agent family as agent `ag` has it. -/
def State.regA (s : State) (f : RegFam) (ag i : Nat) : Word := smGet (f.reset i) s.regs (f.key ag i)

/-- Hardware writes register i. -/
def State.setReg (s : State) (f : RegFam) (i : Nat) (v : Word) : State :=
  { s with regs := smSet s.regs (f.addr i) v }

/-- Hardware writes an agent's copy of register i. -/
def State.setRegA (s : State) (f : RegFam) (ag i : Nat) (v : Word) : State :=
  { s with regs := smSet s.regs (f.key ag i) v }

/-- A field of register i. -/
def State.fld (s : State) (f : RegFam) (i : Nat) (F : Fld) : Nat := F.get (s.reg f i)

/-- A field of register i as a signed integer. -/
def State.sfld (s : State) (f : RegFam) (i : Nat) (F : Fld) : Int := F.gets (s.reg f i)

/-- A one-bit field of register i. -/
def State.bit (s : State) (f : RegFam) (i : Nat) (F : Fld) : Bool := s.fld f i F == 1

/-- Hardware writes a field of register i. -/
def State.setFld (s : State) (f : RegFam) (i : Nat) (F : Fld) (v : Nat) : State :=
  s.setReg f i (F.put (s.reg f i) v)

/-- Hardware sets a one-bit field of register i. -/
def State.setBit (s : State) (f : RegFam) (i : Nat) (F : Fld) (b : Bool) : State := s.setFld f i F (b2n b)

/-- The family and instance at a fabric byte address. -/
def regAt (a : Nat) : List RegFam → Option (RegFam × Nat)
  | [] => none
  | f :: l =>
    if f.base ≤ a then
      match dimIdx f.dims (a - f.base) with
      | some i => some (f, i)
      | none => regAt a l
    else regAt a l

/-! ## Arrays of units -/

/-- Unit i. -/
def vget {α : Type} {n : Nat} (v : Vector α n) (i : Fin n) : α := v[i.val]

/-- The array with unit i replaced. -/
def vset {α : Type} {n : Nat} (v : Vector α n) (i : Fin n) (x : α) : Vector α n := v.set i.val x i.isLt

/-- Fold over the numbers below n, ascending. -/
def forN {α : Type} (n : Nat) (a : α) (f : Nat → α → α) : α := (List.range n).foldl (fun x i => f i x) a

/-! ## Free values -/

/-- A free value of the run. -/
def State.free (s : State) : BitVec 64 := Config.freeValue s.freeCtr

/-- The state after a free value has been used. -/
def State.used (s : State) : State := { s with freeCtr := s.freeCtr + 1 }

/-- The answer of a command that leaves state `s`. -/
def ok (s : State) : Host.Outcome State Fault Refusal := .next s

end Sys2Proof.Machine
end

