-- ==== Sys2Proof/Machine/SornasCore.lean ====
section
/-! DEFINITION. The register file of a Sornas processor: reading and writing registers, flags, guards, the program
counter with its hardware loops, trap entry, event entry and the return from both. -/

namespace Sys2Proof.Machine

/-- The two profiles of the instruction set. -/
inductive Profile
  | c | s
  deriving DecidableEq, Repr

/-- The profile of a processor. -/
def profileOf : Proc → Profile
  | .cell _ => .c
  | .col _ => .s
  | .grotto => .s

/-- The width W of an operation on data registers (R129). -/
def wordBits : Profile → Nat
  | .c => 16
  | .s => 32

/-- How many bits register field `n` names (R127, R129). -/
def regBits (pf : Profile) (n : Nat) : Nat :=
  match pf with
  | .c => if n < 16 then 16 else 20
  | .s => 32

/-- Field `n` names a data register of the profile (R129). -/
def isData (pf : Profile) (n : Nat) : Bool :=
  match pf with
  | .c => n < 16
  | .s => n < 32

/-- Field `n` names an address register of Sornas-C (R129). -/
def isAddr (pf : Profile) (n : Nat) : Bool :=
  match pf with
  | .c => 16 ≤ n && n < 24
  | .s => false

/-- A base or link register: an address register in Sornas-C, any g register in Sornas-S. -/
def isBase (pf : Profile) (n : Nat) : Bool :=
  match pf with
  | .c => 16 ≤ n && n < 24
  | .s => n < 32

/-- Register `n` as an unsigned number. -/
def Core.u (k : Core) (pf : Profile) (n : Nat) : Nat := k.r[n % 32]!.toNat % 2 ^ regBits pf n

/-- Register `n` as a signed number of its own width. -/
def Core.i (k : Core) (pf : Profile) (n : Nat) : Int := sx (regBits pf n) (k.u pf n)

/-- Register `n` written with the low bits of `x`. -/
def Core.wr (k : Core) (pf : Profile) (n : Nat) (x : Int) : Core :=
  { k with r := k.r.set! (n % 32) (BitVec.ofNat 32 (pat (regBits pf n) x)) }

/-- Accumulator `n` as a signed number (a40). -/
def Core.a (k : Core) (n : Nat) : Int := sx 40 k.acc[n % 4]!.toNat

/-- Accumulator `n` written. -/
def Core.wrA (k : Core) (n : Nat) (x : Int) : Core :=
  { k with acc := k.acc.set! (n % 4) (BitVec.ofNat 40 (pat 40 x)) }

/-- Predicate `n`; p0 always reads 1 (R127). -/
def Core.pred (k : Core) (n : Nat) : Bool := n % 4 == 0 || bitN k.p.toNat (n % 4)

/-- Predicate `n` written; a write to p0 is discarded (R127). -/
def Core.wrP (k : Core) (n : Nat) (b : Bool) : Core :=
  if n % 4 = 0 then k
  else { k with p := if b then k.p ||| (1#4 <<< (n % 4)) else k.p &&& ~~~(1#4 <<< (n % 4)) }

/-- Bit `i` of the status register. -/
def Core.stb (k : Core) (i : Nat) : Bool := bitN k.st.toNat i

/-- The status register with bit `i` written. -/
def Core.setStb (k : Core) (i : Nat) (b : Bool) : Core :=
  { k with st := if b then k.st ||| (1#32 <<< i) else k.st &&& ~~~(1#32 <<< i) }

/-- st.RND (R134). -/
def Core.rndBit (k : Core) : Bool := k.stb 8
/-- st.SATEN (R134). -/
def Core.satEn (k : Core) : Bool := k.stb 9

/-- The guard of an instruction (R131): `none` where the encoding is ILLEGAL. -/
def Core.guard (k : Core) (gd : BitVec 3) : Option Bool :=
  if gd = 4#3 then none
  else some (k.pred (gd.toNat % 4) != bitN gd.toNat 2)

/-- Program-counter arithmetic: modulo 4,096 instructions in Sornas-C, 32-bit bytes in Sornas-S (R155). -/
def pcAdd (pf : Profile) (pc : Word) (n : Int) : Word :=
  match pf with
  | .c => BitVec.ofNat 32 (pat 12 (pc.toNat + n))
  | .s => BitVec.ofNat 32 (pat 32 (pc.toNat + 4 * n))

/-- The loop-end test of R156 for loop `n` after an instruction at `pc` has completed: the core, and whether it branched
back. -/
def Core.loopEnd (k : Core) (n : Nat) : Core × Bool :=
  if k.lc[n % 2]! != 0 && k.le[n % 2]! == k.pc then
    if k.lc[n % 2]!.toNat > 1 then
      ({ k with lc := k.lc.set! (n % 2) (k.lc[n % 2]! - 1), pc := k.ls[n % 2]! }, true)
    else ({ k with lc := k.lc.set! (n % 2) 0 }, false)
  else (k, false)

/-- The program counter moves past a completed instruction: the loop started later is tested first, then the other
(R156, R157). -/
def Core.advance (k : Core) (pf : Profile) : Core :=
  let later := if k.lord then 1 else 0
  let (k1, b1) := k.loopEnd later
  if b1 then k1
  else
    let (k2, b2) := k1.loopEnd (1 - later)
    if b2 then k2 else { k2 with pc := pcAdd pf k2.pc 1 }

/-- A taken BR or plain JR to `t` ends every loop whose body it leaves (R157). -/
def Core.leave (k : Core) (t : Word) : Core :=
  (List.range 2).foldl (fun k n =>
    if k.ls[n]!.toNat ≤ t.toNat && t.toNat ≤ k.le[n]!.toNat then k else { k with lc := k.lc.set! n 0 }) k

/-- The instruction at `pc` stands at the last position of an active loop's body (R157). -/
def Core.atLoopEnd (k : Core) : Bool :=
  (List.range 2).any fun n => k.lc[n]! != 0 && k.le[n]! == k.pc

/-- The causes of a trap (R166) with their XTVAL. -/
inductive Trap
  | illegal | access (status : Nat) (addr : Nat) | posted (status addr : Nat) | trap (code : Nat) | brk | priv
  deriving DecidableEq, Repr

/-- XCAUSE of a trap (R166). -/
def Trap.cause : Trap → Word
  | .illegal => 1
  | .access st _ => BitVec.ofNat 32 (st * 256 + 2)
  | .posted st _ => BitVec.ofNat 32 (st * 256 + 3)
  | .trap _ => 4
  | .brk => 5
  | .priv => 6

/-- XTVAL of a trap raised by the instruction word `w` (R166): 20 bits in Sornas-C. -/
def Trap.tval (pf : Profile) (w : Word) : Trap → Word
  | .illegal | .priv =>
    match pf with
    | .c => BitVec.ofNat 32 (w.toNat / 2 ^ 26 * 256 + w.toNat % 256)
    | .s => w
  | .access _ a | .posted _ a => BitVec.ofNat 32 (a % 2 ^ (match pf with | .c => 20 | .s => 32))
  | .trap c => BitVec.ofNat 32 c
  | .brk => 0

/-- XEPC of a trap (R166): the instruction after a TRAP, otherwise the instruction at `pc`. -/
def Trap.epc (pf : Profile) (pc : Word) : Trap → Word
  | .trap _ => pcAdd pf pc 1
  | _ => pc

/-- TAKING A TRAP: the one shared operation of both profiles (R168, R456). The saved registers, the status and the
program counter change in one step. -/
def Core.takeTrap (k : Core) (pf : Profile) (cvec : Word) (w : Word) (t : Trap) : Core :=
  match pf with
  | .c =>
    let k' := { k with xepc := t.epc pf k.pc, xtval := t.tval pf w, xcause := t.cause, xst := k.st &&& 0xFFFF }
    { (k'.setStb 13 true).setStb 15 false with pc := BitVec.ofNat 32 ((k.xvec.toNat + 64) % 2 ^ 12) }
  | .s =>
    let k' := { k with xepc := t.epc pf k.pc, xtval := t.tval pf w, xcause := t.cause, xst := k.st }
    { ((k'.setStb 31 true).setStb 15 false).setStb 13 true with pc := cvec + 0x80 }

/-- A cell takes an event (R169). -/
def Core.takeEvent (k : Core) (vec : Nat) (payload : Half) : Core :=
  let k' := { k with ev := payload, xepc := k.pc, xst := k.st &&& 0xFFFF, xcause := BitVec.ofNat 32 (0x10 + vec % 16) }
  { (k'.setStb 14 true).setStb 15 false with pc := BitVec.ofNat 32 ((k.xvec.toNat + 4 * (vec % 16)) % 2 ^ 12) }

/-- A column takes interrupt `cause` at level `lvl` (R456). -/
def Core.takeInterrupt (k : Core) (cvec : Word) (cause : Nat) (tval : Word) (lvl : Nat) : Core :=
  let k' := { k with xepc := k.pc, xtval := tval, xcause := BitVec.ofNat 32 cause, xst := k.st }
  let k2 := ((k'.setStb 31 true).setStb 15 false).setStb 14 true
  { k2 with st := Fld.put ⟨30, 28⟩ k2.st lvl, pc := cvec + BitVec.ofNat 32 (4 * (cause - 0x20)) }

/-- RETURN FROM A TRAP OR AN EVENT (R170): the saved status, with SAT kept sticky, and the saved program counter. -/
def Core.eret (k : Core) (pf : Profile) : Core :=
  let sat := bitN k.xst.toNat 4 || k.stb 4
  let k' := { k with st := match pf with | .c => k.xst &&& 0xE31F | .s => k.xst &&& 0xF000E31F }
  { k'.setStb 4 sat with pc := match pf with | .c => k.xepc &&& 0xFFF | .s => k.xepc }

end Sys2Proof.Machine
end

