-- ==== Sys2Proof/Machine/Flags.lean ====
section
/-! DEFINITION. The flag computations and the arithmetic helpers of Sornas (R134, R136): saturation, rounding, carries. -/

namespace Sys2Proof.Machine

/-- Z and N from an n-bit result (R136). -/
def Core.zn (k : Core) (n : Nat) (x : Int) : Core :=
  (k.setStb 0 (pat n x == 0)).setStb 1 (bitN (pat n x) (n - 1))

/-- Z from an n-bit result. -/
def Core.zf (k : Core) (n : Nat) (x : Int) : Core := k.setStb 0 (pat n x == 0)

/-- The flag V. -/
def Core.vf (k : Core) (b : Bool) : Core := k.setStb 3 b

/-- The flag C. -/
def Core.cf (k : Core) (b : Bool) : Core := k.setStb 2 b

/-- satW(x, n) of R134: the core with V and, where saturation acts, SAT; and the result. -/
def Core.sat (k : Core) (n : Nat) (x : Int) : Core × Int :=
  if oflow n x then
    if k.satEn then ((k.vf true).setStb 4 true, if 0 < x then 2 ^ (n - 1) - 1 else -(2 ^ (n - 1)))
    else (k.vf true, wrapS n x)
  else (k.vf false, x)

/-- rnd(x, j) of R134. -/
def Core.rnd (k : Core) (x : Int) (j : Nat) : Int :=
  if j = 0 then x
  else if k.rndBit then (x + 2 ^ (j - 1)) / 2 ^ j
  else x / 2 ^ j

/-- Carry out of an n-bit addition. -/
def carryAdd (n : Nat) (x y : Int) : Bool := 2 ^ n ≤ pat n x + pat n y

/-- Borrow of an n-bit subtraction. -/
def borrowSub (n : Nat) (x y : Int) : Bool := pat n x < pat n y

/-- The last bit shifted out to the left, 0 for no shift (R137). -/
def shlOut (n : Nat) (x : Int) (s : Nat) : Bool := s != 0 && s ≤ n && bitN (pat n x) (n - s)

/-- The last bit shifted out to the right, 0 for no shift (R137). -/
def shrOut (n : Nat) (x : Int) (s : Nat) : Bool := s != 0 && s ≤ n && bitN (pat n x) (s - 1)

/-- The last bit shifted out by an arithmetic shift to the right (R137): the sign for amounts beyond the width. -/
def sraOut (n : Nat) (x : Int) (s : Nat) : Bool :=
  s != 0 && (if s ≤ n then bitN (pat n x) (s - 1) else decide (x < 0))

/-- SHL of an n-bit value by `s` with ZNC. -/
def Core.shl (k : Core) (n : Nat) (x : Int) (s : Nat) : Core × Int :=
  let y : Int := if n ≤ s then 0 else wrapS n (x * 2 ^ s)
  ((k.zn n y).cf (shlOut n x s), y)

/-- Logical SHR with ZNC. -/
def Core.shr (k : Core) (n : Nat) (x : Int) (s : Nat) : Core × Int :=
  let y : Int := if n ≤ s then 0 else ((pat n x / 2 ^ s : Nat) : Int)
  ((k.zn n y).cf (shrOut n x s), y)

/-- SRA with ZNC. -/
def Core.sra (k : Core) (n : Nat) (x : Int) (s : Nat) : Core × Int :=
  let y : Int := x / 2 ^ min s n
  ((k.zn n y).cf (sraOut n x s), y)

/-- SHLS with ZNV. -/
def Core.shls (k : Core) (n : Nat) (x : Int) (s : Nat) : Core × Int :=
  let (k', y) := k.sat n (x * 2 ^ min s n)
  (k'.zn n y, y)

/-- ROR with ZN. -/
def Core.ror (k : Core) (n : Nat) (x : Int) (s : Nat) : Core × Int :=
  let m := s % n
  let u := pat n x
  let y : Int := ((u / 2 ^ m + u % 2 ^ m * 2 ^ (n - m)) % 2 ^ n : Nat)
  (k.zn n y, y)

/-- Leading bits of an n-bit value that satisfy `p`, from bit n − 1 down. -/
def leadCount (p : Bool → Bool) (x : Nat) : Nat → Nat
  | 0 => 0
  | n + 1 => if p (bitN x n) then 1 + leadCount p x n else 0

end Sys2Proof.Machine
end

