-- ==== Sys2Proof/Machine/Operands.lean ====
section
/-! DEFINITION. The operand forms of Sornas: data and address registers, pairs, quads, halves, immediates, and which
fields an operation admits (R129, R141, R174). -/

namespace Sys2Proof.Machine

/-- Every field names a data register (R129). -/
def allData (pf : Profile) (l : List (BitVec 5)) : Bool := l.all fun n => isData pf n.toNat

/-- Every field names a register of an operation that admits address registers (R141). -/
def allRegs (pf : Profile) (l : List (BitVec 5)) : Bool := l.all fun n => isData pf n.toNat || isAddr pf n.toNat

/-- Some field names an address register: the operation is done on 20 bits (R141). -/
def anyAddr (pf : Profile) (l : List (BitVec 5)) : Bool := l.any fun n => isAddr pf n.toNat

/-- A pair field (R129): an even data register in Sornas-C, any g register in Sornas-S. -/
def isPair (pf : Profile) (n : BitVec 5) : Bool :=
  match pf with
  | .c => isData .c n.toNat && n.toNat % 2 == 0
  | .s => true

/-- A quad field (R174). -/
def isQuad (n : BitVec 5) : Bool := isData .c n.toNat && n.toNat % 4 == 0

/-- The pair of f16 operands of a field: two registers in Sornas-C, the halves of one in Sornas-S (R129). -/
def Core.pair (k : Core) (pf : Profile) (n : BitVec 5) : Int × Int :=
  match pf with
  | .c => (k.i .c n.toNat, k.i .c (n.toNat + 1))
  | .s => (sx 16 (k.u .s n.toNat), sx 16 (k.u .s n.toNat / 2 ^ 16))

/-- Two f16 results written to a pair (R129, R203). -/
def Core.wrPair (k : Core) (pf : Profile) (n : BitVec 5) (x y : Int) : Core :=
  match pf with
  | .c => (k.wr .c n.toNat x).wr .c (n.toNat + 1) y
  | .s => k.wr .s n.toNat (pat 16 x + pat 16 y * 2 ^ 16 : Nat)

/-- A single f16 operand: a data register in Sornas-C, g[15:0] in Sornas-S. -/
def Core.f16 (k : Core) (n : BitVec 5) : Int := sx 16 (k.u .s n.toNat)

/-- An f32 operand: a Sornas-C pair, low half first, or a Sornas-S register (R135, R146). -/
def Core.f32 (k : Core) (pf : Profile) (n : BitVec 5) : Int :=
  match pf with
  | .c => sx 32 (k.u .c n.toNat + k.u .c (n.toNat + 1) * 2 ^ 16)
  | .s => k.i .s n.toNat

/-- An f32 result: a Sornas-C pair, low half first, or a Sornas-S register. -/
def Core.wrF32 (k : Core) (pf : Profile) (n : BitVec 5) (x : Int) : Core :=
  match pf with
  | .c => (k.wr .c n.toNat (pat 16 x : Nat)).wr .c (n.toNat + 1) (pat 32 x / 2 ^ 16 : Nat)
  | .s => k.wr .s n.toNat x

/-- A signed immediate. -/
def immS {n : Nat} (x : BitVec n) : Int := sx n x.toNat

/-- A two-source operation that admits address registers (R137, R141): on 20 bits without flags where one is named, and
on W bits by `f` otherwise. -/
def addrOrData (pf : Profile) (rd ra rb : BitVec 5) (adr : Int → Int → Int) (f : Core → Int → Int → Core × Int)
    (k : Core) : Core :=
  let x := k.i pf ra.toNat
  let y := k.i pf rb.toNat
  if anyAddr pf [rd, ra, rb] then k.wr pf rd.toNat (adr x y)
  else
    let (k', z) := f k x y
    k'.wr pf rd.toNat z

/-- A two-source operation on data registers. -/
def dataOp (pf : Profile) (rd ra rb : BitVec 5) (f : Core → Int → Int → Core × Int) (k : Core) : Core :=
  let (k', z) := f k (k.i pf ra.toNat) (k.i pf rb.toNat)
  k'.wr pf rd.toNat z

/-- A shift amount: bits [5:0] of the register (R137). -/
def shAmt (x : Int) : Nat := pat 6 x

end Sys2Proof.Machine
end

