-- ==== Sys2Proof/Machine/Ops.lean ====
section
/-! DEFINITION. The named operations of the whole device: TIME as others read it, agents and chambers, ownership and the
access rules of the memory map, the fabric error log, the memories with their ECC, the event FIFOs of the cells and trap
entry at the level of the state. -/

namespace Sys2Proof.Machine

/-! ## TIME -/

/-- TIME in ns (R54). -/
def State.ns (s : State) : Nat := s.time.now.toNat / 2 ^ 32

/-- TIME[31:0] in ns. -/
def State.nsLo (s : State) : Word := BitVec.ofNat 32 s.ns

/-- A 72-bit time stamp of the present: ns above 1/256 ns (R87). -/
def State.stamp (s : State) : Nat := s.time.now.toNat / 2 ^ 24

/-! ## Agents, chambers and ownership -/

/-- The agent ID of R40. -/
def agentId : Agent → Nat
  | .cell c => c.val
  | .col c => 0x80 + c.val
  | .engine e _ => 0x88 + e.val
  | .echoDma k _ => 0x90 + k.val
  | .ethDma k _ => 0x94 + k.val
  | .debug => 0x98
  | .drip => 0x99
  | .grotto => 0x9A
  | .blockCtl b => 0xA0 + b.val

/-- The owner chamber of a unit (R26, R468): kind and index; 16 means unowned. -/
def State.ownerOf (s : State) (kind idx : Nat) : Nat := smGet 0 s.owner (kind * 2 ^ 16 + idx)

/-- The column's current chamber (CURCH, R25). -/
def State.curCh (s : State) (c : Fin 5) : Nat := (smGet 0 (vget s.sproc (c.castLE (by decide))).csr 0x21).toNat % 16

/-- The chamber an agent's transactions carry (R25). -/
def chamberOf (s : State) : Agent → Nat
  | .cell c => s.ownerOf 0x01 c.val % 16
  | .col c => s.curCh c
  | .engine _ ch | .echoDma _ ch | .ethDma _ ch => ch.val
  | .debug | .drip | .grotto => 0
  | .blockCtl b => s.ownerOf 0x0B b.val % 16

/-! ## Blocks and cells -/

/-- The physical cell that hosts logical cell `c`, if it is mapped (R204). -/
def State.physOf (s : State) (c : Fin 128) : Option (Fin 128) :=
  let m := s.reg BLK_MAP (c.val / 8)
  let l := c.val % 8
  if bitN m.toNat (4 * l + 3) then some (Fin.ofNat 128 (c.val / 8 * 8 + m.toNat / 2 ^ (4 * l) % 8)) else none

/-- The logical cell that physical cell `p` hosts, if any (R204). -/
def State.logOf (s : State) (p : Fin 128) : Option (Fin 128) :=
  ((List.range 8).map fun l => Fin.ofNat 128 (p.val / 8 * 8 + l)).find? fun c => s.physOf c == some p

/-- CELL_STAT.LSTATE (R205). -/
def State.lstate (s : State) (c : Fin 128) : Nat := s.fld CELL_STAT c.val CELL_STAT_LSTATE

/-- CELL_STAT.LSTATE written. -/
def State.setLstate (s : State) (c : Fin 128) (v : Nat) : State := s.setFld CELL_STAT c.val CELL_STAT_LSTATE v

/-- BLK_PSTATE of physical cell `p` (R205). -/
def State.pstate (s : State) (p : Fin 128) : Nat := s.fld BLK_PSTATE (p.val / 8) (fldAt 4 (p.val % 8))

/-- BLK_PSTATE of physical cell `p` written. -/
def State.setPstate (s : State) (p : Fin 128) (v : Nat) : State :=
  s.setFld BLK_PSTATE (p.val / 8) (fldAt 4 (p.val % 8)) v

/-- Logical cell `c` mapped to physical cell `p`, or unmapped (R204). -/
def State.mapCell (s : State) (c : Fin 128) (p : Option (Fin 128)) : State :=
  s.setFld BLK_MAP (c.val / 8) (fldAt 4 (c.val % 8)) (match p with | some q => 8 + q.val % 8 | none => 0)

/-- A physical cell changed. -/
def State.modPhys (s : State) (p : Fin 128) (f : Phys → Phys) : State :=
  { s with phys := vset s.phys p (f (vget s.phys p)) }

/-- A logical cell changed. -/
def State.modCell (s : State) (c : Fin 128) (f : LCell → LCell) : State :=
  { s with lcell := vset s.lcell c (f (vget s.lcell c)) }

/-- A Sornas-S processor changed. -/
def State.modSproc (s : State) (i : Fin 6) (f : SProc → SProc) : State :=
  { s with sproc := vset s.sproc i (f (vget s.sproc i)) }

/-- A block changed. -/
def State.modBlock (s : State) (b : Fin 16) (f : Block → Block) : State :=
  { s with block := vset s.block b (f (vget s.block b)) }

/-- Performance counter event `e` of a logical cell: every counter that selects it counts; a wrap sets OVF and, with OIE,
leaves an overflow entry to be written (R228, R229). -/
def State.pmcCount (s : State) (c : Fin 128) (e : Nat) : State :=
  s.modCell c fun l => (List.range 4).foldl (fun l k =>
    if l.pmsel[k]!.toNat == e && e != 0 then
      let v := l.pmc[k]! + 1
      let l := { l with pmc := l.pmc.set! k v }
      if v == 0 then
        { l with pmstat := l.pmstat ||| (1#32 <<< k)
                 pmPend := if bitN l.pmstat.toNat (8 + k) then l.pmPend ||| (1#4 <<< k) else l.pmPend }
      else l
    else l) l

/-- Entries discarded, counted in CELL_STAT.EVDROP (R206), which saturates. -/
def State.evDrop (s : State) (c : Fin 128) (n : Nat) : State :=
  s.setFld CELL_STAT c.val CELL_STAT_EVDROP (incSat 8 (s.fld CELL_STAT c.val CELL_STAT_EVDROP) n)

/-- A logical cell accepts events: RUNNING or MIGRATING (R206). -/
def State.accepts (s : State) (c : Fin 128) : Bool := s.lstate c == 1 || s.lstate c == 2

/-- An entry arrives at one physical cell: a cell asleep in WAIT ends its sleep, with P = 1 popping the entry into rd and
ev, otherwise the entry is queued (R169, R194). -/
def Phys.arrive (ph : Phys) (e : FifoEntry) : Phys :=
  match ph.wait with
  | .sleep true rd _ =>
    { ph with wait := .run
              core := ((ph.core.wr .c rd e.vec).advance .c) |> fun k => { k with ev := e.payload } }
  | .sleep false _ _ => { ph with wait := .run, core := ph.core.advance .c, fifo := ph.fifo ++ [e] }
  | _ => { ph with fifo := ph.fifo ++ [e] }

/-- Writing an entry into the FIFO of a logical cell: `none` where it cannot accept it, being in another state (R206) or
full (R198). Both copies of a twin receive it (R224). -/
def State.pushFifo (s : State) (c : Fin 128) (e : FifoEntry) : Option State :=
  match s.physOf c with
  | none => none
  | some p =>
    if !s.accepts c then none
    else if (vget s.phys p).fifo.length ≥ 16 then none
    else
      let s := s.modPhys p (·.arrive e)
      some (match (vget s.lcell c).twin with
        | some q => s.modPhys (Fin.ofNat 128 q) (·.arrive e)
        | none => s)

/-- An entry written by the block controller or a unit for a bound cell: where the cell is in no state to accept it, it is
discarded and counted (R206). -/
def State.notifyCell (s : State) (c : Fin 128) (vec : Nat) (payload : Nat) : State :=
  match s.pushFifo c { vec := vec % 16, payload := BitVec.ofNat 16 payload, ring := none } with
  | some s' => s'
  | none => if s.accepts c then s.pmcCount c 0x0E else s.evDrop c 1

/-! ## The fabric error log -/

/-- Status codes (R51). -/
def stOK : Nat := 0
def stQUOTA : Nat := 1
def stFULL : Nat := 2
def stLATE : Nat := 3
def stSTALE_GEN : Nat := 4
def stPERM : Nat := 5
def stBAD_TARGET : Nat := 6
def stABORTED : Nat := 7
def stTIMEOUT : Nat := 8
def stPARTIAL : Nat := 9
def stECC : Nat := 10
def stLINK_DOWN : Nat := 11

/-- The level of the unit at an address (R641): 0 cell, 1 block, 2 region, 3 chip. -/
def levelOf (a : Nat) : Nat :=
  if 0x20000000 ≤ a && a < 0x30000000 then
    let o := (a - 0x20000000) % 0x04000000
    if 0x01000000 ≤ o && o < 0x01400000 then (if (o - 0x01000000) % 0x100000 < 0x40000 then 1 else 0)
    else if 0x02082000 ≤ o && o < 0x0208C000 then 1
    else 2
  else 3

/-- The log entry of a refused or failed transaction (R39). `kind`: 0 read, 1 write, 2 fetch, 3 DMA. -/
def errEntry (s : State) (status chamber level kind source addr : Nat) : ErrEntry :=
  { info := BitVec.ofNat 32 (status * 2 ^ 24 + chamber % 16 * 2 ^ 20 + level % 4 * 2 ^ 18 + kind % 4 * 2 ^ 16 +
      source % 256 * 2 ^ 8 + 1)
    addr := BitVec.ofNat 32 addr, ns := s.nsLo }

/-- The unit of a report from the fabric error log (R35). -/
def reportFab : Nat := 0x100

/-- A report is made to the first responder of its level: a new one of the same unit replaces one that was acknowledged
(R35). -/
def State.report35 (s : State) (level unit : Nat) (acked : Bool) : State :=
  if !acked && s.reports.any fun r => r.unit == unit then s
  else { s with reports := s.reports.filter (fun r => r.unit != unit) ++ [{ level := level, unit := unit, since := s.tick }] }

/-- An entry joins the log (R38); the first one in an empty log is a report to COLH (R35). -/
def State.logErr (s : State) (e : ErrEntry) : State :=
  if s.fabLog.length ≥ 16 then
    (s.setBit FAB_ERR_STAT 0 FAB_ERR_STAT_OVF true).setFld FAB_ERR_DROP 0 FAB_ERR_DROP_DROPPED
      (incSat 32 (s.fld FAB_ERR_DROP 0 FAB_ERR_DROP_DROPPED) 1)
  else
    let s1 := if s.fabLog.isEmpty then s.report35 3 reportFab true else s
    { s1 with fabLog := s1.fabLog ++ [e] }

/-- A refused or failed transaction is appended to the log (R38). -/
def State.appendErr (s : State) (status chamber level kind source addr : Nat) : State :=
  s.logErr (errEntry s status chamber level kind source addr)

/-- An access of an agent refused or failed with `status` at a fabric address. -/
def State.refuse (s : State) (ag : Agent) (status kind addr : Nat) : State :=
  s.appendErr status (chamberOf s ag) (levelOf addr) kind (agentId ag) addr

/-! ## Who may access what -/

/-- The chamber that owns the target at a fabric address (R26), `none` where the target has no owner of its own. -/
def State.addrOwner (s : State) (a : Nat) : Option Nat :=
  if 0x10000000 ≤ a && a < 0x10800000 then some (s.ownerOf 0x0D ((a - 0x10000000) / 0x10000))
  else if 0x20000000 ≤ a && a < 0x30000000 then
    let r := (a - 0x20000000) / 0x04000000
    let o := (a - 0x20000000) % 0x04000000
    if o < 0x200000 then some (s.ownerOf 0x0E (32 * r + o / 0x10000))
    else if 0x01000000 ≤ o && o < 0x01400000 then
      let b := 4 * r + (o - 0x01000000) / 0x100000
      let w := (o - 0x01000000) % 0x100000
      if w < 0x40000 then some (s.fld BLK_MPART b (fldAt 4 (w / 0x8000)))
      else
        let p := Fin.ofNat 128 (8 * b + (w - 0x40000) / 0x8000)
        some (s.ownerOf 0x01 ((s.logOf p).getD p).val)
    else if o < 0x02000000 then none
    else
      let g := o - 0x02000000
      let pg := g / 0x10000
      let x := g % 0x10000
      if pg = 0 then
        if 0x100 ≤ x && x < 0x200 then some (s.ownerOf 0x02 (8 * r + (x - 0x100) / 0x20))
        else if 0x400 ≤ x && x < 0x800 then
          some (s.ownerOf 0x02 (8 * r + s.fld PWM_BCFG (4 * r + (x - 0x400) / 0x100) PWM_BCFG_GRP))
        else none
      else if pg = 1 then (if x < 0x400 then some (s.ownerOf 0x03 (4 * r + x / 0x100)) else none)
      else if pg = 2 then (if x < 0x400 then some (s.ownerOf 0x04 (16 * r + x / 0x40)) else none)
      else if pg = 3 then (if x < 0x2000 then some (s.ownerOf 0x05 (4 * r + x / 0x800)) else none)
      else if pg = 4 then
        if x < 0xC00 then some (s.ownerOf 0x02 (8 * r + s.fld PWM_BCFG (4 * r + x / 0x300) PWM_BCFG_GRP)) else none
      else if pg = 5 then
        if x < 0x200 then some (s.ownerOf 0x06 (8 * r + x / 0x40))
        else if 0x400 ≤ x && x < 0x408 then some (s.ownerOf 0x07 (2 * r + (x - 0x400) / 4))
        else none
      else if pg = 6 then some (s.ownerOf 0x08 r)
      else if pg = 7 then some (s.ownerOf 0x09 r)
      else if 0x1000 ≤ x && x < 0x1200 then some (s.ownerOf 0x0A (2 * r + (x - 0x1000) / 0x100))
      else if 0x1400 ≤ x && x < 0x1600 then some (s.ownerOf 0x0A (2 * r + (x - 0x1400) / 0x100))
      else if 0x1600 ≤ x && x < 0x1C00 then some (s.ownerOf 0x0A (2 * r + x % 0x100 / 0x80))
      else if 0x2000 ≤ x && x < 0x3000 then
        let b := 4 * r + (x - 0x2000) / 0x400
        let y := (x - 0x2000) % 0x400
        if 0x100 ≤ y && y < 0x300 then some (s.ownerOf 0x01 (8 * b + (y - 0x100) / 0x40)) else some (s.ownerOf 0x0B b)
      else if 0x4000 ≤ x && x < 0xC000 then some (s.ownerOf 0x0B (4 * r + (x - 0x4000) % 0x4000 / 0x1000))
      else none
  else if 0x31000000 ≤ a && a < 0x31040000 then some (s.fld GAL_RING_CFG ((a - 0x31000000) / 16) GAL_RING_CFG_OWNER)
  else if 0x40080000 ≤ a && a < 0x400C0000 then some (s.ownerOf 0x13 ((a - 0x40080000) / 0x10000))
  else if 0x40100000 ≤ a && a < 0x40180000 then some (s.ownerOf 0x12 ((a - 0x40100000) / 0x10000))
  else if 0x40200000 ≤ a && a < 0x40240000 then some (s.ownerOf 0x14 ((a - 0x40200000) / 0x10000))
  else if 0x40280000 ≤ a && a < 0x402A0000 then some (s.ownerOf 0x15 ((a - 0x40280000) / 0x10000))
  else if 0x402C0000 ≤ a && a < 0x402E0000 then some (s.ownerOf 0x16 ((a - 0x402C0000) / 0x10000))
  else if 0x40300000 ≤ a && a < 0x40340000 then some (s.ownerOf 0x17 ((a - 0x40300000) / 0x10000))
  else if 0x40240000 ≤ a && a < 0x40250000 || 0x402E0000 ≤ a && a < 0x40300000 then some 0
  else none

/-- The kinds of agent as the memory map's "Accessible from" column names them. -/
def isCol : Agent → Bool
  | .col _ => true
  | _ => false

/-- An agent that may address the regions (R19). -/
def inRegions : Agent → Bool
  | .cell _ => false
  | .grotto => false
  | _ => true

/-- The range and kind rules of R13, R19, R20 and R21 for an access at a fabric byte address: its status. -/
def rangeStatus (ag : Agent) (ch : Nat) (wr : Bool) (a : Nat) : Nat :=
  let who (b : Bool) : Nat := if b then stOK else stPERM
  if a < 0x80000 then (if isCol ag then stOK else stBAD_TARGET)
  else if 0x10000000 ≤ a && a < 0x10800000 then stOK
  else if 0x18000000 ≤ a && a < 0x18100000 then who (isCol ag && (!wr || a < 0x18001000))
  else if 0x20000000 ≤ a && a < 0x30000000 then
    let o := (a - 0x20000000) % 0x04000000
    if o < 0x200000 || (0x01000000 ≤ o && o < 0x01400000 && (o - 0x01000000) % 0x100000 < 0x80000) ||
        (0x02000000 ≤ o && o < 0x02090000) then who (inRegions ag)
    else stBAD_TARGET
  else if 0x30000000 ≤ a && a < 0x30010000 then who (isCol ag)
  else if 0x31000000 ≤ a && a < 0x31040000 then who (isCol ag)
  else if 0x32000000 ≤ a && a < 0x320C0000 then who (ag = .debug || (isCol ag && !wr))
  else if 0x40000000 ≤ a && a < 0x40010000 then who (isCol ag)
  else if 0x40010000 ≤ a && a < 0x40020000 then stOK
  else if 0x40020000 ≤ a && a < 0x40030000 then who (ag = .col 4)
  else if 0x40030000 ≤ a && a < 0x40040000 then who (isCol ag)
  else if 0x40040000 ≤ a && a < 0x40050000 then who (ag = .col 4)
  else if 0x40050000 ≤ a && a < 0x40060000 then who (ch = 0)
  else if 0x40080000 ≤ a && a < 0x400C0000 then who (isCol ag)
  else if 0x40100000 ≤ a && a < 0x40180000 then who (isCol ag)
  else if 0x40200000 ≤ a && a < 0x40240000 then who (isCol ag)
  else if 0x40240000 ≤ a && a < 0x40250000 then who (ag = .col 4)
  else if 0x40280000 ≤ a && a < 0x402A0000 then who (isCol ag)
  else if 0x402C0000 ≤ a && a < 0x402E0000 then who (isCol ag)
  else if 0x402E0000 ≤ a && a < 0x40300000 then who (ag = .col 4)
  else if 0x40300000 ≤ a && a < 0x40340000 then who (isCol ag)
  else if 0x40400000 ≤ a && a < 0x40410000 then who (isCol ag)
  else if 0x80000000 ≤ a && a < 0x90000000 then who (isCol ag && !wr)
  else if 0xF0000000 ≤ a && a < 0xF1000000 then who (ag = .debug)
  else stBAD_TARGET

/-- A chamber with no slot in a region's crossbar table cannot use that crossbar (R30). -/
def State.hasSlot (s : State) (ch r : Nat) : Bool :=
  (List.range 64).any fun i => smGet (s.ownerOf 0x0F (64 * r + i)) s.slotOld (64 * r + i) == ch

/-- The rules for the debug port (R585, R586, R390): locked, it reaches the DBG page alone; at level 1 the regions and system
SRAM too; at level 2 reads of the Grotto's window, and writes of it while every axis is in STO. -/
def State.debugStatus (s : State) (wr : Bool) (a : Nat) : Nat :=
  let l := s.fld DBG_STAT 0 DBG_STAT_LEVEL
  if 0xF0000000 ≤ a && a < 0xF0000100 then stOK
  else if l = 0 then stPERM
  else if 0x18000000 ≤ a && a < 0x18100000 then
    if l = 1 then stPERM
    else if wr && !(List.range 8).all (fun x => s.fld GRT_AXSTAT x GRT_AXSTAT_OUT == 1) then stPERM
    else stOK
  else rangeStatus .debug 0 wr a

/-- The status with which the fabric answers an access (R13, R19 to R21, R26, R30, R39): OK where it may be performed. -/
def State.accessStatus (s : State) (ag : Agent) (wr : Bool) (a : Nat) : Nat :=
  let ch := chamberOf s ag
  let rs := if ag = .debug then s.debugStatus wr a else rangeStatus ag ch wr a
  if rs != stOK then rs
  else if 0x20000000 ≤ a && a < 0x30000000 && !s.hasSlot ch ((a - 0x20000000) / 0x04000000) then stPERM
  else if ch == 0 then stOK
  else
    match s.addrOwner a with
    | some o => if o == ch then stOK else stPERM
    | none => stOK

/-- A register write by an agent: performed where the access rules admit it, otherwise refused and logged. -/
def State.asWrite (s : State) (ag : Agent) (f : RegFam) (i : Nat) (act : State → State) : State :=
  let st := s.accessStatus ag true (f.addr i)
  if st == stOK then act s else s.refuse ag st 1 (f.addr i)

/-- A write that breaks a rule of its register is discarded and logged with `status` (R53). -/
def State.discard (s : State) (ag : Agent) (f : RegFam) (i status : Nat) : State := s.refuse ag status 1 (f.addr i)

/-! ## Memories and ECC -/

/-- Where a column's private TCM stands in `State.mem`. -/
def tcmKey (col : Nat) (a : Nat) : Nat := 0x100000000 + col * 0x80000 + a % 0x80000

/-- Where the Grotto's own SRAM stands in `State.mem`. -/
def grottoKey (a : Nat) : Nat := 0x200000000 + a % 0x100000

/-- The ECC word of an address: 16 bits in cell RAMs, 32 bits elsewhere (R18). -/
def eccWord (a : Nat) : Nat :=
  if 0x20000000 ≤ a && a < 0x30000000 && 0x01000000 ≤ (a - 0x20000000) % 0x04000000 &&
      (a - 0x20000000) % 0x04000000 < 0x01400000 && 0x40000 ≤ (a - 0x20000000) % 0x100000 then a / 2 * 2
  else a / 4 * 4

/-- The ECC state of the word at an address: 0 clean, 1 single-bit, 2 uncorrectable. -/
def State.eccOf (s : State) (a : Nat) : Nat := (smGet 0 s.ecc (eccWord a)).toNat

/-- A single-bit error at an address is corrected, written back and counted; every other word stays (R36). -/
def State.eccCorrect (s : State) (a : Nat) : State :=
  if s.eccOf a == 1 then
    { s with ecc := smDrop (· == eccWord a) s.ecc, eccCount := s.eccCount + 1 }
  else s

/-- The word at an address is written whole: any error in it is gone. -/
def State.eccClear (s : State) (a : Nat) : State :=
  if s.eccOf a == 0 then s else { s with ecc := smDrop (· == eccWord a) s.ecc }

/-- A memory write changes only memory. -/
def State.poke (s : State) (a : Nat) (v : Byte) : State := { s with mem := memPut s.mem a v }

/-- A 16-bit memory write. -/
def State.poke16 (s : State) (a : Nat) (v : Half) : State := { s with mem := memPutHalf s.mem a v }

/-- A 32-bit memory write. -/
def State.poke32 (s : State) (a : Nat) (v : Word) : State := { s with mem := memPutWord s.mem a v }

/-! ## Other operations -/

/-- A W1C flag is set by hardware. -/
def State.flag (s : State) (f : RegFam) (i : Nat) (F : Fld) : State := s.setBit f i F true

/-- A saturating counter field counts. -/
def State.count (s : State) (f : RegFam) (i : Nat) (F : Fld) : State :=
  s.setFld f i F (incSat (F.hi + 1 - F.lo) (s.fld f i F) 1)

/-- A wrapping counter field counts. -/
def State.countWrap (s : State) (f : RegFam) (i : Nat) (F : Fld) : State := s.setFld f i F (s.fld f i F + 1)

end Sys2Proof.Machine
end

