-- ==== Sys2Proof/Machine/Rings.lean ====
section
/-! DEFINITION. Power predicates, Gallery interrupt lines, and the hardware rings (R113 to R120): fullness, entries with
their trailers, and notifications. -/

namespace Sys2Proof.Machine

/-! ## Power predicates (R555, R562, R567) -/

/-- The cell and column clock trees run. -/
def State.treesOn (s : State) : Bool :=
  match s.power.phase with
  | .run | .quiesce _ _ => true
  | _ => false

/-- The fabric clock runs: RUN, DOZE, and an entry before its commit. -/
def State.fabricOn (s : State) : Bool :=
  match s.power.phase with
  | .run | .quiesce _ _ | .doze | .drain _ _ | .confirm _ _ | .handover _ _ => true
  | .entering _ | .asleep _ | .wake _ _ _ | .retry _ _ => false

/-! ## Gallery interrupt lines of columns (R93, R454) -/

/-- A line of a column is raised with a payload, unless it still holds one (R95). -/
def State.raiseLine (s : State) (col : Fin 5) (line : Fin 16) (chamber payload : Nat) (ring : Option Nat) :
    Option State :=
  let i : Fin 6 := col.castLE (by decide)
  match vget (vget s.sproc i).lines line with
  | some _ => none
  | none => some (s.modSproc i fun q =>
      { q with lines := vset q.lines line (some { chamber := chamber, payload := BitVec.ofNat 16 payload, ring := ring }) })

/-! ## Rings -/

/-- The ring number of an index field. -/
def ringNo (n : Nat) : Nat := n % 16384

/-- The depth of ring `n` (R113). -/
def State.ringDepth (s : State) (n : Nat) : Nat := 2 ^ max 2 (s.fld GAL_RING_CFG n GAL_RING_CFG_LDEPTH)

/-- The entry size of ring `n` in bytes (R113). -/
def State.ringEntry (s : State) (n : Nat) : Nat := 16 * 2 ^ s.fld GAL_RING_CFG n GAL_RING_CFG_ESZ

/-- (PROD − CONS) mod 2¹⁶. -/
def State.ringCount (s : State) (n : Nat) : Nat :=
  (s.fld GAL_RING_IDX n GAL_RING_IDX_PROD + 2 ^ 16 - s.fld GAL_RING_IDX n GAL_RING_IDX_CONS) % 2 ^ 16

/-- A ring is full (R113). -/
def State.ringFull (s : State) (n : Nat) : Bool := s.ringDepth n ≤ s.ringCount n

/-- The byte address of the entry with index `idx` (R113). -/
def State.ringAddr (s : State) (n idx : Nat) : Nat :=
  s.fld GAL_RING_BASE n GAL_RING_BASE_BASE * 16 + idx % s.ringDepth n * s.ringEntry n

/-- The lap that follows a lap (R115). -/
def lapNext (g : Nat) : Nat := if g ≥ 255 then 1 else g + 1

/-- A ring is an enabled receive ring. -/
def State.ringRx (s : State) (n : Nat) : Bool :=
  s.bit GAL_RING_CFG n GAL_RING_CFG_EN && !s.bit GAL_RING_BASE n GAL_RING_BASE_TXR

/-- The owner chamber of a ring. -/
def State.ringOwner (s : State) (n : Nat) : Nat := s.fld GAL_RING_CFG n GAL_RING_CFG_OWNER

/-- Words are written to memory from address `a` on; their ECC words are whole again. -/
def State.pokeWords (s : State) (a : Nat) : List Word → State
  | [] => s
  | w :: l => ((s.poke32 a w).eccClear a).pokeWords (a + 4) l

/-- An entry `body` with trailer fields STATUS, KIND and INFO is written at PROD, the trailer last; PROD and the lap
advance (R115, R116). The body fills the entry up to its trailer, zeros after it (R117). -/
def State.ringPut (s : State) (n : Nat) (body : List Word) (status kind info : Nat) : State :=
  let prod := s.fld GAL_RING_IDX n GAL_RING_IDX_PROD
  let words := s.ringEntry n / 4 - 1
  let a := s.ringAddr n prod
  let gen := s.fld GAL_RING_CFG n GAL_RING_CFG_PGEN
  let trailer := BitVec.ofNat 32 (gen * 2 ^ 24 + status % 256 * 2 ^ 16 + kind % 16 * 2 ^ 12 + info % 2 ^ 12)
  let s := s.pokeWords a ((body ++ List.replicate words 0).take words ++ [trailer])
  let s := s.setFld GAL_RING_IDX n GAL_RING_IDX_PROD (prod + 1)
  if prod % s.ringDepth n + 1 = s.ringDepth n then s.setFld GAL_RING_CFG n GAL_RING_CFG_PGEN (lapNext gen) else s

/-- A notification of ring `n` waits at its target already (R120). -/
def State.notifyHeld (s : State) (n : Nat) : Bool :=
  s.gal.notify.contains n ||
  (let t := s.fld GAL_RING_CFG n GAL_RING_CFG_NTGT
   match s.fld GAL_RING_CFG n GAL_RING_CFG_NTYPE with
   | 1 =>
     match s.physOf (Fin.ofNat 128 t) with
     | some p => (vget s.phys p).fifo.any fun e => e.ring == some n
     | none => false
   | 2 =>
     if h : t < 5 then
       match (vget s.sproc (Fin.castLE (by decide) (⟨t, h⟩ : Fin 5))).lines[15] with
       | some l => l.ring == some n
       | none => false
     else false
   | _ => false)

/-- The notification of ring `n` is sent; `none` where its target cannot take it now (R120). -/
def State.notifySend (s : State) (n : Nat) : Option State :=
  let t := s.fld GAL_RING_CFG n GAL_RING_CFG_NTGT
  match s.fld GAL_RING_CFG n GAL_RING_CFG_NTYPE with
  | 1 => s.pushFifo (Fin.ofNat 128 t) { vec := 15, payload := BitVec.ofNat 16 n, ring := some n }
  | 2 => if h : t < 5 then s.raiseLine ⟨t, h⟩ 15 (s.ringOwner n) n (some n) else some s
  | _ => some s

/-- After each entry the ring notifies its target; while an earlier notification is untaken, further ones merge into it
(R120). One that its target cannot take yet waits. -/
def State.notifyRing (s : State) (n : Nat) : State :=
  if s.notifyHeld n then s
  else
    match s.notifySend n with
    | some s' => s'
    | none => { s with gal := { s.gal with notify := s.gal.notify ++ [n] } }

/-- Notifications that wait are offered to their targets again, in order. -/
def State.notifyRetry (s : State) : State :=
  s.gal.notify.foldl (fun s n =>
    match s.notifySend n with
    | some s' => { s' with gal := { s'.gal with notify := s'.gal.notify.filter (· != n) } }
    | none => s) s

/-! ## Transmit rings as their hardware consumers read them (R115, R116) -/

/-- How far the consumer of transmit ring `n` has read. -/
def State.txRing (s : State) (n : Nat) : TxRing := smGet { lap := 1, next := 0, told := none } s.txr n

/-- The reader of transmit ring `n` changed. -/
def State.modTxRing (s : State) (n : Nat) (f : TxRing → TxRing) : State := { s with txr := smSet s.txr n (f (s.txRing n)) }

/-- The consumer passes one entry of transmit ring `n`; its expected lap follows (R115). -/
def State.txPass (s : State) (n : Nat) : State :=
  let d := s.ringDepth n
  s.modTxRing n fun t =>
    { lap := if t.next % d + 1 = d then lapNext t.lap else t.lap, next := (t.next + 1) % 2 ^ 16, told := none }

/-- A ring is an enabled transmit ring. -/
def State.ringTx (s : State) (n : Nat) : Bool :=
  s.bit GAL_RING_CFG n GAL_RING_CFG_EN && s.bit GAL_RING_BASE n GAL_RING_BASE_TXR

/-- The words of the entry with index `idx` of ring `n`, trailer last. -/
def State.ringRead (s : State) (n idx : Nat) : List Word :=
  let a := s.ringAddr n idx
  (List.range (s.ringEntry n / 4)).map fun j => memWord s.mem (a + 4 * j)

/-- An uncorrectable error lies in the entry with index `idx` of ring `n`. -/
def State.ringBad (s : State) (n idx : Nat) : Bool :=
  let a := s.ringAddr n idx
  (List.range (s.ringEntry n / 4)).any fun j => s.eccOf (a + 4 * j) == 2

/-- Single-bit errors of an entry are corrected when it is read (R36). -/
def State.ringCorrect (s : State) (n idx : Nat) : State :=
  let a := s.ringAddr n idx
  (List.range (s.ringEntry n / 4)).foldl (fun s j => s.eccCorrect (a + 4 * j)) s

/-- Bytes as little-endian words, the last one filled with zeros. -/
def packWords : List Byte → List Word
  | [] => []
  | [a] => [(0 : BitVec 24) ++ a]
  | [a, b] => [(0 : BitVec 16) ++ b ++ a]
  | [a, b, c] => [(0 : BitVec 8) ++ c ++ b ++ a]
  | a :: b :: c :: d :: l => (d ++ c ++ b ++ a) :: packWords l

/-- The little-endian bytes of words. -/
def unpackWords (l : List Word) : List Byte :=
  l.flatMap fun w => [w.extractLsb' 0 8, w.extractLsb' 8 8, w.extractLsb' 16 8, w.extractLsb' 24 8]

/-- A hardware producer writes an entry into receive ring `n` and notifies; `none` where the ring is full and not AUTO
(R113, R118). -/
def State.ringPush (s : State) (n : Nat) (body : List Word) (status kind info : Nat) : Option State :=
  if s.ringFull n && !s.bit GAL_RING_CFG n GAL_RING_CFG_AUTO then none
  else some ((s.ringPut n body status kind info).notifyRing n)

/-- The placement check of an enable (R114). -/
def State.ringPlaced (s : State) (n : Nat) : Bool :=
  let a := s.fld GAL_RING_BASE n GAL_RING_BASE_BASE * 16
  let e := a + s.ringDepth n * s.ringEntry n
  let within (lo len : Nat) : Bool := lo ≤ a && e ≤ lo + len
  a % s.ringEntry n == 0 &&
    (within 0x10000000 0x800000 ||
      (List.range 4).any (fun r => within (0x20000000 + r * 0x04000000) 0x200000) ||
      (List.range 16).any (fun b => within (0x21000000 + b / 4 * 0x04000000 + b % 4 * 0x100000) 0x40000))

/-- A write of GAL_RING_CFG (R114): while EN is 0 its fields take effect, and EN = 1 checks the placement; while EN is 1 only
EN and a 1 to ROVF act, and EN = 0 with events pending is refused with PERM. -/
def State.writeRingCfg (s : State) (ag : Agent) (n : Nat) (v : Word) : State :=
  let old := s.reg GAL_RING_CFG n
  let rovf := if GAL_RING_CFG_ROVF.get v = 1 then GAL_RING_CFG_ROVF.put old 0 else old
  if GAL_RING_CFG_EN.get old = 1 then
    let s1 := s.setReg GAL_RING_CFG n rovf
    if GAL_RING_CFG_EN.get v = 0 then
      if s.fld GAL_RING_TOL n GAL_RING_TOL_PEND = 0 then s1.setBit GAL_RING_CFG n GAL_RING_CFG_EN false
      else s1.discard ag GAL_RING_CFG n stPERM
    else s1
  else
    let new := [GAL_RING_CFG_LDEPTH, GAL_RING_CFG_ESZ, GAL_RING_CFG_ENG, GAL_RING_CFG_NTYPE, GAL_RING_CFG_NTGT,
      GAL_RING_CFG_AUTO].foldl (fun w F => F.put w (F.get v)) rovf
    let s1 := s.setReg GAL_RING_CFG n new
    if GAL_RING_CFG_EN.get v = 1 then
      if s1.ringPlaced n then
        let s2 := ((s1.setFld GAL_RING_CFG n GAL_RING_CFG_PGEN 1).setBit GAL_RING_CFG n GAL_RING_CFG_EN true).setReg
          GAL_RING_IDX n 0
        { s2 with txr := smDrop (· == n) s2.txr }
      else s1.discard ag GAL_RING_BASE n stBAD_TARGET
    else s1

/-- A write of GAL_RING_IDX (R113, R114, and the register table): software writes CONS of a receive ring and PROD of a
transmit ring. -/
def State.writeRingIdx (s : State) (n : Nat) (v : Word) : State :=
  if s.bit GAL_RING_BASE n GAL_RING_BASE_TXR then
    s.setFld GAL_RING_IDX n GAL_RING_IDX_PROD (GAL_RING_IDX_PROD.get v)
  else s.setFld GAL_RING_IDX n GAL_RING_IDX_CONS (GAL_RING_IDX_CONS.get v)

/-- A write of GAL_RING_BASE: discarded while the ring is enabled (R114). -/
def State.writeRingBase (s : State) (n : Nat) (v : Word) : State :=
  if s.bit GAL_RING_CFG n GAL_RING_CFG_EN then s
  else s.setReg GAL_RING_BASE n (v &&& 0xFFFFFFF8)

/-- A write of GAL_RING_TOL: TOL takes effect in every state (R114). -/
def State.writeRingTol (s : State) (n : Nat) (v : Word) : State :=
  s.setFld GAL_RING_TOL n GAL_RING_TOL_TOL (GAL_RING_TOL_TOL.get v)

/-- RING_ENABLE (R114). -/
def execRingEnable (ag : Agent) (n : Fin 16384) (v : Word) (s : State) : Host.Outcome State Fault Refusal :=
  ok (s.asWrite ag GAL_RING_CFG n.val fun s => s.writeRingCfg ag n.val (GAL_RING_CFG_EN.put v 1))

/-- RING_DISABLE (R114). -/
def execRingDisable (ag : Agent) (n : Fin 16384) (v : Word) (s : State) : Host.Outcome State Fault Refusal :=
  ok (s.asWrite ag GAL_RING_CFG n.val fun s => s.writeRingCfg ag n.val (GAL_RING_CFG_EN.put v 0))

/-- RING_CONS_WRITE (R113): on a transmit ring the write takes no effect on CONS. -/
def execRingConsWrite (ag : Agent) (n : Fin 16384) (cons : Half) (s : State) : Host.Outcome State Fault Refusal :=
  ok (s.asWrite ag GAL_RING_IDX n.val fun s =>
    s.writeRingIdx n.val (GAL_RING_IDX_CONS.put (s.reg GAL_RING_IDX n.val) cons.toNat))

end Sys2Proof.Machine
end

