-- ==== Sys2Proof/Machine/Time.lean ====
section
/-! DEFINITION. TIME: its advance, steps, slewing, the servo with its quality levels, and the placement of an instant on the
firing ticks (R54 to R73, R94). -/

namespace Sys2Proof.Machine

/-! ## The increment (R56 to R58, R64) -/

/-- The nominal increment in 2⁻³² ns. -/
def incNom : Int := 0x190000000

/-- The limit of R57 in 2⁻³² ns. -/
def incLim : Int := 6710886

/-- The sign of the slew adjustment of the next tick: ±1, or 0 with no slew remaining. -/
def TimeUnit.slewSign (t : TimeUnit) : Int := if 0 < t.slew then 1 else if t.slew < 0 then -1 else 0

/-- TIME in 2⁻³² ns after `n` further fabric ticks, at the increment and the slew in force (R56, R64). -/
def TimeUnit.after (t : TimeUnit) (n : Nat) : Int :=
  t.now.toNat + n * t.inc.toNat + t.slewSign * min n t.slew.natAbs * 2 ^ 22

/-- TIME_SLEW as read: the remaining slew in 1/256 ns, truncated toward zero (R64). -/
def TimeUnit.slewRead (t : TimeUnit) : Int := t.slew.tdiv 4

/-- The increment `x` is put in force, clamped as R57 states. -/
def State.setInc (s : State) (x : Int) : State :=
  let y := clampI x (incNom - incLim) (incNom + incLim)
  let s1 := { s with time := { s.time with inc := BitVec.ofNat 34 y.toNat } }
  let s2 := (s1.setReg TIME_INC_INT 0 (BitVec.ofNat 32 (y.toNat / 2 ^ 32))).setReg TIME_INC_FRAC 0 (BitVec.ofNat 32 y.toNat)
  if x = y then s2 else s2.flag TIME_STAT 0 TIME_STAT_INC_CLAMP

/-! ## Levels (R70) -/

/-- TIME_STAT.LEVEL. -/
def State.level (s : State) : Nat := s.fld TIME_STAT 0 TIME_STAT_LEVEL

/-- TIME_STAT.LEVEL written. -/
def State.setLevel (s : State) (l : Nat) : State := s.setFld TIME_STAT 0 TIME_STAT_LEVEL l

/-- HOLDOVER is entered from LOCKED: TIME_ERRB counts on from its value (R70). -/
def State.enterHoldover (s : State) : State :=
  if s.level = 4 then
    { s.setLevel 2 with time := { s.time with holdErr := (s.reg TIME_ERRB 0).toNat, holdFrom := s.ns, inLock := 0, outLock := 0 } }
  else s

/-- LOCK_CNT (0 is treated as 1). -/
def State.lockCnt (s : State) : Nat := max 1 (s.fld TIME_SERVO 0 TIME_SERVO_LOCK_CNT)

/-- The lock counts after an accepted sample `o` in 1/256 ns (R70, R71). -/
def State.counted (s : State) (o : Int) : TimeUnit :=
  let good := o.natAbs ≤ s.fld TIME_SERVO 0 TIME_SERVO_LOCK_THR * 256
  { s.time with
    inLock := if good then s.time.inLock + 1 else 0
    outLock := if good then 0 else s.time.outLock + 1
    lastAbs := (o.natAbs :: s.time.lastAbs).take 15 }

/-- The lock counts and the level after an accepted sample `o` in 1/256 ns (R70, R71). -/
def State.judgeSample (s : State) (o : Int) : State :=
  let t := s.counted o
  let s1 : State := { s with time := t }
  let s2 := if s1.level < 3 then s1.setLevel 3 else s1
  let s3 : State :=
    if s2.level = 3 ∧ s2.lockCnt ≤ t.inLock then
      { s2.setLevel 4 with time := { t with everLocked := true } }
    else if s2.level = 4 ∧ s2.lockCnt ≤ t.outLock then s2.setLevel 3
    else s2
  s3.setReg TIME_ERRB 0 (BitVec.ofNat 32 (((t.lastAbs.take s.lockCnt).foldl max 0 + 255) / 256))

/-! ## The servo (R67 to R69) -/

/-- SERVO_SAMPLE: an accepted offset sample in 1/256 ns (R68). With no tick since the previous sample there is no rate to
correct. -/
def State.servoSample (s : State) (o : Int) : State :=
  let d := o + s.time.slewRead
  let n := s.time.sinceTicks
  let s1 :=
    if s.time.first || n == 0 then s
    else s.setInc ((s.time.inc.toNat : Int) - (d * 2 ^ 24).tdiv n / 2 ^ s.fld TIME_SERVO 0 TIME_SERVO_KF)
  let s2 := { s1 with time := { s1.time with slew := -o * 4, first := false, sinceTicks := 0 } }
  let s3 := (s2.setReg TIME_LASTOFS 0 (BitVec.ofNat 32 (pat 32 o))).setFld TIME_STAT 0 TIME_STAT_SAMPLES
    (s2.fld TIME_STAT 0 TIME_STAT_SAMPLES + 1)
  s3.judgeSample o

/-- An offset sample arrives from the selected source (R67): too large a magnitude refuses it, and a sample in the tick of a
step is discarded. With SERVO_EN = 0 no servo takes it. -/
def State.offerSample (s : State) (o : Int) : State :=
  if !s.bit TIME_CTRL 0 TIME_CTRL_SERVO_EN then s
  else if s.time.stepTick == some s.tick then s
  else if 2 ^ 31 ≤ o.natAbs then s.flag TIME_STAT 0 TIME_STAT_OFS_REF
  else s.servoSample o

/-- TIME_OFS_IN written (R67). -/
def State.writeOfsIn (s : State) (v : Word) : State :=
  if s.fld TIME_CTRL 0 TIME_CTRL_SRC != 1 || v == 0x80000000 then s.flag TIME_STAT 0 TIME_STAT_OFS_REF
  else s.offerSample (sx 32 v.toNat)

/-- TIME_OFS_IN_WRITE (R67). -/
def execTimeOfsInWrite (ag : Agent) (v : Word) (s : State) : Host.Outcome State Fault Refusal :=
  ok (s.asWrite ag TIME_OFS_IN 0 fun s => s.writeOfsIn v)

/-- A PPS edge in 1/256 ns: the capture less the synchronizer's 2 fabric ticks and TIME_PPS.DELAY, mapped to the nearest
second (R66). -/
def State.ppsOffset (s : State) : Int :=
  let sec : Int := 10 ^ 9 * 256
  let x := ((s.stamp : Int) - 800 - s.sfld TIME_PPS 0 TIME_PPS_DELAY) % sec
  if sec / 2 ≤ x then x - sec else x

/-- PPS_EDGE (R66). -/
def execPpsEdge (pin : Fin 16) (rising : Bool) (s : State) : Host.Outcome State Fault Refusal :=
  ok (if s.fabricOn && s.fld TIME_CTRL 0 TIME_CTRL_SRC == 3 && s.fld TIME_CTRL 0 TIME_CTRL_PPS_GPIO == pin.val &&
        rising == !s.bit TIME_CTRL 0 TIME_CTRL_PPS_POL then s.offerSample s.ppsOffset
      else s)

/-! ## Control writes (R56, R61, R62, R64, R65, R69) -/

/-- TIME_INC_INT written: staged (R56); discarded while the servo owns it (R65). -/
def State.writeIncInt (s : State) (v : Word) : State :=
  if s.bit TIME_CTRL 0 TIME_CTRL_SERVO_EN then s else s.setReg TIME_INC_INT 0 (v &&& 3)

/-- TIME_INC_FRAC written: the increment takes its integer part from the staged value (R56). -/
def State.writeIncFrac (s : State) (v : Word) : State :=
  if s.bit TIME_CTRL 0 TIME_CTRL_SERVO_EN then s
  else s.setInc (s.fld TIME_INC_INT 0 TIME_INC_INT_INT * 2 ^ 32 + v.toNat : Nat)

/-- TIME_SLEW written (R64). -/
def State.writeSlew (s : State) (v : Word) : State :=
  if s.bit TIME_CTRL 0 TIME_CTRL_SERVO_EN then s
  else { s with time := { s.time with slew := sx 32 v.toNat * 4 } }

/-- TIME_INC_INT_WRITE (R56). -/
def execTimeIncIntWrite (ag : Agent) (v : Word) (s : State) : Host.Outcome State Fault Refusal :=
  ok (s.asWrite ag TIME_INC_INT 0 fun s => s.writeIncInt v)

/-- TIME_INC_FRAC_WRITE (R56, R57). -/
def execTimeIncFracWrite (ag : Agent) (v : Word) (s : State) : Host.Outcome State Fault Refusal :=
  ok (s.asWrite ag TIME_INC_FRAC 0 fun s => s.writeIncFrac v)

/-- TIME_SLEW_WRITE (R64). -/
def execTimeSlewWrite (ag : Agent) (v : Word) (s : State) : Host.Outcome State Fault Refusal :=
  ok (s.asWrite ag TIME_SLEW 0 fun s => s.writeSlew v)

/-- The reference that TIME_CTRL.SRC selects: reserved values are treated as none. -/
def srcOf (v : Word) : Nat := if TIME_CTRL_SRC.get v < 4 then TIME_CTRL_SRC.get v else 0

/-- TIME_CTRL written (R62, R68, R69): STEP captures the target; a rise of SERVO_EN or a change of SRC makes the next sample
a first sample and restarts the lock counts. -/
def State.writeTimeCtrl (s : State) (v : Word) : State :=
  let old := s.reg TIME_CTRL 0
  let s1 := s.setReg TIME_CTRL 0 (v &&& 0xFFE00000)
  let rise := TIME_CTRL_SERVO_EN.get old = 0 ∧ TIME_CTRL_SERVO_EN.get v = 1
  let change := srcOf old ≠ srcOf v
  let s2 :=
    if rise ∨ change then
      { s1 with time := { s1.time with first := true, inLock := 0, outLock := 0, lastAbs := [], sinceTicks := 0 } }
    else s1
  let s3 := if change ∧ s2.level = 4 then s2.setLevel 3 else s2
  if TIME_CTRL_STEP.get v = 1 then
    { s3 with time := { s3.time with
        stepTarget := some (s3.reg TIME_STEP_HI 0 ++ s3.reg TIME_STEP_LO 0) } }
  else s3

/-- STEP (R62): a write of TIME_CTRL with STEP = 1. -/
def execStep (ag : Agent) (v : Word) (s : State) : Host.Outcome State Fault Refusal :=
  ok (s.asWrite ag TIME_CTRL 0 fun s => s.writeTimeCtrl (TIME_CTRL_STEP.put v 1))

/-- SRC_CHANGE (R69): a write of TIME_CTRL that selects a reference. -/
def execSrcChange (ag : Agent) (v : Word) (s : State) : Host.Outcome State Fault Refusal :=
  ok (s.asWrite ag TIME_CTRL 0 fun s => s.writeTimeCtrl (TIME_CTRL_STEP.put v 0))

/-- A read of TIME_NS_LO latches the agent's TIME_NS_HI and TIME_FRAC (R61). -/
def State.latchTime (s : State) (ag : Agent) : State :=
  (s.setRegA TIME_NS_HI (agentId ag) 0 (BitVec.ofNat 32 (s.ns / 2 ^ 32))).setRegA TIME_FRAC (agentId ag) 0
    (BitVec.ofNat 32 (s.time.now.toNat / 2 ^ 16 % 2 ^ 16 * 2 ^ 16))

/-- TIME_NS_LO_READ (R61): a read that the access rules refuse latches nothing. -/
def execTimeNsLoRead (ag : Agent) (s : State) : Host.Outcome State Fault Refusal :=
  ok (let st := s.accessStatus ag false (TIME_NS_LO.addr 0)
    if st == stOK then s.latchTime ag else s.refuse ag st 0 (TIME_NS_LO.addr 0))

/-! ## The tick (R56, R60, R62, R64) -/

/-- A step that was requested is performed or refused (R62). -/
def State.doStep (s : State) : State :=
  match s.time.stepTarget with
  | none => s
  | some target =>
    let s1 := { s with time := { s.time with stepTarget := none } }
    if s.time.now.toNat < target.toNat * 2 ^ 32 then
      let s2 := { s1 with time := { s1.time with
        now := BitVec.ofNat 96 (target.toNat * 2 ^ 32), slew := 0, first := true, stepTick := some s.tick
        rateFrom := s.time.rateFrom + (target.toNat * 2 ^ 32 - s.time.now.toNat) } }
      if s2.level = 0 then s2.setLevel 1 else s2
    else s1.flag TIME_STAT 0 TIME_STAT_STEP_REF

/-- One fabric tick of TIME. -/
def State.timeTick (s : State) : State :=
  let t := s.time
  { s with tick := s.tick + 1
           time := { t with now := BitVec.ofNat 96 (t.after 1).toNat, slew := t.slew - t.slewSign
                            sinceTicks := t.sinceTicks + 1 } }.doStep

/-- One cycle of the 25 MHz reference in PARK and KEEP: 25.6 increments, the rounding of the last bit left open (R60). -/
def State.timeRef (s : State) : State :=
  let d := s.time.inc.toNat * 128
  let up := if d % 5 = 0 then 0 else s.free.toNat % 2
  let s1 := if d % 5 = 0 then s else s.used
  { s1 with time := { s1.time with now := s1.time.now + BitVec.ofNat 96 (d / 5 + up) } }

/-! ## Timed events (R70 to R73) -/

/-- SOURCE_LOST (R71): no sample accepted for HOLD_TMO × 100 ms of fabric ticks. -/
def execSourceLost (s : State) : Host.Outcome State Fault Refusal :=
  ok (let tmo := max 1 (s.fld TIME_SERVO 0 TIME_SERVO_HOLD_TMO) * 64000000
    if s.fabricOn && s.bit TIME_CTRL 0 TIME_CTRL_SERVO_EN && srcOf (s.reg TIME_CTRL 0) != 0 && tmo ≤ s.time.sinceTicks then
      let s1 := s.flag TIME_STAT 0 TIME_STAT_SRC_LOST
      if s1.level = 4 then s1.enterHoldover
      else if s1.time.everLocked then s1
      else (s1.setLevel 1).setReg TIME_ERRB 0 0xFFFFFFFF
    else s)

/-- HOLDOVER_ERRB_UPDATE (R70, R72): once every millisecond in HOLDOVER. -/
def execHoldoverErrbUpdate (s : State) : Host.Outcome State Fault Refusal :=
  ok (if s.level = 2 then
      s.setReg TIME_ERRB 0 (BitVec.ofNat 32 (min 0xFFFFFFFF
        (s.time.holdErr + s.fld TIME_HDRIFT 0 TIME_HDRIFT_PPB * (s.ns - s.time.holdFrom) / 10 ^ 9)))
    else s)

/-! ## Placement (R94) -/

/-- The firing tick of the present, by the count of R94. -/
def State.firing (s : State) : Nat := s.tick / 2

/-- Where an instant in 1/256 ns falls, seen from the first fabric tick of a firing tick: firing ticks ahead (negative in the
past), and the phase; `none` where it lies two firing ticks ahead or more. -/
def State.placeNear (s : State) (inst : Nat) : Option (Int × Nat) :=
  let x : Int := (inst : Int) * 2 ^ 24
  let t0 := s.time.after 0
  let t1 := s.time.after 2
  let t2 := s.time.after 4
  let ph (a b : Int) : Nat := ((x - a) * 16 / (b - a)).toNat
  if x < t0 then some ((x - t0) / (t1 - t0), ((x - t0) % (t1 - t0) * 16 / (t1 - t0)).toNat)
  else if x < t1 then some (0, ph t0 t1)
  else if x < t2 then some (1, ph t1 t2)
  else none

/-- An instant lies less than 64 firing ticks ahead, judged at the increment in force (R103). -/
def State.isNear (s : State) (inst : Nat) : Bool :=
  decide ((inst : Int) * 2 ^ 24 - s.time.now.toNat < 128 * s.time.inc.toNat)

end Sys2Proof.Machine
end

