-- ==== Sys2Proof/Machine/GalleryCore.lean ====
section
/-! DEFINITION. The Gallery's slots: submission and its decision, quotas, handles, cancellation, the ends of events and
their reports (R90 to R101, R104 to R107, R119 to R123). -/

namespace Sys2Proof.Machine

/-! ## Event fields (R91, R93) -/

/-- Action code. -/
def GEvent.action (e : GEvent) : Nat := GAL_SUB_W2_ACTION.get e.w2
/-- Angle domain. -/
def GEvent.angle (e : GEvent) : Bool := GAL_SUB_W2_DOMAIN.get e.w2 == 1
/-- Axis of an angle stamp. -/
def GEvent.axis (e : GEvent) : Fin 8 := Fin.ofNat 8 (GAL_SUB_W2_AXIS.get e.w2)
/-- Home ring. -/
def GEvent.hring (e : GEvent) : Nat := GAL_SUB_W2_HRING.get e.w2
/-- MUSTNOT_LATE. -/
def GEvent.mustNotLate (e : GEvent) : Bool := GAL_SUB_W2_MUSTNOT_LATE.get e.w2 == 1
/-- The time stamp in 1/256 ns (R87). -/
def GEvent.timeStamp (e : GEvent) : Nat := (e.w1.toNat * 2 ^ 32 + e.w0.toNat) * 2 ^ 8 + GAL_SUB_W2_STAMP_FR.get e.w2
/-- The angle stamp, 48 bits (R87). -/
def GEvent.angleStamp (e : GEvent) : Nat := e.w1.toNat % 2 ^ 16 * 2 ^ 32 + e.w0.toNat
/-- The instant at which the event comes due, if it is known (R94). -/
def GEvent.inst (e : GEvent) : Option Nat := if e.angle then e.instant else some e.timeStamp
/-- Bits [hi:lo] of ARG. -/
def GEvent.arg (e : GEvent) (hi lo : Nat) : Nat := (⟨hi, lo⟩ : Fld).get e.w3

/-- Byte address of a slot (R90). -/
def slotAddr (n : Nat) : Nat := 0x32000000 + 16 * n

/-- The slots of the memory. -/
def slotCount : Nat := 49152

/-- The Gallery changed. -/
def State.modGal (s : State) (f : Gallery → Gallery) : State := { s with gal := f s.gal }

/-- The event in slot `n`, if it is pending. -/
def State.eventAt (s : State) (n : Nat) : Option GEvent := s.gal.events.find? (·.slot == n)

/-- The event of a slot changed. -/
def State.modEvent (s : State) (n : Nat) (f : GEvent → GEvent) : State :=
  s.modGal fun g => { g with events := g.events.map fun e => if e.slot == n then f e else e }

/-- The tag of a slot (R100). -/
def State.slotTag (s : State) (n : Nat) : BitVec 8 := smGet 0 s.gal.tags n

/-- The tag of a slot advances (R100). -/
def State.bumpTag (s : State) (n : Nat) : State :=
  s.modGal fun g => { g with tags := smSet g.tags n (smGet 0 g.tags n + 1) }

/-! ## Engines and targets (R93) -/

/-- The region of an enabled unit's engine: where the table says "ring ENG", that of the home ring. -/
def State.engineOf (s : State) (action : Nat) (w3 : Word) (ring : Nat) : Nat :=
  let arg (hi lo : Nat) : Nat := (⟨hi, lo⟩ : Fld).get w3
  let eng := s.fld GAL_RING_CFG ring GAL_RING_CFG_ENG
  match action with
  | 1 => arg 30 24 / 32
  | 2 => arg 30 24 / 24 % 4
  | 3 => arg 9 8
  | 4 => arg 3 0 / 4
  | 8 => if arg 2 0 < 4 then arg 2 0 else eng
  | _ => eng

/-- The chip group 8r + g of bridge k (R267). -/
def State.groupOf (s : State) (k : Nat) : Nat := k / 4 * 8 + s.fld PWM_BCFG k PWM_BCFG_GRP

/-- The owners of an action's targets (R98, order 2). -/
def State.targetOwners (s : State) (action : Nat) (w3 : Word) : List Nat :=
  let arg (hi lo : Nat) : Nat := (⟨hi, lo⟩ : Fld).get w3
  match action with
  | 1 => [s.ownerOf 0x01 (arg 30 24)]
  | 2 => [s.ownerOf 0x02 (s.groupOf (arg 30 24 / 6))]
  | 3 => ((List.range 8).filter (bitN (arg 7 0) ·)).map fun g => s.ownerOf 0x02 (8 * arg 9 8 + g)
  | 4 => [s.ownerOf 0x03 (arg 3 0)]
  | 5 => [s.ownerOf 0x11 (arg 3 0)]
  | 7 => [s.ringOwner (arg 13 0)]
  | 8 => [if arg 2 0 < 4 then s.ownerOf 0x10 (arg 2 0) else 0]
  | _ => []

/-- A chamber owns a share slot of an engine. -/
def State.ownsShare (s : State) (e c : Nat) : Bool :=
  (List.range 16).any fun i =>
    (if i < 8 then s.fld GAL_SHARE_LO e (fldAt 4 i) else s.fld GAL_SHARE_HI e (fldAt 4 (i - 8))) == c

/-! ## Quotas (R101) -/

/-- RSV of a chamber. -/
def State.rsv (s : State) (c : Nat) : Nat := s.fld GAL_QUOTA c GAL_QUOTA_RSV
/-- MAX of a chamber, at least its RSV. -/
def State.maxSlots (s : State) (c : Nat) : Nat := max (s.fld GAL_QUOTA c GAL_QUOTA_MAX) (s.rsv c)
/-- Slots a chamber holds. -/
def State.useOf (s : State) (c : Nat) : Nat := s.fld GAL_USE c GAL_USE_USED

/-- The shared pool is empty. -/
def State.poolEmpty (s : State) : Bool :=
  let used := (List.range 16).foldl (fun n c => n + (s.rsv c + (s.useOf c - s.rsv c))) 0
  slotCount ≤ used

/-- GAL_QUOTA written (R101): by chamber 0 only; reservations above the slot memory are refused. -/
def State.writeQuota (s : State) (ag : Agent) (c : Nat) (v : Word) : State :=
  let sum := (List.range 16).foldl (fun n i => n + if i = c then GAL_QUOTA_RSV.get v else s.rsv i) 0
  if chamberOf s ag ≠ 0 ∨ slotCount < sum then s.discard ag GAL_QUOTA c stPERM
  else s.setReg GAL_QUOTA c v

/-- GAL_QUOTA_WRITE (R101). -/
def execGalQuotaWrite (ag : Agent) (c : Fin 16) (v : Word) (s : State) : Host.Outcome State Fault Refusal :=
  ok (s.asWrite ag GAL_QUOTA c.val fun s => s.writeQuota ag c.val v)

/-! ## Ends and reports (R119, R121) -/

/-- GAL_STAT.USED, GAL_USE, PEND of the ring and PEND of the axis change by one slot (R121). -/
def State.countSlot (s : State) (ch ring : Nat) (axis : Option Nat) (up : Bool) : State :=
  let f (n : Nat) : Nat := if up then n + 1 else n - 1
  let s1 := s.setFld GAL_STAT 0 GAL_STAT_USED (f (s.fld GAL_STAT 0 GAL_STAT_USED))
  let s2 := s1.setFld GAL_USE ch GAL_USE_USED (f (s.useOf ch))
  let s3 := s2.setFld GAL_RING_TOL ring GAL_RING_TOL_PEND (f (s.fld GAL_RING_TOL ring GAL_RING_TOL_PEND))
  match axis with
  | some x => s3.setFld GAL_AX_STAT x GAL_AX_STAT_PEND (f (s.fld GAL_AX_STAT x GAL_AX_STAT_PEND))
  | none => s3

/-- The words 0 to 2 of a push or report entry (R117). -/
def State.entryBody (s : State) (e : GEvent) (word0 : Word) : List Word :=
  match e.issued with
  | some i => [word0, i.ns, BitVec.ofNat 32 (e.slot * 2 ^ 16 + min 0xFFFF i.late)]
  | none => [word0, s.nsLo, BitVec.ofNat 32 (e.slot * 2 ^ 16)]

/-- REPORT_ENTRY: the outcome is written into the home ring, or dropped and counted where the ring is full (R119, R121). A
ring that is not an enabled receive ring takes no report (R123). -/
def State.report (s : State) (e : GEvent) (status mask : Nat) : State :=
  let n := e.hring
  if !s.ringRx n then s
  else
    let w0 := if status = stPARTIAL then BitVec.ofNat 32 mask else e.w3
    match s.ringPush n (s.entryBody e w0) status 2 e.action with
    | some s' => s'
    | none =>
      ((s.flag GAL_RING_CFG n GAL_RING_CFG_ROVF).flag GAL_STAT 0 GAL_STAT_RPT_DROP).count GAL_RPTDROP 0 GAL_RPTDROP_DROPPED

/-- The slot of an event is freed; its tag advances (R100, R121). -/
def State.freeSlot (s : State) (e : GEvent) : State :=
  let s1 := (s.modGal fun g => { g with events := g.events.filter (·.slot != e.slot) }).bumpTag e.slot
  s1.countSlot e.chamber e.hring (if e.angle then some e.axis.val else none) false

/-- An event ends with an outcome (R121): the slot is freed and the outcome reported as REPORT asks. `quiet`: a RING_PUSH
has written its push entry instead, or the home ring cannot be trusted (R122). -/
def State.endEvent (s : State) (e : GEvent) (status mask : Nat) (quiet : Bool) : State :=
  let s1 := s.freeSlot e
  if !quiet && (status != stOK || GAL_SUB_W2_REPORT.get e.w2 == 1) then s1.report e status mask else s1

/-- SLOT_ECC: an uncorrectable error in the slot of an event ends it with ECC (R122); a single-bit error is corrected.
`none` where the slot is sound. -/
def State.slotFault (s : State) (e : GEvent) : Option State :=
  let a := slotAddr e.slot
  if [0, 4, 8, 12].any (fun o => s.eccOf (a + o) == 2) then
    let s1 := (s.appendErr stECC e.chamber 3 0 (0x88 + e.engine.val) a).flag GAL_STAT 0 GAL_STAT_ECC
    some (s1.endEvent e stECC 0 (s.eccOf (a + 8) == 2))
  else none

/-- Single-bit errors of a slot are corrected when it is read. -/
def State.slotCorrect (s : State) (e : GEvent) : State :=
  [0, 4, 8, 12].foldl (fun s o => s.eccCorrect (slotAddr e.slot + o)) s

/-- Events of `l` that are still pending, each examined by `f` in order. -/
def State.eachEvent (s : State) (l : List GEvent) (f : GEvent → State → State) : State :=
  l.foldl (fun s e =>
    match s.eventAt e.slot with
    | some e' => if e'.order == e.order then f e' s else s
    | none => s) s

/-! ## Prediction from angle (R104 to R107) -/

/-- ANG_STAT.VALID of an axis. -/
def State.angValid (s : State) (x : Fin 8) : Bool := s.bit ANG_STAT x.val ANG_STAT_VALID

/-- The distance of an angle event from its axis's angle in 2⁻³² turn (R104). -/
def State.angDist (s : State) (e : GEvent) : Int :=
  wrapS 48 ((e.angleStamp : Int) - ((vget s.trk e.axis).a.toNat / 2 ^ 16 : Nat))

/-- An angle event is committed: its tag advances (R100). -/
def State.commitEvent (s : State) (e : GEvent) (f : GEvent → GEvent) : State :=
  (s.modEvent e.slot fun e => f { e with committed := true }).bumpTag e.slot

/-- An angle event falls due at once with crossing lateness `lc` (R106). -/
def State.dueNow (s : State) (e : GEvent) (lc : Nat) (exempt : Bool) : State :=
  s.commitEvent e fun e => { e with due := some (s.firing, 0), lc := min 0xFFFF lc, exempt := exempt }

/-- Direction of an EITHER event from its distance (R104). -/
def eitherDir (d : Int) : Nat := if 0 < d then 0 else 1

/-- One event of an axis at an update of its tracker (R104, R106, R107). -/
def State.predictEvent (s : State) (e : GEvent) : State :=
  match s.slotFault e with
  | some s' => s'
  | none =>
    let s := s.slotCorrect e
    let d := s.angDist e
    if 32767 * 2 ^ 32 ≤ d.natAbs then
      (s.flag GAL_AX_STAT e.axis.val GAL_AX_STAT_RANGE).endEvent e stTIMEOUT 0 false
    else if !s.angValid e.axis then s
    else if e.dir = 2 ∧ d = 0 then s.dueNow e 0 true
    else
      let dir := if e.dir = 2 then eitherDir d else e.dir
      let s := s.modEvent e.slot fun e => { e with dir := dir }
      let sg : Int := if dir = 0 then 1 else -1
      let t := vget s.trk e.axis
      let w := sx 48 t.w.toNat / 2 ^ 16
      let c := sx 48 t.c.toNat / 2 ^ 16
      let ds := sg * d
      let ws := sg * w
      let wmin : Int := (s.reg GAL_AX_CFG e.axis.val).toNat
      if ds ≤ 0 then
        if wmin ≤ ws ∧ 0 < ws then s.dueNow e ((-ds * 2 ^ 16).tdiv ws * 320 / 2 ^ 16).toNat false
        else s.dueNow e 0 true
      else if ws < wmin ∨ ws ≤ 0 then s
      else
        let t1 := (ds * 2 ^ 16).tdiv ws
        if t1 ≤ 157286 then
          let corr := sg * c * t1 * t1 / 2 ^ 49
          let t2 := max 0 (t1 - (corr * 2 ^ 16).tdiv ws)
          if t2 ≤ 78643 then
            s.commitEvent e fun e => { e with instant := some (s.stamp + (t2 * 640 * s.time.inc.toNat / 2 ^ 40).toNat) }
          else s
        else s

/-- ANGLE_PREDICTION: every pending, uncommitted angle event of an axis is examined at an update of its tracker (R104). -/
def State.predictAxis (s : State) (x : Fin 8) : State :=
  s.eachEvent (s.gal.events.filter fun e => e.angle && e.axis == x && !e.committed) fun e s => s.predictEvent e

/-- ANGLE_EVENT_HOLD: when VALID of an axis falls, its uncommitted MUSTNOT_LATE events end with LATE (R105). -/
def State.angleHold (s : State) (x : Fin 8) : State :=
  s.eachEvent (s.gal.events.filter fun e => e.angle && e.axis == x && !e.committed && e.mustNotLate) fun e s =>
    s.endEvent e stLATE 0 false

/-! ## Submission (R97 to R99) -/

/-- The checks of R98 in order; the chamber of the event is the owner of its home ring (R92). -/
def State.checkSub (s : State) (u : Sub) : Nat :=
  let action := GAL_SUB_W2_ACTION.get u.w2
  let ring := GAL_SUB_W2_HRING.get u.w2
  let angle := GAL_SUB_W2_DOMAIN.get u.w2 == 1
  let arg (hi lo : Nat) : Nat := (⟨hi, lo⟩ : Fld).get u.w3
  let c := s.ringOwner ring
  if 0xA ≤ action || (angle && (⟨17, 16⟩ : Fld).get u.w1 == 3) || (action == 2 && 95 < arg 30 24) ||
      (action == 8 && 4 < arg 2 0) || (action == 7 && !s.bit GAL_RING_BASE (arg 13 0) GAL_RING_BASE_TXR) ||
      !s.ringRx ring || (angle && !s.bit ANG_CFG (GAL_SUB_W2_AXIS.get u.w2) ANG_CFG_EN) then stBAD_TARGET
  else if (u.chamber != 0 && u.chamber != c) || (c != 0 && (s.targetOwners action u.w3).any (· != c)) ||
      !s.ownsShare (s.engineOf action u.w3 ring) c then stPERM
  else if s.maxSlots c ≤ s.useOf c then stQUOTA
  else if s.rsv c ≤ s.useOf c && s.poolEmpty then stFULL
  else stOK

/-- A free slot: the first one from `n` on (R90 leaves the choice open). -/
def freeSlotFrom (used : List Nat) : Nat → Nat → Nat
  | 0, n => n
  | k + 1, n => if used.contains n then freeSlotFrom used k ((n + 1) % slotCount) else n

/-- An event that is already near or due when it is accepted (R103, R104, R106, R112). -/
def State.acceptNow (s : State) (e : GEvent) : State :=
  if !e.angle then (if s.isNear e.timeStamp then s.commitEvent e id else s)
  else if !s.angValid e.axis then s
  else
    let d := s.angDist e
    if e.dir = 2 then
      if d = 0 then s.dueNow e 0 true else s.modEvent e.slot fun e => { e with dir := eitherDir d }
    else if (if e.dir = 0 then d else -d) ≤ 0 then s.dueNow e 0xFFFF false
    else s

/-- An event is accepted into slot `n` (R90, R92). -/
def State.acceptSub (s : State) (u : Sub) (n : Nat) : State :=
  let ring := GAL_SUB_W2_HRING.get u.w2
  let e : GEvent :=
    { slot := n, w0 := u.w0, w1 := u.w1, w2 := u.w2, w3 := u.w3, chamber := s.ringOwner ring
      engine := Fin.ofNat 4 (s.engineOf (GAL_SUB_W2_ACTION.get u.w2) u.w3 ring), order := s.gal.order
      dir := (⟨17, 16⟩ : Fld).get u.w1, committed := false, instant := none, due := none, lc := 0, exempt := false
      issued := none, held := false, span := none, doomed := false }
  let s1 := s.pokeWords (slotAddr n) [u.w0, u.w1, u.w2, u.w3]
  let s2 := s1.modGal fun g => { g with events := g.events ++ [e], order := g.order + 1 }
  (s2.countSlot e.chamber ring (if e.angle then some e.axis.val else none) true).acceptNow e

/-- The agent has a submission that is not decided (R97). -/
def State.subPending (s : State) (ag : Agent) : Bool := s.gal.waiting.any fun u => u.agent == ag

/-- A submission joins the queue (R97); SUBMIT loads the staging registers (R192). -/
def State.submit (s : State) (u : Sub) : State :=
  let id := agentId u.agent
  let s1 := (((s.setRegA GAL_SUB_W0 id 0 u.w0).setRegA GAL_SUB_W1 id 0 u.w1).setRegA GAL_SUB_W2 id 0 u.w2).setRegA
    GAL_SUB_W3 id 0 u.w3
  s1.modGal fun g => { g with waiting := g.waiting ++ [u] }

/-- GAL_SUB_GO written (R97). -/
def State.writeGo (s : State) (ag : Agent) (v : Word) : State :=
  if GAL_SUB_GO_GO.get v = 1 then
    let id := agentId ag
    s.submit { agent := ag, chamber := chamberOf s ag, w0 := s.regA GAL_SUB_W0 id 0, w1 := s.regA GAL_SUB_W1 id 0
               w2 := s.regA GAL_SUB_W2 id 0, w3 := s.regA GAL_SUB_W3 id 0, src := .reg }
  else s

/-- SUBMISSION (R97). A cell reaches the register through its submit port (R159). -/
def execSubmission (ag : Agent) (v : Word) (s : State) : Host.Outcome State Fault Refusal :=
  ok (match ag with
    | .cell _ => s.writeGo ag v
    | _ => s.asWrite ag GAL_SUB_GO 0 fun s => s.writeGo ag v)

/-- The next chamber after `c`, round robin, that satisfies `p`. -/
def nextChamber (c : Nat) (p : Nat → Bool) : Option Nat := ((List.range 16).map fun i => (c + 1 + i) % 16).find? p

/-- The submission unit takes the next submission, round robin over the chambers (R99), and decides it (R98): the state, the
submission, its status, and the handle's tag and slot. -/
def State.takeSub (s : State) : Option (State × Sub × Nat × BitVec 8 × Nat) :=
  match nextChamber s.gal.served fun c => s.gal.waiting.any (·.chamber == c) with
  | none => none
  | some c =>
    match s.gal.waiting.find? (·.chamber == c) with
    | none => none
    | some u =>
      let s1 := s.modGal fun g => { g with waiting := g.waiting.erase u, served := c }
      let st := s1.checkSub u
      if st == stOK then
        let used := s1.gal.events.map (·.slot)
        let n := freeSlotFrom used used.length (s1.free.toNat % slotCount)
        let tag := s1.slotTag n
        some ((s1.used.acceptSub u n), u, stOK, tag, n)
      else some (s1, u, st, 0, 0)

/-! ## Cancellation (R100) -/

/-- GAL_CANCEL written (R100): the tag is checked first. -/
def State.cancel (s : State) (ag : Agent) (v : Word) : State :=
  let n := GAL_CANCEL_SLOT.get v
  let answer (s : State) (st : Nat) : State :=
    s.setRegA GAL_CANCEL_RES (agentId ag) 0 (GAL_CANCEL_RES_STATUS.put 0 st)
  match s.eventAt n with
  | none => answer s stSTALE_GEN
  | some e =>
    if (s.slotTag n).toNat != GAL_CANCEL_TAG.get v || e.committed then answer s stSTALE_GEN
    else if chamberOf s ag != 0 && chamberOf s ag != e.chamber then answer s stPERM
    else answer (s.endEvent e stABORTED 0 false) stOK

/-- GAL_CANCEL (R100). -/
def execGalCancel (ag : Agent) (v : Word) (s : State) : Host.Outcome State Fault Refusal :=
  ok (s.asWrite ag GAL_CANCEL 0 fun s => s.cancel ag v)

/-! ## Commitment of time events (R103) -/

/-- TIME_EVENT_COMMIT (R103): the event in slot `n` is a time event whose due tick lies less than 64 firing ticks ahead. -/
def execTimeEventCommit (n : Fin 49152) (s : State) : Host.Outcome State Fault Refusal :=
  ok (match s.eventAt n.val with
    | none => s
    | some e =>
      if s.fabricOn && !e.angle && !e.committed && s.isNear e.timeStamp then
        match s.slotFault e with
        | some s' => s'
        | none => (s.slotCorrect e).commitEvent e id
      else s)

end Sys2Proof.Machine
end

