-- ==== Sys2Proof/Machine/Param.lean ====
section
/-! DEFINITION. The safety parameter set as the Grotto reads it (R437 to R441), the CRC-32 of IEEE 802.3, and the Grotto's
clock. -/

namespace Sys2Proof.Machine

/-! ## CRC-32 -/

/-- One bit of the reflected CRC-32. -/
def crcBit (c : Word) : Word := if c &&& 1 = 1 then (c >>> 1) ^^^ 0xEDB88320 else c >>> 1

/-- One byte of the reflected CRC-32. -/
def crcByte (c : Word) (b : Byte) : Word :=
  crcBit (crcBit (crcBit (crcBit (crcBit (crcBit (crcBit (crcBit (c ^^^ b.zeroExtend 32))))))))

/-- CRC-32 of IEEE 802.3 over bytes (R443). -/
def crc32 (l : List Byte) : Word := (l.foldl crcByte 0xFFFFFFFF) ^^^ 0xFFFFFFFF

/-- The little-endian bytes of a word. -/
def wordBytes (w : Word) : List Byte :=
  [w.extractLsb' 0 8, w.extractLsb' 8 8, w.extractLsb' 16 8, w.extractLsb' 24 8]

/-- CRC-32 over words taken as little-endian bytes. -/
def crcWords (l : List Word) : Word := crc32 (l.flatMap wordBytes)

/-! ## The set -/

/-- Bits [hi:lo] of the word at byte offset `off` of a set. -/
def parBits (p : SMap Word) (off hi lo : Nat) : Nat := (⟨hi, lo⟩ : Fld).get (smGet 0 p (off / 4))

/-- The set in force; with none, every record reads 0 (nothing is in use). -/
def State.set (s : State) : SMap Word := s.grt.cfg.getD []

/-- A field of the global record (R438). -/
def State.gRec (s : State) (off hi lo : Nat) : Nat := parBits s.set off hi lo
/-- A field of the record of axis `x` (R439). -/
def State.aRec (s : State) (x off hi lo : Nat) : Nat := parBits s.set (0x100 + 0x100 * x + off) hi lo
/-- A signed 16-bit field of the record of axis `x`. -/
def State.aRecS (s : State) (x off hi lo : Nat) : Int := sx 16 (s.aRec x off hi lo)
/-- A field of the record of pair `k` (R440). -/
def State.pRec (s : State) (k off hi lo : Nat) : Nat := parBits s.set (0x900 + 0x10 * k + off) hi lo
/-- A field of the record of cross link `k` (R441). -/
def State.xRec (s : State) (k off hi lo : Nat) : Nat := parBits s.set (0xA00 + 0x40 * k + off) hi lo
/-- A field of the record of heartbeat channel `c` (R441). -/
def State.hRec (s : State) (c off hi lo : Nat) : Nat := parBits s.set (0xB00 + 8 * c + off) hi lo

/-- An axis is in use (R439). -/
def State.axUse (s : State) (x : Nat) : Bool := s.aRec x 0 0 0 == 1
/-- The bridges of an axis, one bit each. -/
def State.axBridges (s : State) (x : Nat) : Nat := s.aRec x 0 31 16
/-- Bridge `k` belongs to axis `x`. -/
def State.ofAxis (s : State) (x k : Nat) : Bool := s.axUse x && bitN (s.axBridges x) k
/-- The axis that bridge `k` belongs to under the set in force (R381). -/
def State.bridgeAxis (s : State) (k : Nat) : Option Nat := (List.range 8).find? fun x => s.ofAxis x k
/-- The region of an axis's bridges. -/
def State.axRegion (s : State) (x : Nat) : Option Nat :=
  ((List.range 16).find? fun k => s.ofAxis x k).map (· / 4)
/-- The ASC dead time of a bridge in u of 195.3125 ps, not less than ASCDT ns (R290). -/
def State.ascDead (s : State) (k : Nat) : Nat :=
  match s.bridgeAxis k with
  | some x => (s.aRec x 0x0C 15 0 * 128 + 24) / 25
  | none => 0
/-- The safe pattern turns off a region's AUX legs too (AUXOFF, R438). -/
def State.auxOff (s : State) (r : Nat) : Bool := bitN (s.gRec 0x10 3 0) r

/-! ## The Grotto's clock -/

/-- The Grotto's microseconds since its reset. -/
def State.us (s : State) : Nat := s.grt.clk / 3200

/-- The Grotto changed. -/
def State.modGrt (s : State) (f : Grotto → Grotto) : State := { s with grt := f s.grt }

/-- A Grotto axis. -/
def State.gax (s : State) (x : Nat) : GAxis := vget s.grt.axis (Fin.ofNat 8 x)

/-- A Grotto axis changed. -/
def State.modAx (s : State) (x : Nat) (f : GAxis → GAxis) : State :=
  s.modGrt fun g => { g with axis := vset g.axis (Fin.ofNat 8 x) (f (vget g.axis (Fin.ofNat 8 x))) }

end Sys2Proof.Machine
end

