-- ==== Sys2Proof/Machine/Pwm.lean ====
section
/-! DEFINITION. The PWM back end (R265 to R293): the stages of an output, patterns, load-all commits, and the writes of its
registers. Instants are counted in units u of 195.3125 ps; the present fabric tick begins at `nowU`. -/

namespace Sys2Proof.Machine

/-! ## Units -/

/-- The present fabric tick in u (R265). -/
def State.nowU (s : State) : Nat := 8 * s.tick
/-- An instant has arrived by the end of the present fabric tick. -/
def State.dueU (s : State) (t : Nat) : Bool := decide (t < 8 * (s.tick + 1))
/-- Bridge k. -/
def State.br (s : State) (k : Fin 16) : Bridge := vget s.bridge k
/-- A bridge changed. -/
def State.modBr (s : State) (k : Fin 16) (f : Bridge → Bridge) : State :=
  { s with bridge := vset s.bridge k (f (vget s.bridge k)) }
/-- An output of a bridge changed. -/
def State.modOut (s : State) (k : Fin 16) (i : Fin 6) (f : POut → POut) : State :=
  s.modBr k fun b => { b with outs := vset b.outs i (f (vget b.outs i)) }
/-- The group a bridge belongs to (R267). -/
def State.bgrp (s : State) (k : Fin 16) : Fin 32 := Fin.ofNat 32 (s.groupOf k.val)
/-- Group g. -/
def State.pg (s : State) (g : Fin 32) : PGroup := vget s.grp g
/-- A group changed. -/
def State.modPg (s : State) (g : Fin 32) (f : PGroup → PGroup) : State :=
  { s with grp := vset s.grp g (f (vget s.grp g)) }
/-- The bridges of a group. -/
def State.bridgesOf (s : State) (g : Fin 32) : List (Fin 16) := (List.finRange 16).filter fun k => s.bgrp k == g
/-- The group is started and enabled. -/
def State.running (s : State) (g : Fin 32) : Bool := s.bit PWM_GSTAT g.val PWM_GSTAT_RUN
/-- The committed source of a bridge: 0 CARRIER, 1 TABLE, 2 LIST (0b11 is treated as CARRIER). -/
def modeOf (w : Word) : Nat := if PWM_BMODE_MODE.get w = 3 then 0 else PWM_BMODE_MODE.get w
/-- The mode in force. -/
def State.bMode (s : State) (k : Fin 16) : Nat := modeOf (s.br k).act.bmode
/-- LMODE of a leg (R271). -/
def State.legMode (s : State) (k : Fin 16) (p : Fin 3) : Nat := (⟨13 + 2 * p.val, 12 + 2 * p.val⟩ : Fld).get (s.reg PWM_BCFG k.val)
/-- The leg of an output. -/
def legOf (i : Fin 6) : Fin 3 := Fin.ofNat 3 (i.val / 2)
/-- The high output of a leg. -/
def hiOf (p : Fin 3) : Fin 6 := Fin.ofNat 6 (2 * p.val)
/-- The low output of a leg. -/
def loOf (p : Fin 3) : Fin 6 := Fin.ofNat 6 (2 * p.val + 1)
/-- The leg is in AUX mode. -/
def State.isAux (s : State) (k : Fin 16) (p : Fin 3) : Bool := s.legMode k p == 3
/-- The Sump signal of a local leg (R350). -/
def State.sumpSig (s : State) (k : Fin 16) (p : Fin 3) : Bool :=
  let r := k.val / 4
  let leg := 3 * (k.val % 4) + p.val
  (s.fld SUMP_CFG r SUMP_CFG_CLEG == leg && s.bit SUMP_STAT r SUMP_STAT_CHOP) ||
    (s.fld SUMP_CFG r SUMP_CFG_DLEG == leg && s.bit SUMP_STAT r SUMP_STAT_DIS)

/-! ## Stages 1 to 3 -/

/-- The source request of an output (R271, R274). -/
def State.srcReq (s : State) (k : Fin 16) (i : Fin 6) : Bool :=
  let b := s.br k
  if s.bMode k = 2 then (vget b.outs i).src
  else
    let r := vget b.ref (legOf i)
    match s.legMode k (legOf i) with
    | 0 => if i.val % 2 = 0 then r else !r
    | 1 => i.val % 2 == 0 && r
    | 2 => i.val % 2 == 1 && r
    | _ => false

/-- The request after the output mask (R277); every request of a group that does not run is 0 (R268, R269). -/
def State.maskReq (s : State) (k : Fin 16) (i : Fin 6) : Bool :=
  s.running (s.bgrp k) &&
    (if s.bit PWM_BCFG k.val PWM_BCFG_MEN then
      match s.fld PWM_MASK (8 * k.val + s.fld PWM_BSTAT k.val PWM_BSTAT_MIDX) (fldAt 2 i.val) with
      | 1 => s.srcReq k i
      | 2 => true
      | _ => false
    else s.srcReq k i)

/-- The minimum-pulse filter acts on edges of a TABLE or LIST bridge (R278). -/
def State.stretches (s : State) (k : Fin 16) : Bool :=
  s.bMode k != 0 && (s.fld PWM_BCFG k.val PWM_BCFG_MPMODE == 1 || s.fld PWM_BCFG k.val PWM_BCFG_MPMODE == 2)

/-- The instant at which a change asked for `t` may take place, after a change at `last` (R274, R278). -/
def State.holdOff (s : State) (k : Fin 16) (last : Option Nat) (t : Nat) : Nat :=
  match last with
  | none => t
  | some c =>
    let t1 := if s.stretches k then max t (c + s.fld PWM_MINP k.val PWM_MINP_MINP) else t
    if t1 / 16 = c / 16 then t1 + 16 else t1

/-- The filtered request of an output follows level `v`, asked for instant `t`: at once, or later behind changes already
held back. -/
def State.askReq (s : State) (k : Fin 16) (i : Fin 6) (t : Nat) (v : Bool) : State :=
  let o := vget (s.br k).outs i
  let last := match o.held.getLast? with
    | some (_, l) => l
    | none => o.req
  if last = v then s
  else if o.held.isEmpty then
    let e := s.holdOff k o.chgAt t
    if e = t then s.modOut k i fun o => { o with req := v, chgAt := some t }
    else (s.modOut k i fun o => { o with held := [(e, v)] }).flag PWM_BSTAT k.val PWM_BSTAT_DEFER
  else (s.modOut k i fun o => { o with held := o.held ++ [(t, v)] }).flag PWM_BSTAT k.val PWM_BSTAT_DEFER

/-- Requests of all outputs follow their masked sources at instant `t`. -/
def State.askAll (s : State) (k : Fin 16) (t : Nat) : State :=
  (List.finRange 6).foldl (fun s i => if s.isAux k (legOf i) then s else s.askReq k i t (s.maskReq k i)) s

/-! ## Stage 4 -/

/-- The local pattern orders all outputs off: the highest rank present decides (R286, R287). -/
def State.patOff (s : State) (k : Fin 16) : Bool :=
  let g := s.bgrp k
  if (s.br k).trip then true
  else if (s.pg g).abort then s.bit PWM_GCTL g.val PWM_GCTL_ABPAT || s.bMode k == 2
  else
    match (s.pg g).mig with
    | some (_, hold, _) => !hold || s.bMode k == 2
    | none => false

/-- The input of the interlock (R271, R286). -/
def State.stage4 (s : State) (k : Fin 16) (i : Fin 6) : Bool :=
  if s.isAux k (legOf i) then i.val % 2 == 0 && s.sumpSig k (legOf i)
  else !s.patOff k && (vget (s.br k).outs i).req

/-! ## Stage 5: interlock and dead time (R279, R280) -/

/-- An output whose input is 0 turns off at `t`. -/
def POut.fall (o : POut) (t : Nat) : POut :=
  { o with inp := false, out := false, offAt := if o.out then some t else o.offAt, onAt := none }

/-- When an output whose input is 1 may turn on: `none` while its partner is on. -/
def onTime (t : Nat) (partner : POut) (dead : Nat) : Option Nat :=
  if partner.out then none
  else some (match partner.offAt with
    | some f => max t (f + dead)
    | none => t)

/-- An output whose input is 1 waits for its instant; `fresh` where the waiting begins anew. -/
def POut.rise (o : POut) (t : Nat) (partner : POut) (dead : Nat) (fresh : Bool) : POut :=
  if o.out then { o with inp := true }
  else
    { o with inp := true
             onAt := if o.inp && !fresh && o.onAt.isSome && !partner.out then o.onAt else onTime t partner dead }

/-- What the interlock of a leg leaves. -/
structure LegOut where
  hi     : POut
  lo     : POut
  shoot  : Bool
  /-- ABSORB and SHOOT are to be set. -/
  absorb : Bool
  both   : Bool

/-- The interlock of a leg at instant `t`: falls first, then rises, then the turn-ons whose instants have come. -/
def legStep (t dtr dtf : Nat) (hi lo : POut) (inH inL shoot : Bool) : LegOut :=
  let absorb := !shoot && ((hi.inp && !hi.out && !inH) || (lo.inp && !lo.out && !inL))
  let h1 := if inH then hi else hi.fall t
  let l1 := if inL then lo else lo.fall t
  let kept := shoot && inH && inL
  let fresh := shoot && !kept
  let h2 := if inH then h1.rise t l1 dtr fresh else h1
  let l2 := if inL then l1.rise t h1 dtf fresh else l1
  let meet := inH && inL && !h2.out && !l2.out && !kept &&
    (match h2.onAt, l2.onAt with
      | some a, some b => a / 16 == b / 16 && decide (a / 16 ≤ t / 16)
      | _, _ => false)
  if kept || meet then
    { hi := { h2 with onAt := none }, lo := { l2 with onAt := none }, shoot := true, absorb := absorb, both := meet }
  else
    let due (o : POut) : Bool := match o.onAt with
      | some a => decide (a ≤ t)
      | none => false
    if due h2 && !l2.out then
      { hi := { h2 with out := true, onAt := none }, lo := { l2 with onAt := none }, shoot := false, absorb := absorb
        both := false }
    else if due l2 && !h2.out then
      { hi := { h2 with onAt := none }, lo := { l2 with out := true, onAt := none }, shoot := false, absorb := absorb
        both := false }
    else { hi := h2, lo := l2, shoot := false, absorb := absorb, both := false }

/-! ## Stage 6: the safe pattern (R290) -/

/-- The gate of an output goes off at `t`. -/
def POut.gateFall (o : POut) (t : Nat) : POut :=
  { o with gate := false, gateOff := if o.gate then some t else o.gateOff, gateOn := none }

/-- A gate that the pattern turns on waits for its instant. -/
def POut.gateRise (o : POut) (t : Nat) (partner : POut) (dead : Nat) : POut :=
  if o.gate then o
  else if partner.gate then { o with gateOn := none }
  else
    { o with gateOn := match o.gateOn with
      | some a => some a
      | none => some (match partner.gateOff with
        | some f => max t (f + dead)
        | none => t) }

/-- A gate whose instant has come turns on, never beside its partner. -/
def POut.gateDue (o : POut) (t : Nat) (partner : POut) : POut :=
  match o.gateOn with
  | some a => if a ≤ t && !partner.gate then { o with gate := true, gateOn := none } else o
  | none => o

/-- The gates of a leg at `t` under a pattern, or following the interlock. -/
def gateStep (t dead : Nat) (hi lo : POut) (pat : Option (Bool × Bool)) : POut × POut :=
  match pat with
  | none =>
    let h1 := if hi.out then hi else hi.gateFall t
    let l1 := if lo.out then lo else lo.gateFall t
    let h2 := if hi.out && !l1.gate then { h1 with gate := true, gateOn := none } else h1
    let l2 := if lo.out && !h2.gate then { l1 with gate := true, gateOn := none } else l1
    (h2, l2)
  | some (ph, pl) =>
    let h1 := if ph then hi else hi.gateFall t
    let l1 := if pl then lo else lo.gateFall t
    let h2 := if ph then h1.gateRise t l1 dead else h1
    let l2 := if pl then l1.gateRise t h1 dead else l1
    let h3 := h2.gateDue t l2
    (h3, l2.gateDue t h3)

/-- The pattern over a leg (R290, R350): an AUX leg passes unless the set orders it off; a released bridge stays off. -/
def State.legPat (s : State) (k : Fin 16) (p : Fin 3) : Option (Bool × Bool) :=
  let b := s.br k
  if s.isAux k p then
    if b.safe.isSome && s.auxOff (k.val / 4) then some (false, false) else none
  else
    match b.safe with
    | some m => some (m.getLsbD (2 * p.val), m.getLsbD (2 * p.val + 1))
    | none => if b.released then some (false, false) else none

/-- A leg settles at instant `t` through stages 4 to 6. -/
def State.settleLeg (s : State) (k : Fin 16) (t : Nat) (p : Fin 3) : State :=
  let b := s.br k
  let dt := s.reg PWM_DT (3 * k.val + p.val)
  let o := legStep t (PWM_DT_DTR.get dt) (PWM_DT_DTF.get dt) (vget b.outs (hiOf p)) (vget b.outs (loOf p))
    (s.stage4 k (hiOf p)) (s.stage4 k (loOf p)) (vget b.shoot p)
  let g := gateStep t (s.ascDead k.val) o.hi o.lo (s.legPat k p)
  let drive : BitVec 6 := match b.safe with
    | some _ => (if g.1.gate then 1#6 <<< (2 * p.val) else 0) ||| (if g.2.gate then 1#6 <<< (2 * p.val + 1) else 0)
    | none => 0
  let s1 := s.modBr k fun b =>
    { b with outs := vset (vset b.outs (hiOf p) g.1) (loOf p) g.2, shoot := vset b.shoot p o.shoot, pads := b.pads ||| drive }
  let s2 := if o.absorb then s1.flag PWM_BSTAT k.val PWM_BSTAT_ABSORB else s1
  if o.both then s2.flag PWM_BSTAT k.val PWM_BSTAT_SHOOT else s2

/-- A bridge settles at instant `t`. -/
def State.settleBr (s : State) (k : Fin 16) (t : Nat) : State := (List.finRange 3).foldl (fun s p => s.settleLeg k t p) s

/-- The requests follow their sources and the bridge settles. -/
def State.refreshBr (s : State) (k : Fin 16) (t : Nat) : State := (s.askAll k t).settleBr k t

/-- The level at a G ball: `none` for high impedance before first use (R607). -/
def State.gBall (s : State) (k : Fin 16) (i : Fin 6) : Option Bool :=
  let b := s.br k
  if b.pads.getLsbD i.val then some ((vget b.outs i).gate != b.pol.getLsbD i.val) else none

/-! ## Queues (R274, R275) -/

/-- The edge queues of a bridge are emptied; the entries are counted in QDROP. -/
def State.dropQueues (s : State) (k : Fin 16) : State :=
  let n := (List.finRange 6).foldl (fun n i => n + (vget (s.br k).outs i).queue.length) 0
  let s1 := s.modBr k fun b => { b with outs := b.outs.map fun o => { o with queue := [] } }
  s1.setFld PWM_BSTAT k.val PWM_BSTAT_QDROP (incSat 8 (s1.fld PWM_BSTAT k.val PWM_BSTAT_QDROP) n)

/-- A PWM_EDGE reaches an output; `none` where it cannot accept it (R275). -/
def State.pwmEdge (s : State) (k : Fin 16) (i : Fin 6) (level : Bool) (t : Nat) : Option State :=
  if s.bMode k != 2 || 32 ≤ (vget (s.br k).outs i).queue.length then none
  else some (s.modOut k i fun o => { o with queue := o.queue ++ [(t, level)] })

/-! ## Patterns (R286 to R290) -/

/-- A bridge trips with cause `cause` (R288). -/
def State.tripBr (s : State) (k : Fin 16) (cause : Nat) : State :=
  (((s.flag PWM_BSTAT k.val PWM_BSTAT_TRIP).setFld PWM_BSTAT k.val PWM_BSTAT_TCAUSE cause).modBr k fun b =>
    { b with trip := true, ssdAt := none }).settleBr k s.nowU

/-- The bridges of a group settle; where HOLD acts as OFF on a LIST bridge, its queues are emptied (R287). -/
def State.patternSet (s : State) (g : Fin 32) : State :=
  (s.bridgesOf g).foldl (fun s k =>
    (if s.bMode k = 2 then s.dropQueues k else s).settleBr k s.nowU) s

/-- The abort pattern of a group is set (R286, R289). -/
def State.abortGroup (s : State) (g : Fin 32) : State :=
  ((s.flag PWM_GSTAT g.val PWM_GSTAT_ABORT).modPg g fun p => { p with abort := true }).patternSet g

/-- The migration pattern of a group is set for logical cell `c` (R221, R286). -/
def State.migGroup (s : State) (g : Fin 32) (c : Nat) (hold : Bool) : State :=
  (s.modPg g fun p => { p with mig := some (c, hold, s.tick) }).patternSet g

/-- The Grotto's pattern over a bridge, or its release (R290). -/
def State.orderBr (s : State) (k : Fin 16) (pat : Option (BitVec 6)) : State :=
  let b := s.br k
  let rel := match pat with
    | some _ => false
    | none => b.safe.isSome || b.released
  (s.modBr k fun b => { b with safe := pat, released := rel }).settleBr k s.nowU

/-! ## Load-all commits (R281 to R285) -/

/-- The outcome of a request that spans several units (R52). -/
def Multi.outcome (m : Multi) : Nat × Nat :=
  let mask := m.fails.foldl (fun n f => n ||| 2 ^ f.1) 0
  if m.fails.isEmpty then (stOK, 0)
  else if mask = m.asked.toNat then
    (((m.fails.foldl (fun (best : Option (Nat × Nat)) f =>
      match best with
      | none => some f
      | some b => if f.1 < b.1 then some f else some b) none).getD (0, stOK)).2, mask)
  else (stPARTIAL, mask)

/-- A unit of a request is decided. -/
def Multi.decide (m : Multi) (u status : Nat) : Multi :=
  { m with open_ := m.open_ &&& ~~~(1#16 <<< u), fails := if status = stOK then m.fails else m.fails ++ [(u, status)] }

/-- PWM_LARES of an agent in region `r` shows its request (R285). -/
def State.showLares (s : State) (r id : Nat) (m : Multi) : State :=
  let v : Word :=
    if m.open_ = 0 then PWM_LARES_MASK.put (PWM_LARES_STATUS.put 0 m.outcome.1) m.outcome.2
    else PWM_LARES_BUSY.put 0 1
  s.setRegA PWM_LARES id r v

/-- Group `g` is decided for one requester (R284, R285, R96). -/
def State.decideFor (s : State) (g : Fin 32) (status : Nat) (q : Requester) : State :=
  match q with
  | .agent id =>
    let key := 256 * (g.val / 8) + id
    match s.gal.loadall.find? (·.1 == key) with
    | none => s
    | some (_, m) =>
      let m' := m.decide (g.val % 8) status
      (s.modGal fun l => { l with loadall := smSet l.loadall key m' }).showLares (g.val / 8) id m'
  | .slot n =>
    match s.eventAt n with
    | none => s
    | some e =>
      match e.span with
      | none => s
      | some m =>
        let m' := m.decide (g.val % 8) status
        if m'.open_ = 0 then s.endEvent e m'.outcome.1 m'.outcome.2 false
        else s.modEvent n fun e => { e with span := some m' }

/-- PEND of a group follows its requests. -/
def State.showPend (s : State) (g : Fin 32) : State :=
  s.setBit PWM_GSTAT g.val PWM_GSTAT_PEND (!(s.pg g).reqs.isEmpty || !(s.pg g).late.isEmpty)

/-- The start stamp of a group in 1/256 ns (R268). -/
def State.startStamp (s : State) (g : Fin 32) : Nat :=
  ((s.reg PWM_GSTART_HI g.val).toNat * 2 ^ 32 + (s.reg PWM_GSTART_LO g.val).toNat) * 256 +
    s.fld PWM_GCTL g.val PWM_GCTL_STARTFR

/-- An armed group reaches B_0 in less than 100 ns (32 firing ticks), judged at the increment in force (R268, R282). -/
def State.startSoon (s : State) (g : Fin 32) : Bool :=
  (s.pg g).armed &&
    ((s.pg g).lateAt.isSome || decide ((s.startStamp g : Int) * 2 ^ 24 - s.time.now.toNat < 64 * s.time.inc.toNat))

/-- A commit request reaches a group (R282 to R284). -/
def State.requestCommit (s : State) (g : Fin 32) (q : Requester) : State :=
  if !s.bit PWM_GCTL g.val PWM_GCTL_EN then
    (s.flag PWM_GSTAT g.val PWM_GSTAT_CFAIL).decideFor g stTIMEOUT q
  else
    let p := s.pg g
    let inTime := if s.running g then decide (s.nowU + 512 ≤ p.bnd + max 1024 (PWM_GPER_PER.get p.gper)) else !s.startSoon g
    (s.modPg g fun p => if inTime then { p with reqs := p.reqs ++ [q] } else { p with late := p.late ++ [q] }).showPend g

/-- A load-all request of an agent in region `r` (R282, R285): it replaces the agent's report. -/
def State.writeLoadall (s : State) (r : Fin 4) (id : Nat) (mask : Nat) : State :=
  let m : Multi := { asked := BitVec.ofNat 16 mask, open_ := BitVec.ofNat 16 mask, fails := [] }
  let mine : Requester → Bool := fun q => q == .agent id
  let s1 := (List.range 8).foldl (fun s g => s.modPg (Fin.ofNat 32 (8 * r.val + g)) fun p =>
    { p with reqs := p.reqs.filter (!mine ·), late := p.late.filter (!mine ·) }) s
  let s2 := (s1.modGal fun l => { l with loadall := smSet l.loadall (256 * r.val + id) m }).showLares r.val id m
  ((List.range 8).filter (bitN mask ·)).foldl (fun s g => s.requestCommit (Fin.ofNat 32 (8 * r.val + g)) (.agent id)) s2

/-- The shadows of a bridge. -/
def State.shadowOf (s : State) (k : Fin 16) : BAct :=
  { bmode := s.reg PWM_BMODE k.val
    duty := Vector.ofFn fun p : Fin 3 => BitVec.ofNat 16 (s.fld PWM_DUTY (3 * k.val + p.val) PWM_DUTY_DUTY)
    tab := Vector.ofFn fun e : Fin 12 => s.reg PWM_TAB (12 * k.val + e.val) }

/-- The shadows of a group. -/
def State.captureGrp (s : State) (g : Fin 32) : Snapshot :=
  { gper := s.reg PWM_GPER g.val, bridges := (s.bridgesOf g).map fun k => (k.val, s.shadowOf k) }

/-- Table entry 4 × leg + e: its offset and level where it is valid in a period of `per` (R273). -/
def tabEntry (w : Word) (per : Nat) : Option (Nat × Bool) :=
  if PWM_TAB_V.get w = 1 ∧ PWM_TAB_OFS.get w < per then some (PWM_TAB_OFS.get w, PWM_TAB_LEVEL.get w == 1) else none

/-- The level of a leg's valid entry with the largest offset (R273). -/
def lastLevel (tab : Vector Word 12) (per : Nat) (p : Fin 3) : Bool :=
  ((List.range 4).foldl (fun (best : Option (Nat × Bool)) e =>
    match tabEntry tab[4 * p.val + e]! per, best with
    | some x, some b => if b.1 ≤ x.1 then some x else some b
    | some x, none => some x
    | none, b => b) none).elim false (·.2)

/-- The period in force, in u. -/
def State.perOf (s : State) (g : Fin 32) : Nat := max 1024 (PWM_GPER_PER.get (s.pg g).gper)

/-- The first commit after a release lets a bridge's outputs go (R290): they are off, so its interlock begins anew from the
instants at which their gates went off (R279). -/
def State.endRelease (s : State) (k : Fin 16) : State :=
  if (s.br k).released then
    s.modBr k fun b =>
      { b with released := false, shoot := Vector.replicate 3 false
               outs := Vector.ofFn fun i =>
                 let o := vget b.outs i
                 if s.isAux k (legOf i) then o else { o with out := false, onAt := none, offAt := o.gateOff } }
  else s

/-- A bridge takes its captured shadows (R273, R275, R277); `first` at B_0, which no period of the bridge precedes. -/
def State.commitBr (s : State) (k : Fin 16) (a : BAct) (per : Nat) (first : Bool) : State :=
  let old := s.bMode k
  let new := modeOf a.bmode
  let s0 := s.endRelease k
  let s1 := if old = 2 ∧ new ≠ 2 then s0.dropQueues k else s0
  let s2 := s1.modBr k fun b =>
    { b with act := a
             ref := if new = 1 ∧ (old ≠ 1 ∨ first = true) then Vector.ofFn fun p => lastLevel a.tab per p else b.ref
             outs := if new = 2 ∧ old ≠ 2 then b.outs.map fun o => { o with src := false, req := false, held := [] }
               else if new ≠ old then b.outs.map fun o => { o with held := [] } else b.outs }
  if PWM_BMODE_MSH.get a.bmode = 1 then s2.setFld PWM_BSTAT k.val PWM_BSTAT_MIDX (PWM_BMODE_MIDX.get a.bmode) else s2

/-- A comparator's trip output acts on bridge `k` (R339, R345). -/
def State.cmpTrips (s : State) (c : Fin 64) (k : Fin 16) : Bool :=
  let cfg := s.reg CMP_CFG c.val
  let rt := s.reg CMP_ROUTE c.val
  let src := CMP_ROUTE_TSRC.get rt
  c.val / 16 == k.val / 4 && bitN (CMP_ROUTE_TRIPB.get rt) (k.val % 4) && CMP_CFG_EN.get cfg == 1 &&
    (CMP_CFG_TEST.get cfg == 0 || CMP_CFG_TEST.get cfg == 3) && (vget s.settle c).isNone &&
    ((bitN src 0 && s.bit CMP_STAT c.val CMP_STAT_HI) || (bitN src 1 && s.bit CMP_STAT c.val CMP_STAT_LO))

/-- The gate-driver links of a bridge. -/
def linksOf (k : Fin 16) : List (Fin 48) := (List.range 3).map fun p => Fin.ofNat 48 (3 * k.val + p)

/-- A lasting cause of a trip is present (R288): a comparator's output, or a required link that is not UP. -/
def State.tripCause (s : State) (k : Fin 16) : Option Nat :=
  if (List.finRange 64).any fun c => s.cmpTrips c k then some 1
  else if (linksOf k).any fun j => s.bit GDL_CFG j.val GDL_CFG_REQ && s.fld GDL_STAT j.val GDL_STAT_LINK != 2 then some 3
  else none

/-- Patterns that end at a commit of a group (R286, R290). -/
def State.liftPatterns (s : State) (g : Fin 32) : State :=
  let p := s.pg g
  let s1 := if p.abort && !s.bit PWM_GSTAT g.val PWM_GSTAT_ABORT then s.modPg g fun p => { p with abort := false } else s
  let s2 := match p.mig with
    | some (c, _, _) => if s1.lstate (Fin.ofNat 128 c) == 1 then s1.modPg g fun p => { p with mig := none } else s1
    | none => s1
  (s2.bridgesOf g).foldl (fun s k =>
    if (s.br k).trip && !s.bit PWM_BSTAT k.val PWM_BSTAT_TRIP && (s.tripCause k).isNone then
      s.modBr k fun b => { b with trip := false }
    else s) s2

/-- A group commits its captured shadows (R284), at B_0 where `first`. -/
def State.commitGrp (s : State) (g : Fin 32) (first : Bool) : State :=
  let snap := (s.pg g).snap.getD (s.captureGrp g)
  let s1 := s.modPg g fun p => { p with gper := snap.gper }
  let s2 := snap.bridges.foldl (fun s e => s.commitBr (Fin.ofNat 16 e.1) e.2 (s.perOf g) first) s1
  (s2.liftPatterns g).countWrap PWM_GSTAT g.val PWM_GSTAT_COMMITS

/-- The result of a commit of a group at a boundary (R284). -/
def State.judgeCommit (s : State) (g : Fin 32) : Nat :=
  if s.bit PWM_GSTAT g.val PWM_GSTAT_ABORT then stABORTED
  else if (s.bridgesOf g).any fun k => (s.br k).safe.isSome then stTIMEOUT
  else
    match (s.pg g).mig with
    | some (c, _, _) => if s.lstate (Fin.ofNat 128 c) == 1 then stOK else stTIMEOUT
    | none => stOK

/-! ## Periods (R268, R270, R272) -/

/-- The on-time of a leg in CARRIER mode (R272, R278). -/
def carrierOn (per duty mpmode minp : Nat) : Nat :=
  let on := if duty = 0xFFFF then per else duty * per / 2 ^ 16
  if mpmode = 1 then
    if 0 < on ∧ on < minp then 0 else if 0 < per - on ∧ per - on < minp then per else on
  else if mpmode = 2 then
    if 0 < on ∧ on < minp then min minp per
    else if 0 < per - on ∧ per - on < minp then per - min minp per
    else on
  else on

/-- A bridge begins a period at instant `t`: the carrier's references are computed (R272). -/
def State.beginBr (s : State) (k : Fin 16) (t : Nat) : State :=
  let g := s.bgrp k
  let per := s.perOf g
  let edge := PWM_GPER_CMODE.get (s.pg g).gper == 1
  let on (p : Fin 3) : Nat := carrierOn per (vget (s.br k).act.duty p).toNat (s.fld PWM_BCFG k.val PWM_BCFG_MPMODE)
    (s.fld PWM_MINP k.val PWM_MINP_MINP)
  let tOn (p : Fin 3) : Nat := if edge then 0 else (per - on p) / 2
  let s1 := s.modBr k fun b =>
    if modeOf b.act.bmode = 0 then
      { b with tOn := Vector.ofFn tOn, tOff := Vector.ofFn fun p => tOn p + on p
               ref := Vector.ofFn fun p => tOn p == 0 && decide (0 < on p), done := 0 }
    else { b with done := 0 }
  s1.refreshBr k t

/-- A period of a group begins at instant `t` (R268, R270). -/
def State.beginPeriod (s : State) (g : Fin 32) (t : Nat) : State :=
  let s1 := (s.modPg g fun p => { p with bnd := t, mid := false, snap := none }).setReg PWM_GBND g.val s.nsLo
  (s1.bridgesOf g).foldl (fun s k => s.beginBr k t) s1

/-- LOADALL_COMMIT: at a boundary a requested group is committed or fails (R284). -/
def State.boundaryCommit (s : State) (g : Fin 32) : State :=
  let p := s.pg g
  let s1 :=
    if p.reqs.isEmpty then s
    else
      let st := s.judgeCommit g
      let s2 := if st = stOK then s.commitGrp g false else s.flag PWM_GSTAT g.val PWM_GSTAT_CFAIL
      p.reqs.foldl (fun s q => s.decideFor g st q) s2
  (s1.modPg g fun p => { p with reqs := p.late, late := [] }).showPend g

/-! ## Enabling and disabling a group (R268, R269) -/

/-- EN = 0 (R269). -/
def State.disableGrp (s : State) (g : Fin 32) : State :=
  let p := s.pg g
  let s1 := (s.setBit PWM_GSTAT g.val PWM_GSTAT_RUN false).modPg g fun p =>
    { p with armed := false, lateAt := none, reqs := [], late := [], snap := none }
  let s2 := if p.reqs.isEmpty && p.late.isEmpty then s1
    else (p.reqs ++ p.late).foldl (fun s q => s.decideFor g stTIMEOUT q) (s1.flag PWM_GSTAT g.val PWM_GSTAT_CFAIL)
  (s2.bridgesOf g).foldl (fun s k =>
    ((s.dropQueues k).modBr k fun b =>
      { b with ref := Vector.replicate 3 false
               outs := b.outs.map fun o => { o with src := false, req := false, held := [] } }).settleBr k s.nowU)
    (s2.showPend g)

/-- PWM_GCTL written (R268, R269). -/
def State.writeGctl (s : State) (g : Fin 32) (v : Word) : State :=
  let old := s.bit PWM_GCTL g.val PWM_GCTL_EN
  let s1 := s.setReg PWM_GCTL g.val (v &&& 0xC0FF0000)
  let en := PWM_GCTL_EN.get v == 1
  if en && !old then
    if s1.isNear (s1.startStamp g) then
      (s1.modPg g fun p => { p with armed := true, lateAt := some ((s1.tick / 2 + 1) * 16) }).flag PWM_GSTAT g.val
        PWM_GSTAT_LATESTART
    else s1.modPg g fun p => { p with armed := true, lateAt := none }
  else if old && !en then s1.disableGrp g
  else (s1.bridgesOf g).foldl (fun s k => s.settleBr k s.nowU) s1

/-- The instant at which an armed group starts, if it has come (R268). -/
def State.startAt (s : State) (g : Fin 32) : Option Nat :=
  let p := s.pg g
  if !p.armed then none
  else
    match p.lateAt with
    | some t => if s.dueU t then some t else none
    | none =>
      if s.tick % 2 != 0 then none
      else
        match s.placeNear (s.startStamp g) with
        | some (d, ph) => if d < 0 then some s.nowU else if d = 0 then some (s.nowU + ph) else none
        | none => none

/-- The group's timebase begins at B_0 = `t`; its shadows are committed as a load-all commit would (R268, R284). -/
def State.startGrp (s : State) (g : Fin 32) (t : Nat) : State :=
  let s1 := (s.setBit PWM_GSTAT g.val PWM_GSTAT_RUN true).modPg g fun p => { p with armed := false, lateAt := none }
  let st := s1.judgeCommit g
  let rq := (s1.pg g).reqs
  let s2 := rq.foldl (fun s q => s.decideFor g st q)
    (if st = stOK then s1.commitGrp g true else s1.flag PWM_GSTAT g.val PWM_GSTAT_CFAIL)
  ((s2.modPg g fun p => { p with reqs := p.late, late := [] }).showPend g).beginPeriod g t

/-! ## Static configuration (R308) -/

/-- A bridge's static registers accept a write: its group has EN = 0. -/
def State.staticOpen (s : State) (k : Fin 16) : Bool := !s.bit PWM_GCTL (s.bgrp k).val PWM_GCTL_EN

/-- PWM_BCFG written (R308, R607): the pads take their copy of POL. -/
def State.writeBcfg (s : State) (k : Fin 16) (v : Word) : State :=
  ((s.setReg PWM_BCFG k.val (v &&& 0xFEFFF000)).modBr k fun b =>
    { b with pads := 0x3F, pol := BitVec.ofNat 6 (PWM_BCFG_POL.get v) }).refreshBr k s.nowU

/-- A write of PWM_BCFG is admitted (R308): the old and the new group have EN = 0. -/
def State.bcfgOpen (s : State) (k : Fin 16) (v : Word) : Bool :=
  s.staticOpen k && !s.bit PWM_GCTL (k.val / 4 * 8 + PWM_BCFG_GRP.get v) PWM_GCTL_EN

/-- PWM_MCTL written (R277). -/
def State.writeMctl (s : State) (k : Fin 16) (v : Word) : State :=
  if PWM_MCTL_SET.get v = 1 then
    (s.setFld PWM_BSTAT k.val PWM_BSTAT_MIDX (PWM_MCTL_IDX.get v)).refreshBr k s.nowU
  else s

/-- The mask index of a bridge set by the six-step unit (R277). -/
def State.setMidx (s : State) (k : Fin 16) (m : Nat) : State :=
  (s.setFld PWM_BSTAT k.val PWM_BSTAT_MIDX m).refreshBr k s.nowU

/-! ## Commands -/

/-- GROUP_ENABLE (R268). -/
def execGroupEnable (ag : Agent) (g : Fin 32) (v : Word) (s : State) : Host.Outcome State Fault Refusal :=
  ok (s.asWrite ag PWM_GCTL g.val fun s => s.writeGctl g (PWM_GCTL_EN.put v 1))

/-- GROUP_DISABLE (R269). -/
def execGroupDisable (ag : Agent) (g : Fin 32) (v : Word) (s : State) : Host.Outcome State Fault Refusal :=
  ok (s.asWrite ag PWM_GCTL g.val fun s => s.writeGctl g (PWM_GCTL_EN.put v 0))

/-- PMID (R270): half a period after the boundary. -/
def State.pmidDue (s : State) (g : Fin 32) : Bool :=
  s.running g && !(s.pg g).mid && s.dueU ((s.pg g).bnd + s.perOf g / 2)

/-- 100 ns before the next boundary, B_0 among them (R268, R282). -/
def State.snapDue (s : State) (g : Fin 32) : Bool :=
  (s.pg g).snap.isNone && (if s.running g then s.dueU ((s.pg g).bnd + s.perOf g - 512) else s.startSoon g)

/-- SHADOW_SNAPSHOT (R282). -/
def execShadowSnapshot (g : Fin 32) (s : State) : Host.Outcome State Fault Refusal :=
  ok (if s.fabricOn && s.snapDue g then
      s.modPg g fun p => { p with snap := some (s.captureGrp g) }
    else s)

/-- PWM_LOADALL_WRITE (R282, R285). -/
def execPwmLoadallWrite (ag : Agent) (r : Fin 4) (v : Word) (s : State) : Host.Outcome State Fault Refusal :=
  ok (s.asWrite ag PWM_LOADALL r.val fun s => s.writeLoadall r (agentId ag) (PWM_LOADALL_GROUPS.get v))

/-- CARRIER_EDGE (R272): the next edge of a leg's reference, where it is due. -/
def execCarrierEdge (k : Fin 16) (p : Fin 3) (s : State) : Host.Outcome State Fault Refusal :=
  ok (let b := s.br k
    let g := s.bgrp k
    let bnd := (s.pg g).bnd
    let on := vget b.tOn p
    let off := vget b.tOff p
    if !s.fabricOn || !s.running g || s.bMode k != 0 || off ≤ on then s
    else if !vget b.ref p && !b.done.getLsbD (4 * p.val) && on != 0 && s.dueU (bnd + on) then
      (s.modBr k fun b => { b with ref := vset b.ref p true, done := b.done ||| (1#12 <<< (4 * p.val)) }).refreshBr k (bnd + on)
    else if vget b.ref p && off < s.perOf g && s.dueU (bnd + off) then
      (s.modBr k fun b => { b with ref := vset b.ref p false, done := b.done ||| (1#12 <<< (4 * p.val)) }).refreshBr k (bnd + off)
    else s)

/-- TABLE_EDGE (R273): the earliest entry of a leg not yet applied in this period, where it is due. -/
def execTableEdge (k : Fin 16) (p : Fin 3) (s : State) : Host.Outcome State Fault Refusal :=
  ok (let b := s.br k
    let g := s.bgrp k
    let next := (List.range 4).foldl (fun (best : Option (Nat × Nat × Bool)) e =>
      if b.done.getLsbD (4 * p.val + e) then best
      else
        match tabEntry b.act.tab[4 * p.val + e]! (s.perOf g), best with
        | some (o, l), some (e', o', l') => if o < o' then some (e, o, l) else some (e', o', l')
        | some (o, l), none => some (e, o, l)
        | none, x => x) none
    match next with
    | none => s
    | some (e, o, l) =>
      let t := (s.pg g).bnd + o
      if s.fabricOn && s.running g && s.bMode k == 1 && s.dueU t then
        (s.modBr k fun b => { b with ref := vset b.ref p l, done := b.done ||| (1#12 <<< (4 * p.val + e)) }).refreshBr k t
      else s)

/-- LIST_EDGE (R274): the oldest queued edge of an output, where its instant has come. -/
def execListEdge (k : Fin 16) (i : Fin 6) (s : State) : Host.Outcome State Fault Refusal :=
  ok (match (vget (s.br k).outs i).queue with
    | [] => s
    | (t, l) :: q =>
      if s.fabricOn && s.dueU t then
        let live := s.bMode k == 2 && s.running (s.bgrp k)
        (s.modOut k i fun o => { o with queue := q, src := if live then l else o.src }).refreshBr k t
      else s)

/-- MIN_PULSE_RELEASE (R278): the oldest change held back, where its instant has come. -/
def execMinPulseRelease (k : Fin 16) (i : Fin 6) (s : State) : Host.Outcome State Fault Refusal :=
  ok (match (vget (s.br k).outs i).held with
    | [] => s
    | (t, l) :: rest =>
      if s.fabricOn && s.dueU t then
        let rest' := match rest with
          | [] => []
          | (a, v) :: more => (s.holdOff k (some t) (max a t), v) :: more
        (s.modOut k i fun o => { o with req := l, chgAt := some t, held := rest' }).settleBr k t
      else s)

/-- DEAD_TIME_EXPIRY (R279): an output whose turn-on delay has run out turns on if its input is still high. -/
def execDeadTimeExpiry (k : Fin 16) (i : Fin 6) (s : State) : Host.Outcome State Fault Refusal :=
  ok (match (vget (s.br k).outs i).onAt with
    | some t => if s.fabricOn && s.dueU t then s.settleLeg k t (legOf i) else s
    | none => s)

/-- MASK_INDEX_SET (R277). -/
def execMaskIndexSet (ag : Agent) (k : Fin 16) (v : Word) (s : State) : Host.Outcome State Fault Refusal :=
  ok (s.asWrite ag PWM_MCTL k.val fun s => s.writeMctl k (PWM_MCTL_SET.put v 1))

/-- ASC_DEAD_TIME_EXPIRY (R382): the outputs of a bridge that its safe pattern turns on and whose dead time has run out. -/
def execAscDeadTimeExpiry (k : Fin 16) (s : State) : Host.Outcome State Fault Refusal :=
  ok (let due (o : POut) : Bool := match o.gateOn with
      | some t => s.dueU t
      | none => false
    (List.finRange 3).foldl (fun s p =>
      let h := vget (s.br k).outs (hiOf p)
      let l := vget (s.br k).outs (loOf p)
      if due h || due l then s.settleLeg k (8 * s.tick + 7) p else s) s)

/-- Soft shutdowns whose instant has come turn their bridges off (R306). -/
def State.softOff (s : State) : State :=
  (List.finRange 16).foldl (fun s k =>
    match (s.br k).ssdAt with
    | some t => if s.dueU t then (s.modBr k fun b => { b with trip := true, ssdAt := none }).settleBr k t else s
    | none => s) s

end Sys2Proof.Machine
end

