-- ==== Sys2Proof/Machine/Gdl.lean ====
section
/-! DEFINITION. The gate-driver links (R294 to R307): transactions, link states and supervision, fault frames, polling and
the master break. -/

namespace Sys2Proof.Machine

/-! ## CRC and fields -/

/-- One bit of the CRC of R299. -/
def crc8Bit (c : Byte) : Byte := if c.getLsbD 7 then (c <<< 1) ^^^ 0x2F else c <<< 1

/-- One byte of the CRC of R299. -/
def crc8Byte (c b : Byte) : Byte := crc8Bit (crc8Bit (crc8Bit (crc8Bit (crc8Bit (crc8Bit (crc8Bit (crc8Bit (c ^^^ b))))))))

/-- The CRC of R299 over bytes. -/
def crc8 (l : List Byte) : Byte := l.foldl crc8Byte 0xFF ^^^ 0xFF

/-- Link j. -/
def State.gl (s : State) (j : Fin 48) : Gdl := vget s.gdl j
/-- A link changed. -/
def State.modGdl (s : State) (j : Fin 48) (f : Gdl → Gdl) : State := { s with gdl := vset s.gdl j (f (vget s.gdl j)) }
/-- GDL_STAT.LINK: 0 DOWN, 1 INIT, 2 UP (R301). -/
def State.link (s : State) (j : Fin 48) : Nat := s.fld GDL_STAT j.val GDL_STAT_LINK
/-- The bridge of a link. -/
def bridgeOfLink (j : Fin 48) : Fin 16 := Fin.ofNat 16 (j.val / 3)
/-- Poll entries in use (R303). -/
def State.nPoll (s : State) (j : Fin 48) : Nat := min 8 (s.fld GDL_CFG j.val GDL_CFG_NPOLL)
/-- 100 µs in fabric ticks. -/
def initGap : Nat := 64000

/-- The 5 bytes of a master frame (R297). -/
def masterFrame (x : GdlTx) : List Byte :=
  let b0 := BitVec.ofNat 8 (x.sel * 64 + x.cmd * 16 + x.seq)
  let d := if x.cmd = 1 then x.data else 0
  let body := [b0, BitVec.ofNat 8 (x.addr % 128), BitVec.ofNat 8 (d / 256), BitVec.ofNat 8 d]
  body ++ [crc8 body]

/-! ## Transactions -/

/-- A transaction starts: its reply is awaited from the end of the master frame (R297, R300). -/
def State.gdlStart (s : State) (j : Fin 48) (src : GdlFrom) (sel cmd addr data : Nat) : State :=
  s.modGdl j fun l =>
    let q := (l.seq + 1) % 16
    { l with seq := q, busy := some { src := src, sel := sel, cmd := cmd, addr := addr, data := data, seq := q
                                      second := false, failed := 0, status := stOK, reply := 0, since := s.tick + 1102 } }

/-- The step of an initialisation: NOP and then READ 0x7F to each side in turn (R301). -/
def State.gdlInitStep (s : State) (j : Fin 48) (n : Nat) : State :=
  s.gdlStart j (.init n) (n / 2) (if n % 2 = 0 then 3 else 0) (if n % 2 = 0 then 0 else 0x7F) 0

/-- The next transaction of an UP link that is not busy: the reads after a fault frame, a command, the poll round
(R303 to R305). -/
def State.gdlNext (s : State) (j : Fin 48) : State :=
  let l := s.gl j
  if s.link j != 2 || l.busy.isSome then s
  else
    match l.auto with
    | side :: more => (s.modGdl j fun l => { l with auto := more }).gdlStart j .auto side 0 0 0
    | [] =>
      match l.cmd with
      | some v => (s.modGdl j fun l => { l with cmd := none }).gdlStart j .cmd (GDL_CMD_SEL.get v) (GDL_CMD_CMD.get v)
          (GDL_CMD_ADDR.get v) (GDL_CMD_DATA.get v)
      | none =>
        match l.poll with
        | some k =>
          if k < s.nPoll j then
            let e := s.reg GDL_POLL (8 * j.val + k)
            (s.modGdl j fun l => { l with poll := some (k + 1) }).gdlStart j (.poll k)
              (if GDL_POLL_SEL.get e = 1 then 1 else 0) 0 (GDL_POLL_ADDR.get e) 0
          else s.modGdl j fun l => { l with poll := none }
        | none => s

/-- GDL_CRES reports a command (R304); BUSY stays while a later command waits. -/
def State.gdlReport (s : State) (j : Fin 48) (status mask data : Nat) : State :=
  s.setReg GDL_CRES j.val (GDL_CRES_BUSY.put (GDL_CRES_DATA.put (GDL_CRES_STATUS.put (GDL_CRES_MASK.put 0 mask) status) data)
    (b2n (s.gl j).cmd.isSome))

/-- A required link that is not UP trips its bridge (R288). -/
def State.gdlReqTrip (s : State) (j : Fin 48) : State :=
  if s.bit GDL_CFG j.val GDL_CFG_REQ && s.link j != 2 then s.tripBr (bridgeOfLink j) 3 else s

/-- A link leaves its state for `st` (0 DOWN, 1 INIT): what waits on it ends with LINK_DOWN. -/
def State.gdlLeave (s : State) (j : Fin 48) (st : Nat) (at_ : Nat) : State :=
  let l := s.gl j
  let waits := l.cmd.isSome || (match l.busy with
    | some x => x.src == .cmd
    | none => false)
  let s1 := (s.setFld GDL_STAT j.val GDL_STAT_LINK st).modGdl j fun l =>
    { l with busy := none, cmd := none, auto := [], poll := none, fails := 0, initAt := at_ }
  let s2 := if waits then s1.gdlReport j stLINK_DOWN 0 0 else s1
  s2.gdlReqTrip j

/-- LINK_DOWN_TRANSITION: an UP link becomes DOWN (R302). -/
def State.gdlDown (s : State) (j : Fin 48) : State :=
  if s.link j = 2 then (s.flag GDL_STAT j.val GDL_STAT_DOWNEV).gdlLeave j 0 (s.tick + initGap) else s

/-- An initialisation failed: INIT repeats every 100 µs (R301). -/
def State.gdlInitFail (s : State) (j : Fin 48) : State :=
  s.modGdl j fun l => { l with busy := none, initAt := s.tick + initGap }

/-- The result of a transaction goes where it is wanted (R301, R303 to R305). -/
def State.gdlDeliver (s : State) (j : Fin 48) (x : GdlTx) : State :=
  let okay := x.failed == 0
  let data := x.reply % 2 ^ 16
  match x.src with
  | .init n =>
    if okay && (n % 2 == 0 || data == 1) then
      if n = 3 then
        (s.setFld GDL_STAT j.val GDL_STAT_LINK 2).modGdl j fun l => { l with fails := 0, okAt := s.tick, pollAt := s.tick }
      else s.gdlInitStep j (n + 1)
    else s.gdlInitFail j
  | .auto =>
    if okay then
      s.setFld GDL_FSTAT j.val (if x.sel = 0 then GDL_FSTAT_HIGH else GDL_FSTAT_LOW) data
    else s
  | .cmd =>
    if x.sel = 2 then
      let st := if x.failed = 0 then stOK else if x.failed = 3 then x.status else stPARTIAL
      s.gdlReport j st x.failed.toNat data
    else s.gdlReport j (if okay then stOK else x.status) 0 data
  | .poll k =>
    let i := 8 * j.val + k
    if okay then
      let w := GDL_TEL_DATA.put (GDL_TEL_FLT.put (GDL_TEL_VALID.put 0 1) (b2n (bitN x.reply 23))) data
      (s.setReg GDL_TEL i w).modGdl j fun l => { l with telAt := l.telAt.set! k (some s.tick) }
    else s.setBit GDL_TEL i GDL_TEL_VALID false

/-- A transaction ends (R302): failures in a row take an UP link DOWN; otherwise the next one starts. -/
def State.gdlFinish (s : State) (j : Fin 48) (x : GdlTx) : State :=
  let okay := x.failed == 0
  let s1 := s.modGdl j fun l =>
    { l with busy := none, fails := if okay then 0 else l.fails + 1, okAt := if okay then s.tick else l.okAt }
  let s2 := s1.gdlDeliver j x
  let down := !okay && max 1 (s.fld GDL_CFG j.val GDL_CFG_ERRMAX) ≤ (s1.gl j).fails
  if down && s2.link j == 2 then s2.gdlDown j else s2.gdlNext j

/-- One side of the transaction in progress has answered or failed (R300, R304). -/
def State.gdlSide (s : State) (j : Fin 48) (x : GdlTx) (status reply : Nat) : State :=
  let bad : BitVec 2 := if status = stOK then 0 else if x.second then 2 else 1
  let x1 := { x with failed := x.failed ||| bad
                     status := if x.failed = 0 then status else x.status
                     reply := if x.second then x.reply else reply }
  if x.sel = 2 && !x.second then
    s.modGdl j fun l => { l with busy := some { x1 with second := true, since := s.tick } }
  else s.gdlFinish j x1

/-- The transaction in progress fails as a whole: interrupted by a break or a stuck line (R296, R302). -/
def State.gdlBreak (s : State) (j : Fin 48) : State :=
  match (s.gl j).busy with
  | none => s
  | some x =>
    let s1 := s.count GDL_ERRCNT j.val GDL_ERRCNT_NOREPLY
    let bad : BitVec 2 := if x.sel = 2 then (if x.second then 2 else 3) else 1
    s1.gdlFinish j { x with failed := x.failed ||| bad, status := if x.failed = 0 then stTIMEOUT else x.status }

/-! ## Register writes -/

/-- GDL_CFG written (R301, R288). -/
def State.writeGdlCfg (s : State) (j : Fin 48) (v : Word) : State :=
  let old := s.bit GDL_CFG j.val GDL_CFG_EN
  let en := GDL_CFG_EN.get v == 1
  let s1 := s.setReg GDL_CFG j.val (v &&& 0xFFFFFFF0)
  if en && !old then s1.gdlLeave j 1 s1.tick
  else if old && !en then s1.gdlLeave j 0 s1.tick
  else s1.gdlReqTrip j

/-- GDL_CMD written (R304). -/
def State.writeGdlCmd (s : State) (j : Fin 48) (v : Word) : State :=
  if s.link j != 2 then s.gdlReport j stLINK_DOWN 0 0
  else ((s.setReg GDL_CRES j.val (GDL_CRES_BUSY.put 0 1)).modGdl j fun l => { l with cmd := some v }).gdlNext j

/-- GDL_STAT written: its flags are W1C; with FAULT clear the Grotto's record of named sides ends. -/
def State.clearNamed (s : State) (j : Fin 48) : State :=
  if s.bit GDL_STAT j.val GDL_STAT_FAULT then s else s.modGdl j fun l => { l with named := 0 }

/-- GDL_ENABLE (R301). -/
def execGdlEnable (ag : Agent) (j : Fin 48) (v : Word) (s : State) : Host.Outcome State Fault Refusal :=
  ok (s.asWrite ag GDL_CFG j.val fun s => s.writeGdlCfg j (GDL_CFG_EN.put v 1))

/-- GDL_INIT_RETRY (R301, R302): an enabled link in INIT or DOWN begins an initialisation once its 100 µs have passed. -/
def execGdlInitRetry (j : Fin 48) (s : State) : Host.Outcome State Fault Refusal :=
  ok (if s.fabricOn && s.bit GDL_CFG j.val GDL_CFG_EN && s.link j != 2 && (s.gl j).busy.isNone && (s.gl j).initAt ≤ s.tick then
      (s.setFld GDL_STAT j.val GDL_STAT_LINK 1).gdlInitStep j 0
    else s)

/-- GDL_READ (R304). -/
def execGdlRead (ag : Agent) (j : Fin 48) (sel : BitVec 2) (addr : BitVec 7) (s : State) : Host.Outcome State Fault Refusal :=
  ok (s.asWrite ag GDL_CMD j.val fun s =>
    s.writeGdlCmd j (GDL_CMD_ADDR.put (GDL_CMD_SEL.put 0 sel.toNat) addr.toNat))

/-- GDL_WRITE (R304). -/
def execGdlWrite (ag : Agent) (j : Fin 48) (sel : BitVec 2) (addr : BitVec 7) (data : Half) (s : State) :
    Host.Outcome State Fault Refusal :=
  ok (s.asWrite ag GDL_CMD j.val fun s =>
    s.writeGdlCmd j (GDL_CMD_DATA.put (GDL_CMD_ADDR.put (GDL_CMD_CMD.put (GDL_CMD_SEL.put 0 sel.toNat) 1) addr.toNat)
      data.toNat))

/-- CLRF (R307). -/
def execClrf (ag : Agent) (j : Fin 48) (sel : BitVec 2) (s : State) : Host.Outcome State Fault Refusal :=
  ok (s.asWrite ag GDL_CMD j.val fun s => s.writeGdlCmd j (GDL_CMD_CMD.put (GDL_CMD_SEL.put 0 sel.toNat) 2))

/-- GDL_NOP (R297). -/
def execGdlNop (ag : Agent) (j : Fin 48) (sel : BitVec 2) (s : State) : Host.Outcome State Fault Refusal :=
  ok (s.asWrite ag GDL_CMD j.val fun s => s.writeGdlCmd j (GDL_CMD_CMD.put (GDL_CMD_SEL.put 0 sel.toNat) 3))

/-! ## Events of the line -/

/-- REPLY_FRAME (R298): the four bytes of a reply, most significant byte of `w` first; `coded` where every bit was a valid
Manchester bit. -/
def execReplyFrame (j : Fin 48) (w : Word) (coded : Bool) (s : State) : Host.Outcome State Fault Refusal :=
  ok (match (s.gl j).busy with
    | none => s
    | some x =>
      if !s.fabricOn || s.tick < x.since then s
      else
        let b (i : Nat) : Byte := w.extractLsb' (8 * i) 8
        if !coded then (s.count GDL_ERRCNT j.val GDL_ERRCNT_MANCH).gdlSide j x stECC 0
        else if crc8 [b 3, b 2, b 1] != b 0 then (s.count GDL_ERRCNT j.val GDL_ERRCNT_CRC).gdlSide j x stECC 0
        else if (b 3).toNat % 64 != x.cmd * 16 + x.seq then (s.count GDL_ERRCNT j.val GDL_ERRCNT_ECHO).gdlSide j x stECC 0
        else s.gdlSide j x stOK (w.toNat / 256))

/-- GDL_REPLY_TIMEOUT (R302): 240 ns without a start bit. -/
def execGdlReplyTimeout (j : Fin 48) (s : State) : Host.Outcome State Fault Refusal :=
  ok (match (s.gl j).busy with
    | none => s
    | some x =>
      if s.fabricOn && x.since + 154 ≤ s.tick then
        (s.count GDL_ERRCNT j.val GDL_ERRCNT_NOREPLY).gdlSide j x stTIMEOUT 0
      else s)

/-- GDL_SILENCE_TIMEOUT (R302). -/
def execGdlSilenceTimeout (j : Fin 48) (s : State) : Host.Outcome State Fault Refusal :=
  ok (if s.fabricOn && s.link j == 2 &&
        (s.gl j).okAt + max 1 (s.fld GDL_CFG j.val GDL_CFG_LTMO) * 6400 ≤ s.tick then s.gdlDown j
      else s)

/-- STUCK_LINE (R295, R302): the line is low for 400 ns or more. -/
def execStuckLine (j : Fin 48) (s : State) : Host.Outcome State Fault Refusal :=
  ok (if s.fabricOn then (s.gdlBreak j).gdlDown j else s)

/-- FAULT_FRAME (R296, R305): a break and its code; `code` is SIDE and KIND where both bits were valid. -/
def execFaultFrame (j : Fin 48) (code : Option (Bool × Bool)) (s : State) : Host.Outcome State Fault Refusal :=
  ok (if !s.fabricOn then s
    else
      let s1 := s.tripBr (bridgeOfLink j) 2
      let sides : List Nat := match code with
        | some (side, _) => [b2n side]
        | none => [0, 1]
      let s2 := s1.flag GDL_STAT j.val GDL_STAT_FAULT
      let s3 := match code with
        | some (side, kind) => (s2.setFld GDL_STAT j.val GDL_STAT_FSIDE (b2n side)).setFld GDL_STAT j.val GDL_STAT_FKIND (b2n kind)
        | none => s2.setFld GDL_STAT j.val GDL_STAT_FKIND 2
      let s4 := s3.modGdl j fun l =>
        { l with named := sides.foldl (fun n i => n ||| (1#2 <<< i)) l.named
                 auto := if s.bit GDL_CFG j.val GDL_CFG_AUTORD && s.link j == 2 then sides else l.auto }
      (s4.gdlBreak j).gdlNext j)

/-- POLL_ROUND (R303). -/
def execPollRound (j : Fin 48) (s : State) : Host.Outcome State Fault Refusal :=
  ok (let per := s.fld GDL_CFG j.val GDL_CFG_POLLPER
    if s.fabricOn && s.link j == 2 && per != 0 && s.nPoll j != 0 && (s.gl j).poll.isNone &&
        (s.gl j).pollAt + per * 640 ≤ s.tick then
      (s.modGdl j fun l => { l with poll := some 0, pollAt := s.tick }).gdlNext j
    else s)

/-- MASTER_BREAK (R306): each link of a bridge sends a master break; the outputs turn off 100 ns (512 u) later. -/
def State.masterBreak (s : State) (k : Fin 16) : State :=
  let s1 := (linksOf k).foldl (fun s j => (s.gdlBreak j).flag GDL_STAT j.val GDL_STAT_SSDSENT) s
  ((s1.flag PWM_BSTAT k.val PWM_BSTAT_TRIP).setFld PWM_BSTAT k.val PWM_BSTAT_TCAUSE 1).modBr k fun b =>
    { b with ssdAt := if b.trip then none else some (match b.ssdAt with
      | some t => t
      | none => s.nowU + 512) }

/-- A comparator trip reaches a bridge (R288, R306). -/
def State.cmpTripBr (s : State) (k : Fin 16) : State :=
  if s.bit PWM_BCFG k.val PWM_BCFG_TRIPSSD then
    if (s.br k).trip || (s.br k).ssdAt.isSome then
      (s.flag PWM_BSTAT k.val PWM_BSTAT_TRIP).setFld PWM_BSTAT k.val PWM_BSTAT_TCAUSE 1
    else s.masterBreak k
  else s.tripBr k 1

end Sys2Proof.Machine
end

