-- ==== Sys2Proof/Machine/Xform.lean ====
section
/-! DEFINITION. Sine, cosine and the CORDIC iterations as exact functions of integers (R176, R180), and the transforms as the
units outside the processors use them, with st.RND = 0 and saturation (R398). -/

namespace Sys2Proof.Machine

/-! ## Sine and cosine (R176) -/

/-- S(y) for y in 0 to 0x4000. -/
def sineS (y : Nat) : Int :=
  let k := y / 16
  let f := y % 16
  if f = 0 then sineT k else sineT k + ((sineT (k + 1) - sineT k) * f + 8) / 16

/-- sin16 of an unsigned 16-bit angle. -/
def sin16 (theta : Nat) : Int :=
  let x := theta % 2 ^ 14
  match theta / 2 ^ 14 % 4 with
  | 0 => sineS x
  | 1 => sineS (0x4000 - x)
  | 2 => -sineS x
  | _ => -sineS (0x4000 - x)

/-- cos16 of an unsigned 16-bit angle. -/
def cos16 (theta : Nat) : Int := sin16 ((theta + 0x4000) % 2 ^ 16)

/-! ## CORDIC (R180) -/

/-- The arctangents A[0] to A[15]. -/
def cordicA : List Int := [8192, 4836, 2555, 1297, 651, 326, 163, 81, 41, 20, 10, 5, 3, 1, 1, 0]

/-- One iteration: the sign chosen by `pos` (true turns clockwise in VEC). -/
def cordicIter (dir : Bool) (i : Nat) (a x y z : Int) : Int × Int × Int :=
  if dir then (x + y / 2 ^ i, y - x / 2 ^ i, z + a) else (x - y / 2 ^ i, y + x / 2 ^ i, z - a)

/-- The sixteen iterations; `dir` chooses each from the present y and z. -/
def cordicRun (dir : Int → Int → Bool) (x y z : Int) : Int × Int × Int :=
  (cordicA.zip (List.range 16)).foldl (fun (x, y, z) (a, i) => cordicIter (dir y z) i a x y z) (x, y, z)

/-! ## Transforms with st.RND = 0 -/

/-- rnd(x, j) of R134 with RND = 0. -/
def rnd0 (x : Int) (j : Nat) : Int := x / 2 ^ j

/-- CLARKE (R177). -/
def clarke0 (a b : Int) : Int × Int := (satS 16 a, satS 16 (rnd0 ((a + 2 * b) * 18918) 15))

/-- PARK (R177) at an unsigned 16-bit angle. -/
def park0 (v : Int × Int) (t : Nat) : Int × Int :=
  (satS 16 (rnd0 (v.1 * cos16 t + v.2 * sin16 t) 15), satS 16 (rnd0 (v.2 * cos16 t - v.1 * sin16 t) 15))

/-- The magnitude of CORDIC VEC (R180). -/
def mag0 (v : Int × Int) : Int :=
  let w : Int × Int := if v.1 < 0 then (-(v.1 * 4), -(v.2 * 4)) else (v.1 * 4, v.2 * 4)
  satS 16 (rnd0 ((cordicRun (fun y _ => 0 ≤ y) w.1 w.2 0).1 * 19898) 17)

end Sys2Proof.Machine
end

