-- ==== Sys2Proof/Machine/GrottoCore.lean ====
section
/-! DEFINITION. The Grotto's core: its fault log, the output states of the axes with the gate enables, the decision between
STO and ASC, the hardwired STO and the demands on an axis (R381 to R384, R389, R401 to R404, R419 to R425). -/

namespace Sys2Proof.Machine

/-- The Grotto runs (R555, R612): everywhere but in PARK and in board-test mode. -/
def State.grottoOn (s : State) : Bool :=
  !s.boot.tap.testen &&
    match s.power.phase with
    | .entering t | .asleep t | .wake t _ _ | .retry t _ => t != 2
    | _ => true

/-! ## The fault log (R389, R384) -/

/-- ACTION codes of GRT_FLT. -/
def actReport : Nat := 0
def actSto : Nat := 1
def actHard : Nat := 5

/-- An entry is written into the fault log (R389). A DETAIL that the spec does not state (`none`) is a free value. -/
def State.gLog (s : State) (entry action unit : Nat) (detail : Option Nat) : State :=
  let i := s.fld GRT_STAT 0 GRT_STAT_FLTIDX
  let d := detail.getD s.free.toNat
  let s0 := if detail.isNone then s.used else s
  let w := GRT_FLT_DETAIL.put (GRT_FLT_UNIT.put (GRT_FLT_ACTION.put (GRT_FLT_ENTRY.put 0 entry) action) unit) d
  let s1 := ((s0.setReg GRT_FLT i w).setReg GRT_FLTTIME i (BitVec.ofNat 32 s.us)).setFld GRT_STAT 0 GRT_STAT_FLTIDX (i + 1)
  s1.modGrt fun g => { g with open_ := g.open_.filter (·.1 != i) ++ [(i, entry, unit)] }

/-- The cause of an entry persists, or has gone (R384, R394). -/
def State.gCause (s : State) (entry unit : Nat) (on : Bool) : State :=
  let c := entry * 256 + unit
  s.modGrt fun g =>
    { g with causes := if on then (if g.causes.contains c then g.causes else g.causes ++ [c]) else g.causes.filter (· != c) }

/-- The cause of an entry persists. -/
def State.gHas (s : State) (entry unit : Nat) : Bool := s.grt.causes.contains (entry * 256 + unit)

/-- FAULT#: true is low. The Grotto drives it (R384); so do Halt (R540), a failed wake (R573), a failed wave 1 of the
self-test (R591) and a failed boot (R583). -/
def State.faultLow (s : State) : Bool :=
  !s.grt.open_.isEmpty || !s.grt.causes.isEmpty || s.bit THERM_STAT 0 THERM_STAT_HALT || s.bit WAKE_STAT 0 WAKE_STAT_FAIL ||
    (s.bit SYSCTL_STRES 0 SYSCTL_STRES_FAIL && s.fld SYSCTL_STRES 0 SYSCTL_STRES_WAVE == 1) ||
    s.fld SYSCTL_BOOTSTAT 0 SYSCTL_BOOTSTAT_RESULT ≥ 2

/-! ## Output states (R381 to R384) -/

/-- GRT_AXSTAT.OUT. -/
def State.axOut (s : State) (x : Nat) : Nat := s.fld GRT_AXSTAT x GRT_AXSTAT_OUT
/-- GRT_STAT.GSTATE: 0 INIT, 1 SAFE, 2 OPER, 3 FAULT. -/
def State.gstate (s : State) : Nat := s.fld GRT_STAT 0 GRT_STAT_GSTATE
/-- GRT_AXSTAT.TMVALID. -/
def State.tmValid (s : State) (x : Nat) : Bool := s.bit GRT_AXSTAT x GRT_AXSTAT_TMVALID
/-- The Grotto speed of an axis in rpm. -/
def State.axSpeed (s : State) (x : Nat) : Int := s.sfld GRT_AXSTAT x GRT_AXSTAT_SPEED

/-- A region's gate enables are ordered high: an axis of it is in RUN or ASC, and no hardwired STO holds (R383). -/
def State.genWant (s : State) (r : Nat) : Bool :=
  s.gstate != 3 && (List.range 8).any fun x => s.axUse x && s.axRegion x == some r && s.axOut x != 1

/-- The Grotto's consent lines fall (R560). -/
def State.dropConsent (s : State) : State :=
  let s1 := (s.setBit PWR_STAT 0 PWR_STAT_CONSENTP false).setBit PWR_STAT 0 PWR_STAT_CONSENTK false
  { s1 with power := { s1.power with consentP := none, consentK := none } }

/-- The gate enables and GSTATE follow the axes (R383, R384); the consent falls where GSTATE leaves SAFE (R560). -/
def State.gensFollow (s : State) : State :=
  let w : BitVec 4 := BitVec.ofNat 4 ((List.range 4).foldl (fun n r => n + b2n (s.genWant r) * 2 ^ r) 0)
  let s1 := if s.grt.genA = w ∧ s.grt.genB = w then s
    else s.modGrt fun g => { g with genA := w, genB := w, genAt := s.us }
  if s1.gstate = 1 ∨ s1.gstate = 2 then
    if (List.range 8).any fun x => s1.axUse x && s1.axOut x != 1 then (s1.setFld GRT_STAT 0 GRT_STAT_GSTATE 2).dropConsent
    else s1.setFld GRT_STAT 0 GRT_STAT_GSTATE 1
  else s1

/-- SAFE_STATE# is low (R384). -/
def State.safeStateLow (s : State) : Bool :=
  s.gstate == 0 || s.gstate == 3 || (List.range 8).any fun x => s.axUse x && s.axOut x != 0

/-- The pattern of an output state over a bridge, given whether the bridge can follow ASC (R381, R402). -/
def outPattern (out : Nat) (able : Bool) : Option (BitVec 6) :=
  match out with
  | 0 => none
  | 2 => if able then some 0x2A else some 0
  | 3 => if able then some 0x15 else some 0
  | _ => some 0

/-- An axis takes an output state; `able` says which bridges can follow ASC. -/
def State.setOut (s : State) (x out : Nat) (able : Fin 16 → Bool) : State :=
  let s1 := s.setFld GRT_AXSTAT x GRT_AXSTAT_OUT out
  let s2 := if out = 1 then s1.modAx x fun a => { a with ss1 := none, lowAt := none } else s1
  let s3 := ((List.finRange 16).filter fun k => s.ofAxis x k.val).foldl (fun s k => s.orderBr k (outPattern out (able k))) s2
  s3.gensFollow

/-- STO is ordered for an axis (R420). -/
def State.orderSto (s : State) (x : Nat) : State := if s.axOut x = 1 then s else s.setOut x 1 fun _ => false

/-- The hardwired sequencer brings every axis to STO (R391, R404). -/
def State.hardSto (s : State) (unit : Nat) : State :=
  if s.gstate = 3 then s
  else
    let s1 := s.setFld GRT_STAT 0 GRT_STAT_GSTATE 3
    let s2 := (List.range 8).foldl (fun s x =>
      (s.setOut x 1 fun _ => false).setFld GRT_AXSTAT x GRT_AXSTAT_CAUSE 3) s1
    (s2.dropConsent.gLog 3 actHard unit none).gCause 3 unit true

/-! ## The decision (R401 to R403) -/

/-- s of R401. -/
def State.axS (s : State) (x : Nat) : Nat :=
  if s.tmValid x then (s.axSpeed x).natAbs
  else
    match (s.gax x).fell with
    | some (t, v) => if s.us ≤ t + 100000 then v else 0
    | none => 0

/-- A group (false LOW, true HIGH) is usable in a bridge (R402). -/
def State.grpUsable (s : State) (k : Fin 16) (high : Bool) : Bool :=
  s.grt.genA.getLsbD (k.val / 4) && s.grt.genB.getLsbD (k.val / 4) &&
    !(linksOf k).any fun j => (s.gl j).named.getLsbD (if high then 0 else 1)

/-- The bridges of an axis. -/
def State.axBrs (s : State) (x : Nat) : List (Fin 16) := (List.finRange 16).filter fun k => s.ofAxis x k.val

/-- The group for ASC (R402): `none` where neither group is usable in any bridge. -/
def State.chooseGroup (s : State) (x : Nat) : Option Bool :=
  let pref := s.aRec x 0 11 11 == 1
  let n (h : Bool) : Nat := ((s.axBrs x).filter fun k => s.grpUsable k h).length
  let all := (s.axBrs x).length
  if n pref = 0 ∧ n (!pref) = 0 then none
  else if n pref = all then some pref
  else if n (!pref) = all then some (!pref)
  else if n (!pref) > n pref then some (!pref)
  else some pref

/-- ASC in a group, or STO where none is usable. -/
def State.orderAsc (s : State) (x : Nat) : State :=
  match s.chooseGroup x with
  | some h => s.setOut x (if h then 3 else 2) fun k => s.grpUsable k h
  | none => s.orderSto x

/-! ## Demands (R419 to R422) -/

/-- The state of pair `k` as GRT_SIP shows it (R429, R430). -/
def State.pairState (s : State) (k : Nat) : Nat := s.fld GRT_SIP 0 (fldAt 2 k)

/-- Pair k + 1 of a two-hand control: only the first pair of the two demands anything (R430). -/
def State.isSecondHand (s : State) (k : Nat) : Bool :=
  k % 2 == 1 && s.pRec k 0 30 28 == 2 && s.pRec (k - 1) 0 31 31 == 1 && s.pRec (k - 1) 0 30 28 == 2

/-- A pair raises demand `func` on axis `x` (R429). -/
def State.pairDemands (s : State) (k func x : Nat) : Bool :=
  s.pRec k 0 31 31 == 1 && !s.isSecondHand k && (s.pairState k == 0 || s.pairState k == 2) &&
    s.pRec k 8 23 22 == func && bitN (s.pRec k 8 31 24) x

/-- Cross link `k` is UP. -/
def State.xlUp (s : State) (k : Nat) : Bool := s.bit GRT_XLSTAT k GRT_XLSTAT_UP
/-- The slots of cross link `k` that stand for axis `x` (R434). -/
def State.xlSlots (s : State) (k x : Nat) : List Nat := (List.range 8).filter fun i => s.xRec k 8 (4 * i + 3) (4 * i) == x
/-- Cross link `k` is enabled. -/
def State.xlOn (s : State) (k : Nat) : Bool := s.xRec k 0 31 31 == 1

/-- A cross link raises STO (`code` 2) or SS1 (`code` 1) on an axis (R435, R436): a request bit, the reaction to its loss, or
the coupling to a peer that is not in RUN. -/
def State.xlDemands (s : State) (k code x : Nat) : Bool :=
  let l := vget s.grt.xl (Fin.ofNat 4 k)
  let slots := s.xlSlots k x
  s.xlOn k &&
    ((slots.any fun i => if code = 2 then l.sto.getLsbD i else l.ss1.getLsbD i) ||
      (l.lost && s.xRec k 4 7 6 == code && !slots.isEmpty) ||
      (s.xRec k 0x0C 9 8 == code && slots.any fun i => l.out.getLsbD i && bitN (s.xRec k 0x0C 7 0) i))

/-- An STO demand is raised by a source that has not withdrawn it. -/
def State.stoSource (s : State) (x : Nat) : Bool :=
  (List.range 16).any (fun k => s.pairDemands k 0 x) || (List.range 4).any fun k => s.xlDemands k 2 x

/-- An SS1 demand is raised by a source that has not withdrawn it. -/
def State.ss1Source (s : State) (x : Nat) : Bool :=
  (List.range 16).any (fun k => s.pairDemands k 1 x) || (List.range 4).any fun k => s.xlDemands k 1 x

/-- An axis in STO stays in STO: the set is not confirmed, or a demand holds it there until RELEASE (R420). -/
def State.stoHeld (s : State) (x : Nat) : Bool :=
  let a := s.gax x
  s.axOut x == 1 && (s.gstate == 0 || !s.bit GRT_STAT 0 GRT_STAT_CCVOK || a.mbSto || a.vioSto || a.mbSs1 || a.hbSs1 || a.vioSs1 ||
    s.stoSource x || s.ss1Source x)

/-- The decision of R401 for an axis in use; under the hardwired STO it stays in STO (R417). -/
def State.safeDecision (s : State) (x : Nat) : State :=
  if s.gstate = 3 || s.stoHeld x then s
  else if s.axS x < s.aRec x 0x04 31 16 then s.orderSto x
  else s.orderAsc x

/-- ACTION of the state an axis has been given. -/
def State.actionOf (s : State) (x : Nat) : Nat := if s.gstate = 3 then actHard else s.axOut x

/-- An entry orders a safe state for an axis: decided, recorded and logged (R388, R389, R401). -/
def State.safeOrder (s : State) (x entry : Nat) (detail : Option Nat) : State :=
  if !s.axUse x then s
  else
    let s1 := (s.safeDecision x).setFld GRT_AXSTAT x GRT_AXSTAT_CAUSE entry
    s1.gLog entry (s1.actionOf x) x detail

/-- A lasting fault of an axis under an entry that orders a safe state: taken when it appears, and again while the axis is in
RUN. -/
def State.axFault (s : State) (x entry : Nat) (present : Bool) : State :=
  if !present then s.gCause entry x false
  else if s.gHas entry x && s.axOut x != 0 then s
  else (s.gCause entry x true).safeOrder x entry none

/-- SLS limit `n` of an axis in rpm (R439). -/
def State.slsLimit (s : State) (x n : Nat) : Nat :=
  match n with
  | 1 => s.aRec x 0x60 15 0
  | 2 => s.aRec x 0x60 31 16
  | 3 => s.aRec x 0x64 15 0
  | _ => 0

/-- The SLS limits demanded of an axis (R429, R436). -/
def State.slsWanted (s : State) (x : Nat) : List Nat :=
  ((List.range 16).filter fun k => s.pairDemands k 2 x).map (fun k => s.pRec k 8 21 20) ++
    (List.range 4).flatMap fun k =>
      if s.xlOn k then
        (s.xlSlots k x).filterMap fun i =>
          let n := (vget s.grt.xl (Fin.ofNat 4 k)).sls.toNat / 4 ^ i % 4
          if n = 0 then none else some n
      else []

/-- The demanded limit that applies: the lowest; 0 for none (R422). -/
def State.slsLowest (s : State) (x : Nat) : Nat :=
  (s.slsWanted x).foldl (fun b n => if n = 0 then b else if b = 0 then n else if s.slsLimit x n < s.slsLimit x b then n else b) 0

/-- SDI in a direction (false positive, true negative) is demanded of an axis (R429). -/
def State.sdiWanted (s : State) (x : Nat) (neg : Bool) : Bool :=
  (List.range 16).any fun k => s.pairDemands k 3 x && (s.pRec k 8 19 19 == 1) == neg

/-- A number of 1/4096 signal periods in turns, with `n` periods a turn; for none, which the set does not rule out, a free
value. -/
def perTurn (n : Nat) (p : Int) : Int := if n = 0 then Config.noPeriods p else p / (n * 4096 : Nat)

/-- The Grotto's mechanical position of an axis in 2⁻¹⁶ turn (R424). -/
def State.axPos (s : State) (x : Nat) : Int :=
  match (vget s.grt.tap (Fin.ofNat 16 (s.aRec x 0x10 15 12))).pos with
  | some p => wrapS 32 (perTurn (s.aRec x 0x10 31 16) (p * 2 ^ 16))
  | none => 0

/-- SS1 begins (R421): the timer starts and n0 is recorded; during SS1 a further demand changes nothing. -/
def State.startSs1 (s : State) (x : Nat) : State :=
  if s.axOut x = 0 ∧ (s.gax x).ss1.isNone then s.modAx x fun a => { a with ss1 := some (s.us, (s.axSpeed x).natAbs) } else s

/-- The SLS limit in force follows the demands (R422): a lower limit restarts SLSRAMP, and the one before it is monitored
until that ends. -/
def State.slsFollow (s : State) (x : Nat) : State :=
  let w := s.slsLowest x
  let a := s.gax x
  if w = a.slsN then s
  else if w = 0 then s.modAx x fun a => { a with slsN := 0, slsOld := 0 }
  else if a.slsN = 0 then s.modAx x fun a => { a with slsN := w, slsAt := s.us, slsOld := 0 }
  else if s.slsLimit x w < s.slsLimit x a.slsN then
    let ramped := a.slsAt + s.aRec x 0x64 31 16 * 1000 ≤ s.us
    s.modAx x fun a => { a with slsN := w, slsAt := s.us, slsOld := if ramped then a.slsN else a.slsOld }
  else s.modAx x fun a => { a with slsN := w, slsOld := 0 }

/-- SDI demands begin and end (R423). -/
def State.sdiFollow (s : State) (x : Nat) : State :=
  let f (neg : Bool) (old : Option Int) : Option Int :=
    if s.sdiWanted x neg then some (old.getD (s.axPos x)) else none
  s.modAx x fun a => { a with sdiP := f false a.sdiP, sdiN := f true a.sdiN }

/-- The demands on an axis are evaluated: a demand newly raised acts (R419, R420). -/
def State.demands (s : State) (x : Nat) : State :=
  if !s.axUse x then s
  else
    let a := s.gax x
    let sto := a.mbSto || a.vioSto || s.stoSource x
    let ss1 := a.mbSs1 || a.hbSs1 || a.vioSs1 || s.ss1Source x
    let s1 := s.modAx x fun a => { a with stoUp := sto, ss1Up := ss1 }
    let s2 := if sto && !a.stoUp then s1.orderSto x else if ss1 && !a.ss1Up && !sto then s1.startSs1 x else s1
    (s2.slsFollow x).sdiFollow x

/-- The demands on every axis are evaluated. -/
def State.allDemands (s : State) : State := (List.range 8).foldl (fun s x => s.demands x) s

/-- A reaction by the codes of R425 on an axis, logged under entry 4 with `detail`. -/
def State.react (s : State) (x code : Nat) (detail : Option Nat) : State :=
  match code with
  | 0 => s.safeOrder x 4 detail
  | 1 => ((s.modAx x fun a => { a with vioSs1 := true }).demands x).gLog 4 actReport x detail
  | 2 => ((s.modAx x fun a => { a with vioSto := true }).demands x).gLog 4 actSto x detail
  | _ => s.gLog 4 actReport x detail

/-! ## Decisions over several axes -/

/-- The axes in use. -/
def State.axesUsed (s : State) : List Nat := (List.range 8).filter fun x => s.axUse x

/-- One detection that orders a safe state for several axes: decided for each, logged once. -/
def State.groupOrder (s : State) (xs : List Nat) (entry unit : Nat) (detail : Option Nat) : State :=
  let s1 := xs.foldl (fun s x => if s.axUse x then (s.safeDecision x).setFld GRT_AXSTAT x GRT_AXSTAT_CAUSE entry else s) s
  s1.gLog entry (match xs.find? fun x => s.axUse x with | some x => s1.actionOf x | none => actReport) unit detail

/-- A monitor of the whole device finds a fault, or finds it gone: acted on when it appears. -/
def State.monitor (s : State) (xs : List Nat) (entry unit : Nat) (bad : Bool) : State :=
  if !bad then s.gCause entry unit false
  else if s.gHas entry unit then s
  else (s.gCause entry unit true).groupOrder xs entry unit none

/-! ## Reports to the Grotto from other units -/

/-- OV2_LINE: CB.HI of a region's Sump reaches the Grotto (R347): a safe state for every axis of the region, and every axis
that the set places on the same DC link; the log entry follows at each axis's slice. -/
def State.ov2Line (s : State) (r : Nat) : State :=
  let hit (x : Nat) : Bool := s.axUse x && s.axRegion x == some r
  let links := ((List.range 8).filter hit).map fun x => s.aRec x 0 15 13
  ((List.range 8).filter fun x => s.axUse x && (hit x || links.contains (s.aRec x 0 15 13))).foldl (fun s x =>
    ((s.safeDecision x).setFld GRT_AXSTAT x GRT_AXSTAT_CAUSE 12).modGrt fun g => { g with ov2 := g.ov2 ||| (1#8 <<< x) }) s

/-- The DTO line of a region's Sump (R353): reported under entry 12. -/
def State.dtoLine (s : State) (r : Nat) : State := s.gLog 12 actReport r none

end Sys2Proof.Machine
end

