-- ==== Sys2Proof/Machine/Protect.lean ====
section
/-! DEFINITION. The protection comparators and the Sumps (R335 to R358). A comparator's analog input comes with the command:
voltages in any one unit, the region's reference balls among them. -/

namespace Sys2Proof.Machine

/-! ## Comparator outputs (R335, R336, R345) -/

/-- The analog levels a comparator sees: its ball, its reference ball, VREFL and VREFH. -/
structure CmpIn where
  v    : Int
  vref : Int
  lo   : Int
  hi   : Int

/-- V > thr(c) (R335). -/
def CmpIn.above (x : CmpIn) (v : Int) (c : Int) : Bool := decide (c * (x.hi - x.lo) < (v - x.lo) * 4096)
/-- V < thr(c). -/
def CmpIn.below (x : CmpIn) (v : Int) (c : Int) : Bool := decide ((v - x.lo) * 4096 < c * (x.hi - x.lo))

/-- CMP_CFG.TEST as it acts: 0b11 is treated as 0b00. -/
def testOf (cfg : Word) : Nat := if CMP_CFG_TEST.get cfg = 3 then 0 else CMP_CFG_TEST.get cfg

/-- HI and LO as they follow the input (R336). -/
def State.cmpEval (s : State) (c : Fin 64) (x : CmpIn) : Bool × Bool :=
  let cfg := s.reg CMP_CFG c.val
  let hi := s.bit CMP_STAT c.val CMP_STAT_HI
  let lo := s.bit CMP_STAT c.val CMP_STAT_LO
  let hys : Int := s.fld CMP_HYS c.val CMP_HYS_HYS
  let thh : Int := s.fld CMP_THR c.val CMP_THR_THH
  let thl : Int := s.fld CMP_THR c.val CMP_THR_THL
  let v := match testOf cfg with
    | 1 => x.lo
    | 2 => x.hi
    | _ => x.v
  if 23 < CMP_CFG_INSEL.get cfg ∨ 23 < CMP_CFG_RSEL.get cfg then (false, false)
  else if CMP_CFG_MODE.get cfg = 1 then
    let d := (v - x.vref) * 8192
    let h := hys * (x.hi - x.lo)
    let hi' := if h < d then true else if d < -h then false else hi
    (hi', !hi')
  else
    let hi' := if x.above v thh then true else if x.below v (thh - hys) then false else hi
    let lo' := if x.below v thl then true else if x.above v (thl + hys) then false else lo
    (hi', lo')

/-- The comparator's trip, Sump, Grotto and wake outputs act (R337, R345). -/
def State.cmpLive (s : State) (c : Fin 64) : Bool :=
  s.bit CMP_CFG c.val CMP_CFG_EN && testOf (s.reg CMP_CFG c.val) == 0

/-! ## The Sump's view (R346) -/

/-- A Sump's comparator A or B. -/
def State.sumpCmp (s : State) (r : Fin 4) (F : Fld) : Fin 64 := Fin.ofNat 64 (16 * r.val + s.fld SUMP_CFG r.val F)

/-- An output of a Sump's comparator as the Sump sees it. -/
def State.sumpSees (s : State) (r : Fin 4) (F out : Fld) : Bool :=
  let c := s.sumpCmp r F
  s.bit SUMP_CFG r.val SUMP_CFG_EN && s.cmpLive c && s.bit CMP_STAT c.val out

/-- CA.HI. -/
def State.caHi (s : State) (r : Fin 4) : Bool := s.sumpSees r SUMP_CFG_CA CMP_STAT_HI

/-- A Sump changed. -/
def State.modSump (s : State) (r : Fin 4) (f : Sump → Sump) : State := { s with sump := vset s.sump r (f (vget s.sump r)) }

/-- A configuration of a Sump meets R346 under comparator settings `cmp`. -/
def State.sumpFits (s : State) (r : Fin 4) (cfg : Word) (cmp : Nat → Word) : Bool :=
  let a := SUMP_CFG_CA.get cfg
  let b := SUMP_CFG_CB.get cfg
  let good (c : Nat) : Bool :=
    let w := cmp (16 * r.val + c)
    CMP_CFG_EN.get w == 1 && CMP_CFG_MODE.get w == 0 && CMP_CFG_SMP.get w == 0 &&
      s.ownerOf 0x04 (16 * r.val + c) == s.ownerOf 0x08 r.val
  a != b && good a && good b && CMP_CFG_INSEL.get (cmp (16 * r.val + a)) == CMP_CFG_INSEL.get (cmp (16 * r.val + b))

/-- The discharge leg is one in AUX mode (R352). -/
def State.dlegAux (s : State) (r : Fin 4) : Bool :=
  let l := s.fld SUMP_CFG r.val SUMP_CFG_DLEG
  decide (l < 12) && s.isAux (Fin.ofNat 16 (4 * r.val + l / 3)) (Fin.ofNat 3 (l % 3))

/-- SUMP_STAT.DAVAIL (R352). -/
def State.sumpAvail (s : State) (r : Fin 4) : Bool :=
  s.bit SUMP_CFG r.val SUMP_CFG_EN && s.dlegAux r &&
    s.sumpFits r (s.reg SUMP_CFG r.val) (fun c => s.reg CMP_CFG c) && !s.bit SUMP_STAT r.val SUMP_STAT_RESHOT

/-! ## Sump events (R351) -/

/-- An entry of a Sump for a cell, or EVLOST where it is discarded. -/
def State.sumpEntry (s : State) (r : Fin 4) (on cell : Fld) (code : Nat) : State :=
  let e := s.reg SUMP_EVT r.val
  if on.get e = 1 then
    let c := Fin.ofNat 128 (32 * r.val + cell.get e)
    match s.pushFifo c { vec := SUMP_EVT_VEC.get e, payload := BitVec.ofNat 16 code, ring := none } with
    | some s' => s'
    | none => (s.notifyCell c (SUMP_EVT_VEC.get e) code).flag SUMP_STAT r.val SUMP_STAT_EVLOST
  else s

/-- A Sump reports event `code`. -/
def State.sumpReport (s : State) (r : Fin 4) (code : Nat) : State :=
  (s.sumpEntry r SUMP_EVT_NEV0 SUMP_EVT_CELL0 code).sumpEntry r SUMP_EVT_NEV1 SUMP_EVT_CELL1 code

/-- The AUX legs of a region follow its Sump (R350). -/
def State.sumpLegs (s : State) (r : Fin 4) : State :=
  (List.range 4).foldl (fun s q => s.settleBr (Fin.ofNat 16 (4 * r.val + q)) s.nowU) s

/-- The chopper signal is set (R348). -/
def State.setChop (s : State) (r : Fin 4) (b : Bool) : State :=
  if s.bit SUMP_STAT r.val SUMP_STAT_CHOP == b then s
  else ((s.setBit SUMP_STAT r.val SUMP_STAT_CHOP b).modSump r fun q =>
    { q with chopAt := some s.tick, used := q.used || b }).sumpLegs r

/-- The discharge signal is set (R352). -/
def State.setDis (s : State) (r : Fin 4) (b : Bool) : State :=
  if s.bit SUMP_STAT r.val SUMP_STAT_DIS == b then s
  else ((s.setBit SUMP_STAT r.val SUMP_STAT_DIS b).modSump r fun q =>
    { q with pulseAt := s.tick, used := q.used || b }).sumpLegs r

/-- The chopper follows CA.HI within MINON and MINOFF; RESHOT and a disabled chopper hold it off (R348, R349). -/
def State.sumpChop (s : State) (r : Fin 4) : State :=
  let chop := s.bit SUMP_STAT r.val SUMP_STAT_CHOP
  let past (F : Fld) : Bool := match (vget s.sump r).chopAt with
    | some t => decide (t + s.fld SUMP_CHOP r.val F * 640 ≤ s.tick)
    | none => true
  if s.bit SUMP_STAT r.val SUMP_STAT_RESHOT || !s.bit SUMP_CFG r.val SUMP_CFG_EN || !s.bit SUMP_CFG r.val SUMP_CFG_CHEN then
    s.setChop r false
  else if s.caHi r && !chop && past SUMP_CHOP_MINOFF then s.setChop r true
  else if !s.caHi r && chop && past SUMP_CHOP_MINON then s.setChop r false
  else s

/-- RAMPT in fabric ticks; 0 is treated as 1 (R351). -/
def State.rampTicks (s : State) (r : Fin 4) : Nat := max 1 (s.fld SUMP_CHOP r.val SUMP_CHOP_RAMPT) * 64000

/-- RAMPTO, where CA.HI is 1 later than RAMPT after the episode's start (R351). -/
def State.rampCheck (s : State) (r : Fin 4) : State :=
  if s.bit SUMP_STAT r.val SUMP_STAT_EPIS && s.caHi r && !s.bit SUMP_STAT r.val SUMP_STAT_RAMPTO &&
      (vget s.sump r).epAt + s.rampTicks r < s.tick then
    (s.flag SUMP_STAT r.val SUMP_STAT_RAMPTO).sumpReport r 6
  else s

/-! ## Discharge (R352, R353) -/

/-- DSTATE. -/
def State.dstate (s : State) (r : Fin 4) : Nat := s.fld SUMP_STAT r.val SUMP_STAT_DSTATE

/-- The discharge ends in state `st`, requested by nobody any more. -/
def State.endDis (s : State) (r : Fin 4) (st : Nat) : State :=
  ((s.setFld SUMP_STAT r.val SUMP_STAT_DSTATE st).setFld SUMP_STAT r.val SUMP_STAT_DREQ 0).setDis r false

/-- DONE, once CB.LO is 1 (R352). -/
def State.disDone (s : State) (r : Fin 4) : State :=
  if (s.dstate r == 1 || s.dstate r == 3) && s.sumpSees r SUMP_CFG_CB CMP_STAT_LO then (s.endDis r 2).sumpReport r 8 else s

/-- A request for discharge, from firmware (`src` 1) or the Grotto (2), where it is available (R352, R353). -/
def State.startDis (s : State) (r : Fin 4) (src : Nat) : State :=
  if s.dstate r == 1 || s.dstate r == 3 then (if src = 2 then s.setFld SUMP_STAT r.val SUMP_STAT_DREQ 2 else s)
  else
    let s1 := ((s.setFld SUMP_STAT r.val SUMP_STAT_DSTATE 1).setFld SUMP_STAT r.val SUMP_STAT_DREQ src).modSump r fun q =>
      { q with disAt := s.tick }
    (s1.setDis r true).disDone r

/-- The Grotto requests discharge (R352): with none available REQREF is set; the answer says whether it was taken. -/
def State.grottoDis (s : State) (r : Fin 4) : State × Bool :=
  if s.dstate r == 1 || s.dstate r == 3 || s.sumpAvail r then (s.startDis r 2, true)
  else (s.flag SUMP_STAT r.val SUMP_STAT_REQREF, false)

/-! ## Acceptance of a change (R338, R341 to R343) -/

/-- CMP_CAP records an edge (R342). -/
def State.cmpCapture (s : State) (c : Fin 64) (rise : Bool) : State :=
  let old := s.reg CMP_CAP c.val
  let ns := ((s.time.now.toNat : Int) - 2 * s.time.inc.toNat) / 2 ^ 32 % 2 ^ 29
  let w := CMP_CAP_NS.put (CMP_CAP_EDGE.put (CMP_CAP_NEW.put 0 1) (b2n rise)) ns.toNat
  s.setReg CMP_CAP c.val (CMP_CAP_OVR.put w (if CMP_CAP_NEW.get old = 1 then 1 else CMP_CAP_OVR.get old))

/-- An exit request from DOZE arrives (R563). -/
def State.dozeExit (s : State) : State :=
  match s.power.phase with
  | .doze | .quiesce 1 _ => { s with power := { s.power with exitReq := true } }
  | _ => s

/-- LATCH_SET: HIL or LOL of a comparator rises (R341, R343). -/
def State.latchRise (s : State) (c : Fin 64) (hil lol : Bool) : State :=
  let h := hil && !s.bit CMP_STAT c.val CMP_STAT_HIL
  let l := lol && !s.bit CMP_STAT c.val CMP_STAT_LOL
  if !h && !l then s
  else
    let s1 := if h then s.flag CMP_STAT c.val CMP_STAT_HIL else s
    let s2 := if l then s1.flag CMP_STAT c.val CMP_STAT_LOL else s1
    let rt := s2.reg CMP_ROUTE c.val
    let s3 :=
      if CMP_ROUTE_NEV.get rt = 1 then
        let cell := Fin.ofNat 128 (c.val / 16 * 32 + CMP_ROUTE_CELL.get rt)
        let pay := c.val * 1024 + s2.fld CMP_STAT c.val CMP_STAT_HIL * 512 + s2.fld CMP_STAT c.val CMP_STAT_LOL * 256
        match s2.pushFifo cell { vec := CMP_ROUTE_VEC.get rt, payload := BitVec.ofNat 16 pay, ring := none } with
        | some s' => s'
        | none => (s2.notifyCell cell (CMP_ROUTE_VEC.get rt) pay).flag CMP_STAT c.val CMP_STAT_EVLOST
      else s2
    if CMP_ROUTE_WAKE.get rt = 1 && s.cmpLive c then s3.dozeExit else s3

/-- TRIP: the bridges that a comparator's outputs trip, where its line to them has risen since state `old` or they are not
tripped (R288, R339, R340). -/
def State.cmpTrip (s old : State) (c : Fin 64) : State :=
  ((List.finRange 16).filter fun k => s.cmpTrips c k).foldl (fun s k =>
    if old.cmpTrips c k && (s.br k).trip && s.bit PWM_BSTAT k.val PWM_BSTAT_TRIP then s else s.cmpTripBr k) s

/-- What a region's Sump does when the outputs it sees change from `old` (CA.HI, CA.LO, CB.HI). -/
def State.sumpEdges (s : State) (r : Fin 4) (ah al bh : Bool) : State :=
  let ah' := s.caHi r
  let al' := s.sumpSees r SUMP_CFG_CA CMP_STAT_LO
  let bh' := s.sumpSees r SUMP_CFG_CB CMP_STAT_HI
  let s1 :=
    if ah' && !ah then
      let t := s.modSump r fun q => { q with lowAt := none }
      if t.bit SUMP_STAT r.val SUMP_STAT_EPIS then t.rampCheck r
      else (((t.setBit SUMP_STAT r.val SUMP_STAT_EPIS true).flag SUMP_STAT r.val SUMP_STAT_OV1).modSump r fun q =>
        { q with epAt := t.tick }).sumpReport r 1
    else if !ah' && ah then s.modSump r fun q => { q with lowAt := some s.tick }
    else s
  let s2 := if al' && !al then (s1.flag SUMP_STAT r.val SUMP_STAT_UV).sumpReport r 3
    else if !al' && al then s1.sumpReport r 4 else s1
  let s3 := if bh' && !bh then ((s2.flag SUMP_STAT r.val SUMP_STAT_OV2).sumpReport r 5).ov2Line r.val else s2
  (s3.sumpChop r).disDone r

/-- A change to comparators or the Sump of a region, and what its Sump makes of it. -/
def State.withSump (s : State) (r : Fin 4) (f : State → State) : State :=
  let ah := s.caHi r
  let al := s.sumpSees r SUMP_CFG_CA CMP_STAT_LO
  let bh := s.sumpSees r SUMP_CFG_CB CMP_STAT_HI
  (f s).sumpEdges r ah al bh

/-- The region of a comparator. -/
def cmpRegion (c : Fin 64) : Fin 4 := Fin.ofNat 4 (c.val / 16)

/-- A change of a comparator's outputs is accepted: capture, latches, trips and the Sump (R338 to R343). -/
def State.cmpAccept (s : State) (c : Fin 64) (hi lo : Bool) : State :=
  let hi0 := s.bit CMP_STAT c.val CMP_STAT_HI
  let lo0 := s.bit CMP_STAT c.val CMP_STAT_LO
  if hi == hi0 && lo == lo0 then s
  else
    s.withSump (cmpRegion c) fun s =>
      let s1 := (s.setBit CMP_STAT c.val CMP_STAT_HI hi).setBit CMP_STAT c.val CMP_STAT_LO lo
      let rt := s1.reg CMP_ROUTE c.val
      let old := if CMP_ROUTE_CAPS.get rt = 1 then lo0 else hi0
      let new := if CMP_ROUTE_CAPS.get rt = 1 then lo else hi
      let s2 := if old != new && bitN (CMP_ROUTE_CAPE.get rt) (if new then 0 else 1) then s1.cmpCapture c new else s1
      (s2.latchRise c (hi && !hi0) (lo && !lo0)).cmpTrip s c

/-! ## Register writes -/

/-- A comparator starts to settle (R337). -/
def State.cmpSettle (s : State) (c : Fin 64) : State :=
  { s.setBit CMP_STAT c.val CMP_STAT_SETTLE true with settle := vset s.settle c (some (s.tick + 320)) }

/-- A write of CMP_CFG would break the configuration of an enabled Sump (R346). -/
def State.cmpBreaksSump (s : State) (c : Fin 64) (v : Word) : Bool :=
  let r := cmpRegion c
  s.bit SUMP_CFG r.val SUMP_CFG_EN && (s.sumpCmp r SUMP_CFG_CA == c || s.sumpCmp r SUMP_CFG_CB == c) &&
    !s.sumpFits r (s.reg SUMP_CFG r.val) fun i => if i = c.val then v else s.reg CMP_CFG i

/-- CMP_CFG written (R337, R346): a comparator that is disabled has its outputs at 0. -/
def State.writeCmpCfg (s : State) (ag : Agent) (c : Fin 64) (v : Word) : State :=
  if s.cmpBreaksSump c v then s.discard ag CMP_CFG c.val stPERM
  else
    let old := s.reg CMP_CFG c.val
    s.withSump (cmpRegion c) fun s =>
      let s1 := s.setReg CMP_CFG c.val (v &&& 0xF8FFFFF0)
      let changed := [CMP_CFG_MODE, CMP_CFG_INSEL, CMP_CFG_RSEL, CMP_CFG_SMP, CMP_CFG_TEST].any fun F => F.get old != F.get v
      if CMP_CFG_EN.get v = 1 then
        if CMP_CFG_EN.get old = 0 then
          ((s1.setBit CMP_STAT c.val CMP_STAT_HI false).setBit CMP_STAT c.val CMP_STAT_LO false).cmpSettle c
        else if changed then s1.cmpSettle c
        else s1
      else
        let s2 := ((s1.setBit CMP_STAT c.val CMP_STAT_HI false).setBit CMP_STAT c.val CMP_STAT_LO false).setBit CMP_STAT c.val
          CMP_STAT_SETTLE false
        { s2 with settle := vset s2.settle c none }

/-- CMP_THR or CMP_HYS written: an enabled comparator settles (R337). -/
def State.writeCmpLevel (s : State) (c : Fin 64) (f : RegFam) (v : Word) : State :=
  let s1 := s.setReg f c.val v
  if s.bit CMP_CFG c.val CMP_CFG_EN then s1.cmpSettle c else s1

/-- CMP_ROUTE written (R343, R356): NEV for a cell whose chamber does not own the comparator is refused; the routing in force
after the write decides about trips. -/
def State.writeCmpRoute (s : State) (ag : Agent) (c : Fin 64) (v : Word) : State :=
  if CMP_ROUTE_NEV.get v = 1 && s.ownerOf 0x01 (c.val / 16 * 32 + CMP_ROUTE_CELL.get v) != s.ownerOf 0x04 c.val then
    s.discard ag CMP_ROUTE c.val stPERM
  else (s.setReg CMP_ROUTE c.val (v &&& 0xFFFFF800)).cmpTrip s c

/-- CMP_STAT written: a latch whose output is still 1 stays 1 (R341). -/
def State.writeCmpStat (s : State) (c : Fin 64) (v : Word) : State :=
  let clr (s : State) (F O : Fld) : State :=
    if F.get v = 1 && !s.bit CMP_STAT c.val O then s.setBit CMP_STAT c.val F false else s
  let s1 := clr (clr s CMP_STAT_HIL CMP_STAT_HI) CMP_STAT_LOL CMP_STAT_LO
  if CMP_STAT_EVLOST.get v = 1 then s1.setBit CMP_STAT c.val CMP_STAT_EVLOST false else s1

/-- PSTART of group g clears the latches of comparators with PCLR (R341). -/
def State.cmpPstart (s : State) (g : Fin 32) : State :=
  (List.range 16).foldl (fun s m =>
    let c := Fin.ofNat 64 (g.val / 8 * 16 + m)
    if s.bit CMP_CFG c.val CMP_CFG_PCLR && s.fld CMP_CFG c.val CMP_CFG_CLRGRP == g.val % 8 then
      s.writeCmpStat c (CMP_STAT_HIL.put (CMP_STAT_LOL.put 0 1) 1)
    else s) s

/-- SUMP_CFG written (R346). -/
def State.writeSumpCfg (s : State) (ag : Agent) (r : Fin 4) (v : Word) : State :=
  if SUMP_CFG_EN.get v = 1 && !s.sumpFits r v (fun c => s.reg CMP_CFG c) then s.discard ag SUMP_CFG r.val stPERM
  else
    (s.withSump r fun s =>
      let s1 := s.setReg SUMP_CFG r.val (v &&& 0xCFFFF000)
      if SUMP_CFG_EN.get v = 0 && (s1.dstate r == 1 || s1.dstate r == 3) then s1.endDis r 0 else s1).sumpLegs r

/-- SUMP_CTRL.DISCH (R352). -/
def State.firmDisch (s : State) (ag : Agent) (r : Fin 4) : State :=
  if s.dstate r == 1 || s.dstate r == 3 then s
  else if s.sumpAvail r then s.startDis r 1
  else s.discard ag SUMP_CTRL r.val stPERM

/-- SUMP_CTRL.DSTOP (R353): refused for a discharge of the Grotto. -/
def State.firmDstop (s : State) (ag : Agent) (r : Fin 4) : State :=
  if s.dstate r == 1 || s.dstate r == 3 then
    if s.fld SUMP_STAT r.val SUMP_STAT_DREQ == 2 then s.discard ag SUMP_CTRL r.val stPERM else s.endDis r 0
  else s

/-- SUMP_CTRL written: DSTOP first, then DISCH. -/
def State.writeSumpCtrl (s : State) (ag : Agent) (r : Fin 4) (v : Word) : State :=
  let s1 := if SUMP_CTRL_DSTOP.get v = 1 then s.firmDstop ag r else s
  if SUMP_CTRL_DISCH.get v = 1 then s1.firmDisch ag r else s1

/-! ## Commands -/

/-- COMPARATOR_OUTPUT_CHANGE (R338): the levels at the comparator's balls and how many fabric ticks the change they make has
held. -/
def execComparatorOutputChange (c : Fin 64) (v vref vrefl vrefh : Int) (held : Nat) (s : State) :
    Host.Outcome State Fault Refusal :=
  ok (if s.fabricOn && s.bit CMP_CFG c.val CMP_CFG_EN && !s.bit CMP_CFG c.val CMP_CFG_SMP && (vget s.settle c).isNone &&
        s.fld CMP_CFG c.val CMP_CFG_FILT ≤ held then
      let o := s.cmpEval c { v := v, vref := vref, lo := vrefl, hi := vrefh }
      s.cmpAccept c o.1 o.2
    else s)

/-- SETTLE_END (R337): crossings are assessed. -/
def execSettleEnd (c : Fin 64) (v vref vrefl vrefh : Int) (s : State) : Host.Outcome State Fault Refusal :=
  ok (match vget s.settle c with
    | none => s
    | some t =>
      if s.fabricOn && t ≤ s.tick then
        let s1 : State := { s.setBit CMP_STAT c.val CMP_STAT_SETTLE false with settle := vset s.settle c none }
        if s1.bit CMP_CFG c.val CMP_CFG_SMP then s1.cmpTrip s1 c
        else
          let o := s1.cmpEval c { v := v, vref := vref, lo := vrefl, hi := vrefh }
          let s2 := s1.cmpAccept c o.1 o.2
          s2.cmpTrip s2 c
      else s)

/-- SAMPLED_EVALUATION (R344). -/
def execSampledEvaluation (c : Fin 64) (v vref vrefl vrefh : Int) (s : State) : Host.Outcome State Fault Refusal :=
  ok (if s.fabricOn && s.bit CMP_CFG c.val CMP_CFG_EN && s.bit CMP_CFG c.val CMP_CFG_SMP && (vget s.settle c).isNone then
      let o := s.cmpEval c { v := v, vref := vref, lo := vrefl, hi := vrefh }
      s.cmpAccept c o.1 o.2
    else s)

/-- CHOPPER_TIMER (R348). -/
def execChopperTimer (r : Fin 4) (s : State) : Host.Outcome State Fault Refusal :=
  ok (if s.fabricOn then s.sumpChop r else s)

/-- ENERGY_MODEL_UPDATE (R349): one microsecond. -/
def execEnergyModelUpdate (r : Fin 4) (s : State) : Host.Outcome State Fault Refusal :=
  ok (let emax := s.fld SUMP_RES r.val SUMP_RES_EMAX
    if !s.fabricOn || emax = 0 then s
    else
      let on := (vget s.sump r).used || s.bit SUMP_STAT r.val SUMP_STAT_CHOP || s.bit SUMP_STAT r.val SUMP_STAT_DIS
      let e := (s.reg SUMP_E r.val).toNat
      let e' := if on then min (e + s.fld SUMP_RES r.val SUMP_RES_INC) (2 ^ 32 - 1) else e - s.fld SUMP_RES r.val SUMP_RES_DEC
      let s1 := (s.setReg SUMP_E r.val (BitVec.ofNat 32 e')).modSump r fun q => { q with used := false }
      let was := s1.bit SUMP_STAT r.val SUMP_STAT_RESHOT
      let hot := if e' ≤ emax * 2 ^ 15 then false else if emax * 2 ^ 16 ≤ e' then true else was
      let s2 := s1.setBit SUMP_STAT r.val SUMP_STAT_RESHOT hot
      if hot && !was then ((s2.setChop r false).setDis r false).sumpReport r 7
      else if was && !hot then
        (if s2.dstate r == 1 || s2.dstate r == 3 then s2.setDis r true else s2).sumpChop r
      else s2)

/-- EPISODE_END (R351). -/
def execEpisodeEnd (r : Fin 4) (s : State) : Host.Outcome State Fault Refusal :=
  ok (match (vget s.sump r).lowAt with
    | some t =>
      if s.fabricOn && s.bit SUMP_STAT r.val SUMP_STAT_EPIS && !s.caHi r && t + s.rampTicks r ≤ s.tick then
        (s.setBit SUMP_STAT r.val SUMP_STAT_EPIS false).sumpReport r 2
      else s
    | none => s)

/-- RAMP_LIMIT_EXPIRY (R351). -/
def execRampLimitExpiry (r : Fin 4) (s : State) : Host.Outcome State Fault Refusal :=
  ok (if s.fabricOn then s.rampCheck r else s)

/-- SUMP_DISCH (R352). -/
def execSumpDisch (ag : Agent) (r : Fin 4) (v : Word) (s : State) : Host.Outcome State Fault Refusal :=
  ok (s.asWrite ag SUMP_CTRL r.val fun s => s.writeSumpCtrl ag r (SUMP_CTRL_DISCH.put v 1))

/-- DSTOP (R353). -/
def execDstop (ag : Agent) (r : Fin 4) (s : State) : Host.Outcome State Fault Refusal :=
  ok (s.asWrite ag SUMP_CTRL r.val fun s => s.firmDstop ag r)

/-- DISCHARGE_PULSE_TIMER (R352). -/
def execDischargePulseTimer (r : Fin 4) (s : State) : Host.Outcome State Fault Refusal :=
  ok (let on := s.bit SUMP_STAT r.val SUMP_STAT_DIS
    let off := s.fld SUMP_DIS r.val SUMP_DIS_DOFF
    let us := if on then max 1 (s.fld SUMP_DIS r.val SUMP_DIS_DON) else off
    if s.fabricOn && (s.dstate r == 1 || s.dstate r == 3) && !s.bit SUMP_STAT r.val SUMP_STAT_RESHOT &&
        (off != 0 || !on) && (vget s.sump r).pulseAt + us * 640 ≤ s.tick then s.setDis r (!on)
    else s)

/-- DTIME in ms, kept within 100 to 5,000 (R352). -/
def State.dtime (s : State) (r : Fin 4) : Nat := max 100 (min 5000 (s.fld SUMP_DIS r.val SUMP_DIS_DTIME))

/-- DISCHARGE_TIMEOUT (R353). -/
def execDischargeTimeout (r : Fin 4) (s : State) : Host.Outcome State Fault Refusal :=
  ok (if s.fabricOn && s.dstate r == 1 && (vget s.sump r).disAt + s.dtime r * 640000 ≤ s.tick then
      if s.sumpSees r SUMP_CFG_CB CMP_STAT_LO then s.disDone r
      else (((s.setFld SUMP_STAT r.val SUMP_STAT_DSTATE 3).flag SUMP_STAT r.val SUMP_STAT_DTO).sumpReport r 9).dtoLine r.val
    else s)

end Sys2Proof.Machine
end

