-- ==== Sys2Proof/Machine/MachineCtl.lean ====
section
/-! DEFINITION. The units of an axis (R230 to R264): reference shaper and feed-forward, set-point follower, share unit,
pattern player and six-step unit. -/

namespace Sys2Proof.Machine

/-! ## Common -/

/-- The units of axis `x`. -/
def State.ax (s : State) (x : Fin 8) : AxisU := vget s.axis x
/-- The units of an axis changed. -/
def State.modU (s : State) (x : Fin 8) (f : AxisU → AxisU) : State := { s with axis := vset s.axis x (f (vget s.axis x)) }
/-- The region of an axis. -/
def axReg (x : Fin 8) : Fin 4 := Fin.ofNat 4 (x.val / 2)
/-- Bridge q of the region of an axis. -/
def axBr (x : Fin 8) (q : Nat) : Fin 16 := Fin.ofNat 16 (4 * (x.val / 2) + q)
/-- The other axis of the region. -/
def twinAxis (x : Fin 8) : Fin 8 := Fin.ofNat 8 (if x.val % 2 = 0 then x.val + 1 else x.val - 1)
/-- The numbers of the bits set in a mask of four bridges. -/
def maskBits (m : Nat) : List Nat := (List.range 4).filter (bitN m ·)

/-- floor of the square root of a number below 2^(2n): bits from the top down. -/
def isqrtB (x : Nat) : Nat → Nat → Nat
  | 0, r => r
  | n + 1, r => isqrtB x n (if (r + 2 ^ n) * (r + 2 ^ n) ≤ x then r + 2 ^ n else r)

/-- floor of the square root of x ≥ 0 (R233), for x below 2⁶⁴. -/
def isqrt (x : Nat) : Nat := isqrtB x 32 0

/-- An unsigned limit with bit `n − 1` set is treated as the largest positive value. -/
def posLim (n v : Nat) : Int := if v < 2 ^ (n - 1) then (v : Int) else 2 ^ (n - 1) - 1

/-- A signal loss of a position interface persists (R370, R240). -/
def State.posLost (s : State) (k : Fin 16) : Bool :=
  [1, 2, 6, 8, 9].any fun c => (vget s.pos k).conds.getLsbD c

/-! ## Follower (R238 to R240) -/

/-- The follower is enabled. -/
def State.spfOn (s : State) (x : Fin 8) : Bool := s.bit SPF_CFG x.val SPF_CFG_EN
/-- The interface or converter of the follower. -/
def State.spfUnit (s : State) (x : Fin 8) : Nat := 4 * (x.val / 2) + s.fld SPF_CFG x.val SPF_CFG_SIDX
/-- RM of the follower: 0 is treated as 1. -/
def State.spfRm (s : State) (x : Fin 8) : Int := max 1 (s.fld SPF_GAIN x.val SPF_GAIN_OFS)
/-- FWX of the follower: above 10 treated as 10. -/
def State.spfWin (s : State) (x : Fin 8) : Nat := 2 ^ min 10 (s.fld SPF_CFG x.val SPF_CFG_FWX)

/-- A result of a converter channel reaches an ANALOG follower (R238, R240). -/
def State.spfAnalog (s : State) (x : Fin 8) (adc ch : Nat) (code : Nat) (overs : Bool) : State :=
  let c := s.reg SPF_CFG x.val
  let sch := if 6 ≤ SPF_CFG_SCH.get c then 0 else SPF_CFG_SCH.get c
  if SPF_CFG_SRC.get c = 1 ∧ s.spfUnit x = adc ∧ sch = ch then
    if overs then (s.flag SPF_STAT x.val SPF_STAT_INLOST).modU x fun u => { u with lost := true }
    else s.modU x fun u =>
      { u with lost := false
               fin := satS 32 (((code : Int) - s.fld SPF_GAIN x.val SPF_GAIN_OFS) * s.sfld SPF_GAIN x.val SPF_GAIN_GAIN) }
  else s

/-- The input of an evaluation: the count of the interface is read, PCOUNT and PFREQ advance (R238, R240). A PFREQ result
outside 32 bits is a value the spec does not state. -/
def State.spfInput (s : State) (x : Fin 8) : State :=
  match s.fld SPF_CFG x.val SPF_CFG_SRC with
  | 0 => s.modU x fun u => { u with fin := s.sfld SPF_IN x.val SPF_IN_VALUE, lost := false }
  | 1 => if (s.ax x).lost then s.flag SPF_STAT x.val SPF_STAT_INLOST else s
  | m =>
    let k := Fin.ofNat 16 (s.spfUnit x)
    let cnt := s.fld POS_CNT k.val POS_CNT_VALUE
    let lost := s.posLost k
    let u := s.ax x
    let d : Int := if u.first then 0 else wrapS 32 ((cnt : Int) - u.prev)
    let rn := s.sfld SPF_GAIN x.val SPF_GAIN_GAIN
    let rm := s.spfRm x
    let s1 := if lost then s.flag SPF_STAT x.val SPF_STAT_INLOST else s
    if m = 2 then
      let q := (if lost then 0 else d) * rn * 2 ^ 16 + u.rem
      s1.modU x fun u => { u with prev := cnt, lost := lost, fin := wrapS 32 (u.fin + q / rm), rem := q - q / rm * rm }
    else
      let h := (d :: u.hist).take 1024
      let w := s.spfWin x
      let v := (h.take w).foldl (· + ·) 0 * rn * 2 ^ 16 / (rm * w)
      let s2 := s1.modU x fun u => { u with prev := cnt, lost := lost, hist := h }
      if lost then s2
      else if oflow 32 v then (s2.modU x fun u => { u with fin := sx 32 s2.free.toNat }).used
      else s2.modU x fun u => { u with fin := v }

/-- FOLLOWER: one evaluation (R239). -/
def State.spfEval (s : State) (x : Fin 8) : State :=
  let c := s.reg SPF_CFG x.val
  let s1 := s.spfInput x
  let u := s1.ax x
  let pc := SPF_CFG_SRC.get c == 2
  let vmax := posLim 32 (s.fld SPF_VMAX x.val SPF_VMAX_VALUE)
  let amax := posLim 32 (s.fld SPF_AMAX x.val SPF_AMAX_VALUE)
  let r0 := s.sfld SPF_REF x.val SPF_REF_VALUE
  let v0 := s.sfld SPF_VEL x.val SPF_VEL_VALUE
  let e := if pc then wrapS 32 (u.fin - r0) else u.fin - r0
  let vd := clampI (e / 2 ^ SPF_CFG_KSH.get c) (-vmax) vmax
  let a := if u.first then 0 else clampI (vd - v0) (-amax) amax
  let v := if u.first then 0 else v0 + a
  let r := if u.first then u.fin else if pc then wrapS 32 (r0 + v) else satS 32 (r0 + v)
  let s2 := ((s1.setReg SPF_REF x.val (BitVec.ofInt 32 r)).setReg SPF_VEL x.val (BitVec.ofInt 32 v)).setReg SPF_ACC x.val
    (BitVec.ofInt 32 a)
  ((s2.setBit SPF_STAT x.val SPF_STAT_VLIM (v.natAbs == vmax)).setBit SPF_STAT x.val SPF_STAT_ALIM (a.natAbs == amax)).modU x
    fun u => { u with first := false, wait := 2 ^ min 10 (SPF_CFG_DIV.get c) - 1 }

/-- The follower at an update: every 2^DIV updates it is evaluated (R239). -/
def State.follower (s : State) (x : Fin 8) : State :=
  if !s.spfOn x then s
  else if (s.ax x).wait = 0 then s.spfEval x
  else s.modU x fun u => { u with wait := u.wait - 1 }

/-- SPF_CFG written (R239): a rise of EN starts without a step. -/
def State.writeSpfCfg (s : State) (x : Fin 8) (v : Word) : State :=
  let old := s.spfOn x
  let s1 := s.setReg SPF_CFG x.val (v &&& 0xFFFFF000)
  if !old && s1.spfOn x then s1.modU x fun u => { u with first := true, wait := 0, rem := 0, hist := [], lost := false } else s1

/-- What SPF_IN reads: the register input, or the current input of another source. -/
def State.spfInRead (s : State) (x : Fin 8) : Word :=
  if s.fld SPF_CFG x.val SPF_CFG_SRC = 0 then s.reg SPF_IN x.val else BitVec.ofInt 32 (s.ax x).fin

/-! ## Shaper and feed-forward (R233 to R237) -/

/-- The shaper is enabled. -/
def State.axOn (s : State) (x : Fin 8) : Bool := s.bit AX_CFG x.val AX_CFG_EN
/-- The DC-link copy is enabled (VCH 6 and 7 act as VEN = 0). -/
def State.axVen (s : State) (x : Fin 8) : Bool :=
  s.bit AX_CFG x.val AX_CFG_VEN && decide (s.fld AX_CFG x.val AX_CFG_VCH < 6)
/-- sat16 of the shaper: it sets SAT when it acts. -/
def State.axSat (s : State) (x : Fin 8) (v : Int) : State :=
  if oflow 16 v then s.flag AX_STAT x.val AX_STAT_SAT else s

/-- DC_LINK_COPY: a result of a converter channel lands (R236). -/
def State.axCopy (s : State) (x : Fin 8) (adc ch code : Nat) : State :=
  if s.axVen x && 4 * (x.val / 2) + s.fld AX_CFG x.val AX_CFG_VADC == adc && s.fld AX_CFG x.val AX_CFG_VCH == ch then
    s.modU x fun u =>
      { u with vf := ((u.vf : Int) + ((code : Int) * 2 ^ 16 - u.vf) / 2 ^ s.fld AX_CFG x.val AX_CFG_VSH).toNat }
  else s

/-- The link factor KV (R236). With VMIN = 0 and VDCF = 0 the spec states no quotient: a free value. -/
def State.axLink (s : State) (x : Fin 8) : State :=
  if !s.axVen x then s.setFld AX_KV x.val AX_KV_KV 0x4000
  else
    let vdc := (s.ax x).vf / 2 ^ 16
    let vmin := s.fld AX_VNOM x.val AX_VNOM_VMIN
    let num := s.fld AX_VNOM x.val AX_VNOM_VNOM * 2 ^ 14
    let low := decide (vdc < vmin)
    let d := if low then max vmin 1 else vdc
    let kv := if d = 0 then s.free.toNat % 2 ^ 16 else min (num / d) 0xFFFF
    let s1 := if d = 0 then s.used else s
    (s1.setReg AX_KV x.val (AX_KV_KV.put (AX_KV_VDCF.put 0 vdc) kv)).setBit AX_STAT x.val AX_STAT_VLOW low

/-- The acceleration of the feed-forward (R237). -/
def State.ffAccel (s : State) (x : Fin 8) : Int :=
  match s.fld AX_FF x.val AX_FF_ASRC with
  | 1 => if s.angValid x then s.sfld ANG_ACCEL x.val ANG_ACCEL_VALUE else 0
  | 2 => s.sfld SPF_ACC x.val SPF_ACC_VALUE
  | _ => 0

/-- TFF (R237). -/
def State.feedForward (s : State) (x : Fin 8) : State :=
  let t := s.ffAccel x * s.sfld AX_FF x.val AX_FF_KJ / 2 ^ s.fld AX_FF x.val AX_FF_JSH
  (s.axSat x t).setFld AX_TFF x.val AX_TFF_T (pat 16 (satS 16 t))

/-- interp of a table column (R233). -/
def State.axInterp (s : State) (x : Fin 8) (F : Fld) (t : Nat) : Int :=
  let i := t / 2 ^ 11
  let y (k : Nat) : Int := s.sfld AX_TAB (17 * x.val + k) F
  y i + (y (i + 1) - y i) * (t % 2 ^ 11 : Nat) / 2 ^ 11

/-- SHAPER (R233 to R235). -/
def State.shaper (s : State) (x : Fin 8) : State :=
  let c := s.reg AX_CFG x.val
  let tin : Int := if AX_CFG_TSRC.get c = 0 then s.sfld AX_TCMD x.val AX_TCMD_T
    else sx 16 (s.fld SPF_REF x.val SPF_REF_VALUE / 2 ^ 16)
  let sum : Int := if AX_CFG_TFFADD.get c = 1 then tin + s.sfld AX_TFF x.val AX_TFF_T else tin
  let t := satS 16 sum
  let s1 := s.axSat x sum
  let m := min t.natAbs 32767
  let idm := s.axInterp x AX_TAB_ID m
  let iqa := s.axInterp x AX_TAB_IQ m
  let iqm := if t < 0 then -iqa else iqa
  let u := s.ax x
  let vd := s.sfld AX_VDQ x.val AX_VDQ_D
  let vq := s.sfld AX_VDQ x.val AX_VDQ_Q
  let mag : Int := isqrt (vd * vd + vq * vq).toNat
  let idfw := min 0 (s.sfld AX_LIM x.val AX_LIM_IDFW)
  let dI := if u.vfresh then
      clampI (u.dI + s.fld AX_FW x.val AX_FW_KFW * (s.fld AX_FW x.val AX_FW_MREF - mag)) (idfw * 2 ^ 16) 0
    else u.dI
  let imax := posLim 16 (s.fld AX_LIM x.val AX_LIM_IMAX)
  let id := clampI (idm + dI / 2 ^ 16) (-imax) imax
  let lim : Int := isqrt (max (imax * imax - id * id) 0).toNat
  let iq := clampI iqm (-lim) lim
  let age := if u.vfresh then 0 else u.vAge + 1
  let stale := decide (max 1 (AX_CFG_VTMO.get c) ≤ age)
  let s2 := (s1.setReg AX_IREF x.val (AX_IREF_D.put (AX_IREF_Q.put 0 (pat 16 iq)) (pat 16 id))).modU x fun u =>
    { u with dI := dI, vfresh := false, vAge := min age 255 }
  let s3 := (s2.setBit AX_STAT x.val AX_STAT_FW (dI < 0)).setBit AX_STAT x.val AX_STAT_ILIM (iq != iqm)
  if stale then s3.flag AX_STAT x.val AX_STAT_VSTALE else s3

/-- AX_CFG written: a rise of EN clears dI (R233) and restarts the count of R234. -/
def State.writeAxCfg (s : State) (x : Fin 8) (v : Word) : State :=
  let old := s.axOn x
  let s1 := s.setReg AX_CFG x.val (v &&& 0xFFF8FF00)
  if !old && s1.axOn x then s1.modU x fun u => { u with dI := 0, vAge := 0 } else s1

/-- AX_VDQ written (R234). -/
def State.writeVdq (s : State) (x : Fin 8) (v : Word) : State :=
  ((s.setReg AX_VDQ x.val v).setBit AX_STAT x.val AX_STAT_VSTALE false).modU x fun u => { u with vfresh := true }

/-- AX_VDQ_WRITE (R234). -/
def execAxVdqWrite (ag : Agent) (x : Fin 8) (v : Word) (s : State) : Host.Outcome State Fault Refusal :=
  ok (s.asWrite ag AX_VDQ x.val fun s => s.writeVdq x v)

/-! ## Share unit (R241 to R245) -/

/-- Members of the share unit. -/
def State.shMemb (s : State) (x : Fin 8) : List Nat := maskBits (s.fld SH_CFG x.val SH_CFG_MEMB)
/-- The recorded cause of bridge q. -/
def State.shCause (s : State) (x : Fin 8) (q : Nat) : Nat := s.fld SH_CAUSE x.val (fldAt 4 q)

/-- Causes present at an update for bridge `k`, the lowest code first (R242). -/
def State.shPresent (s : State) (k : Fin 16) (excl : Bool) : Option Nat :=
  let g := s.bgrp k
  if (linksOf k).any fun j => s.bit GDL_STAT j.val GDL_STAT_FAULT then some 1
  else if (linksOf k).any fun j => s.bit GDL_CFG j.val GDL_CFG_EN && s.fld GDL_STAT j.val GDL_STAT_LINK != 2 then some 2
  else if ((List.finRange 64).any fun c => s.cmpTrips c k) ||
      ((s.br k).trip && s.fld PWM_BSTAT k.val PWM_BSTAT_TCAUSE == 1) then some 3
  else if (s.br k).safe.isSome then some 4
  else if (s.pg g).abort then some 5
  else if (match (s.pg g).mig with
      | some (_, hold, _) => !hold
      | none => false) then some 6
  else if excl then some 7
  else none

/-- The weight of a member (R241). -/
def State.shWeight (s : State) (x : Fin 8) (q : Nat) : Nat :=
  match s.fld SH_CFG x.val SH_CFG_POLICY with
  | 1 => s.fld SH_W x.val (fldAt 8 q)
  | 2 => s.fld LAN_BSTAT (axBr x q).val LAN_BSTAT_W
  | _ => 1

/-- The limit of a member (R241). -/
def State.shLimit (s : State) (x : Fin 8) (q : Nat) : Nat :=
  let raw := match q with
    | 0 => s.fld SH_LIM01 x.val SH_LIM01_LIML
    | 1 => s.fld SH_LIM01 x.val SH_LIM01_LIMH
    | 2 => s.fld SH_LIM23 x.val SH_LIM23_LIML
    | _ => s.fld SH_LIM23 x.val SH_LIM23_LIMH
  let l := (posLim 16 raw).toNat
  if s.bit SH_CFG x.val SH_CFG_RIM then min l (s.fld LAN_BLIM (axBr x q).val LAN_BLIM_LIM) else l

/-- What the split assigns: the shares by bridge, and whether any was limited. -/
structure Split where
  share : List (Nat × Nat)
  clip  : Bool

/-- The loop of R243: `f` the members left, `rest` what is left to give. -/
def splitLoop (w l : Nat → Nat) : Nat → List Nat → Nat → Split → Split
  | 0, _, _, a => a
  | n + 1, f, rest, a =>
    let sum := f.foldl (fun t q => t + w q) 0
    if sum = 0 then { a with share := a.share ++ f.map fun q => (q, 0) }
    else
      let c := f.filter fun q => l q * sum ≤ rest * w q
      if c.isEmpty then { a with share := a.share ++ f.map fun q => (q, rest * w q / sum) }
      else splitLoop w l n (f.filter (!c.contains ·)) (rest - c.foldl (fun t q => t + l q) 0)
        { share := a.share ++ c.map fun q => (q, l q), clip := true }

/-- The share of bridge q. -/
def Split.of (a : Split) (q : Nat) : Nat := smGet 0 a.share q

/-- SHARE_SPLIT: the outputs for the healthy members (R243). -/
def State.shSplit (s : State) (x : Fin 8) : State :=
  let memb := s.shMemb x
  let healthy := memb.filter fun q => s.shCause x q == 0
  let iq := s.sfld AX_IREF x.val AX_IREF_Q
  let id := s.sfld AX_IREF x.val AX_IREF_D
  let amp := isqrt (iq * iq + id * id).toNat
  let need := amp * memb.length
  let a := splitLoop (s.shWeight x) (s.shLimit x) 5 healthy need { share := [], clip := false }
  let total := healthy.foldl (fun t q => t + a.of q) 0
  let out (q : Nat) : Word :=
    if amp = 0 || !healthy.contains q then 0
    else SH_IREF_ID.put (SH_IREF_IQ.put 0 (pat 16 ((iq * a.of q).tdiv amp))) (pat 16 ((id * a.of q).tdiv amp))
  let s1 := (List.range 4).foldl (fun s q => s.setReg SH_IREF (4 * x.val + q) (out q)) s
  (s1.setReg SH_SHORT x.val (BitVec.ofNat 32 (min (need - total) 0xFFFF))).setBit SH_STAT x.val SH_STAT_CLIP a.clip

/-- SH_STAT by R245. -/
def State.shStatus (s : State) (x : Fin 8) : State :=
  let memb := s.shMemb x
  let bad := memb.filter fun q => s.shCause x q != 0
  let mask (l : List Nat) : Nat := l.foldl (fun n q => n + 2 ^ q) 0
  let st :=
    match bad with
    | [] => stOK
    | q :: _ => if bad.length < memb.length then stPARTIAL else if s.shCause x q = 2 then stLINK_DOWN else stABORTED
  ((s.setFld SH_STAT x.val SH_STAT_STATUS st).setFld SH_STAT x.val SH_STAT_MASK (mask bad)).setFld SH_STAT x.val
    SH_STAT_HEALTHY (mask (memb.filter fun q => s.shCause x q == 0))

/-- The health of one member at an update: the new cause (R242, R262). -/
def State.shJudge (s : State) (x : Fin 8) (q : Nat) : Nat :=
  let u := s.ax x
  let old := s.shCause x q
  match s.shPresent (axBr x q) (u.excl.getLsbD q) with
  | some c => if old = 0 then c else old
  | none => if u.readm.getLsbD q then 0 else old

/-- The share unit at an update (R242 to R245). -/
def State.share (s : State) (x : Fin 8) : State :=
  if !s.bit SH_CFG x.val SH_CFG_EN then s
  else
    let memb := s.shMemb x
    let auto := s.bit SH_CFG x.val SH_CFG_AUTO
    let news := memb.map fun q => (q, s.shJudge x q)
    let changed := news.any fun e => (e.2 == 0) != (s.shCause x e.1 == 0)
    let s1 := news.foldl (fun s e =>
      let t := s.setFld SH_CAUSE x.val (fldAt 4 e.1) e.2
      if s.shCause x e.1 == 0 && e.2 != 0 then t.setReg SH_IREF (4 * x.val + e.1) 0 else t) s
    let u := s.ax x
    let frozen := !auto && ((u.frozen || changed) && !u.apply)
    let s2 := (s1.modU x fun u => { u with apply := false, excl := 0, readm := 0, frozen := frozen })
    let s3 := if changed then s2.flag SH_STAT x.val SH_STAT_CHG else s2
    (if frozen then s3 else s3.shSplit x).shStatus x

/-! ## Which unit drives a bridge (R232) -/

/-- The groups of the bridges of a mask belong to the chamber of the axis. -/
def State.groupsOwned (s : State) (x : Fin 8) (m : Nat) : Bool :=
  (maskBits m).all fun q => s.ownerOf 0x02 (s.groupOf (axBr x q).val) == s.ownerOf 0x0A x.val

/-- Bridges driven by an enabled player, as a mask of its region. -/
def State.oppMask (s : State) (x : Fin 8) : Nat :=
  if s.bit OPP_CFG x.val OPP_CFG_EN then s.fld OPP_CFG x.val OPP_CFG_BR else 0
/-- The bridge driven by an enabled six-step unit. -/
def State.ssxMask (s : State) (x : Fin 8) : Nat :=
  if s.bit SSX_CFG x.val SSX_CFG_EN then 2 ^ s.fld SSX_CFG x.val SSX_CFG_BR else 0
/-- Masks meet. -/
def meets (a b : Nat) : Bool := (List.range 4).any fun q => bitN a q && bitN b q

/-- SH_CFG written (R232). -/
def State.writeShCfg (s : State) (ag : Agent) (x : Fin 8) (v : Word) : State :=
  let m := SH_CFG_MEMB.get v
  let y := twinAxis x
  if SH_CFG_EN.get v = 1 ∧
      ((s.bit SH_CFG y.val SH_CFG_EN && meets m (s.fld SH_CFG y.val SH_CFG_MEMB)) || !s.groupsOwned x m) = true then
    s.discard ag SH_CFG x.val stPERM
  else s.setReg SH_CFG x.val (v &&& 0xF80F0000)

/-- SH_CMD written: it acts at the next update. -/
def State.writeShCmd (s : State) (x : Fin 8) (v : Word) : State :=
  s.modU x fun u =>
    { u with apply := u.apply || SH_CMD_APPLY.get v == 1
             excl := u.excl ||| BitVec.ofNat 4 (SH_CMD_EXCL.get v)
             readm := u.readm ||| BitVec.ofNat 4 (SH_CMD_READMIT.get v) }

/-- APPLY (R244). -/
def execApply (ag : Agent) (x : Fin 8) (s : State) : Host.Outcome State Fault Refusal :=
  ok (s.asWrite ag SH_CMD x.val fun s => s.writeShCmd x (SH_CMD_APPLY.put 0 1))

/-- EXCL (R242). -/
def execExcl (ag : Agent) (x : Fin 8) (m : BitVec 4) (s : State) : Host.Outcome State Fault Refusal :=
  ok (s.asWrite ag SH_CMD x.val fun s => s.writeShCmd x (SH_CMD_EXCL.put 0 m.toNat))

/-- READMIT (R242). -/
def execReadmit (ag : Agent) (x : Fin 8) (m : BitVec 4) (s : State) : Host.Outcome State Fault Refusal :=
  ok (s.asWrite ag SH_CMD x.val fun s => s.writeShCmd x (SH_CMD_READMIT.put 0 m.toNat))

/-! ## Pattern player (R246 to R253) -/

/-- OPP_STAT.STATE. -/
def State.oppState (s : State) (x : Fin 8) : Nat := s.fld OPP_STAT x.val OPP_STAT_STATE
/-- OPP_STAT.STATE written. -/
def State.setOpp (s : State) (x : Fin 8) (v : Nat) : State := s.setFld OPP_STAT x.val OPP_STAT_STATE v
/-- The player changed. -/
def State.modOpp (s : State) (x : Fin 8) (f : Opp → Opp) : State := s.modU x fun u => { u with opp := f u.opp }
/-- Pole pairs of the axis: 0 and values above 64 are treated as 1. -/
def State.axPp (s : State) (x : Fin 8) : Nat :=
  let p := s.fld ANG_CFG x.val ANG_CFG_PP
  if p = 0 ∨ 64 < p then 1 else p
/-- A[63:16] of the axis. -/
def State.axA (s : State) (x : Fin 8) : Nat := (vget s.trk x).a.toNat / 2 ^ 16

/-- The record of pattern `p`, if it is valid (R246). -/
def State.oppRecord (s : State) (x : Fin 8) (p : Nat) : Option OppPat :=
  let off := 256 * (s.fld OPP_TAB x.val OPP_TAB_BASE + p)
  let a := 0x20000000 + (axReg x).val * 0x04000000 + off
  let w (k : Nat) : Nat := (memWord s.mem (a + 4 * k)).toNat
  let m := w 0 % 64
  let angles := (List.range m).map fun k => w (k + 1)
  let rising := (List.range m).all fun k => (if k = 0 then 0 else w k) < w (k + 1) && w (k + 1) < 0x4000
  if off < 0x200000 && 0 < m && w 0 / 64 % 4 == 0 && w 0 < 2 ^ 9 && rising then
    some { start := bitN (w 0) 8, angles := angles }
  else none

/-- The edges of a pattern with the level after each, ascending (R247). -/
def OppPat.edges (p : OppPat) : List (Nat × Bool) :=
  let ks := p.angles.zip ((List.range p.angles.length).map (· + 1))
  let q1 := ks.map fun e => (e.1, p.start != (e.2 % 2 == 1))
  let q2 := (ks.map fun e => (0x8000 - e.1, p.start != ((e.2 - 1) % 2 == 1))).reverse
  let half := (0, p.start) :: q1 ++ q2
  half ++ half.map fun e => (e.1 + 0x8000, !e.2)

/-- The level that a pattern holds just beyond pattern angle `b` in the direction (R250). -/
def OppPat.levelAt (p : OppPat) (back : Bool) (b : Nat) : Bool :=
  ((p.edges.filter fun e => if back then e.1 < b else e.1 ≤ b).getLast?.map (·.2)).getD (!p.start)

/-- PH of a phase. -/
def oppPh (ph : Nat) : Nat := if ph = 0 then 0 else if ph = 1 then 0x5555 else 0xAAAB

/-- The outputs a player drives, in gate order: gate number, the angle its pattern is moved by, and whether it is a high
side. -/
def State.oppGates (s : State) (x : Fin 8) : List (Nat × Nat × Bool) :=
  (maskBits (s.fld OPP_CFG x.val OPP_CFG_BR)).flatMap fun q =>
    (List.range 6).map fun i =>
      (6 * (axBr x q).val + i, (oppPh (i / 2) + 256 * s.fld OPP_BOFS x.val (fldAt 8 q)) % 2 ^ 16, i % 2 == 0)

/-- An edge to be emitted: its distance from the cursor in the direction, gate and level. -/
structure OppEdge where
  dist  : Nat
  gate  : Nat
  level : Bool

/-- The earlier of two edges: nearer, or at the same position of the lower gate. -/
def OppEdge.first (a : Option OppEdge) (b : OppEdge) : Option OppEdge :=
  match a with
  | none => some b
  | some a => some (if b.dist < a.dist || (b.dist == a.dist && b.gate < a.gate) then b else a)

/-- The next edge of a pattern beyond a cursor (position modulo 2³² and last gate there). -/
def nextEdge (p : OppPat) (back : Bool) (gates : List (Nat × Nat × Bool)) (cur gate : Nat) : Option OppEdge :=
  gates.foldl (fun best g =>
    p.edges.foldl (fun best e =>
      let pos := (e.1 + g.2.1) % 2 ^ 16 * 2 ^ 16
      let d0 := (if back then cur + 2 ^ 32 - pos else pos + 2 ^ 32 - cur) % 2 ^ 32
      let d := if d0 = 0 && g.1 ≤ gate then 2 ^ 32 else d0
      OppEdge.first best { dist := d, gate := g.1, level := (e.2 != back) == g.2.2 }) best) none

/-- The distance from the cursor to a position, in the direction. -/
def oppDist (back : Bool) (cur dst : Nat) : Int := if back then wrapS 64 ((cur : Int) - dst) else wrapS 64 ((dst : Int) - cur)

/-- An edge becomes an event (R249) and the cursor follows it. -/
def State.oppEmit (s : State) (x : Fin 8) (back : Bool) (e : OppEdge) : State :=
  let o := (s.ax x).opp
  let pos := pat 64 (if back then (o.cursor : Int) - e.dist else (o.cursor : Int) + e.dist)
  let turn : Int := wrapS 64 ((pos : Int) - o.e) / s.axPp x
  let st := pat 48 ((s.axA x : Int) + turn)
  let c := s.reg OPP_CFG x.val
  let w2 := [(GAL_SUB_W2_ACTION, 2), (GAL_SUB_W2_DOMAIN, 1), (GAL_SUB_W2_AXIS, x.val),
    (GAL_SUB_W2_MUSTNOT_LATE, OPP_CFG_MLATE.get c), (GAL_SUB_W2_HRING, OPP_CFG_HRING.get c)].foldl
      (fun w (e : Fld × Nat) => e.1.put w e.2) (0 : Word)
  let ag : Agent := .blockCtl (Fin.ofNat 16 (4 * (axReg x).val))
  let u : Sub :=
    { agent := ag, chamber := chamberOf s ag, w0 := BitVec.ofNat 32 st
      w1 := BitVec.ofNat 32 (st / 2 ^ 32 + if back then 2 ^ 16 else 0), w2 := w2
      w3 := BitVec.ofNat 32 (e.gate * 2 ^ 24 + b2n e.level * 2 ^ 23), src := .player x.val }
  ((s.modGal fun g => { g with waiting := g.waiting ++ [u] }).modOpp x fun o =>
    { o with cursor := pos, gate := e.gate }).count OPP_EDGES x.val OPP_EDGES_COUNT

/-- What the player does next at an update. -/
inductive OppNext
  /-- Nothing is left within the horizon. -/
  | rest
  | emit (e : OppEdge)
  /-- The level-set edges are all emitted: the new pattern is in use. -/
  | install (c : OppCmd)
  /-- The STOP point is reached. -/
  | halt

/-- The next act of the player within its horizon (R248, R250). -/
def State.oppNext (s : State) (x : Fin 8) (back : Bool) : OppNext :=
  let o := (s.ax x).opp
  let c := s.reg OPP_CFG x.val
  let la : Nat := max 1 (OPP_CFG_LA.get c) * 2 ^ 24
  let hz := oppDist back o.cursor (pat 64 (if back then (o.e : Int) - la else (o.e : Int) + la))
  let gates := s.oppGates x
  let near (d : Int) : Bool := decide (d ≤ hz)
  let before (d : Int) : Bool := match o.stop with
    | some p => decide (d < oppDist back o.cursor p)
    | none => true
  let next := if s.oppState x = 1 then none else nextEdge o.pat back gates (o.cursor % 2 ^ 32) o.gate
  let cmdD := o.cmd.map fun k => oppDist back o.cursor k.x0
  let early : Option OppEdge := next.filter fun e =>
    near e.dist && before e.dist && (match cmdD with
      | some d => decide ((e.dist : Int) < d)
      | none => true)
  match early with
  | some e => .emit e
  | none =>
    match o.cmd, cmdD with
    | some k, some d =>
      if near d && before d then
        match (if d = 0 then gates.filter fun g => o.gate < g.1 else gates) with
        | g :: _ =>
          let b := (k.x0 % 2 ^ 32 / 2 ^ 16 + 2 ^ 16 - g.2.1) % 2 ^ 16
          .emit { dist := d.toNat, gate := g.1, level := k.pat.levelAt back b == g.2.2 }
        | [] => .install k
      else if (o.stop.any fun p => near (oppDist back o.cursor p)) then .halt
      else .rest
    | _, _ => if (o.stop.any fun p => near (oppDist back o.cursor p)) then .halt else .rest

/-- The player acts at most `n` times more; `left` events may still be submitted. -/
def State.oppRun (s : State) (x : Fin 8) (back : Bool) : Nat → Nat → State
  | 0, _ => s
  | n + 1, left =>
    match s.oppNext x back with
    | .rest => s
    | .emit e =>
      if left = 0 then s.flag OPP_STAT x.val OPP_STAT_BEHIND
      else
        let s1 := if s.oppState x = 1 then s.setOpp x 2 else s
        (s1.oppEmit x back e).oppRun x back n (left - 1)
    | .install k =>
      let s1 := if s.oppState x = 1 then s.setOpp x 2 else s
      ((((s1.setFld OPP_STAT x.val OPP_STAT_PAT k.no).setBit OPP_STAT x.val OPP_STAT_SWPEND false).setFld OPP_STAT x.val
        OPP_STAT_NEXT 0).modOpp x fun o => { o with pat := k.pat, cmd := none, cursor := k.x0, gate := 96 }).oppRun x back n left
    | .halt =>
      ((s.setOpp x 0).setBit OPP_STAT x.val OPP_STAT_SWPEND false).modOpp x fun o => { o with cmd := none, stop := none }

/-- PLAYER_EMISSION: the player at an update (R248, R253). -/
def State.player (s : State) (x : Fin 8) : State :=
  let st := s.oppState x
  if !s.bit OPP_CFG x.val OPP_CFG_EN || st == 0 || st == 4 then s
  else
    let back := s.bit OPP_CFG x.val OPP_CFG_DIR
    let a := s.axA x
    let s1 := s.modOpp x fun o =>
      { o with e := pat 64 ((o.e : Int) + wrapS 48 ((a : Int) - (o.prev : Int)) * (s.axPp x : Int)), prev := a }
    let w := s.sfld ANG_SPEED x.val ANG_SPEED_VALUE
    let slow := decide ((if back then -w else w) < (s.reg GAL_AX_CFG x.val).toNat)
    let s2 := s1.setBit OPP_STAT x.val OPP_STAT_SLOW slow
    if slow then s2 else s2.oppRun x back 36 32

/-- PLAYER_FAULT (R253). -/
def State.oppFault (s : State) (x : Fin 8) (F : Fld) : State :=
  if s.bit OPP_CFG x.val OPP_CFG_EN && s.oppState x != 4 then
    (((s.flag OPP_STAT x.val F).setOpp x 4).setBit OPP_STAT x.val OPP_STAT_SWPEND false).modOpp x fun o =>
      { o with cmd := none, stop := none }
  else s

/-- A submission of the player is refused with `status` (R253). -/
def State.oppRefused (s : State) (x : Fin 8) (status : Nat) : State :=
  ((s.flag OPP_STAT x.val OPP_STAT_REFUSED).setFld OPP_REFST x.val OPP_REFST_STATUS status).oppFault x OPP_STAT_REFUSED

/-- The first position beyond both E and the cursor whose electrical angle is `a` (R250). -/
def oppPoint (o : Opp) (back : Bool) (a : Nat) : Nat :=
  let base := if 0 < oppDist back o.e o.cursor then o.cursor else o.e
  let d := (if back then base % 2 ^ 32 + 2 ^ 32 - a * 2 ^ 16 else a * 2 ^ 16 + 2 ^ 32 - base % 2 ^ 32) % 2 ^ 32
  let d' : Nat := if d = 0 then 2 ^ 32 else d
  pat 64 (if back then (base : Int) - d' else (base : Int) + d')

/-- A command of the player is discarded (R250). -/
def State.oppDrop (s : State) (x : Fin 8) : State := s.flag OPP_STAT x.val OPP_STAT_CMDREF

/-- START or SWITCH with its pattern (R246, R250). -/
def State.oppArm (s : State) (x : Fin 8) (start : Bool) (a p : Nat) : State :=
  match s.oppRecord x p with
  | none => s.flag OPP_STAT x.val OPP_STAT_BADPAT
  | some rec_ =>
    let back := s.bit OPP_CFG x.val OPP_CFG_DIR
    if start then
      let e := (s.axA x % 2 ^ 32 * s.axPp x + s.fld ANG_CFG x.val ANG_CFG_EOFS * 2 ^ 16) % 2 ^ 32
      (((s.setOpp x 1).setFld OPP_STAT x.val OPP_STAT_NEXT p).modOpp x fun o =>
        { o with e := e, cursor := e, gate := 96, prev := s.axA x, stop := none }).modOpp x fun o =>
          { o with cmd := some { start := true, x0 := oppPoint o back a, pat := rec_, no := p } }
    else
      ((s.setBit OPP_STAT x.val OPP_STAT_SWPEND true).setFld OPP_STAT x.val OPP_STAT_NEXT p).modOpp x fun o =>
        { o with cmd := some { start := false, x0 := oppPoint o back a, pat := rec_, no := p } }

/-- OPP_CTRL written (R250). -/
def State.writeOppCtrl (s : State) (x : Fin 8) (v : Word) : State :=
  let a := OPP_CTRL_ANGLE.get v
  let st := s.oppState x
  let o := (s.ax x).opp
  match OPP_CTRL_START.get v, OPP_CTRL_SWITCH.get v, OPP_CTRL_STOP.get v with
  | 0, 0, 0 => s
  | 1, 0, 0 =>
    if s.bit OPP_CFG x.val OPP_CFG_EN && st == 0 then s.oppArm x true a (OPP_CTRL_PAT.get v) else s.oppDrop x
  | 0, 1, 0 =>
    let open_ := match o.cmd with
      | some k => !(o.cursor == k.x0 && o.gate != 96)
      | none => true
    if st == 2 && open_ then s.oppArm x false a (OPP_CTRL_PAT.get v) else s.oppDrop x
  | 0, 0, 1 =>
    if st == 1 then (s.setOpp x 0).modOpp x fun o => { o with cmd := none }
    else if st == 2 then
      (s.setOpp x 3).modOpp x fun o => { o with stop := some (oppPoint o (s.bit OPP_CFG x.val OPP_CFG_DIR) a) }
    else s.oppDrop x
  | _, _, _ => s.oppDrop x

/-- OPP_CFG written (R232, R253). -/
def State.writeOppCfg (s : State) (ag : Agent) (x : Fin 8) (v : Word) : State :=
  let m := OPP_CFG_BR.get v
  let y := twinAxis x
  if OPP_CFG_EN.get v = 1 ∧
      (meets m (s.ssxMask x) || meets m (s.ssxMask y) || meets m (s.oppMask y) || !s.groupsOwned x m) = true then
    s.discard ag OPP_CFG x.val stPERM
  else
    let s1 := s.setReg OPP_CFG x.val (v &&& 0xEFFF3FFF)
    if OPP_CFG_EN.get v = 1 then s1
    else ((s1.setOpp x 0).setBit OPP_STAT x.val OPP_STAT_SWPEND false).modOpp x fun o => { o with cmd := none, stop := none }

/-- OPP_START (R250). -/
def execOppStart (ag : Agent) (x : Fin 8) (angle : Half) (p : BitVec 6) (s : State) : Host.Outcome State Fault Refusal :=
  ok (s.asWrite ag OPP_CTRL x.val fun s =>
    s.writeOppCtrl x (OPP_CTRL_START.put (OPP_CTRL_PAT.put (OPP_CTRL_ANGLE.put 0 angle.toNat) p.toNat) 1))

/-- OPP_SWITCH (R250). -/
def execOppSwitch (ag : Agent) (x : Fin 8) (angle : Half) (p : BitVec 6) (s : State) : Host.Outcome State Fault Refusal :=
  ok (s.asWrite ag OPP_CTRL x.val fun s =>
    s.writeOppCtrl x (OPP_CTRL_SWITCH.put (OPP_CTRL_PAT.put (OPP_CTRL_ANGLE.put 0 angle.toNat) p.toNat) 1))

/-- OPP_STOP (R250). -/
def execOppStop (ag : Agent) (x : Fin 8) (angle : Half) (s : State) : Host.Outcome State Fault Refusal :=
  ok (s.asWrite ag OPP_CTRL x.val fun s => s.writeOppCtrl x (OPP_CTRL_STOP.put (OPP_CTRL_ANGLE.put 0 angle.toNat) 1))

/-! ## One update of an axis (R231) -/

/-- The units of an axis at an update of its tracker: follower, feed-forward, shaper, share unit, player. -/
def State.axisUpdate (s : State) (x : Fin 8) : State :=
  let s1 := s.follower x
  let s2 := if s1.axOn x then ((s1.axLink x).feedForward x).shaper x else s1
  (s2.share x).player x

/-! ## Six-step unit (R254 to R261) -/

/-- SSX_STAT.PHASE. -/
def State.ssxPhase (s : State) (x : Fin 8) : Nat := s.fld SSX_STAT x.val SSX_STAT_PHASE
/-- The mask index s. -/
def State.ssxState (s : State) (x : Fin 8) : Nat := s.fld SSX_STAT x.val SSX_STAT_STATE
/-- The unit changed. -/
def State.modSsx (s : State) (x : Fin 8) (f : Ssx → Ssx) : State := s.modU x fun u => { u with ssx := f u.ssx }
/-- The unit turns backward (R254). -/
def State.ssxDir (s : State) (x : Fin 8) : Bool := s.bit SSX_CFG x.val SSX_CFG_DIR
/-- The unit's clock runs. -/
def State.ssxLive (s : State) (x : Fin 8) : Bool := s.fabricOn && s.bit SSX_CFG x.val SSX_CFG_EN
/-- One step in the direction. -/
def State.ssxStep (s : State) (x : Fin 8) (k : Nat) : Nat := if s.ssxDir x then (k + 5) % 6 else (k + 1) % 6

/-- The entry of R261. -/
def State.ssxEntry (s : State) (x : Fin 8) : State :=
  let c := Fin.ofNat 128 (32 * (axReg x).val + s.fld SSX_CFG x.val SSX_CFG_CELL)
  let vec := s.fld SSX_CFG x.val SSX_CFG_VEC
  let v := s.ssxPhase x * 2 ^ 12 + s.fld SSX_STAT x.val SSX_STAT_CAUSE * 2 ^ 8 + s.ssxState x
  match s.pushFifo c { vec := vec, payload := BitVec.ofNat 16 v, ring := none } with
  | some s' => s'
  | none => (s.notifyCell c vec v).flag SSX_STAT x.val SSX_STAT_EVLOST

/-- The mask index becomes `m` (R254). -/
def State.ssxMaskTo (s : State) (x : Fin 8) (m : Nat) : State :=
  (s.setFld SSX_STAT x.val SSX_STAT_STATE m).setMidx (axBr x (s.fld SSX_CFG x.val SSX_CFG_BR)) m

/-- A change of phase with mask index `m` (R255, R261). -/
def State.ssxGo (s : State) (x : Fin 8) (ph m : Nat) : State :=
  (((s.setFld SSX_STAT x.val SSX_STAT_PHASE ph).ssxMaskTo x m).modSsx x fun u => { u with since := s.tick }).ssxEntry x

/-- ALIGN_S: 6 and 7 are treated as 0. -/
def State.alignS (s : State) (x : Fin 8) : Nat :=
  let a := s.fld SSX_START x.val SSX_START_ALIGN_S
  if 6 ≤ a then 0 else a

/-- Entry to CATCH (R257). -/
def State.ssxCatch (s : State) (x : Fin 8) : State := (s.modSsx x fun u => { u with trans := [] }).ssxGo x 1 6

/-- Entry to RAMP with its first forced commutation (R258). -/
def State.ssxRamp (s : State) (x : Fin 8) : State :=
  (s.modSsx x fun u =>
    { u with com := s.tick, ti := s.fld SSX_RAMP x.val SSX_RAMP_T0 * 640, seen := false, good := 0 }).ssxGo x 4
      (s.ssxStep x (s.alignS x))

/-- LOSS_OF_SYNCHRONISM, or a ramp that ends with NOHAND (R260). -/
def State.ssxLose (s : State) (x : Fin 8) (cause : Nat) : State :=
  let s1 := (s.setFld SSX_STAT x.val SSX_STAT_CAUSE cause).modSsx x fun u => { u with sched := none }
  if s.fld SSX_STAT x.val SSX_STAT_RETRIES < s.fld SSX_RETRY x.val SSX_RETRY_RETRY_MAX then
    (s1.count SSX_STAT x.val SSX_STAT_RETRIES).ssxGo x 6 6
  else (s1.flag SSX_STAT x.val SSX_STAT_FAULT).ssxGo x 7 6

/-- The commutation delay after a crossing: floor(T60 × ADV / 64) (R259). -/
def State.ssxDelay (s : State) (x : Fin 8) : Nat := s.fld SSX_T60 x.val SSX_T60_T60 * s.fld SSX_ZC x.val SSX_ZC_ADV / 64

/-- A commutation to the next state (R259): 1,000 in a row in RUN clear RETRIES (R260). -/
def State.ssxCommute (s : State) (x : Fin 8) : State :=
  let s1 := (s.ssxMaskTo x (s.ssxStep x (s.ssxState x))).modSsx x fun u =>
    { u with com := s.tick, sched := none, seen := false, coms := if s.ssxPhase x = 5 then u.coms + 1 else u.coms }
  let s2 := if s.ssxPhase x = 5 ∧ 1000 ≤ (s1.ax x).ssx.coms then
      (s1.setFld SSX_STAT x.val SSX_STAT_RETRIES 0).modSsx x fun u => { u with coms := 0 } else s1
  if s.bit SSX_CFG x.val SSX_CFG_CEV then s2.ssxEntry x else s2

/-- Entry to RUN in state `m` with T60, the last crossing at `zc`: the next commutation is timed from it, or made at once if
that time has passed (R257, R258). -/
def State.ssxEnterRun (s : State) (x : Fin 8) (m t60 zc com : Nat) : State :=
  let s1 := ((s.setReg SSX_T60 x.val (BitVec.ofNat 32 t60)).modSsx x fun u =>
    { u with zc := zc, com := com, miss := 0, ratio := 0, obs := 0, coms := 0, sched := none, seen := true }).ssxGo x 5 m
  let t := zc + s1.ssxDelay x
  if t ≤ s.tick then s1.ssxCommute x else s1.modSsx x fun u => { u with sched := some t }

/-- The row of R254 whose floating phase and DIR = 0 polarity a transition matches (R257). -/
def ssxRow (ph : Nat) (rising : Bool) : Nat :=
  match ph, rising with
  | 0, false => 2 | 0, true => 5
  | 1, true => 1 | 1, false => 4
  | _, false => 0 | _, true => 3

/-- CATCH_DECISION: a transition of index `k` at `t` (R257). -/
def State.ssxCaught (s : State) (x : Fin 8) (k t : Nat) : State :=
  let tr := ((k, t) :: (s.ax x).ssx.trans).take 3
  let s1 := s.modSsx x fun u => { u with trans := tr }
  match tr with
  | [a, b, c] =>
    let up := a.1 == (b.1 + 1) % 6 && b.1 == (c.1 + 1) % 6
    let down := b.1 == (a.1 + 1) % 6 && c.1 == (b.1 + 1) % 6
    let t60 := a.2 - b.2
    if !up && !down then s1
    else if down == s.ssxDir x then
      if t60 ≤ s.fld SSX_TEND x.val SSX_TEND_TEND * 640 then
        s1.ssxEnterRun x (if s.ssxDir x then (k + 3) % 6 else k) t60 t s.tick
      else s1.ssxGo x 3 (s.alignS x)
    else if t60 ≤ s.fld SSX_TEND x.val SSX_TEND_BRK60 * 640 then s1.ssxGo x 2 7
    else s1.ssxGo x 3 (s.alignS x)
  | _ => s1

/-- The electrical angle of the tracker extrapolated to fabric tick `t` (R78, R86). -/
def State.ssxTrack (s : State) (x : Fin 8) (t : Nat) : Nat :=
  let k := vget s.trk x
  let n : Int := (t : Int) - s.trkAt.getD 0
  let a : Int := (k.a.toNat : Int) + (sx 48 k.w.toNat * n * 640 * 2 ^ 17 + sx 48 k.c.toNat * n * n) / (640 * 640 * 2 ^ 17)
  let frac := pat 32 (a / 2 ^ 16)
  (frac * s.axPp x % 2 ^ 32 / 2 ^ 16 + s.fld ANG_CFG x.val ANG_CFG_EOFS) % 2 ^ 16

/-- An accepted crossing in RUN (R259). -/
def State.ssxCross (s : State) (x : Fin 8) (t : Nat) : State :=
  let u := (s.ax x).ssx
  let t60 := s.fld SSX_T60 x.val SSX_T60_T60
  let ratio := max 65 (s.fld SSX_LIM x.val SSX_LIM_RATIO)
  let lo := t60 * 64 / ratio
  let hi := t60 * ratio / 64
  let raw := t - u.zc
  let new := max lo (min raw hi)
  let out := decide (raw < lo) || decide (hi < raw)
  let watch := s.bit SSX_CFG x.val SSX_CFG_OBS && s.angValid x
  let zcAngle : Nat := (s.fld SSX_RETRY x.val SSX_RETRY_ZOFS + s.ssxState x * 0x2AAB + 0x1555) % 2 ^ 16
  let off := (wrapS 16 ((s.ssxTrack x t : Int) - zcAngle)).natAbs
  let ratioN := if out then u.ratio + 1 else 0
  let obsN := if !watch then u.obs else if s.fld SSX_LIM x.val SSX_LIM_LOSLIM < off then u.obs + 1 else 0
  let los := max 1 (s.fld SSX_LIM x.val SSX_LIM_LOSCNT)
  let s1 := (s.setReg SSX_T60 x.val (BitVec.ofNat 32 new)).modSsx x fun u =>
    { u with zc := t, seen := true, miss := 0, ratio := ratioN, obs := obsN }
  if los ≤ ratioN then s1.ssxLose x 3
  else if watch && los ≤ obsN then s1.ssxLose x 4
  else s1.modSsx x fun u => { u with sched := some (t + s1.ssxDelay x) }

/-- The tick of the miss window's end (R259). -/
def State.ssxMissAt (s : State) (x : Fin 8) : Nat :=
  (s.ax x).ssx.com + s.fld SSX_T60 x.val SSX_T60_T60 * max 1 (s.fld SSX_ZC x.val SSX_ZC_MISSW) / 16

/-- A forced commutation is due. -/
def State.ssxForced (s : State) (x : Fin 8) : Bool :=
  s.ssxPhase x == 5 && (s.ax x).ssx.sched.isNone && !(s.ax x).ssx.seen && decide (s.ssxMissAt x ≤ s.tick)

/-- The comparator of a phase (R256). -/
def State.ssxCmp (s : State) (x : Fin 8) (ph : Nat) : Fin 64 :=
  let F := if ph = 0 then SSX_CFG_CMPU else if ph = 1 then SSX_CFG_CMPV else SSX_CFG_CMPW
  Fin.ofNat 64 (16 * (axReg x).val + s.fld SSX_CFG x.val F)

/-- ZERO_CROSSING (R256 to R259): the comparator of phase `ph` has held its level for `held` ticks. -/
def execZeroCrossing (x : Fin 8) (ph : Fin 3) (held : Nat) (s : State) : Host.Outcome State Fault Refusal :=
  ok (let filt := max 1 (s.fld SSX_ZC x.val SSX_ZC_FILT) * 16
    let t := s.tick - held
    let rising := s.bit CMP_STAT (s.ssxCmp x ph.val).val CMP_STAT_HI
    let k := ssxRow ph.val rising
    let u := (s.ax x).ssx
    if !s.ssxLive x || held < filt || s.tick < held then s
    else if s.ssxPhase x = 1 then s.ssxCaught x k t
    else
      let want := if s.ssxDir x then (s.ssxState x + 3) % 6 else s.ssxState x
      let blank := u.com + s.fld SSX_ZC x.val SSX_ZC_BLANK * 64
      if k != want || t < blank then s
      else if s.ssxPhase x = 4 then
        if u.com + u.ti ≤ s.tick then s else s.modSsx x fun u => { u with seen := true, zc := t }
      else if s.ssxPhase x = 5 && !s.ssxForced x then s.ssxCross x t
      else s)

/-- COMMUTATION (R259). -/
def execCommutation (x : Fin 8) (s : State) : Host.Outcome State Fault Refusal :=
  ok (match (s.ax x).ssx.sched with
    | some t => if s.ssxLive x && s.ssxPhase x == 5 && decide (t ≤ s.tick) then s.ssxCommute x else s
    | none => s)

/-- FORCED_COMMUTATION (R259). -/
def execForcedCommutation (x : Fin 8) (s : State) : Host.Outcome State Fault Refusal :=
  ok (if s.ssxLive x && s.ssxForced x then
      let s1 := (s.modSsx x fun u => { u with miss := u.miss + 1 }).ssxCommute x
      if max 1 (s.fld SSX_LIM x.val SSX_LIM_MISSMAX) ≤ (s1.ax x).ssx.miss then s1.ssxLose x 2 else s1
    else s)

/-- RAMP_COMMUTATION (R258): an interval of the ramp ends. -/
def execRampCommutation (x : Fin 8) (s : State) : Host.Outcome State Fault Refusal :=
  ok (let u := (s.ax x).ssx
    if !s.ssxLive x || s.ssxPhase x != 4 || decide (s.tick < u.com + u.ti) then s
    else
      let good := if u.seen then u.good + 1 else 0
      let next := u.ti * s.fld SSX_RAMP x.val SSX_RAMP_RAMPK / 256
      if max 1 (s.fld SSX_RAMP x.val SSX_RAMP_HANDN) ≤ good then s.ssxEnterRun x (s.ssxState x) u.ti u.zc u.com
      else if next ≤ s.fld SSX_TEND x.val SSX_TEND_TEND * 640 then s.ssxLose x 1
      else (s.modSsx x fun u => { u with ti := next, good := good }).ssxCommute x)

/-- The time of the present phase in fabric ticks, where it has one (R255). -/
def State.ssxTime (s : State) (x : Fin 8) : Option Nat :=
  match s.ssxPhase x with
  | 1 => some (s.fld SSX_START x.val SSX_START_CATCH_T * 640000)
  | 2 => some (s.fld SSX_START x.val SSX_START_BRAKE_T * 640000)
  | 3 => some (s.fld SSX_START x.val SSX_START_ALIGN_T * 640000)
  | 6 => some (s.fld SSX_RETRY x.val SSX_RETRY_RETRY_DLY * 6400000)
  | _ => none

/-- SSX_PHASE_TIMER (R255, R257). -/
def execSsxPhaseTimer (x : Fin 8) (s : State) : Host.Outcome State Fault Refusal :=
  ok (match s.ssxTime x with
    | none => s
    | some t =>
      if !s.ssxLive x || decide (s.tick < (s.ax x).ssx.since + t) then s
      else
        match s.ssxPhase x with
        | 1 => s.ssxGo x 3 (s.alignS x)
        | 3 => s.ssxRamp x
        | _ => s.ssxCatch x)

/-- STOP: to IDLE at once (R255). -/
def State.ssxStop (s : State) (x : Fin 8) : State :=
  if s.ssxPhase x = 0 then s else (s.modSsx x fun u => { u with sched := none }).ssxGo x 0 6

/-- SSX_CTRL written (R255): STOP goes before START. -/
def State.writeSsxCtrl (s : State) (x : Fin 8) (v : Word) : State :=
  if SSX_CTRL_STOP.get v = 1 then s.ssxStop x
  else if SSX_CTRL_START.get v = 1 ∧ s.bit SSX_CFG x.val SSX_CFG_EN = true ∧ s.ssxPhase x = 0 then
    (s.setFld SSX_STAT x.val SSX_STAT_RETRIES 0).ssxCatch x
  else s

/-- SSX_CFG written (R232). -/
def State.writeSsxCfg (s : State) (ag : Agent) (x : Fin 8) (v : Word) : State :=
  let m := 2 ^ SSX_CFG_BR.get v
  let y := twinAxis x
  if SSX_CFG_EN.get v = 1 ∧
      (meets m (s.oppMask x) || meets m (s.oppMask y) || meets m (s.ssxMask y) || !s.groupsOwned x m) = true then
    s.discard ag SSX_CFG x.val stPERM
  else if SSX_CFG_EN.get v = 1 then s.setReg SSX_CFG x.val (v &&& 0xFFFEFFF0)
  else (s.ssxStop x).setReg SSX_CFG x.val (v &&& 0xFFFEFFF0)

/-- SSX_CTRL_START (R255). -/
def execSsxCtrlStart (ag : Agent) (x : Fin 8) (s : State) : Host.Outcome State Fault Refusal :=
  ok (s.asWrite ag SSX_CTRL x.val fun s => s.writeSsxCtrl x (SSX_CTRL_START.put 0 1))

/-- SSX_CTRL_STOP (R255). -/
def execSsxCtrlStop (ag : Agent) (x : Fin 8) (s : State) : Host.Outcome State Fault Refusal :=
  ok (s.asWrite ag SSX_CTRL x.val fun s => s.writeSsxCtrl x (SSX_CTRL_STOP.put 0 1))

/-! ## Validity, aborts and power (R253, R263) -/

/-- VALID of a tracker falls: uncommitted angle events (R105) and the player (R253). -/
def State.angFall (s : State) (x : Fin 8) : State :=
  if s.angValid x then ((s.setBit ANG_STAT x.val ANG_STAT_VALID false).angleHold x).oppFault x OPP_STAT_TRKLOST else s

/-- An abort sets every unit of an axis to its disabled state (R263). -/
def State.axisAbort (s : State) (x : Fin 8) : State :=
  let s1 := (((s.ssxStop x).setBit SSX_CFG x.val SSX_CFG_EN false).setBit AX_CFG x.val AX_CFG_EN false).setBit SPF_CFG x.val
    SPF_CFG_EN false
  (((s1.setBit SH_CFG x.val SH_CFG_EN false).setBit OPP_CFG x.val OPP_CFG_EN false).setOpp x 0).modOpp x fun o =>
    { o with cmd := none, stop := none }

/-- The units of an axis on return to RUN from PARK or KEEP (R263). -/
def State.axisResume (s : State) (x : Fin 8) : State :=
  (((s.oppFault x OPP_STAT_TRKLOST).ssxStop x).setReg SPF_VEL x.val 0).setReg SPF_ACC x.val 0

end Sys2Proof.Machine
end

