-- ==== Sys2Proof/Machine/Sensing.lean ====
section
/-! DEFINITION. Converters and delta-sigma inputs (R309 to R334). -/

namespace Sys2Proof.Machine

/-! ## Converters -/

/-- A converter beside its registers. -/
def State.cv (s : State) (j : Fin 16) : Adc := vget s.adc j
/-- A converter changed. -/
def State.modAdc (s : State) (j : Fin 16) (f : Adc → Adc) : State := { s with adc := vset s.adc j (f (vget s.adc j)) }
/-- A scan runs (R332: a scan that ends in this tick has ended). -/
def State.adcBusy (s : State) (j : Fin 16) : Bool := decide (s.tick < (s.cv j).ends)
/-- Triggers outstanding (R312). -/
def State.adcOutst (s : State) (j : Fin 16) : Nat := (s.cv j).queue.length + b2n (s.adcBusy j)

/-- A trigger is dropped (R312, R314). -/
def State.adcDrop (s : State) (j : Fin 16) (notReady : Bool) : State :=
  let s1 := (s.flag ADC_STAT j.val ADC_STAT_TDROP).count ADC_TRGDROP j.val ADC_TRGDROP_DROPPED
  if notReady then s1.flag ADC_STAT j.val ADC_STAT_NRDY else s1

/-- A trigger arrives in fabric tick `at_` with its class among the triggers of one tick (R313), its delay and its own mask;
whether it was taken (R312, R314, R315). -/
def State.adcTrigger (s : State) (j : Fin 16) (at_ cls delay mask : Nat) : State × Bool :=
  let m := if mask = 0 then s.fld ADC_CFG j.val ADC_CFG_SMASK else mask
  if !s.bit ADC_CFG j.val ADC_CFG_EN || !s.bit ADC_STAT j.val ADC_STAT_REFRDY then (s.adcDrop j true, false)
  else if 4 ≤ s.adcOutst j then (s.adcDrop j false, false)
  else if m = 0 then (s, true)
  else
    (s.modAdc j fun a => { a with queue := a.queue ++ [{ ready := at_ + delay, rank := at_ * 32 + cls, mask := BitVec.ofNat 6 m }] },
      true)

/-- The Gallery's ADC_TRIGGER at a converter (R311). -/
def State.adcGallery (s : State) (j : Fin 16) (mask : Nat) : State × Bool :=
  s.adcTrigger j s.tick 16 (s.fld ADC_DLY j.val ADC_DLY_GDLY) mask

/-- A period event of a group, PSTART or PMID, at instant `t` in u: converters it triggers (R311). -/
def State.adcPeriod (s : State) (g : Fin 32) (mid : Bool) (t : Nat) : State :=
  (List.range 4).foldl (fun s q =>
    let j := Fin.ofNat 16 (4 * (g.val / 8) + q)
    let p := s.reg ADC_PTRG j.val
    if bitN (ADC_PTRG_GRPS.get p) (g.val % 8) && bitN (ADC_PTRG_EVT.get p) (b2n mid) then
      (s.adcTrigger j ((t + 7) / 8) (2 * (g.val % 8) + b2n mid) (s.fld ADC_DLY j.val ADC_DLY_PDLY) (ADC_PTRG_PMASK.get p)).1
    else s) s

/-- The waiting trigger that goes first: earliest ready tick, then arrival order (R313). -/
def firstTrig : List Trig → Option Trig
  | [] => none
  | t :: l =>
    match firstTrig l with
    | none => some t
    | some u => some (if u.ready < t.ready || (u.ready == t.ready && u.rank < t.rank) then u else t)

/-- SCAN_START (R313): the converter starts the scan of its earliest ready waiting trigger. -/
def execScanStart (j : Fin 16) (s : State) : Host.Outcome State Fault Refusal :=
  ok (match firstTrig (s.cv j).queue with
    | none => s
    | some t =>
      let a := s.cv j
      let start := max t.ready a.ends
      if s.fabricOn && decide (start ≤ s.tick) then
        let chs := (List.finRange 6).filter fun k => t.mask.getLsbD k.val
        let n := chs.length
        let slots := (chs.zip (List.range n)).map fun (c, i) =>
          ({ start := start + 128 * i, ch := c, scan := (a.scans + 1) % 256, last := i + 1 == n, fmt := none } : Slot)
        s.modAdc j fun a =>
          { a with queue := a.queue.erase t, ends := start + 128 * n, scans := (a.scans + 1) % 256, land := a.land ++ slots }
      else s)

/-- The format of a channel in force: signed, and its offset (R320). -/
def State.adcFmt (s : State) (j : Fin 16) (k : Fin 6) : Bool × Nat :=
  (bitN (s.fld ADC_CFG j.val ADC_CFG_SGN) k.val, s.fld ADC_OFS (6 * j.val + k.val) ADC_OFS_OFS)

/-- Before a change of format, slots that have started keep theirs (R321). -/
def State.adcFreeze (s : State) (j : Fin 16) : State :=
  s.modAdc j fun a =>
    { a with land := a.land.map fun w =>
        if w.start < s.tick && w.fmt.isNone then { w with fmt := some (s.adcFmt j w.ch) } else w }

/-- The scan stops at the end of its slot and waiting triggers are discarded and counted (R332, R333). -/
def State.adcStop (s : State) (j : Fin 16) : State :=
  let a := s.cv j
  let keep := a.land.filter fun w => decide (w.start ≤ s.tick)
  let keep1 := keep.zip (List.range keep.length) |>.map fun (w, i) => if i + 1 = keep.length then { w with last := true } else w
  let ends := if s.adcBusy j then (keep.getLast?.map fun w => w.start + 128).getD a.ends else a.ends
  (s.setFld ADC_TRGDROP j.val ADC_TRGDROP_DROPPED (incSat 32 (s.fld ADC_TRGDROP j.val ADC_TRGDROP_DROPPED) a.queue.length)).modAdc
    j fun a => { a with queue := [], land := keep1, ends := ends }

/-- The logical cell bound to a converter (R210). -/
def State.adcCell (s : State) (j : Fin 16) : Option (Fin 128) :=
  ((List.range 32).map fun c => Fin.ofNat 128 (32 * (j.val / 4) + c)).find? fun c =>
    bitN (s.fld CELL_BIND c.val CELL_BIND_ADCM) (j.val % 4)

/-- The entry of a landed result for the bound cell (R210). -/
def State.adcNotify (s : State) (j : Fin 16) (w : Slot) : State :=
  match s.adcCell j with
  | none => s
  | some c =>
    if s.bit CELL_BIND c.val CELL_BIND_EOS && !w.last then s
    else s.notifyCell c (s.fld CELL_BIND c.val CELL_BIND_ADCVEC) (j.val * 2 ^ 12 + w.ch.val * 2 ^ 8 + w.scan)

/-- The formatted result: data, and whether the offset clamped it (R320, R322). -/
def adcData (raw : Nat) (signed : Bool) (ofs : Nat) (above below : Bool) : Nat × Bool :=
  if above then (if signed then 0x7FFC else 0xFFFC, false)
  else if below then (if signed then 0x8000 else 0, false)
  else if signed then
    let x : Int := (raw : Int) * 4 - ofs
    (pat 16 (clampI x (-32768) 32764), x != clampI x (-32768) 32764)
  else (raw * 4, false)

/-- A result lands with its flags (R318 to R324), its copies (R236, R238) and the notification (R210). -/
def State.adcLand (s : State) (j : Fin 16) (w : Slot) (raw : Nat) (above below : Bool) : State :=
  let a := s.cv j
  let f := w.fmt.getD (s.adcFmt j w.ch)
  let overs := above || below
  let d := adcData raw f.1 f.2 above below
  let susp := (match vget a.overAt w.ch with
      | some o => decide (w.start < o + 384)
      | none => false) ||
    (match a.last with
      | some (c, st, true) => c != w.ch && st + 128 == w.start
      | _ => false)
  let old := s.reg ADC_RES j.val
  let res := [(ADC_RES_NEW, 1), (ADC_RES_OVR, if ADC_RES_NEW.get old = 1 then 1 else ADC_RES_OVR.get old), (ADC_RES_OR, b2n overs),
    (ADC_RES_SUSP, b2n susp), (ADC_RES_SGN, b2n f.1), (ADC_RES_CH, w.ch.val), (ADC_RES_SCAN, w.scan), (ADC_RES_DATA, d.1)].foldl
      (fun v (e : Fld × Nat) => e.1.put v e.2) (0 : Word)
  let s1 := (s.setReg ADC_RES j.val res).modAdc j fun a =>
    { a with last := some (w.ch, w.start, overs)
             overAt := if overs then vset a.overAt w.ch (some w.start) else a.overAt
             latS := if f.1 then vset a.latS w.ch (BitVec.ofNat 16 d.1) else a.latS
             latU := if f.1 then a.latU else vset a.latU w.ch (BitVec.ofNat 16 d.1) }
  let s2 := if overs then
      s1.setFld ADC_STAT j.val ADC_STAT_OR (s1.fld ADC_STAT j.val ADC_STAT_OR ||| 2 ^ w.ch.val)
    else if d.2 then s1.flag ADC_STAT j.val ADC_STAT_OCLP else s1
  let x0 := Fin.ofNat 8 (2 * (j.val / 4))
  let s3 := [x0, twinAxis x0].foldl (fun s x =>
    (s.axCopy x j.val w.ch.val d.1).spfAnalog x j.val w.ch.val d.1 (overs || susp)) s2
  s3.adcNotify j w

/-- ADC_RESULT (R318): the conversion result of the earliest slot, 132 ticks after its start; `above` and `below` say where the
input lay against the references at the sampling instant (R322). -/
def execAdcResult (j : Fin 16) (raw : BitVec 14) (above below : Bool) (s : State) : Host.Outcome State Fault Refusal :=
  ok (match (s.cv j).land with
    | [] => s
    | w :: l =>
      if s.fabricOn && decide (w.start + 132 ≤ s.tick) then
        (s.modAdc j fun a => { a with land := l }).adcLand j w raw.toNat above below
      else s)

/-- REFRDY (R317). -/
def execRefrdy (j : Fin 16) (s : State) : Host.Outcome State Fault Refusal :=
  ok (if s.fabricOn && s.bit ADC_CFG j.val ADC_CFG_REFEN && decide ((s.cv j).refAt + 32000 ≤ s.tick) then
      s.setBit ADC_STAT j.val ADC_STAT_REFRDY true
    else s)

/-- ADC_CFG written (R317, R321, R332). -/
def State.writeAdcCfg (s : State) (j : Fin 16) (v : Word) : State :=
  let old := s.reg ADC_CFG j.val
  let s1 := (s.adcFreeze j).setReg ADC_CFG j.val (v &&& 0xC0003F3F)
  let fell (F : Fld) : Bool := F.get old == 1 && F.get v == 0
  let s2 := if fell ADC_CFG_EN || fell ADC_CFG_REFEN then s1.adcStop j else s1
  if ADC_CFG_REFEN.get v = 0 then s2.setBit ADC_STAT j.val ADC_STAT_REFRDY false
  else if ADC_CFG_REFEN.get old = 0 then s2.modAdc j fun a => { a with refAt := s.tick }
  else s2

/-- ADC_OFS written (R321). -/
def State.writeAdcOfs (s : State) (i : Nat) (v : Word) : State :=
  (s.adcFreeze (Fin.ofNat 16 (i / 6))).setReg ADC_OFS i (v &&& 0xFFFF)

/-- ADC_PTRG written (R316). -/
def State.writeAdcPtrg (s : State) (ag : Agent) (j : Fin 16) (v : Word) : State :=
  let c := chamberOf s ag
  let owned := (List.range 8).all fun g => !bitN (ADC_PTRG_GRPS.get v) g || s.ownerOf 0x02 (8 * (j.val / 4) + g) == c
  if c = 0 ∨ (owned = true ∧ s.ownerOf 0x03 j.val = c) then s.setReg ADC_PTRG j.val (v &&& 0xC0FF003F)
  else s.discard ag ADC_PTRG j.val stPERM

/-- Entry to PARK or KEEP, at a converter (R334). -/
def State.adcPark (s : State) (j : Fin 16) : State := (s.adcStop j).setBit ADC_STAT j.val ADC_STAT_REFRDY false

/-! ## Delta-sigma inputs (R326 to R331) -/

/-- A delta-sigma input beside its registers. -/
def State.dm (s : State) (i : Fin 32) : Dsm := vget s.dsm i
/-- A delta-sigma input changed. -/
def State.modDsm (s : State) (i : Fin 32) (f : Dsm → Dsm) : State := { s with dsm := vset s.dsm i (f (vget s.dsm i)) }
/-- The clock of an input. -/
def State.dsmClk (s : State) (i : Fin 32) : Nat := 2 * (i.val / 8) + s.fld DSM_CFG i.val DSM_CFG_CLKSEL
/-- An input is enabled and its clock runs. -/
def State.dsmRun (s : State) (i : Fin 32) : Bool :=
  s.fabricOn && s.bit DSM_CFG i.val DSM_CFG_EN && s.bit DSMCLK_CFG (s.dsmClk i) DSMCLK_CFG_EN
/-- A synchronisation (R328). -/
def Dsm.clear (d : Dsm) : Dsm :=
  { d with i1 := 0, i2 := 0, i3 := 0, z1 := 0, z2 := 0, z3 := 0, n := 0, k := 0, cnt := 0, sync := false }

/-- What a modulator bit leaves: the decimator and, where it completes an output, S (R327). -/
def Dsm.bitIn (d : Dsm) (osr : Nat) (x : Int) : Dsm × Option Int :=
  let i1 := d.i1 + x
  let i2 := d.i2 + i1
  let i3 := d.i3 + i2
  if d.n + 1 = osr then
    let c1 := i3 - d.z1
    let c2 := c1 - d.z2
    ({ d with i1 := i1, i2 := i2, i3 := i3, n := 0, z1 := i3, z2 := c1, z3 := c2, k := min (d.k + 1) 255, cnt := d.cnt + 1 },
      some (c2 - d.z3))
  else ({ d with i1 := i1, i2 := i2, i3 := i3, n := d.n + 1 }, none)

/-- OSR in force: below 16 and above 256 limited. -/
def State.dsmOsr (s : State) (i : Fin 32) : Nat := max 16 (min 256 (s.fld DSM_CFG i.val DSM_CFG_OSR))

/-- An output lands (R327, R331). -/
def State.dsmOut (s : State) (i : Fin 32) (sum : Int) : State :=
  let d := s.dm i
  let y := sum * 2 ^ 15 / (s.dsmOsr i : Int) ^ 3
  let valid := decide (2 < d.k)
  let clip := valid && decide (32767 < y)
  let data := if valid then pat 16 (min y 32767) else 0
  let old := s.reg DSM_RES i.val
  let res := [(DSM_RES_VALID, b2n valid), (DSM_RES_NEW, 1),
    (DSM_RES_OVR, if DSM_RES_NEW.get old = 1 then 1 else DSM_RES_OVR.get old), (DSM_RES_CLIP, if valid then b2n clip else DSM_RES_CLIP.get old),
    (DSM_RES_COUNT, d.cnt), (DSM_RES_DATA, data)].foldl (fun v (e : Fld × Nat) => e.1.put v e.2) (0 : Word)
  let s1 := s.setReg DSM_RES i.val res
  if s.bit DSM_CFG i.val DSM_CFG_NEV then
    let c := Fin.ofNat 128 (32 * (i.val / 8) + s.fld DSM_CFG i.val DSM_CFG_CELL)
    let vec := s.fld DSM_CFG i.val DSM_CFG_VEC
    let pl := i.val * 2 ^ 11 + b2n valid * 2 ^ 10 + d.cnt % 256
    match s1.pushFifo c { vec := vec, payload := BitVec.ofNat 16 pl, ring := none } with
    | some s' => s'
    | none => (s1.notifyCell c vec pl).flag DSM_STAT i.val DSM_STAT_EVLOST
  else s1

/-- One bit of an input's stream on a selected edge (R327, R328, R330). -/
def State.dsmBit (s : State) (i : Fin 32) (b : Bool) : State :=
  let x : Int := if b != s.bit DSM_CFG i.val DSM_CFG_INV then 1 else -1
  let d := s.dm i
  let run := if b == d.bit then d.run + 1 else 1
  let r := (if d.sync then d.clear else d).bitIn (s.dsmOsr i) x
  let stuckN := s.fld DSM_CFG i.val DSM_CFG_STUCKN * 8
  let s1 := s.modDsm i fun _ => { r.1 with bit := b, run := run }
  let s2 := if stuckN ≠ 0 ∧ stuckN ≤ run then s1.flag DSM_STAT i.val DSM_STAT_STUCK else s1
  match r.2 with
  | some sum => s2.dsmOut i sum
  | none => s2

/-- Bits of an input's stream, in order; while its clock is disabled it takes none (R329). -/
def State.dsmBits (s : State) (i : Fin 32) (l : List Bool) : State :=
  if s.dsmRun i then l.foldl (fun s b => s.dsmBit i b) s else s

/-- DSM_OUTPUT (R327): the bits sampled since the last command of this input; an output lands as OSR of them complete it. -/
def execDsmOutput (i : Fin 32) (bits : List Bool) (s : State) : Host.Outcome State Fault Refusal := ok (s.dsmBits i bits)

/-- STUCK_RUN (R330): further bits, the last of which completes a run of STUCKN × 8 equal bits. -/
def execStuckRun (i : Fin 32) (bits : List Bool) (s : State) : Host.Outcome State Fault Refusal := ok (s.dsmBits i bits)

/-- DSM_CTRL written (R328). -/
def State.writeDsmCtrl (s : State) (i : Fin 32) (v : Word) : State :=
  let s1 := if DSM_CTRL_SYNC.get v = 1 then s.modDsm i fun d => { d with sync := true } else s
  if DSM_CTRL_ARM.get v = 1 then s1.setBit DSM_STAT i.val DSM_STAT_ARMED true else s1

/-- DSM_SYNC (R328): DSM_CTRL.SYNC written. -/
def execDsmSync (ag : Agent) (i : Fin 32) (s : State) : Host.Outcome State Fault Refusal :=
  ok (s.asWrite ag DSM_CTRL i.val fun s => s.writeDsmCtrl i (DSM_CTRL_SYNC.put 0 1))

/-- DSM_ARM (R328): DSM_CTRL.ARM written. -/
def execDsmArm (ag : Agent) (i : Fin 32) (s : State) : Host.Outcome State Fault Refusal :=
  ok (s.asWrite ag DSM_CTRL i.val fun s => s.writeDsmCtrl i (DSM_CTRL_ARM.put 0 1))

/-- PSTART of a group completes the ARM of its inputs (R328). -/
def State.dsmPstart (s : State) (g : Fin 32) : State :=
  (List.range 8).foldl (fun s q =>
    let i := Fin.ofNat 32 (8 * (g.val / 8) + q)
    if s.bit DSM_STAT i.val DSM_STAT_ARMED && s.fld DSM_CFG i.val DSM_CFG_SGRP == g.val % 8 then
      (s.setBit DSM_STAT i.val DSM_STAT_ARMED false).modDsm i fun d => { d with sync := true }
    else s) s

/-- DSM_CFG written (R328, R331, R332). -/
def State.writeDsmCfg (s : State) (ag : Agent) (i : Fin 32) (v : Word) : State :=
  if DSM_CFG_NEV.get v = 1 ∧ s.ownerOf 0x01 (32 * (i.val / 8) + DSM_CFG_CELL.get v) ≠ s.ownerOf 0x06 i.val then
    s.discard ag DSM_CFG i.val stPERM
  else
    let rose := DSM_CFG_EN.get v == 1 && !s.bit DSM_CFG i.val DSM_CFG_EN
    let s1 := s.setReg DSM_CFG i.val v
    if rose then s1.modDsm i fun d => { d with sync := true } else s1

/-- DSMCLK_CFG written: a start of a clock synchronises the inputs it clocks (R328). -/
def State.writeDsmClk (s : State) (c : Nat) (v : Word) : State :=
  let rose := DSMCLK_CFG_EN.get v == 1 && !s.bit DSMCLK_CFG c DSMCLK_CFG_EN
  let s1 := s.setReg DSMCLK_CFG c (v &&& 0xC00001FF)
  if rose then
    { s1 with dsm := Vector.ofFn fun i : Fin 32 => if s1.dsmClk i = c then { vget s1.dsm i with sync := true } else vget s1.dsm i }
  else s1

/-- Return to RUN: references settle anew, and running clocks synchronise their inputs (R334). -/
def State.senseResume (s : State) : State :=
  { s with adc := s.adc.map fun a => { a with refAt := s.tick }, dsm := s.dsm.map fun d => { d with sync := true } }

/-! ## Period events (R268, R270) -/

/-- The period of a group has ended. -/
def State.boundaryDue (s : State) (g : Fin 32) : Bool := s.running g && s.dueU ((s.pg g).bnd + s.perOf g)

/-- The period events of a boundary: converters, comparators and delta-sigma inputs. -/
def State.pstart (s : State) (g : Fin 32) (t : Nat) : State := ((s.adcPeriod g false t).cmpPstart g).dsmPstart g

/-- PERIOD_BOUNDARY (R268, R270, R284). -/
def execPeriodBoundary (g : Fin 32) (s : State) : Host.Outcome State Fault Refusal :=
  ok (if s.fabricOn && s.boundaryDue g then
      let t := (s.pg g).bnd + s.perOf g
      ((s.boundaryCommit g).beginPeriod g t).pstart g t
    else s)

/-- PMID (R270). -/
def execPmid (g : Fin 32) (s : State) : Host.Outcome State Fault Refusal :=
  ok (if s.fabricOn && s.pmidDue g then
      (s.modPg g fun p => { p with mid := true }).adcPeriod g true ((s.pg g).bnd + s.perOf g / 2)
    else s)

/-- GROUP_START (R268): B_0 with its PSTART. -/
def execGroupStart (g : Fin 32) (s : State) : Host.Outcome State Fault Refusal :=
  ok (match s.startAt g with
    | some t => if s.fabricOn then (s.startGrp g t).pstart g t else s
    | none => s)

end Sys2Proof.Machine
end

