-- ==== Sys2Proof/Machine/Position.lean ====
section
/-! DEFINITION. Position feedback (R359 to R380). -/

namespace Sys2Proof.Machine

/-! ## Common -/

/-- A position interface beside its registers. -/
def State.ps (s : State) (k : Fin 16) : Pos := vget s.pos k
/-- A position interface changed. -/
def State.modPos (s : State) (k : Fin 16) (f : Pos → Pos) : State := { s with pos := vset s.pos k (f (vget s.pos k)) }
/-- The mode of an interface: 6 and 7 are treated as OFF; a disabled interface reads nothing (R359). -/
def State.posMode (s : State) (k : Fin 16) : Nat :=
  let m := s.fld POS_CFG k.val POS_CFG_MODE
  if s.bit POS_CFG k.val POS_CFG_EN && decide (m < 6) then m else 0
/-- The interface works in mode `m`. -/
def State.posIn (s : State) (k : Fin 16) (m : Nat) : Bool := s.fabricOn && s.posMode k == m
/-- SPT in force (R359, R361). -/
def State.spt (s : State) (k : Fin 16) : Nat :=
  if s.fld POS_CFG k.val POS_CFG_MODE = 4 then 6 else max 1 (min (2 ^ 31) (s.fld POS_SPT k.val POS_SPT_VALUE))
/-- Φ. -/
def State.phi (s : State) (k : Fin 16) : Nat := s.fld POS_PHI k.val POS_PHI_VALUE
/-- CNT. -/
def State.cnt (s : State) (k : Fin 16) : Nat := s.fld POS_CNT k.val POS_CNT_VALUE
/-- The reading v (R361). -/
def State.posReading (s : State) (k : Fin 16) : Nat := s.phi k * 2 ^ 32 / s.spt k
/-- FILT. -/
def State.posFilt (s : State) (k : Fin 16) : Nat := s.fld POS_CFG k.val POS_CFG_FILT
/-- LOSN: 0 is treated as 1. -/
def State.losn (s : State) (k : Fin 16) : Nat := max 1 (s.fld POS_CFG k.val POS_CFG_LOSN)
/-- A signed difference modulo SPT, mapped into [−SPT/2, SPT/2). -/
def mapHalf (n : Nat) (d : Int) : Int := if 2 * (d % n) < n then d % n else d % n - n
/-- The angle of a sin/cos pair as a 12-bit fraction of a signal period: exact on the axes (R363). -/
def angle12 (sn c : Int) : Nat :=
  let f := if sn = 0 ∨ c = 0 then 0 else Config.atan12 sn c % 1024
  let q := if 0 ≤ sn ∧ 0 < c then 0 else if c ≤ 0 ∧ 0 < sn then 1 else if sn ≤ 0 ∧ c < 0 then 2 else 3
  (1024 * q + f) % 4096

/-! ## Faults (R370, R371) -/

/-- HEALTHY: the interface works, no fault condition persists, and LOSS and PLAUS are clear. -/
def State.posHealth (s : State) (k : Fin 16) : State :=
  s.setBit POS_STAT k.val POS_STAT_HEALTHY (s.posMode k != 0 && (s.ps k).conds == 0 &&
    !s.bit POS_STAT k.val POS_STAT_LOSS && !s.bit POS_STAT k.val POS_STAT_PLAUS)
/-- POSITION_FAULT: cause, and whether it is a signal loss; a signal loss persists as a condition. -/
def State.posFault (s : State) (k : Fin 16) (cause : Nat) (loss : Bool) : State :=
  ((((if loss then s.modPos k fun p => { p with conds := p.conds ||| (1#10 <<< cause) } else s).setFld POS_STAT k.val
    POS_STAT_CAUSE cause).flag POS_STAT k.val (if loss then POS_STAT_LOSS else POS_STAT_PLAUS))).posHealth k
/-- A fault condition has gone. -/
def State.posClear (s : State) (k : Fin 16) (cause : Nat) : State :=
  (s.modPos k fun p => { p with conds := p.conds &&& ~~~(1#10 <<< cause) }).posHealth k

/-! ## Outputs and compare table (R374, R376, R377) -/

/-- The SSI clock: high between frames; in a frame it falls at the start, each half lasting CDIV fabric ticks (R369). -/
def State.ssiClock (s : State) (k : Fin 16) : Bool :=
  match (s.ps k).frame with
  | none => true
  | some t => (s.tick - t) / max 32 (s.fld POS_SSI k.val POS_SSI_CDIV) % 2 == 1

/-- The level of PO0 (`false`) or PO1 (`true`), with the levels of PA, PB and PZ for PASS (R359, R374). -/
def State.poLevel (s : State) (k : Fin 16) (one pa pb pz : Bool) : Bool :=
  let w := if one then s.reg POS_OUT1 k.val else s.reg POS_OUT0 k.val
  let p := s.ps k
  let step := s.bit POS_DIVCFG k.val POS_DIVCFG_DMODE
  let osep := max 4 (s.fld POS_DIVCFG k.val POS_DIVCFG_OSEP)
  let v : Bool := if !one && s.posMode k == 5 then s.ssiClock k else match POS_OUT0_SRC.get w with
    | 1 => POS_OUT0_LEVEL.get w == 1
    | 2 => if one then p.po1 else p.po0
    | 3 => match POS_OUT0_PSEL.get w with
      | 1 => pb
      | 2 => pz
      | _ => pa
    | 4 =>
      if one then p.outB
      else if step then (match p.stepAt with
        | some t => decide (s.tick < t + osep / 2)
        | none => false)
      else p.outA
    | _ => false
  s.fabricOn && (v != (POS_OUT0_INV.get w == 1))

/-- An entry of the compare table acts on an output. -/
def State.cmpOut (s : State) (k : Fin 16) (one tog : Bool) : State :=
  let w := if one then s.reg POS_OUT1 k.val else s.reg POS_OUT0 k.val
  if POS_OUT0_SRC.get w != 2 then s
  else
    let p := s.ps k
    let lev := if one then p.po1 else p.po0
    let e := if tog then none else some (s.tick + max 1 (POS_OUT0_PW.get w))
    let lev' := if tog then !lev else true
    let s1 := s.modPos k fun p => if one then { p with po1 := lev', end1 := e } else { p with po0 := lev', end0 := e }
    if lev && !tog then s1.flag POS_CMPSTAT k.val POS_CMPSTAT_MERGE else s1

/-- NENT of a table: 0 treated as 1, at most 256. -/
def State.nent (s : State) (k : Fin 16) : Nat := max 1 (min 256 (s.fld POS_CMPCTL k.val POS_CMPCTL_NENT))

/-- The effects of an entry that fires (R377). -/
def State.cmpEffect (s : State) (k : Fin 16) (i : Nat) : State :=
  let e := s.reg POS_CMP (256 * k.val + i)
  let tog := POS_CMP_TOG.get e == 1
  let s1 := if POS_CMP_OUT0.get e = 1 then s.cmpOut k false tog else s
  let s2 := if POS_CMP_OUT1.get e = 1 then s1.cmpOut k true tog else s1
  if POS_CMP_EV.get e = 1 ∧ s.bit POS_CMPCTL k.val POS_CMPCTL_EV = true then
    let c := Fin.ofNat 128 (32 * (k.val / 4) + s.fld POS_CMPCTL k.val POS_CMPCTL_CELL)
    let vec := s.fld POS_CMPCTL k.val POS_CMPCTL_VEC
    let pl := k.val % 4 * 2 ^ 8 + i % 256
    match s2.pushFifo c { vec := vec, payload := BitVec.ofNat 16 pl, ring := none } with
    | some s' => s'
    | none => (s2.notifyCell c vec pl).flag POS_CMPSTAT k.val POS_CMPSTAT_EVLOST
  else s2

/-- The table goes on after its current entry; at its end it wraps or is done (R376). -/
def State.cmpNext (s : State) (k : Fin 16) : State :=
  let back := s.bit POS_CMPCTL k.val POS_CMPCTL_DIR
  let n := s.nent k
  let i := (s.ps k).idx
  let last := if back then i == 0 else decide (n ≤ i + 1)
  if !last then
    let j := if back then i - 1 else i + 1
    (s.modPos k fun p => { p with idx := j }).setFld POS_CMPSTAT k.val POS_CMPSTAT_IDX j
  else if s.reg POS_CMPPER k.val = 0 then
    (s.modPos k fun p => { p with armed := false }).setBit POS_CMPSTAT k.val POS_CMPSTAT_DONE true
  else
    let j := if back then n - 1 else 0
    ((s.modPos k fun p => { p with idx := j, lap := if back then p.lap - 1 else p.lap + 1 }).setFld POS_CMPSTAT k.val
      POS_CMPSTAT_IDX j).countWrap POS_CMPSTAT k.val POS_CMPSTAT_LAP

/-- Entries fire while the current one has been reached by count `c1`; one that had been reached at `c0` already, before the
change, fires with PAST (R376, R377). -/
def State.cmpRun (s : State) (k : Fin 16) (c0 c1 : Nat) : Nat → State
  | 0 => s
  | n + 1 =>
    if !s.bit POS_CMPCTL k.val POS_CMPCTL_EN || !(s.ps k).armed then s
    else
      let i := (s.ps k).idx
      let pos : Int := s.fld POS_CMPBASE k.val POS_CMPBASE_VALUE + s.fld POS_CMP (256 * k.val + i) POS_CMP_OFS +
        (s.ps k).lap * s.fld POS_CMPPER k.val POS_CMPPER_VALUE
      let back := s.bit POS_CMPCTL k.val POS_CMPCTL_DIR
      let reached (c : Nat) : Bool :=
        let d := wrapS 32 ((c : Int) - pos)
        if back then decide (d ≤ 0) else decide (0 ≤ d)
      if !reached c1 then s
      else
        let s1 := s.cmpEffect k i
        let s2 := if reached c0 then s1.flag POS_CMPSTAT k.val POS_CMPSTAT_PAST else s1
        (s2.cmpNext k).cmpRun k c0 c1 n

/-- The bound on the entries one change can fire. -/
def cmpFuel : Nat := 0x10000000000

/-- COMPARE_FIRE: the table at a change of CNT from `c0`. -/
def State.cmpFire (s : State) (k : Fin 16) (c0 : Nat) : State := s.cmpRun k c0 (s.cnt k) cmpFuel

/-! ## Steps (R360, R375) -/

/-- The divider takes a step of CNT (R375). -/
def State.divStep (s : State) (k : Fin 16) (d : Int) : State :=
  let w := s.reg POS_DIV k.val
  let m := max 1 (POS_DIV_M.get w)
  let n := min (POS_DIV_N.get w) m
  let acc := (s.ps k).acc + d * n
  let back := s.sfld POS_DIVCFG k.val POS_DIVCFG_BACKLOG + acc / m
  let s1 := (s.modPos k fun p => { p with acc := acc % m }).setFld POS_DIVCFG k.val POS_DIVCFG_BACKLOG
    (pat 16 (clampI back (-32767) 32767))
  if back < -32767 ∨ 32767 < back then s1.flag POS_DIVCFG k.val POS_DIVCFG_DIVOVF else s1

/-- CNT changes by `d` and the table is judged. -/
def State.cntBy (s : State) (k : Fin 16) (d : Int) : State :=
  let c0 := s.cnt k
  (s.setReg POS_CNT k.val (BitVec.ofInt 32 ((c0 : Int) + d))).cmpFire k c0

/-- DIRINV negates every Δ (R360). -/
def State.posSign (s : State) (k : Fin 16) (d : Int) : Int := if s.bit POS_CFG k.val POS_CFG_DIRINV then -d else d

/-- A step of an interface: Δ on CNT, on Φ and into the divider (R360). -/
def State.posStep (s : State) (k : Fin 16) (d0 : Int) : State :=
  let d := s.posSign k d0
  if d = 0 then s
  else
    let s1 := s.setReg POS_PHI k.val (BitVec.ofInt 32 (((s.phi k : Int) + d) % s.spt k))
    (s1.divStep k d).cntBy k d

/-- A fresh reading (R372). -/
def State.freshen (s : State) (k : Fin 16) (v t : Nat) : State :=
  s.modPos k fun p => { p with v0 := some (v % 2 ^ 32, t), v1 := p.v0 }

/-- The measurement m presented at update tick `u` (R372). -/
def State.measure (s : State) (k : Fin 16) (u : Nat) : Nat :=
  let p := s.ps k
  if s.posMode k ≤ 1 ∨ s.posMode k = 3 then s.posReading k
  else
    match p.v0, p.v1 with
    | none, _ =>
      (match p.sect, s.posMode k with
        | some c, 4 => c * 2 ^ 32 / 6 + 2 ^ 32 / 12
        | _, _ => s.posReading k)
    | some (v, _), none => v
    | some (v, t), some (v1, t1) =>
      let dt := t - t1
      if !s.bit POS_CFG k.val POS_CFG_EXTRAP || decide (s.fld POS_XMAX k.val POS_XMAX_XMAX * 640 < dt) then v
      else pat 32 ((v : Int) + wrapS 32 ((v : Int) - v1) * (min (u - t) dt : Nat) / dt)

/-! ## Sin/cos tracks and resolvers (R363, R364) -/

/-- The step of a sin/cos sample, or the OVSPD fault (R363). -/
def State.sinCosStep (s : State) (k : Fin 16) (a : Nat) (t : Nat) : State :=
  match (s.ps k).ang with
  | none => (s.modPos k fun p => { p with ang := some a }).freshen k (s.posReading k) t
  | some b =>
    let d := wrapS 12 ((a : Int) - b)
    if 1024 ≤ d.natAbs then s.posFault k 3 false
    else
      let s1 := (s.modPos k fun p => { p with ang := some a }).posStep k d
      s1.freshen k (s1.posReading k) t

/-- A sample of the tracks, taken at tick `t` (R363, R370, R371). -/
def State.sinCos (s : State) (k : Fin 16) (sn cs : Int) (t : Nat) : State :=
  let sv := sn - s.sfld POS_TRIM k.val POS_TRIM_SOFS
  let cv := (cs - s.sfld POS_TRIM k.val POS_TRIM_COFS) * s.fld POS_TRIM k.val POS_TRIM_CGAIN / 2 ^ 14
  let amp := isqrt (sv * sv + cv * cv).toNat
  let low := decide (amp < s.fld POS_AMP k.val POS_AMP_AMIN)
  let high := decide (s.fld POS_AMP k.val POS_AMP_AMAX < amp)
  let s1 := (s.setFld POS_STAT k.val POS_STAT_AMP amp).modPos k fun p =>
    { p with lo := if low then p.lo + 1 else 0, hi := if high then p.hi + 1 else 0
             quad := (if 0 ≤ sv then 2#2 else 0) ||| (if 0 ≤ cv then 1#2 else 0) }
  let s2 := if s.losn k ≤ (s1.ps k).lo then s1.posFault k 1 true else if low then s1 else s1.posClear k 1
  let s3 := if s.losn k ≤ (s1.ps k).hi then s2.posFault k 2 true else if high then s2 else s2.posClear k 2
  if low || high || s3.posLost k then s3 else s3.sinCosStep k (angle12 sv cv) t

/-- POS_SAMPLE (R363, R364): the codes of SIN and COS, 96 ticks after their sample; `neg` marks a negative excitation peak. -/
def execPosSample (k : Fin 16) (sn cs : BitVec 12) (neg : Bool) (s : State) : Host.Outcome State Fault Refusal :=
  ok (let a := sx 12 sn.toNat
    let b := sx 12 cs.toNat
    if s.posIn k 1 && s.tick % 320 == 288 then s.sinCos k a b (s.tick - 96)
    else if s.posIn k 2 then (if neg then s.sinCos k (-a) (-b) (s.tick - 96) else s.sinCos k a b (s.tick - 96))
    else s)

/-- A resolver interface without excitation faults at once (R365). -/
def State.excCheck (s : State) (k : Fin 16) : State :=
  if s.posMode k = 2 ∧ s.bit POS_EXC k.val POS_EXC_EXEN = false then s.posFault k 9 true else s

/-- EXCITATION_CHECK (R365): the amplitude over one period, in 1/256 of the unit of AMP. -/
def execExcitationCheck (k : Fin 16) (amp : Nat) (s : State) : Host.Outcome State Fault Refusal :=
  ok (if s.posIn k 2 && s.bit POS_EXC k.val POS_EXC_EXEN then
      let set := s.fld POS_EXC k.val POS_EXC_AMP * 256
      if set < 4 * ((amp : Int) - set).natAbs then s.posFault k 9 true else s.posClear k 9
    else s.excCheck k)

/-! ## Quadrature, reference mark and Halls (R366 to R368) -/

/-- Position of the pair A, B in the quadrature sequence, A leading. -/
def quadPos (a b : Bool) : Nat :=
  match a, b with
  | false, false => 0
  | true, false => 1
  | true, true => 2
  | false, true => 3

/-- QUAD_EDGE (R366): the levels of A and B after a change that has held for `held` ticks. -/
def execQuadEdge (k : Fin 16) (a b : Bool) (held : Nat) (s : State) : Host.Outcome State Fault Refusal :=
  ok (if s.posIn k 3 && decide (s.posFilt k ≤ held) then
      let p := s.ps k
      let s1 := s.modPos k fun p => { p with a := a, b := b }
      match (quadPos a b + 4 - quadPos p.a p.b) % 4 with
      | 0 => s
      | 1 => s1.posStep k 1
      | 3 => s1.posStep k (-1)
      | _ => s1.posFault k 4 false
    else s)

/-- REFERENCE_MARK (R367): a rising edge of PZ that has held for `held` ticks. -/
def execReferenceMark (k : Fin 16) (held : Nat) (s : State) : Host.Outcome State Fault Refusal :=
  ok (let p := s.ps k
    let quad : Nat := if s.posMode k = 3 then 2 * b2n p.a + b2n p.b else p.quad.toNat
    if (s.posIn k 1 || s.posIn k 3) && s.bit POS_CFG k.val POS_CFG_ZEN && decide (s.posFilt k ≤ held) &&
        s.fld POS_CFG k.val POS_CFG_ZQUAL == quad then
      let n := s.spt k
      let z := s.fld POS_ZREF k.val POS_ZREF_VALUE
      if p.zarm then
        let d := mapHalf n ((z : Int) - s.phi k)
        (((s.modPos k fun p => { p with zarm := false }).setReg POS_PHI k.val (BitVec.ofNat 32 (z % n))).setBit POS_STAT k.val
          POS_STAT_ZREFD true).cntBy k d
      else if s.bit POS_STAT k.val POS_STAT_ZREFD &&
          decide (s.fld POS_ZTOL k.val POS_ZTOL_ZTOL < (mapHalf n ((s.phi k : Int) - z)).natAbs) then s.posFault k 5 false
      else s
    else s)

/-- idx(h) of a Hall code (R368). -/
def hallIdx (h : Nat) : Option Nat :=
  match h with
  | 1 => some 0
  | 3 => some 1
  | 2 => some 2
  | 6 => some 3
  | 4 => some 4
  | 5 => some 5
  | _ => none

/-- A Hall sector is taken (R368, R380). -/
def State.hallSector (s : State) (k : Fin 16) (c : Nat) : State :=
  let t := s.tick - (2 + s.posFilt k * 64)
  let set (s : State) : State := (s.modPos k fun p => { p with sect := some c, fresh := false }).setReg POS_PHI k.val (BitVec.ofNat 32 c)
  match (s.ps k).sect with
  | none =>
    let d := if (s.ps k).fresh then s.posSign k (mapHalf 6 ((c : Int) - s.phi k)) else 0
    if d = 0 then set s else ((set s).divStep k d).cntBy k d
  | some p =>
    let d := mapHalf 6 ((c : Int) - p)
    if d = 0 then s
    else if d = 1 ∨ d = -1 then
      let e := s.posSign k d
      (((set s).divStep k e).cntBy k e).freshen k ((if d = 1 then c else c + 1) * 2 ^ 32 / 6) t
    else ((set s).modPos k fun p => { p with v0 := none, v1 := none }).posFault k 7 false

/-- HALL_EDGE (R368): the code on H3, H2, H1 after it has held for `held` ticks. -/
def execHallEdge (k : Fin 16) (h : BitVec 3) (held : Nat) (s : State) : Host.Outcome State Fault Refusal :=
  ok (if s.posIn k 4 && decide (s.posFilt k * 64 ≤ held) then
      let s1 := s.setFld POS_STAT k.val POS_STAT_HCODE h.toNat
      let ofs := s.fld POS_CFG k.val POS_CFG_HOFS
      match hallIdx h.toNat with
      | none => s1.posFault k 6 true
      | some i => (s1.posClear k 6).hallSector k ((i + if 6 ≤ ofs then 0 else ofs) % 6)
    else s)

/-! ## SSI (R369) -/

/-- NB: 8 to 32. -/
def State.ssiNb (s : State) (k : Fin 16) : Nat := max 8 (min 32 (s.fld POS_SSI k.val POS_SSI_NB))
/-- STB: 1 to NB. -/
def State.ssiStb (s : State) (k : Fin 16) : Nat := max 1 (min (s.ssiNb k) (s.fld POS_SSI k.val POS_SSI_STB))
/-- The duration of a frame in fabric ticks. -/
def State.ssiTicks (s : State) (k : Fin 16) : Nat :=
  (s.ssiNb k * (1 + s.fld POS_SSI k.val POS_SSI_RPT) + 1) * 2 * max 32 (s.fld POS_SSI k.val POS_SSI_CDIV)
/-- Gray code to binary, over n bits from the top down. -/
def grayBin (x : Nat) : Nat → Nat
  | 0 => 0
  | n + 1 => x ^^^ grayBin (x / 2) n

/-- SSI_FRAME_START (R369). -/
def execSsiFrameStart (k : Fin 16) (s : State) : Host.Outcome State Fault Refusal :=
  ok (let p := s.ps k
    let gap := match p.began with
      | some t => decide (t + max 1 (s.fld POS_SSIT k.val POS_SSIT_SSIPER) * 640 ≤ s.tick)
      | none => true
    let rest := match p.ended with
      | some t => decide (t + s.fld POS_SSIT k.val POS_SSIT_TM * 640 ≤ s.tick)
      | none => true
    if s.posIn k 5 && s.tick % 640 == 0 && p.frame.isNone && gap && rest then
      s.modPos k fun p => { p with frame := some s.tick, began := some s.tick }
    else s)

/-- SSI_FRAME_END (R369): the level of PA at the first falling edge, the value, its repetition and the check bit. -/
def execSsiFrameEnd (k : Fin 16) (first : Bool) (value again : Word) (check : Bool) (s : State) : Host.Outcome State Fault Refusal :=
  ok (match (s.ps k).frame with
    | none => s
    | some t =>
      if !s.posIn k 5 || decide (s.tick < t + s.ssiTicks k) then s
      else
        let n := s.ssiNb k
        let raw := value.toNat % 2 ^ n
        let good := first && !check && (!s.bit POS_SSI k.val POS_SSI_RPT || again.toNat % 2 ^ n == raw)
        let s1 := s.modPos k fun p => { p with frame := none, ended := some (t + s.ssiTicks k), bad := if good then 0 else p.bad + 1 }
        if good then
          let v := if s.bit POS_SSI k.val POS_SSI_GRAY then grayBin raw n else raw
          let m := s.ssiStb k
          let single := v % 2 ^ m
          let prev : Nat := (s.ps k).ssi.getD (s.phi k)
          let s2 := (((s1.posClear k 8).setReg POS_SSIRAW k.val (BitVec.ofNat 32 v)).modPos k fun p => { p with ssi := some single })
          let s3 := s2.posStep k (wrapS m ((single : Int) - prev))
          s3.freshen k (s3.posReading k) t
        else if s.losn k ≤ (s1.ps k).bad then s1.posFault k 8 true
        else s1)

/-! ## Commands and registers -/

/-- ARM: the table starts anew; entries already reached fire at once (R376, R377). -/
def State.posArm (s : State) (k : Fin 16) : State :=
  let i := if s.bit POS_CMPCTL k.val POS_CMPCTL_DIR then s.nent k - 1 else 0
  let s1 := s.modPos k fun p => { p with armed := true, idx := i, lap := 0 }
  (((s1.setBit POS_CMPSTAT k.val POS_CMPSTAT_DONE false).setFld POS_CMPSTAT k.val POS_CMPSTAT_IDX i).setFld POS_CMPSTAT k.val
    POS_CMPSTAT_LAP 0).cmpFire k (s.cnt k)

/-- SET: CNT and Φ are loaded (R360). -/
def State.posSet (s : State) (k : Fin 16) : State :=
  let v := s.fld POS_SETV k.val POS_SETV_VALUE
  let c0 := s.cnt k
  ((s.setReg POS_PHI k.val (BitVec.ofNat 32 (v % s.spt k))).setReg POS_CNT k.val (BitVec.ofNat 32 v)).cmpFire k c0

/-- POS_CMD written: SET, then ZARM, then ARM. -/
def State.writePosCmd (s : State) (k : Fin 16) (v : Word) : State :=
  let s1 := if POS_CMD_SET.get v = 1 then s.posSet k else s
  let s2 := if POS_CMD_ZARM.get v = 1 then s1.modPos k fun p => { p with zarm := true } else s1
  if POS_CMD_ARM.get v = 1 then s2.posArm k else s2

/-- POS_SET (R360). -/
def execPosSet (ag : Agent) (k : Fin 16) (s : State) : Host.Outcome State Fault Refusal :=
  ok (s.asWrite ag POS_CMD k.val fun s => s.writePosCmd k (POS_CMD_SET.put 0 1))

/-- ZARM (R367). -/
def execZarm (ag : Agent) (k : Fin 16) (s : State) : Host.Outcome State Fault Refusal :=
  ok (s.asWrite ag POS_CMD k.val fun s => s.writePosCmd k (POS_CMD_ZARM.put 0 1))

/-- POS_ARM (R376). -/
def execPosArm (ag : Agent) (k : Fin 16) (s : State) : Host.Outcome State Fault Refusal :=
  ok (s.asWrite ag POS_CMD k.val fun s => s.writePosCmd k (POS_CMD_ARM.put 0 1))

/-- COMPARE_PULSE_END (R377): a pulse of PO0 (`false`) or PO1 (`true`) ends. -/
def execComparePulseEnd (k : Fin 16) (one : Bool) (s : State) : Host.Outcome State Fault Refusal :=
  ok (match (if one then (s.ps k).end1 else (s.ps k).end0) with
    | some t =>
      if s.fabricOn && decide (t ≤ s.tick) then
        s.modPos k fun p => if one then { p with po1 := false, end1 := none } else { p with po0 := false, end0 := none }
      else s
    | none => s)

/-- The next output level of A′ and B′ after a step (R375). -/
def quadNext (a b up : Bool) : Bool × Bool :=
  match (quadPos a b + if up then 1 else 3) % 4 with
  | 0 => (false, false)
  | 1 => (true, false)
  | 2 => (true, true)
  | _ => (false, true)

/-- DIVIDER_STEP (R375): one step of the backlog; in step/dir mode DIR settles first. -/
def execDividerStep (k : Fin 16) (s : State) : Host.Outcome State Fault Refusal :=
  ok (let p := s.ps k
    let back := s.sfld POS_DIVCFG k.val POS_DIVCFG_BACKLOG
    let osep := max 4 (s.fld POS_DIVCFG k.val POS_DIVCFG_OSEP)
    let free (o : Option Nat) (n : Nat) : Bool := match o with
      | some t => decide (t + n ≤ s.tick)
      | none => true
    let up := decide (0 < back)
    if !s.fabricOn || back == 0 || !free p.stepAt osep then s
    else
      let taken := s.setFld POS_DIVCFG k.val POS_DIVCFG_BACKLOG (pat 16 (if up then back - 1 else back + 1))
      if s.bit POS_DIVCFG k.val POS_DIVCFG_DMODE then
        if p.outB != up then s.modPos k fun p => { p with outB := up, dirAt := some s.tick }
        else if !free p.dirAt (osep / 2) then s
        else taken.modPos k fun p => { p with stepAt := some s.tick }
      else
        let q := quadNext p.outA p.outB up
        taken.modPos k fun p => { p with outA := q.1, outB := q.2, stepAt := some s.tick })

/-- POS_CFG written (R362): MODE, DIRINV and FILT accept writes only while EN = 0; a rise of EN starts anew. -/
def State.writePosCfg (s : State) (ag : Agent) (k : Fin 16) (v : Word) : State :=
  let old := s.reg POS_CFG k.val
  let on := POS_CFG_EN.get old == 1
  let held := [POS_CFG_MODE, POS_CFG_DIRINV, POS_CFG_FILT]
  let v1 := if on then held.foldl (fun w F => F.put w (F.get old)) v else v
  let s0 := if v1 != v then s.discard ag POS_CFG k.val stPERM else s
  let s1 := s0.setReg POS_CFG k.val (v1 &&& 0xFFFFFE00)
  if !on && POS_CFG_EN.get v == 1 then
    ((((s1.setReg POS_CNT k.val 0).setReg POS_PHI k.val 0).setBit POS_STAT k.val POS_STAT_ZREFD false).modPos k fun p =>
      { p with ang := none, lo := 0, hi := 0, bad := 0, conds := 0, v0 := none, v1 := none, sect := none, frame := none
               ssi := none, fresh := false }).posHealth k |>.excCheck k
  else if POS_CFG_EN.get v = 0 then (s1.modPos k fun p => { p with frame := none, conds := 0 }).posHealth k
  else s1

/-- POS_SPT written (R362). -/
def State.writePosSpt (s : State) (ag : Agent) (k : Fin 16) (v : Word) : State :=
  if s.bit POS_CFG k.val POS_CFG_EN then s.discard ag POS_SPT k.val stPERM else s.setReg POS_SPT k.val v

/-- POS_EXC written (R365). -/
def State.writePosExc (s : State) (k : Fin 16) (v : Word) : State :=
  let rose := POS_EXC_EXEN.get v == 1 && !s.bit POS_EXC k.val POS_EXC_EXEN
  let s1 := s.setReg POS_EXC k.val (v &&& 0xFF07FFFF)
  if rose then s1.posClear k 9 else s1.excCheck k

/-- POS_STAT written: LOSS, PLAUS and RESUMED are W1C (R370). -/
def State.writePosStat (s : State) (k : Fin 16) (v : Word) : State :=
  let w := [POS_STAT_LOSS, POS_STAT_PLAUS, POS_STAT_RESUMED].foldl
    (fun w F => if F.get v = 1 then F.put w 0 else w) (s.reg POS_STAT k.val)
  (s.setReg POS_STAT k.val w).posHealth k

/-- POS_DIV written (R375): acc is limited to M − 1. -/
def State.writePosDiv (s : State) (k : Fin 16) (v : Word) : State :=
  (s.setReg POS_DIV k.val v).modPos k fun p => { p with acc := min p.acc (max 1 (POS_DIV_M.get v) - 1 : Nat) }

/-- POS_CMPCTL written: a rise of EN judges an armed table (R377). -/
def State.writePosCmpctl (s : State) (k : Fin 16) (v : Word) : State :=
  (s.setReg POS_CMPCTL k.val (v &&& 0xFFF001FF)).cmpFire k (s.cnt k)

/-- A FAB_ABORT of the owner of an interface (R379). -/
def State.posAbort (s : State) (k : Fin 16) : State :=
  ((s.setBit POS_CMPCTL k.val POS_CMPCTL_EV false).setBit POS_CFG k.val POS_CFG_IE false).modPos k fun p =>
    { p with armed := false, po0 := false, po1 := false, end0 := none, end1 := none }

/-- Return to RUN from PARK or KEEP (R380). -/
def State.posResume (s : State) (k : Fin 16) : State :=
  if s.bit POS_CFG k.val POS_CFG_EN then
    ((s.setBit POS_STAT k.val POS_STAT_ZREFD false).flag POS_STAT k.val POS_STAT_RESUMED).modPos k fun p =>
      { p with ang := none, lo := 0, hi := 0, bad := 0, v0 := none, v1 := none, sect := none, frame := none, ssi := none, fresh := true }
  else s

end Sys2Proof.Machine
end

