-- ==== Sys2Proof/Machine/SafetySet.lean ====
section
/-! DEFINITION. The safety parameter set: validity, check value, taking a set into force, and what follows in the Grotto
(R437 to R445, R418). -/

namespace Sys2Proof.Machine

/-! ## Validity (R442) -/

/-- Word `off` of a set in bytes, `hi` to `lo`. -/
def within (p : SMap Word) (off hi lo a b : Nat) : Bool := a ≤ parBits p off hi lo && parBits p off hi lo ≤ b

/-- A word of the global record lies within its ranges (R438); `nodes` are the device's own node IDs. -/
def globalOk (p : SMap Word) (nodes : List Nat) (off : Nat) : Bool :=
  match off with
  | 0x00 => parBits p 0 31 16 == 0xF4A6 && parBits p 0 15 0 == 1
  | 0x04 => within p 4 31 0 0x1300 0x10000 && parBits p 4 1 0 == 0
  | 0x08 => nodes.contains (parBits p 8 13 0) && parBits p 8 31 16 == 0
  | 0x0C => within p 0xC 31 16 10 1000 && within p 0xC 15 0 50 500 &&
      decide (8 * (parBits p 0xC 15 0 + 100) ≤ parBits p 0xC 31 16 * 1000)
  | 0x10 => parBits p 0x10 31 8 == 0
  | 0x14 => true
  | _ => parBits p off 31 0 == 0

/-- The bridges of a mask lie in one region. -/
def oneRegion (m : Nat) : Bool := ((List.range 4).filter fun r => m / 16 ^ r % 16 != 0).length ≤ 1

/-- A word of an axis record that is in use lies within its ranges (R439); `b` is the record's base and `o` the offset in it. -/
def axisUseOk (p : SMap Word) (b o : Nat) : Bool :=
  match o with
  | 0x00 => oneRegion (parBits p b 31 16) && decide (parBits p b 9 8 < 2)
  | 0x0C => within p (b + o) 15 0 100 10000
  | 0x10 => within p (b + o) 5 0 1 64
  | 0x20 =>
    let r := [parBits p (b + o) 31 24, parBits p (b + o) 23 16]
    let q := [parBits p (b + o) 15 8, parBits p (b + o) 7 0]
    (r ++ q).all (· ≤ 95) && r.all fun i => !q.contains i
  | 0x44 => within p (b + o) 15 8 1 4 && within p (b + o) 7 0 1 255
  | 0x4C => within p (b + o) 15 0 100 65535
  | 0x58 => within p (b + o) 31 16 10 30000
  | 0x6C => decide (sx 32 (parBits p (b + 0x68) 31 0) < sx 32 (parBits p (b + 0x6C) 31 0))
  | _ => true

/-- The bytes of a word of an axis record that the layout does not assign are 0. -/
def axisZeroOk (p : SMap Word) (b o : Nat) : Bool :=
  match o with
  | 0x14 => parBits p (b + o) 15 0 == 0
  | 0x24 => parBits p (b + o) 31 8 == 0
  | 0x3C => parBits p (b + o) 31 0 == 0
  | 0x70 => parBits p (b + o) 31 16 == 0
  | _ => o < 0x70 || parBits p (b + o) 31 0 == 0

/-- A word of the record of axis `x` is valid: its ranges, and no bridge of an earlier axis. -/
def axisOk (p : SMap Word) (x o : Nat) : Bool :=
  let b := 0x100 + 0x100 * x
  axisZeroOk p b o && (parBits p b 0 0 == 0 || (axisUseOk p b o && (o != 0 || (List.range x).all fun y =>
    parBits p (0x100 + 0x100 * y) 0 0 == 0 || parBits p (0x100 + 0x100 * y) 31 16 &&& parBits p b 31 16 == 0)))

/-- The test-pulse outputs that a pair names. -/
def pairTps (p : SMap Word) (k : Nat) : List Nat :=
  [parBits p (0x900 + 16 * k) 27 24, parBits p (0x900 + 16 * k) 23 20].filter (· < 8)

/-- A word of a pair record is valid (R428, R440, R442). -/
def pairOk (p : SMap Word) (k o : Nat) : Bool :=
  let b := 0x900 + 16 * k
  let en := parBits p b 31 31 == 1
  match o with
  | 0x0 => parBits p b 7 0 == 0 && (!en || (decide (parBits p b 30 28 < 4) && within p b 19 10 1 1000 &&
      (parBits p b 30 28 != 3 || (pairTps p k).isEmpty) &&
      (List.range k).all fun j => parBits p (0x900 + 16 * j) 31 31 == 0 || parBits p (0x900 + 16 * j) 30 28 == parBits p b 30 28 ||
        (pairTps p k).all fun t => !(pairTps p j).contains t))
  | 0x4 => !en || within p (b + 4) 15 0 0 1000
  | 0x8 => parBits p (b + 8) 15 0 == 0 && (!en || within p (b + 8) 21 20 1 3)
  | _ => parBits p (b + o) 31 0 == 0

/-- A word of a cross-link record is valid (R441). -/
def xlinkOk (p : SMap Word) (k o : Nat) : Bool :=
  let b := 0xA00 + 0x40 * k
  let en := parBits p b 31 31 == 1
  match o with
  | 0x0 => !en || within p b 15 0 50 10000
  | 0x4 => !en || (within p (b + 4) 31 16 100 65535 && within p (b + 4) 15 8 1 255)
  | 0x8 => true
  | 0xC => parBits p (b + 0xC) 31 16 == 0
  | _ => parBits p (b + o) 31 0 == 0

/-- A word of a heartbeat record is valid (R441). -/
def beatOk (p : SMap Word) (c o : Nat) : Bool :=
  if o = 4 then parBits p (0xB04 + 8 * c) 23 8 == 0 && (parBits p (0xB04 + 8 * c) 31 31 == 0 || parBits p (0xB04 + 8 * c) 30 29 != 3)
  else true

/-- The word at byte offset `off` below 0x1300 is valid. -/
def wordOk (p : SMap Word) (nodes : List Nat) (off : Nat) : Bool :=
  if off < 0x100 then globalOk p nodes off
  else if off < 0x900 then axisOk p ((off - 0x100) / 0x100) (off % 0x100)
  else if off < 0xA00 then pairOk p ((off - 0x900) / 16) (off % 16)
  else if off < 0xB00 then xlinkOk p ((off - 0xA00) / 64) (off % 64)
  else beatOk p ((off - 0xB00) / 8) (off % 8)

/-- The byte offset of the first invalid word of a set, if any (R442, R446). -/
def firstBad (p : SMap Word) (nodes : List Nat) : Option Nat :=
  ((List.range 0x4C0).map (4 * ·)).find? fun off => !wordOk p nodes off

/-- The node IDs of the device: those of its Echo memberships (R438, R483). -/
def State.nodeIds (s : State) : List Nat := [s.fld ECHO_NODE 0 ECHO_NODE_ID, s.fld ECHO_NODE 1 ECHO_NODE_ID]

/-- LEN of the Grotto's own copy. -/
def State.parLen (s : State) : Nat := parBits s.grt.param 4 31 0

/-- The CCV over the Grotto's own copy (R443): a length beyond the copy leaves it open. -/
def State.ccv (s : State) : Word :=
  if 0x10000 < s.parLen then s.free.truncate 32
  else crc32 (((List.range ((s.parLen + 3) / 4)).flatMap fun i => wordBytes (smGet 0 s.grt.param i)).take s.parLen)

/-! ## A set in force -/

/-- GRT_PSTAT.LOCK: 0 LOAD, 1 OPEN, 2 CLOSED (R445). -/
def State.lock (s : State) : Nat := s.fld GRT_PSTAT 0 GRT_PSTAT_LOCK
/-- GRT_STAT.CCVOK. -/
def State.ccvOk (s : State) : Bool := s.bit GRT_STAT 0 GRT_STAT_CCVOK

/-- The Grotto leaves INIT for SAFE once its injections, its SRAM test and the CCV comparison have passed (R418). -/
def State.tryInit (s : State) : State :=
  if s.gstate = 0 ∧ s.grt.tested ∧ s.ccvOk then s.setFld GRT_STAT 0 GRT_STAT_GSTATE 1 else s

/-- Every pair restarts in DEMAND (R449). -/
def State.pairsRestart (s : State) : State :=
  (List.range 16).foldl (fun s k => s.setFld GRT_SIP 0 (fldAt 2 k) (if s.pRec k 0 31 31 = 1 then 0 else 3))
    (s.modGrt fun g => { g with pair := Vector.replicate 16 pairReset })

/-- The Grotto's own copy comes into force: the bridges of an axis take its state, which is STO, and no other bridge an
override (R381); every pair starts in DEMAND, links DOWN, heartbeat channels anew. -/
def State.takeSet (s : State) : State :=
  let s0 := s.modGrt fun g =>
    { g with cfg := some g.param, beats := []
             xl := g.xl.map fun l => { l with lost := false, run := 0, sto := 0, ss1 := 0, sls := 0, out := 0 } }
  let s1 := (List.finRange 16).foldl (fun s k =>
    s.orderBr k (match s.bridgeAxis k.val with
      | some x => outPattern (s.axOut x) false
      | none => none)) s0
  let s2 := s1.pairsRestart
  let s3 := (List.range 4).foldl (fun s k => s.setBit GRT_XLSTAT k GRT_XLSTAT_UP false) s2
  ((s3.setFld GRT_STAT 0 GRT_STAT_XLUP 0).allDemands).tryInit

/-- Every axis in use is brought to STO under entry 21 (R443). -/
def State.ccvFault (s : State) : State :=
  let s1 := (List.range 8).foldl (fun s x =>
    if s.axUse x then (s.orderSto x).setFld GRT_AXSTAT x GRT_AXSTAT_CAUSE 21 else s) s
  (s1.gLog 21 actSto 0 none).gCause 21 0 true

/-- CCV_CHECK (R443): `hit` is a word of the Grotto's copy found altered since the last check. -/
def execCcvCheck (hit : Option (Fin 16384 × Word)) (s : State) : Host.Outcome State Fault Refusal :=
  ok (if !s.grottoOn || s.lock != 2 then s
    else
      let s1 := match hit with
        | some (i, w) => s.modGrt fun g => { g with param := smSet g.param i.val w }
        | none => s
      let v := s1.ccv
      let s2 := s1.setReg GRT_CCV 0 v
      let good := match s.grt.record with
        | some (c :: _) => c == v
        | _ => false
      if good then s2.gCause 21 0 false else (s2.setBit GRT_STAT 0 GRT_STAT_CCVOK false).ccvFault)

/-- GROTTO_INIT_COMPLETE (R418): whether the injections and the SRAM test have passed. -/
def execGrottoInitComplete (inj sram : Bool) (s : State) : Host.Outcome State Fault Refusal :=
  ok (if !s.grottoOn then s
    else if inj && sram then (s.modGrt fun g => { g with tested := true }).tryInit
    else s.hardSto 0x9A)

end Sys2Proof.Machine
end

