-- ==== Sys2Proof/Machine/SafeInputs.lean ====
section
/-! DEFINITION. The safe inputs of the Grotto: levels, test pulses, the pair machine and two-hand control (R426 to R431). -/

namespace Sys2Proof.Machine

/-- A pair. -/
def State.pairAt (s : State) (k : Nat) : Pair := vget s.grt.pair (Fin.ofNat 16 k)
/-- A pair changed. -/
def State.modPair (s : State) (k : Nat) (f : Pair → Pair) : State :=
  s.modGrt fun g => { g with pair := vset g.pair (Fin.ofNat 16 k) (f (vget g.pair (Fin.ofNat 16 k))) }
/-- Pair `k` is evaluated. -/
def State.pairOn (s : State) (k : Nat) : Bool := s.grottoOn && s.pRec k 0 31 31 == 1
/-- The test-pulse output of a channel of a pair, if it has one. -/
def State.tpOf (s : State) (k : Nat) (b : Bool) : Option Nat :=
  let t := if b then s.pRec k 0 23 20 else s.pRec k 0 27 24
  if t < 8 then some t else none

/-- Channel A (`false`) or B of a pair is healthy (R428); a channel whose level is not known yet is not. -/
def State.chHealthy (s : State) (k : Nat) (b : Bool) : Bool :=
  let good := !(b && (s.pRec k 0 30 28 == 1 || s.pRec k 0 30 28 == 2))
  (if b then (s.pairAt k).lvB else (s.pairAt k).lvA) == some good

/-- The pair that leads a two-hand control. -/
def State.isFirstHand (s : State) (k : Nat) : Bool :=
  k % 2 == 0 && s.pRec k 0 31 31 == 1 && s.pRec k 0 30 28 == 2 && s.pRec (k + 1) 0 31 31 == 1 && s.pRec (k + 1) 0 30 28 == 2

/-- A pair enters a state of its own: 0 DEMAND, 1 OK, 2 FAULT. -/
def State.pairEnter (s : State) (k v : Nat) : State :=
  let s1 := s.modPair k fun p => { p with own := BitVec.ofNat 2 v, okAt := if v = 1 then s.us else p.okAt }
  if s.isFirstHand k then s1 else s1.setFld GRT_SIP 0 (fldAt 2 k) v

/-- A pair enters FAULT, logged under entry 19 (R429). -/
def State.pairFault (s : State) (k detail : Nat) : State :=
  if (s.pairAt k).own = 2 then s else (s.pairEnter k 2).gLog 19 actReport k (some detail)

/-- The combined state of a two-hand control follows its pairs (R430). -/
def State.twoHand (s : State) (k : Nat) : State :=
  if !s.isFirstHand k then s
  else
    let a := s.pairAt k
    let b := s.pairAt (k + 1)
    let set (v : Nat) (rel : Bool) : State := (s.setFld GRT_SIP 0 (fldAt 2 k) v).modPair k fun p => { p with rel := rel }
    let released := a.own == 0 && b.own == 0
    let both := a.own == 1 && b.own == 1
    if s.pairState k = 1 then (if both then s else set 0 (!released))
    else if released then set 0 false
    else if both then
      if !a.rel && decide (((a.okAt : Int) - b.okAt).natAbs ≤ 500000) then set 1 false else set 0 true
    else s

/-- A pair is evaluated after a change, or as its times run out (R429). -/
def State.pairEval (s : State) (k : Nat) : State :=
  if !s.pairOn k then s
  else
    let p := s.pairAt k
    let a := s.chHealthy k false
    let b := s.chHealthy k true
    let s1 := s.modPair k fun p =>
      { p with disAt := if a != b then some (p.disAt.getD s.us) else none
               offAt := if !a && !b then some (p.offAt.getD s.us) else none }
    let late := match p.disAt with
      | some t => decide (t + s.pRec k 0 19 10 * 1000 < s.us)
      | none => false
    let s2 :=
      if p.tpA != 0 || p.tpB != 0 then s1.pairFault k 2
      else if p.own = 0 && late then s1.pairFault k 1
      else if p.own = 0 && a && b then s1.pairEnter k 1
      else if p.own = 1 && !(a && b) then s1.pairEnter k 0
      else if p.own = 2 then
        match (s1.pairAt k).offAt with
        | some t => if t + s.pRec k 4 31 16 ≤ s.us then s1.pairEnter k 0 else s1
        | none => s1
      else s1
    s2.twoHand (k / 2 * 2)

/-- Every pair is evaluated, and then the demands. -/
def State.pairsEval (s : State) : State := ((List.range 16).foldl (fun s k => s.pairEval k) s).allDemands

/-- The Grotto's microsecond lies within the pulse window of TP output `t`, and did for `held` µs (R427). -/
def State.inPulse (s : State) (t held : Nat) : Bool :=
  let per := max 1 (s.gRec 0xC 31 16 * 1000)
  let ph := (s.us + per - t * per / 8 % per) % per
  ph ≤ s.gRec 0xC 15 0 + 50 && held ≤ ph

/-- How long a level must have been seen to be accepted: DEB rounded up to 10 µs; a low of an OSSD longer than OSSDTOL
(R426, R428). -/
def State.debounced (s : State) (k : Nat) (lvl : Bool) (held : Nat) : Bool :=
  (s.pRec k 4 31 16 + 9) / 10 * 10 ≤ held && (lvl || s.pRec k 0 30 28 != 3 || s.pRec k 4 15 0 < held)

/-- SAFE_INPUT_CHANGE (R426): SIi has been at a level for `held` µs. -/
def execSafeInputChange (i : Fin 32) (lvl : Bool) (held : Nat) (s : State) : Host.Outcome State Fault Refusal :=
  ok (let k := i.val / 2
    let b := i.val % 2 == 1
    let own := match s.tpOf k b with
      | some t => !lvl && s.inPulse t held
      | none => false
    if !s.pairOn k || !s.debounced k lvl held || own then s
    else
      ((s.modPair k fun p => if b then { p with lvB := some lvl } else { p with lvA := some lvl }).pairEval k).allDemands)

/-- What a pulse of output `t` shows on a channel (R427): its fault bits. -/
def tpSeen (own : Option Nat) (lvl : Option Bool) (t : Nat) (low : Bool) (f : Byte) : Byte :=
  let m : Byte := 1#8 <<< t
  match own with
  | none => 0
  | some o => if o = t then (if lvl = some true then (if low then f &&& ~~~m else f ||| m) else f)
    else if low then f ||| m else f &&& ~~~m

/-- TEST_PULSE (R427): the window of output TPt ends; bit i of `lows` says that a low matching the pulse was seen on SIi. -/
def execTestPulse (t : Fin 8) (lows : Word) (s : State) : Host.Outcome State Fault Refusal :=
  ok (((List.range 16).foldl (fun s k =>
    if !s.pairOn k then s
    else s.modPair k fun p =>
      { p with tpA := tpSeen (s.tpOf k false) p.lvA t.val (lows.getLsbD (2 * k)) p.tpA
               tpB := tpSeen (s.tpOf k true) p.lvB t.val (lows.getLsbD (2 * k + 1)) p.tpB }) s).pairsEval)

/-- DISCREPANCY_TIMEOUT (R429): the channels of a pair have disagreed for longer than DISC. -/
def execDiscrepancyTimeout (k : Fin 16) (s : State) : Host.Outcome State Fault Refusal :=
  ok ((s.pairEval k.val).allDemands)

end Sys2Proof.Machine
end

