-- ==== Sys2Proof/Machine/ColumnHalt.lean ====
section
/-! DEFINITION. A column that its comparator halts or that stops on a double trap (R407, R458, R478). -/

namespace Sys2Proof.Machine

/-- What a halt or stop of a column means beyond the column itself: region sources are redirected (R475); one of COLH drives
FAULT# low and ends service (R478, R538). -/
def State.columnDown (s : State) (i : Fin 6) : State :=
  if i.val < 4 then s.setBit SYSCTL_COLCTL i.val SYSCTL_COLCTL_REDIR true
  else if i.val = 4 then
    let s1 := (s.gCause 2 0x84 true).setBit THERM_CTRL 0 THERM_CTRL_SERVICE false
    { s1 with boot := { s1.boot with colhAt := some s1.aon } }
  else s

/-- A column's comparator halts it (R407, R410, R411): CAUSE is recorded, the Grotto is informed; the safety column's
comparator forces the hardwired STO (R391). -/
def State.columnHalt (s : State) (i : Fin 6) (cause : Nat) : State :=
  if i.val = 5 then s.hardSto 0x9A
  else if s.bit SYSCTL_COLCTL i.val SYSCTL_COLCTL_HALTED then s
  else
    let s1 := (s.setBit SYSCTL_LSSTAT i.val SYSCTL_LSSTAT_HALT true).setFld SYSCTL_LSSTAT i.val SYSCTL_LSSTAT_CAUSE cause
    ((s1.setBit SYSCTL_COLCTL i.val SYSCTL_COLCTL_HALTED true).columnDown i).gLog 2 actReport (0x80 + i.val) (some cause)

/-- A column stops on a trap within a trap handler (R458); a stop of COLH is reported to the Grotto (R478). A safety column that
stops no longer refreshes its orders (R391). -/
def State.columnStop (s : State) (i : Fin 6) : State :=
  if i.val = 5 then (s.modSproc i fun q => { q with inReset := true }).hardSto 0x9A
  else
    let s1 := (s.setBit SYSCTL_COLCTL i.val SYSCTL_COLCTL_STOPPED true).columnDown i
    if i.val = 4 then s1.gLog 2 actReport 0x84 none else s1

end Sys2Proof.Machine
end

