-- ==== Sys2Proof/Machine/Cells.lean ====
section
/-! DEFINITION. Control cells: loading, starting and stopping, binding, the Flowstone records, fault detection, migration and
twins (R204 to R229). -/

namespace Sys2Proof.Machine

/-! ## Places -/

/-- The window of block `b` (R22). -/
def blockBase (b : Nat) : Nat := 0x20000000 + b / 4 * 0x04000000 + 0x01000000 + b % 4 * 0x100000
/-- The window of physical cell `p` (R22): program RAM, and operand RAM 0x4000 above. -/
def cellWin (p : Nat) : Nat := blockBase (p / 8) + 0x40000 + p % 8 * 0x8000
/-- The Flowstone window of block `b`. -/
def flowBase (b : Nat) : Nat := 0x20000000 + b / 4 * 0x04000000 + 0x02088000 + b % 4 * 0x1000
/-- The block of a cell. -/
def blockOf (c : Fin 128) : Fin 16 := Fin.ofNat 16 (c.val / 8)
/-- The groups bound to a cell (PWMG). -/
def State.boundGroups (s : State) (c : Fin 128) : List (Fin 32) :=
  ((List.range 8).filter fun g => bitN (s.fld CELL_BIND c.val CELL_BIND_PWMG) g).map fun g => Fin.ofNat 32 (c.val / 32 * 8 + g)
/-- The bound groups take a migration pattern (R221). -/
def State.groupsPattern (s : State) (c : Fin 128) (hold : Bool) : State :=
  (s.boundGroups c).foldl (fun s g => s.migGroup g c.val hold) s
/-- CL_CYCLE (R228). -/
def State.clCycle (s : State) (c : Fin 128) : Word :=
  let l := vget s.lcell c
  if s.lstate c == 1 then l.cyc + BitVec.ofNat 32 (s.cellTick - l.cycAt) else l.cyc
/-- CL_CYCLE stands still from here, or counts on from here. -/
def State.holdCycle (s : State) (c : Fin 128) : State :=
  let v := s.clCycle c
  s.modCell c fun l => { l with cyc := v, cycAt := s.cellTick }

/-! ## Images (R208, R219) -/

/-- An image: byte offset in block memory and length in cell words. -/
def State.image (s : State) (c : Fin 128) (prog : Bool) : Nat × Nat :=
  if prog then (64 * s.fld CELL_PIMG c.val CELL_PIMG_BASE, min 8192 (s.fld CELL_PIMG c.val CELL_PIMG_LEN))
  else (64 * s.fld CELL_SIMG c.val CELL_SIMG_BASE, min 4096 (s.fld CELL_SIMG c.val CELL_SIMG_LEN))

/-- The first word of an image that holds an uncorrectable error, by address. -/
def State.imageBad (s : State) (b : Nat) (im : Nat × Nat) : Option Nat :=
  ((List.range ((2 * im.2 + 3) / 4)).map fun i => blockBase b + im.1 + 4 * i).find? fun a =>
    a < blockBase b + 0x40000 && s.eccOf a == 2

/-- An image is copied to `dst`; bytes beyond block memory are open. -/
def State.copyImage (s : State) (b : Nat) (im : Nat × Nat) (dst : Nat) : State :=
  let bytes := (List.range (2 * im.2)).map fun i =>
    if im.1 + i < 0x40000 then memGet s.mem (blockBase b + im.1 + i) else Config.freeByte s.freeCtr (im.1 + i)
  let s1 := (List.range ((2 * im.2 + 3) / 4)).foldl (fun s i => s.eccCorrect (blockBase b + im.1 + 4 * i)) s
  let s2 := (List.range im.2).foldl (fun s i => s.eccClear (dst + 2 * i)) s1.used
  { s2 with mem := memPutList s2.mem dst bytes }

/-- Both images of logical cell `c` into physical cell `p`, or the address of an uncorrectable error. -/
def State.loadCell (s : State) (c p : Fin 128) : Option Nat × State :=
  let b := c.val / 8
  let s1 := s.copyImage b (s.image c true) (cellWin p.val)
  match s.imageBad b (s.image c true) with
  | some a => (some a, s)
  | none =>
    match s1.imageBad b (s.image c false) with
    | some a => (some a, s1)
    | none => (none, s1.copyImage b (s.image c false) (cellWin p.val + 0x4000))

/-! ## Flowstone records (R216) -/

/-- Word `i` of record `r` of a cell. -/
def State.flowWord (s : State) (c : Fin 128) (r i : Nat) : Half :=
  smGet 0 (vget s.block (blockOf c)).flow (256 * (c.val % 8) + 128 * r + i)
/-- Record `r` is VALID and free of uncorrectable errors. -/
def State.flowValid (s : State) (c : Fin 128) (r : Nat) : Bool :=
  (s.flowWord c r 0).getLsbD 0 &&
    (List.range 64).all fun i => s.eccOf (flowBase (c.val / 8) + 4 * (128 * (c.val % 8) + 64 * r + i)) != 2
/-- GEN of a record. -/
def State.flowGen (s : State) (c : Fin 128) (r : Nat) : Nat := (s.flowWord c r 0).toNat / 256
/-- The active record. -/
def State.activeRecord (s : State) (c : Fin 128) : Option Nat :=
  match s.flowValid c 0, s.flowValid c 1 with
  | true, true =>
    let d := (s.flowGen c 1 + 256 - s.flowGen c 0) % 256
    some (if 0 < d ∧ d < 128 then 1 else 0)
  | true, false => some 0
  | false, true => some 1
  | false, false => none
/-- A word of the Flowstone store of a cell's block written. -/
def State.setFlow (s : State) (c : Fin 128) (r i : Nat) (v : Half) : State :=
  s.modBlock (blockOf c) fun b => { b with flow := smSet b.flow (256 * (c.val % 8) + 128 * r + i) v }

/-- The registers a record holds, from its words (R216), over registers as a start leaves them. -/
def flowCore (w : Nat → Half) : Core :=
  let k := coreReset 0x200
  let word (i : Nat) : Word := (w i).zeroExtend 32
  let r := (List.range 16).foldl (fun (r : Vector Word 32) i => r.set! i (word (2 + i))) k.r
  let r := (List.range 8).foldl (fun (r : Vector Word 32) i =>
    r.set! (16 + i) (BitVec.ofNat 32 ((w (18 + 2 * i)).toNat + 2 ^ 16 * ((w (19 + 2 * i)).toNat % 16)))) r
  let acc := (List.range 4).foldl (fun (a : Vector (BitVec 40) 4) i =>
    a.set! i (BitVec.ofNat 40 ((w (34 + 3 * i)).toNat + 2 ^ 16 * (w (35 + 3 * i)).toNat + 2 ^ 32 * (w (36 + 3 * i)).toNat))) k.acc
  { k with r := r, acc := acc, p := (w 46).truncate 4, lc := #v[w 47, w 48], ls := #v[word 49, word 51], le := #v[word 50, word 52]
           prog := word 53, st := word 54, gb := w 55, ev := w 56, lord := (w 57).getLsbD 0, pc := word 1 &&& 0xFFF }

/-- The words 1 to 57 of a record, as CKPT writes them from the registers (R190, R216). -/
def coreFlow (k : Core) (pc : Nat) (i : Nat) : Half :=
  if i = 1 then BitVec.ofNat 16 (pc % 0x1000)
  else if i < 18 then k.r[i - 2]!.truncate 16
  else if i < 34 then
    let a := k.r[16 + (i - 18) / 2]!.toNat
    BitVec.ofNat 16 (if i % 2 = 0 then a else a / 2 ^ 16 % 16)
  else if i < 46 then
    let a := k.acc[(i - 34) / 3]!.toNat
    BitVec.ofNat 16 (a / 2 ^ (16 * ((i - 34) % 3)))
  else
    match i with
    | 46 => BitVec.ofNat 16 (k.p.toNat / 2 * 2 + 1)
    | 47 => k.lc[0]
    | 48 => k.lc[1]
    | 49 => k.ls[0].truncate 16
    | 50 => k.le[0].truncate 16
    | 51 => k.ls[1].truncate 16
    | 52 => k.le[1].truncate 16
    | 53 => k.prog.truncate 16
    | 54 => k.st.truncate 16
    | 55 => k.gb
    | 56 => k.ev
    | 57 => BitVec.ofNat 16 (b2n k.lord)
    | _ => 0

/-! ## Starting and stopping (R208, R209) -/

/-- A physical cell stopped: nothing waits in it; its write buffer still leaves. -/
def Phys.halt (ph : Phys) : Phys := { ph with wait := .run, latch := none, stage := none, refusal := none, fenceE := false, trapAt := none }

/-- A physical cell with registers as a start clears them, at `pc`. Entries of an earlier run are still in its FIFO (R168) and its
write buffer (R209). -/
def Phys.start (ph : Phys) (k : Core) : Phys := { ph.halt with core := k }

/-- GEN shown for a cell. -/
def State.setGen (s : State) (c : Fin 128) (g : Nat) : State :=
  (s.setFld CELL_STAT c.val CELL_STAT_GEN g).modCell c fun l => { l with clGen := BitVec.ofNat 8 g }

/-- STOP takes effect (R209): a program that runs, with both copies of a twin, or a spare that is held. -/
def State.stopNow (s : State) (c : Fin 128) : State :=
  match s.physOf c with
  | none => s
  | some p =>
    let s1 := ((s.holdCycle c).modPhys p Phys.halt).setPstate p 0 |>.setLstate c 0
    match (vget s.lcell c).twin with
    | some q =>
      let q := Fin.ofNat 128 q
      (((s1.modPhys q fun ph => { ph.halt with wbuf := [] }).setPstate q 0).setLstate (Fin.ofNat 128 (c.val + 1)) 0).modCell c
        fun l => { l with twin := none }
    | none => s1

/-- A write of STOP (R209): held while a START or a migration is in progress. -/
def State.stopCell (s : State) (c : Fin 128) : State :=
  match (vget s.lcell c).work with
  | .start ag e _ => s.modCell c fun l => { l with work := .start ag e true }
  | .migrate f sp so ca si ns ag _ se => s.modCell c fun l => { l with work := .migrate f sp so ca si ns ag true se }
  | .none => if s.lstate c == 1 || s.lstate c == 4 then s.stopNow c else s

/-- A fault is recorded: CAUSE, FLT, BLK_STAT.FAULT and the report that escalates (R218, R35). -/
def State.recordFault (s : State) (c : Fin 128) (cause : Nat) : State :=
  let b := c.val / 8
  let acked := !s.bit BLK_STAT b BLK_STAT_FAULT
  (((s.setFld CELL_STAT c.val CELL_STAT_CAUSE cause).flag CELL_STAT c.val CELL_STAT_FLT).flag BLK_STAT b BLK_STAT_FAULT).report35 1 b acked

/-- A START ends with an uncorrectable error in an image (R208): `q` is the second cell it had loaded. -/
def State.startFails (s : State) (c p : Fin 128) (q : Option (Fin 128)) (a : Nat) : State :=
  let s1 := ((s.refuse (.blockCtl (blockOf c)) stECC 0 a).setPstate p 0).modCell c fun l => { l with work := .none }
  let s2 := match q with
    | some q => (s1.setPstate q 0).setLstate (Fin.ofNat 128 (c.val + 1)) 0
    | none => s1
  (s2.setLstate c 3).recordFault c 7

/-- Steps 4 to 7 of a START (R208). -/
def State.startRuns (s : State) (c p : Fin 128) (entry : Nat) (stop : Bool) : State :=
  let k := { coreReset 0x200 with pc := BitVec.ofNat 32 (entry % 0x1000) }
  let s1 := s.modPhys p (·.start k)
  let s2 := match (vget s1.lcell c).twin with
    | some q =>
      let ph := vget s1.phys p
      s1.modPhys (Fin.ofNat 128 q) fun x => { x.start k with fifo := ph.fifo, wbuf := ph.wbuf }
    | none => s1
  let s3 := s2.modCell c fun l =>
    { l with work := .none, kickAt := s.tick, ckAt := s.tick, cyc := 0, cycAt := s.cellTick, pmc := Vector.replicate 4 0, xvecSh := 0 }
  let s4 := if s.bit CELL_CFG c.val CELL_CFG_FLOW then
      ((s3.setFlow c 0 0 (s3.flowWord c 0 0 &&& 0xFFFE)).setFlow c 1 0 (s3.flowWord c 1 0 &&& 0xFFFE)).setGen c 0xFF
    else s3
  let s5 := (s4.setLstate c 1).setPstate p 1
  if stop then s5.stopNow c else s5

/-- ROLE: 0 NORMAL, 1 SPARE, 2 TWIN (3 as 0). -/
def State.role (s : State) (c : Fin 128) : Nat :=
  if s.fld CELL_CFG c.val CELL_CFG_ROLE = 3 then 0 else s.fld CELL_CFG c.val CELL_CFG_ROLE

/-- Steps 3 to 7 of a START (R208). -/
def State.startRest (s : State) (ag : Agent) (c p : Fin 128) (load : Bool) (entry : Nat) (stop : Bool) : State :=
  let d := Fin.ofNat 128 (c.val + 1)
  match s.role c with
  | 1 => ((s.setPstate p 2).setLstate c 4).modCell c fun l => { l with work := .none }
  | 2 =>
    match s.physOf d with
    | some q =>
      if c.val % 2 = 0 ∧ s.lstate d = 0 ∧ s.role d = 0 ∧ (vget s.lcell d).work = .none then
        let r := if load then s.loadCell c q else (none, s)
        match r.1 with
        | some a => r.2.startFails c p (some q) a
        | none =>
          let s1 := ((r.2.setPstate q 3).setLstate d 5).modCell c fun l => { l with twin := some q.val }
          s1.startRuns c p entry stop
      else ((s.setPstate p 0).modCell c fun l => { l with work := .none }).discard ag CELL_CTRL c.val stBAD_TARGET
    | none => ((s.setPstate p 0).modCell c fun l => { l with work := .none }).discard ag CELL_CTRL c.val stBAD_TARGET
  | _ => s.startRuns c p entry stop

/-- The lowest unmapped IDLE physical cell of a cell's block (R208). -/
def State.idleCell (s : State) (c : Fin 128) : Option (Fin 128) :=
  ((List.range 8).map fun i => Fin.ofNat 128 (c.val / 8 * 8 + i)).find? fun p => s.pstate p == 0 && (s.logOf p).isNone

/-- A write of START (R208). -/
def State.startCell (s : State) (ag : Agent) (c : Fin 128) (load : Bool) (entry : Nat) : State :=
  if (s.lstate c != 0 && s.lstate c != 3) || (vget s.lcell c).work != .none then s
  else
    let here := match s.physOf c with
      | some p => if s.pstate p == 5 then s.idleCell c else some p
      | none => s.idleCell c
    match here with
    | none => s.discard ag CELL_CTRL c.val stBAD_TARGET
    | some p =>
      let s0 := if s.physOf c = some p then s else (s.mapCell c (some p)).modPhys p fun ph => { ph with fifo := [], wbuf := [] }
      let s1 := s0.setFld CELL_CTRL c.val CELL_CTRL_ENTRY entry
      if load then (s1.setPstate p 4).modCell c fun l => { l with work := .start ag entry false }
      else s1.startRest ag c p false entry false

/-- A write of CELL_CTRL (R208, R209). -/
def State.writeCellCtrl (s : State) (ag : Agent) (c : Fin 128) (v : Word) : State :=
  match CELL_CTRL_START.get v, CELL_CTRL_STOP.get v with
  | 1, 1 => s.discard ag CELL_CTRL c.val stBAD_TARGET
  | 1, _ => s.startCell ag c (CELL_CTRL_LOAD.get v == 1) (CELL_CTRL_ENTRY.get v)
  | _, 1 => s.stopCell c
  | _, _ => s

/-- START (R208): a write of CELL_CTRL.START with LOAD and ENTRY. -/
def execStart (ag : Agent) (c : Fin 128) (load : Bool) (entry : BitVec 12) (s : State) : Host.Outcome State Fault Refusal :=
  ok (s.asWrite ag CELL_CTRL c.val fun s =>
    s.writeCellCtrl ag c (BitVec.ofNat 32 (entry.toNat * 2 ^ 16 + 4 * b2n load + 1)))

/-- IMAGE_COPY_DONE (R208). -/
def execImageCopyDone (c : Fin 128) (s : State) : Host.Outcome State Fault Refusal :=
  ok (match (vget s.lcell c).work, s.physOf c with
    | .start ag entry stop, some p =>
      match s.loadCell c p with
      | (some a, t) => t.startFails c p none a
      | (none, t) => t.startRest ag c p true entry stop
    | _, _ => s)

/-- STOP (R209): a write of CELL_CTRL.STOP. -/
def execStop (ag : Agent) (c : Fin 128) (s : State) : Host.Outcome State Fault Refusal :=
  ok (s.asWrite ag CELL_CTRL c.val fun s => s.writeCellCtrl ag c 2)

/-! ## Binding (R210) -/

/-- A write of CELL_BIND (R210). -/
def State.writeCellBind (s : State) (ag : Agent) (c : Fin 128) (v : Word) : State :=
  let r := c.val / 32
  let ch := s.ownerOf 0x01 c.val
  let mine (kind i : Nat) : Bool := ch == 0 || s.ownerOf kind i == ch
  let groups := (List.range 8).all fun g => !bitN (CELL_BIND_PWMG.get v) g || mine 0x02 (8 * r + g)
  let convs := (List.range 4).all fun j => !bitN (CELL_BIND_ADCM.get v) j || (mine 0x03 (4 * r + j) &&
    (List.range 32).all fun d => 32 * r + d == c.val || !bitN (s.fld CELL_BIND (32 * r + d) CELL_BIND_ADCM) j)
  let trk := match CELL_BIND_TRK.get v with
    | 1 => mine 0x0A (2 * r)
    | 2 => mine 0x0A (2 * r + 1)
    | _ => true
  if groups && convs && trk then s.setReg CELL_BIND c.val (v &&& 0xFFFEFF00) else s.discard ag CELL_BIND c.val stPERM

/-- CELL_BIND_WRITE (R210). -/
def execCellBindWrite (ag : Agent) (c : Fin 128) (v : Word) (s : State) : Host.Outcome State Fault Refusal :=
  ok (s.asWrite ag CELL_BIND c.val fun s => s.writeCellBind ag c v)

/-! ## Migration (R219 to R223) -/

/-- The eligible spares of a cell, lowest first: SPARE, in SPMASK, held by a logical cell of the same chamber (R219). -/
def State.spares (s : State) (c : Fin 128) : List (Fin 128 × Fin 128) :=
  ((List.range 8).map fun i => Fin.ofNat 128 (c.val / 8 * 8 + i)).filterMap fun p =>
    match s.logOf p with
    | some l =>
      if s.pstate p == 2 && bitN (s.fld CELL_CFG c.val CELL_CFG_SPMASK) (p.val % 8) && s.ownerOf 0x01 l.val == s.ownerOf 0x01 c.val
      then some (p, l) else none
    | none => none

/-- A physical cell is isolated (R205): writes not issued are discarded, its FIFO with them, counted for `c`. -/
def State.isolate (s : State) (c p : Fin 128) : State :=
  let n := (vget s.phys p).fifo.length
  (((s.modPhys p fun ph => { ph.halt with wbuf := [], fifo := [] }).setPstate p 5)).evDrop c n

/-- The spare is taken from its logical cell for `c`. -/
def State.takeSpare (s : State) (p l : Fin 128) : State :=
  (((s.mapCell l none).setLstate l 0).setPstate p 4).modPhys p fun ph => { ph.halt with fifo := [], wbuf := [] }

/-- BLK_MIGLOG and the flags at the end of a migration (R219, R220). With no spare used or no generation restored, TO or GEN is a
free value. -/
def State.migEnds (s : State) (c : Fin 128) (status cause failed : Nat) (spare gen : Option Nat) (cold : Bool) (since : Nat)
    (ns : Word) : State :=
  let b := c.val / 8
  let open_ := s.free.toNat
  let s := if spare.isSome && gen.isSome then s else s.used
  let spare := spare.getD (open_ / 2 ^ 8)
  let gen := gen.getD open_
  let w := BLK_MIGLOG_CAUSE.put (BLK_MIGLOG_STATUS.put 0 status) cause
  let w := BLK_MIGLOG_LID.put (BLK_MIGLOG_COLD.put w (b2n cold)) (c.val % 8)
  let w := BLK_MIGLOG_GEN.put (BLK_MIGLOG_TO.put (BLK_MIGLOG_FROM.put w (failed % 8)) (spare % 8)) gen
  let s1 := ((s.setReg BLK_MIGLOG b w).setReg BLK_MIGTIME b ns).setReg BLK_MIGDUR b (BitVec.ofNat 32 (s.tick - since))
  ((s1.flag BLK_STAT b BLK_STAT_MIG).flag CELL_STAT c.val CELL_STAT_MIG).modCell c fun l => { l with work := .none }

/-- A migration cannot complete: FAULTED, bound groups OFF (R220). -/
def State.migFails (s : State) (c : Fin 128) (status cause failed : Nat) (spare : Option Nat) (since : Nat) (ns : Word) : State :=
  ((s.setLstate c 3).groupsPattern c false).migEnds c status cause failed spare none false since ns

/-- A migration has rebound a cell ID before an abort's event for it was issued: the event goes on (R123). -/
def State.rebound (s : State) (c : Fin 128) : State :=
  let f (e : GEvent) : GEvent :=
    if e.action = 1 ∧ Fin.ofNat 128 (e.arg 30 24) = c then { e with doomed := false } else e
  s.modGal fun g => { g with events := g.events.map f }

/-- Step 2 of a migration (R219): the spare is chosen, and a second one for a twin (R224). -/
def State.migChoose (s : State) (c : Fin 128) (twin : Bool) (failed cause since : Nat) (ns : Word) (again stop : Bool) : State :=
  match s.spares c with
  | [] => s.migFails c stFULL cause failed none since ns
  | (p, l) :: rest =>
    let s1 := (((s.takeSpare p l).mapCell c (some p)).setLstate c 2).rebound c
    let d := Fin.ofNat 128 (c.val + 1)
    match twin, rest with
    | true, (q, m) :: _ =>
      ((s1.takeSpare q m).mapCell d (some q)).modCell c fun x =>
        { x with twin := none, work := .migrate failed p.val l.val cause since ns again stop (some (q.val, m.val)) }
    | true, [] =>
      ((s1.setLstate d 0).flag CELL_STAT c.val CELL_STAT_TWLOST).modCell c fun x =>
        { x with twin := none, work := .migrate failed p.val l.val cause since ns again stop none }
    | false, _ => s1.modCell c fun x => { x with work := .migrate failed p.val l.val cause since ns again stop none }

/-- Steps 1 and 2 of a migration (R219). -/
def State.migStart (s : State) (c : Fin 128) (cause : Nat) : State :=
  match s.physOf c with
  | none => s
  | some p =>
    let twin := (vget s.lcell c).twin
    let s1 := (s.holdCycle c).isolate c p
    let s2 := match twin with
      | some q => (s1.modPhys (Fin.ofNat 128 q) fun ph => { ph.halt with wbuf := [], fifo := [] }).setPstate (Fin.ofNat 128 q) 5
      | none => s1
    (s2.groupsPattern c (!s.bit CELL_CFG c.val CELL_CFG_MPAT)).migChoose c twin.isSome p.val cause s.tick s.nsLo false false

/-- The action STOP on a fault (R218): isolated, FAULTED, bound groups OFF. -/
def State.faultStop (s : State) (c : Fin 128) : State :=
  match s.physOf c with
  | none => s
  | some p =>
    let s1 := ((s.holdCycle c).modPhys p fun ph => { ph.halt with wbuf := [] }).setPstate p 5
    let s2 := match (vget s.lcell c).twin with
      | some q =>
        let q := Fin.ofNat 128 q
        (((s1.modPhys q fun ph => { ph.halt with wbuf := [] }).setPstate q 5).setLstate (Fin.ofNat 128 (c.val + 1)) 0).modCell c
          fun l => { l with twin := none }
      | none => s1
    (s2.setLstate c 3).groupsPattern c false

/-- A FAULT OF A CELL (R217, R218): recorded, and the action of FACT taken; a fault of the spare during a migration restarts it
once with the next spare (R220). -/
def State.cellFault (s : State) (c : Fin 128) (cause : Nat) : State :=
  match (vget s.lcell c).work with
  | .migrate failed p _ ca since ns again stop second =>
    let s1 := (s.recordFault c cause).setPstate (Fin.ofNat 128 p) 5
    let s2 := match second with
      | some (q, m) => ((s1.setPstate (Fin.ofNat 128 q) 2).mapCell (Fin.ofNat 128 m) (some (Fin.ofNat 128 q))).setLstate (Fin.ofNat 128 m) 4
      | none => s1
    if again then s2.migFails c stFULL ca failed (some p) since ns else s2.migChoose c second.isSome failed ca since ns true stop
  | .start _ _ _ => s
  | .none =>
    if s.lstate c != 1 then s
    else
      let s1 := s.recordFault c cause
      match s.fld CELL_CFG c.val CELL_CFG_FACT with
      | 0 => s1.migStart c cause
      | 2 => if cause = 4 ∨ cause = 5 then s1.modCell c fun l => { l with kickAt := s.tick, ckAt := s.tick } else s1.faultStop c
      | _ => s1.faultStop c

/-- A fault of cause ECC or DTRAP in copy `q` of a twin is masked (R225): the other copy carries on, single. -/
def State.cellMask (s : State) (c q : Fin 128) (cause : Nat) : State :=
  match s.physOf c, (vget s.lcell c).twin with
  | some p, some t =>
    let t := Fin.ofNat 128 t
    let d := Fin.ofNat 128 (c.val + 1)
    let s1 := ((s.recordFault c cause).flag CELL_STAT c.val CELL_STAT_TWLOST).modCell c fun l => { l with twin := none }
    let s2 := (s1.setLstate d 0)
    if q = p then
      let w := (vget s.phys p).wbuf
      ((((s2.modPhys p fun ph => { ph.halt with wbuf := [], fifo := [] }).setPstate p 5).modPhys t fun ph =>
        { ph with wbuf := w }).setPstate t 1 |>.mapCell c (some t)).mapCell d (some p)
    else (s2.modPhys t fun ph => { ph.halt with wbuf := [], fifo := [] }).setPstate t 5
  | _, _ => s

/-- An uncorrectable error in the program or operand RAM of a physical cell that runs (R217, cause ECC). -/
def State.cellEcc (s : State) (q : Fin 128) : State :=
  match s.logOf q with
  | none => s
  | some l =>
    if s.lstate l == 5 then s.cellMask (Fin.ofNat 128 (l.val - 1)) q 1
    else if (vget s.lcell l).twin.isSome then s.cellMask l q 1
    else s.cellFault l 1

/-- The operand-RAM words of a record are put back (R219, step 4). -/
def State.restoreData (s : State) (c p : Fin 128) (r : Nat) : State :=
  let n := (s.flowWord c r 0).toNat / 4 % 64
  let a := (s.flowWord c r 58).toNat % 0x1000
  (List.range n).foldl (fun s i =>
    let w := cellWin p.val + 0x4000 + 2 * ((a + i) % 0x1000)
    (s.eccClear w).poke16 w (s.flowWord c r (64 + i))) s

/-- A physical cell resumes a program from record `r`, or from ENTRY without one (R219, R220). -/
def State.resumeOn (s : State) (c p : Fin 128) (r : Option Nat) : State :=
  match r with
  | some r =>
    let k := { flowCore (s.flowWord c r) with xvec := (vget s.lcell c).xvecSh }
    (s.restoreData c p r).modPhys p fun ph =>
      { ph with core := k, wait := .run, trapAt := if k.stb 13 then some s.tick else none }
  | none =>
    s.modPhys p fun ph =>
      { ph with core := { coreReset 0x200 with pc := BitVec.ofNat 32 (s.fld CELL_CTRL c.val CELL_CTRL_ENTRY) }, wait := .run }

/-- MIGRATION_COMPLETE: steps 3 to 5 of a migration (R219), and its ends (R220). -/
def execMigrationComplete (c : Fin 128) (s : State) : Host.Outcome State Fault Refusal :=
  ok (match (vget s.lcell c).work with
    | .migrate failed p po cause since ns _ stop second =>
      let p := Fin.ofNat 128 p
      let r1 := s.loadCell c p
      let r2 := match second with
        | some (q, _) => if r1.1.isNone then r1.2.loadCell c (Fin.ofNat 128 q) else r1
        | none => r1
      match r2.1 with
      | some a =>
        let back (s : State) (p l : Fin 128) : State := ((s.setPstate p 2).mapCell l (some p)).setLstate l 4
        let s1 := back ((r2.2.refuse (.blockCtl (blockOf c)) stECC 0 a).mapCell c none) p (Fin.ofNat 128 po)
        let s2 := match second with
          | some (q, m) => back (s1.mapCell (Fin.ofNat 128 (c.val + 1)) none) (Fin.ofNat 128 q) (Fin.ofNat 128 m)
          | none => s1
        s2.migFails c stECC cause failed (some p.val) since ns
      | none =>
        let s0 := r2.2
        let rec_ := if s0.bit CELL_CFG c.val CELL_CFG_FLOW then s0.activeRecord c else none
        let s1 := s0.resumeOn c p rec_
        let d := Fin.ofNat 128 (c.val + 1)
        let s2 := match second with
          | some (q, _) =>
            let q := Fin.ofNat 128 q
            (((s1.resumeOn c q rec_).setPstate q 3).setLstate d 5).modCell c fun l => { l with twin := some q.val }
          | none => s1
        let gen := rec_.map fun r => s0.flowGen c r
        let cold := rec_.isNone
        let s3 := (match gen with
            | some g => s2.setGen c g
            | none => s2).modCell c fun l =>
          { l with clMig := true, clCold := l.clCold || cold, kickAt := s.tick, ckAt := s.tick, cyc := 0, cycAt := s.cellTick
                   pmc := Vector.replicate 4 0, xvecSh := if cold then 0 else l.xvecSh }
        let s4 := if cold then s3.flag CELL_STAT c.val CELL_STAT_COLD else s3
        let s5 := ((s4.setPstate p 1).setLstate c 1).migEnds c stOK cause failed (some p.val) gen cold since ns
        if stop then s5.stopNow c else s5
    | _ => s)

/-- MIGRATION_HOLD_TIMEOUT (R221): no commit within HOLDT × 8 µs of step 2. -/
def execMigrationHoldTimeout (g : Fin 32) (s : State) : Host.Outcome State Fault Refusal :=
  ok (match (s.pg g).mig with
    | some (c, true, t) =>
      if t + max 1 (s.fld CELL_CFG c CELL_CFG_HOLDT) * 5120 ≤ s.tick then s.migGroup g c false else s
    | _ => s)

/-- BLK_CTRL.RELEASE (R205): isolated physical cells become IDLE and unmapped. -/
def State.writeRelease (s : State) (b : Fin 16) (mask : Nat) : State :=
  ((List.range 8).map fun i => Fin.ofNat 128 (8 * b.val + i)).foldl (fun s p =>
    if bitN mask (p.val % 8) && s.pstate p == 5 then
      let s1 := s.setPstate p 0
      match s1.logOf p with
      | some c => s1.mapCell c none
      | none => s1
    else s) s

/-- RELEASE_PHYSICAL (R205): a write of BLK_CTRL. -/
def execReleasePhysical (ag : Agent) (b : Fin 16) (mask : Byte) (s : State) : Host.Outcome State Fault Refusal :=
  ok (s.asWrite ag BLK_CTRL b.val fun s => s.writeRelease b mask.toNat)

/-! ## Watchdogs (R217) -/

/-- KICK (R217): a write of 1 to CL_KICK by the cell. -/
def State.kick (s : State) (c : Fin 128) : State := s.modCell c fun l => { l with kickAt := s.tick }

/-- KICK (R217). -/
def execKick (c : Fin 128) (s : State) : Host.Outcome State Fault Refusal :=
  ok (if s.lstate c == 1 then s.kick c else s)

/-- TRAPESC (R217): no ERET within 640 cycles of trap entry. -/
def execTrapesc (c : Fin 128) (s : State) : Host.Outcome State Fault Refusal :=
  ok (match s.physOf c with
    | some p =>
      match (vget s.phys p).trapAt with
      | some t => if s.lstate c == 1 && decide (t + 640 ≤ s.tick) then s.cellFault c 3 else s
      | none => s
    | none => s)

/-- WDT (R217): CL_KICK not written for WDT µs. -/
def execWdt (c : Fin 128) (s : State) : Host.Outcome State Fault Refusal :=
  ok (let n := s.fld CELL_WDT c.val CELL_WDT_WDT
    if s.lstate c == 1 && n != 0 && decide ((vget s.lcell c).kickAt + 640 * n ≤ s.tick) then s.cellFault c 4 else s)

/-- CKAGE (R217): no successful CKPT for CKMAX µs. -/
def execCkage (c : Fin 128) (s : State) : Host.Outcome State Fault Refusal :=
  ok (let n := s.fld CELL_WDT c.val CELL_WDT_CKMAX
    if s.lstate c == 1 && n != 0 && decide ((vget s.lcell c).ckAt + 640 * n ≤ s.tick) then s.cellFault c 5 else s)

/-- PMC_OVERFLOW_ENTRY (R229): the entry of the lowest counter that has wrapped enters the FIFO. -/
def execPmcOverflowEntry (c : Fin 128) (s : State) : Host.Outcome State Fault Refusal :=
  ok (let l := vget s.lcell c
    match (List.range 4).find? fun k => l.pmPend.getLsbD k with
    | none => s
    | some k =>
      match s.pushFifo c { vec := l.pmstat.toNat / 2 ^ 16 % 16, payload := BitVec.ofNat 16 k, ring := none } with
      | some t => t.modCell c fun l => { l with pmPend := l.pmPend &&& ~~~(1#4 <<< k) }
      | none => s)

/-! ## Aborts of cells (R223, R471) -/

/-- FAB_ABORT of a logical cell: it stops at once, nothing it had not issued leaves, and a migration ends. -/
def State.abortCell (s : State) (c : Fin 128) : State :=
  let clear (s : State) (p : Fin 128) (v : Nat) : State :=
    ((s.modPhys p fun ph => { ph.halt with wbuf := [], fifo := [] }).setPstate p v)
  let s0 := (s.boundGroups c).foldl (fun s g => s.abortGroup g) s
  match (vget s.lcell c).work, s.physOf c with
  | .migrate _ p po _ _ _ _ _ second, _ =>
    let n := (vget s.phys (Fin.ofNat 128 p)).fifo.length
    let back (s : State) (p l : Nat) : State :=
      ((clear s (Fin.ofNat 128 p) 2).mapCell (Fin.ofNat 128 l) (some (Fin.ofNat 128 p))).setLstate (Fin.ofNat 128 l) 4
    let s1 := back ((s0.evDrop c n).mapCell c none) p po
    let s2 := match second with
      | some (q, m) => back (s1.mapCell (Fin.ofNat 128 (c.val + 1)) none) q m
      | none => s1
    (s2.setLstate c 0).modCell c fun l => { l with work := .none }
  | _, none => s0
  | w, some p =>
    let twin := (vget s.lcell c).twin
    if s.lstate c == 1 || w != .none then
      let n := (vget s.phys p).fifo.length
      let s1 := (((clear (s0.holdCycle c) p 0).evDrop c n).setLstate c 0).modCell c fun l => { l with work := .none, twin := none }
      match twin with
      | some q => (clear s1 (Fin.ofNat 128 q) 0).setLstate (Fin.ofNat 128 (c.val + 1)) 0
      | none => s1
    else s0

end Sys2Proof.Machine
end

