-- ==== Sys2Proof/Machine/Thermal.lean ====
section
/-! DEFINITION. Die temperature and the core budget (R535 to R545) and the Lantern (R546 to R552). -/

namespace Sys2Proof.Machine

/-! ## Die sensors (R535 to R537) -/

/-- The neighbours of a sensor (R535). -/
def dieNeighbours (k : Nat) : List Nat :=
  if k < 16 then ((List.range 4).map fun b => k / 4 * 4 + b).filter (· != k) ++ [16 + k / 4]
  else if k < 20 then (List.range 4).map fun b => 4 * (k - 16) + b
  else [20, 21, 22, 23].filter (· != k)

/-- Values in ascending order. -/
def insSorted (x : Int) : List Int → List Int
  | [] => [x]
  | y :: l => if x ≤ y then x :: y :: l else y :: insSorted x l

/-- The median of two to four values (R536). -/
def medianOf (l : List Int) : Option Int :=
  match l.foldr insSorted [] with
  | [a, b] => some ((a + b) / 2)
  | [_, b, _] => some b
  | [_, b, c, _] => some ((b + c) / 2)
  | _ => none

/-- A sensor is ignored. -/
def State.dieBad (s : State) (k : Nat) : Bool := s.bit THERM_S k THERM_S_BAD

/-- Every sensor is judged against its usable neighbours, as BAD stood at the start of the round (R536). -/
def State.judgeSensors (s0 s : State) (t : Nat → Int) : State :=
  (List.finRange 24).foldl (fun s k =>
    if s0.dieBad k.val then s
    else
      let off := match medianOf (((dieNeighbours k.val).filter fun j => !s0.dieBad j).map t) with
        | some m => decide (128 < (t k.val - m).natAbs)
        | none => false
      let n := if off then vget s.therm.dis k + 1 else 0
      let s1 := { s with therm := { s.therm with dis := vset s.therm.dis k (if n = 3 then 0 else n) } }
      if n = 3 then s1.flag THERM_S k.val THERM_S_BAD else s1) s

/-- A threshold after a round (R537). -/
def Thr.round (x : Thr) (above below : Bool) : Thr :=
  if (if x.on then below else above) then
    if x.run + 1 = 3 then { on := !x.on, run := 0 } else { x with run := x.run + 1 }
  else { x with run := 0 }

/-- The threshold `i` in °C: TWARN, TSTOP, 155 °C, TRIM1 to TRIM7 (R539, R543). -/
def State.dieThr (s : State) (i : Nat) : Nat :=
  match i with
  | 0 => s.fld THERM_THR 0 THERM_THR_TWARN
  | 1 => min 150 (s.fld THERM_THR 0 THERM_THR_TSTOP)
  | 2 => 155
  | _ => if i < 7 then s.fld THERM_RIMLO 0 (fldAt 8 (i - 3)) else s.fld THERM_RIMHI 0 (fldAt 8 (i - 7))

/-- The die sensors in use. -/
def State.dieUsable (s : State) : List Nat := (List.range 24).filter fun k => !s.dieBad k

/-- The sensor that sets TDIE: the lowest-numbered of the highest readings. -/
def State.dieHot (s : State) (t : Nat → Int) : Option Nat :=
  s.dieUsable.foldl (fun (b : Option Nat) k =>
    match b with
    | none => some k
    | some a => if t a < t k then some k else some a) none

/-! ## Reactions (R538 to R542) -/

/-- The device halts (R540): cells stop, region columns are held in reset, Drip stops. -/
def State.thermHalt (s : State) : State :=
  let s1 := (List.finRange 128).foldl (fun s c => s.stopCell c) s
  let s2 := ([0, 1, 2, 3] : List (Fin 6)).foldl (fun s i => s.modSproc i fun q => { q with inReset := true }) s1
  s2.setBit THERM_STAT 0 THERM_STAT_HALT true

/-- The die-overtemperature line orders the decision of R401 for every axis, and stays asserted (R539, R541, R542). -/
def State.dieDecision (s : State) (unit : Nat) : State :=
  ((s.gCause 18 unit true).groupOrder s.axesUsed 18 unit none).setBit THERM_STAT 0 THERM_STAT_LATCH true

/-- The orderly stop in service (R539): an SS1 demand on every axis in use. -/
def State.dieSs1 (s : State) (unit : Nat) : State :=
  let s1 := s.axesUsed.foldl (fun s x => s.modAx x fun a => { a with mbSs1 := true }) s
  (s1.allDemands.setBit THERM_STAT 0 THERM_STAT_STOPREQ true).gLog 18 actReport unit none

/-- TSTOP out of service (R539): an STO demand on every axis, halt, LATCH. -/
def State.dieSto (s : State) (unit : Nat) : State :=
  let s1 := s.axesUsed.foldl (fun s x => s.modAx x fun a => { a with mbSto := true }) s
  ((s1.allDemands.setBit THERM_STAT 0 THERM_STAT_LATCH true).gLog 18 actSto unit none).thermHalt

/-- What the thresholds order after a round; `hot` is the sensor that set TDIE (R539). -/
def State.dieReact (s : State) (was155 : Bool) (hot : Nat) : State :=
  let on (i : Fin 10) : Bool := (vget s.therm.thr i).on
  let done (s : State) : Bool := s.bit THERM_STAT 0 THERM_STAT_LATCH && s.bit THERM_STAT 0 THERM_STAT_HALT
  let s1 := if on 0 then s.flag THERM_STAT 0 THERM_STAT_WARN else s
  let s2 :=
    if !on 1 then s1
    else if s1.bit THERM_CTRL 0 THERM_CTRL_SERVICE then
      (if s1.bit THERM_STAT 0 THERM_STAT_STOPREQ then s1 else s1.dieSs1 hot)
    else if done s1 then s1 else s1.dieSto hot
  if on 2 && !was155 then (s2.dieDecision hot).thermHalt else s2

/-- The die step after a round (R543): it rises to the thresholds reached, and falls one place at a time. -/
def State.dieStep (s : State) : State :=
  let n := (((List.finRange 10).drop 3).filter fun i => (vget s.therm.thr i).on).length
  let old := s.fld THERM_STAT 0 THERM_STAT_STEP
  let new := if old < n then n else if n < old then old - 1 else old
  if new = old then s else (s.setFld THERM_STAT 0 THERM_STAT_STEP new).flag THERM_STAT 0 THERM_STAT_STEPEV

/-- SENSOR_ROUND (R536): a round of readings in 1/16 °C. -/
def execSensorRound (t : Vector Half 24) (s : State) : Host.Outcome State Fault Refusal :=
  ok (if !s.fabricOn then s
    else
      let f (k : Nat) : Int := sx 16 (vget t (Fin.ofNat 24 k)).toNat
      let s1 := (List.finRange 24).foldl (fun s k =>
        (s.setBit THERM_S k.val THERM_S_VALID true).setFld THERM_S k.val THERM_S_T (vget t k).toNat) s
      let s2 := s.judgeSensors s1 f
      let few := decide (s2.dieUsable.length < 12)
      let hot := s2.dieHot f
      let (s3, tdie) : State × Int := match hot with
        | some k => (s2, f k)
        | none => (s2.used, sx 16 s2.free.toNat)
      let s4 := (if few then s3.flag THERM_STAT 0 THERM_STAT_FEWSENS else s3).setFld THERM_STAT 0 THERM_STAT_TDIE (pat 16 tdie)
      let hys := s4.fld THERM_THR 0 THERM_THR_HYS
      let was := (vget s4.therm.thr 2).on
      let step (i : Fin 10) (x : Thr) : Thr :=
        let c := s4.dieThr i.val
        let forced := few && decide (i.val < 2 ∧ c ≤ s4.dieThr 1)
        x.round (forced || decide ((16 * c : Nat) ≤ tdie)) (!forced && decide (tdie < 16 * ((c : Int) - hys)))
      let s5 := { s4 with therm := { s4.therm with thr := Vector.ofFn fun i => step i (vget s4.therm.thr i) } }
      (s5.dieReact was (hot.getD 0)).dieStep)

/-- HALT (R540): an orderly stop has brought every axis to STO. -/
def execHalt (s : State) : Host.Outcome State Fault Refusal :=
  ok (if s.fabricOn && s.bit THERM_STAT 0 THERM_STAT_STOPREQ && !s.bit THERM_STAT 0 THERM_STAT_HALT &&
        s.axesUsed.all fun x => s.axOut x == 1 then s.thermHalt
      else s)

/-- THERM_CTRL written (R538, R541): by chamber 0; 1 is discarded while LATCH is set or COLH is down. -/
def State.writeService (s : State) (ag : Agent) (v : Word) : State :=
  if chamberOf s ag ≠ 0 then s.discard ag THERM_CTRL 0 stPERM
  else
    let down := s.bit SYSCTL_COLCTL 4 SYSCTL_COLCTL_HALTED || s.bit SYSCTL_COLCTL 4 SYSCTL_COLCTL_STOPPED
    if THERM_CTRL_SERVICE.get v = 1 && (s.bit THERM_STAT 0 THERM_STAT_LATCH || down) then s
    else s.setFld THERM_CTRL 0 THERM_CTRL_SERVICE (THERM_CTRL_SERVICE.get v)

/-- SERVICE_WRITE (R538). -/
def execServiceWrite (ag : Agent) (v : Word) (s : State) : Host.Outcome State Fault Refusal :=
  ok (s.asWrite ag THERM_CTRL 0 fun s => s.writeService ag v)

/-- The Grotto reads its own two sensors, in 1/16 °C (R542). -/
def State.grottoTemp (s : State) (t0 t1 : Half) : State :=
  let t (k : Fin 2) : Int := sx 16 (if k = 0 then t0 else t1).toNat
  let s1 := s.setReg GRT_TEMP 0 (t1 ++ t0)
  let up (n : Nat) (b : Bool) : Nat := if b then n + 1 else 0
  let g := Vector.ofFn fun k => up (vget s.therm.gov k) (decide (155 * 16 ≤ t k))
  let d := up s.therm.gdis (decide (128 < (t 0 - t 1).natAbs))
  let s2 := { s1 with therm := { s1.therm with gov := g, gdis := d } }
  let s3 := if d = 3 then s2.gLog 18 actReport 24 none else s2
  if vget g 0 = 3 then s3.dieDecision 24 else if vget g 1 = 3 then s3.dieDecision 25 else s3

/-! ## The core current (R544) -/

/-- The temperatures of the leakage points in 1/16 °C. -/
def leakAt : List Int := [-640, 0, 400, 800, 1200, 1600, 2000, 2400]

/-- A value between two points (R548): `x` at `a` gives `ya`, at `b` `yb`. -/
def lerp (x a b ya yb : Int) : Int := ya + (yb - ya) * ((x - a) * 65536 / (b - a)) / 65536

/-- The value at `x` of a curve through points with ascending abscissae: flat beyond them. -/
def curve (x : Int) : List (Int × Int) → Int
  | [] => 0
  | [(_, y)] => y
  | (a, ya) :: (b, yb) :: l => if x ≤ a then ya else if x < b then lerp x a b ya yb else curve x ((b, yb) :: l)

/-- LEAK at a temperature (R544). -/
def State.leak (s : State) (t : Int) : Int :=
  curve t (((List.range 8).map fun k => (leakAt.getD k 0, (s.fld THERM_LEAK k THERM_LEAK_VALUE : Int))))

/-- CURRENT_ESTIMATE (R544): the counts of the window just ended. -/
def execCurrentEstimate (c q d : Nat) (s : State) : Host.Outcome State Fault Refusal :=
  ok (if !s.fabricOn then s
    else
      let k (F : Fld) : Nat := s.fld THERM_KCOEF 0 F
      let i : Int := s.leak (s.sfld THERM_STAT 0 THERM_STAT_TDIE) + (c * k THERM_KCOEF_KCELL / 64000 : Nat) +
        (q * k THERM_KCOEF_KCOL / 25600 : Nat) + (d * k THERM_KCOEF_KDRIP / 6400 : Nat)
      let bud := s.fld THERM_BUD (s.fld THERM_STAT 0 THERM_STAT_STEP) THERM_BUD_VALUE
      let l := s.fld THERM_STAT 0 THERM_STAT_TLVL
      let under := s.therm.under + 1
      let (l', u') : Nat × Nat :=
        if (bud : Int) < i then (min 3 (l + 1), 0)
        else if i < bud - k THERM_KCOEF_IHYS then (if under = 100 then (l - 1, 0) else (l, under))
        else (l, 0)
      let overs := if l' = 3 && decide ((bud : Int) < i) then min 100 (s.therm.overs + 1) else 0
      let (s0, est) : State × Nat := if i < 65536 then (s, i.toNat) else (s.used, s.free.toNat)
      let s1 := ({ s0 with therm := { s0.therm with under := u', overs := overs } }.setFld THERM_EST 0 THERM_EST_I est).setFld
        THERM_STAT 0 THERM_STAT_TLVL l'
      if overs = 100 then s1.flag THERM_STAT 0 THERM_STAT_BUDOVR else s1)

/-! ## The Lantern (R546 to R551) -/

/-- A Lantern changed. -/
def State.modLan (s : State) (r : Fin 4) (f : Lantern → Lantern) : State := { s with lan := vset s.lan r (f (vget s.lan r)) }

/-- The loss tables of region `r` lie in its memory (R548). -/
def State.lanTable (s : State) (r : Nat) : Option Nat :=
  let off := 256 * s.fld LAN_TBASE r LAN_TBASE_BASE
  if off + 0xA84 ≤ 0x200000 then some (0x20000000 + r * 0x04000000 + off) else none

/-- A word of a table. -/
def State.lanWord (s : State) (base off : Nat) : Int := (memWord s.mem (base + off)).toNat

/-- A value at current `a` between the points of a row (R548). -/
def State.lanCur (s : State) (base row : Nat) (a : Nat) : Int :=
  let k := a / 2048
  let y := s.lanWord base (row + 4 * k)
  if 15 ≤ k then y else y + (s.lanWord base (row + 4 * (k + 1)) - y) * (a % 2048 : Nat) / 2048

/-- The temperature points in 1/16 °C, and the voltage points in V. -/
def State.lanT (s : State) (r k : Nat) : Int := 16 * s.fld LAN_TGRID r (fldAt 8 k)
/-- The voltage points in V. -/
def State.lanV (s : State) (r k : Nat) : Int := 10 * s.fld LAN_VGRID r (fldAt 8 k)

/-- E of device kind `d` in µJ (R548). -/
def State.lanE (s : State) (r base d a : Nat) (v t : Int) : Int :=
  curve v ((List.range 4).map fun kv => (s.lanV r kv, curve t ((List.range 4).map fun kt =>
    (s.lanT r kt, s.lanCur base (0x100 * (4 * d + kv) + 0x40 * kt) a))))

/-- Pc of device kind `d` in mW (R548). -/
def State.lanPc (s : State) (r base d a : Nat) (t : Int) : Int :=
  curve t ((List.range 4).map fun kt => (s.lanT r kt, s.lanCur base (0x800 + 0x40 * (4 * d + kt)) a))

/-- Tj of device `dev` of leg `l` (SH, DH, SL, DL). -/
def State.lanTj (s : State) (r l dev : Nat) : Int :=
  let f := if dev < 2 then LAN_TJA else LAN_TJB
  s.sfld f (12 * r + l) (if dev % 2 = 0 then ⟨31, 16⟩ else ⟨15, 0⟩)

/-- The leg current (R546). -/
def State.lanI (s : State) (r l : Nat) : Int :=
  let w := s.reg LAN_LCFG (12 * r + l)
  if LAN_LCFG_ISRC.get w = 0 then s.sfld LAN_I (12 * r + l) LAN_I_I
  else
    let a := vget s.adc (Fin.ofNat 16 (4 * r + LAN_LCFG_ADC.get w))
    if h : LAN_LCFG_CH.get w < 6 then sx 16 (vget a.latS ⟨_, h⟩).toNat else 0

/-- The link voltage (R546). -/
def State.lanVolt (s : State) (r : Nat) : Int :=
  let a := vget s.adc (Fin.ofNat 16 (4 * r + s.fld LAN_CFG r LAN_CFG_VADC))
  if h : s.fld LAN_CFG r LAN_CFG_VCH < 6 then (vget a.latU ⟨_, h⟩).toNat * s.fld LAN_SCALE r LAN_SCALE_VFS / 65536 else 0

/-- The window of an output: on-time and edges. -/
def State.lanWin (s : State) (r : Fin 4) (l side : Nat) : LanIn :=
  smGet { ton := 0, edges := 0, last := false } (vget s.lan r).win (2 * l + side)

/-- The losses of the four devices of a leg in mW (R547). -/
def State.lanLoss (s : State) (r : Fin 4) (base l : Nat) : List Int :=
  let i := s.lanI r l
  let a := min i.natAbs 32767
  let v := s.lanVolt r
  let h := s.lanWin r l 0
  let w := s.lanWin r l 1
  let pc (d dev : Nat) (ton : Int) : Int := s.lanPc r base d a (s.lanTj r l dev) * ton / 6400
  let e (d dev n : Nat) : Int := 100 * s.lanE r base d a v (s.lanTj r l dev) * n
  if 0 ≤ i then [pc 0 0 h.ton + e 0 0 h.edges, 0, 0, pc 1 3 (6400 - h.ton) + e 1 3 h.edges]
  else [0, pc 1 1 (6400 - w.ton) + e 1 1 w.edges, pc 0 2 w.ton + e 0 2 w.edges, 0]

/-- Tref of a leg (R550): its last fresh value, and whether it is fresh now. -/
def State.lanRef (s : State) (r : Fin 4) (base l : Nat) : Int × Bool :=
  let w := s.reg LAN_LCFG (12 * r.val + l)
  let g := LAN_LCFG_NGDL.get w
  let k := LAN_LCFG_NPOLL.get w
  let j := 12 * r.val + g
  let tel := s.reg GDL_TEL (8 * j + k)
  let age := match vget (s.gl (Fin.ofNat 48 j)).telAt (Fin.ofNat 8 k) with
    | some t => min 0x3FFF ((s.tick - t) / 640)
    | none => 0x3FFF
  let data := GDL_TEL_DATA.get tel
  let fresh := decide (g < 12) && GDL_TEL_VALID.get tel == 1 && decide (age ≤ s.fld LAN_NTC r.val LAN_NTC_NTCAGE) && data != 0xFFFF
  if fresh then
    let c := data % 4096
    let y (j : Nat) : Int := sx 16 (s.lanWord base (0xA00 + 4 * j)).toNat
    (lerp (c % 128 : Nat) 0 128 (y (c / 128)) (y (c / 128 + 1)), true)
  else (smGet (s.sfld LAN_NTC r.val LAN_NTC_TREFDEF) (vget s.lan r).tref l, false)

/-- One Foster term after a step (R549): a value that leaves its 48 bits is not stated. -/
def State.lanTerm (s : State) (r : Fin 4) (l dev : Nat) (p : Int) (k : Nat) : State × Int :=
  let w := if dev % 2 = 0 then s.reg LAN_FS (4 * r.val + k) else s.reg LAN_FD (4 * r.val + k)
  let th := smGet 0 (vget s.lan r).theta (16 * l + 4 * dev + k)
  let tgt := p * LAN_FS_R.get w * 65536 / 1000
  let x := th + (tgt - th) * LAN_FS_A.get w / 2 ^ (16 + LAN_FS_ASH.get w)
  if oflow 48 x then (s.used, sx 48 s.free.toNat) else (s, x)

/-- One device of a leg steps (R549): its Tj is returned. -/
def State.lanDevice (s : State) (r : Fin 4) (l dev : Nat) (p tref : Int) : State × Int :=
  let step (acc : State × Int) (k : Nat) : State × Int :=
    let (s1, x) := acc.1.lanTerm r l dev p k
    (s1.modLan r fun n => { n with theta := smSet n.theta (16 * l + 4 * dev + k) x }, acc.2 + x)
  let (s1, sum) := (List.range 4).foldl step (s, 0)
  let tj := tref + sum / 2 ^ 28
  if oflow 16 tj then (s1.used, sx 16 s1.free.toNat) else (s1, tj)

/-- The event of a Lantern (R552). -/
def State.lanEvent (s : State) (r : Fin 4) (q code t : Nat) : State :=
  let w := s.reg LAN_EVT r.val
  if LAN_EVT_NEV.get w = 1 then
    s.notifyCell (Fin.ofNat 128 (32 * r.val + LAN_EVT_CELL.get w)) (LAN_EVT_VEC.get w) (code * 2 ^ 12 + q * 2 ^ 10 + t)
  else s

/-- One enabled leg steps; the estimates of the previous step count throughout (R546). -/
def State.lanLeg (s : State) (r : Fin 4) (base l : Nat) : State :=
  let ps := s.lanLoss r base l
  let ref := s.lanRef r base l
  let q := 4 * r.val + l / 3
  let s1 :=
    if ref.2 then s.modLan r fun n => { n with tref := smSet n.tref l ref.1 }
    else
      let ev := !s.bit LAN_BSTAT q LAN_BSTAT_NTCSTALE
      let s' := s.flag LAN_BSTAT q LAN_BSTAT_NTCSTALE
      if ev then s'.lanEvent r (l / 3) 4 (s.fld LAN_BSTAT q LAN_BSTAT_STEP) else s'
  let d0 := s1.lanDevice r l 0 (ps.getD 0 0) ref.1
  let d1 := d0.1.lanDevice r l 1 (ps.getD 1 0) ref.1
  let d2 := d1.1.lanDevice r l 2 (ps.getD 2 0) ref.1
  let d3 := d2.1.lanDevice r l 3 (ps.getD 3 0) ref.1
  (d3.1.setReg LAN_TJA (12 * r.val + l) (BitVec.ofNat 32 (pat 16 d0.2 * 65536 + pat 16 d1.2))).setReg LAN_TJB (12 * r.val + l)
    (BitVec.ofNat 32 (pat 16 d2.2 * 65536 + pat 16 d3.2))

/-- The thresholds of the bridge steps in 1/16 °C, TH1 first. -/
def State.lanTh (s : State) (r i : Nat) : Int :=
  16 * (if i < 4 then s.fld LAN_RTHLO r (fldAt 8 i) else s.fld LAN_RTHHI r (fldAt 8 (i - 4)))

/-- Legs of bridge `q` of a region that are evaluated. -/
def State.lanLegs (s : State) (r q : Nat) : List Nat :=
  ((List.range 3).map fun p => 3 * q + p).filter fun l => s.bit LAN_LCFG (12 * r + l) LAN_LCFG_EN

/-- The limit of bridge `q` in force at step `n` (R551). -/
def State.lanLimit (s : State) (r : Fin 4) (q n : Nat) : State :=
  s.setFld LAN_BLIM (4 * r.val + q) LAN_BLIM_LIM
    (if s.bit LAN_CFG r.val LAN_CFG_RIMEN then s.fld LAN_RLIM (8 * r.val + n) LAN_RLIM_LIM else 0x7FFF)

/-- The step, limit and weight of a bridge (R551, R552). -/
def State.lanBridge (s : State) (r : Fin 4) (q : Nat) : State :=
  match (s.lanLegs r q).flatMap fun l => (List.range 4).map fun d => s.lanTj r l d with
  | [] => s.lanLimit r q (s.fld LAN_BSTAT (4 * r.val + q) LAN_BSTAT_STEP)
  | t0 :: ts =>
    let tj := ts.foldl max t0
    let i := 4 * r.val + q
    let old := s.fld LAN_BSTAT i LAN_BSTAT_STEP
    let n := ((List.range 7).filter fun j => decide (s.lanTh r j ≤ tj)).length
    let rhys : Int := 16 * s.fld LAN_RTHHI r LAN_RTHHI_RHYS
    let new := if old < n then n else if 0 < old ∧ tj < s.lanTh r (old - 1) - rhys then old - 1 else old
    let ot : Int := 16 * s.fld LAN_EVT r LAN_EVT_TJOT
    let hspan := max 1 (s.fld LAN_EVT r LAN_EVT_HSPAN)
    let w := clampI ((s.lanTh r 6 - tj) * 16 / (hspan : Nat)) 1 255
    let was := s.sfld LAN_BSTAT i LAN_BSTAT_TJMAX
    let s1 := ((s.setFld LAN_BSTAT i LAN_BSTAT_TJMAX (pat 16 tj)).setFld LAN_BSTAT i LAN_BSTAT_W w.toNat).setFld LAN_BSTAT i
      LAN_BSTAT_STEP new
    let s2 := s1.lanLimit r q new
    let s3 := if new = old then s2
      else (s2.flag LAN_BSTAT i LAN_BSTAT_STEPEV).lanEvent r q (if old < new then 1 else 2) new
    if ot ≤ tj then
      let s4 := s3.flag LAN_BSTAT i LAN_BSTAT_OT
      if was < ot then s4.lanEvent r q 3 new else s4
    else s3

/-- The window of every output begins anew. -/
def State.lanFresh (s : State) (r : Fin 4) : State :=
  s.modLan r fun n => { n with win := n.win.map fun e => (e.1, { e.2 with ton := 0, edges := 0 }) }

/-- LANTERN_STEP (R546): every 10 tracker updates. -/
def execLanternStep (r : Fin 4) (s : State) : Host.Outcome State Fault Refusal :=
  ok (if !s.fabricOn || !s.bit LAN_CFG r.val LAN_CFG_EN then s
    else
      match s.lanTable r with
      | none => s.flag LAN_CFG r.val LAN_CFG_BADTAB
      | some base =>
        let legs := (List.range 12).filter fun l => s.bit LAN_LCFG (12 * r.val + l) LAN_LCFG_EN
        let s1 := legs.foldl (fun s l => s.lanLeg r base l) s
        (forN 4 s1 fun q s => s.lanBridge r q).lanFresh r)

/-- One fabric tick of the windows of a region: on-time and turn-on edges at stage 7 of R266. -/
def State.lanTick (s : State) (r : Fin 4) : State :=
  if !s.bit LAN_CFG r.val LAN_CFG_EN then s
  else
    forN 24 s fun j s =>
      let l := j / 2
      let i : Fin 6 := Fin.ofNat 6 (2 * (l % 3) + j % 2)
      let on := (vget (s.br (Fin.ofNat 16 (4 * r.val + l / 3))).outs i).gate
      let w := s.lanWin r l (j % 2)
      if !on && !w.last then s
      else
        let w' : LanIn := { ton := w.ton + b2n on, edges := w.edges + b2n (on && !w.last), last := on }
        s.modLan r fun n => { n with win := smSet n.win j w' }

/-- A FAB_ABORT whose target owns the Lantern (R554). -/
def State.lanAbort (s : State) (r : Nat) : State := (s.setReg LAN_EVT r 0).setBit LAN_IRQ r LAN_IRQ_EN false

end Sys2Proof.Machine
end

