-- ==== Sys2Proof/Machine/Grotto.lean ====
section
/-! DEFINITION. The Grotto's monitors: heartbeats, clocks, supplies, order refresh, position taps, the torque monitor with the
safety functions, and leaving ASC (R391, R395 to R403, R421 to R425). -/

namespace Sys2Proof.Machine

/-! ## Heartbeats (R395) -/

/-- A fault of entry 8 on a channel, with its reaction HBACT. -/
def State.beatFault (s : State) (c : Nat) : State :=
  let xs := (List.range 8).filter fun x => bitN (s.hRec c 4 7 0) x
  match s.hRec c 4 30 29 with
  | 1 => ((xs.foldl (fun s x => if s.axUse x then s.modAx x fun a => { a with hbSs1 := true } else s) s).allDemands).gLog 8 actReport
      c (some c)
  | 2 => s.groupOrder xs 8 c (some c)
  | _ => s.gLog 8 actReport c (some c)

/-- A delivery of a SAFE_CHECK action: channel, TOKEN and firing TIME in ns (R395). -/
def State.heartbeat (s : State) (c token ns : Nat) : State :=
  if !s.grottoOn || s.hRec c 4 31 31 == 0 then s
  else
    let now : Beat := { at_ := s.grt.clk, token := token, ns := ns, late := false }
    let s1 := s.modGrt fun g => { g with beats := smSet g.beats c now }
    match s.grt.beats.find? (·.1 == c) with
    | none => s1
    | some (_, b) =>
      let dt : Int := (s.grt.clk : Int) - b.at_
      let inTime := decide ((dt - s.hRec c 0 31 16 * 3200).natAbs ≤ s.hRec c 0 15 0 * 3200)
      let next := token == (b.token + 1) % 2 ^ 24
      let agrees := decide ((320 * ((ns : Int) - b.ns) - 100 * dt).natAbs ≤ 5 * dt + 320000)
      if inTime && next && agrees then s1 else s1.beatFault c

/-- HEARTBEAT_TIMEOUT (R395): no delivery within HBPER + HBTOL of the last one. -/
def execHeartbeatTimeout (c : Fin 256) (s : State) : Host.Outcome State Fault Refusal :=
  ok (match s.grt.beats.find? (·.1 == c.val) with
    | some (_, b) =>
      if s.grottoOn && s.hRec c.val 4 31 31 == 1 && !b.late &&
          decide (b.at_ + (s.hRec c.val 0 31 16 + s.hRec c.val 0 15 0) * 3200 < s.grt.clk) then
        (s.modGrt fun g => { g with beats := smSet g.beats c.val { b with late := true } }).beatFault c.val
      else s
    | none => s)

/-! ## Own monitors (R391, R396, R383) -/

/-- ORDER_REFRESH_TIMEOUT (R391): the safety column did not refresh its order register within 10 µs. -/
def execOrderRefreshTimeout (s : State) : Host.Outcome State Fault Refusal :=
  ok (if s.grottoOn then s.hardSto 0x9A else s)

/-- The power-state sequencer holds the line that says the fabric PLL stands still (R396). -/
def State.pllStopped (s : State) : Bool :=
  match s.power.phase with
  | .entering _ | .asleep _ | .retry _ _ => true
  | .wake _ step _ => step < 5
  | _ => false

/-- CLOCK_MONITOR (R396, R383): the counts of a 10 µs window, `fab` absent where the fabric clock was not counted over the
whole of it, and the readbacks of GEN_A and GEN_B. -/
def execClockMonitor (ref : Nat) (fab : Option Nat) (genA genB : BitVec 4) (s : State) : Host.Outcome State Fault Refusal :=
  ok (if !s.grottoOn then s
    else
      let s1 := s.monitor s.axesUsed 16 0 (decide (250 < 20 * ((ref : Int) - 250).natAbs))
      let s2 := match fab with
        | some n => if s.pllStopped then s1 else s1.monitor s1.axesUsed 16 1 (decide (5 < ((n : Int) - 100).natAbs))
        | none => s1
      if s2.us < s2.grt.genAt + 10 then s2
      else (List.range 4).foldl (fun s r =>
        s.monitor (s.axesUsed.filter fun x => s.axRegion x == some r) 9 r
          (genA.getLsbD r != s.grt.genA.getLsbD r || genB.getLsbD r != s.grt.genB.getLsbD r)) s2)

/-- The window of a rail in mV (R620): 0 VDD_CORE, 1 VDD_SRAM, 2 VDD_PLL, 3 VDD_SERDES, 4 VDDIO18, 5 VDDA18, 6 VDD_LVDS,
7 VDDIO33. -/
def State.railWindow (s : State) (rail : Fin 8) : Int × Int :=
  match rail.val with
  | 0 =>
    let v : Int := s.fld AVS_VACK 0 AVS_VACK_MV
    if v = 0 then (690, 880)
    else
      match s.grt.coreWin with
      | some n => (min v n - 30, max v n + 30)
      | none => (v - 30, v + 30)
  | 1 | 2 => (800, 900)
  | 3 => (850, 950)
  | 7 => (3085, 3515)
  | _ => (1690, 1910)

/-- SUPPLY_FAULT (R396): a rail stands at `mv` and has stood beyond or within its window for `held` µs. -/
def execSupplyFault (rail : Fin 8) (mv : Int) (held : Nat) (s : State) : Host.Outcome State Fault Refusal :=
  ok (let w := s.railWindow rail
    let out := decide (mv < w.1) || decide (w.2 < mv)
    if !s.grottoOn || (out && held < 5) then s else s.monitor s.axesUsed 17 rail.val out)

/-! ## Position taps (R397) -/

/-- A tap. -/
def State.tapAt (s : State) (k : Fin 16) : Tap := vget s.grt.tap k
/-- A tap changed. -/
def State.modTap (s : State) (k : Fin 16) (f : Tap → Tap) : State :=
  s.modGrt fun g => { g with tap := vset g.tap k (f (vget g.tap k)) }
/-- The axes that use a tap. -/
def State.tapAxes (s : State) (k : Fin 16) : List Nat := s.axesUsed.filter fun x => s.aRec x 0x10 15 12 == k.val

/-- TMVALID of an axis falls (R397, R401). -/
def State.tmFall (s : State) (x : Nat) : State :=
  if s.tmValid x then
    (s.setBit GRT_AXSTAT x GRT_AXSTAT_TMVALID false).modAx x fun a => { a with fell := some (s.us, (s.axSpeed x).natAbs) }
  else s

/-- A tap fault: TMVALID of its axes falls, and the tap must find its place again. -/
def State.tapFault (s : State) (k : Fin 16) : State :=
  let s1 := (s.tapAxes k).foldl (fun s x => s.tmFall x) s
  let s2 := if (s.tapAt k).fault then s1 else (s1.gCause 6 k.val true).gLog 6 actReport k.val none
  s2.modTap k fun t => { t with pos := none, refd := false, fault := true, hist := [] }

/-- The Grotto speed of an axis from the change of its position over 200 µs, in rpm, rounded toward zero. -/
def rpmOf (periods : Nat) (d : Int) : Int :=
  if periods = 0 then Config.noPeriods d else (d * 300000).tdiv (periods * 4096 : Nat)

/-- What an axis takes from a good sample of its tap; a speed that leaves its 16 bits is not stated. -/
def State.tapAxis (s : State) (k : Fin 16) (x : Nat) : State :=
  let t := s.tapAt k
  let n := s.aRec x 0x10 31 16
  let valid := t.refd || (n != 0 && s.aRec x 0x10 5 0 % n == 0)
  let s1 := if valid then s.setBit GRT_AXSTAT x GRT_AXSTAT_TMVALID true else s
  match t.hist[0]?, t.hist[200]? with
  | some p, some q =>
    let v := rpmOf n (p - q)
    if oflow 16 v then s1.used.setFld GRT_AXSTAT x GRT_AXSTAT_SPEED s1.free.toNat
    else s1.setFld GRT_AXSTAT x GRT_AXSTAT_SPEED (pat 16 v)
  | _, _ => s1

/-- A good sample moves the tap by `d` to the phase `a`; at the first reference mark C becomes ZREF_G. -/
def State.tapMove (s : State) (k : Fin 16) (a : Nat) (pz both : Bool) : State :=
  let t := s.tapAt k
  let p : Int := match t.pos with
    | some p => p + wrapS 12 ((a : Int) - p)
    | none => a
  let zref : Int := match s.tapAxes k with
    | x :: _ => sx 32 (s.aRec x 0x18 31 0) * 4096
    | [] => 0
  let mark := pz && !t.pz && both && !t.refd
  let shift : Int := if mark then zref + a - p else 0
  let s1 := s.modTap k fun t =>
    { t with pos := some (p + shift), refd := t.refd || mark, pz := pz, fault := false
             hist := ((p :: t.hist).take 201).map (· + shift) }
  (s.tapAxes k).foldl (fun s x => s.tapAxis k x) (s1.gCause 6 k.val false)

/-- TAP_SAMPLE (R397): the codes of SIN and COS and the level of PZ. -/
def execTapSample (k : Fin 16) (sn cs : BitVec 12) (pz : Bool) (s : State) : Host.Outcome State Fault Refusal :=
  ok (if !s.grottoOn then s
    else
      let a := sx 12 sn.toNat
      let b := sx 12 cs.toNat
      let amp := isqrt (a * a + b * b).toNat
      let bad := (s.tapAxes k).any fun x => amp < s.aRec x 0x1C 15 0 || s.aRec x 0x1C 31 16 < amp
      let ang := angle12 a b
      let jump := match (s.tapAt k).pos with
        | some p => decide (1024 ≤ (wrapS 12 ((ang : Int) - p)).natAbs)
        | none => false
      if bad || jump then (s.tapFault k).modTap k fun t => { t with pz := pz }
      else s.tapMove k ang pz (decide (0 < a) && decide (0 < b)))

/-! ## The torque monitor (R398 to R400) -/

/-- A code scaled with OFS and GAIN number `i` of an axis. -/
def State.scaled (s : State) (x i : Nat) (code : BitVec 12) : Int :=
  satS 16 (((code.toNat * 16 : Nat) - (s.aRec x (0x28 + 4 * i) 31 16 : Int)) * s.aRecS x (0x28 + 4 * i) 15 0 / 2 ^ 14)

/-- θ_g of an axis (R397). -/
def State.thetaG (s : State) (x : Nat) : Nat :=
  let p := ((s.tapAt (Fin.ofNat 16 (s.aRec x 0x10 15 12))).pos).getD 0
  pat 16 (perTurn (s.aRec x 0x10 31 16) (p * s.aRec x 0x10 5 0 * 2 ^ 16) + s.aRec x 0x14 31 16)

/-- The envelope in use: THI, TLO and whether it is the fallback (R400, R421). -/
def State.envelope (s : State) (x : Nat) : Int × Int × Bool :=
  let fresh := match (s.gax x).env with
    | some (t, _, _) => decide (s.us ≤ t + s.aRec x 0x4C 15 0)
    | none => false
  if (s.gax x).ss1.isSome then (s.aRecS x 0x54 31 16, s.aRecS x 0x54 15 0, !fresh)
  else
    match (s.gax x).env with
    | some (_, hi, lo) => if fresh then (hi, lo, false) else (s.aRecS x 0x50 31 16, s.aRecS x 0x50 15 0, true)
    | none => (s.aRecS x 0x50 31 16, s.aRecS x 0x50 15 0, true)

/-- The envelope in use is shown. -/
def State.showEnv (s : State) (x : Nat) : State :=
  let e := s.envelope x
  (s.setReg GRT_TENV x (GRT_TENV_TLO.put (GRT_TENV_THI.put 0 (pat 16 e.1)) (pat 16 e.2.1))).setBit GRT_AXSTAT x
    GRT_AXSTAT_ENVSTALE e.2.2

/-- The torque check, or in magnitude mode the magnitude check: n counts, and entry 4 (R398, R399). -/
def State.torqueCheck (s : State) (x : Nat) (ia ib : Int) : State :=
  let v := clarke0 ia ib
  let e := s.envelope x
  let tol := s.aRecS x 0x44 31 16
  let mag := !s.tmValid x
  let i := park0 v (s.thetaG x)
  let tg := satS 16 (rnd0 (s.aRecS x 0x40 31 16 * i.2) 15 + rnd0 (rnd0 (s.aRecS x 0x40 15 0 * i.1) 15 * i.2) 15)
  let bad := if mag then decide (s.aRecS x 0x4C 31 16 < mag0 v) else decide (e.1 + tol < tg) || decide (tg < e.2.1 - tol)
  let n := if bad then (s.gax x).n + 1 else 0
  let s1 := (s.modAx x fun a => { a with n := n }).setBit GRT_AXSTAT x GRT_AXSTAT_MAGMODE mag
  let s2 := if mag then s1 else s1.setFld GRT_TMON x GRT_TMON_TG (pat 16 tg)
  s2.axFault x 4 (s.aRec x 0x44 15 8 ≤ n && bad)

/-- Sensor agreement (R399): reported, no safe state. -/
def State.agreement (s : State) (x : Nat) (ar br ap bp : Int) : State :=
  let tol := s.aRecS x 0x48 15 0
  let bad := decide (tol < (ap - ar).natAbs) || decide (tol < (bp - br).natAbs)
  let n := if bad then (s.gax x).nsen + 1 else 0
  let s1 := s.modAx x fun a => { a with nsen := n }
  if !bad then s1.gCause 5 x false
  else if n < s.aRec x 0x44 7 0 || s.gHas 5 x then s1
  else (s1.gCause 5 x true).gLog 5 actReport x none

/-- The confirmation of an OV2 line by the tap (R347). Which reading bears out the line is open. -/
def State.ov2Confirm (s : State) (x : Nat) (vdc : Int) : State :=
  if !s.grt.ov2.getLsbD x then s
  else
    let s1 := (s.modGrt fun g => { g with ov2 := g.ov2 &&& ~~~(1#8 <<< x) }).gLog 12 (s.actionOf x) x (some (pat 16 vdc))
    if s1.free.getLsbD 0 then s1.used else s1.used.gLog 12 actReport x (some (pat 16 vdc))

/-! ## Safety functions in the slice (R421 to R425) -/

/-- SS1 in a frame (R421). -/
def State.ss1Frame (s : State) (x : Nat) : State :=
  match (s.gax x).ss1 with
  | none => s
  | some (t0, n0) =>
    let t := (s.us - t0) / 1000
    let v := (s.axSpeed x).natAbs
    if s.aRec x 0x58 31 16 ≤ t then s.orderSto x
    else if s.tmValid x && v < s.aRec x 0x58 15 0 then s.orderSto x
    else if s.aRec x 0 9 8 = 1 then
      if !s.tmValid x then s.orderSto x
      else if s.axOut x = 0 && decide ((n0 : Int) + s.aRec x 0x5C 15 0 - (s.aRec x 0x5C 31 16 * 10 * t / 1000 : Nat) < v) then
        s.safeOrder x 4 (some 4)
      else s
    else s

/-- The limits of SLS that are monitored now: the one in force after its ramp, the one before it until then (R422). -/
def State.slsNow (s : State) (x : Nat) : Nat :=
  let a := s.gax x
  if a.slsN = 0 then 0 else if a.slsAt + s.aRec x 0x64 31 16 * 1000 ≤ s.us then a.slsN else a.slsOld

/-- SLS, SDI and SLP are violated in this frame (R422 to R425), bits 0 to 2. -/
def State.violations (s : State) (x : Nat) : BitVec 3 :=
  let a := s.gax x
  let p := s.axPos x
  let tol : Int := s.aRec x 0x0C 31 16
  let lost := !s.tmValid x
  let sls := s.slsNow x != 0 && (lost || decide (s.slsLimit x (s.slsNow x) < (s.axSpeed x).natAbs))
  let back (p0 : Option Int) (sign : Int) : Bool := match p0 with
    | some q => lost || decide (sign * wrapS 32 (p - q) < -tol)
    | none => false
  let sdi := back a.sdiP 1 || back a.sdiN (-1)
  let refd := (s.tapAt (Fin.ofNat 16 (s.aRec x 0x10 15 12))).refd
  let slp := s.aRec x 0x70 8 8 == 1 && (lost || !refd || decide (p < sx 32 (s.aRec x 0x68 31 0)) ||
    decide (sx 32 (s.aRec x 0x6C 31 0) < p))
  BitVec.ofNat 3 (b2n sls + 2 * b2n sdi + 4 * b2n slp)

/-- Movement in the admitted direction moves p0 along (R423). -/
def State.sdiMove (s : State) (x : Nat) : State :=
  let p := s.axPos x
  if !s.tmValid x then s
  else s.modAx x fun a =>
    { a with sdiP := a.sdiP.map fun q => if 0 < wrapS 32 (p - q) then p else q
             sdiN := a.sdiN.map fun q => if wrapS 32 (p - q) < 0 then p else q }

/-- The monitoring demands of an axis in RUN: a violation is reacted to and logged when it appears (R419, R425). -/
def State.monitorFrame (s : State) (x : Nat) : State :=
  let v : BitVec 3 := if s.axOut x = 0 then s.violations x else 0
  let new := v &&& ~~~(s.gax x).vio
  let s1 := (s.modAx x fun a => { a with vio := v }).sdiMove x
  let s2 := if new.getLsbD 0 then s1.react x (s.aRec x 0x70 7 6) (some 1) else s1
  let s3 := if new.getLsbD 1 then s2.react x (s.aRec x 0x70 3 2) (some 2) else s2
  if new.getLsbD 2 then s3.react x (s.aRec x 0x70 5 4) (some 3) else s3

/-- ASC in a frame: the group is chosen again where it is no longer usable, and the axis leaves for STO where none is left;
the times of R403 run. -/
def State.ascFrame (s : State) (x : Nat) : State :=
  let high := s.axOut x == 3
  let s1 :=
    if s.axOut x < 2 then s
    else if (s.axBrs x).all fun k => s.grpUsable k high then s
    else if (s.axBrs x).any fun k => s.grpUsable k high then s.orderAsc x
    else s.orderSto x
  let slow := decide (2 ≤ s1.axOut x) && decide (s1.axS x + s.aRec x 4 15 0 < s.aRec x 4 31 16)
  let rest := s1.axOut x == 1 && decide (s1.axS x < s.aRec x 8 31 16)
  s1.modAx x fun a =>
    { a with lowAt := if slow then some (a.lowAt.getD s.us) else none
             restAt := if rest then some (a.restAt.getD s.us) else none
             reqd := a.reqd && rest }

/-- TORQUE_MONITOR_SLICE (R398, R542): the codes of the redundant and primary phase currents and of the link; the Grotto's
two temperatures, which count once a frame, in the slice of axis 0. -/
def execTorqueMonitorSlice (x : Fin 8) (iar ibr iap ibp vdc : BitVec 12) (t0 t1 : Half) (s : State) :
    Host.Outcome State Fault Refusal :=
  ok (let s0 := if x = 0 && s.grottoOn then s.grottoTemp t0 t1 else s
    if !s.grottoOn || !s.axUse x.val then s0
    else
      let ar := s0.scaled x 0 iar
      let br := s0.scaled x 1 ibr
      let ap := s0.scaled x 2 iap
      let bp := s0.scaled x 3 ibp
      let v := s0.scaled x 4 vdc
      let overs := [ar, br, ap, bp].any fun i => decide (s0.aRecS x 0x48 31 16 < i.natAbs)
      let s1 := ((s0.pairsEval.showEnv x).setFld GRT_TMON x GRT_TMON_VDC (pat 16 v)).torqueCheck x ar br
      let s2 := (((s1.axFault x 11 overs).agreement x ar br ap bp).ov2Confirm x v).ss1Frame x
      (s2.monitorFrame x).ascFrame x)

/-- ASC_EXIT (R403): s has stayed below NASC − NHYS for 10 ms. -/
def execAscExit (x : Fin 8) (s : State) : Host.Outcome State Fault Refusal :=
  ok (match (s.gax x).lowAt with
    | some t => if s.grottoOn && decide (2 ≤ s.axOut x) && decide (t + 10000 ≤ s.us) then s.orderSto x else s
    | none => s)

/-- A discharge asked of a region's Sump: one that is not available is reported (R352, R353). -/
def State.askDischarge (s : State) (r : Fin 4) : State :=
  let (s1, done) := s.grottoDis r
  if done then s1 else s1.gLog 12 actReport r.val none

/-- DISCHARGE_REQUEST (R403): every axis on a DC link has been at rest in STO for TREST. -/
def execDischargeRequest (l : Fin 8) (s : State) : Host.Outcome State Fault Refusal :=
  ok (let xs := s.axesUsed.filter fun x => s.aRec x 0 15 13 == l.val
    let ready (x : Nat) : Bool := s.aRec x 0 10 10 == 1 && match (s.gax x).restAt with
      | some t => decide (t + s.aRec x 8 15 0 * 1000 ≤ s.us)
      | none => false
    if !s.grottoOn || xs.isEmpty || !xs.all ready || xs.all (fun x => (s.gax x).reqd) then s
    else
      let s1 := xs.foldl (fun s x => s.modAx x fun a => { a with reqd := true }) s
      ((List.finRange 4).filter fun r => xs.any fun x => s.axRegion x == some r.val).foldl (fun s r => s.askDischarge r) s1)

/-- ENVELOPE_TIMEOUT (R400): no valid frame for ENVTMO. -/
def execEnvelopeTimeout (x : Fin 8) (s : State) : Host.Outcome State Fault Refusal :=
  ok (match (s.gax x).env with
    | some (t, _, _) =>
      if s.grottoOn && s.axUse x && decide (t + s.aRec x 0x4C 15 0 < s.us) then
        (s.modAx x fun a => { a with env := none }).showEnv x
      else s
    | none => s)

/-- GRT_FUNC of an axis as it is read (chapter 13). -/
def State.grtFunc (s : State) (x : Nat) : Word :=
  let a := s.gax x
  let ms := match a.ss1 with
    | some (t, _) => min 65535 ((s.us - t) / 1000)
    | none => 0
  let on := s.axUse x
  let sdi := a.sdiP.isSome || a.sdiN.isSome
  let si := (List.range 16).any fun k => (List.range 4).any fun f => s.pairDemands k f x
  let xl := (List.range 4).any fun k => s.xlDemands k 1 x || s.xlDemands k 2 x ||
    (s.xlOn k && (s.xlSlots k x).any fun i => (vget s.grt.xl (Fin.ofNat 4 k)).sls.toNat / 4 ^ i % 4 != 0)
  let src := 32 * b2n a.mbSto + 16 * b2n a.mbSs1 + 8 * b2n si + 4 * b2n xl + 2 * b2n a.hbSs1 + b2n (a.vioSs1 || a.vioSto)
  if !on then 0
  else
    let w := GRT_FUNC_SS1MS.put (GRT_FUNC_SRC.put (GRT_FUNC_SS1.put 0 (b2n a.ss1.isSome)) src) ms
    let w1 := GRT_FUNC_SLSN.put (GRT_FUNC_SLS.put w (b2n (s.slsNow x != 0))) a.slsN
    GRT_FUNC_SLP.put (GRT_FUNC_SDIDIR.put (GRT_FUNC_SDI.put w1 (b2n sdi)) (b2n (a.sdiP.isNone && a.sdiN.isSome)))
      (s.aRec x 0x70 8 8)

end Sys2Proof.Machine
end

