-- ==== Sys2Proof/Machine/XLinks.lean ====
section
/-! DEFINITION. The cross links of the Grotto (R432 to R436). -/

namespace Sys2Proof.Machine

/-- Byte `i` of a frame. -/
def frByte (l : List Byte) (i : Nat) : Nat := (l.getD i 0).toNat
/-- The 16-bit little-endian number at byte `i` of a frame. -/
def frHalf (l : List Byte) (i : Nat) : Nat := frByte l i + 256 * frByte l (i + 1)
/-- The 32-bit little-endian number at byte `i` of a frame. -/
def frWord (l : List Byte) (i : Nat) : Nat := frHalf l i + 65536 * frHalf l (i + 2)
/-- The two bytes of a 16-bit number. -/
def halfBytes (n : Nat) : List Byte := [BitVec.ofNat 8 n, BitVec.ofNat 8 (n / 256)]

/-- A cross link. -/
def State.xlAt (s : State) (k : Fin 4) : XLink := vget s.grt.xl k
/-- A cross link changed. -/
def State.modXl (s : State) (k : Fin 4) (f : XLink → XLink) : State :=
  s.modGrt fun g => { g with xl := vset g.xl k (f (vget g.xl k)) }
/-- The local axes of a link's slot map (R434). -/
def State.xlAxes (s : State) (k : Nat) : List Nat := s.axesUsed.filter fun x => !(s.xlSlots k x).isEmpty

/-- The checks of R435 on a frame. -/
def State.xlAccepts (s : State) (k : Fin 4) (f : List Byte) : Bool :=
  let role := s.xRec k 0 30 30
  let d := (frHalf f 5 + 65536 - s.fld GRT_XLSTAT k GRT_XLSTAT_SEQ) % 65536
  f.length == 48 && frWord f 44 == (crc32 (f.take 44)).toNat && frByte f 0 == 0x10 * (1 + role) + 1 &&
    frHalf f 1 == s.xRec k 0 29 16 && frHalf f 3 == s.gRec 8 13 0 &&
    ((!s.xlUp k && (s.xlAt k).run == 0) || (0 < d && d < 32768 && d ≤ s.xRec k 4 15 8))

/-- An ENV frame takes effect (R436). -/
def State.xlEnv (s : State) (k : Fin 4) (f : List Byte) : State :=
  let s1 := s.modXl k fun l =>
    { l with sto := BitVec.ofNat 8 (frByte f 40), ss1 := BitVec.ofNat 8 (frByte f 41), sls := BitVec.ofNat 16 (frHalf f 42) }
  (List.range 8).foldl (fun s i =>
    let x := s.xRec k 8 (4 * i + 3) (4 * i)
    if bitN (frByte f 7) i && x < 8 then
      s.modAx x fun a => { a with env := some (s.us, sx 16 (frHalf f (8 + 4 * i)), sx 16 (frHalf f (10 + 4 * i))) }
    else s) s1

/-- A STATUS frame of a peer takes effect: a coupled slot that leaves RUN raises CPLR (R436). -/
def State.xlPeer (s : State) (k : Fin 4) (f : List Byte) : State :=
  let old := (s.xlAt k).out
  let out : BitVec 8 := BitVec.ofNat 8 ((List.range 8).foldl (fun n i =>
    n + 2 ^ i * b2n (if bitN (frByte f 7) i then frByte f (8 + 4 * i) / 64 != 0 else old.getLsbD i)) 0)
  let s1 := s.modXl k fun l => { l with out := out }
  if s.xRec k 0xC 9 8 = 3 then
    (List.range 8).foldl (fun s i =>
      let x := s.xRec k 8 (4 * i + 3) (4 * i)
      if out.getLsbD i && !old.getLsbD i && bitN (s.xRec k 0xC 7 0) i && x < 8 then s.safeOrder x 20 none else s) s1
  else s1

/-- XL_FRAME_RECEIVED (R435, R436): the data bytes of a frame, and whether a code-group or disparity error struck it. -/
def execXlFrameReceived (k : Fin 4) (f : List Byte) (bad : Bool) (s : State) : Host.Outcome State Fault Refusal :=
  ok (if !s.grottoOn || !s.xlOn k then s
    else if bad || !s.xlAccepts k f then (s.countWrap GRT_XLSTAT k GRT_XLSTAT_DISC).modXl k fun l => { l with run := 0 }
    else
      let up := s.xlUp k
      let s1 := (s.setFld GRT_XLSTAT k GRT_XLSTAT_SEQ (frHalf f 5)).modXl k fun l => { l with lastAt := s.us, run := l.run + 1 }
      if up then (if s.xRec k 0 30 30 = 0 then s1.xlEnv k f else s1.xlPeer k f).allDemands
      else if (s1.xlAt k).run < 3 then s1
      else
        (((s1.setBit GRT_XLSTAT k GRT_XLSTAT_UP true).setBit GRT_STAT 0 ⟨24 + k.val, 24 + k.val⟩ true).modXl k fun l =>
          { l with lost := false }).allDemands)

/-- The STATUS frame of a link (R433, R434). -/
def State.statusFrame (s : State) (k : Fin 4) : List Byte :=
  let slot (i : Nat) : List Byte :=
    let x := s.xRec k 8 (4 * i + 3) (4 * i)
    if x < 8 then
      let st := 64 * s.axOut x + 32 * b2n (s.tmValid x) + 16 * s.fld GRT_AXSTAT x GRT_AXSTAT_MAGMODE +
        8 * s.fld GRT_AXSTAT x GRT_AXSTAT_ENVSTALE + 4 * b2n (s.gax x).ss1.isSome
      [BitVec.ofNat 8 st, BitVec.ofNat 8 (s.fld GRT_AXSTAT x GRT_AXSTAT_CAUSE)] ++ halfBytes (s.fld GRT_AXSTAT x GRT_AXSTAT_SPEED)
    else [0, 0, 0, 0]
  let slotv : Nat := (List.range 8).foldl (fun n i => n + 2 ^ i * b2n (decide (s.xRec k 8 (4 * i + 3) (4 * i) < 8))) 0
  let body : List Byte := [(0x21 : Byte)] ++ halfBytes (s.gRec 8 13 0) ++ halfBytes (s.xRec k 0 29 16) ++
    halfBytes (s.xlAt k).txSeq.toNat ++ [BitVec.ofNat 8 slotv] ++ (List.range 8).flatMap slot ++ wordBytes (s.reg GRT_SIP 0)
  body ++ wordBytes (crc32 body)

/-- XL_STATUS_SEND (R435): an enabled link sends its STATUS frame; SEQ advances by 1. -/
def execXlStatusSend (k : Fin 4) (s : State) : Host.Outcome State Fault Refusal :=
  ok (if !s.grottoOn || !s.xlOn k then s
    else
      let s1 := s.modXl k fun l => { l with txSeq := l.txSeq + 1 }
      s1.modXl k fun l => { l with sent := s1.statusFrame k })

/-- XL_TIMEOUT (R435): no frame has been accepted for TMO; the link goes DOWN and XLR acts. -/
def execXlTimeout (k : Fin 4) (s : State) : Host.Outcome State Fault Refusal :=
  ok (if !s.grottoOn || !s.xlOn k || !s.xlUp k || decide (s.us < (s.xlAt k).lastAt + s.xRec k 4 31 16) then s
    else
      let s1 := ((s.setBit GRT_XLSTAT k GRT_XLSTAT_UP false).setBit GRT_STAT 0 ⟨24 + k.val, 24 + k.val⟩ false).modXl k fun l =>
        { l with lost := true, run := 0 }
      match s.xRec k 4 7 6 with
      | 3 => s1.groupOrder (s.xlAxes k) 20 k.val none
      | 2 => s1.allDemands.gLog 20 actSto k.val none
      | _ => s1.allDemands.gLog 20 actReport k.val none)

end Sys2Proof.Machine
end

