-- ==== Sys2Proof/Machine/Echo.lean ====
section
/-! DEFINITION. The Echo link (R480 to R496): frames, routing, classes, bindings and their outcomes, time transfer. -/

namespace Sys2Proof.Machine

/-! ## Ports and the break map (R483, R485) -/

/-- A port. -/
def State.ep (s : State) (k : Nat) : EPort := vget s.echo.port (Fin.ofNat 4 k)
/-- A port changed. -/
def State.modEp (s : State) (k : Nat) (f : EPort → EPort) : State :=
  { s with echo := { s.echo with port := vset s.echo.port (Fin.ofNat 4 k) (f (s.ep k)) } }
/-- A port is UP. -/
def State.portUp (s : State) (k : Nat) : Bool := s.fabricOn && s.fld ECHO_STAT k ECHO_STAT_LINK == 2
/-- The other port of the membership. -/
def portMate (k : Nat) : Nat := k / 2 * 2 + (1 - k % 2)
/-- The node ID of membership `m`. -/
def State.nodeId (s : State) (m : Nat) : Nat := s.fld ECHO_NODE m ECHO_NODE_ID
/-- The position of membership `m` in its ring. -/
def State.nodePos (s : State) (m : Nat) : Nat := s.nodeId m % 64
/-- The ring size of membership `m`. -/
def State.rsize (s : State) (m : Nat) : Nat := s.fld ECHO_NODE m ECHO_NODE_RSZ + 1
/-- Segment `i` of membership `m`'s ring is broken. -/
def State.segBroken (s : State) (m i : Nat) : Bool :=
  bitN (if i < 32 then s.reg ECHO_BRKLO m else s.reg ECHO_BRKHI m).toNat (i % 32)

/-- The break map of membership `m` takes a segment's state; a change sets BRKEV in the page of port 2m (R485). -/
def State.setSeg (s : State) (m i : Nat) (broken : Bool) : State :=
  if i ≥ 64 || s.segBroken m i == broken then s
  else
    let f := if i < 32 then ECHO_BRKLO else ECHO_BRKHI
    (s.setFld f m (fldAt 1 (i % 32)) (b2n broken)).flag ECHO_STAT (2 * m) ECHO_STAT_BRKEV

/-- The segment of port `k` (R483): the east port of position i is on segment i, the west port on segment i − 1. -/
def State.segOf (s : State) (k : Nat) : Nat :=
  let m := k / 2
  if k % 2 = 1 then s.nodePos m else (s.nodePos m + s.rsize m - 1) % s.rsize m

/-- The direction of R485 from the own position to position `d`: `some true` east, `some false` west. -/
def State.ringDir (s : State) (m d : Nat) : Option Bool :=
  let n := s.rsize m
  let p := s.nodePos m
  let e := (d + n - p % n) % n
  let eastOk := (List.range e).all fun j => !s.segBroken m ((p + j) % n)
  let westOk := (List.range (n - e)).all fun j => !s.segBroken m ((d + j) % n)
  if e ≤ n - e && eastOk then some true else if westOk then some false else none

/-- Where a frame for `dst` leaves when it is sent from membership `m`: a port, or the status with which it ends (R484, R485). -/
def State.routeIn (s : State) (m dst : Nat) : Nat → Nat ⊕ Nat
  | 0 => .inr stBAD_TARGET
  | fuel + 1 =>
    let go (d : Nat) : Nat ⊕ Nat :=
      match s.ringDir m d with
      | some true => .inl (2 * m + 1)
      | some false => .inl (2 * m)
      | none => .inr stLINK_DOWN
    if dst / 64 = s.nodeId m / 64 then go (dst % 64)
    else
      let i := 256 * m + dst / 64
      if !s.bit ECHO_RT i ECHO_RT_V then .inr stBAD_TARGET
      else if s.bit ECHO_RT i ECHO_RT_X then s.routeIn (1 - m) dst fuel
      else go (s.fld ECHO_RT i ECHO_RT_POS)

/-- The route of a frame sent from membership `m`. -/
def State.route (s : State) (m dst : Nat) : Nat ⊕ Nat := s.routeIn m dst 2

/-! ## Outcomes of sends (R492) -/

/-- A send of a binding changed. -/
def State.modSend (s : State) (b eseq : Nat) (f : ESend → ESend) : State :=
  { s with echo := { s.echo with sends := s.echo.sends.map fun x =>
      if x.bind == b && x.eseq == eseq && x.result.isNone then f x else x } }

/-- An AUTO binding's outcome is written into its CRING (R492). -/
def State.echoOutcome (s : State) (b eseq status mask : Nat) : State :=
  if status = stOK && !s.bit ECHO_TXBX b ECHO_TXBX_REPALL then s
  else
    let c := s.fld ECHO_TXBX b ECHO_TXBX_CRING
    if !s.ringRx c then s
    else
      let w0 := if status = stPARTIAL then mask else 0
      match s.ringPush c [BitVec.ofNat 32 w0, s.nsLo, BitVec.ofNat 32 eseq] status 3 12 with
      | some s' => s'
      | none => s.flag ECHO_STAT (b / 16 * 2) ECHO_STAT_CFULL

/-- CONS passes the entries of a binding whose sends have ended, oldest first (R490). -/
def State.echoRetire (s : State) (b : Nat) : Nat → State
  | 0 => s
  | fuel + 1 =>
    match s.echo.sends.find? (·.bind == b) with
    | some x =>
      if x.result.isSome then
        let s1 := { s with echo := { s.echo with sends := s.echo.sends.erase x } }
        (s1.setFld GAL_RING_IDX x.ring GAL_RING_IDX_CONS (x.eseq + 1)).echoRetire b fuel
      else s
    | none => s

/-- The outcome of an entry that ends the event of a TIMED binding, or is reported by an AUTO one. -/
def State.echoReport (s : State) (b eseq : Nat) (event : Option (Nat × Nat)) (status mask : Nat) : State :=
  match event with
  | some (slot, order) =>
    match s.eventAt slot with
    | some e => if e.order == order then s.endEvent e status mask false else s
    | none => s
  | none => s.echoOutcome b eseq status mask

/-- A send whose units are all decided ends. -/
def State.echoFinish (s : State) (x : ESend) : State :=
  let (st, mask) := x.multi.outcome
  let s1 := s.modSend x.bind x.eseq fun y => { y with result := some (st, mask) }
  let s2 := s1.echoReport x.bind x.eseq x.event st mask
  s2.echoRetire x.bind s2.echo.sends.length

/-- A unit of a send is decided. -/
def State.echoDecide (s : State) (b eseq u status : Nat) : State :=
  match s.echo.sends.find? fun x => x.bind == b && x.eseq == eseq && x.result.isNone with
  | none => s
  | some x =>
    if !x.multi.open_.getLsbD u then s
    else
      let y := { x with multi := x.multi.decide u status, units := x.units.filter (·.unit != u) }
      let s1 := s.modSend b eseq fun _ => y
      if y.multi.open_ = 0 then s1.echoFinish y else s1

/-- ACKTMO of a binding in fabric ticks. -/
def State.ackTmo (s : State) (b : Nat) : Nat := 640 * max 1 (s.fld ECHO_TXBX b ECHO_TXBX_ACKTMO)

/-- The wait for an ACK begins (R492). -/
def State.echoAwait (s : State) (b eseq u k : Nat) : State :=
  s.modSend b eseq fun x =>
    { x with units := x.units.map fun q => if q.unit == u then { q with due := some (s.tick + s.ackTmo b), port := k } else q }

/-! ## Queues (R484, R486, R488) -/

/-- What becomes of a frame offered to a port. -/
inductive Placed
  /-- It waits in the queue of its class at a port. -/
  | queued (s : State) (k : Nat)
  /-- Its class queue is full (R488). -/
  | full (s : State)
  /-- Its onward port is DOWN and it has been turned back before, or both ports are DOWN (R486). -/
  | stuck

/-- A frame is offered to port `k`: turned back where the port is DOWN (R486), discarded where its class queue is full (R488). -/
def State.place (s : State) (k : Nat) (f : EFrame) : Placed :=
  let go (k : Nat) (f : EFrame) : Placed :=
    if ((s.ep k).queue.filter (·.cls == f.cls)).length ≥ 8 then .full (s.count ECHO_CNT k ECHO_CNT_CLSDROP)
    else .queued (s.modEp k fun p => { p with queue := p.queue ++ [f] }) k
  if s.portUp k then go k f
  else if !f.wrap && s.portUp (portMate k) then go (portMate k) { f with wrap := true }
  else .stuck

/-- An ACK of a frame is sent from membership `m` (R484, R492). -/
def State.sendAck (s : State) (m : Nat) (f : EFrame) (status : Nat) : State :=
  let a : EFrame := { f with ack := true, ackreq := false, wrap := false, hops := 255, src := s.nodeId m, dst := f.src
                             status := status, payload := [], own := none }
  match s.route m f.src with
  | .inr _ => s
  | .inl k =>
    match s.place k a with
    | .queued s' _ => s'
    | .full s' => s'
    | .stuck => s.count ECHO_CNT k ECHO_CNT_NOROUTE

/-- A frame is discarded for want of a route at port `k`, counted, and answered where it asked for an ACK (R484, R486). -/
def State.noRoute (s : State) (k : Nat) (f : EFrame) : State :=
  let s1 := s.count ECHO_CNT k ECHO_CNT_NOROUTE
  if f.ackreq && !f.ack then s1.sendAck (k / 2) f stBAD_TARGET else s1

/-- A frame in transit goes on to port `k`. -/
def State.onward (s : State) (k : Nat) (f : EFrame) : State :=
  match s.place k f with
  | .queued s' _ => s'
  | .full s' => s'
  | .stuck => s.noRoute k f

/-- The treatment of a frame that arrived on port `k` and is not for this chip (R484, cases 3 and 4). -/
def State.forward (s : State) (k : Nat) (f : EFrame) : State :=
  let m := k / 2
  let g := { f with hops := f.hops - 1 }
  if f.dst / 64 = s.nodeId m / 64 then s.onward (portMate k) g
  else
    let i := 256 * m + f.dst / 64
    if !s.bit ECHO_RT i ECHO_RT_V then s.noRoute k f
    else if s.bit ECHO_RT i ECHO_RT_X then
      match s.route (1 - m) f.dst with
      | .inl p => s.onward p g
      | .inr _ => s.noRoute k f
    else s.onward (portMate k) g

/-- A frame of this chip's own binding is offered to its port, and its unit decided where it cannot go. -/
def State.sendOwn (s : State) (m : Nat) (f : EFrame) (b eseq u : Nat) : State :=
  match s.route m f.dst with
  | .inr st => s.echoDecide b eseq u st
  | .inl k =>
    match s.place k f with
    | .queued s' _ => s'
    | .full s' => if f.ackreq then s'.echoAwait b eseq u k else s'.echoDecide b eseq u stTIMEOUT
    | .stuck => (s.count ECHO_CNT k ECHO_CNT_NOROUTE).echoDecide b eseq u stLINK_DOWN

/-! ## Bindings (R489, R490) -/

/-- The units of an entry's word 0: number, node and ring (R490, R492). -/
def State.echoUnits (s : State) (m : Nat) (w0 : Word) : List (Nat × Nat × Nat) :=
  let w := w0.toNat
  if bitN w 31 then
    (List.range 16).filterMap fun i =>
      let j := 256 * m + 16 * (w / 2 ^ 16 % 16) + i
      if s.bit ECHO_MG j ECHO_MG_V then some (i, s.fld ECHO_MG j ECHO_MG_NODE, s.fld ECHO_MG j ECHO_MG_DRING) else none
  else [(0, w / 2 ^ 16 % 2 ^ 14, w % 2 ^ 14)]

/-- An entry that is not sent ends at once with a status. -/
def State.echoEndNow (s : State) (b n idx : Nat) (event : Option (Nat × Nat)) (status : Nat) : State :=
  let x : ESend := { bind := b, ring := n, eseq := idx, ackreq := false, event := event
                     multi := { asked := 1, open_ := 0, fails := if status = stOK then [] else [(0, status)] }, units := [], result := none }
  let s1 := s.txPass n
  ({ s1 with echo := { s1.echo with sends := s1.echo.sends ++ [x] } }).echoFinish x

/-- The next entry of binding `b` is sent (R489 to R492); at an entry of another lap the binding stops and reports STALE_GEN. -/
def State.echoEntry (s : State) (b : Nat) (event : Option (Nat × Nat)) : State :=
  let m := b / 16
  let n := s.fld ECHO_TXB b ECHO_TXB_RING
  let t := s.txRing n
  let ws := s.ringRead n t.next
  let tr := (ws.getLastD 0).toNat
  let len := tr % 2 ^ 12
  if s.ringBad n t.next then
    (s.appendErr stECC (s.ringOwner n) (levelOf (s.ringAddr n t.next)) 3 (0x90 + 2 * m) (s.ringAddr n t.next)).echoEndNow
      b n t.next event stECC
  else if tr / 2 ^ 24 ≠ t.lap then
    if event.isNone && t.told == some t.next then s
    else (s.modTxRing n fun t => { t with told := some t.next }).echoReport b t.next event stSTALE_GEN 0
  else if 116 < len || s.ringEntry n < len + 12 then (s.ringCorrect n t.next).echoEndNow b n t.next event stBAD_TARGET
  else
    let w0 := ws.headD 0
    let mcast := bitN w0.toNat 31
    let ackreq := mcast || bitN w0.toNat 30
    let us := s.echoUnits m w0
    let mask := us.foldl (fun a u => a + 2 ^ u.1) 0
    let multi : Multi := { asked := BitVec.ofNat 16 mask, open_ := BitVec.ofNat 16 mask, fails := [] }
    let x : ESend := { bind := b, ring := n, eseq := t.next, ackreq := ackreq, event := event, multi := multi
                       units := us.map fun u => { unit := u.1, node := u.2.1, port := 2 * m, due := none }, result := none }
    let payload := ((unpackWords ws).drop 8).take len
    let s1 := (s.ringCorrect n t.next).txPass n
    let s2 := { s1 with echo := { s1.echo with sends := s1.echo.sends ++ [x] } }
    if us.isEmpty then s2.echoFinish x
    else
      us.foldl (fun s u =>
        s.sendOwn m { ack := false, ackreq := ackreq, wrap := false, hops := 255, src := s.nodeId m, dst := u.2.1
                      dring := u.2.2, cls := s.fld ECHO_TXB b ECHO_TXB_CLS, eseq := t.next, status := 0
                      payload := payload, own := some (b, t.next, u.1) } b t.next u.1) s2

/-- A binding has an entry to send. -/
def State.echoHas (s : State) (n : Nat) : Bool :=
  s.ringTx n && s.fld GAL_RING_IDX n GAL_RING_IDX_PROD != (s.txRing n).next

/-- The entries up to PROD are sent, until one stops the binding. -/
def State.echoDrain (s : State) (b : Nat) : Nat → State
  | 0 => s
  | fuel + 1 =>
    let n := s.fld ECHO_TXB b ECHO_TXB_RING
    if !s.echoHas n then s
    else
      let s1 := s.echoEntry b none
      if (s1.txRing n).next = (s.txRing n).next then s1 else s1.echoDrain b fuel

/-- An enabled binding of a ring, if there is one. -/
def State.echoBind (s : State) (n : Nat) : Option Nat :=
  (List.range 32).find? fun b => s.bit ECHO_TXB b ECHO_TXB_EN && s.fld ECHO_TXB b ECHO_TXB_RING == n

/-- PROD of transmit ring `n` has advanced: an AUTO binding sends (R489). -/
def State.echoAuto (s : State) (n : Nat) : State :=
  match s.echoBind n with
  | some b => if s.bit ECHO_TXB b ECHO_TXB_MODE || !s.fabricOn then s else s.echoDrain b (s.ringDepth n)
  | none => s

/-- GAL_RING_IDX written, with what a link does about a new PROD (R113, R489). -/
def State.writeRingIdxTx (s : State) (n : Nat) (v : Word) : State :=
  let s1 := s.writeRingIdx n v
  if s1.fld GAL_RING_IDX n GAL_RING_IDX_PROD = s.fld GAL_RING_IDX n GAL_RING_IDX_PROD then s1 else s1.echoAuto n

/-- RING_PROD_WRITE (R116, R489): on a receive ring the write takes no effect on PROD. -/
def execRingProdWrite (ag : Agent) (n : Fin 16384) (prod : Half) (s : State) : Host.Outcome State Fault Refusal :=
  ok (s.asWrite ag GAL_RING_IDX n.val fun s =>
    s.writeRingIdxTx n.val (GAL_RING_IDX_PROD.put (s.reg GAL_RING_IDX n.val) prod.toNat))

/-- The class queue of the first port of a binding's next entry is full (R489). -/
def State.echoBusy (s : State) (b : Nat) : Bool :=
  let n := s.fld ECHO_TXB b ECHO_TXB_RING
  match s.echoUnits (b / 16) ((s.ringRead n (s.txRing n).next).headD 0) with
  | [] => false
  | u :: _ =>
    match s.route (b / 16) u.2.1 with
    | .inr _ => false
    | .inl k =>
      let p := if s.portUp k then k else portMate k
      decide (((s.ep p).queue.filter (·.cls == s.fld ECHO_TXB b ECHO_TXB_CLS)).length ≥ 8)

/-- ECHO_SEND naming ring `n`, for the event with the slot and order given (R489): `none` where it cannot be accepted now;
otherwise the state and, where the event ends at once, its status. -/
def State.echoSend (s : State) (n : Nat) (event : Nat × Nat) : Option (State × Option Nat) :=
  match s.echoBind n with
  | none => some (s, some stLINK_DOWN)
  | some b => if !s.echoHas n || s.echoBusy b then none else some (s.echoEntry b (some event), none)

/-- ECHO_TXB written (R487): a binding is enabled only for a class that the chamber of its ring may bind. -/
def State.writeTxb (s : State) (ag : Agent) (b : Nat) (v : Word) : State :=
  let c := s.ringOwner (ECHO_TXB_RING.get v)
  if ECHO_TXB_EN.get v = 1 && !bitN (s.fld ECHO_CHCFG (b / 16 * 16 + c) ECHO_CHCFG_CLASSES) (ECHO_TXB_CLS.get v) then
    s.discard ag ECHO_TXB b stPERM
  else s.setReg ECHO_TXB b (v &&& 0xFC003FFF)

/-! ## Received frames (R482) -/

/-- The CRC-16 of R482 over bytes, polynomial 0x1021 from 0xFFFF. -/
def crc16 (l : List Byte) : BitVec 16 :=
  l.foldl (fun c b => (List.range 8).foldl (fun c _ =>
    if c.msb then (c <<< 1) ^^^ 0x1021 else c <<< 1) (c ^^^ (b ++ (0 : Byte)))) 0xFFFF

/-- The frame with the bytes `l` (header, payload and CRC) passes the checks of R482. -/
def frameSound (l : List Byte) : Bool :=
  let len := frByte l 12
  l.length == 20 + len && len ≤ 116 && frHalf l 14 == (crc16 (l.take 14)).toNat &&
    frWord l (16 + len) == (crc32 ((l.drop 4).take 10 ++ (l.drop 16).take len)).toNat

/-- TYPE of a frame. -/
def frameType (l : List Byte) : Nat := frByte l 0 / 16

/-- A received frame is checked (R482): `none` where it is discarded and counted; `bad` says that a code-group error struck
it. -/
def State.rxFrame (s : State) (k : Nat) (l : List Byte) (bad : Bool) : State × Bool :=
  let seq := BitVec.ofNat 16 (frHalf l 2)
  let drop := (s.count ECHO_CNT k ECHO_CNT_CRC, false)
  if bad || !frameSound l then drop
  else
    let take (s : State) := (s.modEp k fun p => { p with rxSeq := some seq }, true)
    match (s.ep k).rxSeq with
    | none => take s
    | some last =>
      let d := (seq - last).toNat
      if d = 0 || 0x8000 ≤ d then drop
      else take (if d = 1 then s else s.count ECHO_CNT k ECHO_CNT_LOSS)

/-- The fields of a DATA or ACK frame (R482). An ACK carries only two bits of its class. -/
def parseFrame (l : List Byte) (low : Nat) : EFrame :=
  let ack := frameType l == 2
  { ack := ack, ackreq := bitN (frByte l 0) 3, wrap := bitN (frByte l 0) 2, hops := frByte l 1, src := frHalf l 4 % 2 ^ 14
    dst := frHalf l 6 % 2 ^ 14, dring := frHalf l 8 % 2 ^ 14
    cls := frHalf l 8 / 2 ^ 14 * 4 + (if ack then low else frByte l 13 / 64), eseq := frHalf l 10, status := frByte l 13
    payload := (l.drop 16).take (frByte l 12), own := none }

/-- A consumed DATA frame is written into its ring (R491), or the status that refuses it. -/
def State.consume (s : State) (m : Nat) (f : EFrame) (ns : Word) (eccBad : Bool) : State × Nat :=
  let n := f.dring
  if !s.ringRx n || s.ringEntry n < f.payload.length + 12 then (s, stBAD_TARGET)
  else if !s.bit ECHO_CHCFG (16 * m + s.ringOwner n) ECHO_CHCFG_RXEN then (s, stPERM)
  else if s.ringFull n && !s.bit GAL_RING_CFG n GAL_RING_CFG_AUTO then (s, stFULL)
  else if eccBad then (s, stECC)
  else
    let body := [BitVec.ofNat 32 (f.src * 2 ^ 16 + f.eseq), ns] ++ packWords f.payload
    match s.ringPush n body stOK 0 f.payload.length with
    | some s' => (s', stOK)
    | none => (s, stFULL)

/-- TIME[31:0] at an instant `ago` 1/256 ns before the present. -/
def State.nsAgo (s : State) (ago : Nat) : Word := BitVec.ofNat 32 ((s.stamp - ago) / 256)

/-- ECHO_DATA (R484, R491): a DATA frame of the bytes `l` on port `k`, its /K27.7/ `ago` 1/256 ns in the past; whether a
code-group error struck it, and whether the receive buffer holds an uncorrectable error. -/
def execEchoData (k : Fin 4) (l : List Byte) (ago : Nat) (bad eccBad : Bool) (s : State) : Host.Outcome State Fault Refusal :=
  ok (if !s.portUp k || frameType l != 1 then s
    else
      let (s1, good) := s.rxFrame k l bad
      if !good then s1
      else
        let f := parseFrame l 0
        let m := k.val / 2
        if f.hops = 0 then s1.noRoute k f
        else if f.dst = s1.nodeId 0 || f.dst = s1.nodeId 1 then
          let (s2, st) := s1.consume m f (s1.nsAgo ago) eccBad
          if f.ackreq then s2.sendAck m f st else s2
        else s1.forward k f)

/-- An ACK ends the oldest send it answers (R492). -/
def State.takeAck (s : State) (f : EFrame) : State :=
  match s.echo.sends.find? fun x =>
      x.ackreq && x.eseq == f.eseq && x.result.isNone && x.units.any (fun u => u.node == f.src && u.due.isSome) with
  | none => s
  | some x =>
    match x.units.find? fun u => u.node == f.src && u.due.isSome with
    | some u => s.echoDecide x.bind x.eseq u.unit f.status
    | none => s

/-- ECHO_ACK (R484, R492): an ACK of the bytes `l` on port `k`. -/
def execEchoAck (k : Fin 4) (l : List Byte) (bad : Bool) (s : State) : Host.Outcome State Fault Refusal :=
  ok (if !s.portUp k || frameType l != 2 then s
    else
      let (s1, good) := s.rxFrame k l bad
      if !good then s1
      else
        let f := parseFrame l (s1.free.toNat % 4)
        if f.hops = 0 then s1.noRoute k f
        else if f.dst = s1.nodeId 0 || f.dst = s1.nodeId 1 then s1.takeAck f
        else s1.used.forward k f)

/-- ACK_TIMEOUT (R492): sends whose ACK is overdue. -/
def execAckTimeout (s : State) : Host.Outcome State Fault Refusal :=
  ok (if !s.fabricOn then s
    else s.echo.sends.foldl (fun s x => x.units.foldl (fun s u =>
      match u.due with
      | some d => if d ≤ s.tick then s.echoDecide x.bind x.eseq u.unit stTIMEOUT else s
      | none => s) s) s)

/-! ## Transmission (R487) -/

/-- A frame is put on the line of port `k` under the next LSEQ. -/
def State.putLine (s : State) (k : Nat) (f : ELine) : State :=
  s.modEp k fun p => { p with txSeq := p.txSeq + 1, line := some (p.txSeq + 1, f) }

/-- The class that sends in a slot: the owner, or the next class with a frame, round robin. -/
def State.slotClass (s : State) (k : Nat) : Option Nat :=
  let p := s.ep k
  let i := p.slot
  let own := if i < 8 then s.fld ECHO_CLSLO k (fldAt 4 i) else s.fld ECHO_CLSHI k (fldAt 4 (i - 8))
  if p.queue.any (·.cls == own) then some own else nextChamber p.lend fun c => p.queue.any (·.cls == c)

/-- A frame has left port `k` (R492). -/
def State.frameLeft (s : State) (k : Nat) (f : EFrame) : State :=
  match f.own with
  | none => s
  | some (b, eseq, u) => if f.ackreq then s.echoAwait b eseq u k else s.echoDecide b eseq u stOK

/-- ECHO_SLOT_TRANSMIT (R487): one slot of 256 ns of port `k`. -/
def execEchoSlotTransmit (k : Fin 4) (s : State) : Host.Outcome State Fault Refusal :=
  ok (if !s.fabricOn then s
    else
      let p := s.ep k
      let i := p.slot
      let own := if i < 8 then s.fld ECHO_CLSLO k.val (fldAt 4 i) else s.fld ECHO_CLSHI k.val (fldAt 4 (i - 8))
      let s1 := s.modEp k fun p => { p with slot := (p.slot + 1) % 16 }
      if !s.portUp k then s1
      else
        match s.slotClass k with
        | none => s1
        | some c =>
          match p.queue.find? (·.cls == c) with
          | none => s1
          | some f =>
            let s2 := s1.modEp k fun p => { p with queue := p.queue.erase f, lend := if c = own then p.lend else c }
            (s2.putLine k (.frame f)).frameLeft k f)

/-! ## Ports going up and down (R481, R485, R486) -/

/-- The frames that wait at a port that is DOWN are turned back (R486). -/
def State.turnBack (s : State) (k : Nat) : State :=
  let q := (s.ep k).queue
  q.foldl (fun s f =>
    match s.place k f with
    | .queued s' _ => s'
    | .full s' =>
      match f.own with
      | some (b, eseq, u) => if f.ackreq then s'.echoAwait b eseq u k else s'.echoDecide b eseq u stTIMEOUT
      | none => s'
    | .stuck =>
      match f.own with
      | some (b, eseq, u) => (s.count ECHO_CNT k ECHO_CNT_NOROUTE).echoDecide b eseq u stLINK_DOWN
      | none => s.noRoute k f) (s.modEp k fun p => { p with queue := [] })

/-- A port goes DOWN: DOWNEV, the break map, a BREAK out of the other port, and the frames that wait are turned back. -/
def State.portDown (s : State) (k : Nat) : State :=
  if s.fld ECHO_STAT k ECHO_STAT_LINK ≠ 2 then s.setFld ECHO_STAT k ECHO_STAT_LINK 0
  else
    let s1 := (s.setFld ECHO_STAT k ECHO_STAT_LINK 0).flag ECHO_STAT k ECHO_STAT_DOWNEV
    let seg := s1.segOf k
    let s2 := s1.setSeg (k / 2) seg true
    let s3 := if s2.portUp (portMate k) then s2.putLine (portMate k) (.brk seg 255) else s2
    s3.turnBack k

/-- PORT_DOWN (R481). -/
def execPortDown (k : Fin 4) (s : State) : Host.Outcome State Fault Refusal :=
  ok (if s.fabricOn then s.portDown k else s)

/-- PORT_UP (R481): synchronisation is acquired on port `k`, or has held for 100 µs. -/
def execPortUp (k : Fin 4) (held : Bool) (s : State) : Host.Outcome State Fault Refusal :=
  ok (if !s.fabricOn || !s.bit ECHO_CFG k.val ECHO_CFG_EN || s.portUp k then s
    else if !held then s.setFld ECHO_STAT k.val ECHO_STAT_LINK 1
    else
      let s1 := s.setFld ECHO_STAT k.val ECHO_STAT_LINK 2
      let seg := s1.segOf k
      let s2 := s1.setSeg (k.val / 2) seg false
      if s2.portUp (portMate k) then s2.putLine (portMate k) (.mend seg 255) else s2)

/-- ECHO_CFG written: a port that is disabled goes DOWN. -/
def State.writeEchoCfg (s : State) (k : Nat) (v : Word) : State :=
  let s1 := s.setReg ECHO_CFG k (v &&& 0xFFC0FFFF)
  if ECHO_CFG_EN.get v = 0 then s1.portDown k else s1

/-- A BREAK or MEND frame that names segment `seg`: the map is updated and the frame forwarded (R485). -/
def State.ringNews (s : State) (k : Nat) (l : List Byte) (seg : Nat) (broken : Bool) : State :=
  let s1 := s.setSeg (k / 2) seg broken
  let hops := frByte l 1
  let p := portMate k
  if hops = 0 || !s1.portUp p then s1
  else s1.putLine p (if broken then .brk seg (hops - 1) else .mend seg (hops - 1))

/-- ECHO_BREAK (R485): a BREAK frame of the bytes `l` that names segment `seg`. -/
def execEchoBreak (k : Fin 4) (l : List Byte) (bad : Bool) (seg : Fin 64) (s : State) : Host.Outcome State Fault Refusal :=
  ok (if !s.portUp k || frameType l != 5 then s
    else
      let (s1, good) := s.rxFrame k l bad
      if good then s1.ringNews k l seg true else s1)

/-- MEND (R485): a MEND frame of the bytes `l` that names segment `seg`. -/
def execMend (k : Fin 4) (l : List Byte) (bad : Bool) (seg : Fin 64) (s : State) : Host.Outcome State Fault Refusal :=
  ok (if !s.portUp k || frameType l != 6 then s
    else
      let (s1, good) := s.rxFrame k l bad
      if good then s1.ringNews k l seg false else s1)

/-! ## Time transfer (R495, R496) -/

/-- The 72-bit stamp at byte `i` of a frame (R495). -/
def frStamp (l : List Byte) (i : Nat) : Nat := (frWord l i + 2 ^ 32 * frWord l (i + 4)) * 256 + frByte l (i + 8)

/-- TT_SYNC (R495): a SYNC whose /K27.7/ came `ago` 1/256 ns ago is answered; the answer's own leaves `lead` 1/256 ns from
now. -/
def execTtSync (k : Fin 4) (l : List Byte) (bad : Bool) (ago lead : Nat) (s : State) : Host.Outcome State Fault Refusal :=
  ok (if !s.portUp k || frameType l != 3 then s
    else
      let (s1, good) := s.rxFrame k l bad
      if good then s1.putLine k (.resp (s1.stamp - ago) (s1.stamp + lead)) else s1)

/-- An exchange gives its offset and delay (R496), and a sample to the servo. -/
def State.ttResult (s : State) (k : Nat) (t1 t2 t3 t4 : Int) : State :=
  let a := s.sfld ECHO_CFG k ECHO_CFG_ASYM
  let o := ((t1 - t2) + (t4 - t3)).tdiv 2 + a
  let d := ((t4 - t1) - (t3 - t2)).tdiv 2 - a
  let s1 := (s.setReg ECHO_TTOFS k (BitVec.ofNat 32 (pat 32 o))).setReg ECHO_TTDLY k (BitVec.ofNat 32 (pat 32 d))
  if srcOf (s1.reg TIME_CTRL 0) == 2 && s1.fld TIME_CTRL 0 TIME_CTRL_EPORT == k then s1.offerSample o else s1

/-- TT_RESP (R496): a RESP whose /K27.7/ came `ago` 1/256 ns ago. -/
def execTtResp (k : Fin 4) (l : List Byte) (bad : Bool) (ago : Nat) (s : State) : Host.Outcome State Fault Refusal :=
  ok (if !s.portUp k || frameType l != 4 then s
    else
      let (s1, good) := s.rxFrame k l bad
      match (s1.ep k).tt with
      | some (t1, _) =>
        if good then
          (s1.modEp k fun p => { p with tt := none }).ttResult k t1 (frStamp l 16) (frStamp l 25) (s1.stamp - ago : Nat)
        else s1
      | none => s1)

/-- TT_SYNC_SEND (R495): TTPER ms after the last one; its /K27.7/ leaves `lead` 1/256 ns from now. -/
def execTtSyncSend (k : Fin 4) (lead : Nat) (s : State) : Host.Outcome State Fault Refusal :=
  ok (let per := 640000 * max 1 (s.fld ECHO_CFG k.val ECHO_CFG_TTPER)
    let due := match (s.ep k).ttAt with
      | some t => decide (t + per ≤ s.tick)
      | none => true
    if s.portUp k && s.bit ECHO_CFG k.val ECHO_CFG_TTEN && due then
      (s.putLine k .sync).modEp k fun p => { p with tt := some (s.stamp + lead, s.tick), ttAt := some s.tick }
    else s)

/-- TT_TIMEOUT (R496): no RESP within 100 µs. -/
def execTtTimeout (k : Fin 4) (s : State) : Host.Outcome State Fault Refusal :=
  ok (match (s.ep k).tt with
    | some (_, t) =>
      if s.fabricOn && t + 64000 ≤ s.tick then (s.modEp k fun p => { p with tt := none }).flag ECHO_STAT k.val ECHO_STAT_TTLOST
      else s
    | none => s)

/-! ## Abort and power (R471, R503) -/

/-- A FAB_ABORT of port `k`: its own sends in progress end ABORTED; transit frames stay. -/
def State.echoAbort (s : State) (k : Nat) (mine : Nat → Bool) : State :=
  let s1 := s.modEp k fun p => { p with queue := p.queue.filter fun f =>
    match f.own with
    | some (b, _, _) => !mine (s.fld ECHO_TXB b ECHO_TXB_RING)
    | none => true }
  let queued : List (Nat × Nat × Nat) := (s.ep k).queue.filterMap (·.own)
  s.echo.sends.foldl (fun s x => x.units.foldl (fun s u =>
    if mine x.ring && ((u.due.isSome && u.port == k) || queued.contains (x.bind, x.eseq, u.unit)) then
      s.echoDecide x.bind x.eseq u.unit stABORTED
    else s) s) s1

/-- PARK and KEEP: every port is DOWN (R503). -/
def State.echoPark (s : State) : State :=
  forN 4 s fun k s =>
    let s1 := if s.fld ECHO_STAT k ECHO_STAT_LINK = 2 then s.flag ECHO_STAT k ECHO_STAT_DOWNEV else s
    s1.setFld ECHO_STAT k ECHO_STAT_LINK 0

/-- On return to RUN the break maps are cleared (R503). -/
def State.echoUnpark (s : State) : State :=
  forN 2 s fun m s => (s.setReg ECHO_BRKLO m 0).setReg ECHO_BRKHI m 0

end Sys2Proof.Machine
end

