-- ==== Sys2Proof/Machine/Ethernet.lean ====
section
/-! DEFINITION. The Ethernet MACs (R497 to R501). -/

namespace Sys2Proof.Machine

/-- A MAC. -/
def State.mac (s : State) (k : Fin 4) : EMac := vget s.eth k
/-- A MAC changed. -/
def State.modMac (s : State) (k : Fin 4) (f : EMac → EMac) : State := { s with eth := vset s.eth k (f (s.mac k)) }
/-- A MAC is enabled and its link is up. -/
def State.macUp (s : State) (k : Fin 4) : Bool :=
  s.fabricOn && s.bit ETH_CFG k.val ETH_CFG_EN && s.bit ETH_STAT k.val ETH_STAT_LINK

/-- The partner pauses transmission: ETH_STAT.PAUSED (R500). -/
def State.macPaused (s : State) (k : Fin 4) : Bool :=
  match (s.mac k).pause with
  | some (t, ns) => decide ((s.tick - t) * 25 < ns * 16)
  | none => false

/-! ## Receiving (R498, R499) -/

/-- The number with the bytes `l`, most significant first, as Ethernet sends its fields. -/
def beNum (l : List Byte) : Nat := l.foldl (fun n b => 256 * n + b.toNat) 0

/-- The destination filter (R498). -/
def State.macAccepts (s : State) (k : Fin 4) (l : List Byte) : Bool :=
  let da := l.take 6
  let mine := (s.reg ETH_MACLO k.val).toNat + 2 ^ 32 * s.fld ETH_MACHI k.val ETH_MACHI_VALUE
  let h := (crc32 da).toNat / 2 ^ 26
  let hash := (s.reg ETH_HASHLO k.val).toNat + 2 ^ 32 * (s.reg ETH_HASHHI k.val).toNat
  let bc := da.all (· == 0xFF)
  s.bit ETH_CFG k.val ETH_CFG_PROMISC ||
    (frWord da 0 + 2 ^ 32 * frHalf da 4 == mine) || (bc && s.bit ETH_CFG k.val ETH_CFG_BCAST) ||
    (!bc && bitN (frByte da 0) 0 && bitN hash h)

/-- The frame carries a C-tag. -/
def ethTagged (l : List Byte) : Bool := beNum ((l.drop 12).take 2) == 0x8100

/-- The queue of a frame (R498). -/
def State.rxQueue (s : State) (k : Fin 4) (l : List Byte) : Nat :=
  if beNum ((l.drop 12).take 2) = 0x88F7 then s.fld ETH_CFG k.val ETH_CFG_PTPQ
  else if ethTagged l then s.fld ETH_PCPMAP k.val (fldAt 3 (frByte l 14 / 32))
  else s.fld ETH_CFG k.val ETH_CFG_DEFQ

/-- The pieces of a frame's data over the entries of a ring with entries of `e` bytes (R499): 16 bytes of the first entry are
its words 0 to 2 and its trailer. -/
def pieces (e : Nat) : Nat → List Byte → List (List Byte)
  | 0, _ => []
  | fuel + 1, l => if l.length ≤ e - 4 then [l] else l.take (e - 4) :: pieces e fuel (l.drop (e - 4))

/-- The data of the entries of a frame, the first entry first. -/
def framePieces (e : Nat) (l : List Byte) : List (List Byte) :=
  if l.length ≤ e - 16 then [l] else l.take (e - 16) :: pieces e l.length (l.drop (e - 16))

/-- The entries of a frame are written; the last one carries KIND 0x0, the others KIND 0x4 (R499). -/
def State.putPieces (s : State) (n : Nat) (head : List Word) : List (List Byte) → State
  | [] => s
  | p :: rest =>
    let kind := if rest.isEmpty then 0 else 4
    ((s.ringPush n (head ++ packWords p) stOK kind p.length).getD s).putPieces n [] rest

/-- Words 1 and 2 of an entry that carries a stamp in 1/256 ns (R499, R500). -/
def stampWords (t : Nat) : List Word :=
  let ns := t / 256
  [BitVec.ofNat 32 ns, BitVec.ofNat 32 (ns / 2 ^ 32 % 2 ^ 16 * 2 ^ 16 + t % 256 * 2 ^ 8)]

/-- A frame `l` without its FCS, stamped `t`, is written into its queue's ring, or dropped (R498). -/
def State.ethStore (s : State) (k : Fin 4) (l : List Byte) (t : Nat) : State :=
  let q := s.rxQueue k l
  let i := 8 * k.val + q
  let n := s.fld ETH_RXQ i ETH_RXQ_RING
  let ps := framePieces (s.ringEntry n) l
  let room := s.bit GAL_RING_CFG n GAL_RING_CFG_AUTO || decide (ps.length + s.ringCount n ≤ s.ringDepth n)
  if s.bit ETH_RXQ i ETH_RXQ_EN && s.ringRx n && room then
    let w0 := l.length + q * 2 ^ 16 + b2n (ethTagged l) * 2 ^ 19
    s.putPieces n (BitVec.ofNat 32 w0 :: stampWords t) ps
  else s.count ETH_CNT k.val ETH_CNT_RXDROP

/-- ETH_FRAME_RECEIVED (R498, R499, R501): a frame of the bytes `l`, FCS included, on MAC `k`, whose timestamp point was
captured `ago` 1/256 ns in the past. -/
def execEthFrameReceived (k : Fin 4) (l : List Byte) (ago : Nat) (s : State) : Host.Outcome State Fault Refusal :=
  ok (if !s.macUp k then s
    else if l.length < 64 || 1522 < l.length then s.count ETH_CNT k.val ETH_CNT_LEN
    else
      let body := l.take (l.length - 4)
      if frWord l (l.length - 4) != (crc32 body).toNat then s.count ETH_CNT k.val ETH_CNT_FCS
      else if s.bit ETH_CFG k.val ETH_CFG_RXPAUSE && beNum (l.take 6) == 0x0180C2000001 && beNum ((l.drop 12).take 4) == 0x88080001 then
        let quantum := 512 * 10 ^ (2 - min 2 (s.fld ETH_STAT k.val ETH_STAT_SPEED))
        s.modMac k fun m => { m with pause := some (s.tick, beNum ((l.drop 16).take 2) * quantum) }
      else if !s.macAccepts k l then s
      else s.ethStore k body (s.stamp - ago - s.fld ETH_TSLAT k.val ETH_TSLAT_RXLAT))

/-! ## Sending (R499, R500) -/

/-- A chain of entries at CONS (R499): not complete yet, an entry of another lap, an uncorrectable error, inconsistent, or a frame with its
data and TS; with the entries it spans. -/
inductive Chain
  | none
  | stale
  | bad (status entries : Nat)
  | frame (ts : Bool) (data : List Byte) (entries : Nat)

/-- The chain of transmit ring `n` from index `idx`, expected lap `lap`: data so far, bytes still expected. -/
def State.readChain (s : State) (n : Nat) : Nat → Nat → Nat → Nat → Option (Bool × Nat) → List Byte → Bool → Chain
  | 0, _, _, _, _, _, _ => .none
  | fuel + 1, idx, lap, cnt, head, acc, wrong =>
    if idx = s.fld GAL_RING_IDX n GAL_RING_IDX_PROD then .none
    else if s.ringBad n idx then .bad stECC (cnt + 1)
    else
      let ws := s.ringRead n idx
      let tr := (ws.getLastD 0).toNat
      if tr / 2 ^ 24 ≠ lap then .stale
      else
        let kind := tr / 2 ^ 12 % 16
        let info := tr % 2 ^ 12
        let off := if cnt = 0 then 12 else 0
        let hd := head.getD (bitN (ws.headD 0).toNat 31, (ws.headD 0).toNat % 2 ^ 16)
        let acc' := acc ++ ((unpackWords ws).drop off).take info
        let wrong' := wrong || decide (s.ringEntry n < off + 4 + info) || (kind != 0 && kind != 4)
        let d := s.ringDepth n
        if kind = 4 then
          s.readChain n fuel ((idx + 1) % 2 ^ 16) (if idx % d + 1 = d then lapNext lap else lap) (cnt + 1) (some hd) acc' wrong'
        else if wrong' || acc'.length ≠ hd.2 || 1518 < hd.2 then .bad stBAD_TARGET (cnt + 1)
        else .frame hd.1 acc' (cnt + 1)

/-- What transmit queue `q` has to send. -/
def State.ethHead (s : State) (k : Fin 4) (q : Nat) : Chain :=
  let i := 8 * k.val + q
  let n := s.fld ETH_TXQ i ETH_TXQ_RING
  let t := s.txRing n
  if s.bit ETH_TXQ i ETH_TXQ_EN && s.ringTx n then s.readChain n (s.ringDepth n) t.next t.lap 0 none [] false else .none

/-- The queue has something to do in a slot: a frame, a chain to skip, or an entry of another lap not yet reported. -/
def State.ethHas (s : State) (k : Fin 4) (q : Nat) : Bool :=
  match s.ethHead k q with
  | .none => false
  | .stale =>
    let n := s.fld ETH_TXQ (8 * k.val + q) ETH_TXQ_RING
    (s.txRing n).told != some (s.txRing n).next
  | _ => true

/-- An outcome is written into the CRING of queue `q` (R500): a CRING without room loses it. -/
def State.ethOutcome (s : State) (k : Fin 4) (q idx status t : Nat) : State :=
  let c := s.fld ETH_TXC (8 * k.val + q) ETH_TXC_RING
  if s.ringRx c then (s.ringPush c (BitVec.ofNat 32 idx :: stampWords t) status 3 12).getD s else s

/-- CONS and the reader of a queue's ring pass a chain. -/
def State.ethPass (s : State) (n count : Nat) : State :=
  let s1 := forN count s fun _ s => s.txPass n
  s1.setFld GAL_RING_IDX n GAL_RING_IDX_CONS (s1.txRing n).next

/-- A frame as it goes onto the line: padded to 60 bytes, the FCS appended (R497, R499). -/
def ethLine (l : List Byte) : List Byte :=
  let p := l ++ List.replicate (60 - l.length) 0
  p ++ wordBytes (crc32 p)

/-- The opportunity of queue `q` of MAC `k`; a frame's timestamp point is captured `lead` 1/256 ns from now. -/
def State.ethSend (s : State) (k : Fin 4) (q lead : Nat) : State :=
  let n := s.fld ETH_TXQ (8 * k.val + q) ETH_TXQ_RING
  let idx := (s.txRing n).next
  match s.ethHead k q with
  | .none => s
  | .stale =>
    if (s.txRing n).told == some idx then s
    else (s.modTxRing n fun t => { t with told := some idx }).ethOutcome k q idx stSTALE_GEN s.stamp
  | .bad st cnt =>
    let s1 := (s.ethPass n cnt).count ETH_CNT k.val ETH_CNT_TXERR
    s1.ethOutcome k q idx st s.stamp
  | .frame ts data cnt =>
    let s1 := (s.ethPass n cnt).modMac k fun m => { m with line := ethLine data }
    if ts then s1.ethOutcome k q idx stOK (s.stamp + lead + s.fld ETH_TSLAT k.val ETH_TSLAT_TXLAT) else s1

/-- ETH_TRANSMIT (R500): the next of the 16 slots of MAC `k`. -/
def execEthTransmit (k : Fin 4) (lead : Nat) (s : State) : Host.Outcome State Fault Refusal :=
  ok (if !s.macUp k || s.macPaused k then s
    else
      let m := s.mac k
      let w := if m.slot < 8 then s.reg ETH_SLOTLO k.val else s.reg ETH_SLOTHI k.val
      let f := (fldAt 4 (m.slot % 8)).get w
      let s1 := s.modMac k fun m => { m with slot := (m.slot + 1) % 16 }
      if f / 8 = 1 && s1.ethHas k (f % 8) then s1.ethSend k (f % 8) lead
      else
        match ((List.range 8).map fun i => (m.lend + 1 + i) % 8).find? fun q => s1.ethHas k q with
        | some q => (s1.modMac k fun m => { m with lend := q }).ethSend k q lead
        | none => s1)

/-! ## Link and MDIO (R497, R504) -/

/-- ETH_LINK_CHANGE (R497): the in-band status of the PHY. -/
def execEthLinkChange (k : Fin 4) (up : Bool) (speed : BitVec 2) (s : State) : Host.Outcome State Fault Refusal :=
  ok (if !s.fabricOn || !s.bit ETH_CFG k.val ETH_CFG_EN then s
    else
      let s1 := (s.setBit ETH_STAT k.val ETH_STAT_LINK up).setFld ETH_STAT k.val ETH_STAT_SPEED speed.toNat
      if s.bit ETH_STAT k.val ETH_STAT_LINK == up then s1 else s1.flag ETH_STAT k.val ETH_STAT_LINKEV)

/-- MDIO_TRANSACTION (R497): a write of ETH_MDIO starts a transaction; one in progress keeps the register. -/
def State.writeMdio (s : State) (v : Word) : State :=
  if s.bit ETH_MDIO 0 ETH_MDIO_BUSY then s else s.setReg ETH_MDIO 0 ((v &&& 0x7FFCFFFF) ||| 0x80000000)

/-- MDIO_TRANSACTION (R497). -/
def execMdioTransaction (ag : Agent) (v : Word) (s : State) : Host.Outcome State Fault Refusal :=
  ok (s.asWrite ag ETH_MDIO 0 fun s => s.writeMdio v)

/-- MDIO_DONE (R497): the transaction ends; a read operation leaves its result. -/
def execMdioDone (data : Half) (s : State) : Host.Outcome State Fault Refusal :=
  ok (if !s.bit ETH_MDIO 0 ETH_MDIO_BUSY then s
    else
      let op := s.fld ETH_MDIO 0 ETH_MDIO_OP
      let read := if s.bit ETH_MDIO 0 ETH_MDIO_ST then op == 2 else op == 2 || op == 3
      let s1 := s.setBit ETH_MDIO 0 ETH_MDIO_BUSY false
      if read then s1.setFld ETH_MDIO 0 ETH_MDIO_DATA data.toNat else s1)

/-- ETH_CFG written: a MAC that is disabled loses its link. -/
def State.writeEthCfg (s : State) (k : Nat) (v : Word) : State :=
  let s1 := s.setReg ETH_CFG k (v &&& 0xFFC00000)
  if ETH_CFG_EN.get v = 0 && s.bit ETH_STAT k ETH_STAT_LINK then
    (s1.setBit ETH_STAT k ETH_STAT_LINK false).flag ETH_STAT k ETH_STAT_LINKEV
  else s1

/-- PARK and KEEP: every MAC is DOWN, and a transaction in progress on MDIO ends (R503). -/
def State.ethPark (s : State) : State :=
  forN 4 (s.setBit ETH_MDIO 0 ETH_MDIO_BUSY false) fun k s =>
    let s1 := if s.bit ETH_STAT k ETH_STAT_LINK then s.flag ETH_STAT k ETH_STAT_LINKEV else s
    (s1.setBit ETH_STAT k ETH_STAT_LINK false).modMac (Fin.ofNat 4 k) fun m => { m with pause := none }

end Sys2Proof.Machine
end

