-- ==== Sys2Proof/Machine/Can.lean ====
section
/-! DEFINITION. The CAN controllers (R507 to R520). -/

namespace Sys2Proof.Machine

/-- A controller. -/
def State.canc (s : State) (k : Fin 8) : CanCtl := vget s.can k
/-- A controller changed. -/
def State.modCan (s : State) (k : Fin 8) (f : CanCtl → CanCtl) : State := { s with can := vset s.can k (f (s.canc k)) }
/-- A controller takes part in its bus. -/
def State.canOn (s : State) (k : Fin 8) : Bool := s.fabricOn && s.bit CAN_CFG k.val CAN_CFG_EN
/-- MODE of a controller: 0b11 is NORMAL (R510). -/
def State.canMode (s : State) (k : Fin 8) : Nat := s.fld CAN_CFG k.val CAN_CFG_MODE % 3
/-- The controller is bus-off (R518). -/
def State.busOff (s : State) (k : Fin 8) : Bool := s.fld CAN_ERR k.val CAN_ERR_STATE == 2
/-- The register index of a transmit buffer. -/
def txbIdx (k : Fin 8) (b : Nat) : Nat := 3 * k.val + b
/-- A transmit buffer is pending. -/
def State.txPend (s : State) (k : Fin 8) (b : Nat) : Bool := s.bit CAN_TXB_RES (txbIdx k b) CAN_TXB_RES_PEND

/-- The data length of a frame (R512); a remote frame carries no data. -/
def canLen (fd rtr : Bool) (dlc : Nat) : Nat :=
  if rtr then 0
  else if dlc ≤ 8 then dlc
  else if !fd then 8
  else [12, 16, 20, 24, 32, 48, 64].getD (dlc - 9) 64

/-! ## Receiving (R511, R512) -/

/-- Filter `j` of a controller matches (R511). -/
def State.canMatch (s : State) (k : Fin 8) (f : CanFrame) (j : Nat) : Bool :=
  let i := 16 * k.val + j
  let mask := s.fld CAN_FLTM i CAN_FLTM_MASK
  s.bit CAN_FLTC i CAN_FLTC_EN && (f.id.toNat ^^^ s.fld CAN_FLTID i CAN_FLTID_ID) &&& mask == 0 &&
    s.bit CAN_FLTID i CAN_FLTID_IDE == f.ide &&
    (!s.bit CAN_FLTM i CAN_FLTM_RTRM || s.bit CAN_FLTID i CAN_FLTID_RTR == f.rtr)

/-- A frame is discarded for want of room (R512). -/
def State.canLost (s : State) (k : Fin 8) : State :=
  (s.count CAN_CNT k.val CAN_CNT_RXDROP).flag CAN_STAT k.val CAN_STAT_RXLOST

/-- A valid frame with TIME[31:0] at its SOF passes the filters and is written into its ring (R511, R512). -/
def State.canReceive (s : State) (k : Fin 8) (f : CanFrame) (sof : Word) : State :=
  match (List.range 16).find? fun j => s.canMatch k f j with
  | none => s.count CAN_CNT k.val CAN_CNT_RXNOM
  | some j =>
    let n := s.fld CAN_FLTC (16 * k.val + j) CAN_FLTC_RING
    let len := canLen f.fdf f.rtr f.dlc.toNat
    let data := (f.data ++ List.replicate len 0).take len
    if !s.ringRx n || s.bit GAL_RING_CFG n GAL_RING_CFG_AUTO || s.ringOwner n != s.ownerOf 0x12 k.val ||
        s.ringFull n || s.ringEntry n < 16 + len then s.canLost k
    else
      let w0 := b2n f.ide * 2 ^ 31 + b2n f.rtr * 2 ^ 30 + f.id.toNat
      let w1 := b2n f.fdf * 2 ^ 31 + b2n f.brs * 2 ^ 30 + b2n f.esi * 2 ^ 29 + f.dlc.toNat * 2 ^ 24 + j * 2 ^ 20
      match s.ringPush n ([BitVec.ofNat 32 w0, BitVec.ofNat 32 w1, sof] ++ packWords data) stOK 5 len with
      | some s' => s'.flag CAN_STAT k.val CAN_STAT_RXAV
      | none => s.canLost k

/-! ## Fault confinement (R507, R518) -/

/-- A buffer ends (R517): TXDONE, and the outcome in RES. -/
def State.txbEnd (s : State) (k : Fin 8) (b status : Nat) : State :=
  (s.setReg CAN_TXB_RES (txbIdx k b) (CAN_TXB_RES_STATUS.put 0 status)).setFld CAN_STAT k.val CAN_STAT_TXDONE
    (s.fld CAN_STAT k.val CAN_STAT_TXDONE ||| 2 ^ b)

/-- Every pending buffer ends. -/
def State.canEndAll (s : State) (k : Fin 8) (status : Nat) : State :=
  (forN 3 s fun b s => if s.txPend k b then s.txbEnd k b status else s).modCan k fun c => { c with bus := none }

/-- The error state follows the counters: `tec` is the transmit error counter before its limit (R518). -/
def State.canConfine (s : State) (k : Fin 8) (tec : Nat) : State :=
  let rec_ := s.fld CAN_ERR k.val CAN_ERR_REC
  let old := s.fld CAN_ERR k.val CAN_ERR_STATE
  let s1 := s.setFld CAN_ERR k.val CAN_ERR_TEC (min 255 tec)
  if 255 < tec then
    (((s1.setFld CAN_ERR k.val CAN_ERR_STATE 2).flag CAN_STAT k.val CAN_STAT_BOFF).modCan k fun c =>
      { c with recover := false }).canEndAll k stLINK_DOWN
  else if 127 < tec || 127 < rec_ then
    let s2 := s1.setFld CAN_ERR k.val CAN_ERR_STATE 1
    if old = 0 then s2.flag CAN_STAT k.val CAN_STAT_EPASS else s2
  else s1.setFld CAN_ERR k.val CAN_ERR_STATE 0

/-- A frame received without error lowers the receive error counter; above 127 it returns to a value of 119 to 127. -/
def State.canGood (s : State) (k : Fin 8) : State :=
  let r := s.fld CAN_ERR k.val CAN_ERR_REC
  let s1 :=
    if 127 < r then s.used.setFld CAN_ERR k.val CAN_ERR_REC (119 + s.free.toNat % 9)
    else s.setFld CAN_ERR k.val CAN_ERR_REC (r - 1)
  s1.canConfine k (s1.fld CAN_ERR k.val CAN_ERR_TEC)

/-- CAN_FRAME_RECEIVED (R511): frame `f` became valid; its SOF lies `ago` 1/256 ns in the past. -/
def execCanFrameReceived (k : Fin 8) (f : CanFrame) (ago : Nat) (s : State) : Host.Outcome State Fault Refusal :=
  ok (if !s.canOn k || s.canMode k == 2 || s.busOff k then s else (s.canReceive k f (s.nsAgo ago)).canGood k)

/-- CAN_RECEIVE_ERROR (R507): an error on a frame being received. `code`: 1 stuff, 2 form, 3 ACK, 4 bit 1, 5 bit 0, 6 CRC as LEC,
0 a recessive res bit of an FD frame; `eight`: the error raises the counter by 8. -/
def execCanReceiveError (k : Fin 8) (code : Fin 7) (eight : Bool) (s : State) : Host.Outcome State Fault Refusal :=
  ok (if !s.canOn k || s.canMode k == 2 || s.busOff k then s
    else if code = 0 && s.bit CAN_CFG k.val CAN_CFG_PEXEN then s.flag CAN_STAT k.val CAN_STAT_PEX
    else
      let lec := if code = 0 then 2 else code.val
      let r := min 255 (s.fld CAN_ERR k.val CAN_ERR_REC + if eight then 8 else 1)
      let s1 := (s.setFld CAN_ERR k.val CAN_ERR_LEC lec).setFld CAN_ERR k.val CAN_ERR_REC r
      s1.canConfine k (s1.fld CAN_ERR k.val CAN_ERR_TEC))

/-! ## Transmitting (R514 to R517) -/

/-- A write of CAN_TXBk_CTL (R514, R517). -/
def State.writeTxbCtl (s : State) (ag : Agent) (k : Fin 8) (b : Nat) (v : Word) : State :=
  let i := txbIdx k b
  let abort := CAN_TXB_CTL_ABORT.get v = 1
  if s.txPend k b then
    if abort then
      match (s.canc k).bus with
      | some t =>
        if t.buf.val = b then s.modCan k fun c => { c with bus := some { t with abort := true } }
        else s.txbEnd k b stABORTED
      | none => s.txbEnd k b stABORTED
    else s.discard ag CAN_TXB_CTL i stPERM
  else
    let s1 := s.setReg CAN_TXB_CTL i (v &&& 0xFC000000)
    if CAN_TXB_CTL_REQ.get v = 0 then s1
    else
      let fd := CAN_TXB_CTL_FDF.get v = 1
      let rtr := bitN (s.reg CAN_TXB_ID i).toNat 30
      if (fd && rtr) || (!fd && CAN_TXB_CTL_BRS.get v = 1) then s1.txbEnd k b stBAD_TARGET
      else if s.canMode k = 1 then s1.txbEnd k b stPERM
      else if s.busOff k then s1.txbEnd k b stLINK_DOWN
      else s1.setBit CAN_TXB_RES i CAN_TXB_RES_PEND true

/-- A write of CAN_TXBk_ID or of the data window: discarded and logged while the buffer is pending (R514). -/
def State.writeTxbWord (s : State) (ag : Agent) (f : RegFam) (j : Nat) (k : Fin 8) (b : Nat) (v : Word) : State :=
  if s.txPend k b then s.discard ag f j stPERM else s.setReg f j v

/-- CAN_REQ (R514): a write of CAN_TXBk_CTL with REQ = 1. -/
def execCanReq (ag : Agent) (k : Fin 8) (b : Fin 3) (v : Word) (s : State) : Host.Outcome State Fault Refusal :=
  ok (s.asWrite ag CAN_TXB_CTL (txbIdx k b) fun s =>
    s.writeTxbCtl ag k b.val (CAN_TXB_CTL_REQ.put (CAN_TXB_CTL_ABORT.put v 0) 1))

/-- CAN_ABORT (R517): a write of CAN_TXBk_CTL with ABORT = 1. -/
def execCanAbort (ag : Agent) (k : Fin 8) (b : Fin 3) (v : Word) (s : State) : Host.Outcome State Fault Refusal :=
  ok (s.asWrite ag CAN_TXB_CTL (txbIdx k b) fun s =>
    s.writeTxbCtl ag k b.val (CAN_TXB_CTL_ABORT.put (CAN_TXB_CTL_REQ.put v 0) 1))

/-- The arbitration field of a buffer's frame as a number: the lower one wins (R515). -/
def State.arbKey (s : State) (k : Fin 8) (b : Nat) : Nat :=
  let w := (s.reg CAN_TXB_ID (txbIdx k b)).toNat
  let rtr := b2n (bitN w 30)
  let id := w % 2 ^ 29
  if bitN w 31 then id / 2 ^ 18 * 2 ^ 21 + 3 * 2 ^ 19 + id % 2 ^ 18 * 2 + rtr
  else id / 2 ^ 18 * 2 ^ 21 + rtr * 2 ^ 20

/-- The buffer selected at a selection point (R515). -/
def State.canSelect (s : State) (k : Fin 8) : Option (Fin 3) :=
  let pend := ([0, 1, 2] : List (Fin 3)).filter fun b => s.txPend k b.val
  if s.bit CAN_CFG k.val CAN_CFG_TXPRIO then pend.head?
  else pend.foldl (fun best b =>
    match best with
    | none => some b
    | some a => if s.arbKey k b.val < s.arbKey k a.val then some b else best) none

/-- TX_SELECTION (R515): controller `k` may start a frame. -/
def execTxSelection (k : Fin 8) (s : State) : Host.Outcome State Fault Refusal :=
  ok (if !s.canOn k || s.busOff k || (s.canc k).bus.isSome then s
    else
      match s.canSelect k with
      | some b => s.modCan k fun c => { c with bus := some { buf := b, abort := false, sof := s.nsLo } }
      | none => s)

/-- The frame in a transmit buffer. -/
def State.txbFrame (s : State) (k : Fin 8) (b : Nat) : CanFrame :=
  let i := txbIdx k b
  let w := s.reg CAN_TXB_ID i
  let fd := s.bit CAN_TXB_CTL i CAN_TXB_CTL_FDF
  let dlc := s.fld CAN_TXB_CTL i CAN_TXB_CTL_DLC
  { ide := bitN w.toNat 31, rtr := bitN w.toNat 30, id := w.extractLsb' 0 29, fdf := fd
    brs := s.bit CAN_TXB_CTL i CAN_TXB_CTL_BRS, esi := fd && s.fld CAN_ERR k.val CAN_ERR_STATE == 1
    dlc := BitVec.ofNat 4 dlc
    data := (unpackWords ((List.range 16).map fun j => s.reg CAN_TXB_DATA (16 * i + j))).take (canLen fd (bitN w.toNat 30) dlc) }

/-- CAN_TX_END (R515 to R517): how the frame on the bus ended. -/
def execCanTxEnd (k : Fin 8) (how : CanEnd) (s : State) : Host.Outcome State Fault Refusal :=
  ok (match (s.canc k).bus with
    | none => s
    | some t =>
      if !s.canOn k then s
      else
        let b := t.buf.val
        let s1 := s.modCan k fun c => { c with bus := none }
        match how with
        | .success =>
          let s2 := (s1.txbEnd k b stOK).setReg CAN_TXB_TS (txbIdx k b) t.sof
          let s3 := s2.canConfine k (s2.fld CAN_ERR k.val CAN_ERR_TEC - 1)
          if s.canMode k = 2 then s3.canReceive k (s.txbFrame k b) t.sof else s3
        | .lost => if t.abort then s1.txbEnd k b stABORTED else s1
        | .error lec excused =>
          let s2 := s1.setFld CAN_ERR k.val CAN_ERR_LEC lec.val
          let s3 := s2.canConfine k (s2.fld CAN_ERR k.val CAN_ERR_TEC + if excused then 0 else 8)
          if t.abort && s3.txPend k b then s3.txbEnd k b stABORTED else s3)

/-! ## Bus-off recovery, enables, abort and power (R518, R520) -/

/-- CAN_CTRL written (R518). -/
def State.writeCanCtrl (s : State) (k : Fin 8) (v : Word) : State :=
  if CAN_CTRL_RECOVER.get v = 1 && s.busOff k then s.modCan k fun c => { c with recover := true } else s

/-- RECOVER (R518): a write of CAN_CTRL. -/
def execRecover (ag : Agent) (k : Fin 8) (v : Word) (s : State) : Host.Outcome State Fault Refusal :=
  ok (s.asWrite ag CAN_CTRL k.val fun s => s.writeCanCtrl k v)

/-- The error counters and the error state are cleared. -/
def State.canClear (s : State) (k : Fin 8) : State :=
  (((s.setFld CAN_ERR k.val CAN_ERR_STATE 0).setFld CAN_ERR k.val CAN_ERR_TEC 0).setFld CAN_ERR k.val CAN_ERR_REC 0).modCan k
    fun c => { c with recover := false }

/-- BUS_OFF_RECOVERY (R518): 128 occurrences of 11 recessive bits have been counted. -/
def execBusOffRecovery (k : Fin 8) (s : State) : Host.Outcome State Fault Refusal :=
  ok (if s.canOn k && s.busOff k && (s.bit CAN_CFG k.val CAN_CFG_AUTOREC || (s.canc k).recover) then s.canClear k else s)

/-- TRIPLE is honoured (R509). -/
def State.tripleOk (s : State) (k : Nat) : Bool :=
  let t1 := s.fld CAN_NBT k CAN_NBT_NTSEG1 + 1
  let t2 := s.fld CAN_NBT k CAN_NBT_NTSEG2 + 1
  decide (640 ≤ (s.fld CAN_NBT k CAN_NBT_NBRP + 1) * (1 + t1 + t2)) && decide (3 ≤ t1)

/-- What a write of CAN_CFG.EN does (R509, R520), after the fields have been written. -/
def State.canEnable (s : State) (k : Fin 8) (was : Bool) : State :=
  let en := s.bit CAN_CFG k.val CAN_CFG_EN
  if was && !en then s.canEndAll k stABORTED
  else if en && s.bit CAN_NBT k.val CAN_NBT_TRIPLE && !s.tripleOk k.val then s.flag CAN_STAT k.val CAN_STAT_TRIPIGN
  else s

/-- PARK and KEEP: pending buffers end with LINK_DOWN (R520). -/
def State.canPark (s : State) : State := forN 8 s fun k s => s.canEndAll (Fin.ofNat 8 k) stLINK_DOWN

/-- On return to RUN an enabled controller clears its error counters (R520). -/
def State.canUnpark (s : State) : State :=
  forN 8 s fun k s => if s.bit CAN_CFG k CAN_CFG_EN then s.canClear (Fin.ofNat 8 k) else s

end Sys2Proof.Machine
end

