-- ==== Sys2Proof/Machine/Serial.lean ====
section
/-! DEFINITION. SPI, XSPI, UART, I2C and GPIO (R521 to R531). -/

namespace Sys2Proof.Machine

/-! ## SPI as a host (R521) -/

/-- An SPI controller. -/
def State.spic (s : State) (k : Fin 4) : SpiCtl := vget s.spi k
/-- FIFO fills and BUSY of SPI_STAT follow the FIFOs. -/
def State.modSpi (s : State) (k : Fin 4) (f : SpiCtl → SpiCtl) : State :=
  let c := f (s.spic k)
  let s1 := { s with spi := vset s.spi k c }
  ((s1.setFld SPI_STAT k.val SPI_STAT_TXCNT c.tx.length).setFld SPI_STAT k.val SPI_STAT_RXCNT c.rx.length).setBit
    SPI_STAT k.val SPI_STAT_BUSY (!c.tx.isEmpty)
/-- The controller is a target: SPI0 only (R522). -/
def State.spiTgt (s : State) (k : Fin 4) : Bool := k == 0 && s.bit SPI_CFG 0 SPI_CFG_TGT
/-- A word of WLEN bits. -/
def State.spiWord (s : State) (k : Fin 4) (v : Word) : Word :=
  BitVec.ofNat 32 (v.toNat % 2 ^ (max 3 (s.fld SPI_CFG k.val SPI_CFG_WLEN) + 1))
/-- The controller is enabled and the fabric clock runs. -/
def State.spiOn (s : State) (k : Fin 4) : Bool := s.fabricOn && s.bit SPI_CFG k.val SPI_CFG_EN

/-- CS of a host (R521): it falls before the first word, and rises after the last one unless CSHOLD = 1. -/
def State.spiCs (s : State) (k : Fin 4) : State :=
  if s.spiTgt k then s
  else if !(s.spic k).tx.isEmpty && s.spiOn k then s.modSpi k fun c => { c with csLow := true }
  else if !s.bit SPI_CFG k.val SPI_CFG_CSHOLD then s.modSpi k fun c => { c with csLow := false }
  else s

/-- SPI_TXD written (R521). -/
def State.writeSpiTxd (s : State) (k : Fin 4) (v : Word) : State :=
  if (s.spic k).tx.length ≥ 16 then s.flag SPI_STAT k.val SPI_STAT_OVR
  else (s.modSpi k fun c => { c with tx := c.tx ++ [s.spiWord k v] }).spiCs k

/-- SPI_TXD_WRITE (R521). -/
def execSpiTxdWrite (ag : Agent) (k : Fin 4) (v : Word) (s : State) : Host.Outcome State Fault Refusal :=
  ok (s.asWrite ag SPI_TXD k.val fun s => s.writeSpiTxd k v)

/-- SPI_WORD_DONE (R521): the word at the head of the FIFO has been shifted out and `miso` shifted in. -/
def execSpiWordDone (k : Fin 4) (miso : Word) (s : State) : Host.Outcome State Fault Refusal :=
  ok (match (s.spic k).tx with
    | [] => s
    | w :: rest =>
      if !s.spiOn k || s.spiTgt k then s
      else
        let s1 := s.modSpi k fun c => { c with tx := rest, sent := w }
        let s2 :=
          if (s.spic k).rx.length ≥ 16 then s1.flag SPI_STAT k.val SPI_STAT_OVR
          else s1.modSpi k fun c => { c with rx := c.rx ++ [s.spiWord k miso] }
        s2.spiCs k)

/-- A read of SPI_RXD pops a word (R521). -/
def State.readSpiRxd (s : State) (k : Fin 4) : State × Word :=
  match (s.spic k).rx with
  | [] => (s.flag SPI_STAT k.val SPI_STAT_UNDER, 0)
  | w :: rest => (s.modSpi k fun c => { c with rx := rest }, w)

/-! ## SPI0 as a target (R522, R523) -/

/-- The word at a byte offset of the window: its address in system SRAM, or none outside the window (R522, R523). -/
def State.spiWin (s : State) (off : Nat) : Option Nat :=
  let size := 1024 * min 64 (s.fld SPI_TWIN 0 SPI_TWIN_SIZE)
  let a := s.fld SPI_TWIN 0 SPI_TWIN_BASE * 65536 + off
  let c := s.ownerOf 0x14 0
  if off % 4 = 0 && off + 4 ≤ size && 0x10000000 ≤ a && a + 4 ≤ 0x10800000 && (c == 0 || s.addrOwner a == some c) then some a
  else none

/-- A word outside the window, an unknown command byte or a partial word sets TERR (R523). -/
def State.spiTerr (s : State) : State := s.flag SPI_STAT 0 SPI_STAT_TERR

/-- The words of a WRITE frame from offset `off` (R522). -/
def State.spiWriteWords (s : State) (off : Nat) : List Word → State
  | [] => s
  | w :: l =>
    let s1 := match s.spiWin off with
      | some a => s.pokeWords a [w]
      | none => s.spiTerr
    s1.spiWriteWords (off + 4) l

/-- SPI_TARGET_WRITE (R522): a WRITE frame with its offset and data bytes. -/
def execSpiTargetWrite (off : BitVec 24) (data : List Byte) (s : State) : Host.Outcome State Fault Refusal :=
  ok (if !s.spiOn 0 || !s.spiTgt 0 then s
    else
      let whole := data.length / 4 * 4
      (s.spiWriteWords off.toNat (packWords (data.take whole))).modSpi 0 fun c =>
        { c with wrote := true, partl := whole != data.length })

/-- The words of a READ frame from offset `off` (R522, R36): an uncorrectable word reads 0 and is logged. -/
def State.spiReadWords (s : State) (off : Nat) : Nat → State × List Word
  | 0 => (s, [])
  | n + 1 =>
    let (s1, w) : State × Word := match s.spiWin off with
      | some a =>
        if s.eccOf a = 2 then (s.used.appendErr stECC (s.ownerOf 0x14 0) 3 0 s.free.toNat a, 0)
        else (s.eccCorrect a, memWord s.mem a)
      | none => (s.spiTerr, 0)
    let (s2, l) := s1.spiReadWords (off + 4) n
    (s2, w :: l)

/-- SPI_TARGET_READ (R522): a READ frame that takes `n` words. -/
def execSpiTargetRead (off : BitVec 24) (n : Nat) (s : State) : Host.Outcome State Fault Refusal :=
  ok (if !s.spiOn 0 || !s.spiTgt 0 then s
    else
      let (s1, l) := s.spiReadWords off.toNat n
      s1.modSpi 0 fun c => { c with reply := l, wrote := false, partl := false })

/-- SPI_TARGET_STATUS (R522): ERR, BUSY and the frames completed. -/
def execSpiTargetStatus (s : State) : Host.Outcome State Fault Refusal :=
  ok (if !s.spiOn 0 || !s.spiTgt 0 then s
    else
      let v := b2n (s.bit SPI_STAT 0 SPI_STAT_TERR) * 128 + (s.spic 0).frames % 64
      s.modSpi 0 fun c => { c with status := BitVec.ofNat 8 v, wrote := false, partl := false })

/-- SPI_CS_RISE (R523): the frame ends; `unknown` says that its command byte was none of R522's. -/
def execSpiCsRise (unknown : Bool) (s : State) : Host.Outcome State Fault Refusal :=
  ok (if !s.spiOn 0 || !s.spiTgt 0 then s
    else
      let c := s.spic 0
      let s1 := if unknown || c.partl then s.spiTerr else s
      let s2 := if c.wrote && !unknown then s1.flag SPI_STAT 0 SPI_STAT_TWDONE else s1
      s2.modSpi 0 fun c => { c with frames := (c.frames + 1) % 64, wrote := false, partl := false })

/-! ## XSPI (R524, R525) -/

/-- XSPI_CMD written (R525): the operation begins; one in progress keeps the controller. -/
def State.writeXspiCmd (s : State) (v : Word) : State :=
  if s.xspi.cmd.isSome || !s.bit XSPI_CFG 0 XSPI_CFG_EN then s
  else { s.setBit XSPI_STAT 0 XSPI_STAT_BUSY true with xspi := { s.xspi with cmd := some v } }

/-- XSPI_CMD (R525). -/
def execXspiCmd (ag : Agent) (v : Word) (s : State) : Host.Outcome State Fault Refusal :=
  ok (s.asWrite ag XSPI_CMD 0 fun s => s.writeXspiCmd v)

/-- The operation in progress ends with a status. -/
def State.xspiEnd (s : State) (status : Nat) : State :=
  let s1 := { s with xspi := { s.xspi with cmd := none } }
  ((s1.setBit XSPI_STAT 0 XSPI_STAT_BUSY false).flag XSPI_STAT 0 XSPI_STAT_DONE).setFld XSPI_STAT 0 XSPI_STAT_STATUS status

/-- XSPI_DONE (R524, R525): the operation ends; `data` are the bytes the flash sent, `timeout` says that DS did not toggle. -/
def execXspiDone (data : List Byte) (timeout : Bool) (s : State) : Host.Outcome State Fault Refusal :=
  ok (match s.xspi.cmd with
    | none => s
    | some v =>
      if !s.fabricOn then s
      else if timeout then s.xspiEnd stTIMEOUT
      else
        let n := min 64 (XSPI_CMD_LEN.get v)
        let fifo :=
          if XSPI_CMD_DIR.get v = 0 then (s.xspi.fifo ++ packWords (data.take n)).take 16
          else s.xspi.fifo.drop ((n + 3) / 4)
        ({ s with xspi := { s.xspi with fifo := fifo } }).xspiEnd stOK)

/-- XSPI_DATA written: a word is pushed (R525). -/
def State.writeXspiData (s : State) (v : Word) : State :=
  if s.xspi.fifo.length ≥ 16 then s else { s with xspi := { s.xspi with fifo := s.xspi.fifo ++ [v] } }

/-- XSPI_DATA read: a word is popped (R525). -/
def State.readXspiData (s : State) : State × Word :=
  ({ s with xspi := { s.xspi with fifo := s.xspi.fifo.drop 1 } }, s.xspi.fifo.headD 0)

/-! ## UART (R526) -/

/-- A UART. -/
def State.uartc (s : State) (k : Fin 2) : UartCtl := vget s.uart k
/-- A UART changed; TXBUSY and the fills follow its FIFOs. -/
def State.modUart (s : State) (k : Fin 2) (f : UartCtl → UartCtl) : State :=
  let c := f (s.uartc k)
  let s1 := { s with uart := vset s.uart k c }
  ((s1.setFld UART_STAT k.val UART_STAT_TXCNT c.tx.length).setFld UART_STAT k.val UART_STAT_RXCNT c.rx.length).setBit
    UART_STAT k.val UART_STAT_TXBUSY (!c.tx.isEmpty)
/-- A UART is enabled. -/
def State.uartOn (s : State) (k : Fin 2) : Bool := s.fabricOn && s.bit UART_CFG k.val UART_CFG_EN
/-- The data bits of a character. -/
def State.uartBits (s : State) (k : Fin 2) (b : Byte) : Byte := if s.bit UART_CFG k.val UART_CFG_DATA7 then b &&& 0x7F else b

/-- UART_TXD written: a byte is pushed, or discarded if the FIFO is full. -/
def State.writeUartTxd (s : State) (k : Fin 2) (v : Word) : State :=
  if (s.uartc k).tx.length ≥ 32 then s else s.modUart k fun c => { c with tx := c.tx ++ [v.extractLsb' 0 8] }

/-- UART_TXD_WRITE (R526). -/
def execUartTxdWrite (ag : Agent) (k : Fin 2) (v : Word) (s : State) : Host.Outcome State Fault Refusal :=
  ok (s.asWrite ag UART_TXD k.val fun s => s.writeUartTxd k v)

/-- UART_RX_BYTE (R526): a character arrives with its framing, parity and break findings. -/
def execUartRxByte (k : Fin 2) (b : Byte) (fe pe brk : Bool) (s : State) : Host.Outcome State Fault Refusal :=
  ok (if !s.uartOn k then s
    else
      let s1 := if fe || pe || brk then s.flag UART_STAT k.val UART_STAT_ERR else s
      if (s.uartc k).rx.length ≥ 32 then s1.flag UART_STAT k.val UART_STAT_OVR
      else
        let w := b2n fe * 2 ^ 15 + b2n pe * 2 ^ 14 + b2n brk * 2 ^ 13 + (s.uartBits k b).toNat
        (s1.modUart k fun c => { c with rx := c.rx ++ [BitVec.ofNat 32 w] }).flag UART_STAT k.val UART_STAT_RXAV)

/-- UART_TX_BYTE_DONE (R526): the character at the head of the FIFO has left. -/
def execUartTxByteDone (k : Fin 2) (s : State) : Host.Outcome State Fault Refusal :=
  ok (match (s.uartc k).tx with
    | [] => s
    | _ :: rest =>
      if !s.uartOn k then s
      else
        let s1 := s.modUart k fun c => { c with tx := rest }
        if rest.isEmpty then s1.flag UART_STAT k.val UART_STAT_TXE else s1)

/-- A read of UART_RXD pops a character (R526). -/
def State.readUartRxd (s : State) (k : Fin 2) : State × Word :=
  match (s.uartc k).rx with
  | [] => (s, 0x80000000)
  | w :: rest => (s.modUart k fun c => { c with rx := rest }, w)

/-! ## I2C (R527) -/

/-- An I2C controller. -/
def State.i2cc (s : State) (k : Fin 2) : I2cCtl := vget s.i2c k
/-- An I2C controller changed. -/
def State.modI2c (s : State) (k : Fin 2) (f : I2cCtl → I2cCtl) : State := { s with i2c := vset s.i2c k (f (s.i2cc k)) }

/-- I2C_CMD written (R527): refused while BUSY is 1. -/
def State.writeI2cCmd (s : State) (ag : Agent) (k : Fin 2) (v : Word) : State :=
  if s.bit I2C_STAT k.val I2C_STAT_BUSY then s.discard ag I2C_CMD k.val stPERM
  else if !s.bit I2C_CFG k.val I2C_CFG_EN then s
  else (s.setBit I2C_STAT k.val I2C_STAT_BUSY true).modI2c k fun c => { c with cmd := some v }

/-- I2C_CMD (R527). -/
def execI2cCmd (ag : Agent) (k : Fin 2) (v : Word) (s : State) : Host.Outcome State Fault Refusal :=
  ok (s.asWrite ag I2C_CMD k.val fun s => s.writeI2cCmd ag k v)

/-- A command ends with a flag; `held` says whether the controller holds the bus on. -/
def State.i2cEnd (s : State) (k : Fin 2) (F : Fld) (held : Bool) : State :=
  ((s.setBit I2C_STAT k.val I2C_STAT_BUSY false).flag I2C_STAT k.val F).modI2c k fun _ => { cmd := none, held := held }

/-- I2C_DONE (R527). -/
def execI2cDone (k : Fin 2) (how : I2cEnd) (s : State) : Host.Outcome State Fault Refusal :=
  ok (match (s.i2cc k).cmd with
    | none => s
    | some v =>
      if !s.fabricOn then s
      else
        let held := I2C_CMD_CLEAR.get v = 0 && I2C_CMD_STOP.get v = 0
        match how with
        | .done r =>
          let s1 := if I2C_CMD_RD.get v = 1 then s.setFld I2C_STAT k.val I2C_STAT_RDATA r.toNat else s
          s1.i2cEnd k I2C_STAT_DONE held
        | .nacked => s.i2cEnd k I2C_STAT_NACKED held
        | .arbLost => s.i2cEnd k I2C_STAT_ARBLOST false)

/-- I2C_TIMEOUT (R527): SCL has been held low for 25 ms; the controller releases the bus. -/
def execI2cTimeout (k : Fin 2) (s : State) : Host.Outcome State Fault Refusal :=
  ok (if (s.i2cc k).cmd.isSome && s.fabricOn then s.i2cEnd k I2C_STAT_TMO false else s)

/-! ## GPIO (R528 to R531) -/

/-- The pins a chamber may access, pin n in bit n (R528). -/
def State.pinsOf (s : State) (c : Nat) : Nat :=
  (List.range 16).foldl (fun m n => m + if c = 0 || s.ownerOf 0x11 n = c then 2 ^ n else 0) 0

/-- A write of a GPIO register by an agent (R528): the bits of pins its chamber may access act, a 1 in another bit is
discarded and logged. `act` takes the bits that may change and the value. -/
def State.gpioWrite (s : State) (ag : Agent) (f : RegFam) (two : Bool) (v : Word) (act : State → Word → Word → State) : State :=
  let p := s.pinsOf (chamberOf s ag)
  let mask := BitVec.ofNat 32 (if two then p * 65536 + p else p)
  let width : Word := if two then 0xFFFFFFFF else 0xFFFF
  let s1 := act s mask (v &&& mask)
  if v &&& width &&& ~~~mask = 0 then s1 else s1.discard ag f 0 stPERM

/-- Pending clears of the pins in a mask are cancelled (R530). -/
def State.cancelPulse (s : State) (mask : Word) : State :=
  { s with pulse := smDrop (fun n => bitN mask.toNat n) s.pulse }

/-- OUT bits in `mask` take the bits of `v` (R530). -/
def State.setPins (s : State) (mask v : Word) : State :=
  (s.setReg GPIO_OUT 0 ((s.reg GPIO_OUT 0 &&& ~~~mask) ||| (v &&& mask))).cancelPulse mask

/-- GPIO_SET (R528). -/
def execGpioSet (ag : Agent) (v : Word) (s : State) : Host.Outcome State Fault Refusal :=
  ok (s.asWrite ag GPIO_SET 0 fun s => s.gpioWrite ag GPIO_SET false v fun s _ w => s.setPins w w)

/-- GPIO_CLR (R528). -/
def execGpioClr (ag : Agent) (v : Word) (s : State) : Host.Outcome State Fault Refusal :=
  ok (s.asWrite ag GPIO_CLR 0 fun s => s.gpioWrite ag GPIO_CLR false v fun s _ w => s.setPins w 0)

/-- The input of pin `n` is `level` after the synchroniser and has held for `held` fabric ticks (R529): a pin with DIR = 1 reads its own
OUT bit. -/
def execGpioInputChange (n : Fin 16) (level : Bool) (held : Nat) (s : State) : Host.Outcome State Fault Refusal :=
  ok (let dir := bitN (s.reg GPIO_DIR 0).toNat n.val
    let lv := if dir then bitN (s.reg GPIO_OUT 0).toNat n.val else level
    if !s.fabricOn || held < s.fld GPIO_FILT 0 GPIO_FILT_FILT || lv == bitN (s.reg GPIO_IN 0).toNat n.val then s
    else
      let s1 := s.setFld GPIO_IN 0 (fldAt 1 n.val) (b2n lv)
      let sel := if lv then bitN (s.reg GPIO_EDGE 0).toNat (16 + n.val) else bitN (s.reg GPIO_EDGE 0).toNat n.val
      if sel then s1.setFld GPIO_STAT 0 (fldAt 1 n.val) 1 else s1)

/-- PIN_PULSE_END (R530). -/
def execPinPulseEnd (n : Fin 16) (s : State) : Host.Outcome State Fault Refusal :=
  ok (match s.pulse.find? (·.1 == n.val) with
    | some (_, t) => if s.fabricOn && t ≤ s.firing then s.setPins (1#32 <<< n.val) 0 else s
    | none => s)

/-- The effect of a PIN action (R93, R530): OP 0b00 clears, 0b01 sets, 0b10 inverts the OUT bit, 0b11 sets it for WIDTH firing
ticks. -/
def State.pinAction (s : State) (n op width : Nat) : State :=
  let m := 1#32 <<< n
  match op with
  | 0 => s.setPins m 0
  | 1 => s.setPins m m
  | 2 => s.setPins m (~~~(s.reg GPIO_OUT 0))
  | _ =>
    let s1 := s.setPins m m
    { s1 with pulse := smSet s1.pulse n (s.firing + max 1 width) }

/-- On return to RUN each filtered input takes its ball's level without EV (R531): a pin that drives reads itself, an input the
level given. -/
def State.gpioUnpark (s : State) (levels : BitVec 16) : State :=
  let dir := s.reg GPIO_DIR 0
  s.setReg GPIO_IN 0 (((s.reg GPIO_OUT 0 &&& dir) ||| (levels.zeroExtend 32 &&& ~~~dir)) &&& 0xFFFF)

/-! ## Abort and power -/

/-- The transaction of a port of R521 to R527 ends with ABORTED (chapter 16, end; R471). -/
def State.spiAbort (s : State) (k : Fin 4) : State :=
  s.modSpi k fun c => { c with tx := [], csLow := false, wrote := false, partl := false }
/-- As `spiAbort`, for XSPI. -/
def State.xspiAbort (s : State) : State := if s.xspi.cmd.isSome then s.xspiEnd stABORTED else s
/-- As `spiAbort`, for a UART. -/
def State.uartAbort (s : State) (k : Fin 2) : State := s.modUart k fun c => { c with tx := [] }
/-- As `spiAbort`, for an I2C controller. -/
def State.i2cAbort (s : State) (k : Fin 2) : State :=
  (s.setBit I2C_STAT k.val I2C_STAT_BUSY false).modI2c k fun _ => { cmd := none, held := false }

/-- PARK and KEEP: every transaction in progress ends. -/
def State.serialPark (s : State) : State :=
  let s1 := forN 4 s fun k s => s.spiAbort (Fin.ofNat 4 k)
  forN 2 s1.xspiAbort fun k s => (s.uartAbort (Fin.ofNat 2 k)).i2cAbort (Fin.ofNat 2 k)

end Sys2Proof.Machine
end

