-- ==== Sys2Proof/Machine/Avs.lean ====
section
/-! DEFINITION. The AVSBus ports (R532 to R534). Times are in 1/16 ns of the always-on count. -/

namespace Sys2Proof.Machine

/-- An AVSBus port. -/
def State.avsc (s : State) (k : Fin 2) : AvsCtl := vget s.avs k
/-- An AVSBus port changed. -/
def State.modAvs (s : State) (k : Fin 2) (f : AvsCtl → AvsCtl) : State := { s with avs := vset s.avs k (f (s.avsc k)) }

/-- 1 µs of the always-on count. -/
def aonUs : Nat := 16000

/-- The Grotto's window for VDD_CORE is widened to a voltage, or follows AVS_VACK alone (R533). -/
def State.coreWindow (s : State) (k : Fin 2) (mv : Option Nat) : State :=
  if k = 0 then { s with grt := { s.grt with coreWin := mv } } else s

/-- A request ends: its outcome and data show in AVS_RES, or reach the sequencer that made it. -/
def State.avsEnd (s : State) (k : Fin 2) (status data : Nat) : State :=
  match (s.avsc k).req with
  | none => s
  | some q =>
    let s1 :=
      if q.op = 0 && status = stOK then (s.setFld AVS_VACK k.val AVS_VACK_MV q.mv).coreWindow k none else s
    if q.seq then
      (s1.setBit AVS_RES k.val AVS_RES_BUSY false).modAvs k fun _ => { req := none, seqRes := some (status, data) }
    else
      let w := AVS_RES_DATA.put (AVS_RES_STATUS.put (AVS_RES_DONE.put 0 1) status) data
      (s1.setReg AVS_RES k.val w).modAvs k fun c => { c with req := none }

/-- A request begins (R533): a voltage outside the limits ends at once, unless the sequencer asks for it. -/
def State.avsStart (s : State) (k : Fin 2) (op mv : Nat) (seq : Bool) : State :=
  let q : AvsReq := { op := op, mv := mv, since := s.aon, resends := 0, again := false, seq := seq, stage := .frame (op != 0) }
  let s1 := (s.modAvs k fun c => { req := some q, seqRes := if seq then none else c.seqRes }).setBit AVS_RES k.val AVS_RES_BUSY true
  let low := s.fld AVS_LIM k.val AVS_LIM_VMIN
  let high := s.fld AVS_LIM k.val AVS_LIM_VMAX
  if op = 3 || (op = 0 && !seq && (mv < low || high < mv)) then s1.avsEnd k stBAD_TARGET 0
  else if !seq && !s.bit AVS_CFG k.val AVS_CFG_EN then s1.avsEnd k stLINK_DOWN 0
  else if op = 0 then s1.coreWindow k (some mv)
  else s1

/-- AVS_REQ written (R534): refused while BUSY is 1 or the sequencer holds the port. -/
def State.writeAvsReq (s : State) (ag : Agent) (k : Fin 2) (v : Word) : State :=
  if (s.avsc k).req.isSome then s.discard ag AVS_REQ k.val stPERM
  else s.avsStart k (AVS_REQ_OP.get v) (AVS_REQ_MV.get v) false

/-- AVS_WRITE_VOLTAGE (R533): a write of AVS_REQ with OP = 0b00. -/
def execAvsWriteVoltage (ag : Agent) (k : Fin 2) (v : Word) (s : State) : Host.Outcome State Fault Refusal :=
  ok (s.asWrite ag AVS_REQ k.val fun s => s.writeAvsReq ag k (AVS_REQ_OP.put v 0))

/-- AVS_READ_VOLTAGE (R532): a write of AVS_REQ with OP = 0b01. -/
def execAvsReadVoltage (ag : Agent) (k : Fin 2) (v : Word) (s : State) : Host.Outcome State Fault Refusal :=
  ok (s.asWrite ag AVS_REQ k.val fun s => s.writeAvsReq ag k (AVS_REQ_OP.put v 1))

/-- AVS_READ_STATUS (R532): a write of AVS_REQ with OP = 0b10. -/
def execAvsReadStatus (ag : Agent) (k : Fin 2) (v : Word) (s : State) : Host.Outcome State Fault Refusal :=
  ok (s.asWrite ag AVS_REQ k.val fun s => s.writeAvsReq ag k (AVS_REQ_OP.put v 2))

/-- The stage of a request. -/
def State.avsStage (s : State) (k : Fin 2) (f : AvsReq → AvsReq) : State :=
  s.modAvs k fun c => { c with req := c.req.map f }

/-- AVS_FRAME_END (R533): the frame on the bus ends with the regulator's acknowledge, its data and the VDone bit of its
Status. -/
def execAvsFrameEnd (k : Fin 2) (ack : BitVec 2) (data : Half) (vdone : Bool) (s : State) :
    Host.Outcome State Fault Refusal :=
  ok (match (s.avsc k).req with
    | none => s
    | some q =>
      match q.stage with
      | .frame status =>
        if q.op = 0 && status then
          if ack = 0 && vdone then s.avsEnd k stOK 0
          else s.avsStage k fun q => { q with stage := .poll (s.aon + 10 * aonUs) }
        else
          match ack.toNat with
          | 0 =>
            if q.op = 0 then s.avsStage k fun q => { q with stage := .poll (s.aon + 10 * aonUs) }
            else s.avsEnd k stOK data.toNat
          | 1 =>
            if q.resends < 8 then
              s.avsStage k fun q => { q with resends := q.resends + 1, stage := .resend (s.aon + 10 * aonUs) }
            else s.avsEnd k stTIMEOUT 0
          | 2 => if q.again then s.avsEnd k stECC 0 else s.avsStage k fun q => { q with again := true }
          | _ => s.avsEnd k stBAD_TARGET 0
      | _ => s)

/-- AVS_RESEND (R533): 10 µs after an acknowledge of 0b01 the frame is sent again. -/
def execAvsResend (k : Fin 2) (s : State) : Host.Outcome State Fault Refusal :=
  ok (match (s.avsc k).req with
    | some { stage := .resend t, op := op, .. } =>
      if t ≤ s.aon then s.avsStage k fun q => { q with stage := .frame (op != 0) } else s
    | _ => s)

/-- AVS_STATUS_POLL (R533): 10 µs after the last frame, Status is read. -/
def execAvsStatusPoll (k : Fin 2) (s : State) : Host.Outcome State Fault Refusal :=
  ok (match (s.avsc k).req with
    | some { stage := .poll t, .. } => if t ≤ s.aon then s.avsStage k fun q => { q with stage := .frame true } else s
    | _ => s)

/-- AVS_TIMEOUT (R533): a voltage request has not ended within 2 ms of its first frame. -/
def execAvsTimeout (k : Fin 2) (s : State) : Host.Outcome State Fault Refusal :=
  ok (match (s.avsc k).req with
    | some q => if q.op = 0 && decide (q.since + 2000 * aonUs ≤ s.aon) then s.avsEnd k stTIMEOUT 0 else s
    | none => s)

/-- A FAB_ABORT of the port, and entry to PARK or KEEP, end a transaction in progress with ABORTED; the sequencer's own
requests are no transaction of firmware and go on. -/
def State.avsAbort (s : State) (k : Fin 2) : State :=
  match (s.avsc k).req with
  | some q => if q.seq then s else s.avsEnd k stABORTED 0
  | none => s

end Sys2Proof.Machine
end

