-- ==== Sys2Proof/Machine/Mailbox.lean ====
section
/-! DEFINITION. The Grotto's mailbox: doorbells, requests, replies and the PARAM requests (R393, R394, R420, R444 to R446,
R560). -/

namespace Sys2Proof.Machine

/-! ## Slots -/

/-- A mailbox slot changed. -/
def State.modMail (s : State) (k : Fin 5) (f : Mail → Mail) : State :=
  s.modGrt fun g => { g with mail := vset g.mail k (f (vget g.mail k)) }
/-- A mailbox slot. -/
def State.mailAt (s : State) (k : Fin 5) : Mail := vget s.grt.mail k

/-- The status of an access in the mailbox window (R393, R21): the slots and doorbells belong to their columns. -/
def mailStatus (ag : Agent) (wr : Bool) (a : Nat) : Nat :=
  let own (k : Nat) : Nat := match ag with
    | .col c => if c.val = k then stOK else stPERM
    | _ => stPERM
  if !wr then stOK
  else if 0x18000000 ≤ a && a < 0x18000500 then own ((a - 0x18000000) / 0x100)
  else if 0x18000500 ≤ a && a < 0x18000800 then stOK
  else if 0x18000800 ≤ a && a < 0x18000814 then own ((a - 0x18000800) / 4)
  else stPERM

/-- Words of memory. -/
def memWords (m : List Host.Cell) (a n : Nat) : List Word := (List.range n).map fun i => memWord m (a + 4 * i)

/-- DOORBELL takes slot `k`'s request as it stands (R394); ignored while the previous one is unanswered. -/
def State.ring (s : State) (k : Fin 5) : State :=
  if !s.grottoOn || (s.mailAt k).req.isSome then s
  else
    let a := 0x18000000 + 0x100 * k.val
    let n := (memWord s.mem a).toNat / 256 % 256
    s.modMail k fun _ => { req := some (memWords s.mem a (min n 60 + 2)), ans := none, irq := false }

/-- DOORBELL (R394): a write of GRT_DOORBELL of slot `k`. -/
def execDoorbell (ag : Agent) (k : Fin 5) (s : State) : Host.Outcome State Fault Refusal :=
  ok (let a := 0x18000800 + 4 * k.val
    let st := s.accessStatus ag true a
    let st := if st = stOK then mailStatus ag true a else st
    if st = stOK then s.ring k else s.refuse ag st 1 a)

/-- CODE of a header. -/
def hdrCode (w : Word) : Nat := w.toNat / 2 ^ 24

/-- The header and the body of a waiting request whose check word is good (R394). -/
def goodRequest (l : List Word) : Option (Word × List Word) :=
  match l with
  | [] => none
  | h :: rest =>
    let n := h.toNat / 256 % 256
    if n ≤ 60 ∧ (h :: rest.take n).length = n + 1 ∧ rest[n]? = some (crcWords (h :: rest.take n)) then some (h, rest.take n)
    else none

/-- The axes named by a mask. -/
def maskAxes (m : Nat) : List Nat := (List.range 8).filter fun x => bitN m x

/-- The issuing column may use a code (R394). -/
def codeAllowed (k : Fin 5) (code : Nat) (body : List Word) : Bool :=
  k == 4 || (code ≤ 3 && (maskAxes (body.getD 0 0).toNat).all fun x => x / 2 == k.val)

/-- What the Grotto does with a waiting request before any code of its own: a bad check word, an unknown code, a code not
allowed (R394). -/
def State.earlyAnswer (s : State) (k : Fin 5) : Option Nat :=
  match (s.mailAt k).req with
  | none => none
  | some l =>
    match goodRequest l with
    | none => some stECC
    | some (h, body) =>
      let c := hdrCode h
      if c = 0 ∨ 7 < c then some stBAD_TARGET
      else if !codeAllowed k c body then some stPERM
      else if c = 7 ∧ ((body.getD 0 0).toNat / 2 ^ 24 = 0 ∨ 7 < (body.getD 0 0).toNat / 2 ^ 24) then some stBAD_TARGET
      else none

/-- The body of slot `k`'s request where it waits for the Grotto to act on `code`, and for PARAM on `sub`. -/
def State.asks (s : State) (k : Fin 5) (code sub : Nat) : Option (List Word) :=
  if !s.grottoOn || (s.earlyAnswer k).isSome || (s.mailAt k).ans.isSome then none
  else
    match (s.mailAt k).req with
    | none => none
    | some l =>
      match goodRequest l with
      | some (h, body) =>
        if hdrCode h = code ∧ (code ≠ 7 ∨ (body.getD 0 0).toNat / 2 ^ 24 = sub) then some body else none
      | none => none

/-- The Grotto has decided on its answer: status and body. -/
def State.answer (s : State) (k : Fin 5) (st : Nat) (body : List Word) : State :=
  s.modMail k fun m => { m with ans := some (st, body) }

/-- A request of a code is acted on. -/
def State.serve (s : State) (k : Fin 5) (code sub : Nat) (f : List Word → State) : Host.Outcome State Fault Refusal :=
  ok (match s.asks k code sub with
    | some body => f body
    | none => s)

/-- MAILBOX_REPLY (R394): the reply is written and raises the column's source 0x3B. -/
def execMailboxReply (k : Fin 5) (s : State) : Host.Outcome State Fault Refusal :=
  ok (if !s.grottoOn then s
    else
      match (s.mailAt k).req, (s.earlyAnswer k).map (fun st => (st, ([] : List Word))) <|> (s.mailAt k).ans with
      | some (h :: _), some (st, body) =>
        let w := BitVec.ofNat 32 (h.toNat / 2 ^ 16 * 2 ^ 16 + st * 256)
        ((s.pokeWords (0x18002000 + 0x100 * k.val) (w :: body)).modMail k fun _ => { req := none, ans := none, irq := true }).dozeExit
      | _, _ => s)

/-! ## Requests on axes (R420, R421, R394) -/

/-- SS1: the demand is raised on the named axes. -/
def execSs1 (k : Fin 5) (s : State) : Host.Outcome State Fault Refusal :=
  s.serve k 1 0 fun body =>
    (((maskAxes (body.getD 0 0).toNat).foldl (fun s x => if s.axUse x then s.modAx x fun a => { a with mbSs1 := true } else s)
      s).allDemands).answer k stOK []

/-- STO: the demand is raised on the named axes. -/
def execSto (k : Fin 5) (s : State) : Host.Outcome State Fault Refusal :=
  s.serve k 2 0 fun body =>
    (((maskAxes (body.getD 0 0).toNat).foldl (fun s x => if s.axUse x then s.modAx x fun a => { a with mbSto := true } else s)
      s).allDemands).answer k stOK []

/-- A cause of a safe state persists for an axis (R394): torque, enables of its region, overcurrent, overvoltage of its
region or link, clocks, supplies, die temperature, parameter set. -/
def State.causeHolds (s : State) (x : Nat) : Bool :=
  let ov (y : Nat) : Bool := match s.axRegion y with
    | some r => s.sumpSees (Fin.ofNat 4 r) SUMP_CFG_CB CMP_STAT_HI
    | none => false
  s.gHas 4 x || s.gHas 11 x || (match s.axRegion x with | some r => s.gHas 9 r | none => false) ||
    (s.axesUsed.any fun y => (y == x || s.aRec y 0 15 13 == s.aRec x 0 15 13) && ov y) ||
    s.grt.causes.any fun c => c / 256 == 16 || c / 256 == 17 || c / 256 == 18 || c / 256 == 21

/-- RELEASE of an axis is refused (R394, R399, R417, R420, R541, R584). -/
def State.releaseRefused (s : State) (x : Nat) : Bool :=
  s.axUse x && (decide (2 ≤ s.axOut x) || s.causeHolds x || s.stoSource x || s.ss1Source x ||
    (!s.tmValid x && s.aRec x 0 12 12 == 0))

/-- RELEASE: the named axes leave STO, unless one of them may not. -/
def execRelease (k : Fin 5) (s : State) : Host.Outcome State Fault Refusal :=
  s.serve k 3 0 fun body =>
    let xs := maskAxes (body.getD 0 0).toNat
    if !s.ccvOk || s.gstate == 0 || s.gstate == 3 || !s.grt.bootOk || s.bit THERM_STAT 0 THERM_STAT_LATCH ||
        xs.any fun x => s.releaseRefused x then s.answer k stPERM []
    else
      let s1 := xs.foldl (fun s x =>
        if s.axUse x then
          (s.modAx x fun a => { a with mbSto := false, mbSs1 := false, hbSs1 := false, vioSs1 := false, vioSto := false,
                                       ss1 := none }).setOut x 0 fun _ => false
        else s) s
      s1.allDemands.answer k stOK []

/-- CLRFLT (R384): entries whose cause no longer persists are cleared. -/
def execClrflt (k : Fin 5) (s : State) : Host.Outcome State Fault Refusal :=
  s.serve k 4 0 fun _ =>
    (s.modGrt fun g => { g with open_ := g.open_.filter fun e => g.causes.contains (e.2.1 * 256 + e.2.2) }).answer k stOK []

/-- DISCH (R394): the Sumps of the named regions are asked to discharge. -/
def execDisch (k : Fin 5) (s : State) : Host.Outcome State Fault Refusal :=
  s.serve k 5 0 fun body =>
    (((List.finRange 4).filter fun r => bitN (body.getD 0 0).toNat r.val).foldl (fun s r => s.askDischarge r) s).answer k stOK []

/-- Every axis is in STO. -/
def State.allSto (s : State) : Bool := (List.range 8).all fun x => s.axOut x == 1

/-- PWRREQ (R560): consent to PARK (2) or KEEP (3), for 10 ms. -/
def execPwrreq (k : Fin 5) (s : State) : Host.Outcome State Fault Refusal :=
  s.serve k 6 0 fun body =>
    let t := (body.getD 0 0).toNat
    let free := s.allSto && s.gstate == 1 && (List.range 8).all fun x => (s.gax x).ss1.isNone
    let till := some (s.us + 10000)
    if free && t == 2 then
      (({ s with power := { s.power with consentP := till } }).setBit PWR_STAT 0 PWR_STAT_CONSENTP true).answer k stOK []
    else if free && t == 3 then
      (({ s with power := { s.power with consentK := till } }).setBit PWR_STAT 0 PWR_STAT_CONSENTK true).answer k stOK []
    else s.answer k stPERM []

/-! ## PARAM (R446) -/

/-- LOCK and its effects. -/
def State.setLock (s : State) (v : Nat) : State := s.setFld GRT_PSTAT 0 GRT_PSTAT_LOCK v

/-- OPEN: from LOAD or CLOSED, with every axis in STO. -/
def execOpen (k : Fin 5) (s : State) : Host.Outcome State Fault Refusal :=
  s.serve k 7 1 fun _ =>
    if s.lock != 1 && s.allSto then ((s.setLock 1).setBit GRT_STAT 0 GRT_STAT_CCVOK false).answer k stOK []
    else s.answer k stPERM []

/-- N and the word offset of a WRITE or READ. -/
def parSpan (w : Word) : Nat × Nat := (w.toNat / 2 ^ 16 % 256, w.toNat % 2 ^ 14)

/-- The span passes word 16,383, or N is out of its range. -/
def badSpan (w : Word) : Bool := (parSpan w).1 == 0 || 59 < (parSpan w).1 || 16384 < (parSpan w).1 + (parSpan w).2

/-- PARAM WRITE: words of the set, in LOAD or OPEN. -/
def execParamWrite (k : Fin 5) (s : State) : Host.Outcome State Fault Refusal :=
  s.serve k 7 2 fun body =>
    let w := body.getD 0 0
    if s.lock = 2 then s.answer k stPERM []
    else if badSpan w then s.answer k stBAD_TARGET []
    else
      let p := (List.range (parSpan w).1).foldl (fun p i => smSet p ((parSpan w).2 + i) (body.getD (i + 1) 0)) s.grt.param
      (s.modGrt fun g => { g with param := p, dirty := true }).answer k stOK []

/-- CHECK: validates the set and computes its CCV, in LOAD or OPEN. -/
def execCheck (k : Fin 5) (s : State) : Host.Outcome State Fault Refusal :=
  s.serve k 7 3 fun _ =>
    if s.lock = 2 then s.answer k stPERM []
    else
      let bad := firstBad s.grt.param s.nodeIds
      let v := s.ccv
      let s1 := ((s.setReg GRT_CCV 0 v).setBit GRT_PSTAT 0 GRT_PSTAT_CHKOK bad.isNone).modGrt fun g => { g with dirty := false }
      s1.answer k (if bad.isNone then stOK else stBAD_TARGET) [v, match bad with | some o => BitVec.ofNat 32 o | none => 0xFFFFFFFF]

/-- Word 3 of the record of the present set (R444). -/
def State.recWord (s : State) : Word := BitVec.ofNat 32 (s.parLen / 4 * 2 ^ 16 + parBits s.grt.param 8 13 0)

/-- A record is valid: its check word, and that it matches the set (R444). -/
def State.recValid (s : State) (r : List Word) : Bool := r.length == 5 && r[4]? == some (crcWords (r.take 4)) && r[3]? == some s.recWord

/-- CONFIRM: in OPEN, after a CHECK with OK and no WRITE since. -/
def execConfirm (k : Fin 5) (s : State) : Host.Outcome State Fault Refusal :=
  s.serve k 7 4 fun body =>
    if s.lock != 1 || !s.bit GRT_PSTAT 0 GRT_PSTAT_CHKOK || s.grt.dirty then s.answer k stPERM []
    else if body.getD 1 0 != s.ccv then s.answer k stBAD_TARGET []
    else
      let r := [s.ccv, body.getD 2 0, body.getD 3 0, s.recWord]
      let r := r ++ [crcWords r]
      let s1 := (((s.setReg GRT_CCVCONF 0 s.ccv).setBit GRT_PSTAT 0 GRT_PSTAT_RECOK true).setLock 2).modGrt fun g =>
        { g with record := some r }
      (s1.setBit GRT_STAT 0 GRT_STAT_CCVOK true).takeSet.answer k stOK r

/-- LOADCONF: in LOAD; validates the set and the record and compares the CCVs. -/
def execLoadconf (k : Fin 5) (s : State) : Host.Outcome State Fault Refusal :=
  s.serve k 7 5 fun body =>
    if s.lock != 0 then s.answer k stPERM []
    else
      let r := (body.drop 1).take 5
      let rec_ := s.recValid r
      let v := s.ccv
      let good := rec_ && (firstBad s.grt.param s.nodeIds).isNone && r[0]? == some v
      let s1 := (s.setReg GRT_CCV 0 v).setLock 2
      let s2 := if rec_ then ((s1.setReg GRT_CCVCONF 0 (r.getD 0 0)).setBit GRT_PSTAT 0 GRT_PSTAT_RECOK true).modGrt fun g =>
        { g with record := some r } else s1
      let s3 := s2.setBit GRT_STAT 0 GRT_STAT_CCVOK good
      (if good then s3.takeSet else s3).answer k (if good then stOK else stBAD_TARGET) []

/-- CLOSE: in OPEN; CCVOK from a comparison with the record in force. -/
def execClose (k : Fin 5) (s : State) : Host.Outcome State Fault Refusal :=
  s.serve k 7 6 fun _ =>
    if s.lock != 1 then s.answer k stPERM []
    else
      let v := s.ccv
      let good := match s.grt.record with
        | some (c :: _) => c == v
        | _ => false
      let s1 := ((s.setReg GRT_CCV 0 v).setLock 2).setBit GRT_STAT 0 GRT_STAT_CCVOK good
      (if good then s1.takeSet else s1).answer k (if good then stOK else stBAD_TARGET) []

/-- PARAM READ: words of the set. -/
def execParamRead (k : Fin 5) (s : State) : Host.Outcome State Fault Refusal :=
  s.serve k 7 7 fun body =>
    let w := body.getD 0 0
    if badSpan w then s.answer k stBAD_TARGET []
    else s.answer k stOK ((List.range (parSpan w).1).map fun i => smGet 0 s.grt.param ((parSpan w).2 + i))

end Sys2Proof.Machine
end

