-- ==== Sys2Proof/Machine/Debug.lean ====
section
/-! DEFINITION. The unlock protocol of the debug port (R585 to R587). -/

namespace Sys2Proof.Machine

/-- Bytes of `n` words of a register array, big-endian across ascending index. -/
def State.dbgBytes (s : State) (f : RegFam) (n : Nat) : List Byte :=
  (List.range n).flatMap fun i => beBytes 4 (s.reg f i).toNat

/-- The nonce in DBG_CHAL. -/
def State.dbgNonce (s : State) : BitVec 256 := BitVec.ofNat 256 (beNat (s.dbgBytes DBG_CHAL 8))

/-- DBG_CTRL written (R586, R598): SUBMIT is judged on the nonce that stands, and refused once BLOCKED; NEWCHAL asks for a fresh
nonce. -/
def State.writeDbgCtrl (s : State) (ag : Agent) (v : Word) : State :=
  let s1 :=
    if DBG_CTRL_SUBMIT.get v = 0 then s
    else if s.bit DBG_STAT 0 DBG_STAT_BLOCKED then s.discard ag DBG_CTRL 0 stPERM
    else if s.bit DBG_STAT 0 DBG_STAT_BUSY then s
    else
      let n := if s.bit DBG_STAT 0 DBG_STAT_NONCEV then some s.dbgNonce else none
      { s.setBit DBG_STAT 0 DBG_STAT_BUSY true with
        boot := { s.boot with sub := some { level := DBG_CTRL_LEVEL.get v, kslot := DBG_CTRL_KSLOT.get v == 1, nonce := n } } }
  if DBG_CTRL_NEWCHAL.get v = 1 then { s1 with boot := { s1.boot with want := true } } else s1

/-- NEWCHAL (R586). -/
def execNewchal (ag : Agent) (s : State) : Host.Outcome State Fault Refusal :=
  ok (s.asWrite ag DBG_CTRL 0 fun s => s.writeDbgCtrl ag 0x80000000)

/-- NONCE_READY (R586): the entropy source gives a nonce. -/
def execNonceReady (nonce : BitVec 256) (s : State) : Host.Outcome State Fault Refusal :=
  ok (if !s.boot.want then s
    else
      let s1 := forN 8 s fun i s => s.setReg DBG_CHAL i (BitVec.ofNat 32 (nonce.toNat / 2 ^ (32 * (7 - i))))
      (({ s1 with boot := { s1.boot with want := false } }).setBit DBG_STAT 0 DBG_STAT_NONCEV true))

/-- DBG_SUBMIT (R586): a write of DBG_CTRL with SUBMIT = 1, LEVEL and KSLOT. -/
def execDbgSubmit (ag : Agent) (level : BitVec 2) (kslot : Bool) (s : State) : Host.Outcome State Fault Refusal :=
  ok (s.asWrite ag DBG_CTRL 0 fun s =>
    s.writeDbgCtrl ag (DBG_CTRL_KSLOT.put (DBG_CTRL_LEVEL.put 0x40000000 level.toNat) (b2n kslot)))

/-- The response is accepted (R586). -/
def State.dbgAccepts (s : State) (q : DbgSub) : Bool :=
  match q.nonce with
  | none => false
  | some n =>
    let key := s.dbgBytes DBG_KEY 16
    let msg := beBytes 32 n.toNat ++ (beBytes 8 Config.uid.toNat).reverse ++ [BitVec.ofNat 8 q.level]
    sha256 key == Config.otpDebugHash q.kslot && ecdsaOk key (s.dbgBytes DBG_RESP 16) (sha256 msg)

/-- DBG_DECISION (R586, R587): the response is judged; the nonce has served. -/
def execDbgDecision (s : State) : Host.Outcome State Fault Refusal :=
  ok (match s.boot.sub with
    | none => s
    | some q =>
      let s0 : State := { s with boot := { s.boot with sub := none } }
      let used := match q.nonce with
        | some n => n == s.dbgNonce
        | none => false
      let s1 := s0.setBit DBG_STAT 0 DBG_STAT_BUSY false
      let s2 := if used then s1.setBit DBG_STAT 0 DBG_STAT_NONCEV false else s1
      if s.dbgAccepts q then (s2.setFld DBG_STAT 0 DBG_STAT_LEVEL (min 2 q.level)).setFld DBG_STAT 0 DBG_STAT_FAILS 0
      else
        let n := s2.fld DBG_STAT 0 DBG_STAT_FAILS + 1
        let s3 := s2.setFld DBG_STAT 0 DBG_STAT_FAILS n
        if n = 3 then s3.setBit DBG_STAT 0 DBG_STAT_BLOCKED true else s3)

end Sys2Proof.Machine
end

