-- ==== Sys2Proof/Machine/SornasRun.lean ====
section
/-! DEFINITION. How a Sornas instruction runs: decode-time legality, the guard, the effect, the loop-end test, traps and
their entry, and both copies of a twin. The instruction word is put together from its fields for XTVAL (R166). -/

namespace Sys2Proof.Machine

/-! ## Instruction words (R130) -/

/-- Major opcode and guard. -/
def encHead (op : Nat) (gd : BitVec 3) : Nat := op * 2 ^ 26 + gd.toNat * 2 ^ 23

/-- Format R. -/
def encR (op : Nat) (gd : BitVec 3) (rd ra rb : BitVec 5) (fn : Nat) : Word :=
  BitVec.ofNat 32 (encHead op gd + rd.toNat * 2 ^ 18 + ra.toNat * 2 ^ 13 + rb.toNat * 2 ^ 8 + fn)

/-- Format I. -/
def encI (op : Nat) (gd : BitVec 3) (rd ra : BitVec 5) (imm : Nat) : Word :=
  BitVec.ofNat 32 (encHead op gd + rd.toNat * 2 ^ 18 + ra.toNat * 2 ^ 13 + imm)

/-- Format U. -/
def encU (op : Nat) (gd : BitVec 3) (rd : BitVec 5) (imm : BitVec 18) : Word :=
  BitVec.ofNat 32 (encHead op gd + rd.toNat * 2 ^ 18 + imm.toNat)

/-- Format M. -/
def encM (op : Nat) (gd : BitVec 3) (rd ra : BitVec 5) (wd : BitVec 2) (imm : BitVec 11) : Word :=
  BitVec.ofNat 32 (encHead op gd + rd.toNat * 2 ^ 18 + ra.toNat * 2 ^ 13 + wd.toNat * 2 ^ 11 + imm.toNat)

/-- Format X. -/
def encX (op : Nat) (gd : BitVec 3) (rd ra : BitVec 5) (st : Nat) (wd md : BitVec 2) (imm : BitVec 8) : Word :=
  BitVec.ofNat 32 (encHead op gd + rd.toNat * 2 ^ 18 + ra.toNat * 2 ^ 13 + st * 2 ^ 12 + wd.toNat * 2 ^ 10 +
    md.toNat * 2 ^ 8 + imm.toNat)

/-- Format B. -/
def encB (op : Nat) (gd : BitVec 3) (off : BitVec 23) : Word := BitVec.ofNat 32 (encHead op gd + off.toNat)

/-- Format A. -/
def encA (op : Nat) (gd : BitVec 3) (aa ab : BitVec 2) (ra rb : BitVec 5) (fn : Nat) : Word :=
  BitVec.ofNat 32 (encHead op gd + aa.toNat * 2 ^ 21 + ab.toNat * 2 ^ 19 + ra.toNat * 2 ^ 13 + rb.toNat * 2 ^ 8 + fn)

/-- Format C with RB, or with IMM13 in its place. -/
def encC (op : Nat) (gd : BitVec 3) (pd : BitVec 2) (cond : BitVec 3) (ra : BitVec 5) (low : Nat) : Word :=
  BitVec.ofNat 32 (encHead op gd + pd.toNat * 2 ^ 21 + cond.toNat * 2 ^ 18 + ra.toNat * 2 ^ 13 + low)

/-- Format P. -/
def encP (op : Nat) (gd : BitVec 3) (pd pa pb : BitVec 2) (op2 : BitVec 3) : Word :=
  BitVec.ofNat 32 (encHead op gd + pd.toNat * 2 ^ 21 + pa.toNat * 2 ^ 19 + pb.toNat * 2 ^ 17 + op2.toNat * 2 ^ 14)

/-- Format L: CNT12 with CI = 1, RA with CI = 0. -/
def encL (op : Nat) (gd : BitVec 3) (n ci : BitVec 1) (cnt : BitVec 12) (ra : BitVec 5) (len : BitVec 9) : Word :=
  BitVec.ofNat 32 (encHead op gd + n.toNat * 2 ^ 22 + ci.toNat * 2 ^ 21 +
    (if ci = 1 then cnt.toNat * 2 ^ 9 else ra.toNat * 2 ^ 13) + len.toNat)

/-- Format Y. -/
def encY (op : Nat) (gd : BitVec 3) (rd : BitVec 5) (spn : BitVec 10) (fn : Nat) : Word :=
  BitVec.ofNat 32 (encHead op gd + rd.toNat * 2 ^ 18 + spn.toNat * 2 ^ 8 + fn)

/-- Format F. -/
def encF (op : Nat) (gd : BitVec 3) (rd ra pos len1 : BitVec 5) (kind : Nat) : Word :=
  BitVec.ofNat 32 (encHead op gd + rd.toNat * 2 ^ 18 + ra.toNat * 2 ^ 13 + pos.toNat * 2 ^ 8 + len1.toNat * 2 ^ 3 + kind)

/-! ## Processors -/

/-- The Sornas-S processor behind a `Proc`. -/
def sIndex : Proc → Fin 6
  | .cell _ => 0
  | .col c => c.castLE (by decide)
  | .grotto => 5

/-- The handler base of a Sornas-S processor (CVEC). -/
def State.cvec (s : State) (i : Fin 6) : Word := smGet 0 (vget s.sproc i).csr 0x20 &&& 0xFFFFFF00

/-- The cores that run a processor's program: one, or both copies of a twin, the primary first. -/
def State.cellCores (s : State) (c : Fin 128) : List (Fin 128) :=
  match s.physOf c with
  | none => []
  | some p =>
    match (vget s.lcell c).twin with
    | some q => [p, Fin.ofNat 128 q]
    | none => [p]

/-- The register file of a processor (of the primary in a twin). -/
def State.coreOf (s : State) (p : Proc) : Core :=
  match p with
  | .cell c => (vget s.phys ((s.physOf c).getD 0)).core
  | .col _ | .grotto => (vget s.sproc (sIndex p)).core

/-- What a processor waits for. -/
def State.waitOf (s : State) (p : Proc) : WaitState :=
  match p with
  | .cell c => (vget s.phys ((s.physOf c).getD 0)).wait
  | .col _ | .grotto => (vget s.sproc (sIndex p)).wait

/-- A column that is neither halted, stopped nor in reset (R474, R477). -/
def State.colAlive (s : State) (i : Fin 6) : Bool :=
  if i.val < 5 then
    !s.bit SYSCTL_COLCTL i.val SYSCTL_COLCTL_HALTED && !s.bit SYSCTL_COLCTL i.val SYSCTL_COLCTL_STOPPED &&
      !(vget s.sproc i).inReset
  else !(vget s.sproc i).inReset

/-- A processor that has a program in execution: a mapped logical cell that is RUNNING, or a live column. -/
def State.alive (s : State) (p : Proc) : Bool :=
  !s.boot.tap.testen &&
  match p with
  | .cell c => s.treesOn && s.lstate c == 1 && (s.physOf c).isSome
  | .col _ => s.treesOn && s.colAlive (sIndex p)
  | .grotto => s.grottoOn && s.colAlive (sIndex p)

/-- A processor that may execute an instruction now: alive and not waiting. -/
def State.canRun (s : State) (p : Proc) : Bool := s.alive p && s.waitOf p == .run

/-- Every core of a processor changed: both copies of a twin. -/
def State.modCores (s : State) (p : Proc) (f : Core → Core) : State :=
  match p with
  | .cell c => (s.cellCores c).foldl (fun s q => s.modPhys q fun ph => { ph with core := f ph.core }) s
  | .col _ | .grotto => s.modSproc (sIndex p) fun q => { q with core := f q.core }

/-- A processor's wait changed. -/
def State.setWait (s : State) (p : Proc) (w : WaitState) : State :=
  match p with
  | .cell c => (s.cellCores c).foldl (fun s q => s.modPhys q fun ph => { ph with wait := w }) s
  | .col _ | .grotto => s.modSproc (sIndex p) fun q => { q with wait := w }

/-- The two copies of a twin differ in what an instruction puts out (R224): `f` is what it puts out from a core. -/
def State.twinDiffers (s : State) (p : Proc) (f : Core → List Nat) : Bool :=
  match p with
  | .cell c =>
    match s.cellCores c with
    | [a, b] => f (vget s.phys a).core != f (vget s.phys b).core
    | _ => false
  | .col _ | .grotto => false

/-- The block controller's compare of a twin (R224): a difference in what `f` gives of the state `s0` before the instruction
is cause TWIN. -/
def State.twinCheck (s s0 : State) (p : Proc) (f : Core → List Nat) : State :=
  if s0.canRun p && s0.twinDiffers p f then
    match p with
    | .cell c => s.cellFault c 6
    | .col _ | .grotto => s
  else s

/-- What an instruction puts out of a core (R224): `l` where its guard is true. -/
def Core.out (k : Core) (gd : BitVec 3) (l : List Nat) : List Nat := if k.guard gd == some true then 1 :: l else [0]

/-- A performance event of a processor: a cell's counters (R228), or a column's (R464, R465). -/
def State.pmc (s : State) (p : Proc) (e es : Nat) : State :=
  match p with
  | .cell c => s.pmcCount c e
  | .col _ | .grotto =>
    s.modSproc (sIndex p) fun q => (List.range 8).foldl (fun q k =>
      let sel := (smGet 0 q.csr (0xC20 + k)).toNat
      if sel % 256 == es && es != 0 && (!bitN sel 31 || sel / 2 ^ 16 % 16 == (smGet 0 q.csr 0x21).toNat % 16) then
        let lo := smGet 0 q.csr (0xC10 + 2 * k)
        let hi := smGet 0 q.csr (0xC11 + 2 * k)
        let v := (hi.toNat % 2 ^ 16 * 2 ^ 32 + lo.toNat + 1) % 2 ^ 48
        let csr := smSet (smSet q.csr (0xC10 + 2 * k) (BitVec.ofNat 32 v)) (0xC11 + 2 * k) (BitVec.ofNat 32 (v / 2 ^ 32))
        { q with csr := if v == 0 then smSet csr 0xC28 (smGet 0 csr 0xC28 ||| (1#32 <<< k)) else csr }
      else q) q

/-- The copies of a logical cell enter a trap (R168). -/
def State.enterTrap (s : State) (c : Fin 128) (w : Word) (t : Trap) : State :=
  ((s.cellCores c).foldl (fun s q => s.modPhys q fun ph =>
    { ph with core := ph.core.takeTrap .c 0 w t, latch := none, stage := none, wait := .run
              trapAt := some s.tick }) s).pmcCount c 8

/-- TRAP ENTRY at the level of the device (R168, R456): the one shared operation. A cell already in a trap handler stops,
which its block controller detects as DTRAP (R217), masked where one copy of a twin alone is in one (R225); a column in one
stops (R458). In a twin, both copies enter. -/
def State.trap (s : State) (p : Proc) (w : Word) (t : Trap) : State :=
  match p with
  | .cell c =>
    match (s.cellCores c).filter fun q => (vget s.phys q).core.stb 13 with
    | [] => s.enterTrap c w t
    | [q] => if (s.cellCores c).length = 2 then (s.cellMask c q 2).enterTrap c w t else s.cellFault c 2
    | _ => s.cellFault c 2
  | .col _ | .grotto =>
    if (s.coreOf p).stb 13 then s.columnStop (sIndex p)
    else
      let cv := s.cvec (sIndex p)
      (s.modSproc (sIndex p) fun q => { q with core := q.core.takeTrap .s cv w t, wait := .run }).pmc p 0 9

/-- What the effect of an instruction leaves. -/
inductive BodyRes
  /-- Completed: the program counter moves on. -/
  | next (k : Core)
  /-- Completed with a control transfer: `k` holds the new program counter. -/
  | jump (k : Core)
  | trap (t : Trap)
  deriving DecidableEq, Repr

/-- The effect of an instruction on one core whose guard is true, with the loop-end test where control is not
transferred; a trap leaves the core for trap entry. Saturation is recorded in SAT, which stays sticky (R134). -/
def bodyStep (pf : Profile) (body : Core → BodyRes) (k : Core) : Option Trap × Core :=
  match body k with
  | .next k' => (none, k'.advance pf)
  | .jump k' => (none, k')
  | .trap t => (some t, k)

/-- HOW AN INSTRUCTION RUNS (R131, R133, R167): a processor that cannot execute leaves everything as it is; an ILLEGAL
encoding traps before the guard is evaluated; a false guard only moves the program counter; otherwise the body acts, on
both copies of a twin. `prods` multiplier products are counted. -/
def State.runInstr (s : State) (p : Proc) (w : Word) (gd : BitVec 3) (legal : Bool) (prods : Nat)
    (body : Core → BodyRes) : State :=
  let pf := profileOf p
  if !s.canRun p then s
  else
    match (s.coreOf p).guard gd with
    | none => s.trap p w .illegal
    | some g =>
      if !legal then s.trap p w .illegal
      else if !g then (s.modCores p (·.advance pf)).pmc p 2 1
      else
        match bodyStep pf body (s.coreOf p) with
        | (some t, _) => s.trap p w t
        | (none, _) =>
          let s1 := (s.modCores p fun k => (bodyStep pf body k).2).pmc p 1 1
          forN prods s1 fun _ s => s.pmc p 0x0A 0

/-- As `runInstr`, for an instruction in which saturation may act: SAT stays set if it was set, and an instruction in
which saturation acted is counted (R134, R228). -/
def satBody (body : Core → BodyRes) (k : Core) : BodyRes :=
  let keep (k' : Core) : Core := if k.stb 4 then k'.setStb 4 true else k'
  match body (k.setStb 4 false) with
  | .next k' => .next (keep k')
  | .jump k' => .jump (keep k')
  | .trap t => .trap t

/-- Saturation acts in `body` on the core `k`. -/
def satActs (body : Core → BodyRes) (k : Core) : Bool :=
  match body (k.setStb 4 false) with
  | .next k' => k'.stb 4
  | _ => false

/-- `runInstr` with the count of instructions in which saturation acted. -/
def State.runSat (s : State) (p : Proc) (w : Word) (gd : BitVec 3) (legal : Bool) (prods : Nat)
    (body : Core → BodyRes) : State :=
  let s1 := s.runInstr p w gd legal prods (satBody body)
  if s.canRun p && (s.coreOf p).guard gd == some true && legal && satActs body (s.coreOf p) then s1.pmc p 9 0 else s1

end Sys2Proof.Machine
end

