-- ==== Sys2Proof/Machine/GalleryFire.lean ====
section
/-! DEFINITION. The Gallery's firing engines: issue slots, the actions, held actions, and the decisions of submissions (R93 to
R96, R98, R99, R103, R108 to R112). -/

namespace Sys2Proof.Machine

/-- A firing engine. -/
def State.engine (s : State) (e : Fin 4) : Engine := vget s.gal.eng e
/-- A firing engine changed. -/
def State.modEngine (s : State) (e : Fin 4) (f : Engine → Engine) : State :=
  s.modGal fun g => { g with eng := vset g.eng e (f (vget g.eng e)) }

/-- The first fabric tick of the present issue slot (R108). -/
def State.issueSlot (s : State) : Nat := s.tick / 4 * 4

/-- The chamber that owns the present issue slot of an engine (R108). -/
def State.slotOwner (s : State) (e : Fin 4) : Nat :=
  let i := s.tick % 64 / 4
  if i < 8 then s.fld GAL_SHARE_LO e.val (fldAt 4 i) else s.fld GAL_SHARE_HI e.val (fldAt 4 (i - 8))

/-! ## Issue (R94, R108 to R112) -/

/-- The due tick and phase of a committed event, where it is due in the present issue slot or before (R94, R108): a PWM_EDGE keeps
its phase, any other action is placed at the nearer firing tick. -/
def State.dueOf (s : State) (e : GEvent) : Option (Int × Nat) :=
  match e.due with
  | some d => some d
  | none =>
    match e.inst with
    | none => none
    | some inst =>
      match s.placeNear inst with
      | none => none
      | some (ahead, ph) =>
        let f : Int := (s.firing : Int) + ahead + (if e.action ≠ 2 ∧ 8 ≤ ph then 1 else 0)
        if f ≤ (s.firing : Int) + 1 then some (f, ph) else none

/-- An event of engine `e` that the present issue slot may issue: committed, unissued and due. -/
def State.issuable (s : State) (e : Fin 4) (v : GEvent) : Bool :=
  v.engine == e && v.committed && v.issued.isNone && (s.dueOf v).isSome

/-- Whether event `a` fires before event `b` of the same chamber (R108). -/
def State.before (s : State) (a b : GEvent) : Bool :=
  match s.dueOf a, s.dueOf b with
  | some (f, p), some (g, q) => decide (f < g) || (f == g && (p < q || (p == q && a.order < b.order)))
  | _, _ => false

/-- A chamber's earliest event that engine `e` may issue in this slot. -/
def State.earliest (s : State) (e : Fin 4) (c : Nat) : Option GEvent :=
  (s.gal.events.filter fun v => v.chamber == c && s.issuable e v).foldl (fun (b : Option GEvent) v =>
    match b with
    | none => some v
    | some w => if s.before v w then some v else some w) none

/-- The event that takes the present issue slot of an engine: the owner's earliest, else that of the chamber lent the slot. -/
def State.nextIssue (s : State) (e : Fin 4) : Option GEvent :=
  match s.earliest e (s.slotOwner e) with
  | some v => some v
  | none =>
    match nextChamber (s.engine e).lend fun c => s.gal.events.any fun v => v.chamber == c && s.issuable e v with
    | none => none
    | some c => s.earliest e c

/-- An event is issued in the present slot with lateness `l` (R108, R111). -/
def State.issue (s : State) (e : Fin 4) (v : GEvent) (due : Int) (ph l : Nat) : State :=
  let at_ : Nat := if due < (s.firing : Int) then s.issueSlot else (2 * due).toNat
  let i : Issue := { tick := at_, phase := ph, first := s.issueSlot, late := l, ns := s.nsLo }
  let s1 := (s.modEvent v.slot fun v => { v with issued := some i }).modEngine e fun g =>
    { g with slotUsed := some s.issueSlot, lend := if v.chamber = s.slotOwner e then g.lend else v.chamber }
  let s2 := if 0 < l then
      (s1.count GAL_ENG_LATECNT e.val GAL_ENG_LATECNT_COUNT).setFld GAL_ENG_LMAX e.val GAL_ENG_LMAX_LMAX
        (max l (s.fld GAL_ENG_LMAX e.val GAL_ENG_LMAX_LMAX))
    else s1
  if v.doomed then
    match s2.eventAt v.slot with
    | some v' => s2.endEvent v' stABORTED 0 false
    | none => s2
  else s2

/-- The slot goes to the first event that is not cancelled for its lateness (R110) nor found with an error (R122). -/
def State.issueSome (s : State) (e : Fin 4) : Nat → State
  | 0 => s
  | fuel + 1 =>
    match s.nextIssue e with
    | none => s
    | some v =>
      match s.slotFault v with
      | some s1 => s1.issueSome e fuel
      | none =>
        let s1 := s.slotCorrect v
        match s.dueOf v with
        | none => s1
        | some (due, ph) =>
          let l := min 0xFFFF (((s.issueSlot / 2 : Nat) - due).toNat + v.lc)
          if v.mustNotLate && !v.exempt && decide (s.fld GAL_RING_TOL v.hring GAL_RING_TOL_TOL < l) then
            ((s1.count GAL_ENG_CANCNT e.val GAL_ENG_CANCNT_COUNT).endEvent v stLATE 0 false).issueSome e fuel
          else s1.issue e v due ph l

/-- Events that have come due keep the due tick and phase they have reached. -/
def State.latchDue (s : State) : State :=
  let latch (v : GEvent) : GEvent :=
    if v.committed && v.issued.isNone then { v with due := s.dueOf v } else v
  s.modGal fun g => { g with events := g.events.map latch }

/-- EVENT_ISSUE (R108): engine `e` in the first tick of an issue slot. -/
def execEventIssue (e : Fin 4) (s : State) : Host.Outcome State Fault Refusal :=
  ok (if s.fabricOn && s.tick % 4 == 0 && (s.engine e).slotUsed != some s.tick && (s.engine e).retryUsed != some s.tick then
      s.latchDue.issueSome e (s.gal.events.length + 1)
    else s)

/-! ## The actions (R93, R95) -/

/-- What a target makes of an action. -/
inductive Taken
  /-- Taken: the event ends with a status. -/
  | done (s : State) (status : Nat)
  /-- Taken: the event ends later, or has ended. -/
  | open_ (s : State)
  /-- The target cannot take it now. -/
  | unable

/-- An event takes its effect in `s`, or waits in the hold entry of its chamber; with the entry occupied it ends with TIMEOUT
(R95). -/
def State.applyTaken (s : State) (v : GEvent) (quiet : Bool) : Taken → State
  | .done s1 st => s1.endEvent v st 0 (quiet && st == stOK)
  | .open_ s1 => s1
  | .unable =>
    if s.gal.events.any fun w => w.held && w.engine == v.engine && w.chamber == v.chamber then
      (s.count GAL_ENG_TMOCNT v.engine.val GAL_ENG_TMOCNT_COUNT).endEvent v stTIMEOUT 0 false
    else s.modEvent v.slot fun v => { v with held := true }

/-- The event of engine `e` whose action `act` takes effect now: issued first, with its tick come. A PWM_EDGE goes to its queue at
issue, ahead of its instant. -/
def State.firedEvent (s : State) (e : Fin 4) (act : Nat) : Option (GEvent × Issue) :=
  if !s.fabricOn then none
  else
    match s.gal.events.find? fun v => v.engine == e && v.action == act && !v.held && v.span.isNone &&
        (match v.issued with | some i => act == 2 || decide (i.tick ≤ s.tick) | none => false) with
    | some v => v.issued.map fun i => (v, i)
    | none => none

/-- The action of the event that fires now, if one does. -/
def State.fire (s : State) (e : Fin 4) (act : Nat) (quiet : Bool) (f : State → GEvent → Issue → Taken) : State :=
  match s.firedEvent e act with
  | none => s
  | some (v, i) => s.applyTaken v quiet (f s v i)

/-- NOP_ACTION (R93). -/
def execNopAction (e : Fin 4) (s : State) : Host.Outcome State Fault Refusal :=
  ok (s.fire e 0 false fun s _ _ => .done s stOK)

/-- CELL_EVENT at its cell, under the map in force (R93). -/
def State.takeCell (s : State) (v : GEvent) : Taken :=
  match s.pushFifo (Fin.ofNat 128 (v.arg 30 24)) { vec := v.arg 19 16, payload := BitVec.ofNat 16 (v.arg 15 0), ring := none } with
  | some s1 => .done s1 stOK
  | none => .unable

/-- CELL_EVENT (R93). -/
def execCellEvent (e : Fin 4) (s : State) : Host.Outcome State Fault Refusal :=
  ok (s.fire e 1 false fun s v _ => s.takeCell v)

/-- PWM_EDGE at the edge queue of its output (R93, R274). -/
def State.takeEdge (s : State) (v : GEvent) (i : Issue) : Taken :=
  let g := v.arg 30 24
  match s.pwmEdge (Fin.ofNat 16 (g / 6)) (Fin.ofNat 6 g) (v.arg 23 23 == 1) (8 * i.tick + i.phase) with
  | some s1 => .done s1 stOK
  | none => .unable

/-- PWM_EDGE (R274). -/
def execPwmEdge (e : Fin 4) (s : State) : Host.Outcome State Fault Refusal :=
  ok (s.fire e 2 false fun s v i => s.takeEdge v i)

/-- PWM_LOADALL (R96, R282): the event stays pending until every group named has committed or failed; with none named it ends
at once. -/
def execPwmLoadall (e : Fin 4) (s : State) : Host.Outcome State Fault Refusal :=
  ok (s.fire e 3 false fun s v _ =>
    let mask := v.arg 7 0
    if mask = 0 then .done s stOK
    else
      let m : Multi := { asked := BitVec.ofNat 16 mask, open_ := BitVec.ofNat 16 mask, fails := [] }
      .open_ (((List.range 8).filter (bitN mask ·)).foldl (fun s g =>
        s.requestCommit (Fin.ofNat 32 (8 * v.arg 9 8 + g)) (.slot v.slot))
        (s.modEvent v.slot fun v => { v with span := some m })))

/-- ADC_TRIGGER (R311, R315): the converter takes the trigger or drops it, which ends the event with TIMEOUT; it is never
held. -/
def execAdcTrigger (e : Fin 4) (s : State) : Host.Outcome State Fault Refusal :=
  ok (s.fire e 4 false fun s v _ =>
    let (s1, taken) : State × Bool := s.adcGallery (Fin.ofNat 16 (v.arg 3 0)) (v.arg 13 8)
    .done s1 (if taken then stOK else stTIMEOUT))

/-- PIN (R93, R530). -/
def execPin (e : Fin 4) (s : State) : Host.Outcome State Fault Refusal :=
  ok (s.fire e 5 false fun s v _ => .done (s.pinAction (v.arg 3 0) (v.arg 9 8) (v.arg 31 16)) stOK)

/-- RING_PUSH into the home ring (R117, R118). -/
def State.takePush (s : State) (v : GEvent) : Taken :=
  match s.ringPush v.hring (s.entryBody v v.w3) stOK 1 v.action with
  | some s1 => .done s1 stOK
  | none => .unable

/-- RING_PUSH (R118): the push entry stands for the report. -/
def execRingPush (e : Fin 4) (s : State) : Host.Outcome State Fault Refusal :=
  ok (s.fire e 6 true fun s v _ => s.takePush v)

/-- ECHO_SEND on the binding of its ring (R489); while its units are open the event stays pending. -/
def State.takeSend (s : State) (v : GEvent) : Taken :=
  let open_ : Multi := { asked := 0, open_ := 0, fails := [] }
  let s1 := s.modEvent v.slot fun v => { v with held := false, span := some open_ }
  match s1.echoSend (v.arg 13 0) (v.slot, v.order) with
  | none => .unable
  | some (s2, some st) => .done s2 st
  | some (s2, none) => .open_ s2

/-- ECHO_SEND (R489). -/
def execEchoSend (e : Fin 4) (s : State) : Host.Outcome State Fault Refusal :=
  ok (s.fire e 7 false fun s v _ => s.takeSend v)

/-- COLUMN_IRQ at a line of a column that runs (R93, R454, R474). -/
def State.takeIrq (s : State) (v : GEvent) : Taken :=
  if h : v.arg 2 0 < 5 then
    let c : Fin 5 := ⟨v.arg 2 0, h⟩
    if !s.colAlive (c.castLE (by decide)) then .unable
    else
      match s.raiseLine c (Fin.ofNat 16 (v.arg 7 4)) v.chamber (v.arg 31 16) none with
      | some s1 => .done s1 stOK
      | none => .unable
  else .unable

/-- COLUMN_IRQ (R93). -/
def execColumnIrq (e : Fin 4) (s : State) : Host.Outcome State Fault Refusal :=
  ok (s.fire e 8 false fun s v _ => s.takeIrq v)

/-- SAFE_CHECK (R93, R395): CHANNEL, TOKEN and the firing TIME go to the Grotto. -/
def execSafeCheck (e : Fin 4) (s : State) : Host.Outcome State Fault Refusal :=
  ok (s.fire e 9 false fun s v _ => .done (s.heartbeat (v.arg 31 24) (v.arg 23 0) s.ns) stOK)

/-! ## Held actions (R95) -/

/-- A held action offered to its target again. -/
def State.offerAgain (s : State) (v : GEvent) (i : Issue) : Taken :=
  match v.action with
  | 1 => s.takeCell v
  | 2 => s.takeEdge v i
  | 6 => s.takePush v
  | 7 => s.takeSend v
  | 8 => s.takeIrq v
  | _ => .unable

/-- HOLD_RETRY (R95): in an issue slot that no firing uses, the engine offers the held action of one chamber again, round robin. -/
def execHoldRetry (e : Fin 4) (s : State) : Host.Outcome State Fault Refusal :=
  ok (if s.fabricOn && (s.engine e).slotUsed != some s.issueSlot && (s.engine e).retryUsed != some s.issueSlot &&
        (s.nextIssue e).isNone then
      match nextChamber (s.engine e).retry fun c => s.gal.events.any fun v => v.held && v.engine == e && v.chamber == c with
      | none => s
      | some c =>
        match s.gal.events.find? fun v => v.held && v.engine == e && v.chamber == c with
        | none => s
        | some v =>
          match v.issued with
          | none => s
          | some i =>
            let s1 := s.modEngine e fun g => { g with retry := c, retryUsed := some s.issueSlot }
            match s1.offerAgain v i with
            | .unable => s1
            | t => s1.applyTaken v (v.action == 6) t
    else s)

/-- HOLD_TIMEOUT (R95): a held action not taken 640 firing ticks after its issue ends with TIMEOUT; for a CELL_EVENT the cell
counts the overflow of its FIFO (R228). -/
def execHoldTimeout (e : Fin 4) (s : State) : Host.Outcome State Fault Refusal :=
  ok (if !s.fabricOn then s
    else
      match s.gal.events.find? fun v => v.held && v.engine == e &&
          (match v.issued with | some i => decide (i.first + 1280 ≤ s.tick) | none => false) with
      | none => s
      | some v =>
        let s1 := (s.count GAL_ENG_TMOCNT e.val GAL_ENG_TMOCNT_COUNT).endEvent v stTIMEOUT 0 false
        if v.action = 1 then s1.pmcCount (Fin.ofNat 128 (v.arg 30 24)) 0x0E else s1)

/-! ## Decisions of submissions (R97 to R99, R193) -/

/-- The decision of a SUBMIT with WAIT = 1 arrives: d(n) takes SLOT, d(n + 1) STATUS and TAG (R193). -/
def State.decisionIn (s : State) (c : Fin 128) (status : Nat) (tag : BitVec 8) (slot : Nat) : State :=
  (s.cellCores c).foldl (fun s q => s.modPhys q fun ph =>
    match ph.wait with
    | .decision rd =>
      let k := ((ph.core.wr .c rd slot).wr .c (rd + 1) ((status * 256 + tag.toNat : Nat) : Int)).advance .c
      { ph with wait := .run, core := k }
    | _ => ph) s

/-- A posted refusal reaches the copies of a logical cell (R154, R193); one that has not been taken yet stays. -/
def State.postRefusal (s : State) (c : Fin 128) (status word : Nat) : State :=
  (s.cellCores c).foldl (fun s q => s.modPhys q fun ph =>
    { ph with refusal := match ph.refusal with | some r => some r | none => some (status, word) }) s

/-- SUBMISSION_DECISION (R98, R99): the submission unit decides the next submission, and the outcome goes to its submitter. -/
def execSubmissionDecision (s : State) : Host.Outcome State Fault Refusal :=
  ok (if !s.fabricOn then s
    else
      match s.takeSub with
      | none => s
      | some (s1, u, st, tag, slot) =>
        let res := GAL_SUB_RES_STATUS.put (GAL_SUB_RES_TAG.put (BitVec.ofNat 32 slot) tag.toNat) st
        let s2 := match u.src with
          | .player _ => s1
          | .reg | .cell _ => s1.setRegA GAL_SUB_RES (agentId u.agent) 0 res
        let s3 := match u.src, u.agent with
          | .player x, _ => if st = stOK then s2 else s2.oppRefused (Fin.ofNat 8 x) st
          | .cell true, .cell c => s2.decisionIn c st tag slot
          | .cell false, .cell c => if st = stOK then s2 else s2.postRefusal c st 0x8F008
          | _, _ => s2
        match u.agent with
        | .col c => if st = stOK then s3 else s3.pmc (.col c) 0 0x0E
        | _ => s3)

end Sys2Proof.Machine
end

