-- ==== Sys2Proof/Machine/Fabric.lean ====
section
/-! DEFINITION. Chambers, the assignment of resources, FAB_ABORT, and the registers by which COLH watches and restarts the
columns (R32, R466 to R478, R642). -/

namespace Sys2Proof.Machine

/-! ## Resources (R468, R469) -/

/-- How many units a kind has; 0 for a value that is no kind (R468). -/
def kindSize : Nat → Nat
  | 0x01 => 128 | 0x02 => 32 | 0x03 => 16 | 0x04 => 64 | 0x05 => 16 | 0x06 => 32 | 0x07 => 8 | 0x08 => 4 | 0x09 => 4
  | 0x0A => 8 | 0x0B => 16 | 0x0C => 16384 | 0x0D => 128 | 0x0E => 128 | 0x0F => 256 | 0x10 => 4 | 0x11 => 16
  | 0x12 => 8 | 0x13 => 4 | 0x14 => 4 | 0x15 => 2 | 0x16 => 2 | 0x17 => 4
  | _ => 0

/-- The owner of a unit; 16 for an unowned crossbar slot. A ring's owner stands in its descriptor (R467). -/
def State.unitOwner (s : State) (kind i : Nat) : Nat := if kind = 0x0C then s.ringOwner i else s.ownerOf kind i

/-- A unit gets a new owner. A crossbar slot serves its old one until the next round of its table (R468). -/
def State.setOwner (s : State) (kind i c : Nat) : State :=
  if kind = 0x0C then s.setFld GAL_RING_CFG i GAL_RING_CFG_OWNER c
  else
    let old := smGet (s.ownerOf kind i) s.slotOld i
    let s1 : State := { s with owner := smSet s.owner (kind * 2 ^ 16 + i) c }
    if kind = 0x0F then { s1 with slotOld := smSet s.slotOld i old } else s1

/-- The condition of R468 for a unit to move to chamber `c`, but for those of crossbar slots. -/
def State.movable (s : State) (kind i c : Nat) : Bool :=
  let off (f : RegFam) (F : Fld) : Bool := !s.bit f i F
  match kind with
  | 0x01 => s.lstate (Fin.ofNat 128 i) == 0 || s.lstate (Fin.ofNat 128 i) == 3 || s.lstate (Fin.ofNat 128 i) == 4
  | 0x02 => off PWM_GCTL PWM_GCTL_EN
  | 0x03 => off ADC_CFG ADC_CFG_EN
  | 0x04 =>
    let r := i / 16
    off CMP_CFG CMP_CFG_EN &&
      !(s.bit SUMP_CFG r SUMP_CFG_EN && (s.fld SUMP_CFG r SUMP_CFG_CA == i % 16 || s.fld SUMP_CFG r SUMP_CFG_CB == i % 16))
  | 0x05 => off POS_CFG POS_CFG_EN
  | 0x06 => off DSM_CFG DSM_CFG_EN
  | 0x07 => off DSMCLK_CFG DSMCLK_CFG_EN
  | 0x08 => off SUMP_CFG SUMP_CFG_EN
  | 0x09 => off LAN_CFG LAN_CFG_EN
  | 0x0A => off ANG_CFG ANG_CFG_EN && off AX_CFG AX_CFG_EN && off SPF_CFG SPF_CFG_EN && off SH_CFG SH_CFG_EN &&
      off OPP_CFG OPP_CFG_EN && off SSX_CFG SSX_CFG_EN
  | 0x0B => (List.range 8).all fun l =>
      match (vget s.lcell (Fin.ofNat 128 (8 * i + l))).work with
      | .migrate _ _ _ _ _ _ _ _ _ => false
      | _ => true
  | 0x0C => off GAL_RING_CFG GAL_RING_CFG_EN && s.fld GAL_RING_TOL i GAL_RING_TOL_PEND == 0
  | 0x10 => decide (2 ≤ ((List.range 64).filter fun j => s.ownerOf 0x0F (64 * i + j) == c).length)
  | 0x11 => !bitN (s.reg GPIO_DIR 0).toNat i && !bitN (s.reg GPIO_EDGE 0).toNat i && !bitN (s.reg GPIO_EDGE 0).toNat (16 + i)
  | 0x12 => off CAN_CFG CAN_CFG_EN
  | 0x13 => off ETH_CFG ETH_CFG_EN
  | 0x14 => off SPI_CFG SPI_CFG_EN
  | 0x15 => off UART_CFG UART_CFG_EN
  | 0x16 => off I2C_CFG I2C_CFG_EN
  | 0x17 => off ECHO_CFG ECHO_CFG_EN
  | _ => true

/-- The owner of the column of crossbar slot `i` keeps at least 2 slots of the region once the slots from `a` to `b` belong to
`c` (R30, R468). -/
def State.slotKept (s : State) (a b c i : Nat) : Bool :=
  let r := i / 64
  let col := s.ownerOf 0x10 r
  decide (2 ≤ ((List.range 64).filter fun j =>
    (if a ≤ 64 * r + j ∧ 64 * r + j < b then c else s.ownerOf 0x0F (64 * r + j)) == col).length)

/-- FAB_CH_CFG.ACTIVE of a chamber. -/
def State.chActive (s : State) (c : Nat) : Bool := s.bit FAB_CH_CFG c FAB_CH_CFG_ACTIVE

/-- The verdict on a command over the units from `a`, `n` of them: its status and the first failing index (R467). -/
def State.judgeAsn (s : State) (kind a n : Nat) (free : Bool) (c : Nat) : Nat × Nat :=
  let size := kindSize kind
  if size = 0 || (free && kind != 0x0F) then (stBAD_TARGET, a)
  else if size < a + n then (stBAD_TARGET, max a size)
  else if !free && !s.chActive c then (stPERM, a)
  else
    let good (i : Nat) : Bool := if kind = 0x0F then s.slotKept a (a + n) (if free then 16 else c) i else s.movable kind i c
    match ((List.range n).map (a + ·)).find? (!good ·) with
    | some i => (stPERM, i)
    | none => (stOK, 0)

/-- FAB_ASN_CMD written (R467, R468, R470). -/
def State.writeAsn (s : State) (ag : Agent) (v : Word) : State :=
  if s.abort.isSome then s.discard ag FAB_ASN_CMD 0 stPERM
  else
    let kind := FAB_ASN_CMD_KIND.get v
    let free := FAB_ASN_CMD_FREE.get v == 1
    let c := FAB_ASN_CMD_CHAMBER.get v
    let a := s.fld FAB_ASN_RANGE 0 FAB_ASN_RANGE_FIRST
    let n := max 1 (s.fld FAB_ASN_RANGE 0 FAB_ASN_RANGE_COUNT)
    let (st, bad) : Nat × Nat := s.judgeAsn kind a n free c
    let s1 := if st = stOK then
        (List.range n).foldl (fun s i => s.setOwner kind (a + i) (if free then 16 else c)) s
      else s
    s1.setReg FAB_ASN_RES 0 (FAB_ASN_RES_BADIDX.put (FAB_ASN_RES_STATUS.put 0 st) bad)

/-- ASSIGN (R467): FAB_ASN_CMD with FREE = 0. -/
def execAssign (ag : Agent) (kind : BitVec 5) (c : Fin 16) (s : State) : Host.Outcome State Fault Refusal :=
  ok (s.asWrite ag FAB_ASN_CMD 0 fun s =>
    s.writeAsn ag (FAB_ASN_CMD_CHAMBER.put (FAB_ASN_CMD_KIND.put 0 kind.toNat) c.val))

/-- ASSIGN_FREE (R468): FAB_ASN_CMD with FREE = 1. -/
def execAssignFree (ag : Agent) (kind : BitVec 5) (s : State) : Host.Outcome State Fault Refusal :=
  ok (s.asWrite ag FAB_ASN_CMD 0 fun s =>
    s.writeAsn ag (FAB_ASN_CMD_FREE.put (FAB_ASN_CMD_KIND.put 0 kind.toNat) 1))

/-- FAB_QUERY written (R642). -/
def State.writeQuery (s : State) (ag : Agent) (v : Word) : State :=
  let kind := FAB_QUERY_KIND.get v
  let i := FAB_QUERY_INDEX.get v
  let answer (s : State) (w : Word) : State := s.setRegA FAB_QUERY_RES (agentId ag) 0 w
  if kindSize kind ≤ i then (answer s 0).discard ag FAB_QUERY 0 stBAD_TARGET
  else
    let o := s.unitOwner kind i
    answer s (if 16 ≤ o then 0 else FAB_QUERY_RES_OWNER.put (FAB_QUERY_RES_OWNED.put 0 1) o)

/-- FAB_QUERY (R642). -/
def execFabQuery (ag : Agent) (kind : BitVec 5) (i : Half) (s : State) : Host.Outcome State Fault Refusal :=
  ok (s.asWrite ag FAB_QUERY 0 fun s => s.writeQuery ag (FAB_QUERY_INDEX.put (FAB_QUERY_KIND.put 0 kind.toNat) i.toNat))

/-! ## Chambers (R32, R466) -/

/-- The field of a chamber's mesh weight in its register. -/
def meshFld (c : Nat) : Fld := ⟨8 * (c % 4) + 6, 8 * (c % 4)⟩

/-- The mesh weight of a chamber (R32). -/
def State.meshW (s : State) (c : Nat) : Nat := s.fld FAB_MESHW (c / 4) (meshFld c)

/-- FAB_MESHW written (R32, R468): the weights sum to at most 64, chamber 0 keeps at least 4. -/
def State.writeMeshw (s : State) (ag : Agent) (k : Nat) (v : Word) : State :=
  let w (c : Nat) : Nat := if c / 4 = k then (meshFld c).get v else s.meshW c
  if 64 < (List.range 16).foldl (fun n c => n + w c) 0 || w 0 < 4 then s.discard ag FAB_MESHW k stPERM
  else s.setReg FAB_MESHW k (v &&& 0x7F7F7F7F)

/-- Something keeps a chamber from deletion (R466): a resource, a block granule, a Gallery slot, a reservation, a mesh weight or
the CURCH of a column. -/
def State.chamberHeld (s : State) (c : Nat) : Bool :=
  s.owner.any (·.2 == c) || s.slotOld.any (·.2 == c) ||
  s.regs.any (fun e => 0x31000000 ≤ e.1 && e.1 < 0x31040000 && e.1 % 16 == 8 && GAL_RING_CFG_OWNER.get e.2 == c) ||
  (List.range 16).any (fun b => (List.range 8).any fun g => s.fld BLK_MPART b (fldAt 4 g) == c) ||
  s.useOf c != 0 || s.rsv c != 0 || s.meshW c != 0 || (List.finRange 5).any fun k => s.curCh k == c

/-- FAB_CH_CFG written (R466). -/
def State.writeChCfg (s : State) (ag : Agent) (c : Nat) (v : Word) : State :=
  let w := v &&& 0xC000001F
  if c = 0 then s.setReg FAB_CH_CFG 0 (FAB_CH_CFG_ACTIVE.put w 1)
  else if FAB_CH_CFG_ACTIVE.get v = 0 && s.chActive c && s.chamberHeld c then
    (s.setReg FAB_CH_CFG c (FAB_CH_CFG_ACTIVE.put w 1)).discard ag FAB_CH_CFG c stPERM
  else s.setReg FAB_CH_CFG c w

/-- CHAMBER_CREATE (R466): a write of FAB_CH_CFG with ACTIVE = 1. -/
def execChamberCreate (ag : Agent) (c : Fin 16) (v : Word) (s : State) : Host.Outcome State Fault Refusal :=
  ok (s.asWrite ag FAB_CH_CFG c.val fun s => s.writeChCfg ag c.val (FAB_CH_CFG_ACTIVE.put v 1))

/-- CHAMBER_DELETE (R466): a write of FAB_CH_CFG with ACTIVE = 0. -/
def execChamberDelete (ag : Agent) (c : Fin 16) (v : Word) (s : State) : Host.Outcome State Fault Refusal :=
  ok (s.asWrite ag FAB_CH_CFG c.val fun s => s.writeChCfg ag c.val (FAB_CH_CFG_ACTIVE.put v 0))

/-! ## What an abort does (R123, R471) -/

/-- Pending events whose target lies in an aborted unit (R123): one whose action waits at its target, or has been issued to
it, ends with ABORTED; any other ends when it is issued. -/
def State.abortEvents (s : State) (hit : GEvent → Bool) : State :=
  s.eachEvent (s.gal.events.filter fun e => hit e && e.span.isNone) fun e s =>
    if e.issued.isSome then s.endEvent e stABORTED 0 false else s.modEvent e.slot fun e => { e with doomed := true }

/-- A CELL_EVENT for logical cell `c`. -/
def GEvent.toCell (e : GEvent) (c : Nat) : Bool := e.action == 1 && e.arg 30 24 == c

/-- The target of an event lies among the cells, groups and converters of region `r`. -/
def GEvent.toRegion (e : GEvent) (r : Nat) : Bool :=
  match e.action with
  | 1 => e.arg 30 24 / 32 == r
  | 2 => e.arg 30 24 / 24 == r
  | 3 => e.arg 9 8 == r
  | 4 => e.arg 3 0 / 4 == r
  | _ => false

/-- The port on which the next entry of a binding would leave (R484). -/
def State.sendPort (s : State) (b : Nat) : Option Nat :=
  match s.echoUnits (b / 16) ((s.ringRead (s.fld ECHO_TXB b ECHO_TXB_RING) (s.txRing (s.fld ECHO_TXB b ECHO_TXB_RING)).next).headD 0) with
  | [] => none
  | u :: _ =>
    match s.route (b / 16) u.2.1 with
    | .inr _ => none
    | .inl k => some (if s.portUp k then k else portMate k)

/-- An ECHO_SEND whose entry would leave on port `k`. -/
def State.toPort (s : State) (k : Nat) (e : GEvent) : Bool :=
  e.action == 7 && ((s.echoBind (e.arg 13 0)).bind s.sendPort) == some k

/-- An abort of a logical cell: the cell itself and the events for it. -/
def State.abortOneCell (s : State) (c : Fin 128) : State := (s.abortCell c).abortEvents fun e => e.toCell c.val

/-- An abort of a block (R471): its RUNNING and MIGRATING cells, image copies; scheduler channels follow their cells. -/
def State.abortBlock (s : State) (b : Nat) : State :=
  (List.range 8).foldl (fun s l =>
    let c := Fin.ofNat 128 (8 * b + l)
    if s.lstate c == 1 || s.lstate c == 2 || (vget s.lcell c).work != .none then s.abortOneCell c
    else s.abortEvents fun e => e.toCell c.val) s

/-- The link of a FAB_ABORT target (R471): the transaction in progress, or of an Echo port the sends of rings that `mine` admits,
end with ABORTED. A frame of a MAC is sent whole, so none is in progress. -/
def State.abortLink (s : State) (t : Nat) (mine : Nat → Bool) : State :=
  if t < 0x08 then s.canEndAll (Fin.ofNat 8 t) stABORTED
  else if t < 0x0C then s
  else if t < 0x10 then (s.echoAbort (t - 0x0C) mine).abortEvents (s.toPort (t - 0x0C))
  else if t < 0x14 then s.spiAbort (Fin.ofNat 4 (t - 0x10))
  else if t = 0x14 then s.xspiAbort
  else if t < 0x17 then s.uartAbort (Fin.ofNat 2 (t - 0x15))
  else if t < 0x19 then s.i2cAbort (Fin.ofNat 2 (t - 0x17))
  else s.avsAbort (Fin.ofNat 2 (t - 0x19))

/-- The peripherals of region `r` that `mine` admits, by kind and index (R263, R333, R357, R379, R554). -/
def State.abortPeriph (s : State) (r : Nat) (mine : Nat → Nat → Bool) : State :=
  let each (n kind : Nat) (s : State) (f : State → Nat → State) : State :=
    ((List.range n).map (n * r + ·)).foldl (fun s i => if mine kind i then f s i else s) s
  let s1 := each 4 0x03 s fun s i => s.adcStop (Fin.ofNat 16 i)
  let s2 := each 8 0x06 s1 fun s i => s.setBit DSM_CFG i DSM_CFG_EN false
  let s3 := each 16 0x04 s2 fun s i =>
    ((s.setBit CMP_ROUTE i CMP_ROUTE_IE false).setBit CMP_ROUTE i CMP_ROUTE_NEV false).setBit CMP_ROUTE i CMP_ROUTE_WAKE false
  let s4 := each 1 0x08 s3 fun s i => s.setReg SUMP_EVT i 0
  let s5 := each 4 0x05 s4 fun s i => s.posAbort (Fin.ofNat 16 i)
  let s6 := each 1 0x09 s5 fun s i => s.lanAbort i
  each 2 0x0A s6 fun s i => s.axisAbort (Fin.ofNat 8 i)

/-- The PWM groups that `mine` admits take their abort pattern (R289). -/
def State.abortGroups (s : State) (mine : Nat → Bool) : State :=
  (List.finRange 32).foldl (fun s g => if mine g.val then s.abortGroup g else s) s

/-- Pins of a chamber keep no edge selection (R531). -/
def State.abortPins (s : State) (c : Nat) : State :=
  let m := BitVec.ofNat 32 (s.pinsOf c)
  s.setReg GPIO_EDGE 0 (s.reg GPIO_EDGE 0 &&& ~~~(m ||| (m <<< 16)))

/-- An abort of a chamber (R471, R123). -/
def State.abortChamber (s : State) (c : Nat) : State :=
  let mine (kind i : Nat) : Bool := s.ownerOf kind i == c
  let s1 := s.abortGroups (mine 0x02)
  let s2 := (List.finRange 128).foldl (fun s k =>
    if mine 0x01 k.val && (s.lstate k == 1 || s.lstate k == 2 || (vget s.lcell k).work != .none) then s.abortOneCell k else s) s1
  let s3 := (List.range 16).foldl (fun s b => if mine 0x0B b then s.abortBlock b else s) s2
  let s4 := (List.range 4).foldl (fun s r => s.abortPeriph r mine) s3
  let s5 := s4.eachEvent (s4.gal.events.filter (·.chamber == c)) fun e s => s.endEvent e stABORTED 0 false
  let link (kind n base : Nat) (s : State) : State :=
    (List.range n).foldl (fun s i => if mine kind i then s.abortLink (base + i) (fun _ => true) else s) s
  let s6 := link 0x16 2 0x17 (link 0x15 2 0x15 (link 0x14 4 0x10 (link 0x12 8 0 s5)))
  let s7 := (List.range 4).foldl (fun s k => s.echoAbort k fun n => s.ringOwner n == c) s6
  s7.abortPins c

/-- The effect of an abort (R471). -/
def State.abortEffect (s : State) (kind t : Nat) : State :=
  match kind with
  | 1 => s.abortOneCell (Fin.ofNat 128 t)
  | 2 => s.abortBlock t
  | 3 => s.abortLink t fun _ => true
  | 4 =>
    let s1 := (s.abortGroups fun g => g / 8 == t).abortEvents fun e => e.toRegion t
    ((List.range 4).foldl (fun s b => s.abortBlock (4 * t + b)) s1).abortPeriph t fun _ _ => true
  | _ => s.abortChamber t

/-- Targets, units of the mask and bound in fabric ticks of a KIND (R471, R472). -/
def abortKind : Nat → Nat × BitVec 8 × Nat
  | 1 => (128, 0x01, 640)
  | 2 => (16, 0xFF, 2560)
  | 3 => (0x1B, 0x01, 12800)
  | 4 => (4, 0x3F, 32000)
  | 5 => (16, 0x3F, 64000)
  | _ => (0, 0, 0)

/-- FAB_ABORT written (R470). -/
def State.writeAbort (s : State) (ag : Agent) (v : Word) : State :=
  let kind := FAB_ABORT_KIND.get v
  let t := FAB_ABORT_TARGET.get v
  if s.abort.isSome then s.discard ag FAB_ABORT 0 stFULL
  else if (abortKind kind).1 ≤ t then s.discard ag FAB_ABORT 0 stBAD_TARGET
  else if kind = 5 && t = 0 then s.discard ag FAB_ABORT 0 stPERM
  else
    let s1 := (s.setReg FAB_ABORT_RES 0 (FAB_ABORT_RES_BUSY.put 0 1)).abortEffect kind t
    { s1 with abort := some { kind := kind, target := t, since := s.tick, mask := (abortKind kind).2.1 } }

/-- The write that starts an abort of `kind` and `t`. -/
def abortWord (kind t : Nat) : Word := FAB_ABORT_TARGET.put (FAB_ABORT_KIND.put 0 kind) t

/-- ABORT_CELL (R471). -/
def execAbortCell (ag : Agent) (t : Half) (s : State) : Host.Outcome State Fault Refusal :=
  ok (s.asWrite ag FAB_ABORT 0 fun s => s.writeAbort ag (abortWord 1 t.toNat))

/-- ABORT_BLOCK (R471). -/
def execAbortBlock (ag : Agent) (t : Half) (s : State) : Host.Outcome State Fault Refusal :=
  ok (s.asWrite ag FAB_ABORT 0 fun s => s.writeAbort ag (abortWord 2 t.toNat))

/-- ABORT_LINK (R471). -/
def execAbortLink (ag : Agent) (t : Half) (s : State) : Host.Outcome State Fault Refusal :=
  ok (s.asWrite ag FAB_ABORT 0 fun s => s.writeAbort ag (abortWord 3 t.toNat))

/-- ABORT_REGION (R471). -/
def execAbortRegion (ag : Agent) (t : Half) (s : State) : Host.Outcome State Fault Refusal :=
  ok (s.asWrite ag FAB_ABORT 0 fun s => s.writeAbort ag (abortWord 4 t.toNat))

/-- ABORT_CHAMBER (R471). -/
def execAbortChamber (ag : Agent) (t : Half) (s : State) : Host.Outcome State Fault Refusal :=
  ok (s.asWrite ag FAB_ABORT 0 fun s => s.writeAbort ag (abortWord 5 t.toNat))

/-! ## Completion (R472) -/

/-- A cell that has not finished is forced (R472): its physical cell ISOLATED, the logical cell FAULTED. -/
def State.forceCell (s : State) (c : Fin 128) : State :=
  match s.physOf c with
  | some p => (s.isolate c p).setLstate c 3
  | none => s.setLstate c 3

/-- A link port that has not finished is reset, and reports LINK_DOWN until it is enabled again. -/
def State.forceLink (s : State) (t : Nat) : State :=
  if t < 0x08 then (s.setBit CAN_CFG t CAN_CFG_EN false).canEndAll (Fin.ofNat 8 t) stLINK_DOWN
  else if t < 0x0C then s.writeEthCfg (t - 0x08) (ETH_CFG_EN.put (s.reg ETH_CFG (t - 0x08)) 0)
  else if t < 0x10 then s.writeEchoCfg (t - 0x0C) (ECHO_CFG_EN.put (s.reg ECHO_CFG (t - 0x0C)) 0)
  else if t < 0x14 then (s.spiAbort (Fin.ofNat 4 (t - 0x10))).setBit SPI_CFG (t - 0x10) SPI_CFG_EN false
  else if t = 0x14 then s.xspiAbort.setBit XSPI_CFG 0 XSPI_CFG_EN false
  else if t < 0x17 then (s.uartAbort (Fin.ofNat 2 (t - 0x15))).setBit UART_CFG (t - 0x15) UART_CFG_EN false
  else if t < 0x19 then (s.i2cAbort (Fin.ofNat 2 (t - 0x17))).setBit I2C_CFG (t - 0x17) I2C_CFG_EN false
  else (s.avsAbort (Fin.ofNat 2 (t - 0x19))).setBit AVS_CFG (t - 0x19) AVS_CFG_EN false

/-- Peripherals of region `r` that have not finished are disabled; the Sump goes on (R357). -/
def State.forcePeriph (s : State) (r : Nat) (mine : Nat → Nat → Bool) : State :=
  let each (n kind : Nat) (s : State) (f : State → Nat → State) : State :=
    ((List.range n).map (n * r + ·)).foldl (fun s i => if mine kind i then f s i else s) s
  let s1 := each 8 0x02 s fun s g => s.writeGctl (Fin.ofNat 32 g) (PWM_GCTL_EN.put (s.reg PWM_GCTL g) 0)
  let s2 := each 4 0x03 s1 fun s i => s.setBit ADC_CFG i ADC_CFG_EN false
  let s3 := each 4 0x05 s2 fun s i => s.setBit POS_CFG i POS_CFG_EN false
  let s4 := each 8 0x06 s3 fun s i => s.setBit DSM_CFG i DSM_CFG_EN false
  let s5 := each 1 0x09 s4 fun s i => s.setBit LAN_CFG i LAN_CFG_EN false
  each 2 0x0A s5 fun s i => s.axisAbort (Fin.ofNat 8 i)

/-- Unit `i` of an abort is forced at the bound (R472). -/
def State.forceUnit (s : State) (kind t i : Nat) : State :=
  let cells (s : State) (l : List Nat) : State := l.foldl (fun s c => s.forceCell (Fin.ofNat 128 c)) s
  match kind with
  | 1 => cells s [t]
  | 2 => cells s [8 * t + i]
  | 3 => s.forceLink t
  | 4 =>
    if i < 4 then cells s ((List.range 8).map fun l => 32 * t + 8 * i + l)
    else if i = 4 then s.forcePeriph t fun _ _ => true
    else s
  | _ =>
    if i < 4 then
      (cells s (((List.range 32).map fun l => 32 * i + l).filter fun c => s.ownerOf 0x01 c == t)).forcePeriph i fun k j =>
        s.ownerOf k j == t
    else if i = 5 then
      let link (kind n base : Nat) (s : State) : State :=
        (List.range n).foldl (fun s j => if s.ownerOf kind j == t then s.forceLink (base + j) else s) s
      let s1 := link 0x17 4 0x0C (link 0x16 2 0x17 (link 0x15 2 0x15 (link 0x14 4 0x10 (link 0x13 4 0x08 (link 0x12 8 0 s)))))
      { s1 with regs := s1.regs.map fun e =>
          if 0x31000000 ≤ e.1 && e.1 < 0x31040000 && e.1 % 16 == 8 && GAL_RING_CFG_OWNER.get e.2 == t then
            (e.1, GAL_RING_CFG_EN.put e.2 0)
          else e }
    else s

/-- ABORT_COMPLETE (R472): the abort ends. `late` names the units that have not finished at the bound; without any it ends
before. -/
def execAbortComplete (late : Byte) (s : State) : Host.Outcome State Fault Refusal :=
  ok (match s.abort with
    | none => s
    | some a =>
      let fails := late &&& a.mask
      if fails != 0 && decide (s.tick < a.since + (abortKind a.kind).2.2) then s
      else
        let s1 := ((List.range 8).filter (fails.getLsbD ·)).foldl (fun s i => s.forceUnit a.kind a.target i) s
        let st := if fails = 0 then stOK else if fails = a.mask then stTIMEOUT else stPARTIAL
        let s2 := (s1.setReg FAB_ABORT_RES 0 (FAB_ABORT_RES_MASK.put (FAB_ABORT_RES_STATUS.put 0 st) fails.toNat)).setReg
          FAB_ABORT_TIME 0 (BitVec.ofNat 32 (s.tick - a.since))
        { s2 with abort := none, abortIrq := true })

/-! ## Columns under the eye of COLH (R474 to R477) -/

/-- The reset of a region column (R477): registers and CSRs, caches; the TCM is kept. It waits for its first instruction. -/
def State.columnReset (s : State) (c : Fin 4) : State :=
  s.modSproc (c.castLE (by decide)) fun _ => { sprocReset with inReset := true, restart := true }

/-- SYSCTL_COLCTL written (R474, R476, R477): RST acts from COLH alone and not on COLH. -/
def State.writeColctl (s : State) (ag : Agent) (c : Fin 5) (v : Word) : State :=
  let old := s.reg SYSCTL_COLCTL c.val
  let w := SYSCTL_COLCTL_WDT.put (if SYSCTL_COLCTL_WDTEXP.get v = 1 then SYSCTL_COLCTL_WDTEXP.put old 0 else old)
    (SYSCTL_COLCTL_WDT.get v)
  let s1 := s.setReg SYSCTL_COLCTL c.val w
  let s2 := if SYSCTL_COLCTL_WDT.get v = SYSCTL_COLCTL_WDT.get old then s1
    else s1.modSproc (c.castLE (by decide)) fun q => { q with kickAt := s.tick }
  if SYSCTL_COLCTL_RST.get v = 1 && ag == .col 4 then
    if h : c.val < 4 then s2.columnReset ⟨c.val, h⟩ else s2
  else s2

/-- COLUMN_RESET (R477). -/
def execColumnReset (ag : Agent) (c : Fin 5) (s : State) : Host.Outcome State Fault Refusal :=
  ok (s.asWrite ag SYSCTL_COLCTL c.val fun s =>
    if chamberOf s ag ≠ 0 then s.discard ag SYSCTL_COLCTL c.val stPERM
    else s.writeColctl ag c (SYSCTL_COLCTL_RST.put (SYSCTL_COLCTL_WDTEXP.put (s.reg SYSCTL_COLCTL c.val) 0) 1))

/-- SYSCTL_COLKICK written: by that column only (R476). -/
def State.writeColkick (s : State) (ag : Agent) (c : Fin 5) (v : Word) : State :=
  if ag != .col c then s.discard ag SYSCTL_COLKICK c.val stPERM
  else if SYSCTL_COLKICK_KICK.get v = 1 then s.modSproc (c.castLE (by decide)) fun q => { q with kickAt := s.tick }
  else s

/-- COLKICK (R476). -/
def execColkick (ag : Agent) (c : Fin 5) (v : Word) (s : State) : Host.Outcome State Fault Refusal :=
  ok (s.asWrite ag SYSCTL_COLKICK c.val fun s => s.writeColkick ag c v)

end Sys2Proof.Machine
end

