-- ==== Sys2Proof/Machine/ColumnIrq.lean ====
section
/-! DEFINITION. The interrupt sources of the columns (R454, R455, R475) and of the chip peripherals (R504, R506): conditions
over the registers of the units. -/

namespace Sys2Proof.Machine

/-! ## Region sources (R454) -/

/-- Some unit of the `n` that a region has satisfies `p`; the first is `n` × region. -/
def ofRegion (r n : Nat) (p : Nat → Bool) : Bool := (List.range n).any fun i => p (n * r + i)

/-- Region source 0x30 + j of region `r` is pending. -/
def State.regionSrc (s : State) (r j : Nat) : Bool :=
  match j with
  | 0 => ofRegion r 4 fun b => s.bit BLK_STAT b BLK_STAT_FAULT || s.bit BLK_STAT b BLK_STAT_MIG
  | 1 => ofRegion r 2 fun x => s.bit ANG_STAT x ANG_STAT_SF0 || s.bit ANG_STAT x ANG_STAT_SF1 || s.bit ANG_STAT x ANG_STAT_ETRIP
  | 2 => ofRegion r 16 fun c =>
      s.bit CMP_ROUTE c CMP_ROUTE_IE && (s.bit CMP_STAT c CMP_STAT_HIL || s.bit CMP_STAT c CMP_STAT_LOL)
  | 3 => s.bit SUMP_EVT r SUMP_EVT_IE && s.reg SUMP_STAT r &&& 0x00FF0000 != 0
  | 4 => ofRegion r 2 fun x => s.bit SH_STAT x SH_STAT_CHG
  | 5 => ofRegion r 2 fun x => s.fld OPP_STAT x OPP_STAT_STATE == 4
  | 6 => ofRegion r 2 fun x => s.bit SSX_STAT x SSX_STAT_FAULT
  | _ => ofRegion r 4 fun k =>
      s.bit POS_CFG k POS_CFG_IE && (s.bit POS_STAT k POS_STAT_LOSS || s.bit POS_STAT k POS_STAT_PLAUS)

/-! ## Chip peripherals (R504, R506, R528, R552, R561) -/

/-- The chip peripherals: source number, XX_IRQ, and whether a flag of the status register is set. -/
def State.chipSrc (s : State) : List (Nat × Word × Bool) :=
  let each (n num : Nat) (irq : RegFam) (p : Nat → Bool) : List (Nat × Word × Bool) :=
    (List.range n).map fun k => (num + k, s.reg irq k, p k)
  let some_ (f : RegFam) (k : Nat) (mask : Word) : Bool := s.reg f k &&& mask != 0
  each 1 0x01 THERM_IRQ (fun _ => some_ THERM_STAT 0 0x04700000) ++
    each 1 0x02 PWR_IRQ (fun _ => s.bit PWR_STAT 0 PWR_STAT_DONE) ++
    each 1 0x03 DRIP_IRQ (fun _ => some_ DRIP_STAT 0 0x3F3F3F00) ++
    each 4 0x04 LAN_IRQ (fun r => ofRegion r 4 fun q => some_ LAN_BSTAT q 0x1C000000) ++
    each 8 0x10 CAN_IRQ (fun k => some_ CAN_STAT k 0xFF800000) ++
    each 4 0x18 SPI_IRQ (fun k => some_ SPI_STAT k 0x78000000) ++
    each 1 0x1C XSPI_IRQ (fun _ => s.bit XSPI_STAT 0 XSPI_STAT_DONE) ++
    each 2 0x1D UART_IRQ (fun k => some_ UART_STAT k 0x78000000) ++
    each 2 0x1F I2C_IRQ (fun k => some_ I2C_STAT k 0x78000000) ++
    each 2 0x21 AVS_IRQ (fun k => s.bit AVS_RES k AVS_RES_DONE) ++
    each 1 0x23 GPIO_IRQ (fun _ => some_ GPIO_STAT 0 0xFFFF) ++
    each 4 0x24 ECHO_IRQ (fun k => some_ ECHO_STAT k 0x3C000000) ++
    each 4 0x28 ETH_IRQ (fun k => s.bit ETH_STAT k ETH_STAT_LINKEV)

/-- The column that an XX_IRQ names: 5 to 7 are COLH (R506). -/
def irqCol (w : Word) : Nat := if CAN_IRQ_COL.get w < 5 then CAN_IRQ_COL.get w else 4

/-- The lowest-numbered pending chip peripheral routed to column `c`. -/
def State.chipPending (s : State) (c : Nat) : Option Nat :=
  (s.chipSrc.find? fun e => e.2.2 && CAN_IRQ_EN.get e.2.1 == 1 && irqCol e.2.1 == c).map (·.1)

/-! ## The sources of a column (R454, R455) -/

/-- TMRCMP of a column in ns. -/
def State.tmrcmp (s : State) (i : Fin 6) : Nat :=
  let q := (vget s.sproc i).csr
  (smGet 0 q 0x2B).toNat * 2 ^ 32 + (smGet 0 q 0x2A).toNat

/-- Source 0x20 + `j` of a Sornas-S processor: its XTVAL while it is pending (R454). -/
def State.irqPending (s : State) (i : Fin 6) (j : Nat) : Option Nat :=
  let q := vget s.sproc i
  let when_ (b : Bool) (v : Nat) : Option Nat := if b then some v else none
  if h : j < 16 then (vget q.lines ⟨j, h⟩).map fun l => l.chamber * 2 ^ 16 + l.payload.toNat
  else if j = 28 then when_ (decide (s.tmrcmp i ≤ s.ns)) 0
  else if j = 29 then
    let w := (smGet 0 q.csr 0xC28).toNat
    when_ ((List.range 8).any fun k => bitN w k && bitN w (16 + k)) 0
  else if i.val = 5 then none
  else if j = 31 then when_ (q.swi != 0) q.swi.toNat
  else if j = 30 then s.chipPending i.val
  else if j = 27 then when_ (vget s.grt.mail (Fin.ofNat 5 i.val)).irq i.val
  else if i.val < 4 then (if j < 24 then when_ (s.colAlive i && s.regionSrc i.val (j - 16)) i.val else none)
  else if j < 24 then (List.range 4).find? fun r => !s.colAlive (Fin.ofNat 6 r) && s.regionSrc r (j - 16)
  else if j = 24 then when_ (!s.fabLog.isEmpty) 0
  else if j = 25 then when_ s.abortIrq 0
  else (List.range 4).find? fun c => s.bit SYSCTL_COLCTL c SYSCTL_COLCTL_HALTED ||
    s.bit SYSCTL_COLCTL c SYSCTL_COLCTL_STOPPED || s.bit SYSCTL_COLCTL c SYSCTL_COLCTL_WDTEXP

/-- IPEND (R452). -/
def State.ipend (s : State) (i : Fin 6) : Word :=
  BitVec.ofNat 32 ((List.range 32).foldl (fun n j => n + 2 ^ j * b2n (s.irqPending i j).isSome) 0)

/-- The level of a source (R452). -/
def State.irqLevel (s : State) (i : Fin 6) (j : Nat) : Nat :=
  (smGet 0 (vget s.sproc i).csr (0x24 + j / 8)).toNat / 2 ^ (4 * (j % 8)) % 8

/-- A source qualifies, STATUS.IE apart (R455). -/
def State.irqQualifies (s : State) (i : Fin 6) (j : Nat) : Bool :=
  let q := vget s.sproc i
  bitN (smGet 0 q.csr 0x23).toNat j && decide ((⟨30, 28⟩ : Fld).get q.core.st < s.irqLevel i j) && (s.irqPending i j).isSome

/-- The source that is taken: the highest level first, then ascending XCAUSE (R455). -/
def State.irqNext (s : State) (i : Fin 6) : Option Nat :=
  ((List.range 32).filter fun j => s.irqQualifies i j).foldl (fun (b : Option Nat) j =>
    match b with
    | none => some j
    | some k => if s.irqLevel i k < s.irqLevel i j then some j else some k) none

end Sys2Proof.Machine
end

