-- ==== Sys2Proof/Machine/Reset.lean ====
section
/-! DEFINITION. The resets of R576 to R580, the start-up sequence with its self-test (R588 to R591) and the boot ROM (R581 to
R584). -/

namespace Sys2Proof.Machine

/-! ## What a reset keeps (R577, R390) -/

/-- A register of the Grotto: no fabric reset reaches it. -/
def grottoReg (a : Nat) : Bool := 0x18000000 ≤ a && a < 0x18100000

/-- A register that keeps its value through cold and warm resets: TIME, WAKE_STAT and PWR_WCFG, AVS, SYSCTL_RSTCAUSE. -/
def keptReg (a : Nat) : Bool :=
  (0x40010000 ≤ a && a < 0x40010044) || a = 0x40020080 || (0x40020040 ≤ a && a < 0x40020060) ||
    (0x402E0000 ≤ a && a < 0x40300000) || a = 0x40000200

/-- A byte of the Grotto's SRAM or of the mailbox window. -/
def grottoMem (a : Nat) : Bool := grottoReg a || 0x200000000 ≤ a

/-- A byte of the area that a warm reset keeps while KEEPEN was 1. -/
def keepArea (a : Nat) : Bool := 0x107F0000 ≤ a && a ≤ 0x107FFFFF

/-- A bridge through a fabric reset: requests are 0, and the Grotto's override stands (R418, R578); the pad drivers keep their
state through all but a power-on reset (R607). -/
def Bridge.reset (b : Bridge) (power : Bool) : Bridge :=
  { bridgeReset with
    safe := b.safe, released := b.released, pads := if power then 0 else b.pads, pol := if power then 0 else b.pol
    outs := b.outs.map fun o => { poutReset with gate := o.gate, gateOff := o.gateOff, gateOn := o.gateOn } }

/-- Every field as a fabric reset of `scope` (3 power-on by a supply monitor, 2 cold, 1 warm) leaves it, but for the fields of
single registers that R577 keeps: reset values, the Grotto as it was. -/
def State.resetBase (s : State) (scope : Nat) : State :=
  let aon : Bool := scope < 3
  let keep : Bool := scope = 1 && s.bit SYSCTL_RSTCFG 0 SYSCTL_RSTCFG_KEEPEN
  { State.reset with
    pending := s.pending, freeCtr := s.freeCtr, tick := s.tick, aon := s.aon
    mem := s.mem.filter fun e => grottoMem e.1 || (keep && keepArea e.1)
    ecc := s.ecc.filter fun e => grottoMem e.1 || (keep && keepArea e.1)
    regs := s.regs.filter fun e => grottoReg (e.1 % 2 ^ 32) || (aon && keptReg (e.1 % 2 ^ 32))
    grt := s.grt, sproc := State.reset.sproc.set 5 s.sproc[5]
    bridge := s.bridge.map fun b => b.reset (!aon)
    time := if aon then s.time else timeReset
    avs := if aon then s.avs else State.reset.avs
    boot := { bootReset with tap := if aon then s.boot.tap else { bootReset.tap with testen := s.boot.tap.testen } }
    power := { powerReset with consentP := s.power.consentP, consentK := s.power.consentK } }

/-- The device as a fabric reset of `scope` leaves it (R577). -/
def State.resetTo (s : State) (scope : Nat) : State :=
  let copy (f : RegFam) (F : Fld) (q : State) : State := q.setFld f 0 F (s.fld f 0 F)
  let s2 := copy PWR_STAT PWR_STAT_CONSENTP (copy PWR_STAT PWR_STAT_CONSENTK (s.resetBase scope))
  let s3 := if scope < 3 then
      copy THERM_STAT THERM_STAT_LATCH (copy PWR_WSTAT PWR_WSTAT_WLAT (copy DBG_STAT DBG_STAT_BLOCKED s2))
    else s2
  if s.grottoOn then s3 else s3.pairsRestart

/-! ## Causes (R576, R579, R580) -/

/-- Flags of SYSCTL_RSTCAUSE are set. -/
def State.rstCause (s : State) (l : List Fld) : State := l.foldl (fun s F => s.flag SYSCTL_RSTCAUSE 0 F) s

/-- The scope of the internal reset that lasts, 0 for none. -/
def State.heldScope (s : State) : Nat :=
  match s.boot.start with
  | .held c _ => c
  | _ => 0

/-- The start-up sequence moves on. -/
def State.setStart (s : State) (x : StartUp) : State := { s with boot := { s.boot with start := x } }

/-- The Grotto learns by its reset line that a reset began (R578, R584): BOOTOK falls, the decision of R401 is ordered for
every axis in RUN, and one entry is logged. -/
def State.grottoTold (s : State) : State :=
  let s1 := s.modGrt fun g => { g with bootOk := false }
  s1.groupOrder (s1.axesUsed.filter fun x => s1.axOut x == 0) 22 0 (some ((s1.reg SYSCTL_RSTCAUSE 0).toNat / 2 ^ 16))

/-- A cause of a reset of `scope` arrives (R580): during a reset of wider or equal scope it joins that reset, otherwise its own
begins. -/
def State.beginReset (s : State) (scope : Nat) (causes : List Fld) : State :=
  if scope ≤ s.heldScope then (s.rstCause causes).setStart (.held s.heldScope s.aon)
  else (((s.resetTo scope).rstCause causes).setStart (.held scope s.aon)).grottoTold

/-- POWER_ON_RESET (R576): PORST# falls. The whole device, the Grotto included. -/
def execPowerOnReset (s : State) : Host.Outcome State Fault Refusal :=
  ok ((({ State.reset with pending := s.pending, freeCtr := s.freeCtr, aon := s.aon }.rstCause
    [SYSCTL_RSTCAUSE_PORPIN])).setStart (.held 3 s.aon))

/-- SUPPLY_MONITOR_RESET (R621): a rail falls below its threshold of the power-on monitors: VDD_CORE, VDD_SRAM, VDDIO18 in
mV. The Grotto is spared (R390). -/
def execSupplyMonitorReset (rail : Fin 3) (mv : Nat) (s : State) : Host.Outcome State Fault Refusal :=
  ok (if mv < (match rail.val with | 0 => 450 | 1 => 700 | _ => 1500) then s.beginReset 3 [SYSCTL_RSTCAUSE_PORMON] else s)

/-- GROTTO_RESET (R396, R418): VDD_GROTTO in mV falls below the threshold of its monitor, and the Grotto alone is reset. -/
def execGrottoReset (mv : Nat) (s : State) : Host.Outcome State Fault Refusal :=
  ok (if 680 ≤ mv then s
    else
      let s1 : State := { s with
        grt := grottoReset, sproc := s.sproc.set 5 sprocReset
        mem := s.mem.filter fun e => !grottoMem e.1
        ecc := s.ecc.filter fun e => !grottoMem e.1
        regs := s.regs.filter fun e => !grottoReg (e.1 % 2 ^ 32) }
      let s2 := (List.finRange 16).foldl (fun s k => s.orderBr k (some 0)) s1.dropConsent
      s2.modGrt fun g => { g with bootOk := s.grt.bootOk })

/-- SYSCTL_RSTCTL written (R576): COLD wins over WARM; COLH alone may write it. The debug port resets by itself. -/
def State.writeRstctl (s : State) (ag : Agent) (v : Word) : State :=
  let more : List Fld := if ag = .debug then [SYSCTL_RSTCAUSE_DEBUG] else []
  if ag != .col 4 && ag != .debug then s.discard ag SYSCTL_RSTCTL 0 stPERM
  else if SYSCTL_RSTCTL_COLD.get v = 1 then s.beginReset 2 (SYSCTL_RSTCAUSE_COLDSW :: more)
  else if SYSCTL_RSTCTL_WARM.get v = 1 then s.beginReset 1 (SYSCTL_RSTCAUSE_WARMSW :: more)
  else s

/-- A reset asked for by a write of SYSCTL_RSTCTL, or by the unlocked debug port. -/
def State.askReset (s : State) (ag : Agent) (v : Word) : State :=
  if ag = .debug then
    if s.fld DBG_STAT 0 DBG_STAT_LEVEL = 0 then s.discard ag SYSCTL_RSTCTL 0 stPERM else s.writeRstctl ag v
  else s.asWrite ag SYSCTL_RSTCTL 0 fun s => s.writeRstctl ag v

/-- COLD_RESET (R576). -/
def execColdReset (ag : Agent) (s : State) : Host.Outcome State Fault Refusal := ok (s.askReset ag 0x40000000)

/-- WARM_RESET (R576). -/
def execWarmReset (ag : Agent) (s : State) : Host.Outcome State Fault Refusal := ok (s.askReset ag 0x80000000)

/-- PARK, KEEP, an entry to them or a wait between retries is in progress (R574). -/
def State.parking (s : State) : Bool :=
  match s.power.phase with
  | .run | .doze | .quiesce 1 _ => false
  | _ => true

/-- WRST (R579, R574): WRST# has been low for `low` ns. -/
def execWrst (low : Nat) (s : State) : Host.Outcome State Fault Refusal :=
  ok (if low < 1000 then s
    else
      let s1 := s.beginReset 1 [SYSCTL_RSTCAUSE_WARMPIN]
      if s.parking then s1.flag WAKE_STAT 0 WAKE_STAT_RST else s1)

/-- COLH_HALT_RESET (R579): 100 µs after a halt or stop of COLH, with HALTWARM. -/
def execColhHaltReset (s : State) : Host.Outcome State Fault Refusal :=
  ok (match s.boot.colhAt with
    | some t =>
      if s.bit SYSCTL_RSTCFG 0 SYSCTL_RSTCFG_HALTWARM && decide (t + 100 * aonUs ≤ s.aon) then
        s.beginReset 1 [SYSCTL_RSTCAUSE_COLHHALT]
      else s
    | none => s)

/-! ## Start-up (R578, R588, R590) -/

/-- The grids that count fabric ticks from the end of the last fabric reset start anew (R29, R74, R94): the count moves up to
the next multiple of 1,280 ticks, which is one of every grid, and with it the instants that the reset has kept. -/
def State.rebase (s : State) : State :=
  let d := (1280 - s.tick % 1280) % 1280
  let late : Option Nat → Option Nat := fun o => o.map (· + 8 * d)
  { s with
    tick := s.tick + d
    time := { s.time with stepTick := s.time.stepTick.map (· + d) }
    bridge := s.bridge.map fun b => { b with outs := b.outs.map fun o => { o with gateOff := late o.gateOff, gateOn := late o.gateOn } } }

/-- RESET_RELEASE (R578, R581, R612): the internal reset ends: 10 µs after its last cause, or, for a power-on reset, when PORST#
is released with every supply in range. BOOT1 and BOOT0 are latched, and TESTEN where PORST# was the cause. -/
def execResetRelease (mode : BitVec 2) (testen : Bool) (s : State) : Host.Outcome State Fault Refusal :=
  ok (match s.boot.start with
    | .held scope since =>
      if scope < 3 && decide (s.aon < since + 10 * aonUs) then s
      else
        let s1 := (s.rebase.setStart (.test 0 s.aon)).setFld SYSCTL_BOOTSTAT 0 SYSCTL_BOOTSTAT_BOOTMODE mode.toNat
        let s2 := if Config.otpLocked then s1 else s1.setFld DBG_STAT 0 DBG_STAT_LEVEL 2
        if scope = 3 && s.bit SYSCTL_RSTCAUSE 0 SYSCTL_RSTCAUSE_PORPIN then
          { s2 with boot := { s2.boot with tap := { s2.boot.tap with testen := testen } } }
        else s2
    | _ => s)

/-- SELF_TEST_WAVE (R590, R591): the next wave ends; `bad` is its first failure: status, whether UNIT is an agent ID, and
UNIT. -/
def execSelfTestWave (bad : Option (Byte × Bool × Byte)) (s : State) : Host.Outcome State Fault Refusal :=
  ok (match s.boot.start with
    | .test w since =>
      let s1 :=
        match bad with
        | some (st, logic, unit) =>
          if s.fld SYSCTL_STRES 0 SYSCTL_STRES_WAVE = 0 then
            s.setReg SYSCTL_STRES 0 (SYSCTL_STRES_WAVE.put (SYSCTL_STRES_STATUS.put (SYSCTL_STRES_LOGIC.put
              (SYSCTL_STRES_UNIT.put 0 unit.toNat) (b2n logic)) st.toNat) (w + 1))
          else s
        | none => s
      if w < 6 then s1.setStart (.test (w + 1) since)
      else
        let first := s1.fld SYSCTL_STRES 0 SYSCTL_STRES_WAVE
        let s2 := (s1.setBit SYSCTL_STRES 0 SYSCTL_STRES_DONE true).setBit SYSCTL_STRES 0 SYSCTL_STRES_FAIL (first != 0)
        (s2.setReg SYSCTL_STTIME 0 (BitVec.ofNat 32 ((s.aon - since) / aonUs))).setStart (if first = 1 then .up else .rom)
    | _ => s)

/-! ## The boot image (R582) -/

/-- A little-endian word of an image. -/
def imgWord (l : List Byte) (o : Nat) : Nat := beNat ((l.drop o).take 4).reverse

/-- A segment of an image. -/
structure ImgSeg where
  ofs  : Nat
  dst  : Nat
  len  : Nat
  zero : Bool
  xip  : Bool
  deriving DecidableEq, Repr

/-- The segments of an image. -/
def imgSegs (l : List Byte) : List ImgSeg :=
  (List.range (imgWord l 0x0C % 64)).map fun i =>
    let o := 0x20 + 16 * i
    { ofs := imgWord l o, dst := imgWord l (o + 4), len := imgWord l (o + 8), zero := bitN (imgWord l (o + 12)) 0
      xip := bitN (imgWord l (o + 12)) 1 }

/-- A destination lies wholly in system SRAM, region memory or COLH's TCM. -/
def imgDst (a n : Nat) : Bool :=
  a + n ≤ 0x80000 || (0x10000000 ≤ a && a + n ≤ 0x10800000) ||
    (List.range 4).any fun r => 0x20000000 + r * 0x04000000 ≤ a && a + n ≤ 0x20000000 + r * 0x04000000 + 0x200000

/-- A segment of the image at flash offset `base` is sound. -/
def ImgSeg.sound (g : ImgSeg) (base total : Nat) : Bool :=
  g.ofs % 4 == 0 && g.dst % 4 == 0 && g.len % 4 == 0 && (g.zero || g.ofs + g.len ≤ total) &&
    (if g.xip then g.dst == 0x80000000 + base + g.ofs else imgDst g.dst g.len)

/-- Where a byte of a destination stands in memory. -/
def imgKey (a : Nat) : Nat := if a < 0x80000 then tcmKey 4 a else a

/-- The data of a segment as they are hashed and copied. -/
def ImgSeg.data (g : ImgSeg) (l : List Byte) : List Byte := if g.zero then [] else (l.drop g.ofs).take g.len

/-- A segment copied or filled. -/
def ImgSeg.load (g : ImgSeg) (l : List Byte) (m : List Host.Cell) : List Host.Cell :=
  if g.xip then m
  else if g.zero then memPutList m (imgKey g.dst) (List.replicate g.len 0)
  else memPutList m (imgKey g.dst) (g.data l)

/-- The codes of SYSCTL_BOOTSTAT.RESULT for an image at flash offset `base` (R583, steps 1, 2 and 4): what the flash returned,
`none` where a read ended in TIMEOUT or ECC. -/
def State.imgResult (s : State) (base : Nat) (img : Option (List Byte)) : Nat :=
  match img with
  | none => 7
  | some l =>
    let w := imgWord l 4
    let nseg := imgWord l 0x0C % 64
    let total := imgWord l 0x14
    let slot := w / 64 % 4
    let h := sha256 (l.take 0x260 ++ (imgSegs l).flatMap fun g => g.data l)
    if l.length < 0x2A0 then 7
    else if imgWord l 0 != 0x4B445346 || w / 2 ^ 16 != 1 || nseg < 1 || 32 < nseg || 0x1000000 < total ||
        imgWord l 0x10 % 4 != 0 then 2
    else if !(imgSegs l).all fun g => g.sound base total then 6
    else if sha256 ((l.drop 0x220).take 64) != Config.otpKeyHash slot || Config.otpKeyRev.getLsbD slot then 3
    else if w / 2 ^ 8 % 64 < Config.otpSvnMin.toNat then 5
    else if l.length < total then 7
    else if !ecdsaOk ((l.drop 0x220).take 64) ((l.drop 0x260).take 64) h then 4
    else 1

/-- The data of a segment came from the flash whole. -/
def ImgSeg.came (g : ImgSeg) (l : List Byte) : Bool := g.zero || g.ofs + g.len ≤ l.length

/-- The segments that the ROM had begun to write when an image failed after its key had passed (R583): all of them at the
signature, else those up to the first whose data did not come. -/
def imgBegun (l : List Byte) : List ImgSeg :=
  (imgSegs l).takeWhile (·.came l) ++ ((imgSegs l).dropWhile (·.came l)).take 1

/-- Words of the destinations of segments are written anew, with sound check bits. -/
def segsSound (gs : List ImgSeg) (ecc : SMap (BitVec 2)) : SMap (BitVec 2) :=
  ecc.filter fun e => gs.all fun g => g.xip || decide (e.1 < imgKey g.dst) || decide (imgKey g.dst + g.len ≤ e.1)

/-- The destinations that a failed image had begun to write hold 0. -/
def State.imgWipe (s : State) (l : List Byte) : State :=
  { s with
    ecc := segsSound (imgBegun l) s.ecc
    mem := (imgBegun l).foldl (fun m g =>
      if g.xip then m else memPutList m (imgKey g.dst) (List.replicate g.len 0)) s.mem }

/-- XSPI_CFG for the header reads (R581), and as the header states it for the segments (R582). -/
def State.imgXspi (s : State) (mode : Nat) (l : Option (List Byte)) : State :=
  let wide : Bool := mode = 1
  let s1 := (s.setBit XSPI_CFG 0 XSPI_CFG_MODE wide).setFld XSPI_CFG 0 XSPI_CFG_DIV (if wide then 2 else 8)
  match l with
  | none => s1
  | some l =>
    let c := imgWord l 8
    (((if bitN (imgWord l 4) 5 then s1.setBit XSPI_CFG 0 XSPI_CFG_MODE true else s1).setFld XSPI_CFG 0 XSPI_CFG_DUMMY
      (c / 2 ^ 24)).setFld XSPI_CFG 0 XSPI_CFG_RDOP (c / 2 ^ 16)).setFld XSPI_CFG 0 XSPI_CFG_DIV c

/-- COLH leaves the boot ROM: at `entry`, in supervisor mode, chamber 0, the MPU off, xprog 0; or waiting in WFI. -/
def State.colhStart (s : State) (entry : Option Nat) : State :=
  let t := s.tick
  let c := s.colTick
  let k : Core := { coreReset 0x80000200 with pc := BitVec.ofNat 32 (entry.getD 0) }
  (s.modSproc 4 fun _ =>
    { sprocReset with core := k, wait := if entry.isSome then .run else .wfi, kickAt := t, cycAt := c }).setStart .up

/-- An image that passed every check: its segments stand in memory, BOOTOK rises if the self-test passed (R584), and COLH
jumps to ENTRY. -/
def State.imgRun (s : State) (l : List Byte) (alt : Bool) : State :=
  let w := imgWord l 4
  let s1 : State := { s with
    ecc := segsSound (imgSegs l) s.ecc, mem := (imgSegs l).foldl (fun m g => g.load l m) s.mem }
  let s2 := (((s1.setFld SYSCTL_BOOTSTAT 0 SYSCTL_BOOTSTAT_RESULT 1).setBit SYSCTL_BOOTSTAT 0 SYSCTL_BOOTSTAT_ALT alt).setFld
    SYSCTL_BOOTSTAT 0 SYSCTL_BOOTSTAT_KEYIDX (w / 64)).setFld SYSCTL_BOOTSTAT 0 SYSCTL_BOOTSTAT_SVN (w / 2 ^ 8)
  let good := s.bit SYSCTL_STRES 0 SYSCTL_STRES_DONE && !s.bit SYSCTL_STRES 0 SYSCTL_STRES_FAIL
  let s3 := if good then
      (s2.setBit SYSCTL_BOOTSTAT 0 SYSCTL_BOOTSTAT_BOOTOK true).modGrt fun g => { g with bootOk := true }
    else s2
  s3.colhStart (some (imgWord l 0x10))

/-- BOOT (R583): the boot ROM tries the images in the order of the boot mode. The operands are what the flash returns for the
primary and for the secondary image. -/
def execBoot (prim sec : Option (List Byte)) (s : State) : Host.Outcome State Fault Refusal :=
  ok (if s.boot.start != .rom || s.boot.tap.testen then s
    else
      let mode := s.fld SYSCTL_BOOTSTAT 0 SYSCTL_BOOTSTAT_BOOTMODE
      let one (alt : Bool) : Nat × Option (List Byte) :=
        if alt then (s.imgResult Config.otpSecondary.toNat sec, sec) else (s.imgResult 0 prim, prim)
      let go (x : Nat × Option (List Byte)) (alt : Bool) (s : State) : State :=
        let l := x.2.getD []
        let held := x.1 != 2 && x.1 != 6 && decide (0x2A0 ≤ l.length)
        let s1 := s.imgXspi mode (if held then some l else none)
        if x.1 = 1 then s1.imgRun l alt else if x.1 = 4 || (x.1 = 7 && held) then s1.imgWipe l else s1
      if mode = 3 || !Config.otpLocked then s.colhStart none
      else
        let alt := mode == 2
        let a := one alt
        let s1 := go a alt s
        if a.1 = 1 then s1
        else
          let b := one (!alt)
          let s2 := go b (!alt) s1
          if b.1 = 1 then s2 else (s2.setFld SYSCTL_BOOTSTAT 0 SYSCTL_BOOTSTAT_RESULT a.1).colhStart none)

end Sys2Proof.Machine
end

