-- ==== Sys2Proof/Machine/Tracker.lean ====
section
/-! DEFINITION. The angle trackers (R74 to R86), the gain scheduler (R214), and the update that all of them and the units of
the axes share. -/

namespace Sys2Proof.Machine

/-! ## Sources (R76, R79) -/

/-- What a source selects: an interface, or the observer input. -/
inductive TrkSel
  | iface (k : Fin 16)
  | observer
  deriving DecidableEq, Repr

/-- A tracker. -/
def State.tr (s : State) (x : Fin 8) : Tracker := vget s.trk x
/-- A tracker changed. -/
def State.modTrk (s : State) (x : Fin 8) (f : Tracker → Tracker) : State := { s with trk := vset s.trk x (f (vget s.trk x)) }
/-- The tracker is enabled. -/
def State.trkOn (s : State) (x : Fin 8) : Bool := s.bit ANG_CFG x.val ANG_CFG_EN
/-- The source SEL names, if it is configured. -/
def State.trkSel (s : State) (x : Fin 8) (i : Fin 2) : Option TrkSel :=
  let v := s.fld ANG_SRC x.val (if i = 0 then ANG_SRC_SEL0 else ANG_SRC_SEL1)
  if v < 4 then some (.iface (Fin.ofNat 16 (4 * (x.val / 2) + v))) else if v = 8 then some .observer else none
/-- PER of a source. -/
def State.trkPer (s : State) (x : Fin 8) (i : Fin 2) : Nat :=
  s.fld ANG_SRC x.val (if i = 0 then ANG_SRC_PER0 else ANG_SRC_PER1) + 1
/-- DLY of a source. -/
def State.trkDly (s : State) (x : Fin 8) (i : Fin 2) : Nat :=
  s.fld ANG_DLY x.val (if i = 0 then ANG_DLY_DLY0 else ANG_DLY_DLY1)
/-- A source is faulted. -/
def SrcState.faulted (c : SrcState) : Bool := c.badIface || c.badObs || c.badErr
/-- A configured source that is healthy. -/
def State.srcGood (s : State) (x : Fin 8) (i : Fin 2) : Bool := (s.trkSel x i).isSome && !(vget (s.tr x).src i).faulted
/-- A source's record changed. -/
def State.modSrc (s : State) (x : Fin 8) (i : Fin 2) (f : SrcState → SrcState) : State :=
  s.modTrk x fun t => { t with src := vset t.src i (f (vget t.src i)) }
/-- SF0 or SF1. -/
def sfFld (i : Fin 2) : Fld := if i = 0 then ANG_STAT_SF0 else ANG_STAT_SF1
/-- MODE: 0b11 is treated as SINGLE. -/
def State.trkMode (s : State) (x : Fin 8) : Nat :=
  let m := s.fld ANG_CFG x.val ANG_CFG_MODE
  if m = 3 then 0 else m
/-- OBS_TMO: 0 is treated as 1. -/
def State.obsTmo (s : State) (x : Fin 8) : Nat := max 1 (s.fld ANG_DLY x.val ANG_DLY_OBS_TMO)

/-- The measurement of a source (R76, R372); POS_MEAS shows the one an interface presents. -/
def State.trkMeas (s : State) (x : Fin 8) (c : TrkSel) : Nat :=
  match c with
  | .iface k => s.measure k s.tick
  | .observer => s.fld ANG_OBS x.val ANG_OBS_ANGLE * 2 ^ 16

/-- The prediction of an update (R77). -/
def Tracker.pred (t : Tracker) : Nat := pat 64 ((t.a.toNat : Int) + sx 48 t.w.toNat + sx 48 t.c.toNat / 2 ^ 17)

/-- The innovation es of a source (R77). -/
def State.innov (s : State) (x : Fin 8) (i : Fin 2) (m : Nat) : Int :=
  let t := s.tr x
  let q : Int := (t.pred / 2 ^ 16 % 2 ^ 32 : Nat) - (sx 48 t.w.toNat / 2 ^ 16 * s.trkDly x i).tdiv 640
  wrapS 32 ((m : Int) - q * s.trkPer x i % 2 ^ 32)

/-- An entry for the cells bound to a tracker (R210): `old` is ANG_STAT before. -/
def State.trkEntry (s : State) (x : Fin 8) (old : Word) : State :=
  let new := s.reg ANG_STAT x.val
  let moved (F : Fld) : Bool := F.get old != F.get new
  let rose (F : Fld) : Bool := F.get old == 0 && F.get new == 1
  if moved ANG_STAT_VALID || moved ANG_STAT_COAST || rose ANG_STAT_FAULT || rose ANG_STAT_SF0 || rose ANG_STAT_SF1 ||
      rose ANG_STAT_ETRIP then
    (List.range 32).foldl (fun s c =>
      let l := Fin.ofNat 128 (32 * (x.val / 2) + c)
      if s.fld CELL_BIND l.val CELL_BIND_TRK == x.val % 2 + 1 then
        s.notifyCell l (s.fld CELL_BIND l.val CELL_BIND_TRKVEC) (x.val % 2 * 2 ^ 8 + new.toNat / 2 ^ 24)
      else s) s
  else s

/-- A source is found faulted because its interface is not HEALTHY or its observer input went unwritten (R79). -/
def State.judgeFeed (s : State) (x : Fin 8) (i : Fin 2) (age : Nat) : State :=
  match s.trkSel x i with
  | none => s
  | some (.iface k) =>
    let bad := !s.bit POS_STAT k.val POS_STAT_HEALTHY
    let c := vget (s.tr x).src i
    (if bad && !c.badIface then s.flag ANG_STAT x.val (sfFld i) else s).modSrc x i fun c => { c with badIface := bad, badObs := false }
  | some .observer =>
    let bad := decide (s.obsTmo x ≤ age)
    let c := vget (s.tr x).src i
    (if bad && !c.badObs then s.flag ANG_STAT x.val (sfFld i) else s).modSrc x i fun c => { c with badIface := false, badObs := bad }

/-- The innovation check of a source (R79). -/
def State.judgeErr (s : State) (x : Fin 8) (i : Fin 2) (overs : Bool) : State :=
  let n := max 1 (s.fld ANG_LIM x.val ANG_LIM_ECNT)
  let c := vget (s.tr x).src i
  if c.badErr then
    let k := if overs then 0 else c.under + 1
    s.modSrc x i fun c => if n ≤ k then { c with badErr := false, under := 0, overs := 0 } else { c with under := k }
  else
    let k := if overs then c.overs + 1 else 0
    if n ≤ k then
      ((s.modSrc x i fun c => { c with badErr := true, overs := 0, under := 0 }).flag ANG_STAT x.val (sfFld i)).flag ANG_STAT x.val
        ANG_STAT_ETRIP
    else s.modSrc x i fun c => { c with overs := k }

/-- A source is judged at an update (R79): the state, and its innovation where it is configured. -/
def State.judgeSrc (s : State) (x : Fin 8) (i : Fin 2) : State × Option Int :=
  match s.trkSel x i with
  | none => (s, none)
  | some c =>
    let age := (vget (s.tr x).src i).obsAge + 1
    let m := s.trkMeas x c
    let s1 := match c with
      | .iface k => s.setReg POS_MEAS k.val (BitVec.ofNat 32 m)
      | .observer => s
    let e := s.innov x i m
    let overs := decide (s.fld ANG_LIM x.val ANG_LIM_ELIM < e.natAbs / 2 ^ 16)
    let s2 := (s1.modSrc x i fun c => { c with obsAge := age }).judgeFeed x i age
    (s2.judgeErr x i overs, some e)

/-! ## Fusion (R77, R80 to R83) -/

/-- The sources in use at an update (R80). -/
def State.inUse (s : State) (x : Fin 8) : List (Fin 2) :=
  match s.trkMode x with
  | 0 => [(0 : Fin 2)].filter (s.srcGood x ·)
  | 1 => (if s.bit ANG_STAT x.val ANG_STAT_SUB then [(1 : Fin 2)] else [0]).filter (s.srcGood x ·)
  | _ => [(0 : Fin 2), 1].filter (s.srcGood x ·)

/-- SUBSTITUTION (R80): the fault of source 0 switches a tracker in SUBSTITUTE mode to source 1. -/
def State.substitute (s : State) (x : Fin 8) : State :=
  if s.trkMode x = 1 ∧ s.srcGood x 0 = false ∧ s.bit ANG_STAT x.val ANG_STAT_SUB = false then
    s.setBit ANG_STAT x.val ANG_STAT_SUB true
  else s

/-- The outputs of the angle (R75, R78). -/
def State.angOut (s : State) (x : Fin 8) : State :=
  let a := (s.tr x).a.toNat
  let frac := a / 2 ^ 16 % 2 ^ 32
  let elec := (frac * s.axPp x % 2 ^ 32 / 2 ^ 16 + s.fld ANG_CFG x.val ANG_CFG_EOFS) % 2 ^ 16
  ((s.setReg ANG_FRAC x.val (BitVec.ofNat 32 frac)).setReg ANG_REV x.val (BitVec.ofNat 32 (a / 2 ^ 48))).setReg ANG_ELEC x.val
    (BitVec.ofNat 32 elec)

/-- The outputs of an update (R74, R85). -/
def State.trkOut (s : State) (x : Fin 8) : State :=
  let t := s.tr x
  ((((((s.angOut x).setReg ANG_SPEED x.val (BitVec.ofNat 32 (t.w.toNat / 2 ^ 16))).setReg ANG_ACCEL x.val
    (BitVec.ofNat 32 (t.c.toNat / 2 ^ 16))).setReg ANG_TS_LO x.val s.nsLo).setReg ANG_TS_HI x.val
      (BitVec.ofNat 32 (s.ns / 2 ^ 32))).countWrap ANG_SEQ x.val ANG_SEQ_SEQ)

/-- VALID is cleared, and its 16 updates start anew (R83). -/
def State.invalidate (s : State) (x : Fin 8) : State := (s.angFall x).modTrk x fun t => { t with goods := 0 }

/-- FAULT of a coasting tracker (R82, R83). -/
def State.trkFault (s : State) (x : Fin 8) : State := (s.flag ANG_STAT x.val ANG_STAT_FAULT).invalidate x

/-- COAST (R82). -/
def State.coast (s : State) (x : Fin 8) : State :=
  let n := (s.tr x).coasts + 1
  let s1 := (s.modTrk x fun t => { t with a := BitVec.ofInt 64 ((t.a.toNat : Int) + sx 48 t.w.toNat), c := 0, coasts := n, goods := 0 }).setBit
    ANG_STAT x.val ANG_STAT_COAST true
  if n = max 1 (s.fld ANG_LIM x.val ANG_LIM_COAST_MAX) then s1.trkFault x else s1

/-- The innovation of the sources in use, in 2⁻⁴⁸ mechanical turn (R77). -/
def State.fuse (s : State) (x : Fin 8) (es : Fin 2 → Int) : List (Fin 2) → Int
  | [i] => (es i * 2 ^ 16).tdiv (s.trkPer x i)
  | [i, j] =>
    let w : Int := s.fld ANG_SRC x.val ANG_SRC_WGT
    ((es i * 2 ^ 16).tdiv (s.trkPer x i) * (256 - w) + (es j * 2 ^ 16).tdiv (s.trkPer x j) * w).tdiv 256
  | _ => 0

/-- The loop of R77 with innovation `e`; `good` where every source in use is within ELIM (R83). -/
def State.correct (s : State) (x : Fin 8) (e : Int) (good : Bool) : State :=
  let t := s.tr x
  let w := sx 48 t.w.toNat
  let c := sx 48 t.c.toNat
  let a1 := (t.pred : Int) + s.fld ANG_GAIN x.val ANG_GAIN_K1 * e / 2 ^ 16
  let w1 := w + c / 2 ^ 16 + s.fld ANG_GAIN x.val ANG_GAIN_K2 * e / 2 ^ 20
  let c1 := c + s.fld ANG_GAIN3 x.val ANG_GAIN3_K3 * e / 2 ^ 10
  let goods := if good then t.goods + 1 else 0
  let s1 := (s.modTrk x fun t =>
    { t with a := BitVec.ofInt 64 a1, w := BitVec.ofInt 48 (satS 48 w1), c := BitVec.ofInt 48 (satS 48 c1), coasts := 0
             goods := min goods 16 }).setBit ANG_STAT x.val ANG_STAT_COAST false
  let s2 := if oflow 48 w1 || oflow 48 c1 then s1.flag ANG_STAT x.val ANG_STAT_SAT else s1
  if 16 ≤ goods then s2.setBit ANG_STAT x.val ANG_STAT_VALID true else s2

/-- One tracker at an update (R77 to R85). -/
def State.trkUpdate (s : State) (x : Fin 8) : State :=
  let old := s.reg ANG_STAT x.val
  let j0 := s.judgeSrc x 0
  let j1 := j0.1.judgeSrc x 1
  let es (i : Fin 2) : Int := ((if i = 0 then j0.2 else j1.2).getD 0)
  let s1 := j1.1.substitute x
  let use := s1.inUse x
  let elim := s.fld ANG_LIM x.val ANG_LIM_ELIM
  let s2 := if use.isEmpty then s1.coast x
    else s1.correct x (s1.fuse x es use) (use.all fun i => decide ((es i).natAbs / 2 ^ 16 ≤ elim))
  (s2.trkOut x).trkEntry x old

/-! ## Gain scheduler (R214) -/

/-- step of R214 upward. -/
def gsUp (v : Nat) (th : Nat → Nat) : Nat → Nat → Nat
  | 0, k => k
  | n + 1, k => if k < 3 ∧ th k ≤ v then gsUp v th n (k + 1) else k

/-- step of R214 downward. -/
def gsDown (v : Nat) (th : Nat → Nat) (h : Nat) : Nat → Nat → Nat
  | 0, k => k
  | n + 1, k => if 0 < k ∧ (v : Int) < th (k - 1) - (h : Int) then gsDown v th h n (k - 1) else k

/-- An input of a channel. -/
def State.gsInput (s : State) (c : Fin 128) (src y : Nat) : Nat :=
  let r := c.val / 32
  let speed (x : Nat) : Nat := min 0xFFFF ((s.sfld ANG_SPEED x ANG_SPEED_VALUE).natAbs / 2 ^ 8)
  match src with
  | 0 => speed (2 * r)
  | 1 => speed (2 * r + 1)
  | 2 => (vget s.lcell c).gsin.toNat / 2 ^ (16 * y) % 2 ^ 16
  | _ => 0

/-- gb of a running logical cell takes a new scheduled bank (R181, R214), in both copies of a twin; a change of BANK is counted
(R228). -/
def State.setSched (s : State) (c : Fin 128) (bank : Nat) : State :=
  let f (ph : Phys) : Phys :=
    let g := ph.core.gb.toNat
    let g1 := g - g / 16 % 16 * 16 + bank * 16
    let g2 := if bitN g 15 then g1 else g1 - g1 % 16 + bank
    { ph with core := { ph.core with gb := BitVec.ofNat 16 g2 } }
  match s.physOf c with
  | none => s
  | some p =>
    let s1 := match (vget s.lcell c).twin with
      | some q => (s.modPhys p f).modPhys (Fin.ofNat 128 q) f
      | none => s.modPhys p f
    if (vget s1.phys p).core.gb.toNat % 16 = (vget s.phys p).core.gb.toNat % 16 then s1 else s1.pmcCount c 0x0D

/-- GAIN_SCHEDULE: one channel at an update (R214). -/
def State.gainStep (s : State) (c : Fin 128) : State :=
  let l := vget s.lcell c
  let g := s.reg CELL_GSCFG c.val
  if CELL_GSCFG_EN.get g = 0 ∨ s.lstate c ≠ 1 then s
  else if 0 < l.dwell then s.modCell c fun l => { l with dwell := l.dwell - 1 }
  else
    let x := s.gsInput c (CELL_GSCFG_XSRC.get g) 0
    let y := s.gsInput c (CELL_GSCFG_YSRC.get g) 1
    let thx (k : Nat) : Nat := match k with
      | 0 => s.fld CELL_GSX c.val CELL_GSX_TH0
      | 1 => s.fld CELL_GSX c.val CELL_GSX_TH1
      | _ => s.fld CELL_GSX2 c.val CELL_GSX2_TH2
    let thy (k : Nat) : Nat := match k with
      | 0 => s.fld CELL_GSY c.val CELL_GSY_TH0
      | 1 => s.fld CELL_GSY c.val CELL_GSY_TH1
      | _ => s.fld CELL_GSY2 c.val CELL_GSY2_TH2
    let kx := CELL_GSCFG_KX.get g
    let ky := CELL_GSCFG_KY.get g
    let nkx := gsDown x thx (s.fld CELL_GSX2 c.val CELL_GSX2_H) 4 (gsUp x thx 4 kx)
    let nky := gsDown y thy (s.fld CELL_GSY2 c.val CELL_GSY2_H) 4 (gsUp y thy 4 ky)
    let moved := nkx != kx || nky != ky
    if moved || l.mapDirty || l.gsFirst then
      let e := 4 * nky + nkx
      let bank := if e < 8 then s.fld CELL_GSMAP_LO c.val (fldAt 4 e) else s.fld CELL_GSMAP_HI c.val (fldAt 4 (e - 8))
      let old := match s.physOf c with
        | some p => (vget s.phys p).core.gb.toNat / 16 % 16
        | none => 0
      let s1 := s.modCell c fun l =>
        { l with dwell := if moved then CELL_GSCFG_DWELL.get g else l.dwell, mapDirty := false, gsFirst := false }
      let s2 := ((s1.setFld CELL_GSCFG c.val CELL_GSCFG_KX nkx).setFld CELL_GSCFG c.val CELL_GSCFG_KY nky).setSched c bank
      if CELL_GSCFG_EVEN.get g = 1 ∧ bank ≠ old then s2.notifyCell c (CELL_GSCFG_VEC.get g) (old * 16 + bank) else s2
    else s

/-- CELL_GSCFG written (R214): a rise of EN starts at grid 0. -/
def State.writeGscfg (s : State) (c : Fin 128) (v : Word) : State :=
  let old := s.reg CELL_GSCFG c.val
  let rose := CELL_GSCFG_EN.get v == 1 && CELL_GSCFG_EN.get old == 0
  let k (F : Fld) : Nat := if rose then 0 else F.get old
  let s1 := s.setReg CELL_GSCFG c.val (CELL_GSCFG_KX.put (CELL_GSCFG_KY.put (v &&& 0xFFC0FF00) (k CELL_GSCFG_KY)) (k CELL_GSCFG_KX))
  if rose then s1.modCell c fun l => { l with dwell := 0, gsFirst := true } else s1

/-! ## The update (R74, R231) -/

/-- TRACKER_UPDATE (R74, R77): every 640 fabric ticks all enabled trackers update, the Gallery predicts (R104), the channels of
the gain scheduler are evaluated (R214) and the units of the axes follow (R231). -/
def execTrackerUpdate (s : State) : Host.Outcome State Fault Refusal :=
  ok (if !s.fabricOn || s.tick % 640 != 0 || s.trkAt == some s.tick then s
    else
      let on := (List.finRange 8).filter (s.trkOn ·)
      let s1 := on.foldl (fun s x => s.trkUpdate x) { s with trkAt := some s.tick }
      let s2 := on.foldl (fun s x => s.predictAxis x) s1
      let s3 := if s2.treesOn then (List.finRange 128).foldl (fun s c => s.gainStep c) s2 else s2
      on.foldl (fun s x => s.axisUpdate x) s3)

/-- SOURCE_FAULT (R79, R80): at the tick of an update, before it, a source is found faulted because its interface is not HEALTHY
or its observer input went unwritten. -/
def execSourceFault (x : Fin 8) (src : Fin 2) (s : State) : Host.Outcome State Fault Refusal :=
  ok (if !s.fabricOn || s.tick % 640 != 0 || s.trkAt == some s.tick || !s.trkOn x then s
    else
      let old := s.reg ANG_STAT x.val
      let s1 := s.judgeFeed x src ((vget (s.tr x).src src).obsAge + 1)
      if (vget (s1.tr x).src src).faulted then (s1.substitute x).trkEntry x old else s)

/-- TRACKER_FAULT (R82): COAST_MAX consecutive coasting updates have passed. -/
def execTrackerFault (x : Fin 8) (s : State) : Host.Outcome State Fault Refusal :=
  ok (if s.fabricOn && s.trkOn x && decide (max 1 (s.fld ANG_LIM x.val ANG_LIM_COAST_MAX) ≤ (s.tr x).coasts) then
      (s.trkFault x).trkEntry x (s.reg ANG_STAT x.val)
    else s)

/-! ## Register writes -/

/-- ANG_CFG written (R74, R80): a rise of EN restarts the counts; a change of MODE clears SUB. -/
def State.writeAngCfg (s : State) (x : Fin 8) (v : Word) : State :=
  let old := s.reg ANG_CFG x.val
  let stat := s.reg ANG_STAT x.val
  let s1 := s.setReg ANG_CFG x.val (v &&& 0xE07FFFFF)
  let s2 := if ANG_CFG_MODE.get v ≠ ANG_CFG_MODE.get old then s1.setBit ANG_STAT x.val ANG_STAT_SUB false else s1
  if ANG_CFG_EN.get v = 1 ∧ ANG_CFG_EN.get old = 0 then
    let bad (i : Fin 2) : Bool := match s2.trkSel x i with
      | some (.iface k) => !s2.bit POS_STAT k.val POS_STAT_HEALTHY
      | _ => false
    let s3 := (s2.setBit ANG_STAT x.val ANG_STAT_SUB false).modTrk x fun t =>
      { t with coasts := 0, goods := 0, src := Vector.ofFn fun i : Fin 2 => { srcReset with badIface := bad i } }
    (s3.invalidate x).trkEntry x stat
  else s2

/-- TRACKER_ENABLE (R74). -/
def execTrackerEnable (ag : Agent) (x : Fin 8) (v : Word) (s : State) : Host.Outcome State Fault Refusal :=
  ok (s.asWrite ag ANG_CFG x.val fun s => s.writeAngCfg x (ANG_CFG_EN.put v 1))

/-- MODE_CHANGE (R80). -/
def execModeChange (ag : Agent) (x : Fin 8) (mode : BitVec 2) (s : State) : Host.Outcome State Fault Refusal :=
  ok (s.asWrite ag ANG_CFG x.val fun s => s.writeAngCfg x (ANG_CFG_MODE.put (s.reg ANG_CFG x.val) mode.toNat))

/-- SET of a tracker's angle (R84). -/
def State.angSet (s : State) (x : Fin 8) (rev : Nat) : State :=
  let stat := s.reg ANG_STAT x.val
  let a := rev * 2 ^ 48 + s.fld ANG_SET_FRAC x.val ANG_SET_FRAC_FRAC * 2 ^ 16
  ((((s.modTrk x fun t => { t with a := BitVec.ofNat 64 a }).angOut x).countWrap ANG_SEQ x.val ANG_SEQ_SEQ).invalidate x).trkEntry x stat

/-- PRI: the return to source 0 (R80). -/
def State.angPri (s : State) (x : Fin 8) : State :=
  if s.srcGood x 0 then s.setBit ANG_STAT x.val ANG_STAT_SUB false else s

/-- ANG_CMD written (R80, R84). -/
def State.writeAngCmd (s : State) (x : Fin 8) (v : Word) : State :=
  let s1 := if ANG_CMD_SET.get v = 1 then s.angSet x (ANG_CMD_SET_REV.get v) else s
  if ANG_CMD_PRI.get v = 1 then s1.angPri x else s1

/-- ANGLE_SET (R84). -/
def execAngleSet (ag : Agent) (x : Fin 8) (rev : Half) (s : State) : Host.Outcome State Fault Refusal :=
  ok (s.asWrite ag ANG_CMD x.val fun s => s.writeAngCmd x (ANG_CMD_SET.put (ANG_CMD_SET_REV.put 0 rev.toNat) 1))

/-- ANG_CMD_PRI (R80). -/
def execAngCmdPri (ag : Agent) (x : Fin 8) (s : State) : Host.Outcome State Fault Refusal :=
  ok (s.asWrite ag ANG_CMD x.val fun s => s.writeAngCmd x (ANG_CMD_PRI.put 0 1))

/-- ANG_OBS written (R79): a write in the tick of an update that is not yet performed counts before it. -/
def State.writeAngObs (s : State) (x : Fin 8) (v : Word) : State :=
  (s.setReg ANG_OBS x.val (v &&& 0xFFFF)).modTrk x fun t =>
    { t with src := t.src.map fun c => { c with obsAge := 0 } }

/-- ANG_OBS_WRITE (R79). -/
def execAngObsWrite (ag : Agent) (x : Fin 8) (v : Word) (s : State) : Host.Outcome State Fault Refusal :=
  ok (s.asWrite ag ANG_OBS x.val fun s => s.writeAngObs x v)

/-- Return to RUN from PARK or KEEP: VALID is cleared (R83). -/
def State.trkResume (s : State) (x : Fin 8) : State := (s.invalidate x).trkEntry x (s.reg ANG_STAT x.val)

end Sys2Proof.Machine
end

