-- ==== Sys2Proof/Machine/Power.lean ====
section
/-! DEFINITION. The power states: requests, quiescence, entry, the wake comparators and the wake (R555 to R575). Times are in 1/16 ns
of the always-on count. -/

namespace Sys2Proof.Machine

/-! ## Conditions (R562, R566, R567) -/

/-- The power sequencer changed. -/
def State.modPower (s : State) (f : Power → Power) : State := { s with power := f s.power }

/-- The sequencer moves to a phase. -/
def State.setPhase (s : State) (p : PwrPhase) : State := s.modPower fun w => { w with phase := p }

/-- A physical cell sleeps in WAIT with an empty FIFO. -/
def Phys.dormant (ph : Phys) : Bool :=
  ph.fifo.isEmpty &&
    match ph.wait with
    | .sleep _ _ _ => true
    | _ => false

/-- The device is quiescent (R562). -/
def State.quiescent (s : State) : Bool :=
  ((List.finRange 128).all fun c =>
    !s.accepts c || (!(s.cellCores c).isEmpty && (s.cellCores c).all fun q => (vget s.phys q).dormant)) &&
  (List.finRange 5).all fun c =>
    let i : Fin 6 := c.castLE (by decide)
    (vget s.sproc i).wait == .wfi && s.colAlive i && (s.irqNext i).isNone

/-- Comparator k has its output at its wake level or is latched (R566). -/
def State.wakeHit (s : State) (k : Nat) : Bool :=
  s.bit PWR_WCFG k PWR_WCFG_EN && (bitN (s.fld PWR_WSTAT 0 PWR_WSTAT_OUT) k || bitN (s.fld PWR_WSTAT 0 PWR_WSTAT_WLAT) k)

/-- The comparators that make a level wake pending. -/
def State.wakeMask (s : State) : Nat := (List.range 8).foldl (fun n k => n + 2 ^ k * b2n (s.wakeHit k)) 0

/-- The consent line for a target is raised (R560). -/
def State.consent (s : State) (target : Nat) : Bool :=
  s.bit PWR_STAT 0 (if target = 2 then PWR_STAT_CONSENTP else PWR_STAT_CONSENTK)

/-- REASON of the first check of R567 that fails; `quiet`: quiescence is checked. -/
def State.entryFails (s : State) (target : Nat) (quiet : Bool) : Option Nat :=
  if s.wakeMask != 0 then some 1
  else if !s.consent target then some 2
  else if quiet && !s.quiescent then some 3
  else if s.abort.isSome then some 4
  else if (List.finRange 4).any fun r => s.dstate r == 1 || s.dstate r == 3 || s.bit SUMP_STAT r.val SUMP_STAT_CHOP then some 5
  else none

/-! ## The end of a request (R561, R568) -/

/-- COLH resumes at its WFI (R561). -/
def State.colhResume (s : State) : State := if (vget s.sproc 4).wait = .wfi then s.modSproc 4 fun q => { q with wait := .run } else s

/-- A request ends, and the device is in RUN. -/
def State.endRequest (s : State) (status abpt reason : Nat) : State :=
  let w := s.reg PWR_STAT 0
  let w1 := PWR_STAT_DONE.put (PWR_STAT_REASON.put (PWR_STAT_ABPT.put (PWR_STAT_RESULT.put (PWR_STAT_BUSY.put w 0) status) abpt)
    reason) 1
  ((s.setReg PWR_STAT 0 w1).modPower fun p => { p with phase := .run, exitReq := false }).colhResume

/-- ENTRY_ABANDON (R568): the entry is abandoned at abort point `k`. -/
def State.entryAbandon (s : State) (k reason : Nat) : State := s.endRequest stABORTED k reason

/-- An abort point is passed, or the entry is abandoned there. -/
def State.abortPoint (s : State) (target k : Nat) (quiet : Bool) (act : State → State) : State :=
  match s.entryFails target quiet with
  | some r => s.entryAbandon k r
  | none => act s

/-! ## Requests (R560, R561) -/

/-- PWR_CTRL written. -/
def State.writePwrCtrl (s : State) (ag : Agent) (v : Word) : State :=
  let t := PWR_CTRL_TARGET.get v
  let refuse (st : Nat) : State :=
    (s.discard ag PWR_CTRL 0 st).setReg PWR_STAT 0 (PWR_STAT_DONE.put (PWR_STAT_RESULT.put (s.reg PWR_STAT 0) st) 1)
  if PWR_CTRL_REQ.get v = 0 then s
  else if s.bit PWR_STAT 0 PWR_STAT_BUSY then refuse stPERM
  else if t = 0 || 3 < t then refuse stBAD_TARGET
  else
    let s1 := (s.setReg PWR_STAT 0 (PWR_STAT_TARGET.put (PWR_STAT_BUSY.put (s.reg PWR_STAT 0) 1) t)).modPower fun p =>
      { p with phase := .quiesce t s.aon, exitReq := false }
    if t = 1 then s1 else s1.abortPoint t 1 false id

/-- DOZE (R562): a write of PWR_CTRL with REQ = 1 and TARGET DOZE. -/
def execDoze (ag : Agent) (s : State) : Host.Outcome State Fault Refusal :=
  ok (s.asWrite ag PWR_CTRL 0 fun s => s.writePwrCtrl ag 0x80000001)

/-- KEEP (R567): a write of PWR_CTRL with REQ = 1 and TARGET KEEP. -/
def execKeep (ag : Agent) (s : State) : Host.Outcome State Fault Refusal :=
  ok (s.asWrite ag PWR_CTRL 0 fun s => s.writePwrCtrl ag 0x80000003)

/-- QUIESCENCE (R562, R567 step 3): quiescence is reached. The clock trees stop; at once again where an exit request of DOZE has
come. -/
def execQuiescence (s : State) : Host.Outcome State Fault Refusal :=
  ok (match s.power.phase with
    | .quiesce t _ =>
      if !s.quiescent then s
      else if t = 1 then (if s.power.exitReq then s.endRequest stOK 0 0 else s.setPhase .doze)
      else s.abortPoint t 2 true fun s => s.setPhase (.drain t s.aon)
    | _ => s)

/-- QUIESCENCE_TIMEOUT (R562, R567): quiescence was not reached within QTMO µs. -/
def execQuiescenceTimeout (s : State) : Host.Outcome State Fault Refusal :=
  ok (match s.power.phase with
    | .quiesce t since =>
      if s.quiescent || decide (s.aon < since + max 1 (s.fld PWR_CFG 0 PWR_CFG_QTMO) * aonUs) then s
      else if t = 1 then s.endRequest stTIMEOUT 0 0
      else s.entryAbandon 2 ((s.entryFails t true).getD 3)
    | _ => s)

/-- ENTRY_DRAIN (R567, steps 4 to 7): posted writes have drained, which is A3; then the Grotto has confirmed, which is A4. -/
def execEntryDrain (s : State) : Host.Outcome State Fault Refusal :=
  ok (match s.power.phase with
    | .drain t _ =>
      if s.phys.all fun ph => ph.wbuf.isEmpty then s.abortPoint t 3 true fun s => s.setPhase (.confirm t s.aon) else s
    | .confirm t _ =>
      if !s.allSto then s.entryAbandon 4 2
      else s.abortPoint t 4 true fun s => s.modPower fun p =>
        { p with phase := .handover t s.aon, vrun := s.fld AVS_VACK 0 AVS_VACK_MV }
    | _ => s)

/-! ## The commit and the sleep (R556, R567, R570) -/

/-- What the commit does to the units of the fabric domain, as their chapters state (R556). -/
def State.commitPark (s : State) : State :=
  let s1 := if s.level = 4 then s.enterHoldover else s
  let s2 := (List.finRange 32).foldl (fun s g =>
    if s.bit PWM_GCTL g.val PWM_GCTL_EN then (s.setBit PWM_GCTL g.val PWM_GCTL_EN false).disableGrp g else s) s1
  let s3 := (List.finRange 48).foldl (fun s j => s.gdlDown j) s2
  let s4 := (List.finRange 16).foldl (fun s j => s.adcPark j) s3
  let s5 := ((s4.echoPark.ethPark).canPark).serialPark
  let s6 := (s5.avsAbort 0).avsAbort 1
  { s6 with boot := { s6.boot with tap := { s6.boot.tap with ir := .idcode } } }

/-- ENTRY_COMMIT (R567, R569): 120 ns after A4, with nothing left that could abandon the entry. -/
def execEntryCommit (s : State) : Host.Outcome State Fault Refusal :=
  ok (match s.power.phase with
    | .handover t since =>
      if s.aon < since + 120 * 16 then s
      else (s.commitPark.setPhase (.entering t)).avsStart 0 0 550 true
    | _ => s)

/-- The outcome of the sequencer's request on AVS0, once it has one. -/
def State.seqOutcome (s : State) : Option Nat := (s.avsc 0).seqRes.map (·.1)

/-- ENTRY_COMPLETE (R570): the request of 550 mV has ended. -/
def execEntryComplete (s : State) : Host.Outcome State Fault Refusal :=
  ok (match s.power.phase, s.seqOutcome with
    | .entering t, some st => (if st = stOK then s else s.flag WAKE_STAT 0 WAKE_STAT_VRETF).setPhase (.asleep t)
    | _, _ => s)

/-- DOZE_EXIT (R563): an exit request restarts the clock trees: an entry in a FIFO or a column source that qualifies, an exit
request by a comparator latch, a wake comparator, a reply in a column's slot. -/
def execDozeExit (s : State) : Host.Outcome State Fault Refusal :=
  ok (match s.power.phase with
    | .doze =>
      if !s.quiescent || s.power.exitReq || s.wakeMask != 0 || s.grt.mail.any fun m => m.irq then s.endRequest stOK 0 0 else s
    | _ => s)

/-- CONSENT_EXPIRY (R560): 10 ms after it was raised, a consent line falls. -/
def execConsentExpiry (s : State) : Host.Outcome State Fault Refusal :=
  ok (if !s.grottoOn then s
    else
      let overs (t : Option Nat) : Bool := match t with
        | some u => u ≤ s.us
        | none => false
      let s1 := if overs s.power.consentP then
          (s.setBit PWR_STAT 0 PWR_STAT_CONSENTP false).modPower fun p => { p with consentP := none }
        else s
      if overs s.power.consentK then
        (s1.setBit PWR_STAT 0 PWR_STAT_CONSENTK false).modPower fun p => { p with consentK := none }
      else s1)

/-! ## Wake comparators (R564, R565) -/

/-- WAKE_SAMPLE (R564, R565): comparator k samples its ball, at `v` nV. -/
def execWakeSample (k : Fin 8) (v : Int) (s : State) : Host.Outcome State Fault Refusal :=
  ok (let c := s.reg PWR_WCFG k.val
    let thr (x : Int) : Int := x * 7031250
    let t : Int := PWR_WCFG_THR.get c
    let h : Int := PWR_WCFG_HYS.get c
    let out := (vget s.power.wcmp k).out
    let high := PWR_WCFG_WLVL.get c = 1
    let change : Bool :=
      if high then (if out then decide (v < thr (t - h)) else decide (thr t < v))
      else (if out then decide (thr (t + h) < v) else decide (v < thr t))
    let n := if change then (vget s.power.wcmp k).agree + 1 else 0
    let put (w : Wcmp) : State := s.modPower fun p => { p with wcmp := vset p.wcmp k w }
    if !change || n < PWR_WCFG_FILT.get c + 1 then put { out := out, agree := n }
    else
      let s1 := (put { out := !out, agree := 0 }).setBit PWR_WSTAT 0 ⟨k.val, k.val⟩ (!out)
      if !out && PWR_WCFG_LATCH.get c == 1 then s1.setBit PWR_WSTAT 0 ⟨16 + k.val, 16 + k.val⟩ true else s1)

/-! ## Wake (R571 to R573) -/

/-- WAKE (R571, step 1): a level wake is accepted. -/
def execWake (s : State) : Host.Outcome State Fault Refusal :=
  ok (match s.power.phase with
    | .asleep t =>
      let m := s.wakeMask
      if m = 0 then s
      else
        let w := WAKE_STAT_TRIES.put (WAKE_STAT_SRC.put (s.reg WAKE_STAT 0) m) 0
        let s1 := s.setReg WAKE_STAT 0 (WAKE_STAT_COUNT.put w (WAKE_STAT_COUNT.get w + 1))
        (s1.setPhase (.wake t 2 s.aon)).avsStart 0 0 s.power.vrun true
    | _ => s)

/-- WAKE_POWER_UP (R571, steps 2 and 3): the running voltage is acknowledged and the power switches close. -/
def execWakePowerUp (s : State) : Host.Outcome State Fault Refusal :=
  ok (match s.power.phase, s.seqOutcome with
    | .wake t 2 _, some 0 => s.setPhase (.wake t 4 s.aon)
    | _, _ => s)

/-- What the return to RUN does to the units, as their chapters state (R556); `levels` stand at the GPIO balls. -/
def State.resume (s : State) (levels : BitVec 16) : State :=
  let s1 := forN 8 s fun x s => (s.trkResume (Fin.ofNat 8 x)).axisResume (Fin.ofNat 8 x)
  let s2 := (List.finRange 48).foldl (fun s j =>
    if s.bit GDL_CFG j.val GDL_CFG_EN then s.gdlLeave j 1 s.tick else s) s1
  let s3 := (List.finRange 64).foldl (fun s c => if s.bit CMP_CFG c.val CMP_CFG_EN then s.cmpSettle c else s) s2.senseResume
  let s4 := (List.finRange 4).foldl (fun s r =>
    ((s.setFld SUMP_STAT r.val SUMP_STAT_DSTATE 0).setBit SUMP_STAT r.val SUMP_STAT_EPIS false).setReg SUMP_E r.val 0) s3
  let s5 := (List.finRange 16).foldl (fun s k => s.posResume k) s4
  ((s5.echoUnpark).canUnpark).gpioUnpark levels

/-- WAKE_PLL_LOCK (R571, steps 4 to 6): the PLL locks in time, retention is restored and execution resumes. -/
def execWakePllLock (levels : BitVec 16) (s : State) : Host.Outcome State Fault Refusal :=
  ok (match s.power.phase with
    | .wake t 4 since =>
      if since + 500 * aonUs < s.aon then s
      else
        let s1 := s.setPhase .run
        (((if t = 2 then s1.pairsRestart else s1).resume levels)).endRequest stOK 0 0
    | _ => s)

/-- A wake attempt fails with CAUSE `c` (R572), or ends in a cold boot (COLD_BOOT, R573). -/
def State.wakeFails (s : State) (t c : Nat) : State :=
  let tries := s.fld WAKE_STAT 0 WAKE_STAT_TRIES
  let w := WAKE_STAT_CAUSE.put (WAKE_STAT_FAIL.put (s.reg WAKE_STAT 0) 1) c
  let s1 := ((s.setReg WAKE_STAT 0 (WAKE_STAT_TRIES.put w (min 255 (tries + 1)))).setPhase (.retry t s.aon)).avsStart 0 0 550 true
  if tries = s.fld PWR_CFG 0 PWR_CFG_WAKE_RETRY then
    (s1.beginReset 2 [SYSCTL_RSTCAUSE_COLDWAKE]).flag WAKE_STAT 0 WAKE_STAT_COLD
  else s1

/-- WAKE_FAILURE (R572): the regulator's request ended other than OK, or the PLL has not locked in 500 µs. -/
def execWakeFailure (s : State) : Host.Outcome State Fault Refusal :=
  ok (match s.power.phase, s.seqOutcome with
    | .wake t 2 _, some st => if st = stOK then s else s.wakeFails t (if st = stTIMEOUT then 1 else 2)
    | .wake t 4 since, _ => if since + 500 * aonUs ≤ s.aon then s.wakeFails t 3 else s
    | _, _ => s)

/-- WAKE_RETRY (R572): 100 ms after a failure the wake is tried again from its step 2. -/
def execWakeRetry (s : State) : Host.Outcome State Fault Refusal :=
  ok (match s.power.phase with
    | .retry t since =>
      if s.aon < since + 100000 * aonUs then s
      else (s.setPhase (.wake t 2 s.aon)).avsStart 0 0 s.power.vrun true
    | _ => s)

end Sys2Proof.Machine
end

