-- ==== Sys2Proof/Machine/Regs.lean ====
section
/-! DEFINITION. Reads and writes of the registers of the memory map: field by field as the access types state (R6 to R11), with
what each chapter adds for its own registers. The access rules of the fabric stand in Bus.lean. -/

namespace Sys2Proof.Machine

/-! ## Field by field (R6, R7, R11) -/

/-- A field of word `w` after `v` is written. `opn`: the condition of an RWS or static field holds. -/
def fldWrite (v : Word) (opn : Bool) (w : Word) (F : Fld) : Acc → Word
  | .rw => F.put w (F.get v)
  | .rws | .st => if opn then F.put w (F.get v) else w
  | .w1c => F.put w (F.get (w &&& ~~~v))
  | .ro | .wo | .rc => w

/-- Word `w` of a register after `v` is written. -/
def RegFam.write (f : RegFam) (opn : Bool) (v w : Word) : Word :=
  f.flds.foldl (fun x e => fldWrite v opn x e.1 e.2) w

/-- The fields of an access type in a word. -/
def RegFam.only (f : RegFam) (p : Acc → Bool) (w : Word) : Word :=
  f.flds.foldl (fun x e => if p e.2 then e.1.put x (e.1.get w) else x) 0

/-- The safety lock is open (R445). -/
def State.lockOpen (s : State) : Bool := s.fld GRT_PSTAT 0 GRT_PSTAT_LOCK != 2

/-- The enable that holds the static fields of a controller of chapter 16 (R505). -/
def State.ctlEnabled (s : State) (f : RegFam) (i : Nat) : Bool :=
  if f.base = CAN_CFG.base || f.base = CAN_NBT.base || f.base = CAN_DBT.base then s.bit CAN_CFG i CAN_CFG_EN
  else if f.base = SPI_CFG.base then s.bit SPI_CFG i SPI_CFG_EN
  else if f.base = XSPI_CFG.base then s.bit XSPI_CFG 0 XSPI_CFG_EN
  else if f.base = UART_CFG.base then s.bit UART_CFG i UART_CFG_EN
  else if f.base = I2C_CFG.base then s.bit I2C_CFG i I2C_CFG_EN
  else if f.base = AVS_CFG.base then s.bit AVS_CFG i AVS_CFG_EN
  else false

/-- A write applied field by field (R6): a write that would have changed an RWS field while the lock is closed, or a static field
while its unit is enabled, is logged with PERM (R11, R505). -/
def State.putFields (s : State) (ag : Agent) (f : RegFam) (i : Nat) (v : Word) : State :=
  let key := f.key (agentId ag) i
  let w := smGet (f.reset i) s.regs key
  let opn := if f.flds.any (·.2 == .rws) then s.lockOpen else !s.ctlEnabled f i
  let s1 : State := { s with regs := smSet s.regs key (f.write opn v w) }
  if f.write true v w != f.write opn v w then s1.discard ag f i stPERM else s1

/-! ## Writes with effects of their own -/

/-- What a write of a register does: by agent, instance and value. -/
abbrev WHook : Type := State → Agent → Nat → Word → State

/-- A static register of a bridge (R308). -/
def State.writeStatic (s : State) (ag : Agent) (f : RegFam) (i : Nat) (k : Fin 16) (v : Word) : State :=
  if s.staticOpen k then (s.setReg f i (f.write true v (s.reg f i))).refreshBr k s.nowU else s.discard ag f i stPERM

/-- PWM_BCFG (R308): both groups disabled, and the new one the writer's. -/
def State.writeBcfgBy (s : State) (ag : Agent) (k : Fin 16) (v : Word) : State :=
  let g := k.val / 4 * 8 + PWM_BCFG_GRP.get v
  let mine := chamberOf s ag == 0 || s.ownerOf 0x02 g == chamberOf s ag
  if s.bcfgOpen k v && mine then s.writeBcfg k v else s.discard ag PWM_BCFG k.val stPERM

/-- PWM_BSTAT: TRIP stays while its cause is present (R288). -/
def State.writeBstat (s : State) (ag : Agent) (k : Fin 16) (v : Word) : State :=
  s.putFields ag PWM_BSTAT k.val (if (s.tripCause k).isSome then PWM_BSTAT_TRIP.put v 0 else v)

/-- BLK_STAT: clearing FAULT acknowledges the report (R35, R218). -/
def State.writeBlkStat (s : State) (ag : Agent) (b : Nat) (v : Word) : State :=
  let s1 := s.putFields ag BLK_STAT b v
  if s1.bit BLK_STAT b BLK_STAT_FAULT then s1 else { s1 with reports := s1.reports.filter (·.unit != b) }

/-- The head of the error log is removed (R38); with the log empty the report to COLH is acknowledged, and another entry's starts
anew (R35). -/
def State.popErr (s : State) : State :=
  match s.fabLog with
  | [] => s
  | _ :: rest =>
    { s with
      fabLog := rest
      reports := if rest.isEmpty then s.reports.filter (·.unit != reportFab)
        else s.reports.map fun r => if r.unit = reportFab then { level := 3, unit := reportFab, since := s.tick } else r }

/-- A write of a GPIO register with bits by pin (R528): `f` keeps the bits of pins of other owners. -/
def State.writePins (s : State) (ag : Agent) (f : RegFam) (two : Bool) (v : Word) : State :=
  s.gpioWrite ag f two v fun s mask w => s.setReg f 0 ((s.reg f 0 &&& ~~~mask) ||| (w &&& (if two then 0xFFFFFFFF else 0xFFFF)))

/-- A word of the debug response is held, though it reads 0 (R598). -/
def State.writeKey (s : State) (f : RegFam) (i : Nat) (v : Word) : State := s.setReg f i v

/-- Chapters 01 to 03. -/
def hooksFabric : List (RegFam × WHook) := [
  (FAB_ERR_POP, fun s _ _ v => if FAB_ERR_POP_POP.get v = 1 then s.popErr else s),
  (TIME_CTRL, fun s _ _ v => s.writeTimeCtrl v),
  (TIME_INC_INT, fun s _ _ v => s.writeIncInt v),
  (TIME_INC_FRAC, fun s _ _ v => s.writeIncFrac v),
  (TIME_SLEW, fun s _ _ v => s.writeSlew v),
  (TIME_OFS_IN, fun s _ _ v => s.writeOfsIn v),
  (ANG_CFG, fun s _ i v => s.writeAngCfg (Fin.ofNat 8 i) v),
  (ANG_CMD, fun s _ i v => s.writeAngCmd (Fin.ofNat 8 i) v),
  (ANG_OBS, fun s _ i v => s.writeAngObs (Fin.ofNat 8 i) v),
  (GAL_SUB_GO, fun s ag _ v => s.writeGo ag v),
  (GAL_CANCEL, fun s ag _ v => s.cancel ag v),
  (GAL_QUOTA, fun s ag i v => s.writeQuota ag i v),
  (GAL_RING_BASE, fun s _ i v => s.writeRingBase i v),
  (GAL_RING_IDX, fun s _ i v => s.writeRingIdxTx i v),
  (GAL_RING_CFG, fun s ag i v => s.writeRingCfg ag i v),
  (GAL_RING_TOL, fun s _ i v => s.writeRingTol i v)]

/-- Chapter 06. -/
def hooksCells : List (RegFam × WHook) := [
  (BLK_CTRL, fun s _ i v => s.writeRelease (Fin.ofNat 16 i) (BLK_CTRL_RELEASE.get v)),
  (BLK_STAT, fun s ag i v => s.writeBlkStat ag i v),
  (CELL_CTRL, fun s ag i v => s.writeCellCtrl ag (Fin.ofNat 128 i) v),
  (CELL_BIND, fun s ag i v => s.writeCellBind ag (Fin.ofNat 128 i) v),
  (CELL_GSCFG, fun s _ i v => s.writeGscfg (Fin.ofNat 128 i) v),
  (CELL_GSMAP_LO, fun s ag i v => (s.putFields ag CELL_GSMAP_LO i v).modCell (Fin.ofNat 128 i) fun l => { l with mapDirty := true }),
  (CELL_GSMAP_HI, fun s ag i v => (s.putFields ag CELL_GSMAP_HI i v).modCell (Fin.ofNat 128 i) fun l => { l with mapDirty := true })]

/-- Chapter 07. -/
def hooksAxis : List (RegFam × WHook) := [
  (AX_CFG, fun s _ i v => s.writeAxCfg (Fin.ofNat 8 i) v),
  (AX_VDQ, fun s _ i v => s.writeVdq (Fin.ofNat 8 i) v),
  (SPF_CFG, fun s _ i v => s.writeSpfCfg (Fin.ofNat 8 i) v),
  (SH_CFG, fun s ag i v => s.writeShCfg ag (Fin.ofNat 8 i) v),
  (SH_CMD, fun s _ i v => s.writeShCmd (Fin.ofNat 8 i) v),
  (OPP_CFG, fun s ag i v => s.writeOppCfg ag (Fin.ofNat 8 i) v),
  (OPP_CTRL, fun s _ i v => s.writeOppCtrl (Fin.ofNat 8 i) v),
  (SSX_CFG, fun s ag i v => s.writeSsxCfg ag (Fin.ofNat 8 i) v),
  (SSX_CTRL, fun s _ i v => s.writeSsxCtrl (Fin.ofNat 8 i) v)]

/-- Chapter 08. -/
def hooksPwm : List (RegFam × WHook) := [
  (PWM_LOADALL, fun s ag i v => s.writeLoadall (Fin.ofNat 4 i) (agentId ag) (v.toNat % 256)),
  (PWM_GCTL, fun s _ i v => s.writeGctl (Fin.ofNat 32 i) v),
  (PWM_BCFG, fun s ag i v => s.writeBcfgBy ag (Fin.ofNat 16 i) v),
  (PWM_MINP, fun s ag i v => s.writeStatic ag PWM_MINP i (Fin.ofNat 16 i) v),
  (PWM_DT, fun s ag i v => s.writeStatic ag PWM_DT i (Fin.ofNat 16 (i / 3)) v),
  (PWM_MASK, fun s ag i v => s.writeStatic ag PWM_MASK i (Fin.ofNat 16 (i / 8)) v),
  (PWM_MCTL, fun s _ i v => s.writeMctl (Fin.ofNat 16 i) v),
  (PWM_BSTAT, fun s ag i v => s.writeBstat ag (Fin.ofNat 16 i) v),
  (GDL_CFG, fun s _ i v => s.writeGdlCfg (Fin.ofNat 48 i) v),
  (GDL_CMD, fun s _ i v => s.writeGdlCmd (Fin.ofNat 48 i) v),
  (GDL_STAT, fun s ag i v => (s.putFields ag GDL_STAT i v).clearNamed (Fin.ofNat 48 i))]

/-- Chapters 09 to 11. -/
def hooksSense : List (RegFam × WHook) := [
  (ADC_CFG, fun s _ i v => s.writeAdcCfg (Fin.ofNat 16 i) v),
  (ADC_OFS, fun s _ i v => s.writeAdcOfs i v),
  (ADC_PTRG, fun s ag i v => s.writeAdcPtrg ag (Fin.ofNat 16 i) v),
  (DSM_CFG, fun s ag i v => s.writeDsmCfg ag (Fin.ofNat 32 i) v),
  (DSM_CTRL, fun s _ i v => s.writeDsmCtrl (Fin.ofNat 32 i) v),
  (DSMCLK_CFG, fun s _ i v => s.writeDsmClk i v),
  (CMP_CFG, fun s ag i v => s.writeCmpCfg ag (Fin.ofNat 64 i) v),
  (CMP_THR, fun s _ i v => s.writeCmpLevel (Fin.ofNat 64 i) CMP_THR v),
  (CMP_HYS, fun s _ i v => s.writeCmpLevel (Fin.ofNat 64 i) CMP_HYS v),
  (CMP_ROUTE, fun s ag i v => s.writeCmpRoute ag (Fin.ofNat 64 i) v),
  (CMP_STAT, fun s _ i v => s.writeCmpStat (Fin.ofNat 64 i) v),
  (SUMP_CFG, fun s ag i v => s.writeSumpCfg ag (Fin.ofNat 4 i) v),
  (SUMP_CTRL, fun s ag i v => s.writeSumpCtrl ag (Fin.ofNat 4 i) v),
  (POS_CFG, fun s ag i v => s.writePosCfg ag (Fin.ofNat 16 i) v),
  (POS_SPT, fun s ag i v => s.writePosSpt ag (Fin.ofNat 16 i) v),
  (POS_EXC, fun s _ i v => s.writePosExc (Fin.ofNat 16 i) v),
  (POS_CMD, fun s _ i v => s.writePosCmd (Fin.ofNat 16 i) v),
  (POS_STAT, fun s _ i v => s.writePosStat (Fin.ofNat 16 i) v),
  (POS_DIV, fun s _ i v => s.writePosDiv (Fin.ofNat 16 i) v),
  (POS_CMPCTL, fun s _ i v => s.writePosCmpctl (Fin.ofNat 16 i) v)]

/-- Chapters 14 to 16. -/
def hooksLinks : List (RegFam × WHook) := [
  (FAB_ABORT, fun s ag _ v => s.writeAbort ag v),
  (FAB_ASN_CMD, fun s ag _ v => s.writeAsn ag v),
  (FAB_QUERY, fun s ag _ v => s.writeQuery ag v),
  (FAB_MESHW, fun s ag i v => s.writeMeshw ag i v),
  (FAB_CH_CFG, fun s ag i v => s.writeChCfg ag i v),
  (SYSCTL_COLCTL, fun s ag i v => s.writeColctl ag (Fin.ofNat 5 i) v),
  (SYSCTL_COLKICK, fun s ag i v => s.writeColkick ag (Fin.ofNat 5 i) v),
  (ECHO_CFG, fun s _ i v => s.writeEchoCfg i v),
  (ECHO_TXB, fun s ag i v => s.writeTxb ag i v),
  (ETH_CFG, fun s _ i v => s.writeEthCfg i v),
  (ETH_MDIO, fun s _ _ v => s.writeMdio v),
  (CAN_CFG, fun s ag i v => (s.putFields ag CAN_CFG i v).canEnable (Fin.ofNat 8 i) (s.bit CAN_CFG i CAN_CFG_EN)),
  (CAN_CTRL, fun s _ i v => s.writeCanCtrl (Fin.ofNat 8 i) v),
  (CAN_TXB_CTL, fun s ag i v => s.writeTxbCtl ag (Fin.ofNat 8 (i / 3)) (i % 3) v),
  (CAN_TXB_ID, fun s ag i v => s.writeTxbWord ag CAN_TXB_ID i (Fin.ofNat 8 (i / 3)) (i % 3) (CAN_TXB_ID.write true v 0)),
  (CAN_TXB_DATA, fun s ag i v => s.writeTxbWord ag CAN_TXB_DATA i (Fin.ofNat 8 (i / 48)) (i / 16 % 3) v),
  (SPI_CFG, fun s ag i v => (s.putFields ag SPI_CFG i v).spiCs (Fin.ofNat 4 i)),
  (SPI_TXD, fun s _ i v => s.writeSpiTxd (Fin.ofNat 4 i) v),
  (XSPI_CMD, fun s _ _ v => s.writeXspiCmd v),
  (XSPI_DATA, fun s _ _ v => s.writeXspiData v),
  (UART_TXD, fun s _ i v => s.writeUartTxd (Fin.ofNat 2 i) v),
  (I2C_CMD, fun s ag i v => s.writeI2cCmd ag (Fin.ofNat 2 i) v),
  (AVS_REQ, fun s ag i v => s.writeAvsReq ag (Fin.ofNat 2 i) v),
  (GPIO_DIR, fun s ag _ v => s.writePins ag GPIO_DIR false v),
  (GPIO_OUT, fun s ag _ v => s.gpioWrite ag GPIO_OUT false v fun s mask w => s.setPins mask w),
  (GPIO_SET, fun s ag _ v => s.gpioWrite ag GPIO_SET false v fun s _ w => s.setPins (w &&& 0xFFFF) w),
  (GPIO_CLR, fun s ag _ v => s.gpioWrite ag GPIO_CLR false v fun s _ w => s.setPins (w &&& 0xFFFF) 0),
  (GPIO_EDGE, fun s ag _ v => s.writePins ag GPIO_EDGE true v),
  (GPIO_STAT, fun s ag _ v => s.gpioWrite ag GPIO_STAT false v fun s _ w => s.setReg GPIO_STAT 0 (s.reg GPIO_STAT 0 &&& ~~~w))]

/-- Chapters 17 to 19. -/
def hooksSystem : List (RegFam × WHook) := [
  (THERM_CTRL, fun s ag _ v => s.writeService ag v),
  (PWR_CTRL, fun s ag _ v => s.writePwrCtrl ag v),
  (PWR_WSTAT, fun s ag _ v => s.putFields ag PWR_WSTAT 0 (v &&& ~~~(s.reg PWR_WSTAT 0 <<< 16))),
  (SYSCTL_RSTCTL, fun s ag _ v => s.writeRstctl ag v),
  (DBG_CTRL, fun s ag _ v => s.writeDbgCtrl ag v),
  (DBG_KEY, fun s _ i v => s.writeKey DBG_KEY i v),
  (DBG_RESP, fun s _ i v => s.writeKey DBG_RESP i v)]

/-- Every register whose write does more than R6 states. -/
def regHooks : List (RegFam × WHook) :=
  hooksFabric ++ hooksCells ++ hooksAxis ++ hooksPwm ++ hooksSense ++ hooksLinks ++ hooksSystem

/-- Registers that accept writes from chamber 0 only, beside those of SYSCTL and THERM. -/
def hostOnly : List RegFam := [GAL_QUOTA, GAL_SHARE_LO, GAL_SHARE_HI, BLK_MPART, ECHO_CHCFG, GPIO_FILT, GPIO_IRQ]

/-- Only chamber 0 may write this register: SYSCTL but for the columns' own kick, THERM, and `hostOnly`. -/
def RegFam.host (f : RegFam) : Bool :=
  (f.base / 0x10000 == 0x4000 && f.base != SYSCTL_COLKICK.base) || f.base / 0x10000 == 0x4003 ||
    hostOnly.any fun g => g.base == f.base

/-- A write of register `i` of a family that the fabric admits. -/
def State.regWrite (s : State) (ag : Agent) (f : RegFam) (i : Nat) (v : Word) : State :=
  if f.host && chamberOf s ag != 0 then s.discard ag f i stPERM
  else
    match regHooks.find? fun e => e.1.base == f.base with
    | some e => e.2 s ag i v
    | none => s.putFields ag f i v

/-! ## Reads -/

/-- Bits of a word for an agent whose chamber owns pins `p`: both halves. -/
def pinMask (p : Nat) : Word := BitVec.ofNat 32 (p * 65536 + p)

/-- What a register shows that is computed when it is read: by agent, instance and stored word. -/
abbrev RHook : Type := State → Agent → Nat → Word → Word

/-- A one-bit field of a word shown. -/
def show1 (F : Fld) (b : Bool) (w : Word) : Word := F.put w (b2n b)

/-- The age of a telemetry word in µs (R303). -/
def State.telAge (s : State) (i : Nat) : Nat :=
  match vget (s.gl (Fin.ofNat 48 (i / 8))).telAt (Fin.ofNat 8 (i % 8)) with
  | some t => min 0x3FFF ((s.tick - t) / 640)
  | none => 0x3FFF

/-- The latches of the comparators of a region that the reader's chamber owns (R343). -/
def State.cmpSum (s : State) (ag : Agent) (r : Nat) : Word :=
  let mine (c : Nat) : Bool := chamberOf s ag == 0 || s.ownerOf 0x04 c == chamberOf s ag
  let sum (F : Fld) : Nat := (List.range 16).foldl (fun n m => n + 2 ^ m * b2n (mine (16 * r + m) && s.bit CMP_STAT (16 * r + m) F)) 0
  CMP_SUM_LOL.put (CMP_SUM_HIL.put 0 (sum CMP_STAT_HIL)) (sum CMP_STAT_LOL)

/-- ms since a discharge entered RUN (R352). -/
def State.sumpMs (s : State) (r : Fin 4) : Nat :=
  if s.dstate r = 0 then s.fld SUMP_STAT r.val SUMP_STAT_DMS else min 0xFFFF ((s.tick - (vget s.sump r).disAt) / 640000)

/-- The head of the error log (R38). -/
def State.errHead (s : State) (f : ErrEntry → Word) : Word :=
  match s.fabLog with
  | e :: _ => f e
  | [] => 0

/-- Registers whose value is computed when they are read. -/
def readHooks : List (RegFam × RHook) := [
  (FAB_ERR_STAT, fun s _ _ w => FAB_ERR_STAT_COUNT.put w s.fabLog.length),
  (FAB_ERR_INFO, fun s _ _ _ => s.errHead (·.info)),
  (FAB_ERR_ADDR, fun s _ _ _ => s.errHead (·.addr)),
  (FAB_ERR_TIME, fun s _ _ _ => s.errHead (·.ns)),
  (TIME_NS_LO, fun s _ _ _ => s.nsLo),
  (TIME_SLEW, fun s _ _ _ => BitVec.ofInt 32 s.time.slewRead),
  (GAL_AX_STAT, fun s _ i w => show1 GAL_AX_STAT_HELD (!s.angValid (Fin.ofNat 8 i) &&
    s.gal.events.any fun e => e.angle && e.axis.val == i && !e.committed) w),
  (CELL_CFG, fun s _ i w => CELL_CFG_CHAMBER.put w (s.ownerOf 0x01 i)),
  (CELL_CYCLE, fun s _ i _ => s.clCycle (Fin.ofNat 128 i)),
  (SPF_IN, fun s _ i _ => s.spfInRead (Fin.ofNat 8 i)),
  (PWM_GPOS, fun s _ i _ => if s.running (Fin.ofNat 32 i) then BitVec.ofNat 32 ((s.nowU - (s.pg (Fin.ofNat 32 i)).bnd) % 2 ^ 24) else 0),
  (PWM_GSTAT, fun s _ i w =>
    let g : Fin 32 := Fin.ofNat 32 i
    show1 PWM_GSTAT_SAFE ((s.bridgesOf g).any fun k => (s.br k).safe.isSome || (s.br k).released)
      (show1 PWM_GSTAT_MIGP (s.pg g).mig.isSome w)),
  (PWM_BSTAT, fun s _ i w =>
    let b := s.br (Fin.ofNat 16 i)
    let g := s.pg (s.bgrp (Fin.ofNat 16 i))
    show1 PWM_BSTAT_SAFE (b.safe.isSome || b.released) (show1 PWM_BSTAT_ABORTP g.abort (show1 PWM_BSTAT_MIGP g.mig.isSome w))),
  (GDL_TEL, fun s _ i w => GDL_TEL_AGE.put w (s.telAge i)),
  (ADC_STAT, fun s _ i w =>
    ADC_STAT_OUTST.put (show1 ADC_STAT_BUSY (s.adcBusy (Fin.ofNat 16 i)) w) (s.adcOutst (Fin.ofNat 16 i))),
  (DSM_STAT, fun s _ i w => show1 DSM_STAT_RUN (s.dsmRun (Fin.ofNat 32 i)) w),
  (CMP_SUM, fun s ag i _ => s.cmpSum ag i),
  (SUMP_STAT, fun s _ i w =>
    SUMP_STAT_DMS.put (show1 SUMP_STAT_DAVAIL (s.sumpAvail (Fin.ofNat 4 i)) w) (s.sumpMs (Fin.ofNat 4 i))),
  (GRT_FUNC, fun s _ i _ => s.grtFunc i),
  (ETH_STAT, fun s _ i w => show1 ETH_STAT_PAUSED (s.macPaused (Fin.ofNat 4 i)) w),
  (GPIO_DIR, fun s ag _ w => w &&& pinMask (s.pinsOf (chamberOf s ag))),
  (GPIO_OUT, fun s ag _ w => w &&& pinMask (s.pinsOf (chamberOf s ag))),
  (GPIO_IN, fun s ag _ w => w &&& pinMask (s.pinsOf (chamberOf s ag))),
  (GPIO_EDGE, fun s ag _ w => w &&& pinMask (s.pinsOf (chamberOf s ag))),
  (GPIO_STAT, fun s ag _ w => w &&& pinMask (s.pinsOf (chamberOf s ag)))]

/-- A register's word as agent `ag` sees it: WO fields read 0 (R6). -/
def State.regShow (s : State) (ag : Agent) (f : RegFam) (i : Nat) : Word :=
  let w := f.only (fun a => a != .wo) (smGet (f.reset i) s.regs (f.key (agentId ag) i))
  match readHooks.find? fun e => e.1.base == f.base with
  | some e => e.2 s ag i w
  | none => w

/-- RC fields are cleared by a read (R6, R10). -/
def State.clearRc (s : State) (ag : Agent) (f : RegFam) (i : Nat) : State :=
  if f.flds.any (·.2 == .rc) then
    let key := f.key (agentId ag) i
    let w := smGet (f.reset i) s.regs key
    { s with regs := smSet s.regs key (f.only (fun a => a != .rc) w) }
  else s

/-- A read of register `i` of a family that the fabric admits, with what it does. -/
def State.regRead (s : State) (ag : Agent) (f : RegFam) (i : Nat) : State × Word :=
  if f.base = SPI_RXD.base then s.readSpiRxd (Fin.ofNat 4 i)
  else if f.base = XSPI_DATA.base then s.readXspiData
  else if f.base = UART_RXD.base then s.readUartRxd (Fin.ofNat 2 i)
  else if f.base = TIME_NS_LO.base then (s.latchTime ag, s.nsLo)
  else if f.base = FAB_ABORT_RES.base then ({ s with abortIrq := false }, s.regShow ag f i)
  else (s.clearRc ag f i, s.regShow ag f i)

end Sys2Proof.Machine
end

