-- ==== Sys2Proof/Machine/SornasCtl.lean ====
section
/-! DEFINITION. The control operations of Sornas that touch no memory: sine, transforms, space-vector modulation, CORDIC,
gain banks, the gain law and the regulator steps (R173 to R184, R203). -/

namespace Sys2Proof.Machine

/-! ## Transforms (R177) -/

/-- Two results of 16 bits through satW: V is set if either saturated (R177, R180). -/
def Core.sat2 (k : Core) (x y : Int) : Core × Int × Int :=
  let (k1, x') := k.sat 16 x
  let (k2, y') := k1.sat 16 y
  (k2.vf (k1.stb 3 || k2.stb 3), x', y')

/-- An XFORM function: the fields it admits and its two results from RA and the low half of RB. -/
def xform (s : State) (p : Proc) (gd : BitVec 3) (rd ra rb : BitVec 5) (fn : Nat) (legal : Bool) (prods : Nat)
    (f : Core → Int × Int → Int × Nat → Int × Int) : State :=
  let pf := profileOf p
  s.runSat p (encR 0x20 gd rd ra rb fn) gd (isPair pf rd && legal) prods fun k =>
    let (x, y) := f k (k.pair pf ra) (k.f16 rb, k.u pf rb.toNat % 2 ^ 16)
    let (k1, x', y') := k.sat2 x y
    .next (k1.wrPair pf rd x' y')

/-- CLARKE (R177). -/
def execClarke (p : Proc) (gd : BitVec 3) (rd ra rb : BitVec 5) (s : State) : Host.Outcome State Fault Refusal :=
  ok (xform s p gd rd ra rb 0x00 (isPair (profileOf p) ra && rb == 0) 1 fun k i _ =>
    (i.1, k.rnd ((i.1 + 2 * i.2) * 18918) 15))

/-- CLARKE3 (R177). -/
def execClarke3 (p : Proc) (gd : BitVec 3) (rd ra rb : BitVec 5) (s : State) : Host.Outcome State Fault Refusal :=
  ok (xform s p gd rd ra rb 0x01 (isPair (profileOf p) ra && allData (profileOf p) [rb]) 2 fun k i c =>
    (k.rnd ((2 * i.1 - i.2 - c.1) * 10923) 15, k.rnd ((i.2 - c.1) * 18918) 15))

/-- PARK (R177). -/
def execPark (p : Proc) (gd : BitVec 3) (rd ra rb : BitVec 5) (s : State) : Host.Outcome State Fault Refusal :=
  ok (xform s p gd rd ra rb 0x02 (isPair (profileOf p) ra && allData (profileOf p) [rb]) 4 fun k v t =>
    let c := cos16 t.2
    let n := sin16 t.2
    (k.rnd (v.1 * c + v.2 * n) 15, k.rnd (v.2 * c - v.1 * n) 15))

/-- IPARK (R177). -/
def execIpark (p : Proc) (gd : BitVec 3) (rd ra rb : BitVec 5) (s : State) : Host.Outcome State Fault Refusal :=
  ok (xform s p gd rd ra rb 0x03 (isPair (profileOf p) ra && allData (profileOf p) [rb]) 4 fun k v t =>
    let c := cos16 t.2
    let n := sin16 t.2
    (k.rnd (v.1 * c - v.2 * n) 15, k.rnd (v.1 * n + v.2 * c) 15))

/-- SINCOS (R177, R203). -/
def execSincos (p : Proc) (gd : BitVec 3) (rd ra rb : BitVec 5) (s : State) : Host.Outcome State Fault Refusal :=
  ok (xform s p gd rd ra rb 0x04 (ra == 0 && allData (profileOf p) [rb]) 0 fun _ _ t => (cos16 t.2, sin16 t.2))

/-! ## Space-vector modulation (R178, R179) -/

/-- The phase values a, b, c of a voltage vector (R178). -/
def svmPhases (k : Core) (va vb : Int) : Int × Int × Int :=
  (va, k.rnd (-va * 16384 + vb * 28378) 15, k.rnd (-va * 16384 - vb * 28378) 15)

/-- The duty of a phase value, and whether it was clamped (R178). -/
def svmDuty (x : Int) : Int × Bool :=
  let d := 0x8000 + 2 * x
  if d < 0 then (0, true) else if 0xFFFF < d then (0xFFFF, true) else (d, false)

/-- The sector of a voltage vector (R179). -/
def svmSector (va vb : Int) : Nat :=
  match decide (0 ≤ vb), decide (0 ≤ va * 28378 - vb * 16384), decide (0 ≤ -va * 28378 - vb * 16384) with
  | true, true, false => 0
  | true, false, false => 1
  | true, false, true => 2
  | false, false, true => 3
  | false, true, true => 4
  | false, true, false => 5
  | true, true, true => 0
  | false, false, false => 0

/-- SVM with its zero-sequence term `z` from the highest and lowest phase value: Sornas-C only. -/
def svm (s : State) (p : Proc) (gd : BitVec 3) (rd ra rb : BitVec 5) (fn : Nat) (z : Int → Int → Int) : State :=
  s.runSat p (encR 0x21 gd rd ra rb fn) gd (profileOf p == .c && isQuad rd && isPair .c ra && rb == 0) 4 fun k =>
    let (va, vb) := k.pair .c ra
    let (a, b, c) := svmPhases k va vb
    let zs := z (max a (max b c)) (min a (min b c))
    let (da, oa) := svmDuty (a + zs)
    let (db, ob) := svmDuty (b + zs)
    let (dc, oc) := svmDuty (c + zs)
    let ovm := oa || ob || oc
    let k1 := (((k.wr .c rd.toNat da).wr .c (rd.toNat + 1) db).wr .c (rd.toNat + 2) dc).wr .c (rd.toNat + 3)
      (b2n ovm * 2 ^ 15 + svmSector va vb : Nat)
    let k2 := k1.vf ovm
    .next (if ovm then k2.setStb 4 true else k2)

/-- SV: min-max injection (R178). -/
def execSv (p : Proc) (gd : BitVec 3) (rd ra rb : BitVec 5) (s : State) : Host.Outcome State Fault Refusal :=
  ok (svm s p gd rd ra rb 0x00 fun hi lo => -((hi + lo) / 2))
/-- SIN: no zero sequence (R178). -/
def execSin (p : Proc) (gd : BitVec 3) (rd ra rb : BitVec 5) (s : State) : Host.Outcome State Fault Refusal :=
  ok (svm s p gd rd ra rb 0x01 fun _ _ => 0)
/-- DMIN: the lowest phase clamped to duty 0 (R178). -/
def execDmin (p : Proc) (gd : BitVec 3) (rd ra rb : BitVec 5) (s : State) : Host.Outcome State Fault Refusal :=
  ok (svm s p gd rd ra rb 0x02 fun _ lo => -16384 - lo)

/-! ## CORDIC (R180) -/

/-- VEC (R180). -/
def execVec (p : Proc) (gd : BitVec 3) (rd ra rb : BitVec 5) (s : State) : Host.Outcome State Fault Refusal :=
  ok (let pf := profileOf p
    s.runSat p (encR 0x22 gd rd ra rb 0x00) gd (isPair pf rd && isPair pf ra && rb == 0) 1 fun k =>
      let (x0, x1) := k.pair pf ra
      let (x, y, z) : Int × Int × Int :=
        if x0 < 0 then (-(x0 * 4), -(x1 * 4), 0x8000) else (x0 * 4, x1 * 4, 0)
      let (x, _, z) := cordicRun (fun y _ => 0 ≤ y) x y z
      let (k1, mag) := k.sat 16 (k.rnd (x * 19898) 17)
      .next (k1.wrPair pf rd mag (pat 16 z : Nat)))

/-- ROT (R180). -/
def execRot (p : Proc) (gd : BitVec 3) (rd ra rb : BitVec 5) (s : State) : Host.Outcome State Fault Refusal :=
  ok (let pf := profileOf p
    s.runSat p (encR 0x22 gd rd ra rb 0x01) gd (isPair pf rd && isPair pf ra && allData pf [rb]) 2 fun k =>
      let (x0, x1) := k.pair pf ra
      let t := sx 16 (k.u pf rb.toNat)
      let (x, y, z) : Int × Int × Int :=
        if 0x4000 < t ∨ t < -0x4000 then (-(x0 * 4), -(x1 * 4), wrapS 16 (t - 0x8000)) else (x0 * 4, x1 * 4, t)
      let (x, y, _) := cordicRun (fun _ z => z < 0) x y z
      let (k1, x', y') := k.sat2 (k.rnd (x * 19898) 17) (k.rnd (y * 19898) 17)
      .next (k1.wrPair pf rd x' y'))

/-! ## Gain banks and the gain law (R181 to R183) -/

/-- The block of a cell's physical cell. -/
def State.blockOf (s : State) (p : Proc) : Fin 16 :=
  match p with
  | .cell c => Fin.ofNat 16 (((s.physOf c).getD c).val / 8)
  | .col _ | .grotto => 0

/-- Coefficient K[bank][i] of a block. -/
def State.gain (s : State) (b : Fin 16) (bank i : Nat) : Half := smGet 0 (vget s.block b).gain (64 * bank + i)

/-- Coefficient K[bank][i] of a block written. -/
def State.setGain (s : State) (b : Fin 16) (bank i : Nat) (v : Half) : State :=
  s.modBlock b fun q => { q with gain := smSet q.gain (64 * bank + i) v }

/-- gb.BANK. -/
def Core.bank (k : Core) : Nat := k.gb.toNat % 16

/-- GBRD (R182). -/
def execGbrd (p : Proc) (gd : BitVec 3) (rd : BitVec 5) (spn : BitVec 10) (s : State) :
    Host.Outcome State Fault Refusal :=
  ok (s.runInstr p (encY 0x24 gd rd spn 0x00) gd (profileOf p == .c && allData .c [rd]) 0 fun k =>
    .next (k.wr .c rd.toNat (s.gain (s.blockOf p) (spn.toNat / 64) (spn.toNat % 64)).toNat))

/-- GBRDA (R182): from the active bank. -/
def execGbrda (p : Proc) (gd : BitVec 3) (rd : BitVec 5) (spn : BitVec 10) (s : State) :
    Host.Outcome State Fault Refusal :=
  ok (s.runInstr p (encY 0x24 gd rd spn 0x01) gd (profileOf p == .c && allData .c [rd] && spn.toNat < 64) 0 fun k =>
    .next (k.wr .c rd.toNat (s.gain (s.blockOf p) k.bank (spn.toNat % 64)).toNat))

/-- Cells may write a gain bank of their block (R182, R215). -/
def State.bankWritable (s : State) (b : Fin 16) (bank : Nat) : Bool := bitN (s.fld BLK_GSWR b.val BLK_GSWR_WR) bank

/-- GBWR (R182): PERM where the bank is not writable by cells. -/
def execGbwr (p : Proc) (gd : BitVec 3) (rd : BitVec 5) (spn : BitVec 10) (s : State) :
    Host.Outcome State Fault Refusal :=
  ok (let legal := profileOf p == .c && allData .c [rd]
    let b := s.blockOf p
    let bank := spn.toNat / 64
    let k := s.coreOf p
    let s1 := s.runInstr p (encY 0x24 gd rd spn 0x02) gd legal 0 fun k =>
      if s.bankWritable b bank then .next k else .trap (.access stPERM spn.toNat)
    if s.canRun p && k.guard gd == some true && legal && s.bankWritable b bank then
      (s1.setGain b bank (spn.toNat % 64) (BitVec.ofNat 16 (k.u .c rd.toNat))).twinCheck s p fun k =>
        k.out gd [k.u .c rd.toNat]
    else s1)

/-- The gain law of table `t` at error `e` (R183, R184): rnd under st.RND. -/
def gainLaw (k : Core) (g : Nat → Int) (t : Nat) (e : Int) : Int :=
  let m := min e.natAbs 32767
  let i := m / 2 ^ 11
  let f : Nat := m % 2 ^ 11
  if i = 15 then g (16 * t + 15)
  else g (16 * t + i) + k.rnd ((g (16 * t + i + 1) - g (16 * t + i)) * (f : Int)) 11

/-- LUTG (R183). -/
def execLutg (p : Proc) (gd : BitVec 3) (rd ra rb : BitVec 5) (fn : BitVec 8) (s : State) :
    Host.Outcome State Fault Refusal :=
  ok (s.runInstr p (encR 0x25 gd rd ra rb fn.toNat) gd
    (profileOf p == .c && allData .c [rd, ra] && rb == 0 && fn.toNat < 4) 1 fun k =>
    let g := gainLaw k (fun i => sx 16 (s.gain (s.blockOf p) k.bank i).toNat) fn.toNat (k.i .c ra.toNat)
    .next (((k.zn 16 g).vf false).wr .c rd.toNat g))

/-! ## PI and PID steps (R184) -/

/-- A regulator step: `D` is the derivative term. FN[4:3] ACC, FN[2] L, FN[1:0] GSH; the RB field holds SET. -/
def pictl (s : State) (p : Proc) (gd : BitVec 3) (rd ra rb fn : BitVec 5) (pid : Bool) : State :=
  let set := rb.toNat
  let legal := profileOf p == .c && allData .c [rd] && set < 16 &&
    (if pid then isPair .c ra && set != 15 else allData .c [ra])
  let lbit := bitN fn.toNat 2
  s.runSat p (encR 0x23 gd rd ra rb (b2n pid * 32 + fn.toNat)) gd legal (2 + b2n pid + b2n lbit) fun k =>
    let g (i : Nat) : Int := sx 16 (s.gain (s.blockOf p) k.bank i).toNat
    let acc := fn.toNat / 8
    let gsh := fn.toNat % 4
    let e := k.i .c ra.toNat
    let kp := if lbit then gainLaw k g 3 e else g (4 * set)
    let hi := g (4 * set + 2)
    let lo := g (4 * set + 3)
    let P := 2 * kp * e * 2 ^ gsh
    let I := k.a acc + 2 * g (4 * set + 1) * e * 2 ^ gsh
    let D := if pid then 2 * g (4 * set + 4) * (e - k.i .c (ra.toNat + 1)) * 2 ^ gsh else 0
    let u := P + I + D
    let lim : Int := if hi * 2 ^ 16 < u then 1 else if u < lo * 2 ^ 16 then -1 else 0
    let y := if lim = 1 then hi else if lim = -1 then lo else k.rnd u 16
    let k1 :=
      if (lim = 1 ∧ 0 < e) ∨ (lim = -1 ∧ e < 0) then k
      else
        let (k', z) := k.sat 40 I
        k'.wrA acc z
    .next (((k1.zn 16 y).vf (decide (lim ≠ 0))).wr .c rd.toNat y)

/-- PI (R184). -/
def execPi (p : Proc) (gd : BitVec 3) (rd ra rb fn : BitVec 5) (s : State) : Host.Outcome State Fault Refusal :=
  ok (pictl s p gd rd ra rb fn false)
/-- PID (R184). -/
def execPid (p : Proc) (gd : BitVec 3) (rd ra rb fn : BitVec 5) (s : State) : Host.Outcome State Fault Refusal :=
  ok (pictl s p gd rd ra rb fn true)

end Sys2Proof.Machine
end

