-- ==== Sys2Proof/Machine/Bus.lean ====
section
/-! DEFINITION. Accesses by fabric address: what stands at an address (R19, R22), reads and writes of memories with their ECC (R36),
of registers (R12), of the windows of the blocks, the Grotto and the flash; the error log, the escalation of reports and the scrubs
(R10, R28, R34, R35, R38, R413). -/

namespace Sys2Proof.Machine

/-! ## What stands at an address -/

/-- What an address names. -/
inductive Target
  /-- A byte of a memory, at its key in `State.mem`. -/
  | ram (key : Nat)
  /-- A byte of the program RAM of a physical cell. -/
  | prog (key : Nat) (p : Fin 128)
  /-- A slot of the Grotto's mailbox. -/
  | mail
  /-- A gain coefficient: K[bank][i] at 64 × bank + i. -/
  | gain (b : Fin 16) (i : Nat)
  /-- A 32-bit word of a Flowstone store. -/
  | flow (b : Fin 16) (m : Nat)
  /-- The xSPI flash. -/
  | flash
  | reg (f : RegFam) (i : Nat)
  /-- The confirmed alias of an asynchronous register (R409). -/
  | alias_ (f : RegFam)
  /-- A place where nothing stands: reads 0, ignores writes (R13). -/
  | nothing
  deriving Inhabited

/-- The register families by page, so that a look-up does not walk the whole map. -/
def regPage (a : Nat) : List RegFam := regFams.filter fun f =>
  f.base / 0x10000 == (if 0x20000000 ≤ a && a < 0x30000000 then 0x20000000 + (a - 0x20000000) % 0x04000000 else a) / 0x10000 ||
    (decide (0x31000000 ≤ a) && decide (a < 0x31040000) && f.base / 0x10000 == 0x3100) ||
    (decide (0x40000000 ≤ a) && decide (a < 0x80000000) && f.base / 0x80000 == a / 0x80000)

/-- The register at an address. -/
def regTarget (a : Nat) : Target :=
  match regAt a (regPage a) with
  | some (f, i) => .reg f i
  | none =>
    if a = 0x40408010 then .alias_ GPIO_IN
    else if a = 0x40028060 then .alias_ PWR_WSTAT
    else .nothing

/-- What an address within the memory map names for an agent (R19 to R22, R393). -/
def targetAt (ag : Agent) (a : Nat) : Target :=
  if a < 0x80000 then
    match ag with
    | .col c => .ram (tcmKey c.val a)
    | _ => .nothing
  else if 0x10000000 ≤ a && a < 0x10800000 then .ram a
  else if 0x18000000 ≤ a && a < 0x18100000 then
    if 0x18001000 ≤ a && a < 0x18002000 then regTarget a
    else if a < 0x18000500 || (0x18000800 ≤ a && a < 0x18000814) || (0x18002000 ≤ a && a < 0x18002500) then .mail
    else .nothing
  else if 0x20000000 ≤ a && a < 0x30000000 then
    let r := (a - 0x20000000) / 0x04000000
    let o := (a - 0x20000000) % 0x04000000
    if o < 0x200000 then .ram a
    else if o < 0x02000000 then
      let b := 4 * r + (o - 0x01000000) / 0x100000
      let w := (o - 0x01000000) % 0x100000
      if w < 0x40000 then .ram a
      else
        let p : Fin 128 := Fin.ofNat 128 (8 * b + (w - 0x40000) / 0x8000)
        let x := w % 0x8000
        if x < 0x4000 then .prog a p else if x < 0x6000 then .ram a else .nothing
    else
      let x := o - 0x02080000
      if o < 0x02084000 || 0x0208C000 ≤ o then regTarget a
      else
        let b : Fin 16 := Fin.ofNat 16 (4 * r + x % 0x4000 / 0x1000)
        if x < 0x8000 then .gain b (x % 0x1000 / 4) else .flow b (x % 0x1000 / 4)
  else if 0x32000000 ≤ a && a < 0x320C0000 then .ram a
  else if 0x80000000 ≤ a && a < 0x90000000 then .flash
  else regTarget a

/-! ## Memories (R36) -/

/-- The size of the ECC word at a key of `State.mem` (R18). -/
def eccSize (key : Nat) : Nat := if eccWord (key / 4 * 4 + 2) % 4 = 2 then 2 else 4

/-- The ECC words an access of `n` bytes touches. -/
def eccWords (key n : Nat) : List Nat :=
  let a := eccWord key
  let b := eccWord (key + n - 1)
  if a = b then [a] else [a, b]

/-- `n` bytes (1, 2 or 4) from a key on. -/
def memRead (m : List Host.Cell) (key n : Nat) : Word :=
  if n = 1 then (memGet m key).zeroExtend 32 else if n = 2 then (memHalf m key).zeroExtend 32 else memWord m key

/-- Memory with `n` bytes (1, 2 or 4) written. -/
def memWrite (m : List Host.Cell) (key n : Nat) (v : Word) : List Host.Cell :=
  if n = 1 then memPut m key (v.extractLsb' 0 8) else if n = 2 then memPutHalf m key (v.extractLsb' 0 16) else memPutWord m key v

/-- A read of memory: an uncorrectable word gives status ECC and data 0, a single-bit error is corrected. -/
def State.ramRead (s : State) (ag : Agent) (n kind a key : Nat) : State × Nat × Word :=
  let ws := eccWords key n
  if ws.any fun w => s.eccOf w == 2 then (s.refuse ag stECC kind a, stECC, 0)
  else (ws.foldl (fun s w => s.eccCorrect w) s, stOK, memRead s.mem key n)

/-- A write of memory: one that covers part of an ECC word is a read-modify-write. -/
def State.ramWrite (s : State) (ag : Agent) (n kind a key : Nat) (v : Word) : State × Nat :=
  let ws := eccWords key n
  let whole (w : Nat) : Bool := decide (key ≤ w) && decide (w + eccSize w ≤ key + n)
  if ws.any fun w => !whole w && s.eccOf w == 2 then (s.refuse ag stECC kind a, stECC)
  else
    let s1 := ws.foldl (fun s w => if whole w then s.eccClear w else s.eccCorrect w) s
    ({ s1 with mem := memWrite s1.mem key n v }, stOK)

/-- The fabric may write the program RAM of a physical cell (R207). -/
def State.progOpen (s : State) (p : Fin 128) : Bool :=
  s.pstate p == 0 || s.pstate p == 2 ||
    match s.logOf p with
    | some c => s.lstate c == 0
    | none => false

/-! ## Accesses (R12, R19) -/

/-- The status with which agent `ag`'s last write was logged, if it was: entries are in `l`. -/
def loggedFor (ag : Agent) (addr : Nat) (l : List ErrEntry) : Nat :=
  match l.find? fun e => e.info.toNat / 2 ^ 8 % 256 == agentId ag && e.addr.toNat == addr && e.info.toNat / 2 ^ 16 % 4 == 1 with
  | some e => e.info.toNat / 2 ^ 24
  | none => stOK

/-- A register write and its status: a write that a rule of its register discards is refused with the status logged (R53). -/
def State.regWriteSt (s : State) (ag : Agent) (f : RegFam) (i : Nat) (v : Word) : State × Nat :=
  if f.base = FAB_ERR_POP.base then (s.regWrite ag f i v, stOK)
  else
    let s1 := ({ s with fabLog := [] } : State).regWrite ag f i v
    if s1.fabLog.isEmpty then ({ s1 with fabLog := s.fabLog }, stOK)
    else
      let others := s1.reports.filter (·.unit != reportFab)
      let fab := s.reports.filter (·.unit == reportFab)
      let s2 : State := { s1 with fabLog := s.fabLog, reports := others ++ fab }
      (s1.fabLog.foldl (fun s e => s.logErr e) s2, loggedFor ag (f.addr i) s1.fabLog)

/-- A read of `n` bytes that the access rules admit. -/
def State.readAt (s : State) (ag : Agent) (n kind a : Nat) : State × Nat × Word :=
  let bad : State × Nat × Word := (s.refuse ag stBAD_TARGET kind a, stBAD_TARGET, 0)
  let word := n = 4 && a % 4 = 0
  match targetAt ag a with
  | .ram key | .prog key _ => s.ramRead ag n kind a key
  | .mail =>
    if 0x18000800 ≤ a && a < 0x18001000 then (if word then (s, stOK, 0) else bad)
    else
      let (s1, st, v) := s.ramRead ag n kind a a
      match ag with
      | .col c =>
        if 0x18002000 + 0x100 * c.val ≤ a && a < 0x18002100 + 0x100 * c.val then (s1.modMail c fun m => { m with irq := false }, st, v)
        else (s1, st, v)
      | _ => (s1, st, v)
  | .gain b i => if word then (s, stOK, (s.gain b (i / 64) (i % 64)).zeroExtend 32) else bad
  | .flow b m =>
    if word then
      (s, stOK, BitVec.ofNat 32 ((smGet 0 (vget s.block b).flow (2 * m + 1)).toNat * 2 ^ 16 + (smGet 0 (vget s.block b).flow (2 * m)).toNat))
    else bad
  | .flash => (s.used, stOK, s.free.setWidth 32)
  | .reg f i => if word then (let r := s.regRead ag f i; (r.1, stOK, r.2)) else bad
  | .alias_ f => if word then (s, stOK, s.regShow ag f 0) else bad
  | .nothing => (s, stOK, 0)

/-- A write of `n` bytes that the access rules admit. -/
def State.writeAt (s : State) (ag : Agent) (n kind a : Nat) (v : Word) : State × Nat :=
  let no (st : Nat) : State × Nat := (s.refuse ag st kind a, st)
  let word := n = 4 && a % 4 = 0
  match targetAt ag a with
  | .ram key => s.ramWrite ag n kind a key v
  | .prog key p => if s.progOpen p then s.ramWrite ag n kind a key v else no stPERM
  | .mail =>
    let st := if ag = .debug then stOK else mailStatus ag true a
    if st != stOK then no st
    else if 0x18000800 ≤ a && a < 0x18001000 then
      (if word then (s.ring (Fin.ofNat 5 ((a - 0x18000800) / 4)), stOK) else no stBAD_TARGET)
    else s.ramWrite ag n kind a a v
  | .gain b i => if word then (s.setGain b (i / 64) (i % 64) (v.extractLsb' 0 16), stOK) else no stBAD_TARGET
  | .flow _ _ | .alias_ _ => if word then (s, stOK) else no stBAD_TARGET
  | .flash => no stPERM
  | .reg f i => if word then s.regWriteSt ag f i v else no stBAD_TARGET
  | .nothing => (s, stOK)

/-- A READ BY FABRIC ADDRESS: the state, the status and the data, 0 where it is refused (R12, R36). `kind`: 0 read, 2 fetch, 3 DMA. -/
def State.busRead (s : State) (ag : Agent) (n kind a : Nat) : State × Nat × Word :=
  let st := s.accessStatus ag false a
  if st != stOK then (s.refuse ag st kind a, st, 0) else s.readAt ag n kind a

/-- A WRITE BY FABRIC ADDRESS: the state and the status. `kind`: 1 write, 3 DMA. -/
def State.busWrite (s : State) (ag : Agent) (n kind a : Nat) (v : Word) : State × Nat :=
  let st := s.accessStatus ag true a
  if st != stOK then (s.refuse ag st kind a, st) else s.writeAt ag n kind a v

/-! ## Refusals that come back to a processor (R152, R154) -/

/-- A refusal of a posted store reaches the Sornas processor that issued it; one that has not been taken yet stays. -/
def State.postBack (s : State) (ag : Agent) (status addr : Nat) : State :=
  match ag with
  | .cell c => s.postRefusal c status addr
  | .col c => s.modSproc (c.castLE (by decide)) fun q =>
      { q with refusal := match q.refusal with | some r => some r | none => some (status, addr) }
  | _ => s

/-! ## The commands -/

/-- REGISTER_WRITE (R6): a 32-bit write by an agent at a register's address. A refusal of a posted store reaches the Sornas
processor that issued it (R154). -/
def execRegisterWrite (ag : Agent) (addr : Word) (v : Word) (s : State) : Host.Outcome State Fault Refusal :=
  ok (if !s.fabricOn then s
    else
      let r := s.busWrite ag 4 1 addr.toNat v
      if r.2 = stOK then r.1 else r.1.postBack ag r.2 addr.toNat)

/-- RC_READ (R10): a 32-bit read by an agent at a register's address. -/
def execRcRead (ag : Agent) (addr : Word) (s : State) : Host.Outcome State Fault Refusal :=
  ok (if s.fabricOn then (s.busRead ag 4 0 addr.toNat).1 else s)

/-- FAB_ERR_POP (R38). -/
def execFabErrPop (ag : Agent) (v : Word) (s : State) : Host.Outcome State Fault Refusal :=
  ok (s.asWrite ag FAB_ERR_POP 0 fun s => if FAB_ERR_POP_POP.get v = 1 then s.popErr else s)

/-- The region whose crossbar an agent uses without crossing the mesh (R14, R31, R45). -/
def agentRegion : Agent → Option Nat
  | .cell c => some (c.val / 32)
  | .col c => if c.val < 4 then some c.val else none
  | .engine e _ => some e.val
  | .blockCtl b => some (b.val / 4)
  | _ => none

/-- A transaction that ran out of time is logged at the level of the path that ended it (R34, R641): the mesh for an address outside
the regions, the crossbar for one in the agent's own region; for one in another region either may have ended it, a free choice. -/
def State.logTimeout (s : State) (ag : Agent) (write : Bool) (addr : Nat) : State :=
  let log (s : State) (level : Nat) : State := s.appendErr stTIMEOUT (chamberOf s ag) level (b2n write) (agentId ag) addr
  if 0x20000000 ≤ addr && addr < 0x30000000 then
    if agentRegion ag = some ((addr - 0x20000000) / 0x04000000) then log s 2 else log s.used (2 + s.free.toNat % 2)
  else log s 3

/-- TRANSACTION_TIMEOUT (R34): a transaction of an agent on a crossbar or the mesh has not completed after 16 µs. A posted store's
refusal reaches its processor (R154); a load traps precisely (R152). `write`: a store, else a read. -/
def execTransactionTimeout (ag : Agent) (write : Bool) (addr : Word) (s : State) : Host.Outcome State Fault Refusal :=
  ok (if !s.fabricOn then s
    else
      let s1 := s.logTimeout ag write addr.toNat
      let proc : Option Proc := match ag with
        | .cell c => some (.cell c)
        | .col c => some (.col c)
        | _ => none
      match proc with
      | none => s1
      | some p =>
        if write then s1.postBack ag stTIMEOUT addr.toNat
        else if s1.canRun p then s1.trap p 0 (.access stTIMEOUT addr.toNat)
        else s1)

/-- Fabric ticks after which a report of a level escalates (R35). -/
def escalateAfter : Nat → Nat
  | 0 => 640
  | 1 => 2560
  | 2 => 32000
  | _ => 64000

/-- What the arrival of a report at a level does beyond the report itself: region to COLH and the Grotto, chip to the Grotto (R35). -/
def State.escalated (s : State) (level unit : Nat) : State :=
  if level = 3 then (s.report35 3 reportFab (s.reports.all (·.unit != reportFab))).gLog 1 actReport (unit % 256) none
  else if level = 4 then s.gLog 14 actReport (unit % 256) none
  else s

/-- ERROR_ESCALATION (R35): a report that has stood unacknowledged for the time of its level goes to the next one. -/
def execErrorEscalation (unit : Nat) (s : State) : Host.Outcome State Fault Refusal :=
  ok (match s.reports.find? (·.unit == unit) with
    | none => s
    | some r =>
      if r.level < 4 && decide (r.since + escalateAfter r.level ≤ s.tick) then
        let up : Report := { level := r.level + 1, unit := unit, since := s.tick }
        ({ s with reports := s.reports.map fun q => if q.unit = unit then up else q } : State).escalated (r.level + 1) unit
      else s)

/-- What a scrub finds in the ECC word at `key` (R36): an error that was not known before comes to light. -/
def State.scrubFinds (s : State) (key : Nat) (found : Ecc) : State :=
  if s.eccOf key = 2 then s
  else
    match found with
    | .clean => s
    | .single => { s with ecc := smSet s.ecc (eccWord key) 1 }
    | .uncorrectable => { s with ecc := smSet s.ecc (eccWord key) 2 }

/-- A scrub of the ECC word at `key`, fabric address `a` (R28, R36). An array's own controller has no agent ID in R40: SOURCE and
CHAMBER of its report are free values. -/
def State.scrub (s : State) (ag : Option Agent) (key a : Nat) (found : Ecc) : State :=
  let s1 := s.scrubFinds key found
  if s1.eccOf key = 2 then
    match ag with
    | some g => s1.refuse g stECC 0 a
    | none => s1.used.appendErr stECC s1.free.toNat (levelOf a) 0 (s1.free.toNat / 16) a
  else s1.eccCorrect key

/-- BANK_SCRUB (R28): a free grant slot of bank `bank` of block `b` scrubs the word of line `line`. -/
def execBankScrub (b : Fin 16) (bank : Fin 8) (line : BitVec 13) (found : Ecc) (s : State) :
    Host.Outcome State Fault Refusal :=
  ok (if !s.treesOn then s
    else
      let a := blockBase b.val + 32 * line.toNat + 4 * bank.val
      s.scrub (some (.blockCtl b)) a a found)

/-- The key and the fabric address of word `w` of a scrubbed array, modulo its size; the Grotto's SRAM has no fabric address. -/
def scrubWord (arr : ScrubArray) (w : Nat) : Nat × Nat :=
  match arr with
  | .region r => let a := 0x20000000 + r.val * 0x04000000 + w % 0x80000 * 4; (a, a)
  | .sysram => (0x10000000 + w % 0x200000 * 4, 0x10000000 + w % 0x200000 * 4)
  | .tcm c => (tcmKey c.val (w % 0x20000 * 4), w % 0x20000 * 4)
  | .grotto => (grottoKey (w % 0x40000 * 4), 0)
  | .slots => (0x32000000 + w % 0x30000 * 4, 0x32000000 + w % 0x30000 * 4)
  | .rings => (0x31000000 + w % 0x10000 * 4, 0x31000000 + w % 0x10000 * 4)

/-- ARRAY_SCRUB (R413): the controller of an array scrubs one of its words; an uncorrectable error in the Grotto's SRAM forces the
hardwired STO (R391). -/
def execArrayScrub (arr : ScrubArray) (word : BitVec 21) (found : Ecc) (s : State) : Host.Outcome State Fault Refusal :=
  ok (let (key, a) := scrubWord arr word.toNat
    if arr = .grotto then
      if !s.grottoOn then s
      else
        let s1 := s.scrubFinds key found
        if s1.eccOf key = 2 then s1.hardSto 0x9A else s1.eccCorrect key
    else if s.fabricOn then s.scrub none key a found
    else s)

end Sys2Proof.Machine
end

