-- ==== Sys2Proof/Machine/SornasFlow.lean ====
section
/-! DEFINITION. Control flow, loops, system operations and special registers of Sornas (R155 to R163, R169, R170). -/

namespace Sys2Proof.Machine

/-! ## Branches -/

/-- The link of CALL and JR with FN 0x01: a7 := PC + 1, or g31 := PC + 4 (R155). -/
def Core.link (k : Core) (pf : Profile) : Core :=
  k.wr pf (match pf with | .c => 23 | .s => 31) (pcAdd pf k.pc 1).toNat

/-- A branch at the last position of an active loop's body is ILLEGAL (R157); otherwise `go`. -/
def loopGuard (go : Core → BodyRes) (k : Core) : BodyRes := if k.atLoopEnd then .trap .illegal else go k

/-- A taken branch is counted (R464). -/
def State.countBranch (s s' : State) (p : Proc) (gd : BitVec 3) : State :=
  if s.canRun p && (s.coreOf p).guard gd == some true && !(s.coreOf p).atLoopEnd then s'.pmc p 0 0x0A else s'

/-- BR (R155). -/
def execBr (p : Proc) (gd : BitVec 3) (off : BitVec 23) (s : State) : Host.Outcome State Fault Refusal :=
  ok (s.countBranch (s.runInstr p (encB 0x14 gd off) gd true 0 (loopGuard fun k =>
    let t := pcAdd (profileOf p) k.pc (immS off)
    .jump { k.leave t with pc := t })) p gd)

/-- CALL (R155). -/
def execCall (p : Proc) (gd : BitVec 3) (off : BitVec 23) (s : State) : Host.Outcome State Fault Refusal :=
  ok (s.countBranch (s.runInstr p (encB 0x15 gd off) gd true 0 (loopGuard fun k =>
    .jump { k.link (profileOf p) with pc := pcAdd (profileOf p) k.pc (immS off) })) p gd)

/-- The target of JR, or the ACCESS trap for one that is no instruction address (R155, R166). -/
def jrTarget (pf : Profile) (k : Core) (ra : BitVec 5) (go : Word → BodyRes) : BodyRes :=
  let a := k.u pf ra.toNat
  match pf with
  | .c => if a < 4096 then go (BitVec.ofNat 32 a) else .trap (.access stBAD_TARGET a)
  | .s => if a % 4 = 0 then go (BitVec.ofNat 32 a) else .trap (.access stBAD_TARGET a)

/-- JR with FN 0x00 (R155, R157). -/
def execJr (p : Proc) (gd : BitVec 3) (rd ra rb : BitVec 5) (s : State) : Host.Outcome State Fault Refusal :=
  ok (s.countBranch (s.runInstr p (encR 0x16 gd rd ra rb 0x00) gd (isBase (profileOf p) ra.toNat && rd == 0 && rb == 0) 0
    (loopGuard fun k => jrTarget (profileOf p) k ra fun t => .jump { k.leave t with pc := t })) p gd)

/-- JR with FN 0x01: the link, and loops stay active (R155, R157). -/
def execJrLink (p : Proc) (gd : BitVec 3) (rd ra rb : BitVec 5) (s : State) : Host.Outcome State Fault Refusal :=
  ok (s.countBranch (s.runInstr p (encR 0x16 gd rd ra rb 0x01) gd (isBase (profileOf p) ra.toNat && rd == 0 && rb == 0) 0
    (loopGuard fun k => jrTarget (profileOf p) k ra fun t => .jump { k.link (profileOf p) with pc := t })) p gd)

/-! ## LOOP -/

/-- The core with loop `n` started over `ls` to `le` with `count` passes (R156, R157). -/
def Core.startLoop (k : Core) (n : Nat) (ls le : Word) (count : Nat) : Core :=
  { k with ls := k.ls.set! n ls, le := k.le.set! n le, lc := k.lc.set! n (BitVec.ofNat 16 count)
           lord := if count = 0 then k.lord else n == 1 }

/-- LOOP (R156, R157): LEN = 0 is ILLEGAL at decode, improper nesting when executed. -/
def execLoop (p : Proc) (gd : BitVec 3) (n ci : BitVec 1) (cnt : BitVec 12) (ra : BitVec 5) (len : BitVec 9) (s : State) :
    Host.Outcome State Fault Refusal :=
  ok (let pf := profileOf p
    s.runInstr p (encL 0x17 gd n ci cnt ra len) gd (len != 0 && (ci == 1 || isData pf ra.toNat)) 0 (loopGuard fun k =>
      let i := n.toNat
      let count := if ci = 1 then cnt.toNat else k.u pf ra.toNat % 2 ^ 16
      let ls := pcAdd pf k.pc 1
      let le := pcAdd pf k.pc len.toNat
      if count != 0 && k.lc[1 - i]! != 0 && (k.le[1 - i]!).toNat < le.toNat then .trap .illegal
      else
        let k1 := k.startLoop i ls le count
        if count = 0 then .jump { k1 with pc := pcAdd pf le 1 } else .next k1))

/-! ## SYS -/

/-- A SYS function whose RD and SPN are unused (R130, R162). -/
def sysPlain (rd : BitVec 5) (spn : BitVec 10) : Bool := rd == 0 && spn == 0

/-- NOP (R162). -/
def execNop (p : Proc) (gd : BitVec 3) (rd : BitVec 5) (spn : BitVec 10) (s : State) :
    Host.Outcome State Fault Refusal :=
  ok (s.runInstr p (encY 0x00 gd rd spn 0x00) gd (sysPlain rd spn) 0 .next)

/-- TRAP (R162): the code stands in SPN. -/
def execTrap (p : Proc) (gd : BitVec 3) (rd : BitVec 5) (spn : BitVec 10) (s : State) :
    Host.Outcome State Fault Refusal :=
  ok (s.runInstr p (encY 0x00 gd rd spn 0x01) gd (rd == 0) 0 fun _ => .trap (.trap spn.toNat))

/-- ERET (R170); the trap handler of a cell ends with it (R217 TRAPESC). -/
def execEret (p : Proc) (gd : BitVec 3) (rd : BitVec 5) (spn : BitVec 10) (s : State) :
    Host.Outcome State Fault Refusal :=
  ok (let s1 := s.runInstr p (encY 0x00 gd rd spn 0x02) gd (sysPlain rd spn) 0 fun k => .jump (k.eret (profileOf p))
    match p with
    | .cell c =>
      if s.canRun p && (s.coreOf p).guard gd == some true && sysPlain rd spn then
        (s1.cellCores c).foldl (fun s q => s.modPhys q fun ph => { ph with trapAt := none }) s1
      else s1
    | .col _ | .grotto => s1)

/-- An unlocked debugger is attached (R162, DBG_STAT of 19_reset_boot_selftest.md). -/
def State.debuggerUnlocked (s : State) : Bool := s.fld DBG_STAT 0 DBG_STAT_LEVEL != 0

/-- BRK (R162): halts into debug with an unlocked debugger attached, otherwise the BRK trap. -/
def execBrk (p : Proc) (gd : BitVec 3) (rd : BitVec 5) (spn : BitVec 10) (s : State) :
    Host.Outcome State Fault Refusal :=
  ok (let w := encY 0x00 gd rd spn 0x03
    if s.canRun p && (s.coreOf p).guard gd == some true && sysPlain rd spn && s.debuggerUnlocked then s.setWait p .debug
    else s.runInstr p w gd (sysPlain rd spn) 0 fun _ => .trap .brk)

/-! ## Special registers (R163) -/

/-- The special registers each profile has. -/
def sprLegal (pf : Profile) (n : Nat) (write : Bool) : Bool :=
  match pf with
  | .c => n ≤ 0x00A && !(write && n == 0x009) || 0x010 ≤ n && n ≤ 0x014
  | .s => n ≤ 0x008 || 0x010 ≤ n && n ≤ 0x013

/-- The special registers of Sornas-C that admit an address register: XTVAL and those of 12 bits. -/
def sprAddr (n : Nat) : Bool := n == 0x013 || n == 0x010 || n == 0x014 || 0x004 ≤ n && n ≤ 0x007

/-- Special register `n` read. -/
def Core.spr (k : Core) (pf : Profile) (n : Nat) : Nat :=
  let m12 (x : Word) : Nat := match pf with | .c => x.toNat % 2 ^ 12 | .s => x.toNat
  match n with
  | 0x000 => match pf with | .c => k.st.toNat % 2 ^ 16 | .s => k.st.toNat
  | 0x001 => k.p.toNat / 2 * 2 + 1
  | 0x002 => k.lc[0].toNat
  | 0x003 => k.lc[1].toNat
  | 0x004 => m12 k.ls[0]
  | 0x005 => m12 k.le[0]
  | 0x006 => m12 k.ls[1]
  | 0x007 => m12 k.le[1]
  | 0x008 => match pf with | .c => k.prog.toNat % 2 ^ 16 | .s => k.prog.toNat
  | 0x009 => k.ev.toNat
  | 0x00A => k.gb.toNat
  | 0x010 => m12 k.xepc
  | 0x011 => match pf with | .c => k.xst.toNat % 2 ^ 16 | .s => k.xst.toNat
  | 0x012 => match pf with | .c => k.xcause.toNat % 2 ^ 16 | .s => k.xcause.toNat
  | 0x013 => match pf with | .c => k.xtval.toNat % 2 ^ 20 | .s => k.xtval.toNat
  | 0x014 => k.xvec.toNat % 2 ^ 12
  | _ => 0

/-- The bits of STATUS an MTS may write (R163, R450, R451): the RW fields of st, and SUP and IPL in supervisor mode. -/
def stMask (pf : Profile) (k : Core) : Word :=
  match pf with
  | .c => 0x831F
  | .s => if k.stb 31 then 0xF000831F else 0x831F

/-- Special register `n` written with `v`, the low bits of the source (R163). -/
def Core.setSpr (k : Core) (pf : Profile) (n : Nat) (v : Nat) : Core :=
  let w : Word := BitVec.ofNat 32 v
  let m12 : Word := match pf with | .c => w &&& 0xFFF | .s => w
  let m16 : Word := match pf with | .c => w &&& 0xFFFF | .s => w
  match n with
  | 0x000 => { k with st := (k.st &&& ~~~(stMask pf k)) ||| (w &&& stMask pf k) }
  | 0x001 => { k with p := BitVec.ofNat 4 (v / 2 * 2 + b2n (bitN k.p.toNat 0)) }
  | 0x002 => { k with lc := k.lc.set! 0 (BitVec.ofNat 16 v), lord := if v % 2 ^ 16 = 0 then k.lord else false }
  | 0x003 => { k with lc := k.lc.set! 1 (BitVec.ofNat 16 v), lord := if v % 2 ^ 16 = 0 then k.lord else true }
  | 0x004 => { k with ls := k.ls.set! 0 m12 }
  | 0x005 => { k with le := k.le.set! 0 m12 }
  | 0x006 => { k with ls := k.ls.set! 1 m12 }
  | 0x007 => { k with le := k.le.set! 1 m12 }
  | 0x008 => { k with prog := m16 }
  | 0x00A => { k with gb := (k.gb &&& 0x00F0) ||| (BitVec.ofNat 16 v &&& 0x800F) }
  | 0x010 => { k with xepc := m12 }
  | 0x011 => { k with xst := m16 }
  | 0x012 => { k with xcause := m16 }
  | 0x013 => { k with xtval := match pf with | .c => w &&& 0xFFFFF | .s => w }
  | 0x014 => { k with xvec := w &&& 0xF80 }
  | _ => k

/-- MFS and MTS of 0x010 to 0x013 raise PRIV in user mode (R163, R450). -/
def sprPriv (pf : Profile) (k : Core) (n : Nat) : Bool :=
  match pf with
  | .c => false
  | .s => 0x010 ≤ n && !k.stb 31

/-- Which register fields MFS and MTS admit for special register `n` (R163). -/
def sprField (pf : Profile) (rd : BitVec 5) (n : Nat) : Bool :=
  isData pf rd.toNat || isAddr pf rd.toNat && sprAddr n

/-- MFS (R163). -/
def execMfs (p : Proc) (gd : BitVec 3) (rd : BitVec 5) (spn : BitVec 10) (s : State) :
    Host.Outcome State Fault Refusal :=
  ok (let pf := profileOf p
    s.runInstr p (encY 0x00 gd rd spn 0x04) gd (sprLegal pf spn.toNat false && sprField pf rd spn.toNat) 0 fun k =>
      if sprPriv pf k spn.toNat then .trap .priv
      else .next (k.wr pf rd.toNat (k.spr pf spn.toNat : Nat)))

/-- MTS (R163): a write of XVEC also reaches the block controller's shadow (R219), and a change of gb.BANK is counted (R228). -/
def execMts (p : Proc) (gd : BitVec 3) (rd : BitVec 5) (spn : BitVec 10) (s : State) :
    Host.Outcome State Fault Refusal :=
  ok (let pf := profileOf p
    let s1 := s.runInstr p (encY 0x00 gd rd spn 0x05) gd (sprLegal pf spn.toNat true && sprField pf rd spn.toNat) 0 fun k =>
      if sprPriv pf k spn.toNat then .trap .priv
      else .next (k.setSpr pf spn.toNat (k.u pf rd.toNat))
    match p with
    | .cell c =>
      if s.canRun p then
        let s2 := s1.modCell c fun l => { l with xvecSh := (s1.coreOf p).xvec }
        if (s1.coreOf p).gb.toNat % 16 = (s.coreOf p).gb.toNat % 16 then s2 else s2.pmcCount c 0x0D
      else s1
    | .col _ | .grotto => s1)

/-! ## Events -/

/-- EVENT ENTRY of a cell (R169) at an instruction boundary with IE set and a waiting entry. A wait that R196 names is
abandoned: a waiting fence has had no effect and runs again, so XEPC names it. A refusal of a posted store that has
arrived is taken first (R171). -/
def execEventEntry (c : Fin 128) (s : State) : Host.Outcome State Fault Refusal :=
  ok (let p := Proc.cell c
    let ph := vget s.phys ((s.physOf c).getD 0)
    let takes : Bool := match ph.wait with
      | .run | .fence _ => true
      | .sleep _ _ _ | .decision _ | .wfi | .debug => false
    match ph.fifo with
    | [] => s
    | e :: _ =>
      if s.alive p && takes && ph.core.stb 15 && ph.refusal.isNone then
        (((s.cellCores c).foldl (fun s q => s.modPhys q fun ph =>
          { ph with core := ph.core.takeEvent e.vec e.payload, fifo := ph.fifo.drop 1, wait := .run
                    latch := none, stage := none }) s).pmcCount c 7).notifyRetry
      else s)

/-- ACCESS_POSTED (R154, R171): a refusal that has arrived is taken as a trap at an instruction boundary; it ends the sleep
of a WAIT, which then counts as not executed, and the wait of a fence (R201). -/
def execAccessPostedTrap (p : Proc) (s : State) : Host.Outcome State Fault Refusal :=
  ok (match p with
    | .cell c =>
      let ph := vget s.phys ((s.physOf c).getD 0)
      match ph.refusal with
      | none => s
      | some (st, a) =>
        if !s.alive p || (match ph.wait with | .decision _ | .debug => true | _ => false) then s
        else
          let s1 := (s.cellCores c).foldl (fun s q => s.modPhys q fun ph => { ph with refusal := none, wait := .run }) s
          s1.trap p 0 (.posted st a)
    | .col _ | .grotto =>
      let q := vget s.sproc (sIndex p)
      match q.refusal with
      | none => s
      | some (st, a) =>
        if !s.alive p || q.wait == .debug then s
        else (s.modSproc (sIndex p) fun q => { q with refusal := none, wait := .run }).trap p 0 (.posted st a))

/-- The timeout of a WAIT with T = 1 (R194): the sleep ends, with P = 1 giving 0xFFFF. -/
def execWaitTimeout (c : Fin 128) (s : State) : Host.Outcome State Fault Refusal :=
  ok (match (vget s.phys ((s.physOf c).getD 0)).wait with
    | .sleep pop rd (some t) =>
      if s.alive (.cell c) && t ≤ s.tick then
        (s.cellCores c).foldl (fun s q => s.modPhys q fun ph =>
          { ph with wait := .run
                    core := (if pop then ph.core.wr .c rd 0xFFFF else ph.core).advance .c }) s
      else s
    | _ => s)

end Sys2Proof.Machine
end

