-- ==== Sys2Proof/Machine/SornasMem.lean ====
section
/-! DEFINITION. The memory operations of Sornas (R149 to R154): the cell data space with its write buffer, latch and stage
(R23, R158 to R161), the cell-local page (R228, R229), and the columns' accesses through memory protection and cache
(R462, R463). -/

namespace Sys2Proof.Machine

/-! ## Running an instruction that reaches beyond the registers -/

/-- What the effect of such an instruction leaves. -/
inductive MemRes
  /-- Completed: the program counter moves on. -/
  | done (s : State)
  /-- It waits, gives way at an element boundary, or its processor has stopped: the program counter stays. -/
  | stay (s : State)
  | trap (s : State) (t : Trap)

/-- The program counter of every copy moves past a completed instruction, where its processor still lives. -/
def State.retire (s : State) (p : Proc) : State :=
  if s.alive p then (s.modCores p (·.advance (profileOf p))).pmc p 1 1 else s

/-- `runInstr` (R131, R133, R167) for an effect on the whole state. A resumption (R189, R461) does not evaluate its guard. -/
def State.runMem (s : State) (p : Proc) (w : Word) (gd : BitVec 3) (legal resume : Bool) (act : State → MemRes) : State :=
  if !s.canRun p then s
  else
    match (s.coreOf p).guard gd with
    | none => s.trap p w .illegal
    | some g =>
      if !legal then s.trap p w .illegal
      else if !g && !resume then (s.modCores p (·.advance (profileOf p))).pmc p 2 1
      else
        match act s with
        | .done s1 => s1.retire p
        | .stay s1 => s1
        | .trap s1 t => s1.trap p w t

/-- What a load obtains. -/
inductive Load
  | val (s : State) (v : Nat)
  /-- It waits, or the cell has stopped. -/
  | stay (s : State)
  /-- Refused with a status. -/
  | bad (s : State) (st : Nat)

/-! ## The cell data space (R23, R24, R158, R159) -/

/-- Where a cell word address leads. -/
inductive CellPlace
  /-- A word of operand RAM. -/
  | ram (o : Nat)
  /-- A word of block memory, by fabric byte address. -/
  | block (a : Nat)
  /-- A half of a register of the port window or the submit port, by the register's address. -/
  | port (a : Nat) (odd : Bool)
  /-- A word of the cell-local page. -/
  | page (o : Nat)
  | nowhere
  deriving DecidableEq, Repr

/-- The place of word `w` for a cell of block `b`. -/
def cellPlace (b w : Nat) : CellPlace :=
  if w < 0x1000 then .ram w
  else if 0x20000 ≤ w && w < 0x40000 then .block (blockBase b + 2 * (w - 0x20000))
  else if 0x80000 ≤ w && w < 0x89000 then
    let k := (w - 0x80000) / 0x1000
    .port (0x22000000 + b / 4 * 0x04000000 + k * 0x10000 + w % 0x1000 / 2 * 4) (w % 2 == 1)
  else if 0x8F000 ≤ w && w < 0x8F00C then .port (0x30000010 + (w - 0x8F000) / 2 * 4) (w % 2 == 1)
  else if 0xF0000 ≤ w && w < 0xF0100 then .page (w - 0xF0000)
  else .nowhere

/-- The fabric byte address of a place for a cell on physical cell `p` (R23); 0 where it has none. -/
def CellPlace.fab (x : CellPlace) (p : Nat) : Nat :=
  match x with
  | .ram o => cellWin p + 0x4000 + 2 * o
  | .block a => a
  | .port a odd => a + 2 * b2n odd
  | .page _ | .nowhere => 0

/-- The physical cell of a logical cell that runs. -/
def State.physIx (s : State) (c : Fin 128) : Fin 128 := (s.physOf c).getD 0

/-- A cell's own decode refuses word `w` with BAD_TARGET (R24, R150). -/
def State.cellBad (s : State) (c : Fin 128) (kind w : Nat) : State :=
  s.appendErr stBAD_TARGET (chamberOf s (.cell c)) 0 kind c.val ((cellPlace (c.val / 8) w).fab (s.physIx c).val)

/-- Every copy of a cell changed beside its registers. -/
def State.modCopies (s : State) (c : Fin 128) (f : Phys → Phys) : State :=
  (s.cellCores c).foldl (fun s q => s.modPhys q f) s

/-- The write buffer of a cell (of the primary in a twin). -/
def State.wbufOf (s : State) (c : Fin 128) : List WbufEntry := (vget s.phys (s.physIx c)).wbuf

/-! ## The write buffer (R153) -/

/-- A cell may use a granule of block memory (R212). -/
def State.mayGranule (s : State) (c : Fin 128) (a : Nat) : Bool :=
  let ch := chamberOf s (.cell c)
  ch == 0 || s.addrOwner a == some ch

/-- The status of a cell's access to a register through its windows (R26, R30, R158). -/
def State.portStatus (s : State) (c : Fin 128) (a : Nat) : Nat :=
  let ch := chamberOf s (.cell c)
  if 0x30000000 ≤ a then stOK
  else if !s.hasSlot ch (c.val / 32) then stPERM
  else if ch == 0 then stOK
  else
    match s.addrOwner a with
    | some o => if o == ch then stOK else stPERM
    | none => stOK

/-- A posted store is performed; a refusal returns to the cell (R154). -/
def State.perform (s : State) (c : Fin 128) (e : WbufEntry) : State :=
  let back (r : State × Nat) (w : Nat) : State := if r.2 = stOK then r.1 else r.1.postRefusal c r.2 w
  match e with
  | .mem a v w =>
    if s.mayGranule c a then back (s.ramWrite (.cell c) 2 1 a a (v.zeroExtend 32)) w
    else back (s.refuse (.cell c) stPERM 1 a, stPERM) w
  | .reg a v w =>
    let st := s.portStatus c a
    if st = stOK then back (s.writeAt (.cell c) 4 1 a v) w else back (s.refuse (.cell c) st 1 a, st) w
  | .submit w0 w1 w2 w3 _ wait =>
    s.submit { agent := .cell c, chamber := chamberOf s (.cell c), w0 := w0, w1 := w1, w2 := w2, w3 := w3, src := .cell wait }

/-- The oldest entry leaves the write buffer of a logical cell and is performed, whether the cell runs or has stopped (R209). -/
def State.drain (s : State) (c : Fin 128) : State :=
  match s.physOf c, s.wbufOf c with
  | some _, e :: _ => (s.modCopies c fun ph => { ph with wbuf := ph.wbuf.drop 1 }).perform c e
  | _, _ => s

/-- Entries leave until none satisfies `rel`; `fuel` is at least the length of the buffer. -/
def State.drainFor (s : State) (c : Fin 128) (rel : WbufEntry → Bool) : Nat → State
  | 0 => s
  | fuel + 1 => if (s.wbufOf c).any rel then (s.drain c).drainFor c rel fuel else s

/-- A store enters the write buffer; one that finds it full waits until the oldest entry has left (R153). -/
def State.post (s : State) (c : Fin 128) (e : WbufEntry) : State :=
  let s1 := if (s.wbufOf c).length < 4 then s else s.drain c
  s1.modCopies c fun ph => { ph with wbuf := ph.wbuf ++ [e] }

/-- A buffered store goes to the register page of `a` (R153). -/
def samePage (a : Nat) (e : WbufEntry) : Bool :=
  match e with
  | .mem _ _ _ => false
  | .reg b _ _ => b / 0x10000 == a / 0x10000
  | .submit _ _ _ _ _ _ => a / 0x10000 == 0x3000

/-- WRITE_BUFFER_DRAIN (R153). -/
def execWriteBufferDrain (c : Fin 128) (s : State) : Host.Outcome State Fault Refusal :=
  ok (if s.treesOn then s.drain c else s)

/-! ## The cell-local page (R161, R228, R229) -/

/-- The register at word `o` of the page. -/
def State.pageRead (s : State) (c : Fin 128) (o : Nat) : Word :=
  let l := vget s.lcell c
  if o = 0x00 then
    BitVec.ofNat 32 (s.ownerOf 0x01 c.val % 16 * 2 ^ 24 + b2n l.twin.isSome * 2 ^ 23 + (s.physIx c).val * 2 ^ 16 + c.val)
  else if o = 0x02 then BitVec.ofNat 32 (b2n l.clMig * 2 ^ 31 + b2n l.clCold * 2 ^ 30 + l.clGen.toNat)
  else if o = 0x06 then l.gsin
  else if o = 0x08 then s.clCycle c
  else if 0x10 ≤ o && o < 0x18 then l.pmc[(o - 0x10) / 2]!
  else if 0x18 ≤ o && o < 0x20 then l.pmsel[(o - 0x18) / 2]!.zeroExtend 32
  else if o = 0x20 then l.pmstat
  else 0

/-- The register at word `o` of the page written. -/
def State.pageWrite (s : State) (c : Fin 128) (o : Nat) (v : Word) : State :=
  if o = 0x02 then
    s.modCell c fun l => { l with clMig := l.clMig && !v.getLsbD 31, clCold := l.clCold && !v.getLsbD 30 }
  else if o = 0x04 then (if v.getLsbD 0 then s.kick c else s)
  else if o = 0x06 then s.modCell c fun l => { l with gsin := v }
  else if 0x10 ≤ o && o < 0x18 then s.modCell c fun l => { l with pmc := l.pmc.set! ((o - 0x10) / 2) v }
  else if 0x18 ≤ o && o < 0x20 then
    s.modCell c fun l => { l with pmsel := l.pmsel.set! ((o - 0x18) / 2) (v.extractLsb' 0 8) }
  else if o = 0x20 then
    s.modCell c fun l => { l with pmstat := (l.pmstat &&& ~~~v &&& 0xF) ||| (v &&& 0x000F0F00) }
  else s

/-! ## Loads and stores of a cell -/

/-- A read of a 32-bit register by halves (R160): the odd word from the latch if it holds the register; `tag` names it. -/
def State.latched (s : State) (c : Fin 128) (tag : Nat) (odd two : Bool) (rd : State → State × Nat × Word) : Load :=
  let own : Load :=
    let r := rd s
    if r.2.1 != stOK then .bad r.1 r.2.1
    else if two then .val r.1 r.2.2.toNat
    else if odd then .val r.1 (r.2.2.toNat / 2 ^ 16)
    else .val (r.1.modCopies c fun ph => { ph with latch := some (tag, r.2.2.extractLsb' 16 16) }) (r.2.2.toNat % 2 ^ 16)
  match odd && !two, (vget s.phys (s.physIx c)).latch with
  | true, some (t, h) => if t = tag then .val s h.toNat else own
  | _, _ => own

/-- One word of block memory as a cell reads it: from the youngest buffered store to it, if there is one (R41, R153). -/
def State.blockLoad (s : State) (c : Fin 128) (a : Nat) : State × Nat × Nat :=
  if !s.mayGranule c a then (s.refuse (.cell c) stPERM 0 a, stPERM, 0)
  else
    match (s.wbufOf c).reverse.findSome? fun e => match e with
      | .mem b v _ => if b = a then some v else none
      | _ => none with
    | some v => (s, stOK, v.toNat)
    | none =>
      let r := s.ramRead (.cell c) 2 0 a a
      (r.1, r.2.1, r.2.2.toNat % 2 ^ 16)

/-- An uncorrectable error in the primary's own operand RAM stops it (R152). -/
def State.ramStop (s : State) (c : Fin 128) (a : Nat) : State :=
  (s.refuse (.cell c) stECC 0 a).cellEcc (s.physIx c)

/-- A load of a cell from word `w`, or from `w` and the next (R149 to R153, R158 to R161). In a twin, both copies take what the
primary's load obtains (R224). -/
def State.cellLoad (s : State) (c : Fin 128) (w : Nat) (two : Bool) : Load :=
  if two && w % 2 = 1 then .bad (s.cellBad c 0 w) stBAD_TARGET
  else
    match cellPlace (c.val / 8) w with
    | .ram o =>
      let a := cellWin (s.physIx c).val + 0x4000 + 2 * o
      if s.eccOf a == 2 then .stay (s.ramStop c a)
      else if two && s.eccOf (a + 2) == 2 then .stay (s.ramStop c (a + 2))
      else if two then .val ((s.eccCorrect a).eccCorrect (a + 2)) (memWord s.mem a).toNat
      else .val (s.eccCorrect a) (memHalf s.mem a).toNat
    | .block a =>
      let r := s.blockLoad c a
      if r.2.1 != stOK then .bad r.1 r.2.1
      else if !two then .val r.1 r.2.2
      else
        let q := r.1.blockLoad c (a + 2)
        if q.2.1 != stOK then .bad q.1 q.2.1 else .val q.1 (r.2.2 + 2 ^ 16 * q.2.2)
    | .port a odd =>
      let s1 := s.drainFor c (samePage a) 4
      if a = 0x30000024 && s1.subPending (.cell c) then .stay s1
      else
        s1.latched c a odd two fun s =>
          let st := s.portStatus c a
          if st = stOK then s.readAt (.cell c) 4 0 a else (s.refuse (.cell c) st 0 a, st, 0)
    | .page o =>
      if two then .bad (s.cellBad c 0 w) stBAD_TARGET
      else s.latched c (0xF0000 + o / 2 * 2) (o % 2 == 1) false fun s => (s, stOK, s.pageRead c (o / 2 * 2))
    | .nowhere => .bad (s.cellBad c 0 w) stBAD_TARGET

/-- The value that a write of the even word of a register carries (R160): bits [31:16] from the stage. -/
def State.staged (s : State) (c : Fin 128) (tag : Nat) (lo : Nat) : Word :=
  match (vget s.phys (s.physIx c)).stage with
  | some (t, h) => BitVec.ofNat 32 ((if t = tag then h.toNat else 0) * 2 ^ 16 + lo % 2 ^ 16)
  | none => BitVec.ofNat 32 (lo % 2 ^ 16)

/-- Bits [31:16] of a register are staged (R160). -/
def State.setStage (s : State) (c : Fin 128) (x : Option (Nat × Half)) : State := s.modCopies c fun ph => { ph with stage := x }

/-- FENCE.E has marked its write: the mark is gone (R200). -/
def State.unmark (s : State) (p : Proc) (a : Nat) : State :=
  let marks := a = 0x30000020 || (GAL_RING_IDX.base ≤ a && (dimIdx GAL_RING_IDX.dims (a - GAL_RING_IDX.base)).isSome)
  if !marks then s
  else
    match p with
    | .cell c => s.modCopies c fun ph => { ph with fenceE := false }
    | .col _ | .grotto => s.modSproc (sIndex p) fun q => { q with fenceE := false }

/-- A store of a cell to word `w`, or to `w` and the next, of the low bits of `v` (R149 to R154, R158 to R161). A store to operand
RAM reaches the RAM of both copies of a twin. -/
def State.cellStore (s : State) (c : Fin 128) (w : Nat) (two : Bool) (v : Nat) : Load :=
  let lo : Half := BitVec.ofNat 16 v
  let hi : Half := BitVec.ofNat 16 (v / 2 ^ 16)
  if two && w % 2 = 1 then .bad (s.cellBad c 1 w) stBAD_TARGET
  else
    match cellPlace (c.val / 8) w with
    | .ram o =>
      .val ((s.cellCores c).foldl (fun s q =>
        let a := cellWin q.val + 0x4000 + 2 * o
        let s1 := (s.eccClear a).poke16 a lo
        if two then (s1.eccClear (a + 2)).poke16 (a + 2) hi else s1) s) 0
    | .block a =>
      let s1 := s.post c (.mem a lo w)
      .val (if two then s1.post c (.mem (a + 2) hi (w + 1)) else s1) 0
    | .port a odd =>
      if two then .val ((s.post c (.reg a (BitVec.ofNat 32 v) w)).unmark (.cell c) a) 0
      else if odd then .val (s.setStage c (some (a, lo))) 0
      else .val (((s.post c (.reg a (s.staged c a lo.toNat) w)).setStage c none).unmark (.cell c) a) 0
    | .page o =>
      let tag := 0xF0000 + o / 2 * 2
      if two then .bad (s.cellBad c 1 w) stBAD_TARGET
      else if o % 2 = 1 then .val (s.setStage c (some (tag, lo))) 0
      else .val ((s.pageWrite c o (s.staged c tag lo.toNat)).setStage c none) 0
    | .nowhere => .bad (s.cellBad c 1 w) stBAD_TARGET

/-! ## Memory protection (R463) -/

/-- An address in a window that the data cache may serve (R463). -/
def cacheWindow (a : Nat) : Bool :=
  (0x10000000 ≤ a && a < 0x10800000) || (0x80000000 ≤ a && a < 0x90000000) ||
    (0x20000000 ≤ a && a < 0x30000000 &&
      (let o := (a - 0x20000000) % 0x04000000
       o < 0x200000 || (0x01000000 ≤ o && o < 0x01400000 && (o - 0x01000000) % 0x100000 < 0x40000)))

/-- Whether memory protection admits an access of a Sornas-S processor (`kind`: 0 read, 1 write, 2 execute), and whether it is
cacheable. -/
def State.mpu (s : State) (i : Fin 6) (a kind : Nat) : Option Bool :=
  let q := vget s.sproc i
  let csr (n : Nat) : Nat := (smGet 0 q.csr n).toNat
  if csr 0x320 % 2 = 0 then some (decide (0x80000000 ≤ a) && decide (a < 0x90000000))
  else
    match (List.range 16).find? fun k => bitN (csr (0x300 + 2 * k)) 11 && csr (0x300 + 2 * k) / 2 ^ 12 ≤ a / 2 ^ 12 &&
        a / 2 ^ 12 ≤ csr (0x301 + 2 * k) / 2 ^ 12 with
    | none => if q.core.stb 31 then some false else none
    | some k =>
      let l := csr (0x301 + 2 * k)
      let perm := if q.core.stb 31 then l % 8 else l / 8 % 8
      if bitN perm (2 - kind) then some (bitN l 6 && cacheWindow a) else none

/-! ## The data cache of a column (R462) -/

/-- The data line with number `n`, if it is in the cache. -/
def State.dline (s : State) (c : Fin 5) (n : Nat) : Option CacheLine :=
  ((vget s.sproc (c.castLE (by decide))).dcache.find? fun e => e.1 == n).map (·.2)

/-- The data cache of a column changed. -/
def State.modDcache (s : State) (c : Fin 5) (f : SMap CacheLine → SMap CacheLine) : State :=
  s.modSproc (c.castLE (by decide)) fun q => { q with dcache := f q.dcache }

/-- A line is written back, and is clean from here; a refusal returns as one of a posted store (R154). -/
def State.writeBack (s : State) (c : Fin 5) (n : Nat) (l : CacheLine) : State :=
  if !l.dirty then s
  else
    let s1 := (s.modDcache c fun m => smSet m n { l with dirty := false }).pmc (.col c) 0 5
    (List.range 16).foldl (fun s i =>
      let a := 64 * n + 4 * i
      let r := s.busWrite (.col c) 4 1 a
        ((l.data[4 * i + 3]?.getD 0) ++ (l.data[4 * i + 2]?.getD 0) ++ (l.data[4 * i + 1]?.getD 0) ++ (l.data[4 * i]?.getD 0))
      if r.2 = stOK then r.1 else r.1.postBack (.col c) r.2 a) s1

/-- A line leaves the cache; a dirty one is written back first. -/
def State.evictLine (s : State) (c : Fin 5) (n : Nat) : State :=
  match s.dline c n with
  | some l => (s.writeBack c n l).modDcache c (smDrop (· == n))
  | none => s

/-- Room for a line: the spec does not give the placement, so the line that leaves is a free value, and with fewer than 512 lines it
may be none. -/
def State.cacheRoom (s : State) (c : Fin 5) : State :=
  let m := (vget s.sproc (c.castLE (by decide))).dcache
  let v := s.free.toNat % (if m.length < 512 then m.length + 1 else m.length)
  match m[v]? with
  | some e => s.used.evictLine c e.1
  | none => s.used

/-- A line is read from the fabric: its bytes, or the status that refuses it. -/
def State.fetchLine (s : State) (c : Fin 5) (n : Nat) : State × Nat × List Byte :=
  (List.range 16).foldl (fun (x : State × Nat × List Byte) i =>
    if x.2.1 != stOK then x
    else
      let r := x.1.busRead (.col c) 4 0 (64 * n + 4 * i)
      let v := r.2.2
      (r.1, r.2.1, x.2.2 ++ [v.extractLsb' 0 8, v.extractLsb' 8 8, v.extractLsb' 16 8, v.extractLsb' 24 8])) (s, stOK, [])

/-- The line that holds an address is in the cache: the line, or the status that refuses it. -/
def State.touchLine (s : State) (c : Fin 5) (n : Nat) : State × Nat × CacheLine :=
  match s.dline c n with
  | some l => (s, stOK, l)
  | none =>
    let r := (s.pmc (.col c) 0 4).fetchLine c n
    let l : CacheLine := { dirty := false, data := r.2.2 }
    if r.2.1 != stOK then (r.1, r.2.1, l)
    else ((r.1.cacheRoom c).modDcache c fun m => smSet m n l, stOK, l)

/-- `n` bytes of a line from byte `o` on, little-endian. -/
def lineRead (l : CacheLine) (o n : Nat) : Nat :=
  (List.range n).foldl (fun v i => v + 2 ^ (8 * i) * (l.data[o + i]?.getD 0).toNat) 0

/-- A line with `n` bytes of `v` written from byte `o` on. -/
def lineWrite (l : CacheLine) (o n v : Nat) : CacheLine :=
  { dirty := true, data := (List.range n).foldl (fun d i => d.set (o + i) (BitVec.ofNat 8 (v / 2 ^ (8 * i)))) l.data }

/-! ## Loads and stores of a Sornas-S processor -/

/-- The Grotto's own accesses (R393): its SRAM and the mailbox window. An uncorrectable error in its SRAM forces the hardwired STO
(R391). -/
def State.grottoLoad (s : State) (a n : Nat) : Load :=
  let r := if a < 0x100000 then s.ramRead .grotto n 0 a (grottoKey a)
    else if 0x18000000 ≤ a && a < 0x18100000 then s.readAt .grotto n 0 a
    else (s.refuse .grotto stBAD_TARGET 0 a, stBAD_TARGET, 0)
  if r.2.1 = stOK then .val r.1 r.2.2.toNat
  else .bad (if a < 0x100000 then r.1.hardSto 0x9A else r.1) r.2.1

/-- A load of `n` bytes by a Sornas-S processor (R149, R152, R462, R463). -/
def State.sLoad (s : State) (p : Proc) (a n : Nat) : Load :=
  let no (s : State) (st : Nat) : Load := .bad s st
  match p with
  | .cell _ => no s stBAD_TARGET
  | .grotto =>
    if a % n != 0 then no (s.refuse .grotto stBAD_TARGET 0 a) stBAD_TARGET
    else
      match s.mpu 5 a 0 with
      | none => no s stPERM
      | some _ => s.grottoLoad a n
  | .col c =>
    if a % n != 0 then no (s.refuse (.col c) stBAD_TARGET 0 a) stBAD_TARGET
    else
      match s.mpu (c.castLE (by decide)) a 0 with
      | none => no s stPERM
      | some true =>
        let r := s.touchLine c (a / 64)
        if r.2.1 = stOK then .val r.1 (lineRead r.2.2 (a % 64) n) else no r.1 r.2.1
      | some false =>
        if a = 0x30000024 && s.subPending (.col c) then .stay s
        else
          let r := s.busRead (.col c) n 0 a
          if r.2.1 = stOK then .val r.1 r.2.2.toNat else no r.1 r.2.1

/-- A store of the Grotto's column: its SRAM and its reply slots. -/
def State.grottoStore (s : State) (a n : Nat) (v : Word) : Load :=
  if a < 0x100000 then
    let r := s.ramWrite .grotto n 1 a (grottoKey a) v
    .val (if r.2 = stOK then r.1 else (r.1.hardSto 0x9A).modSproc 5 fun q => { q with refusal := some (r.2, a) }) 0
  else if 0x18002000 ≤ a && a < 0x18002500 then .val (s.ramWrite .grotto n 1 a a v).1 0
  else if 0x18000000 ≤ a && a < 0x18100000 then
    .val ((s.refuse .grotto stPERM 1 a).modSproc 5 fun q => { q with refusal := some (stPERM, a) }) 0
  else .bad (s.refuse .grotto stBAD_TARGET 1 a) stBAD_TARGET

/-- A store of `n` bytes by a Sornas-S processor. What is known when it executes traps precisely: misalignment, memory protection, an
address outside the memory map; any other refusal returns to the processor later (R154). -/
def State.sStore (s : State) (p : Proc) (a n : Nat) (v : Word) : Load :=
  let no (s : State) (st : Nat) : Load := .bad s st
  match p with
  | .cell _ => no s stBAD_TARGET
  | .grotto =>
    if a % n != 0 then no (s.refuse .grotto stBAD_TARGET 1 a) stBAD_TARGET
    else
      match s.mpu 5 a 1 with
      | none => no s stPERM
      | some _ => s.grottoStore a n v
  | .col c =>
    if a % n != 0 then no (s.refuse (.col c) stBAD_TARGET 1 a) stBAD_TARGET
    else
      match s.mpu (c.castLE (by decide)) a 1 with
      | none => no s stPERM
      | some true =>
        let r := s.touchLine c (a / 64)
        if r.2.1 = stOK then .val (r.1.modDcache c fun m => smSet m (a / 64) (lineWrite r.2.2 (a % 64) n v.toNat)) 0
        else .val (r.1.postBack (.col c) r.2.1 a) 0
      | some false =>
        if s.accessStatus (.col c) true a = stBAD_TARGET then no (s.refuse (.col c) stBAD_TARGET 1 a) stBAD_TARGET
        else
          let r := s.busWrite (.col c) n 1 a v
          let s1 := r.1.unmark p a
          .val (if r.2 = stOK then s1 else s1.postBack (.col c) r.2 a) 0

/-! ## LD, LDU, ST and LDSTX (R149 to R151) -/

/-- The fields of a memory access that a profile admits. -/
def memLegal (pf : Profile) (rd ra : BitVec 5) (wd : BitVec 2) (zero : Bool) : Bool :=
  isBase pf ra.toNat &&
    match pf, wd.toNat with
    | .c, 0 => isData .c rd.toNat
    | .c, 1 => isPair .c rd
    | .c, 2 => isAddr .c rd.toNat && !zero
    | .s, 0 | .s, 1 | .s, 2 => isData .s rd.toNat
    | _, _ => false

/-- base + offset, modulo the address space of the profile (R149). -/
def effAddr (pf : Profile) (k : Core) (ra : BitVec 5) (off : Int) : Nat :=
  match pf with
  | .c => pat 20 ((k.u .c ra.toNat : Nat) + off)
  | .s => pat 32 ((k.u .s ra.toNat : Nat) + off)

/-- A loaded value put into its register or pair. -/
def Core.putLoad (k : Core) (pf : Profile) (rd : BitVec 5) (wd : BitVec 2) (zero : Bool) (v : Nat) : Core :=
  match pf, wd.toNat with
  | .c, 1 => k.wrPair .c rd (v % 2 ^ 16 : Nat) (v / 2 ^ 16 : Nat)
  | .c, _ => k.wr .c rd.toNat v
  | .s, 0 => k.wr .s rd.toNat (if zero then (v : Int) else sx 8 v)
  | .s, 1 => k.wr .s rd.toNat (if zero then (v : Int) else sx 16 v)
  | .s, _ => k.wr .s rd.toNat v

/-- The value that a store takes from its register or pair. -/
def Core.getStore (k : Core) (pf : Profile) (rd : BitVec 5) (wd : BitVec 2) : Nat :=
  match pf, wd.toNat with
  | .c, 1 => k.u .c rd.toNat + 2 ^ 16 * k.u .c (rd.toNat + 1)
  | _, _ => k.u pf rd.toNat

/-- An access by a load. -/
def State.load (s : State) (p : Proc) (a : Nat) (wd : BitVec 2) : Load :=
  match p with
  | .cell c => s.cellLoad c a (wd != 0)
  | .col _ | .grotto => s.sLoad p a (2 ^ wd.toNat)

/-- An access by a store. -/
def State.store (s : State) (p : Proc) (a : Nat) (wd : BitVec 2) (v : Nat) : Load :=
  match p with
  | .cell c => s.cellStore c a (wd != 0) v
  | .col _ | .grotto => s.sStore p a (2 ^ wd.toNat) (BitVec.ofNat 32 v)

/-- A load instruction: the access at `ea`, and the base register left at `upd`. -/
def State.runLoad (s : State) (p : Proc) (w : Word) (gd : BitVec 3) (rd ra : BitVec 5) (wd : BitVec 2) (zero legal : Bool)
    (ea : Core → Nat) (upd : Option Int) : State :=
  let pf := profileOf p
  s.runMem p w gd (memLegal pf rd ra wd zero && legal) false fun s =>
    let a := ea (s.coreOf p)
    match s.load p a wd with
    | .val s1 v => .done (s1.modCores p fun k =>
        let k1 := match upd with
          | some d => k.wr pf ra.toNat (effAddr pf k ra d : Nat)
          | none => k
        k1.putLoad pf rd wd zero v)
    | .stay s1 => .stay s1
    | .bad s1 st => .trap s1 (.access st a)

/-- A store instruction: the access at `ea`, and the base register left at `upd`. The data are read before the base is modified. -/
def State.runStore (s : State) (p : Proc) (w : Word) (gd : BitVec 3) (rd ra : BitVec 5) (wd : BitVec 2) (legal : Bool)
    (ea : Core → Nat) (upd : Option Int) : State :=
  let pf := profileOf p
  let s1 := s.runMem p w gd (memLegal pf rd ra wd false && legal) false fun s =>
    let a := ea (s.coreOf p)
    match s.store p a wd ((s.coreOf p).getStore pf rd wd) with
    | .val s1 _ => .done (match upd with
        | some d => s1.modCores p fun k => k.wr pf ra.toNat (effAddr pf k ra d : Nat)
        | none => s1)
    | .stay s1 => .stay s1
    | .bad s1 st => .trap s1 (.access st a)
  s1.twinCheck s p fun k => k.out gd [ea k, k.getStore pf rd wd]

/-- LD (R149). -/
def execLd (p : Proc) (gd : BitVec 3) (rd ra : BitVec 5) (wd : BitVec 2) (imm : BitVec 11) (s : State) :
    Host.Outcome State Fault Refusal :=
  ok (s.runLoad p (encM 0x10 gd rd ra wd imm) gd rd ra wd false true (fun k => effAddr (profileOf p) k ra (immS imm)) none)

/-- LDU (R149). -/
def execLdu (p : Proc) (gd : BitVec 3) (rd ra : BitVec 5) (wd : BitVec 2) (imm : BitVec 11) (s : State) :
    Host.Outcome State Fault Refusal :=
  ok (s.runLoad p (encM 0x11 gd rd ra wd imm) gd rd ra wd true true (fun k => effAddr (profileOf p) k ra (immS imm)) none)

/-- ST (R149). -/
def execSt (p : Proc) (gd : BitVec 3) (rd ra : BitVec 5) (wd : BitVec 2) (imm : BitVec 11) (s : State) :
    Host.Outcome State Fault Refusal :=
  ok (s.runStore p (encM 0x12 gd rd ra wd imm) gd rd ra wd true (fun k => effAddr (profileOf p) k ra (immS imm)) none)

/-- The address of LDSTX: the base, or the new base with MD = 1 (R151). -/
def stepAddr (pf : Profile) (k : Core) (ra : BitVec 5) (md : BitVec 2) (imm : BitVec 8) : Nat :=
  effAddr pf k ra (if md = 1 then immS imm else 0)

/-- LDSTX with S = 0 (R151). -/
def execLdstxLoad (p : Proc) (gd : BitVec 3) (rd ra : BitVec 5) (wd md : BitVec 2) (imm : BitVec 8) (s : State) :
    Host.Outcome State Fault Refusal :=
  ok (s.runLoad p (encX 0x13 gd rd ra 0 wd md imm) gd rd ra wd false (md.toNat < 2 && rd != ra)
    (fun k => stepAddr (profileOf p) k ra md imm) (some (immS imm)))

/-- LDSTX with S = 1 (R151). -/
def execLdstxStore (p : Proc) (gd : BitVec 3) (rd ra : BitVec 5) (wd md : BitVec 2) (imm : BitVec 8) (s : State) :
    Host.Outcome State Fault Refusal :=
  ok (s.runStore p (encX 0x13 gd rd ra 1 wd md imm) gd rd ra wd (md.toNat < 2)
    (fun k => stepAddr (profileOf p) k ra md imm) (some (immS imm)))

end Sys2Proof.Machine
end

