-- ==== Sys2Proof/Machine/SornasLong.lean ====
section
/-! DEFINITION. The control operations of a cell that reach memory or wait: BLKMAC, MOVB and FILLB with progress in ix, CKPT,
SUBMIT, WAIT and the fences (R185 to R202). -/

namespace Sys2Proof.Machine

/-! ## BLKMAC, MOVB and FILLB (R185 to R189) -/

/-- Operand RAM or block memory, the only places BLKMAC and MOVB may use (R187). -/
def longPlace (c : Fin 128) (w : Nat) : Bool :=
  match cellPlace (c.val / 8) w with
  | .ram _ | .block _ => true
  | .port _ _ | .page _ | .nowhere => false

/-- A word read by an element. -/
def State.longLoad (s : State) (c : Fin 128) (w : Nat) : Load :=
  if longPlace c w then s.cellLoad c w false else .bad (s.cellBad c 0 w) stBAD_TARGET

/-- A word written by an element. -/
def State.longStore (s : State) (c : Fin 128) (w v : Nat) : Load :=
  if longPlace c w then s.cellStore c w false v else .bad (s.cellBad c 1 w) stBAD_TARGET

/-- ix of a cell. -/
def State.ix (s : State) (c : Fin 128) : Nat := (s.coreOf (.cell c)).prog.toNat % 2 ^ 16

/-- ix written. -/
def State.setIx (s : State) (c : Fin 128) (i : Nat) : State :=
  s.modCores (.cell c) fun k => { k with prog := BitVec.ofNat 32 (i % 2 ^ 16) }

/-- The elements of BLKMAC from element ix on (R185); after `most` of them it gives way at an element boundary (R188). V is that of
this execution: the first element starts it anew. -/
def State.blkmac (c : Fin 128) (aa : BitVec 2) (ax ay n : Nat) (ydir : Bool) : (most : Nat) → State → MemRes
  | 0, s => if n ≤ s.ix c then .done (s.setIx c 0) else .stay s
  | most + 1, s =>
    let i := s.ix c
    let wx := (ax + i) % 2 ^ 20
    let wy := if ydir then (ay + 2 ^ 20 - i) % 2 ^ 20 else (ay + i) % 2 ^ 20
    if n ≤ i then .done (s.setIx c 0)
    else
      match s.longLoad c wx with
      | .stay s1 => .stay s1
      | .bad s1 st => .trap s1 (.access st wx)
      | .val s1 x =>
        match s1.longLoad c wy with
        | .stay s2 => .stay s2
        | .bad s2 st => .trap s2 (.access st wy)
        | .val s2 y =>
          let s3 := s2.modCores (.cell c) fun k =>
            let r := k.sat 40 (k.a aa.toNat + 2 * sx 16 x * sx 16 y)
            (r.1.vf (i != 0 && k.stb 3 || r.1.stb 3)).wrA aa.toNat r.2
          State.blkmac c aa ax ay n ydir most (((s3.setIx c (i + 1)).pmcCount c 0x0B).pmcCount c 0x0A)

/-- BLKMAC (R185, R187 to R189): FN[7:4] names the count register, FN[0] is YDIR. `most`: elements it runs before it gives way. -/
def execBlkmac (p : Proc) (gd : BitVec 3) (aa ab : BitVec 2) (ra rb : BitVec 5) (fn : BitVec 8) (most : BitVec 16) (s : State) :
    Host.Outcome State Fault Refusal :=
  ok (match p with
    | .cell c =>
      let legal := ab == 0 && isAddr .c ra.toNat && isAddr .c rb.toNat && fn.toNat / 2 % 8 == 0
      s.runMem p (encA 0x26 gd aa ab ra rb fn.toNat) gd legal (s.ix c != 0) fun s =>
        let k := s.coreOf p
        let n := k.u .c (fn.toNat / 16)
        match s.blkmac c aa (k.u .c ra.toNat) (k.u .c rb.toNat) n (fn.getLsbD 0) most.toNat with
        | .done s1 =>
          let s2 := if s.ix c = 0 ∧ n = 0 then s1.modCores p (·.vf false) else s1
          .done (if (s2.coreOf p).stb 3 && k.satEn then s2.pmcCount c 9 else s2)
        | r => r
    | .col _ | .grotto => s.runMem p (encA 0x26 gd aa ab ra rb fn.toNat) gd false false .done)

/-- The elements of MOVB or FILLB from element ix on (R186). -/
def State.movb (c : Fin 128) (ad as_ n : Nat) (fill : Bool) : (most : Nat) → State → MemRes
  | 0, s => if n ≤ s.ix c then .done (s.setIx c 0) else .stay s
  | most + 1, s =>
    let i := s.ix c
    let ws := if fill then as_ else (as_ + i) % 2 ^ 20
    let wd := (ad + i) % 2 ^ 20
    if n ≤ i then .done (s.setIx c 0)
    else
      match s.longLoad c ws with
      | .stay s1 => .stay s1
      | .bad s1 st => .trap s1 (.access st ws)
      | .val s1 v =>
        match s1.longStore c wd v with
        | .stay s2 => .stay s2
        | .bad s2 st => .trap s2 (.access st wd)
        | .val s2 _ => State.movb c ad as_ n fill most ((s2.setIx c (i + 1)).pmcCount c 0x0B)

/-- MOVB or FILLB. -/
def State.runMovb (s : State) (p : Proc) (gd : BitVec 3) (rd ra rb : BitVec 5) (fill : Bool) (most : BitVec 16) : State :=
  let w := encR 0x27 gd rd ra rb (b2n fill)
  match p with
  | .cell c =>
    let legal := isAddr .c rd.toNat && isAddr .c ra.toNat && isData .c rb.toNat
    let s1 := s.runMem p w gd legal (s.ix c != 0) fun s =>
      let k := s.coreOf p
      s.movb c (k.u .c rd.toNat) (k.u .c ra.toNat) (k.u .c rb.toNat) fill most.toNat
    s1.twinCheck s p fun k => k.out gd [k.u .c rd.toNat, k.u .c ra.toNat, k.u .c rb.toNat, k.prog.toNat]
  | .col _ | .grotto => s.runMem p w gd false false .done

/-- MOVB (R186). -/
def execMovb (p : Proc) (gd : BitVec 3) (rd ra rb : BitVec 5) (most : BitVec 16) (s : State) :
    Host.Outcome State Fault Refusal := ok (s.runMovb p gd rd ra rb false most)

/-- FILLB (R186). -/
def execFillb (p : Proc) (gd : BitVec 3) (rd ra rb : BitVec 5) (most : BitVec 16) (s : State) :
    Host.Outcome State Fault Refusal := ok (s.runMovb p gd rd ra rb true most)

/-! ## CKPT (R190, R191, R216) -/

/-- The first address that CKPT refuses: a data word outside operand RAM, or a resume address beyond 12 bits (R191). -/
def ckptBad (as_ n : Nat) (resume : Option Nat) : Option Nat :=
  match ((List.range n).map fun i => (as_ + i) % 2 ^ 20).find? (0x1000 ≤ ·) with
  | some w => some w
  | none =>
    match resume with
    | some a => if 0x1000 ≤ a then some a else none
    | none => none

/-- A word of a record written. -/
def State.ckptWord (s : State) (c : Fin 128) (r i : Nat) (v : Half) : State :=
  (s.eccClear (flowBase (c.val / 8) + 4 * (128 * (c.val % 8) + 64 * r + i / 2))).setFlow c r i v

/-- The write of a record fails: an ECC word that it covers only in part at a time holds an uncorrectable error — that of the header,
written last, and that of an odd last data word. -/
def State.ckptFails (s : State) (c : Fin 128) (r n : Nat) : Bool :=
  let bad (i : Nat) : Bool := s.eccOf (flowBase (c.val / 8) + 4 * (128 * (c.val % 8) + 64 * r + i / 2)) == 2
  bad 0 || n % 2 == 1 && bad (63 + n)

/-- CKPT writes the inactive record, the header last, and makes it the active one (R190): the state and the generation. -/
def State.checkpoint (s : State) (c : Fin 128) (k : Core) (pc as_ n : Nat) (data : List Half) : State × Nat :=
  let r := match s.activeRecord c with
    | some 0 => 1
    | _ => 0
  if s.ckptFails c r n then (s, 0xFFFE)
  else
    let gen := ((vget s.lcell c).clGen.toNat + 1) % 256
    let s1 := (List.range 63).foldl (fun s i =>
      let j := i + 1
      s.ckptWord c r j (if j = 58 then BitVec.ofNat 16 (as_ % 0x1000) else if j < 58 then coreFlow k pc j else 0)) s
    let s2 := (List.range n).foldl (fun s i => s.ckptWord c r (64 + i) (data[i]?.getD 0)) s1
    let s3 := (s2.ckptWord c r 0 (BitVec.ofNat 16 (gen * 256 + n * 4 + 1))).setGen c gen
    ((s3.modCell c fun l => { l with ckAt := s.tick }).pmcCount c 0x0F, gen)

/-- CKPT (R190, R191): FN[7:2] = N, FN[0] = RSEL. -/
def execCkpt (p : Proc) (gd : BitVec 3) (rd ra rb : BitVec 5) (fn : BitVec 8) (s : State) :
    Host.Outcome State Fault Refusal :=
  ok (let w := encR 0x28 gd rd ra rb fn.toNat
    let n := fn.toNat / 4
    match p with
    | .cell c =>
      let legal := isData .c rd.toNat && !fn.getLsbD 1 && (if n = 0 then ra == 0 else isAddr .c ra.toNat) &&
        (if fn.getLsbD 0 then isAddr .c rb.toNat else rb == 0)
      let s1 := s.runMem p w gd legal false fun s =>
        let k := s.coreOf p
        let as_ := if n = 0 then 0 else k.u .c ra.toNat
        let resume := if fn.getLsbD 0 then some (k.u .c rb.toNat) else none
        let out (s : State) (v : Nat) : MemRes := .done (s.modCores p fun k => k.wr .c rd.toNat v)
        if k.stb 14 || k.stb 13 then out s 0xFFFD
        else
          match ckptBad as_ n resume with
          | some a => .trap (s.cellBad c 0 a) (.access stBAD_TARGET a)
          | none =>
            if !s.bit CELL_CFG c.val CELL_CFG_FLOW then out s 0xFFFF
            else
              let base := cellWin (s.physIx c).val + 0x4000 + 2 * as_
              match ((List.range n).map fun i => base + 2 * i).find? fun a => s.eccOf a == 2 with
              | some a => .stay (s.ramStop c a)
              | none =>
                let data := (List.range n).map fun i => memHalf s.mem (base + 2 * i)
                let s0 := (List.range n).foldl (fun s i => s.eccCorrect (base + 2 * i)) s
                let r := s0.checkpoint c k (resume.getD (pcAdd .c k.pc 1).toNat) as_ n data
                out r.1 r.2
      s1.twinCheck s p fun k =>
        k.out gd ((List.range 57).map fun i => (coreFlow k k.pc.toNat (i + 1)).toNat)
    | .col _ | .grotto => s.runMem p w gd false false .done)

/-! ## SUBMIT (R192, R193) -/

/-- SUBMIT (R192): FN[0] = ORDERED, FN[1] = WAIT. The image travels as one entry of the write buffer. -/
def execSubmit (p : Proc) (gd : BitVec 3) (rd ra rb : BitVec 5) (fn : BitVec 8) (s : State) :
    Host.Outcome State Fault Refusal :=
  ok (let w := encR 0x29 gd rd ra rb fn.toNat
    let wait := fn.getLsbD 1
    match p with
    | .cell c =>
      let legal := isAddr .c ra.toNat && rb == 0 && fn.toNat < 4 && (if wait then isPair .c rd else rd == 0)
      let s1 := s.runMem p w gd legal false fun s =>
        let a := (s.coreOf p).u .c ra.toNat
        if a % 2 = 1 || 0x1000 < a + 8 then .trap (s.cellBad c 0 a) (.access stBAD_TARGET a)
        else
          let base := cellWin (s.physIx c).val + 0x4000 + 2 * a
          match ((List.range 8).map fun i => base + 2 * i).find? fun b => s.eccOf b == 2 with
          | some b => .stay (s.ramStop c b)
          | none =>
            let word (i : Nat) : Word := memWord s.mem (base + 4 * i)
            let s0 := (List.range 8).foldl (fun s i => s.eccCorrect (base + 2 * i)) s
            let s1 := (s0.post c (.submit (word 0) (word 1) (word 2) (word 3) (fn.getLsbD 0) wait)).unmark p 0x30000020
            if wait then .stay ((s1.setWait p (.decision rd.toNat)).pmc p 1 1) else .done s1
      s1.twinCheck s p fun k => k.out gd [k.u .c ra.toNat]
    | .col _ | .grotto => s.runMem p w gd false false .done)

/-! ## WAIT (R194) -/

/-- WAIT with P = `pop`: `fn` holds FN[7:1], its bit 0 being T. -/
def State.runWait (s : State) (p : Proc) (gd : BitVec 3) (rd ra rb : BitVec 5) (fn : BitVec 7) (pop : Bool) : State :=
  let w := encR 0x2A gd rd ra rb (2 * fn.toNat + b2n pop)
  let timed := fn.getLsbD 0
  match p with
  | .cell c =>
    let legal := fn.toNat < 2 && rb == 0 && (if timed then isData .c ra.toNat else ra == 0) &&
      (if pop then isData .c rd.toNat else rd == 0)
    let s1 := s.runMem p w gd legal false fun s =>
      let ph := vget s.phys (s.physIx c)
      let limit := if timed then some (ph.core.u .c ra.toNat) else none
      match ph.fifo with
      | e :: _ =>
        if pop then
          .done (((s.modCopies c fun ph =>
            { ph with fifo := ph.fifo.drop 1, core := { ph.core.wr .c rd.toNat e.vec with ev := e.payload } }).pmcCount c 7).notifyRetry)
        else .done s
      | [] =>
        if limit = some 0 then .done (if pop then s.modCores p fun k => k.wr .c rd.toNat 0xFFFF else s)
        else .stay (s.setWait p (.sleep pop rd.toNat (limit.map (s.tick + ·))))
    s1.twinCheck s p fun k => k.out gd [k.pc.toNat]
  | .col _ | .grotto => s.runMem p w gd false false .done

/-- WAIT with P = 0 (R194). -/
def execWait (p : Proc) (gd : BitVec 3) (rd ra rb : BitVec 5) (fn : BitVec 7) (s : State) :
    Host.Outcome State Fault Refusal := ok (s.runWait p gd rd ra rb fn false)

/-- WAIT with P = 1 (R194). -/
def execWaitp (p : Proc) (gd : BitVec 3) (rd ra rb : BitVec 5) (fn : BitVec 7) (s : State) :
    Host.Outcome State Fault Refusal := ok (s.runWait p gd rd ra rb fn true)

/-! ## Fences (R199 to R202) -/

/-- A buffered write holds a fence of scope 0 B, 1 R, 2 C (R199): as long as one that does is in the buffer, those ahead of it are
too. -/
def fenceHolds (scope : Nat) (e : WbufEntry) : Bool :=
  match e with
  | .mem _ _ _ => true
  | .reg a _ _ => scope == 2 || scope == 1 && a < 0x30000000
  | .submit _ _ _ _ _ _ => scope == 2

/-- A fence of a cell may complete: every write of its scope has been performed, and no refusal waits (R46, R201). -/
def State.fenceClear (s : State) (c : Fin 128) (scope : Nat) : Bool :=
  !(s.wbufOf c).any (fenceHolds scope) && (vget s.phys (s.physIx c)).refusal.isNone

/-- A fence with FN 0 to 2. A Sornas-S processor's stores have been performed when it executes a fence. -/
def State.runFence (s : State) (p : Proc) (gd : BitVec 3) (rd ra rb : BitVec 5) (scope : Nat) : State :=
  s.runMem p (encR 0x2B gd rd ra rb scope) gd (rd == 0 && ra == 0 && rb == 0) false fun s =>
    match p with
    | .cell c => if s.fenceClear c scope then .done s else .stay (s.setWait p (.fence scope))
    | .col _ | .grotto => .done s

/-- FENCE.B (R199, R202). -/
def execFenceB (p : Proc) (gd : BitVec 3) (rd ra rb : BitVec 5) (s : State) : Host.Outcome State Fault Refusal :=
  ok (s.runFence p gd rd ra rb 0)
/-- FENCE.R (R199, R202). -/
def execFenceR (p : Proc) (gd : BitVec 3) (rd ra rb : BitVec 5) (s : State) : Host.Outcome State Fault Refusal :=
  ok (s.runFence p gd rd ra rb 1)
/-- FENCE.C (R199, R202). -/
def execFenceC (p : Proc) (gd : BitVec 3) (rd ra rb : BitVec 5) (s : State) : Host.Outcome State Fault Refusal :=
  ok (s.runFence p gd rd ra rb 2)

/-- FENCE.E (R200): the next submission, GO or PROD is marked. -/
def execFenceE (p : Proc) (gd : BitVec 3) (rd ra rb : BitVec 5) (s : State) : Host.Outcome State Fault Refusal :=
  ok (s.runMem p (encR 0x2B gd rd ra rb 3) gd (rd == 0 && ra == 0 && rb == 0) false fun s =>
    .done (match p with
      | .cell c => s.modCopies c fun ph => { ph with fenceE := true }
      | .col _ | .grotto => s.modSproc (sIndex p) fun q => { q with fenceE := true }))

/-- FENCE_COMPLETE (R46): every earlier write of the waiting fence's scope is visible. -/
def execFenceComplete (p : Proc) (s : State) : Host.Outcome State Fault Refusal :=
  ok (match p, s.waitOf p with
    | .cell c, .fence scope => if s.alive p && s.fenceClear c scope then (s.setWait p .run).retire p else s
    | _, _ => s)

end Sys2Proof.Machine
end

