-- ==== Sys2Proof/Machine/Columns.lean ====
section
/-! DEFINITION. The supervisor operations of the columns (R450 to R463), their interrupts (R454 to R456), lockstep and confirmed
aliases (R405 to R411), watchdog and restart (R476, R477). -/

namespace Sys2Proof.Machine

/-- The Sornas-S processor with index `i`. -/
def procAt (i : Fin 6) : Proc := if h : i.val < 5 then .col ⟨i.val, h⟩ else .grotto

/-- A supervisor operation (R450, R459): Sornas-S only, PRIV in user mode where `user` does not admit it. -/
def State.runSup (s : State) (p : Proc) (w : Word) (gd : BitVec 3) (legal resume user : Bool) (act : State → MemRes) : State :=
  s.runMem p w gd (profileOf p == .s && legal) resume fun s =>
    if (s.coreOf p).stb 31 || user then act s else .trap s .priv

/-! ## CSRs (R452, R453) -/

/-- The CSR numbers. -/
def csrKnown (n : Nat) : Bool :=
  sprLegal .s n false || (0x020 ≤ n && n ≤ 0x02C) || (0x300 ≤ n && n ≤ 0x320) || n == 0xC00 || n == 0xC01 ||
    (0xC10 ≤ n && n ≤ 0xC28)

/-- A CSR read. -/
def State.csrRead (s : State) (i : Fin 6) (n : Nat) : Word :=
  let q := vget s.sproc i
  let cyc := s.colTick - q.cycAt
  if n < 0x014 then BitVec.ofNat 32 (q.core.spr .s n)
  else if n = 0x022 then s.ipend i
  else if n = 0x029 then BitVec.ofNat 32 i.val
  else if n = 0x02C then 0
  else if n = 0xC00 then BitVec.ofNat 32 cyc
  else if n = 0xC01 then BitVec.ofNat 32 (cyc / 2 ^ 32)
  else smGet 0 q.csr n

/-- The bits a CSR keeps of a write; a RO or WO CSR keeps none. -/
def csrMask (n : Nat) : Word :=
  if n = 0x020 then 0xFFFFFF00
  else if n = 0x021 then 0xF
  else if n = 0x022 || n = 0x029 || n = 0x02C || n = 0xC00 || n = 0xC01 then 0
  else if 0x024 ≤ n && n ≤ 0x027 then 0x77777777
  else if 0x300 ≤ n && n < 0x320 then (if n % 2 = 0 then 0xFFFFF800 else 0xFFFFF07F)
  else if n = 0x320 then 1
  else if 0xC10 ≤ n && n < 0xC20 then (if n % 2 = 0 then 0xFFFFFFFF else 0xFFFF)
  else if 0xC20 ≤ n && n < 0xC28 then 0x800F00FF
  else if n = 0xC28 then 0x00FF0000
  else 0xFFFFFFFF

/-- SWI written (R452): source 0x3F is raised in each column named; the Grotto's column is no sender it could show. -/
def State.raiseSwi (s : State) (i : Fin 6) (v : Word) : State :=
  if i.val = 5 then s
  else
    (List.range 5).foldl (fun s n =>
      if v.getLsbD n then s.modSproc (Fin.ofNat 6 n) fun q => { q with swi := q.swi ||| (1#5 <<< i.val) } else s) s

/-- A column may select chamber `c` (R466). -/
def State.maySelect (s : State) (i : Fin 6) (c : Nat) : Bool :=
  decide (i.val < 5) && s.chActive c && bitN (s.fld FAB_CH_CFG c FAB_CH_CFG_COLMASK) i.val

/-- A CSR written. -/
def State.csrWrite (s : State) (i : Fin 6) (n : Nat) (v : Word) : State :=
  if n < 0x014 then s.modSproc i fun q => { q with core := q.core.setSpr .s n v.toNat }
  else if n = 0x02C then s.raiseSwi i v
  else
    s.modSproc i fun q =>
      let w := if n = 0xC28 then (smGet 0 q.csr n &&& ~~~v &&& 0xFF) ||| (v &&& csrMask n) else v &&& csrMask n
      if csrMask n = 0 then q else { q with csr := smSet q.csr n w }

/-- A CSR operation: `upd` gives the value written from the old value and RA. A write of CURCH that R466 does not admit raises ACCESS
with PERM. -/
def State.runCsr (s : State) (p : Proc) (op : Nat) (gd : BitVec 3) (rd ra : BitVec 5) (imm : BitVec 13) (legal : Bool)
    (upd : Option (Word → Word → Word)) : State :=
  let i := sIndex p
  let n := imm.toNat % 2 ^ 12
  let user := upd.isNone && decide (0xC00 ≤ n) && decide (n ≤ 0xC1F) &&
    s.fld FAB_CH_CFG ((smGet 0 (vget s.sproc i).csr 0x21).toNat % 16) FAB_CH_CFG_PERF_USER == 1
  s.runSup p (encI op gd rd ra imm.toNat) gd (legal && !imm.getLsbD 12 && csrKnown n) false user fun s =>
    let old := s.csrRead i n
    let src : Word := BitVec.ofNat 32 ((s.coreOf p).u .s ra.toNat)
    let s1 := s.modCores p fun k => k.wr .s rd.toNat old.toNat
    match upd with
    | none => .done s1
    | some f =>
      let v := f old src
      if n = 0x021 && !s.maySelect i (v.toNat % 16) then .trap s (.access stPERM n)
      else .done (s1.csrWrite i n v)

/-- CSRR (R453). -/
def execCsrr (p : Proc) (gd : BitVec 3) (rd ra : BitVec 5) (imm : BitVec 13) (s : State) : Host.Outcome State Fault Refusal :=
  ok (s.runCsr p 0x30 gd rd ra imm (ra == 0) none)

/-- CSRW (R453). -/
def execCsrw (p : Proc) (gd : BitVec 3) (rd ra : BitVec 5) (imm : BitVec 13) (s : State) : Host.Outcome State Fault Refusal :=
  ok (s.runCsr p 0x31 gd rd ra imm true (some fun _ r => r))

/-- CSRS (R453). -/
def execCsrs (p : Proc) (gd : BitVec 3) (rd ra : BitVec 5) (imm : BitVec 13) (s : State) : Host.Outcome State Fault Refusal :=
  ok (s.runCsr p 0x32 gd rd ra imm true (some fun c r => c ||| r))

/-- CSRC (R453). -/
def execCsrc (p : Proc) (gd : BitVec 3) (rd ra : BitVec 5) (imm : BitVec 13) (s : State) : Host.Outcome State Fault Refusal :=
  ok (s.runCsr p 0x33 gd rd ra imm true (some fun c r => c &&& ~~~r))

/-- CURCH_WRITE (R466): CSRW of CURCH. -/
def execCurchWrite (p : Proc) (gd : BitVec 3) (rd ra : BitVec 5) (s : State) : Host.Outcome State Fault Refusal :=
  ok (s.runCsr p 0x31 gd rd ra 0x021 true (some fun _ r => r))

/-- SWI (R452): CSRW of SWI. -/
def execSwi (p : Proc) (gd : BitVec 3) (rd ra : BitVec 5) (s : State) : Host.Outcome State Fault Refusal :=
  ok (s.runCsr p 0x31 gd rd ra 0x02C true (some fun _ r => r))

/-! ## Interrupts (R455, R456) -/

/-- Entry to source 0x20 + `j`: a Gallery line is freed, the software interrupt cleared (R454). -/
def State.enterSource (s : State) (i : Fin 6) (j : Nat) : State :=
  let tval : Word := BitVec.ofNat 32 ((s.irqPending i j).getD 0)
  let lvl := s.irqLevel i j
  let cv := s.cvec i
  let s1 := s.modSproc i fun q =>
    { q with core := q.core.takeInterrupt cv (0x20 + j) tval lvl, wait := .run
             lines := if j < 16 then q.lines.set! j none else q.lines
             swi := if j = 31 then 0 else q.swi }
  (if j < 16 then s1.notifyRetry else s1).pmc (procAt i) 0 8

/-- INTERRUPT_ENTRY (R455, R456): the boundary at which a column takes a source that qualifies; one asleep in WFI with IE = 0 goes on
(R459). A refusal of a posted store that has arrived is taken first (R171). -/
def execInterruptEntry (p : Proc) (s : State) : Host.Outcome State Fault Refusal :=
  ok (match p with
    | .cell _ => s
    | .col _ | .grotto =>
      let i := sIndex p
      let q := vget s.sproc i
      let awake : Bool := q.wait == .run || q.wait == .wfi
      match s.irqNext i with
      | some j =>
        if !s.alive p || !awake || q.refusal.isSome then s
        else if q.core.stb 15 then s.enterSource i j
        else s.setWait p .run
      | none => s)

/-- WFI (R459): the program counter moves on, and the column sleeps until a source qualifies with IE taken as 1. -/
def execWfi (p : Proc) (gd : BitVec 3) (rd ra rb : BitVec 5) (fn : Byte) (s : State) : Host.Outcome State Fault Refusal :=
  ok (s.runSup p (encR 0x38 gd rd ra rb fn.toNat) gd (rd == 0 && ra == 0 && rb == 0 && fn == 0) false false fun s =>
    if (s.irqNext (sIndex p)).isSome then .done s else .stay ((s.retire p).setWait p .wfi))

/-- TIMER_COMPARE (R454): TIME has reached TMRCMP; where the source qualifies, WFI or DOZE ends. -/
def execTimerCompare (i : Fin 6) (s : State) : Host.Outcome State Fault Refusal :=
  ok (if !s.irqQualifies i 28 then s
    else
      let s1 := if s.waitOf (procAt i) == .wfi then s.setWait (procAt i) .run else s
      match s.power.phase with
      | .doze => if i.val < 5 then s1.endRequest stOK 0 0 else s1
      | _ => s1)

/-! ## Cache operations (R462) -/

/-- A CACHE function: `act` on the column and the address in RA. The Grotto's column has no cache. -/
def State.runCache (s : State) (p : Proc) (gd : BitVec 3) (rd ra rb : BitVec 5) (fn : Nat) (whole : Bool)
    (act : Fin 5 → Nat → State → MemRes) : State :=
  let k := s.coreOf p
  s.runSup p (encR 0x34 gd rd ra rb fn) gd (rd == 0 && rb == 0 && (!whole || ra == 0)) (whole && fn == 4 && k.prog != 0) false fun s =>
    match p with
    | .col c => act c (k.u .s ra.toNat) s
    | .cell _ | .grotto => .done s

/-- CACHE FN 0x00: the data line is lost. -/
def execCacheInvalidateLine (p : Proc) (gd : BitVec 3) (rd ra rb : BitVec 5) (s : State) : Host.Outcome State Fault Refusal :=
  ok (s.runCache p gd rd ra rb 0 false fun c a s => .done (s.modDcache c (smDrop (· == a / 64))))

/-- CACHE FN 0x01: a dirty data line is written back. -/
def execCacheWritebackLine (p : Proc) (gd : BitVec 3) (rd ra rb : BitVec 5) (s : State) : Host.Outcome State Fault Refusal :=
  ok (s.runCache p gd rd ra rb 1 false fun c a s => .done (match s.dline c (a / 64) with
    | some l => s.writeBack c (a / 64) l
    | none => s))

/-- CACHE FN 0x02: written back and invalidated. -/
def execCacheFlushLine (p : Proc) (gd : BitVec 3) (rd ra rb : BitVec 5) (s : State) : Host.Outcome State Fault Refusal :=
  ok (s.runCache p gd rd ra rb 2 false fun c a s => .done (s.evictLine c (a / 64)))

/-- CACHE FN 0x03: the instruction line is lost. -/
def execCacheInvalidateIline (p : Proc) (gd : BitVec 3) (rd ra rb : BitVec 5) (s : State) : Host.Outcome State Fault Refusal :=
  ok (s.runCache p gd rd ra rb 3 false fun c a s => .done (s.modSproc (c.castLE (by decide)) fun q =>
    { q with icache := smDrop (· == a / 64) q.icache }))

/-- The lines of the data cache, written back and invalidated one by one; after `most` of them the instruction gives way. -/
def State.flushAll (c : Fin 5) : (most : Nat) → State → MemRes
  | 0, s =>
    if (vget s.sproc (c.castLE (by decide))).dcache.isEmpty then .done (s.modCores (.col c) fun k => { k with prog := 0 }) else .stay s
  | most + 1, s =>
    match (vget s.sproc (c.castLE (by decide))).dcache with
    | [] => .done (s.modCores (.col c) fun k => { k with prog := 0 })
    | e :: _ => State.flushAll c most (((s.evictLine c e.1).modCores (.col c) fun k => { k with prog := k.prog + 1 }).pmc (.col c) 0 0x0C)

/-- CACHE FN 0x04: the whole data cache, at line boundaries, with progress in xprog. -/
def execCacheFlushData (p : Proc) (gd : BitVec 3) (rd ra rb : BitVec 5) (most : BitVec 10) (s : State) :
    Host.Outcome State Fault Refusal :=
  ok (s.runCache p gd rd ra rb 4 true fun c _ s => s.flushAll c most.toNat)

/-- CACHE FN 0x05: the whole instruction cache is lost. -/
def execCacheInvalidateInstr (p : Proc) (gd : BitVec 3) (rd ra rb : BitVec 5) (s : State) : Host.Outcome State Fault Refusal :=
  ok (s.runCache p gd rd ra rb 5 true fun c _ s => .done (s.modSproc (c.castLE (by decide)) fun q => { q with icache := [] }))

/-! ## BMOV, SAVEM and RESTM (R460, R461) -/

/-- xprog of a processor. -/
def State.xprog (s : State) (p : Proc) : Nat := (s.coreOf p).prog.toNat

/-- xprog written. -/
def State.setXprog (s : State) (p : Proc) (i : Nat) : State := s.modCores p fun k => { k with prog := BitVec.ofNat 32 i }

/-- The elements of a long instruction from xprog on: `elem i` performs element i; after `most` of them the instruction gives way. -/
def State.longRun (p : Proc) (n : Nat) (elem : Nat → State → MemRes) : (most : Nat) → State → MemRes
  | 0, s => if n ≤ s.xprog p then .done (s.setXprog p 0) else .stay s
  | most + 1, s =>
    if n ≤ s.xprog p then .done (s.setXprog p 0)
    else
      match elem (s.xprog p) s with
      | .done s1 => State.longRun p n elem most ((s1.setXprog p (s.xprog p + 1)).pmc p 0 0x0C)
      | r => r

/-- One word copied from `a` to `b`. -/
def State.moveWord (s : State) (p : Proc) (a b : Nat) : MemRes :=
  match s.sLoad p a 4 with
  | .stay s1 => .stay s1
  | .bad s1 st => .trap s1 (.access st a)
  | .val s1 v =>
    match s1.sStore p b 4 (BitVec.ofNat 32 v) with
    | .val s2 _ => .done s2
    | .stay s2 => .stay s2
    | .bad s2 st => .trap s2 (.access st b)

/-- BMOV with FN `fill` (R460). -/
def State.runBmov (s : State) (p : Proc) (gd : BitVec 3) (rd ra rb : BitVec 5) (fill : Bool) (most : BitVec 16) : State :=
  s.runSup p (encR 0x35 gd rd ra rb (b2n fill)) gd true (s.xprog p != 0) false fun s =>
    let k := s.coreOf p
    let a := k.u .s ra.toNat
    let b := k.u .s rd.toNat
    s.longRun p (k.u .s rb.toNat) (fun i s => s.moveWord p (if fill then a else (a + 4 * i) % 2 ^ 32) ((b + 4 * i) % 2 ^ 32)) most.toNat

/-- BMOV FN 0x00. -/
def execBmov (p : Proc) (gd : BitVec 3) (rd ra rb : BitVec 5) (most : BitVec 16) (s : State) :
    Host.Outcome State Fault Refusal := ok (s.runBmov p gd rd ra rb false most)

/-- BMOV FN 0x01. -/
def execBmovFill (p : Proc) (gd : BitVec 3) (rd ra rb : BitVec 5) (most : BitVec 16) (s : State) :
    Host.Outcome State Fault Refusal := ok (s.runBmov p gd rd ra rb true most)

/-- SAVEM (R460): registers RD to RB, or the fr registers with FN 0x01, from the base in RA on. -/
def execSavem (p : Proc) (gd : BitVec 3) (rd ra rb : BitVec 5) (fn : Byte) (most : BitVec 6) (s : State) :
    Host.Outcome State Fault Refusal :=
  ok (s.runSup p (encR 0x36 gd rd ra rb fn.toNat) gd
    (decide (rd.toNat ≤ rb.toNat) && decide (fn.toNat < 2) && (fn == 0 || decide (rb.toNat < 16))) (s.xprog p != 0) false fun s =>
    let base := (s.coreOf p).u .s ra.toNat
    s.longRun p (rb.toNat - rd.toNat + 1) (fun i s =>
      let a := (base + 4 * i) % 2 ^ 32
      let k := s.coreOf p
      let v : Word := if fn = 0 then k.r[rd.toNat + i]! else k.fr[rd.toNat + i]!
      match s.sStore p a 4 v with
      | .val s1 _ => .done s1
      | .stay s1 => .stay s1
      | .bad s1 st => .trap s1 (.access st a)) most.toNat)

/-- RESTM (R460). -/
def execRestm (p : Proc) (gd : BitVec 3) (rd ra rb : BitVec 5) (fn : Byte) (most : BitVec 6) (s : State) :
    Host.Outcome State Fault Refusal :=
  ok (s.runSup p (encR 0x37 gd rd ra rb fn.toNat) gd
    (decide (rd.toNat ≤ rb.toNat) && decide (fn.toNat < 2) && (fn == 0 || decide (rb.toNat < 16)) &&
      !(decide (rd.toNat ≤ ra.toNat) && decide (ra.toNat ≤ rb.toNat))) (s.xprog p != 0) false fun s =>
    let base := (s.coreOf p).u .s ra.toNat
    s.longRun p (rb.toNat - rd.toNat + 1) (fun i s =>
      let a := (base + 4 * i) % 2 ^ 32
      match s.sLoad p a 4 with
      | .val s1 v =>
        let w : Word := BitVec.ofNat 32 v
        .done (s1.modCores p fun k =>
          if fn = 0 then { k with r := k.r.set! (rd.toNat + i) w } else { k with fr := k.fr.set! (rd.toNat + i) w })
      | .stay s1 => .stay s1
      | .bad s1 st => .trap s1 (.access st a)) most.toNat)

/-! ## Lockstep (R405 to R411) -/

/-- LOCKSTEP_MISMATCH (R407, R410, R411): CAUSE 0b001 MISMATCH, 0b010 DPAR or 0b101 RAIL. -/
def execLockstepMismatch (i : Fin 6) (cause : Fin 3) (s : State) : Host.Outcome State Fault Refusal :=
  ok (if s.alive (procAt i) then s.columnHalt i (match cause with | 0 => 1 | 1 => 2 | 2 => 5) else s)

/-- ASYNC_MISMATCH (R408): a difference that persists beyond 3 column cycles halts the column; a shorter one is counted. -/
def execAsyncMismatch (i : Fin 6) (persists : Bool) (s : State) : Host.Outcome State Fault Refusal :=
  ok (if !s.alive (procAt i) then s
    else if persists then s.columnHalt i 3
    else if i.val < 5 then s.count SYSCTL_LSSTAT i.val SYSCTL_LSSTAT_SUPP
    else s)

/-- INJECTION_PASS (R411): 32 injections, one per group; one that is not reported halts the column with CMPFAIL. -/
def execInjectionPass (i : Fin 6) (reported : Word) (s : State) : Host.Outcome State Fault Refusal :=
  ok (if !s.alive (procAt i) then s
    else if reported != 0xFFFFFFFF then s.columnHalt i 4
    else if i.val < 5 then s.countWrap SYSCTL_LSSTAT i.val SYSCTL_LSSTAT_INJ
    else s)

/-- CONFIRMED_ALIAS_READ (R409): an unguarded load of a confirmed alias — of GPIO_IN, or of PWR_WSTAT — into `rd`. Where the
synchronisers do not agree within 64 cycles, UNCONF is set. -/
def execConfirmedAliasRead (c : Fin 5) (rd : BitVec 5) (wake agreed : Bool) (s : State) : Host.Outcome State Fault Refusal :=
  ok (s.runMem (.col c) 0 0 true false fun s =>
    let a := if wake then 0x40028060 else 0x40408010
    match s.sLoad (.col c) a 4 with
    | .val s1 v =>
      let s2 := s1.modCores (.col c) fun k => k.wr .s rd.toNat v
      .done (if agreed then s2 else s2.flag SYSCTL_LSSTAT c.val SYSCTL_LSSTAT_UNCONF)
    | .stay s1 => .stay s1
    | .bad s1 st => .trap s1 (.access st a))

/-! ## Watchdog and restart (R476, R477) -/

/-- COLUMN_WATCHDOG_EXPIRY (R476): WDT µs without a kick. COLH's may start a warm reset (R577). -/
def execColumnWatchdogExpiry (c : Fin 5) (s : State) : Host.Outcome State Fault Refusal :=
  ok (let n := s.fld SYSCTL_COLCTL c.val SYSCTL_COLCTL_WDT
    let i : Fin 6 := c.castLE (by decide)
    if !s.treesOn || n = 0 || (vget s.sproc i).inReset || s.tick < (vget s.sproc i).kickAt + 640 * n then s
    else
      let s1 := (s.flag SYSCTL_COLCTL c.val SYSCTL_COLCTL_WDTEXP).modSproc i fun q => { q with kickAt := s.tick }
      if c.val = 4 && s1.bit SYSCTL_RSTCFG 0 SYSCTL_RSTCFG_WDTWARM then s1.beginReset 1 [SYSCTL_RSTCAUSE_COLHWDT] else s1)

/-- COLUMN_RESTART (R477): the first instruction of a region column after RST, at SYSCTL_COLBOOT in supervisor mode and chamber 0;
HALTED, STOPPED and the redirection end. -/
def execColumnRestart (c : Fin 4) (s : State) : Host.Outcome State Fault Refusal :=
  ok (let i : Fin 6 := c.castLE (by decide)
    if !s.treesOn || !(vget s.sproc i).restart then s
    else
      let pc := s.reg SYSCTL_COLBOOT c.val &&& 0xFFFFFFFC
      let s1 := s.modSproc i fun _ =>
        { sprocReset with core := { sprocReset.core with pc := pc }, kickAt := s.tick, cycAt := s.colTick }
      let s2 := (s1.setBit SYSCTL_COLCTL c.val SYSCTL_COLCTL_HALTED false).setBit SYSCTL_COLCTL c.val SYSCTL_COLCTL_STOPPED false
      (s2.setBit SYSCTL_COLCTL c.val SYSCTL_COLCTL_REDIR false).notifyRetry)

end Sys2Proof.Machine
end

