-- ==== Sys2Proof/Machine/Drip.lean ====
section
/-! DEFINITION. Drip, the self-test of the SRAM arrays while the device runs (R592 to R597). -/

namespace Sys2Proof.Machine

/-! ## Arrays (R592) -/

/-- The slices of an array, and the fabric byte address of slice `i`. -/
def dripArray (code i : Nat) : Nat × Nat :=
  let at_ (base : Nat) : Nat := base + 1024 * i
  if code < 0x80 then (24, if i < 16 then at_ (cellWin code) else cellWin code + 0x4000 + 1024 * (i - 16))
  else if code < 0x90 then (256, at_ (blockBase (code - 0x80)))
  else if code < 0x94 then (2048, at_ (0x20000000 + 0x04000000 * (code - 0x90)))
  else if code = 0x94 then (8192, at_ 0x10000000)
  else if code = 0x95 then (768, at_ (slotAddr 0))
  else if code = 0x96 then (256, at_ 0x31000000)
  else (512, at_ 0)

/-- The array after `code` in lane `k`; the first one again after the last. -/
def dripNext (k code : Nat) : Nat :=
  if k < 4 then
    if code + 1 < 32 * k + 32 then code + 1
    else if code < 0x80 then 0x80 + 4 * k
    else if code < 0x83 + 4 * k then code + 1
    else if code < 0x90 then 0x90 + k
    else 32 * k
  else if k = 4 then (if code < 0x96 then code + 1 else 0x94)
  else (if code < 0x9C then code + 1 else 0x98)

/-- Where a word of an array stands in memory: a column's TCM is private. -/
def dripKey (code a : Nat) : Nat := if 0x98 ≤ code then tcmKey (code - 0x98) a else a

/-! ## Slices (R593 to R596) -/

/-- A lane moves past the slice it stands at. -/
def State.dripAdvance (s : State) (k : Fin 6) : State :=
  let code := s.fld DRIP_LANE k.val DRIP_LANE_ARRAY
  let i := s.fld DRIP_LANE k.val DRIP_LANE_SLICE
  if i + 1 < (dripArray code i).1 then s.setFld DRIP_LANE k.val DRIP_LANE_SLICE (i + 1)
  else
    let n := dripNext k.val code
    let s1 := (s.setFld DRIP_LANE k.val DRIP_LANE_SLICE 0).setFld DRIP_LANE k.val DRIP_LANE_ARRAY n
    if n = Config.dripFirst k.val then
      let t := s.tick
      let s2 := (s1.countWrap DRIP_LANE k.val DRIP_LANE_PASSES).setReg DRIP_PASST k.val
        (BitVec.ofNat 32 ((t - (vget s.boot.drip k).from_) / 640000))
      { s2 with boot := { s2.boot with drip := vset s2.boot.drip k { (vget s2.boot.drip k) with from_ := t } } }
    else s1

/-- A failed word goes to its owner's first responder (R596, R217): the cell that runs on the RAM, or the isolation of a spare. -/
def State.dripOwner (s : State) (code : Nat) : State :=
  if code < 0x80 then
    let p := Fin.ofNat 128 code
    if s.pstate p = 2 then s.setPstate p 5 else s.cellEcc p
  else s

/-- A failed word at fabric address `a` (R596). -/
def State.dripFail (s : State) (k : Fin 6) (code a : Nat) : State :=
  let s1 := s.refuse .drip stECC 0 a
  let s2 := (s1.setReg DRIP_ERR 0 (DRIP_ERR_STATUS.put (DRIP_ERR_ARRAY.put 0 code) stECC)).setReg DRIP_ERRADDR 0 (BitVec.ofNat 32 a)
  ((s2.setBit DRIP_STAT 0 ⟨8 + k.val, 8 + k.val⟩ true).count DRIP_ERRCNT 0 DRIP_ERRCNT_COUNT).dripOwner code

/-- The first read of a word (R594, R36): corrected, or found uncorrectable as by any reader. -/
def State.dripRead (s : State) (code a : Nat) : State :=
  let key := dripKey code a
  if s.eccOf key = 2 then (s.refuse .drip stECC 0 a).dripOwner code else s.eccCorrect key

/-- Whether the slice of a cell's RAM may run (R595): `none` for an ISOLATED cell, which is not tested. -/
def State.dripCell (s : State) (code : Nat) : Option Bool :=
  if 0x80 ≤ code then some true
  else
    let p := Fin.ofNat 128 code
    if s.pstate p = 5 then none
    else
      some (s.treesOn && (s.pstate p == 0 || s.pstate p == 2 ||
        match (vget s.phys p).wait with
        | .sleep _ _ _ => true
        | _ => false))

/-- The slice period of a lane in fabric ticks (R593). -/
def State.dripPer (s : State) : Nat :=
  let d := min 1000 (max 10 (s.fld DRIP_CTRL 0 DRIP_CTRL_DPER))
  640 * if s.fld THERM_STAT 0 THERM_STAT_TLVL = 0 then d else 1000

/-- DRIP_SLICE (R593 to R597): a lane tests the slice it stands at, if it is due; `fails` are the numbers of its words, ascending,
that fail the complement test. -/
def execDripSlice (k : Fin 6) (fails : List Nat) (s : State) : Host.Outcome State Fault Refusal :=
  ok (let code := s.fld DRIP_LANE k.val DRIP_LANE_ARRAY
    let base := (dripArray code (s.fld DRIP_LANE k.val DRIP_LANE_SLICE)).2
    let wide := if code < 0x80 then 2 else 4
    let per := s.dripPer
    let due := match (vget s.boot.drip k).at_ with
      | some t => t + per
      | none => 0
    let now := s.tick
    let on := s.fabricOn && s.boot.start == .up && s.bit DRIP_CTRL 0 DRIP_CTRL_EN && bitN (s.fld DRIP_CTRL 0 DRIP_CTRL_LANEEN) k.val &&
      !s.bit THERM_STAT 0 THERM_STAT_HALT
    if !on || decide (now < due) then s
    else
      let started (s : State) : State :=
        { s with boot := { s.boot with drip := vset s.boot.drip k { (vget s.boot.drip k) with at_ := some now } } }
      let late := (vget s.boot.drip k).at_.isSome && decide (due + per ≤ now)
      let slow (s : State) : State := if late then s.setBit DRIP_STAT 0 ⟨24 + k.val, 24 + k.val⟩ true else s
      match s.dripCell code with
      | none => (started s).dripAdvance k
      | some false =>
        if due + per ≤ now || !s.treesOn then ((started s).setBit DRIP_STAT 0 ⟨16 + k.val, 16 + k.val⟩ true).dripAdvance k else s
      | some true =>
        let words := (List.range (1024 / wide)).map fun i => base + wide * i
        let hit := words.filter fun a => s.eccOf (dripKey code a) != 0
        let s1 := hit.foldl (fun s a => s.dripRead code a) (slow (started s))
        let s2 := (fails.filter (· < 1024 / wide)).foldl (fun s i => s.dripFail k code (base + wide * i)) s1
        s2.dripAdvance k)

end Sys2Proof.Machine
end

