-- ==== Sys2Proof/Machine/SornasAlu.lean ====
section
/-! DEFINITION. The integer, logic, compare, predicate and bit-field operations of Sornas (R137 to R143). -/

namespace Sys2Proof.Machine

/-- An ALU operation on RA and RB that does not admit address registers. -/
def aluData (s : State) (p : Proc) (gd : BitVec 3) (rd ra rb : BitVec 5) (fn : Nat) (used : Bool)
    (f : Nat → Core → Int → Int → Core × Int) : State :=
  let pf := profileOf p
  s.runSat p (encR 0x01 gd rd ra rb fn) gd (allData pf [rd, ra, rb] && (used || rb == 0)) 0
    fun k => .next (dataOp pf rd ra rb (f (wordBits pf)) k)

/-- An ALU operation on RA and RB that admits address registers. -/
def aluAddr (s : State) (p : Proc) (gd : BitVec 3) (rd ra rb : BitVec 5) (fn : Nat) (used : Bool)
    (adr : Int → Int → Int) (f : Nat → Core → Int → Int → Core × Int) : State :=
  let pf := profileOf p
  s.runSat p (encR 0x01 gd rd ra rb fn) gd (allRegs pf [rd, ra, rb] && (used || rb == 0)) 0
    fun k => .next (addrOrData pf rd ra rb adr (f (wordBits pf)) k)

/-- A bitwise result with ZN. -/
def logicF (g : Nat → Nat → Nat) (n : Nat) (k : Core) (x y : Int) : Core × Int :=
  let z : Int := (g (pat n x) (pat n y) : Nat)
  (k.zn n z, z)

/-- A chosen operand with ZN. -/
def pickF (g : Nat → Int → Int → Int) (n : Nat) (k : Core) (x y : Int) : Core × Int :=
  (k.zn n (g n x y), g n x y)

/-- ADD and SUB results with ZNCV: saturated or wrapped. -/
def addF (sat : Bool) (n : Nat) (k : Core) (x y : Int) : Core × Int :=
  let (k1, z) := if sat then k.sat n (x + y) else (k.vf (oflow n (x + y)), wrapS n (x + y))
  ((k1.zn n z).cf (carryAdd n x y), z)

def subF (sat : Bool) (n : Nat) (k : Core) (x y : Int) : Core × Int :=
  let (k1, z) := if sat then k.sat n (x - y) else (k.vf (oflow n (x - y)), wrapS n (x - y))
  ((k1.zn n z).cf (borrowSub n x y), z)

/-- ADD (R137). -/
def execAdd (p : Proc) (gd : BitVec 3) (rd ra rb : BitVec 5) (s : State) : Host.Outcome State Fault Refusal :=
  ok (aluAddr s p gd rd ra rb 0x00 true (· + ·) (addF true))
/-- SUB (R137). -/
def execSub (p : Proc) (gd : BitVec 3) (rd ra rb : BitVec 5) (s : State) : Host.Outcome State Fault Refusal :=
  ok (aluAddr s p gd rd ra rb 0x01 true (· - ·) (subF true))
/-- ADDW (R137). -/
def execAddw (p : Proc) (gd : BitVec 3) (rd ra rb : BitVec 5) (s : State) : Host.Outcome State Fault Refusal :=
  ok (aluAddr s p gd rd ra rb 0x02 true (· + ·) (addF false))
/-- SUBW (R137). -/
def execSubw (p : Proc) (gd : BitVec 3) (rd ra rb : BitVec 5) (s : State) : Host.Outcome State Fault Refusal :=
  ok (aluAddr s p gd rd ra rb 0x03 true (· - ·) (subF false))
/-- AND (R137). -/
def execAnd (p : Proc) (gd : BitVec 3) (rd ra rb : BitVec 5) (s : State) : Host.Outcome State Fault Refusal :=
  ok (aluData s p gd rd ra rb 0x04 true (logicF (· &&& ·)))
/-- OR (R137). -/
def execOr (p : Proc) (gd : BitVec 3) (rd ra rb : BitVec 5) (s : State) : Host.Outcome State Fault Refusal :=
  ok (aluData s p gd rd ra rb 0x05 true (logicF (· ||| ·)))
/-- XOR (R137). -/
def execXor (p : Proc) (gd : BitVec 3) (rd ra rb : BitVec 5) (s : State) : Host.Outcome State Fault Refusal :=
  ok (aluData s p gd rd ra rb 0x06 true (logicF (· ^^^ ·)))
/-- ANDN (R137). -/
def execAndn (p : Proc) (gd : BitVec 3) (rd ra rb : BitVec 5) (s : State) : Host.Outcome State Fault Refusal :=
  ok (aluData s p gd rd ra rb 0x07 true fun n k x y => logicF (fun a b => a &&& (2 ^ n - 1 - b)) n k x y)
/-- SHL (R137). -/
def execShl (p : Proc) (gd : BitVec 3) (rd ra rb : BitVec 5) (s : State) : Host.Outcome State Fault Refusal :=
  ok (aluData s p gd rd ra rb 0x08 true fun n k x y => k.shl n x (shAmt y))
/-- SHR (R137). -/
def execShr (p : Proc) (gd : BitVec 3) (rd ra rb : BitVec 5) (s : State) : Host.Outcome State Fault Refusal :=
  ok (aluData s p gd rd ra rb 0x09 true fun n k x y => k.shr n x (shAmt y))
/-- SRA (R137). -/
def execSra (p : Proc) (gd : BitVec 3) (rd ra rb : BitVec 5) (s : State) : Host.Outcome State Fault Refusal :=
  ok (aluData s p gd rd ra rb 0x0A true fun n k x y => k.sra n x (shAmt y))
/-- SHLS (R137). -/
def execShls (p : Proc) (gd : BitVec 3) (rd ra rb : BitVec 5) (s : State) : Host.Outcome State Fault Refusal :=
  ok (aluData s p gd rd ra rb 0x0B true fun n k x y => k.shls n x (shAmt y))
/-- MIN (R137). -/
def execMin (p : Proc) (gd : BitVec 3) (rd ra rb : BitVec 5) (s : State) : Host.Outcome State Fault Refusal :=
  ok (aluData s p gd rd ra rb 0x0C true (pickF fun _ x y => min x y))
/-- MAX (R137). -/
def execMax (p : Proc) (gd : BitVec 3) (rd ra rb : BitVec 5) (s : State) : Host.Outcome State Fault Refusal :=
  ok (aluData s p gd rd ra rb 0x0D true (pickF fun _ x y => max x y))
/-- MINU (R137). -/
def execMinu (p : Proc) (gd : BitVec 3) (rd ra rb : BitVec 5) (s : State) : Host.Outcome State Fault Refusal :=
  ok (aluData s p gd rd ra rb 0x0E true (pickF fun n x y => if pat n x ≤ pat n y then x else y))
/-- MAXU (R137). -/
def execMaxu (p : Proc) (gd : BitVec 3) (rd ra rb : BitVec 5) (s : State) : Host.Outcome State Fault Refusal :=
  ok (aluData s p gd rd ra rb 0x0F true (pickF fun n x y => if pat n x ≤ pat n y then y else x))

/-- A saturated one-source result with ZNV. -/
def satF (g : Int → Int) (n : Nat) (k : Core) (x _ : Int) : Core × Int :=
  let (k1, z) := k.sat n (g x)
  (k1.zn n z, z)

/-- NEG (R137). -/
def execNeg (p : Proc) (gd : BitVec 3) (rd ra rb : BitVec 5) (s : State) : Host.Outcome State Fault Refusal :=
  ok (aluData s p gd rd ra rb 0x10 false (satF fun x => -x))
/-- ABS (R137). -/
def execAbs (p : Proc) (gd : BitVec 3) (rd ra rb : BitVec 5) (s : State) : Host.Outcome State Fault Refusal :=
  ok (aluData s p gd rd ra rb 0x11 false (satF fun x => if x < 0 then -x else x))
/-- CLIP (R137): V := 1 if clamped; SAT is not set. -/
def execClip (p : Proc) (gd : BitVec 3) (rd ra rb : BitVec 5) (s : State) : Host.Outcome State Fault Refusal :=
  ok (aluData s p gd rd ra rb 0x12 true fun n k x y =>
    let b := max y 0
    let z := clampI x (-b) b
    ((k.zn n z).vf (z != x), z))
/-- CLS (R137): bits below bit W − 1 that equal it. -/
def execCls (p : Proc) (gd : BitVec 3) (rd ra rb : BitVec 5) (s : State) : Host.Outcome State Fault Refusal :=
  ok (aluData s p gd rd ra rb 0x13 false fun n k x _ =>
    let z : Int := (leadCount (· == decide (x < 0)) (pat n x) (n - 1) : Nat)
    (k.zf n z, z))
/-- CLZ (R137). -/
def execClz (p : Proc) (gd : BitVec 3) (rd ra rb : BitVec 5) (s : State) : Host.Outcome State Fault Refusal :=
  ok (aluData s p gd rd ra rb 0x14 false fun n k x _ =>
    let z : Int := (leadCount (!·) (pat n x) n : Nat)
    (k.zf n z, z))
/-- MOV (R137). -/
def execMov (p : Proc) (gd : BitVec 3) (rd ra rb : BitVec 5) (s : State) : Host.Outcome State Fault Refusal :=
  ok (let pf := profileOf p
    s.runSat p (encR 0x01 gd rd ra rb 0x15) gd (allRegs pf [rd, ra] && rb == 0) 0 fun k =>
      let x := k.i pf ra.toNat
      if anyAddr pf [rd, ra] then .next (k.wr pf rd.toNat x)
      else .next ((k.zn (wordBits pf) x).wr pf rd.toNat x))
/-- AVG (R137). -/
def execAvg (p : Proc) (gd : BitVec 3) (rd ra rb : BitVec 5) (s : State) : Host.Outcome State Fault Refusal :=
  ok (aluData s p gd rd ra rb 0x16 true fun n k x y => (k.zn n (k.rnd (x + y) 1), k.rnd (x + y) 1))
/-- ROR (R137). -/
def execRor (p : Proc) (gd : BitVec 3) (rd ra rb : BitVec 5) (s : State) : Host.Outcome State Fault Refusal :=
  ok (aluData s p gd rd ra rb 0x17 true fun n k x y => k.ror n x (shAmt y))

/-! ## Immediates -/

/-- ADDI (R138): wraps, with ZNCV; address registers admitted. -/
def execAddi (p : Proc) (gd : BitVec 3) (rd ra : BitVec 5) (imm : BitVec 13) (s : State) :
    Host.Outcome State Fault Refusal :=
  ok (let pf := profileOf p
    s.runSat p (encI 0x02 gd rd ra imm.toNat) gd (allRegs pf [rd, ra]) 0 fun k =>
      let x := k.i pf ra.toNat
      if anyAddr pf [rd, ra] then .next (k.wr pf rd.toNat (x + immS imm))
      else
        let (k', z) := addF false (wordBits pf) k x (immS imm)
        .next (k'.wr pf rd.toNat z))

/-- ANDI, ORI and XORI on a zero-extended immediate (R138). -/
def logicImm (s : State) (p : Proc) (gd : BitVec 3) (rd ra : BitVec 5) (imm : BitVec 13) (op : Nat)
    (g : Nat → Nat → Nat) : State :=
  let pf := profileOf p
  s.runSat p (encI op gd rd ra imm.toNat) gd (allData pf [rd, ra]) 0 fun k =>
    let (k', z) := logicF g (wordBits pf) k (k.i pf ra.toNat) imm.toNat
    .next (k'.wr pf rd.toNat z)

/-- ANDI (R138). -/
def execAndi (p : Proc) (gd : BitVec 3) (rd ra : BitVec 5) (imm : BitVec 13) (s : State) :
    Host.Outcome State Fault Refusal := ok (logicImm s p gd rd ra imm 0x03 (· &&& ·))
/-- ORI (R138). -/
def execOri (p : Proc) (gd : BitVec 3) (rd ra : BitVec 5) (imm : BitVec 13) (s : State) :
    Host.Outcome State Fault Refusal := ok (logicImm s p gd rd ra imm 0x04 (· ||| ·))
/-- XORI (R138). -/
def execXori (p : Proc) (gd : BitVec 3) (rd ra : BitVec 5) (imm : BitVec 13) (s : State) :
    Host.Outcome State Fault Refusal := ok (logicImm s p gd rd ra imm 0x05 (· ^^^ ·))

/-- SHI: a shift by the amount in IMM13[5:0], with IMM13[9:6] = 0 (R138). -/
def shiftImm (s : State) (p : Proc) (gd : BitVec 3) (rd ra : BitVec 5) (imm : BitVec 10) (kind : Nat)
    (f : Core → Nat → Int → Nat → Core × Int) : State :=
  let pf := profileOf p
  s.runSat p (encI 0x06 gd rd ra (kind * 2 ^ 10 + imm.toNat)) gd (allData pf [rd, ra] && imm.toNat < 64) 0 fun k =>
    let (k', z) := f k (wordBits pf) (k.i pf ra.toNat) (imm.toNat % 64)
    .next (k'.wr pf rd.toNat z)

/-- SHI with KIND SHL (R138). -/
def execShiShl (p : Proc) (gd : BitVec 3) (rd ra : BitVec 5) (imm : BitVec 10) (s : State) :
    Host.Outcome State Fault Refusal := ok (shiftImm s p gd rd ra imm 0 Core.shl)
/-- SHI with KIND SHR (R138). -/
def execShiShr (p : Proc) (gd : BitVec 3) (rd ra : BitVec 5) (imm : BitVec 10) (s : State) :
    Host.Outcome State Fault Refusal := ok (shiftImm s p gd rd ra imm 1 Core.shr)
/-- SHI with KIND SRA (R138). -/
def execShiSra (p : Proc) (gd : BitVec 3) (rd ra : BitVec 5) (imm : BitVec 10) (s : State) :
    Host.Outcome State Fault Refusal := ok (shiftImm s p gd rd ra imm 2 Core.sra)
/-- SHI with KIND SHLS (R138). -/
def execShiShls (p : Proc) (gd : BitVec 3) (rd ra : BitVec 5) (imm : BitVec 10) (s : State) :
    Host.Outcome State Fault Refusal := ok (shiftImm s p gd rd ra imm 3 Core.shls)
/-- SHI with KIND ROR (R138). -/
def execShiRor (p : Proc) (gd : BitVec 3) (rd ra : BitVec 5) (imm : BitVec 10) (s : State) :
    Host.Outcome State Fault Refusal := ok (shiftImm s p gd rd ra imm 4 Core.ror)

/-- LI (R139). -/
def execLi (p : Proc) (gd : BitVec 3) (rd : BitVec 5) (imm : BitVec 18) (s : State) :
    Host.Outcome State Fault Refusal :=
  ok (let pf := profileOf p
    s.runInstr p (encU 0x07 gd rd imm) gd (allRegs pf [rd]) 0 fun k =>
      .next (k.wr pf rd.toNat (match pf with | .c => ((imm.toNat % 2 ^ 16 : Nat) : Int) | .s => immS imm)))

/-- LIH (R139): an address register in Sornas-C, any register in Sornas-S. -/
def execLih (p : Proc) (gd : BitVec 3) (rd : BitVec 5) (imm : BitVec 18) (s : State) :
    Host.Outcome State Fault Refusal :=
  ok (let pf := profileOf p
    s.runInstr p (encU 0x08 gd rd imm) gd (isBase pf rd.toNat) 0 fun k =>
      .next (k.wr pf rd.toNat (k.u pf rd.toNat % 2 ^ 16 + imm.toNat % 2 ^ 16 * 2 ^ 16 : Nat)))

/-! ## Bit fields -/

/-- A BFX form: the field must lie within the width (R140). -/
def bfx (s : State) (p : Proc) (gd : BitVec 3) (rd ra pos len1 : BitVec 5) (kind : Nat)
    (f : Nat → Nat → Nat → Nat → Nat → Int) : State :=
  let pf := profileOf p
  let n := wordBits pf
  s.runInstr p (encF 0x18 gd rd ra pos len1 kind) gd
    (allData pf [rd, ra] && pos.toNat + (len1.toNat + 1) ≤ n) 0 fun k =>
    let z := f n (k.u pf rd.toNat) (k.u pf ra.toNat) pos.toNat (len1.toNat + 1)
    .next ((k.zn n z).wr pf rd.toNat z)

/-- EXTU (R140). -/
def execExtu (p : Proc) (gd : BitVec 3) (rd ra pos len1 : BitVec 5) (s : State) : Host.Outcome State Fault Refusal :=
  ok (bfx s p gd rd ra pos len1 0 fun _ _ x po le => (x / 2 ^ po % 2 ^ le : Nat))
/-- EXTS (R140). -/
def execExts (p : Proc) (gd : BitVec 3) (rd ra pos len1 : BitVec 5) (s : State) : Host.Outcome State Fault Refusal :=
  ok (bfx s p gd rd ra pos len1 1 fun _ _ x po le => sx le (x / 2 ^ po))
/-- INS (R140): the other bits of rd are kept. -/
def execIns (p : Proc) (gd : BitVec 3) (rd ra pos len1 : BitVec 5) (s : State) : Host.Outcome State Fault Refusal :=
  ok (bfx s p gd rd ra pos len1 2 fun _ d x po le =>
    (d - d / 2 ^ po % 2 ^ le * 2 ^ po + x % 2 ^ le * 2 ^ po : Nat))

/-! ## Compare and predicates -/

/-- A condition of R142 on n-bit operands. -/
def condHolds (cond : BitVec 3) (n : Nat) (x y : Int) : Bool :=
  match cond.toNat with
  | 0 => pat n x == pat n y
  | 1 => pat n x != pat n y
  | 2 => wrapS n x < wrapS n y
  | 3 => wrapS n y ≤ wrapS n x
  | 4 => pat n x < pat n y
  | 5 => pat n y ≤ pat n x
  | 6 => (pat n x &&& pat n y) != 0
  | _ => (pat n x &&& pat n y) == 0

/-- The conditions that admit address registers (R142). -/
def condAddr (cond : BitVec 3) : Bool := cond.toNat < 2 || cond.toNat == 4 || cond.toNat == 5

/-- CMP (R142): bits [7:0] of its word must be 0. -/
def execCmp (p : Proc) (gd : BitVec 3) (pd : BitVec 2) (cond : BitVec 3) (ra rb : BitVec 5) (fn : BitVec 8) (s : State) :
    Host.Outcome State Fault Refusal :=
  ok (let pf := profileOf p
    s.runInstr p (encC 0x09 gd pd cond ra (rb.toNat * 2 ^ 8 + fn.toNat)) gd
      (fn == 0 && (if condAddr cond then allRegs pf [ra, rb] else allData pf [ra, rb])) 0 fun k =>
      let n := if anyAddr pf [ra, rb] then 20 else wordBits pf
      .next (k.wrP pd.toNat (condHolds cond n (k.i pf ra.toNat) (k.i pf rb.toNat))))

/-- CMPI (R142). -/
def execCmpi (p : Proc) (gd : BitVec 3) (pd : BitVec 2) (cond : BitVec 3) (ra : BitVec 5) (imm : BitVec 13) (s : State) :
    Host.Outcome State Fault Refusal :=
  ok (let pf := profileOf p
    s.runInstr p (encC 0x0A gd pd cond ra imm.toNat) gd
      (if condAddr cond then allRegs pf [ra] else allData pf [ra]) 0 fun k =>
      let n := if anyAddr pf [ra] then 20 else wordBits pf
      .next (k.wrP pd.toNat (condHolds cond n (k.i pf ra.toNat) (immS imm))))

/-- PLOG (R143). -/
def execPlog (p : Proc) (gd : BitVec 3) (pd pa pb : BitVec 2) (op2 : BitVec 3) (s : State) :
    Host.Outcome State Fault Refusal :=
  ok (s.runInstr p (encP 0x0B gd pd pa pb op2) gd true 0 fun k =>
    let a := k.pred pa.toNat
    let b := k.pred pb.toNat
    .next (k.wrP pd.toNat (match op2.toNat with
      | 0 => a && b
      | 1 => a || b
      | 2 => a != b
      | 3 => a && !b
      | 4 => a || !b
      | 5 => !a
      | 6 => true
      | _ => false)))

end Sys2Proof.Machine
end

