-- ==== Sys2Proof/Machine/SornasMul.lean ====
section
/-! DEFINITION. Multiply, accumulate and divide operations of Sornas (R144 to R148). -/

namespace Sys2Proof.Machine

/-! ## MUL -/

/-- A MUL function with a single result and its flags (R144). -/
def mulOp (s : State) (p : Proc) (gd : BitVec 3) (rd ra rb : BitVec 5) (fn : Nat)
    (f : Nat → Core → Int → Int → Core × Int) : State :=
  let pf := profileOf p
  s.runSat p (encR 0x0C gd rd ra rb fn) gd (allData pf [rd, ra, rb]) 1
    fun k => .next (dataOp pf rd ra rb (f (wordBits pf)) k)

/-- MULL (R144). -/
def execMull (p : Proc) (gd : BitVec 3) (rd ra rb : BitVec 5) (s : State) : Host.Outcome State Fault Refusal :=
  ok (mulOp s p gd rd ra rb 0x00 fun n k x y => (k.zn n (x * y), wrapS n (x * y)))
/-- MULH (R144). -/
def execMulh (p : Proc) (gd : BitVec 3) (rd ra rb : BitVec 5) (s : State) : Host.Outcome State Fault Refusal :=
  ok (mulOp s p gd rd ra rb 0x01 fun n k x y => (k.zn n (x * y / 2 ^ n), x * y / 2 ^ n))
/-- MULHU (R144). -/
def execMulhu (p : Proc) (gd : BitVec 3) (rd ra rb : BitVec 5) (s : State) : Host.Outcome State Fault Refusal :=
  ok (mulOp s p gd rd ra rb 0x02 fun n k x y =>
    let z : Int := (pat n x * pat n y / 2 ^ n : Nat)
    (k.zn n z, z))
/-- MULF (R144). -/
def execMulf (p : Proc) (gd : BitVec 3) (rd ra rb : BitVec 5) (s : State) : Host.Outcome State Fault Refusal :=
  ok (mulOp s p gd rd ra rb 0x03 fun n k x y =>
    let (k1, z) := k.sat n (k.rnd (x * y) (n - 1))
    (k1.zn n z, z))

/-- MULW (R144): the full signed product into a pair, low half first; an even register number is asked in both
profiles. -/
def execMulw (p : Proc) (gd : BitVec 3) (rd ra rb : BitVec 5) (s : State) : Host.Outcome State Fault Refusal :=
  ok (let pf := profileOf p
    let n := wordBits pf
    s.runInstr p (encR 0x0C gd rd ra rb 0x04) gd (allData pf [rd, ra, rb] && rd.toNat % 2 == 0) 1 fun k =>
      let z := pat (2 * n) (k.i pf ra.toNat * k.i pf rb.toNat)
      .next ((k.wr pf rd.toNat (z % 2 ^ n : Nat)).wr pf (rd.toNat + 1) (z / 2 ^ n : Nat)))

/-! ## MAC -/

/-- A MAC function on single f16 operands (R145): the new value of acc[AA], saturated if `sat`. -/
def macOne (s : State) (p : Proc) (gd : BitVec 3) (aa ab : BitVec 2) (ra rb : BitVec 5) (fn : Nat) (sat : Bool)
    (f : Int → Int → Int → Int) : State :=
  let pf := profileOf p
  s.runSat p (encA 0x0D gd aa ab ra rb fn) gd (allData pf [ra, rb] && ab == 0) 1 fun k =>
    let v := f (k.a aa.toNat) (k.f16 ra) (k.f16 rb)
    let (k1, z) := if sat then k.sat 40 v else (k, v)
    .next (k1.wrA aa.toNat z)

/-- A MAC function on pairs of f16 operands (R145). -/
def macTwo (s : State) (p : Proc) (gd : BitVec 3) (aa ab : BitVec 2) (ra rb : BitVec 5) (fn : Nat) (sat : Bool)
    (f : Int → Int × Int → Int × Int → Int) : State :=
  let pf := profileOf p
  s.runSat p (encA 0x0D gd aa ab ra rb fn) gd (isPair pf ra && isPair pf rb && ab == 0) 2 fun k =>
    let v := f (k.a aa.toNat) (k.pair pf ra) (k.pair pf rb)
    let (k1, z) := if sat then k.sat 40 v else (k, v)
    .next (k1.wrA aa.toNat z)

/-- MAC (R145). -/
def execMac (p : Proc) (gd : BitVec 3) (aa ab : BitVec 2) (ra rb : BitVec 5) (s : State) :
    Host.Outcome State Fault Refusal := ok (macOne s p gd aa ab ra rb 0x00 true fun a x y => a + 2 * x * y)
/-- MSU (R145). -/
def execMsu (p : Proc) (gd : BitVec 3) (aa ab : BitVec 2) (ra rb : BitVec 5) (s : State) :
    Host.Outcome State Fault Refusal := ok (macOne s p gd aa ab ra rb 0x01 true fun a x y => a - 2 * x * y)
/-- MPY (R145). -/
def execMpy (p : Proc) (gd : BitVec 3) (aa ab : BitVec 2) (ra rb : BitVec 5) (s : State) :
    Host.Outcome State Fault Refusal := ok (macOne s p gd aa ab ra rb 0x02 false fun _ x y => 2 * x * y)
/-- MACI (R145). -/
def execMaci (p : Proc) (gd : BitVec 3) (aa ab : BitVec 2) (ra rb : BitVec 5) (s : State) :
    Host.Outcome State Fault Refusal := ok (macOne s p gd aa ab ra rb 0x03 true fun a x y => a + x * y)

/-- MAC2 (R145): two accumulators; V if either overflowed; AA = AB is ILLEGAL. -/
def execMac2 (p : Proc) (gd : BitVec 3) (aa ab : BitVec 2) (ra rb : BitVec 5) (s : State) :
    Host.Outcome State Fault Refusal :=
  ok (let pf := profileOf p
    s.runSat p (encA 0x0D gd aa ab ra rb 0x04) gd (isPair pf ra && isPair pf rb && aa != ab) 2 fun k =>
      let x := k.pair pf ra
      let y := k.pair pf rb
      let (k1, z) := k.sat 40 (k.a aa.toNat + 2 * x.1 * y.1)
      let (k2, w) := k1.sat 40 (k.a ab.toNat + 2 * x.2 * y.2)
      .next (((k2.vf (k1.stb 3 || k2.stb 3)).wrA aa.toNat z).wrA ab.toNat w))

/-- MACD (R145). -/
def execMacd (p : Proc) (gd : BitVec 3) (aa ab : BitVec 2) (ra rb : BitVec 5) (s : State) :
    Host.Outcome State Fault Refusal :=
  ok (macTwo s p gd aa ab ra rb 0x05 true fun a x y => a + 2 * (x.1 * y.1 + x.2 * y.2))
/-- MACX (R145). -/
def execMacx (p : Proc) (gd : BitVec 3) (aa ab : BitVec 2) (ra rb : BitVec 5) (s : State) :
    Host.Outcome State Fault Refusal :=
  ok (macTwo s p gd aa ab ra rb 0x06 true fun a x y => a + 2 * (x.1 * y.1 - x.2 * y.2))
/-- MPYD (R145). -/
def execMpyd (p : Proc) (gd : BitVec 3) (aa ab : BitVec 2) (ra rb : BitVec 5) (s : State) :
    Host.Outcome State Fault Refusal :=
  ok (macTwo s p gd aa ab ra rb 0x07 false fun _ x y => 2 * (x.1 * y.1 + x.2 * y.2))
/-- MPYX (R145). -/
def execMpyx (p : Proc) (gd : BitVec 3) (aa ab : BitVec 2) (ra rb : BitVec 5) (s : State) :
    Host.Outcome State Fault Refusal :=
  ok (macTwo s p gd aa ab ra rb 0x08 false fun _ x y => 2 * (x.1 * y.1 - x.2 * y.2))

/-! ## ACC -/

/-- An ACC function (R146): its word, legality and effect. -/
def accOp (s : State) (p : Proc) (gd : BitVec 3) (aa ab : BitVec 2) (ra rb : BitVec 5) (fn : Nat) (legal : Bool)
    (f : Core → Core) : State :=
  s.runSat p (encA 0x0E gd aa ab ra rb fn) gd legal 0 fun k => .next (f k)

/-- An f32 register field: a pair in Sornas-C, any register in Sornas-S. -/
def isF32 (pf : Profile) (n : BitVec 5) : Bool := isPair pf n

/-- CLRA (R146). -/
def execClra (p : Proc) (gd : BitVec 3) (aa ab : BitVec 2) (ra rb : BitVec 5) (s : State) :
    Host.Outcome State Fault Refusal :=
  ok (accOp s p gd aa ab ra rb 0x00 (ab == 0 && ra == 0 && rb == 0) fun k => k.wrA aa.toNat 0)
/-- LDAH (R146). -/
def execLdah (p : Proc) (gd : BitVec 3) (aa ab : BitVec 2) (ra rb : BitVec 5) (s : State) :
    Host.Outcome State Fault Refusal :=
  ok (accOp s p gd aa ab ra rb 0x01 (ab == 0 && rb == 0 && allData (profileOf p) [ra]) fun k =>
    k.wrA aa.toNat (k.f16 ra * 2 ^ 16))
/-- LDAW (R146). -/
def execLdaw (p : Proc) (gd : BitVec 3) (aa ab : BitVec 2) (ra rb : BitVec 5) (s : State) :
    Host.Outcome State Fault Refusal :=
  ok (accOp s p gd aa ab ra rb 0x02 (ab == 0 && rb == 0 && isF32 (profileOf p) ra) fun k =>
    k.wrA aa.toNat (k.f32 (profileOf p) ra))
/-- RDAH (R146): a40 to f16 with a left shift of 0 to 15. -/
def execRdah (p : Proc) (gd : BitVec 3) (aa ab : BitVec 2) (ra rb : BitVec 5) (s : State) :
    Host.Outcome State Fault Refusal :=
  ok (accOp s p gd aa ab ra rb 0x03 (ab == 0 && rb.toNat < 16 && allData (profileOf p) [ra]) fun k =>
    let (k1, z) := k.sat 16 (k.rnd (k.a aa.toNat * 2 ^ rb.toNat) 16)
    k1.wr (profileOf p) ra.toNat z)
/-- RDAW (R146). -/
def execRdaw (p : Proc) (gd : BitVec 3) (aa ab : BitVec 2) (ra rb : BitVec 5) (s : State) :
    Host.Outcome State Fault Refusal :=
  ok (accOp s p gd aa ab ra rb 0x04 (ab == 0 && rb.toNat < 16 && isF32 (profileOf p) ra) fun k =>
    let (k1, z) := k.sat 32 (k.a aa.toNat * 2 ^ rb.toNat)
    k1.wrF32 (profileOf p) ra z)
/-- SHA (R146): a signed shift amount; a right shift rounds under st.RND. -/
def execSha (p : Proc) (gd : BitVec 3) (aa ab : BitVec 2) (ra rb : BitVec 5) (s : State) :
    Host.Outcome State Fault Refusal :=
  ok (accOp s p gd aa ab ra rb 0x05 (ab == 0 && ra == 0) fun k =>
    if rb.toNat < 16 then
      let (k1, z) := k.sat 40 (k.a aa.toNat * 2 ^ rb.toNat)
      k1.wrA aa.toNat z
    else k.wrA aa.toNat (k.rnd (k.a aa.toNat) (32 - rb.toNat)))
/-- ADDA (R146). -/
def execAdda (p : Proc) (gd : BitVec 3) (aa ab : BitVec 2) (ra rb : BitVec 5) (s : State) :
    Host.Outcome State Fault Refusal :=
  ok (accOp s p gd aa ab ra rb 0x06 (ra == 0 && rb == 0) fun k =>
    let (k1, z) := k.sat 40 (k.a aa.toNat + k.a ab.toNat)
    k1.wrA aa.toNat z)
/-- SUBA (R146). -/
def execSuba (p : Proc) (gd : BitVec 3) (aa ab : BitVec 2) (ra rb : BitVec 5) (s : State) :
    Host.Outcome State Fault Refusal :=
  ok (accOp s p gd aa ab ra rb 0x07 (ra == 0 && rb == 0) fun k =>
    let (k1, z) := k.sat 40 (k.a aa.toNat - k.a ab.toNat)
    k1.wrA aa.toNat z)
/-- NEGA (R146). -/
def execNega (p : Proc) (gd : BitVec 3) (aa ab : BitVec 2) (ra rb : BitVec 5) (s : State) :
    Host.Outcome State Fault Refusal :=
  ok (accOp s p gd aa ab ra rb 0x08 (ab == 0 && ra == 0 && rb == 0) fun k =>
    let (k1, z) := k.sat 40 (-(k.a aa.toNat))
    k1.wrA aa.toNat z)
/-- MOVA (R146). -/
def execMova (p : Proc) (gd : BitVec 3) (aa ab : BitVec 2) (ra rb : BitVec 5) (s : State) :
    Host.Outcome State Fault Refusal :=
  ok (accOp s p gd aa ab ra rb 0x09 (ra == 0 && rb == 0) fun k => k.wrA aa.toNat (k.a ab.toNat))

/-! ## DIV -/

/-- A DIV function (R147, R148): with a zero divisor V and SAT are set and `z0` is the result; otherwise `f`. -/
def divOp (s : State) (p : Proc) (gd : BitVec 3) (rd ra rb : BitVec 5) (fn : Nat)
    (z0 : Nat → Int → Int) (f : Nat → Core → Int → Int → Core × Int) : State :=
  let pf := profileOf p
  s.runSat p (encR 0x0F gd rd ra rb fn) gd (allData pf [rd, ra, rb]) 0 fun k =>
    .next (dataOp pf rd ra rb (fun k x y =>
      let n := wordBits pf
      if y = 0 then
        let z := z0 n x
        (((k.zn n z).vf true).setStb 4 true, z)
      else
        let (k1, z) := f n k x y
        (k1.zn n z, z)) k)

/-- The result of DIV and DIVF by zero (R148). -/
def divZero (n : Nat) (x : Int) : Int := if 0 ≤ x then 2 ^ (n - 1) - 1 else -(2 ^ (n - 1))

/-- DIV (R147). -/
def execDiv (p : Proc) (gd : BitVec 3) (rd ra rb : BitVec 5) (s : State) : Host.Outcome State Fault Refusal :=
  ok (divOp s p gd rd ra rb 0x00 divZero fun n k x y => k.sat n (x.tdiv y))
/-- DIVU (R147). -/
def execDivu (p : Proc) (gd : BitVec 3) (rd ra rb : BitVec 5) (s : State) : Host.Outcome State Fault Refusal :=
  ok (divOp s p gd rd ra rb 0x01 (fun _ _ => -1) fun n k x y => (k.vf false, (pat n x / pat n y : Nat)))
/-- REM (R147). -/
def execRem (p : Proc) (gd : BitVec 3) (rd ra rb : BitVec 5) (s : State) : Host.Outcome State Fault Refusal :=
  ok (divOp s p gd rd ra rb 0x02 (fun _ x => x) fun _ k x y => (k.vf false, x.tmod y))
/-- REMU (R147). -/
def execRemu (p : Proc) (gd : BitVec 3) (rd ra rb : BitVec 5) (s : State) : Host.Outcome State Fault Refusal :=
  ok (divOp s p gd rd ra rb 0x03 (fun _ x => x) fun n k x y => (k.vf false, (pat n x % pat n y : Nat)))
/-- DIVF (R147). -/
def execDivf (p : Proc) (gd : BitVec 3) (rd ra rb : BitVec 5) (s : State) : Host.Outcome State Fault Refusal :=
  ok (divOp s p gd rd ra rb 0x04 divZero fun n k x y => k.sat n ((x * 2 ^ (n - 1)).tdiv y))

end Sys2Proof.Machine
end

