-- ==== Sys2Proof/Machine/Tap.lean ====
section
/-! DEFINITION. The test access port: its instructions, the boundary-scan register and the debug access (R611 to R617). -/

namespace Sys2Proof.Machine

/-- The TAP changed. -/
def State.modJtag (s : State) (f : Tap1149 → Tap1149) : State := { s with boot := { s.boot with tap := f s.boot.tap } }

/-- The TAP answers: it is held in Test-Logic-Reset in PARK and KEEP (R617). -/
def State.tapOn (s : State) : Bool := s.fabricOn

/-- TAP_RESET (R611): Test-Logic-Reset selects IDCODE; the result of a debug access in progress is lost (R617). -/
def execTapReset (s : State) : Host.Outcome State Fault Refusal :=
  ok (s.modJtag fun t => { t with ir := .idcode, acc := none })

/-- An instruction is in force and its register has captured `d`. -/
def State.tapLoad (s : State) (ir : TapIr) (d : BitVec 1254) : State :=
  if s.tapOn then s.modJtag fun t => { t with ir := ir, dr := d } else s

/-- An instruction of board test (R613): with TESTEN sampled 0 it acts as BYPASS. -/
def State.tapTest (s : State) (go : State → State) : State := if s.boot.tap.testen then go s else s.tapLoad .bypass 0

/-- What the boundary-scan register captures (R615): position p's input cell 3p the level of its ball. What its output and control
cells capture the spec does not state: free values. -/
def State.scanCapture (s : State) (balls : BitVec 418) : BitVec 1254 :=
  BitVec.ofNat 1254 ((List.range 418).foldl (fun n p =>
    n + 2 ^ (3 * p) * (b2n (balls.getLsbD p) + 2 * ((Config.freeValue (s.freeCtr + p)).toNat % 4))) 0)

/-- A scan of the boundary-scan register: captured, shifted and updated (R615). -/
def State.scan (s : State) (ir : TapIr) (balls : BitVec 418) (cells : BitVec 1254) : State :=
  if s.tapOn then
    let d := s.scanCapture balls
    { s with freeCtr := s.freeCtr + 418 }.modJtag fun t => { t with ir := ir, dr := d, upd := cells }
  else s

/-- What the boundary-scan register drives on position `p`'s ball in board test (R612, R613, R615): none where the ball is not driven. -/
def State.scanDrive (s : State) (p : Fin 418) : Option Bool :=
  let t := s.boot.tap
  if t.testen && (t.ir == .extest || t.ir == .clamp || t.ir == .pulse || t.ir == .train) && t.upd.getLsbD (3 * p.val + 2) then
    some (t.upd.getLsbD (3 * p.val + 1))
  else none

/-- EXTEST (R613): balls are driven from the update cells. -/
def execExtest (balls : BitVec 418) (cells : BitVec 1254) (s : State) : Host.Outcome State Fault Refusal :=
  ok (s.tapTest fun s => s.scan .extest balls cells)

/-- IDCODE (R614). -/
def execIdcode (s : State) : Host.Outcome State Fault Refusal := ok (s.tapLoad .idcode 0x14896953)

/-- SAMPLE/PRELOAD (R613): no ball changes. -/
def execSamplePreload (balls : BitVec 418) (cells : BitVec 1254) (s : State) : Host.Outcome State Fault Refusal :=
  ok (s.scan .sample balls cells)

/-- CLAMP (R613): the bypass register is selected. -/
def execClamp (s : State) : Host.Outcome State Fault Refusal := ok (s.tapTest fun s => s.tapLoad .clamp 0)

/-- HIGHZ (R613): no ball is driven. -/
def execHighz (s : State) : Host.Outcome State Fault Refusal := ok (s.tapTest fun s => s.tapLoad .highz 0)

/-- EXTEST_PULSE (R613): as EXTEST, with pulses of IEEE 1149.6 on ETH and ECHO TX. -/
def execExtestPulse (balls : BitVec 418) (cells : BitVec 1254) (s : State) : Host.Outcome State Fault Refusal :=
  ok (s.tapTest fun s => s.scan .pulse balls cells)

/-- EXTEST_TRAIN (R613). -/
def execExtestTrain (balls : BitVec 418) (cells : BitVec 1254) (s : State) : Host.Outcome State Fault Refusal :=
  ok (s.tapTest fun s => s.scan .train balls cells)

/-- What DBGACC captures (R616): DONE, ERR, STATUS and data of the last access. -/
def State.dbgCapture (s : State) : Nat :=
  match s.boot.tap.acc with
  | none => 0
  | some (st, d) => 2 ^ 65 + b2n (st != stOK) * 2 ^ 64 + st % 256 * 2 ^ 32 + (if st = stOK then d.toNat else 0)

/-- DEBUG (R613): selects DBGACC; in board test it acts as BYPASS. -/
def execDebug (s : State) : Host.Outcome State Fault Refusal :=
  ok (if s.boot.tap.testen then s.tapLoad .bypass 0 else s.tapLoad .debug (BitVec.ofNat 1254 s.dbgCapture))

/-- BYPASS (R613). -/
def execBypass (s : State) : Host.Outcome State Fault Refusal := ok (s.tapLoad .bypass 0)

/-- DBGACC_ACCESS (R616): Update-DR of DBGACC makes an access of the debug agent; a misaligned one is refused with BAD_TARGET
(R12). -/
def execDbgaccAccess (rnw : Bool) (addr data : Word) (s : State) : Host.Outcome State Fault Refusal :=
  ok (if !s.tapOn || s.boot.tap.ir != .debug then s
    else
      let a := addr.toNat
      if a % 4 != 0 then
        (s.refuse .debug stBAD_TARGET (b2n (!rnw)) a).modJtag fun t => { t with acc := some (stBAD_TARGET, 0) }
      else if rnw then
        let r := s.busRead .debug 4 0 a
        r.1.modJtag fun t => { t with acc := some (r.2.1, r.2.2) }
      else
        let r := s.busWrite .debug 4 1 a data
        r.1.modJtag fun t => { t with acc := some (r.2, 0) })

end Sys2Proof.Machine
end

