-- ==== Sys2Proof/Machine/Tick.lean ====
section
/-! DEFINITION. The clock: what one fabric tick, or one reference cycle while the fabric clock stands still, does of its own accord
(R56, R60, R228, R464, R547), and the rate cross-check of TIME (R73). Everything else that happens at a time is a command of its
own. -/

namespace Sys2Proof.Machine

/-- The always-on count moves by `d` / 16 ns, the Grotto's clock by `g` / 3,200 µs while it runs. -/
def State.clocks (s : State) (d g : Nat) : State :=
  let s1 : State := { s with aon := s.aon + d }
  if s1.grottoOn then s1.modGrt fun q => { q with clk := q.clk + g } else s1

/-- Column cycles in one fabric tick: two, or one at throttle level 3 (R544). -/
def State.colCycles (s : State) : Nat := if s.fld THERM_STAT 0 THERM_STAT_TLVL = 3 then 1 else 2

/-- The cycles that a processor spends asleep, in a fence or in user mode are counted where its counters select them (R228, R464): `n`
cycles in one tick. -/
def State.countCycles (s : State) (p : Proc) (n : Nat) : State :=
  if !s.alive p then s
  else
    let user := match p with
      | .cell _ => false
      | .col _ | .grotto => !(s.coreOf p).stb 31
    forN n s fun _ s =>
      let s1 := match s.waitOf p with
        | .sleep _ _ _ => s.pmc p 6 0
        | .fence _ => s.pmc p 0x0C 0x0B
        | .wfi => s.pmc p 0 7
        | .run | .decision _ | .debug => s
      if user then s1.pmc p 0 0x0D else s1

/-- The cycles of every cell and column in one tick. -/
def State.countAll (s : State) : State :=
  let s1 := (List.finRange 128).foldl (fun s c => s.countCycles (.cell c) 1) s
  (List.finRange 5).foldl (fun s i => s.countCycles (.col i) s.colCycles) s1

/-- One fabric tick. -/
def State.fabricTick (s : State) : State :=
  let s1 := ((s.timeTick.softOff).clocks 25 5)
  let s2 : State := if s.treesOn then { s1.countAll with cellTick := s1.cellTick + 1, colTick := s1.colTick + s.colCycles } else s1
  let s3 := (List.finRange 4).foldl (fun s r => s.lanTick r) s2
  if s3.tick % 256 = 0 then { s3 with slotOld := [] } else s3

/-- TIME_ADVANCE (R56, R60): one fabric tick, or one 25 MHz reference cycle while the fabric clock stands still. While a power-on
reset lasts, TIME stays at 0 (R55). -/
def execTimeAdvance (s : State) : Host.Outcome State Fault Refusal :=
  ok (if s.heldScope = 3 then { s with aon := s.aon + 640 }
    else if s.fabricOn then s.fabricTick
    else (s.timeRef).clocks 640 128)

/-- RATE_CHECK (R73): `refCycles` reference cycles have been counted since the last check. -/
def execRateCheck (refCycles : Nat) (s : State) : Host.Outcome State Fault Refusal :=
  ok (if !s.fabricOn then s
    else
      let adv : Int := s.time.now.toNat - s.time.rateFrom
      let want : Int := (refCycles * s.time.inc.toNat * 128 / 5 : Nat)
      let s1 : State := { s with time := { s.time with rateFrom := s.time.now.toNat } }
      if want * 2000 < 1000000 * ((adv - want).natAbs : Int) then
        let s2 := s1.flag TIME_STAT 0 TIME_STAT_RATE_ERR
        if !s2.grottoOn || s2.gHas 16 2 then s2 else (s2.gCause 16 2 true).gLog 16 actReport 2 none
      else s1.gCause 16 2 false)

end Sys2Proof.Machine
end

