-- ==== Sys2Proof/Machine/Dispatch.lean ====
section
/-! DEFINITION. What each command does: one arm per constructor, one direct call of its meaning. -/

namespace Sys2Proof.Machine

/-- The effect of a command on everything but the queue of waiting commands. -/
def exec (i : Instr) (s : State) : Host.Outcome State Fault Refusal :=
  match i with
  | .registerWrite ag addr v => Sys2Proof.Machine.execRegisterWrite ag addr v s
  | .rcRead ag addr => Sys2Proof.Machine.execRcRead ag addr s
  | .transactionTimeout ag write addr => Sys2Proof.Machine.execTransactionTimeout ag write addr s
  | .errorEscalation unit => Sys2Proof.Machine.execErrorEscalation unit s
  | .fabErrPop ag v => Sys2Proof.Machine.execFabErrPop ag v s
  | .bankScrub b bank line found => Sys2Proof.Machine.execBankScrub b bank line found s
  | .arrayScrub arr word found => Sys2Proof.Machine.execArrayScrub arr word found s
  | .timeAdvance => Sys2Proof.Machine.execTimeAdvance s
  | .timeNsLoRead ag => Sys2Proof.Machine.execTimeNsLoRead ag s
  | .timeIncIntWrite ag v => Sys2Proof.Machine.execTimeIncIntWrite ag v s
  | .timeIncFracWrite ag v => Sys2Proof.Machine.execTimeIncFracWrite ag v s
  | .step ag v => Sys2Proof.Machine.execStep ag v s
  | .timeSlewWrite ag v => Sys2Proof.Machine.execTimeSlewWrite ag v s
  | .srcChange ag v => Sys2Proof.Machine.execSrcChange ag v s
  | .timeOfsInWrite ag v => Sys2Proof.Machine.execTimeOfsInWrite ag v s
  | .ppsEdge pin rising => Sys2Proof.Machine.execPpsEdge pin rising s
  | .sourceLost => Sys2Proof.Machine.execSourceLost s
  | .holdoverErrbUpdate => Sys2Proof.Machine.execHoldoverErrbUpdate s
  | .rateCheck refCycles => Sys2Proof.Machine.execRateCheck refCycles s
  | .trackerEnable ag x v => Sys2Proof.Machine.execTrackerEnable ag x v s
  | .trackerUpdate => Sys2Proof.Machine.execTrackerUpdate s
  | .sourceFault x src => Sys2Proof.Machine.execSourceFault x src s
  | .trackerFault x => Sys2Proof.Machine.execTrackerFault x s
  | .angleSet ag x rev => Sys2Proof.Machine.execAngleSet ag x rev s
  | .angCmdPri ag x => Sys2Proof.Machine.execAngCmdPri ag x s
  | .angObsWrite ag x v => Sys2Proof.Machine.execAngObsWrite ag x v s
  | .modeChange ag x mode => Sys2Proof.Machine.execModeChange ag x mode s
  | .submission ag v => Sys2Proof.Machine.execSubmission ag v s
  | .submissionDecision => Sys2Proof.Machine.execSubmissionDecision s
  | .galCancel ag v => Sys2Proof.Machine.execGalCancel ag v s
  | .galQuotaWrite ag c v => Sys2Proof.Machine.execGalQuotaWrite ag c v s
  | .timeEventCommit n => Sys2Proof.Machine.execTimeEventCommit n s
  | .eventIssue e => Sys2Proof.Machine.execEventIssue e s
  | .nopAction e => Sys2Proof.Machine.execNopAction e s
  | .cellEvent e => Sys2Proof.Machine.execCellEvent e s
  | .pwmEdge e => Sys2Proof.Machine.execPwmEdge e s
  | .pwmLoadall e => Sys2Proof.Machine.execPwmLoadall e s
  | .adcTrigger e => Sys2Proof.Machine.execAdcTrigger e s
  | .pin e => Sys2Proof.Machine.execPin e s
  | .ringPush e => Sys2Proof.Machine.execRingPush e s
  | .echoSend e => Sys2Proof.Machine.execEchoSend e s
  | .columnIrq e => Sys2Proof.Machine.execColumnIrq e s
  | .safeCheck e => Sys2Proof.Machine.execSafeCheck e s
  | .holdRetry e => Sys2Proof.Machine.execHoldRetry e s
  | .holdTimeout e => Sys2Proof.Machine.execHoldTimeout e s
  | .ringEnable ag n v => Sys2Proof.Machine.execRingEnable ag n v s
  | .ringDisable ag n v => Sys2Proof.Machine.execRingDisable ag n v s
  | .ringConsWrite ag n cons => Sys2Proof.Machine.execRingConsWrite ag n cons s
  | .ringProdWrite ag n prod => Sys2Proof.Machine.execRingProdWrite ag n prod s
  | .add p gd rd ra rb => Sys2Proof.Machine.execAdd p gd rd ra rb s
  | .sub p gd rd ra rb => Sys2Proof.Machine.execSub p gd rd ra rb s
  | .addw p gd rd ra rb => Sys2Proof.Machine.execAddw p gd rd ra rb s
  | .subw p gd rd ra rb => Sys2Proof.Machine.execSubw p gd rd ra rb s
  | .and p gd rd ra rb => Sys2Proof.Machine.execAnd p gd rd ra rb s
  | .or p gd rd ra rb => Sys2Proof.Machine.execOr p gd rd ra rb s
  | .xor p gd rd ra rb => Sys2Proof.Machine.execXor p gd rd ra rb s
  | .andn p gd rd ra rb => Sys2Proof.Machine.execAndn p gd rd ra rb s
  | .shl p gd rd ra rb => Sys2Proof.Machine.execShl p gd rd ra rb s
  | .shr p gd rd ra rb => Sys2Proof.Machine.execShr p gd rd ra rb s
  | .sra p gd rd ra rb => Sys2Proof.Machine.execSra p gd rd ra rb s
  | .shls p gd rd ra rb => Sys2Proof.Machine.execShls p gd rd ra rb s
  | .min p gd rd ra rb => Sys2Proof.Machine.execMin p gd rd ra rb s
  | .max p gd rd ra rb => Sys2Proof.Machine.execMax p gd rd ra rb s
  | .minu p gd rd ra rb => Sys2Proof.Machine.execMinu p gd rd ra rb s
  | .maxu p gd rd ra rb => Sys2Proof.Machine.execMaxu p gd rd ra rb s
  | .neg p gd rd ra rb => Sys2Proof.Machine.execNeg p gd rd ra rb s
  | .abs p gd rd ra rb => Sys2Proof.Machine.execAbs p gd rd ra rb s
  | .clip p gd rd ra rb => Sys2Proof.Machine.execClip p gd rd ra rb s
  | .cls p gd rd ra rb => Sys2Proof.Machine.execCls p gd rd ra rb s
  | .clz p gd rd ra rb => Sys2Proof.Machine.execClz p gd rd ra rb s
  | .mov p gd rd ra rb => Sys2Proof.Machine.execMov p gd rd ra rb s
  | .avg p gd rd ra rb => Sys2Proof.Machine.execAvg p gd rd ra rb s
  | .ror p gd rd ra rb => Sys2Proof.Machine.execRor p gd rd ra rb s
  | .addi p gd rd ra imm => Sys2Proof.Machine.execAddi p gd rd ra imm s
  | .andi p gd rd ra imm => Sys2Proof.Machine.execAndi p gd rd ra imm s
  | .ori p gd rd ra imm => Sys2Proof.Machine.execOri p gd rd ra imm s
  | .xori p gd rd ra imm => Sys2Proof.Machine.execXori p gd rd ra imm s
  | .shiShl p gd rd ra imm => Sys2Proof.Machine.execShiShl p gd rd ra imm s
  | .shiShr p gd rd ra imm => Sys2Proof.Machine.execShiShr p gd rd ra imm s
  | .shiSra p gd rd ra imm => Sys2Proof.Machine.execShiSra p gd rd ra imm s
  | .shiShls p gd rd ra imm => Sys2Proof.Machine.execShiShls p gd rd ra imm s
  | .shiRor p gd rd ra imm => Sys2Proof.Machine.execShiRor p gd rd ra imm s
  | .li p gd rd imm => Sys2Proof.Machine.execLi p gd rd imm s
  | .lih p gd rd imm => Sys2Proof.Machine.execLih p gd rd imm s
  | .extu p gd rd ra pos len1 => Sys2Proof.Machine.execExtu p gd rd ra pos len1 s
  | .exts p gd rd ra pos len1 => Sys2Proof.Machine.execExts p gd rd ra pos len1 s
  | .ins p gd rd ra pos len1 => Sys2Proof.Machine.execIns p gd rd ra pos len1 s
  | .cmp p gd pd cond ra rb fn => Sys2Proof.Machine.execCmp p gd pd cond ra rb fn s
  | .cmpi p gd pd cond ra imm => Sys2Proof.Machine.execCmpi p gd pd cond ra imm s
  | .plog p gd pd pa pb op2 => Sys2Proof.Machine.execPlog p gd pd pa pb op2 s
  | .mull p gd rd ra rb => Sys2Proof.Machine.execMull p gd rd ra rb s
  | .mulh p gd rd ra rb => Sys2Proof.Machine.execMulh p gd rd ra rb s
  | .mulhu p gd rd ra rb => Sys2Proof.Machine.execMulhu p gd rd ra rb s
  | .mulf p gd rd ra rb => Sys2Proof.Machine.execMulf p gd rd ra rb s
  | .mulw p gd rd ra rb => Sys2Proof.Machine.execMulw p gd rd ra rb s
  | .mac p gd aa ab ra rb => Sys2Proof.Machine.execMac p gd aa ab ra rb s
  | .msu p gd aa ab ra rb => Sys2Proof.Machine.execMsu p gd aa ab ra rb s
  | .mpy p gd aa ab ra rb => Sys2Proof.Machine.execMpy p gd aa ab ra rb s
  | .maci p gd aa ab ra rb => Sys2Proof.Machine.execMaci p gd aa ab ra rb s
  | .mac2 p gd aa ab ra rb => Sys2Proof.Machine.execMac2 p gd aa ab ra rb s
  | .macd p gd aa ab ra rb => Sys2Proof.Machine.execMacd p gd aa ab ra rb s
  | .macx p gd aa ab ra rb => Sys2Proof.Machine.execMacx p gd aa ab ra rb s
  | .mpyd p gd aa ab ra rb => Sys2Proof.Machine.execMpyd p gd aa ab ra rb s
  | .mpyx p gd aa ab ra rb => Sys2Proof.Machine.execMpyx p gd aa ab ra rb s
  | .clra p gd aa ab ra rb => Sys2Proof.Machine.execClra p gd aa ab ra rb s
  | .ldah p gd aa ab ra rb => Sys2Proof.Machine.execLdah p gd aa ab ra rb s
  | .ldaw p gd aa ab ra rb => Sys2Proof.Machine.execLdaw p gd aa ab ra rb s
  | .rdah p gd aa ab ra rb => Sys2Proof.Machine.execRdah p gd aa ab ra rb s
  | .rdaw p gd aa ab ra rb => Sys2Proof.Machine.execRdaw p gd aa ab ra rb s
  | .sha p gd aa ab ra rb => Sys2Proof.Machine.execSha p gd aa ab ra rb s
  | .adda p gd aa ab ra rb => Sys2Proof.Machine.execAdda p gd aa ab ra rb s
  | .suba p gd aa ab ra rb => Sys2Proof.Machine.execSuba p gd aa ab ra rb s
  | .nega p gd aa ab ra rb => Sys2Proof.Machine.execNega p gd aa ab ra rb s
  | .mova p gd aa ab ra rb => Sys2Proof.Machine.execMova p gd aa ab ra rb s
  | .div p gd rd ra rb => Sys2Proof.Machine.execDiv p gd rd ra rb s
  | .divu p gd rd ra rb => Sys2Proof.Machine.execDivu p gd rd ra rb s
  | .rem p gd rd ra rb => Sys2Proof.Machine.execRem p gd rd ra rb s
  | .remu p gd rd ra rb => Sys2Proof.Machine.execRemu p gd rd ra rb s
  | .divf p gd rd ra rb => Sys2Proof.Machine.execDivf p gd rd ra rb s
  | .ld p gd rd ra wd imm => Sys2Proof.Machine.execLd p gd rd ra wd imm s
  | .ldu p gd rd ra wd imm => Sys2Proof.Machine.execLdu p gd rd ra wd imm s
  | .st p gd rd ra wd imm => Sys2Proof.Machine.execSt p gd rd ra wd imm s
  | .ldstxLoad p gd rd ra wd md imm => Sys2Proof.Machine.execLdstxLoad p gd rd ra wd md imm s
  | .ldstxStore p gd rd ra wd md imm => Sys2Proof.Machine.execLdstxStore p gd rd ra wd md imm s
  | .writeBufferDrain c => Sys2Proof.Machine.execWriteBufferDrain c s
  | .accessPostedTrap p => Sys2Proof.Machine.execAccessPostedTrap p s
  | .br p gd off => Sys2Proof.Machine.execBr p gd off s
  | .call p gd off => Sys2Proof.Machine.execCall p gd off s
  | .jr p gd rd ra rb => Sys2Proof.Machine.execJr p gd rd ra rb s
  | .jrLink p gd rd ra rb => Sys2Proof.Machine.execJrLink p gd rd ra rb s
  | .loop p gd n ci cnt ra len => Sys2Proof.Machine.execLoop p gd n ci cnt ra len s
  | .nop p gd rd spn => Sys2Proof.Machine.execNop p gd rd spn s
  | .trap p gd rd spn => Sys2Proof.Machine.execTrap p gd rd spn s
  | .eret p gd rd spn => Sys2Proof.Machine.execEret p gd rd spn s
  | .brk p gd rd spn => Sys2Proof.Machine.execBrk p gd rd spn s
  | .mfs p gd rd spn => Sys2Proof.Machine.execMfs p gd rd spn s
  | .mts p gd rd spn => Sys2Proof.Machine.execMts p gd rd spn s
  | .eventEntry c => Sys2Proof.Machine.execEventEntry c s
  | .clarke p gd rd ra rb => Sys2Proof.Machine.execClarke p gd rd ra rb s
  | .clarke3 p gd rd ra rb => Sys2Proof.Machine.execClarke3 p gd rd ra rb s
  | .park p gd rd ra rb => Sys2Proof.Machine.execPark p gd rd ra rb s
  | .ipark p gd rd ra rb => Sys2Proof.Machine.execIpark p gd rd ra rb s
  | .sincos p gd rd ra rb => Sys2Proof.Machine.execSincos p gd rd ra rb s
  | .sv p gd rd ra rb => Sys2Proof.Machine.execSv p gd rd ra rb s
  | .sin p gd rd ra rb => Sys2Proof.Machine.execSin p gd rd ra rb s
  | .dmin p gd rd ra rb => Sys2Proof.Machine.execDmin p gd rd ra rb s
  | .vec p gd rd ra rb => Sys2Proof.Machine.execVec p gd rd ra rb s
  | .rot p gd rd ra rb => Sys2Proof.Machine.execRot p gd rd ra rb s
  | .pi p gd rd ra rb fn => Sys2Proof.Machine.execPi p gd rd ra rb fn s
  | .pid p gd rd ra rb fn => Sys2Proof.Machine.execPid p gd rd ra rb fn s
  | .gbrd p gd rd spn => Sys2Proof.Machine.execGbrd p gd rd spn s
  | .gbrda p gd rd spn => Sys2Proof.Machine.execGbrda p gd rd spn s
  | .gbwr p gd rd spn => Sys2Proof.Machine.execGbwr p gd rd spn s
  | .lutg p gd rd ra rb fn => Sys2Proof.Machine.execLutg p gd rd ra rb fn s
  | .blkmac p gd aa ab ra rb fn most => Sys2Proof.Machine.execBlkmac p gd aa ab ra rb fn most s
  | .movb p gd rd ra rb most => Sys2Proof.Machine.execMovb p gd rd ra rb most s
  | .fillb p gd rd ra rb most => Sys2Proof.Machine.execFillb p gd rd ra rb most s
  | .ckpt p gd rd ra rb fn => Sys2Proof.Machine.execCkpt p gd rd ra rb fn s
  | .submit p gd rd ra rb fn => Sys2Proof.Machine.execSubmit p gd rd ra rb fn s
  | .wait p gd rd ra rb fn => Sys2Proof.Machine.execWait p gd rd ra rb fn s
  | .waitp p gd rd ra rb fn => Sys2Proof.Machine.execWaitp p gd rd ra rb fn s
  | .waitTimeout c => Sys2Proof.Machine.execWaitTimeout c s
  | .fenceB p gd rd ra rb => Sys2Proof.Machine.execFenceB p gd rd ra rb s
  | .fenceR p gd rd ra rb => Sys2Proof.Machine.execFenceR p gd rd ra rb s
  | .fenceC p gd rd ra rb => Sys2Proof.Machine.execFenceC p gd rd ra rb s
  | .fenceE p gd rd ra rb => Sys2Proof.Machine.execFenceE p gd rd ra rb s
  | .fenceComplete p => Sys2Proof.Machine.execFenceComplete p s
  | .start ag c load entry => Sys2Proof.Machine.execStart ag c load entry s
  | .imageCopyDone c => Sys2Proof.Machine.execImageCopyDone c s
  | .stop ag c => Sys2Proof.Machine.execStop ag c s
  | .cellBindWrite ag c v => Sys2Proof.Machine.execCellBindWrite ag c v s
  | .kick c => Sys2Proof.Machine.execKick c s
  | .trapesc c => Sys2Proof.Machine.execTrapesc c s
  | .wdt c => Sys2Proof.Machine.execWdt c s
  | .ckage c => Sys2Proof.Machine.execCkage c s
  | .migrationComplete c => Sys2Proof.Machine.execMigrationComplete c s
  | .migrationHoldTimeout g => Sys2Proof.Machine.execMigrationHoldTimeout g s
  | .releasePhysical ag b mask => Sys2Proof.Machine.execReleasePhysical ag b mask s
  | .pmcOverflowEntry c => Sys2Proof.Machine.execPmcOverflowEntry c s
  | .axVdqWrite ag x v => Sys2Proof.Machine.execAxVdqWrite ag x v s
  | .apply ag x => Sys2Proof.Machine.execApply ag x s
  | .excl ag x m => Sys2Proof.Machine.execExcl ag x m s
  | .readmit ag x m => Sys2Proof.Machine.execReadmit ag x m s
  | .oppStart ag x angle p => Sys2Proof.Machine.execOppStart ag x angle p s
  | .oppSwitch ag x angle p => Sys2Proof.Machine.execOppSwitch ag x angle p s
  | .oppStop ag x angle => Sys2Proof.Machine.execOppStop ag x angle s
  | .ssxCtrlStart ag x => Sys2Proof.Machine.execSsxCtrlStart ag x s
  | .ssxCtrlStop ag x => Sys2Proof.Machine.execSsxCtrlStop ag x s
  | .zeroCrossing x ph held => Sys2Proof.Machine.execZeroCrossing x ph held s
  | .commutation x => Sys2Proof.Machine.execCommutation x s
  | .forcedCommutation x => Sys2Proof.Machine.execForcedCommutation x s
  | .rampCommutation x => Sys2Proof.Machine.execRampCommutation x s
  | .ssxPhaseTimer x => Sys2Proof.Machine.execSsxPhaseTimer x s
  | .groupEnable ag g v => Sys2Proof.Machine.execGroupEnable ag g v s
  | .groupStart g => Sys2Proof.Machine.execGroupStart g s
  | .groupDisable ag g v => Sys2Proof.Machine.execGroupDisable ag g v s
  | .periodBoundary g => Sys2Proof.Machine.execPeriodBoundary g s
  | .pmid g => Sys2Proof.Machine.execPmid g s
  | .shadowSnapshot g => Sys2Proof.Machine.execShadowSnapshot g s
  | .pwmLoadallWrite ag r v => Sys2Proof.Machine.execPwmLoadallWrite ag r v s
  | .carrierEdge k p => Sys2Proof.Machine.execCarrierEdge k p s
  | .tableEdge k p => Sys2Proof.Machine.execTableEdge k p s
  | .listEdge k ix => Sys2Proof.Machine.execListEdge k ix s
  | .minPulseRelease k ix => Sys2Proof.Machine.execMinPulseRelease k ix s
  | .deadTimeExpiry k ix => Sys2Proof.Machine.execDeadTimeExpiry k ix s
  | .maskIndexSet ag k v => Sys2Proof.Machine.execMaskIndexSet ag k v s
  | .gdlEnable ag j v => Sys2Proof.Machine.execGdlEnable ag j v s
  | .gdlInitRetry j => Sys2Proof.Machine.execGdlInitRetry j s
  | .gdlRead ag j sel addr => Sys2Proof.Machine.execGdlRead ag j sel addr s
  | .gdlWrite ag j sel addr data => Sys2Proof.Machine.execGdlWrite ag j sel addr data s
  | .clrf ag j sel => Sys2Proof.Machine.execClrf ag j sel s
  | .gdlNop ag j sel => Sys2Proof.Machine.execGdlNop ag j sel s
  | .replyFrame j w coded => Sys2Proof.Machine.execReplyFrame j w coded s
  | .gdlReplyTimeout j => Sys2Proof.Machine.execGdlReplyTimeout j s
  | .gdlSilenceTimeout j => Sys2Proof.Machine.execGdlSilenceTimeout j s
  | .stuckLine j => Sys2Proof.Machine.execStuckLine j s
  | .faultFrame j code => Sys2Proof.Machine.execFaultFrame j code s
  | .pollRound j => Sys2Proof.Machine.execPollRound j s
  | .scanStart j => Sys2Proof.Machine.execScanStart j s
  | .adcResult j raw above below => Sys2Proof.Machine.execAdcResult j raw above below s
  | .refrdy j => Sys2Proof.Machine.execRefrdy j s
  | .dsmOutput ix bits => Sys2Proof.Machine.execDsmOutput ix bits s
  | .dsmSync ag ix => Sys2Proof.Machine.execDsmSync ag ix s
  | .dsmArm ag ix => Sys2Proof.Machine.execDsmArm ag ix s
  | .stuckRun ix bits => Sys2Proof.Machine.execStuckRun ix bits s
  | .comparatorOutputChange c v vref vrefl vrefh held => Sys2Proof.Machine.execComparatorOutputChange c v vref vrefl vrefh held s
  | .settleEnd c v vref vrefl vrefh => Sys2Proof.Machine.execSettleEnd c v vref vrefl vrefh s
  | .sampledEvaluation c v vref vrefl vrefh => Sys2Proof.Machine.execSampledEvaluation c v vref vrefl vrefh s
  | .chopperTimer r => Sys2Proof.Machine.execChopperTimer r s
  | .energyModelUpdate r => Sys2Proof.Machine.execEnergyModelUpdate r s
  | .episodeEnd r => Sys2Proof.Machine.execEpisodeEnd r s
  | .sumpDisch ag r v => Sys2Proof.Machine.execSumpDisch ag r v s
  | .dstop ag r => Sys2Proof.Machine.execDstop ag r s
  | .dischargePulseTimer r => Sys2Proof.Machine.execDischargePulseTimer r s
  | .dischargeTimeout r => Sys2Proof.Machine.execDischargeTimeout r s
  | .posSample k sn cs neg => Sys2Proof.Machine.execPosSample k sn cs neg s
  | .excitationCheck k amp => Sys2Proof.Machine.execExcitationCheck k amp s
  | .quadEdge k a b held => Sys2Proof.Machine.execQuadEdge k a b held s
  | .referenceMark k held => Sys2Proof.Machine.execReferenceMark k held s
  | .hallEdge k h held => Sys2Proof.Machine.execHallEdge k h held s
  | .ssiFrameStart k => Sys2Proof.Machine.execSsiFrameStart k s
  | .ssiFrameEnd k first value again check => Sys2Proof.Machine.execSsiFrameEnd k first value again check s
  | .posSet ag k => Sys2Proof.Machine.execPosSet ag k s
  | .zarm ag k => Sys2Proof.Machine.execZarm ag k s
  | .posArm ag k => Sys2Proof.Machine.execPosArm ag k s
  | .comparePulseEnd k one => Sys2Proof.Machine.execComparePulseEnd k one s
  | .dividerStep k => Sys2Proof.Machine.execDividerStep k s
  | .ascDeadTimeExpiry k => Sys2Proof.Machine.execAscDeadTimeExpiry k s
  | .orderRefreshTimeout => Sys2Proof.Machine.execOrderRefreshTimeout s
  | .lockstepMismatch ix cause => Sys2Proof.Machine.execLockstepMismatch ix cause s
  | .asyncMismatch ix persists => Sys2Proof.Machine.execAsyncMismatch ix persists s
  | .injectionPass ix reported => Sys2Proof.Machine.execInjectionPass ix reported s
  | .confirmedAliasRead c rd wake agreed => Sys2Proof.Machine.execConfirmedAliasRead c rd wake agreed s
  | .doorbell ag k => Sys2Proof.Machine.execDoorbell ag k s
  | .mailboxReply k => Sys2Proof.Machine.execMailboxReply k s
  | .ss1 k => Sys2Proof.Machine.execSs1 k s
  | .sto k => Sys2Proof.Machine.execSto k s
  | .release k => Sys2Proof.Machine.execRelease k s
  | .clrflt k => Sys2Proof.Machine.execClrflt k s
  | .disch k => Sys2Proof.Machine.execDisch k s
  | .pwrreq k => Sys2Proof.Machine.execPwrreq k s
  | .openSession k => Sys2Proof.Machine.execOpen k s
  | .paramWrite k => Sys2Proof.Machine.execParamWrite k s
  | .check k => Sys2Proof.Machine.execCheck k s
  | .confirm k => Sys2Proof.Machine.execConfirm k s
  | .loadconf k => Sys2Proof.Machine.execLoadconf k s
  | .close k => Sys2Proof.Machine.execClose k s
  | .paramRead k => Sys2Proof.Machine.execParamRead k s
  | .heartbeatTimeout c => Sys2Proof.Machine.execHeartbeatTimeout c s
  | .clockMonitor ref fab genA genB => Sys2Proof.Machine.execClockMonitor ref fab genA genB s
  | .supplyFault rail mv held => Sys2Proof.Machine.execSupplyFault rail mv held s
  | .tapSample k sn cs pz => Sys2Proof.Machine.execTapSample k sn cs pz s
  | .torqueMonitorSlice x iar ibr iap ibp vdc t0 t1 => Sys2Proof.Machine.execTorqueMonitorSlice x iar ibr iap ibp vdc t0 t1 s
  | .ascExit x => Sys2Proof.Machine.execAscExit x s
  | .dischargeRequest l => Sys2Proof.Machine.execDischargeRequest l s
  | .envelopeTimeout x => Sys2Proof.Machine.execEnvelopeTimeout x s
  | .grottoInitComplete inj sram => Sys2Proof.Machine.execGrottoInitComplete inj sram s
  | .ccvCheck hit => Sys2Proof.Machine.execCcvCheck hit s
  | .safeInputChange ix lvl held => Sys2Proof.Machine.execSafeInputChange ix lvl held s
  | .testPulse t lows => Sys2Proof.Machine.execTestPulse t lows s
  | .discrepancyTimeout k => Sys2Proof.Machine.execDiscrepancyTimeout k s
  | .xlFrameReceived k f bad => Sys2Proof.Machine.execXlFrameReceived k f bad s
  | .xlStatusSend k => Sys2Proof.Machine.execXlStatusSend k s
  | .xlTimeout k => Sys2Proof.Machine.execXlTimeout k s
  | .csrr p gd rd ra imm => Sys2Proof.Machine.execCsrr p gd rd ra imm s
  | .csrw p gd rd ra imm => Sys2Proof.Machine.execCsrw p gd rd ra imm s
  | .csrs p gd rd ra imm => Sys2Proof.Machine.execCsrs p gd rd ra imm s
  | .csrc p gd rd ra imm => Sys2Proof.Machine.execCsrc p gd rd ra imm s
  | .curchWrite p gd rd ra => Sys2Proof.Machine.execCurchWrite p gd rd ra s
  | .swi p gd rd ra => Sys2Proof.Machine.execSwi p gd rd ra s
  | .interruptEntry p => Sys2Proof.Machine.execInterruptEntry p s
  | .cacheInvalidateLine p gd rd ra rb => Sys2Proof.Machine.execCacheInvalidateLine p gd rd ra rb s
  | .cacheWritebackLine p gd rd ra rb => Sys2Proof.Machine.execCacheWritebackLine p gd rd ra rb s
  | .cacheFlushLine p gd rd ra rb => Sys2Proof.Machine.execCacheFlushLine p gd rd ra rb s
  | .cacheInvalidateIline p gd rd ra rb => Sys2Proof.Machine.execCacheInvalidateIline p gd rd ra rb s
  | .cacheFlushData p gd rd ra rb most => Sys2Proof.Machine.execCacheFlushData p gd rd ra rb most s
  | .cacheInvalidateInstr p gd rd ra rb => Sys2Proof.Machine.execCacheInvalidateInstr p gd rd ra rb s
  | .bmov p gd rd ra rb most => Sys2Proof.Machine.execBmov p gd rd ra rb most s
  | .bmovFill p gd rd ra rb most => Sys2Proof.Machine.execBmovFill p gd rd ra rb most s
  | .savem p gd rd ra rb fn most => Sys2Proof.Machine.execSavem p gd rd ra rb fn most s
  | .restm p gd rd ra rb fn most => Sys2Proof.Machine.execRestm p gd rd ra rb fn most s
  | .wfi p gd rd ra rb fn => Sys2Proof.Machine.execWfi p gd rd ra rb fn s
  | .chamberCreate ag c v => Sys2Proof.Machine.execChamberCreate ag c v s
  | .chamberDelete ag c v => Sys2Proof.Machine.execChamberDelete ag c v s
  | .assign ag kind c => Sys2Proof.Machine.execAssign ag kind c s
  | .assignFree ag kind => Sys2Proof.Machine.execAssignFree ag kind s
  | .fabQuery ag kind ix => Sys2Proof.Machine.execFabQuery ag kind ix s
  | .abortCell ag t => Sys2Proof.Machine.execAbortCell ag t s
  | .abortBlock ag t => Sys2Proof.Machine.execAbortBlock ag t s
  | .abortLink ag t => Sys2Proof.Machine.execAbortLink ag t s
  | .abortRegion ag t => Sys2Proof.Machine.execAbortRegion ag t s
  | .abortChamber ag t => Sys2Proof.Machine.execAbortChamber ag t s
  | .abortComplete late => Sys2Proof.Machine.execAbortComplete late s
  | .columnWatchdogExpiry c => Sys2Proof.Machine.execColumnWatchdogExpiry c s
  | .colkick ag c v => Sys2Proof.Machine.execColkick ag c v s
  | .columnReset ag c => Sys2Proof.Machine.execColumnReset ag c s
  | .columnRestart c => Sys2Proof.Machine.execColumnRestart c s
  | .echoData k l ago bad eccBad => Sys2Proof.Machine.execEchoData k l ago bad eccBad s
  | .echoAck k l bad => Sys2Proof.Machine.execEchoAck k l bad s
  | .ttSync k l bad ago lead => Sys2Proof.Machine.execTtSync k l bad ago lead s
  | .ttResp k l bad ago => Sys2Proof.Machine.execTtResp k l bad ago s
  | .echoBreak k l bad seg => Sys2Proof.Machine.execEchoBreak k l bad seg s
  | .mend k l bad seg => Sys2Proof.Machine.execMend k l bad seg s
  | .ttSyncSend k lead => Sys2Proof.Machine.execTtSyncSend k lead s
  | .ttTimeout k => Sys2Proof.Machine.execTtTimeout k s
  | .portUp k held => Sys2Proof.Machine.execPortUp k held s
  | .portDown k => Sys2Proof.Machine.execPortDown k s
  | .echoSlotTransmit k => Sys2Proof.Machine.execEchoSlotTransmit k s
  | .ackTimeout => Sys2Proof.Machine.execAckTimeout s
  | .ethFrameReceived k l ago => Sys2Proof.Machine.execEthFrameReceived k l ago s
  | .ethTransmit k lead => Sys2Proof.Machine.execEthTransmit k lead s
  | .ethLinkChange k up speed => Sys2Proof.Machine.execEthLinkChange k up speed s
  | .mdioTransaction ag v => Sys2Proof.Machine.execMdioTransaction ag v s
  | .mdioDone data => Sys2Proof.Machine.execMdioDone data s
  | .canFrameReceived k f ago => Sys2Proof.Machine.execCanFrameReceived k f ago s
  | .canReq ag k b v => Sys2Proof.Machine.execCanReq ag k b v s
  | .canAbort ag k b v => Sys2Proof.Machine.execCanAbort ag k b v s
  | .txSelection k => Sys2Proof.Machine.execTxSelection k s
  | .canTxEnd k how => Sys2Proof.Machine.execCanTxEnd k how s
  | .recover ag k v => Sys2Proof.Machine.execRecover ag k v s
  | .busOffRecovery k => Sys2Proof.Machine.execBusOffRecovery k s
  | .spiTxdWrite ag k v => Sys2Proof.Machine.execSpiTxdWrite ag k v s
  | .spiWordDone k miso => Sys2Proof.Machine.execSpiWordDone k miso s
  | .spiTargetWrite off data => Sys2Proof.Machine.execSpiTargetWrite off data s
  | .spiTargetRead off n => Sys2Proof.Machine.execSpiTargetRead off n s
  | .spiTargetStatus => Sys2Proof.Machine.execSpiTargetStatus s
  | .spiCsRise unknown => Sys2Proof.Machine.execSpiCsRise unknown s
  | .xspiCmd ag v => Sys2Proof.Machine.execXspiCmd ag v s
  | .xspiDone data timeout => Sys2Proof.Machine.execXspiDone data timeout s
  | .uartTxdWrite ag k v => Sys2Proof.Machine.execUartTxdWrite ag k v s
  | .uartRxByte k b fe pe brk => Sys2Proof.Machine.execUartRxByte k b fe pe brk s
  | .i2cCmd ag k v => Sys2Proof.Machine.execI2cCmd ag k v s
  | .i2cDone k how => Sys2Proof.Machine.execI2cDone k how s
  | .i2cTimeout k => Sys2Proof.Machine.execI2cTimeout k s
  | .gpioSet ag v => Sys2Proof.Machine.execGpioSet ag v s
  | .gpioClr ag v => Sys2Proof.Machine.execGpioClr ag v s
  | .gpioInputChange n level held => Sys2Proof.Machine.execGpioInputChange n level held s
  | .pinPulseEnd n => Sys2Proof.Machine.execPinPulseEnd n s
  | .avsWriteVoltage ag k v => Sys2Proof.Machine.execAvsWriteVoltage ag k v s
  | .avsReadVoltage ag k v => Sys2Proof.Machine.execAvsReadVoltage ag k v s
  | .avsReadStatus ag k v => Sys2Proof.Machine.execAvsReadStatus ag k v s
  | .avsStatusPoll k => Sys2Proof.Machine.execAvsStatusPoll k s
  | .avsResend k => Sys2Proof.Machine.execAvsResend k s
  | .avsTimeout k => Sys2Proof.Machine.execAvsTimeout k s
  | .sensorRound t => Sys2Proof.Machine.execSensorRound t s
  | .halt => Sys2Proof.Machine.execHalt s
  | .serviceWrite ag v => Sys2Proof.Machine.execServiceWrite ag v s
  | .currentEstimate c q d => Sys2Proof.Machine.execCurrentEstimate c q d s
  | .lanternStep r => Sys2Proof.Machine.execLanternStep r s
  | .doze ag => Sys2Proof.Machine.execDoze ag s
  | .keep ag => Sys2Proof.Machine.execKeep ag s
  | .quiescence => Sys2Proof.Machine.execQuiescence s
  | .quiescenceTimeout => Sys2Proof.Machine.execQuiescenceTimeout s
  | .entryDrain => Sys2Proof.Machine.execEntryDrain s
  | .entryCommit => Sys2Proof.Machine.execEntryCommit s
  | .entryComplete => Sys2Proof.Machine.execEntryComplete s
  | .dozeExit => Sys2Proof.Machine.execDozeExit s
  | .consentExpiry => Sys2Proof.Machine.execConsentExpiry s
  | .wakeSample k v => Sys2Proof.Machine.execWakeSample k v s
  | .wake => Sys2Proof.Machine.execWake s
  | .wakePowerUp => Sys2Proof.Machine.execWakePowerUp s
  | .wakePllLock levels => Sys2Proof.Machine.execWakePllLock levels s
  | .wakeFailure => Sys2Proof.Machine.execWakeFailure s
  | .wakeRetry => Sys2Proof.Machine.execWakeRetry s
  | .powerOnReset => Sys2Proof.Machine.execPowerOnReset s
  | .supplyMonitorReset rail mv => Sys2Proof.Machine.execSupplyMonitorReset rail mv s
  | .grottoReset mv => Sys2Proof.Machine.execGrottoReset mv s
  | .coldReset ag => Sys2Proof.Machine.execColdReset ag s
  | .warmReset ag => Sys2Proof.Machine.execWarmReset ag s
  | .wrst low => Sys2Proof.Machine.execWrst low s
  | .colhHaltReset => Sys2Proof.Machine.execColhHaltReset s
  | .resetRelease mode testen => Sys2Proof.Machine.execResetRelease mode testen s
  | .selfTestWave bad => Sys2Proof.Machine.execSelfTestWave bad s
  | .boot prim sec => Sys2Proof.Machine.execBoot prim sec s
  | .newchal ag => Sys2Proof.Machine.execNewchal ag s
  | .nonceReady nonce => Sys2Proof.Machine.execNonceReady nonce s
  | .dbgSubmit ag level kslot => Sys2Proof.Machine.execDbgSubmit ag level kslot s
  | .dbgDecision => Sys2Proof.Machine.execDbgDecision s
  | .dripSlice k fails => Sys2Proof.Machine.execDripSlice k fails s
  | .tapReset => Sys2Proof.Machine.execTapReset s
  | .extest balls cells => Sys2Proof.Machine.execExtest balls cells s
  | .idcode => Sys2Proof.Machine.execIdcode s
  | .samplePreload balls cells => Sys2Proof.Machine.execSamplePreload balls cells s
  | .clamp => Sys2Proof.Machine.execClamp s
  | .highz => Sys2Proof.Machine.execHighz s
  | .extestPulse balls cells => Sys2Proof.Machine.execExtestPulse balls cells s
  | .extestTrain balls cells => Sys2Proof.Machine.execExtestTrain balls cells s
  | .debug => Sys2Proof.Machine.execDebug s
  | .bypass => Sys2Proof.Machine.execBypass s
  | .dbgaccAccess rnw addr data => Sys2Proof.Machine.execDbgaccAccess rnw addr data s
  | .timerCompare ix => Sys2Proof.Machine.execTimerCompare ix s
  | .rampLimitExpiry r => Sys2Proof.Machine.execRampLimitExpiry r s
  | .canReceiveError k code eight => Sys2Proof.Machine.execCanReceiveError k code eight s
  | .uartTxByteDone k => Sys2Proof.Machine.execUartTxByteDone k s
  | .avsFrameEnd k ack data vdone => Sys2Proof.Machine.execAvsFrameEnd k ack data vdone s

end Sys2Proof.Machine
end

