-- ==== Sys2Proof/Safety.lean ====
section
/-! DEFINITION. What claims about this machine are said in: the invariants that every command keeps, and the words for what a
command leaves unchanged. -/

namespace Sys2Proof.Machine

/-! ## Invariants -/

/-- The memory stands in its canonical form. -/
abbrev State.memOk (s : State) : Prop := memWf s.mem = true

/-- The increment in force lies within ±1,000 ppm of 1.5625 ns (R57). -/
abbrev State.incOk (s : State) : Prop :=
  incNom - incLim ≤ (s.time.inc.toNat : Int) ∧ (s.time.inc.toNat : Int) ≤ incNom + incLim

/-- The fabric error log holds at most 16 entries (R38). -/
abbrev State.logOk (s : State) : Prop := s.fabLog.length ≤ 16

/-- Every pending event belongs to one of the 16 chambers. -/
abbrev State.galOk (s : State) : Prop := ∀ e ∈ s.gal.events, e.chamber < 16

/-- A poll in progress on a gate-driver link names one of its eight poll entries (R303). -/
abbrev State.pollOk (s : State) : Prop := ∀ j x k, (s.gl j).busy = some x → x.src = .poll k → k < 8

/-- Every Echo send in progress names one of the 32 bindings and one of the rings (R489). -/
abbrev State.echoOk (s : State) : Prop := ∀ x ∈ s.echo.sends, x.bind < 32 ∧ x.ring < 16384

/-! ## Frames -/

/-- Every register but those at the addresses `l` is in `t` as in `s`. -/
def State.regsSame (s t : State) (l : List Nat) : Prop :=
  ∀ (f : RegFam) (i : Nat), f.addr i ∉ l → t.reg f i = s.reg f i

/-- Every byte of memory outside the `n` bytes from `a` on reads in `t` as in `s`. -/
def State.memSame (s t : State) (a n : Nat) : Prop :=
  ∀ b, ¬ (a ≤ b ∧ b < a + n) → memGet t.mem b = memGet s.mem b

/-! ## Running an instruction -/

/-- A processor may execute an instruction with guard `gd`: it can run, the guard is true, and the copies of a twin are two. -/
def State.mayRun (s : State) (p : Proc) (gd : BitVec 3) : Prop :=
  s.canRun p = true ∧ (s.coreOf p).guard gd = some true ∧ ∀ c, p = .cell c → (s.cellCores c).Nodup

/-- Between `s` and `t` every copy of processor `p` has changed its register file by `f`; beside that only the performance
counters of `p` may differ. -/
def State.ranAs (s t : State) (p : Proc) (f : Core → Core) : Prop :=
  match p with
  | .cell c =>
    (∀ q, vget t.phys q = if q ∈ s.cellCores c then { vget s.phys q with core := f (vget s.phys q).core } else vget s.phys q) ∧
    (∀ d, d ≠ c → vget t.lcell d = vget s.lcell d) ∧ t = { s with phys := t.phys, lcell := t.lcell }
  | .col _ | .grotto =>
    vget t.sproc (sIndex p) = { vget s.sproc (sIndex p) with
      core := f (vget s.sproc (sIndex p)).core, csr := (vget t.sproc (sIndex p)).csr } ∧
    (∀ n, n < 0xC10 → smGet 0 (vget t.sproc (sIndex p)).csr n = smGet 0 (vget s.sproc (sIndex p)).csr n) ∧
    (∀ i, i ≠ sIndex p → vget t.sproc i = vget s.sproc i) ∧ t = { s with sproc := t.sproc }

end Sys2Proof.Machine
end

