-- ==== Sys2Proof/Certificates/Slice0/Obligations.lean ====
section
/-! DEFINITION. The statements for the provers. -/

open Sys2Proof Sys2Proof.Machine

/-- A step is `exec` of the command at the front of the queue, on the state with the rest of the queue; with no command
waiting the block idles (the model's choice, assumption 1). -/
def Obligations.StepRunsTheFrontCommand : Prop :=
  (∀ (c : Instr) (rest : List Instr) (s : State), step { s with pending := c :: rest } = exec c { s with pending := rest }) ∧
  (∀ s : State, s.pending = [] → step s = .next s)

/-- Every command runs to a next state and leaves the queue alone; a step takes exactly the front command from it. -/
def Obligations.CommandsLeaveTheQueue : Prop :=
  (∀ (c : Instr) (s : State), ∃ t, exec c s = .next t ∧ t.pending = s.pending) ∧
  (∀ (c : Instr) (rest : List Instr) (s : State), s.pending = c :: rest → ∃ t, step s = .next t ∧ t.pending = rest)

/-- The canonical form of the memory is an invariant of every step. -/
def Obligations.StepKeepsMemoryCanonical : Prop :=
  ∀ s t : State, s.memOk → step s = .next t → t.memOk

/-- The range of R57 is an invariant of every step. -/
def Obligations.StepKeepsIncrementInRange : Prop :=
  ∀ s t : State, s.incOk → step s = .next t → t.incOk

/-- The depth of the error log is an invariant of every step. -/
def Obligations.StepKeepsErrorLogBound : Prop :=
  ∀ s t : State, s.logOk → step s = .next t → t.logOk

/-- TIME never runs backward; power-on reset alone clears it. -/
def Obligations.TimeNeverRunsBackward : Prop :=
  ∀ s t : State, s.incOk → s.time.now.toNat + 2 ^ 40 < 2 ^ 96 → step s = .next t →
    s.time.now.toNat ≤ t.time.now.toNat ∨ t.heldScope = 3

/-- The reset state meets the invariants; TIME, the increment, the log and the registers stand at their reset values. -/
def Obligations.ResetMeetsTheInvariants : Prop :=
  State.reset.memOk ∧ State.reset.incOk ∧ State.reset.logOk ∧ State.reset.mem = [] ∧ State.reset.time.now = 0 ∧
  State.reset.time.inc = 0x190000000 ∧ State.reset.level = 0 ∧ State.reset.fabLog = [] ∧ State.reset.pending = [] ∧
  ∀ (f : RegFam) (i : Nat), State.reset.reg f i = f.reset i

/-- R65. -/
def Obligations.ServoOwnsTheIncrement : Prop :=
  ∀ (ag : Agent) (v : Word) (s : State), s.bit TIME_CTRL 0 TIME_CTRL_SERVO_EN = true →
    (s.accessStatus ag true (TIME_INC_INT.addr 0) = stOK → exec (.timeIncIntWrite ag v) s = .next s) ∧
    (s.accessStatus ag true (TIME_INC_FRAC.addr 0) = stOK → exec (.timeIncFracWrite ag v) s = .next s) ∧
    (s.accessStatus ag true (TIME_SLEW.addr 0) = stOK → exec (.timeSlewWrite ag v) s = .next s)

/-- R56, R57 and R64: the three writes while the servo is off. -/
def Obligations.IncrementAndSlewWrites : Prop :=
  ∀ (ag : Agent) (v : Word) (s : State), s.bit TIME_CTRL 0 TIME_CTRL_SERVO_EN = false →
    (s.accessStatus ag true (TIME_INC_INT.addr 0) = stOK →
      exec (.timeIncIntWrite ag v) s = .next (s.setReg TIME_INC_INT 0 (v &&& 3))) ∧
    (s.accessStatus ag true (TIME_INC_FRAC.addr 0) = stOK →
      ∃ t, exec (.timeIncFracWrite ag v) s = .next t ∧
        let x : Int := (s.fld TIME_INC_INT 0 TIME_INC_INT_INT * 2 ^ 32 + v.toNat : Nat)
        let y := clampI x (incNom - incLim) (incNom + incLim)
        (t.time.inc.toNat : Int) = y ∧
        t.reg TIME_INC_INT 0 = BitVec.ofNat 32 (t.time.inc.toNat / 2 ^ 32) ∧
        t.reg TIME_INC_FRAC 0 = BitVec.ofNat 32 t.time.inc.toNat ∧
        (x = y → t.reg TIME_STAT 0 = s.reg TIME_STAT 0) ∧
        (x ≠ y → t.bit TIME_STAT 0 TIME_STAT_INC_CLAMP = true) ∧
        s.regsSame t [TIME_INC_INT.addr 0, TIME_INC_FRAC.addr 0, TIME_STAT.addr 0] ∧
        t = { s with time := { s.time with inc := t.time.inc }, regs := t.regs }) ∧
    (s.accessStatus ag true (TIME_SLEW.addr 0) = stOK →
      exec (.timeSlewWrite ag v) s = .next { s with time := { s.time with slew := v.toInt * 4 } })

/-- R61, R62, R69: the control writes and the latching read. -/
def Obligations.TimeControlWrites : Prop :=
  (∀ (ag : Agent) (v : Word) (s : State), s.accessStatus ag true (TIME_CTRL.addr 0) = stOK →
    (∃ t, exec (.step ag v) s = .next t ∧
      t.time.stepTarget = some (s.reg TIME_STEP_HI 0 ++ s.reg TIME_STEP_LO 0) ∧
      t.time.now = s.time.now ∧ t.time.inc = s.time.inc ∧ t.time.slew = s.time.slew ∧
      s.regsSame t [TIME_CTRL.addr 0, TIME_STAT.addr 0] ∧ t = { s with time := t.time, regs := t.regs }) ∧
    (∃ t, exec (.srcChange ag v) s = .next t ∧ t.time.inc = s.time.inc ∧ t.time.now = s.time.now ∧
      t.time.stepTarget = s.time.stepTarget ∧
      (srcOf v ≠ srcOf (s.reg TIME_CTRL 0) →
        t.time.first = true ∧ t.level = (if s.level = 4 then 3 else s.level)) ∧
      (srcOf v = srcOf (s.reg TIME_CTRL 0) → t.level = s.level) ∧
      s.regsSame t [TIME_CTRL.addr 0, TIME_STAT.addr 0] ∧ t = { s with time := t.time, regs := t.regs })) ∧
  (∀ (ag : Agent) (s : State), s.accessStatus ag false (TIME_NS_LO.addr 0) = stOK →
    exec (.timeNsLoRead ag) s = .next ((s.setRegA TIME_NS_HI (agentId ag) 0 (BitVec.ofNat 32 (s.ns / 2 ^ 32))).setRegA TIME_FRAC
      (agentId ag) 0 (BitVec.ofNat 32 (s.time.now.toNat / 2 ^ 16 % 2 ^ 16 * 2 ^ 16))))

/-- R56, R60, R62, R64. -/
def Obligations.TimeAdvances : Prop :=
  ∀ s : State, s.heldScope ≠ 3 →
    (s.fabricOn = true → ∃ t, exec .timeAdvance s = .next t ∧ t.tick = s.tick + 1 ∧ t.time.inc = s.time.inc ∧ t.mem = s.mem ∧
      t.pending = s.pending ∧
      let next : BitVec 96 := BitVec.ofNat 96 (s.time.now.toNat + s.time.inc.toNat + s.time.slewSign * 2 ^ 22).toNat
      (s.time.stepTarget = none → t.time.now = next ∧ t.time.slew = s.time.slew - s.time.slewSign) ∧
      (∀ target, s.time.stepTarget = some target → t.time.stepTarget = none ∧
        (next.toNat < target.toNat * 2 ^ 32 → t.time.now = BitVec.ofNat 96 (target.toNat * 2 ^ 32) ∧ t.time.slew = 0) ∧
        (target.toNat * 2 ^ 32 ≤ next.toNat → t.time.now = next ∧ t.bit TIME_STAT 0 TIME_STAT_STEP_REF = true))) ∧
    (s.fabricOn = false → ∃ t, exec .timeAdvance s = .next t ∧ t.tick = s.tick ∧ t.time.inc = s.time.inc ∧ t.mem = s.mem ∧
      t.pending = s.pending ∧
      ∃ up : Nat, up ≤ 1 ∧ t.time.now = s.time.now + BitVec.ofNat 96 (s.time.inc.toNat * 128 / 5 + up))

/-- R66 to R68. -/
def Obligations.OffsetSamples : Prop :=
  ∀ s : State,
    (∀ (ag : Agent) (v : Word), s.accessStatus ag true (TIME_OFS_IN.addr 0) = stOK →
      ((s.fld TIME_CTRL 0 TIME_CTRL_SRC ≠ 1 ∨ v = 0x80000000) →
        exec (.timeOfsInWrite ag v) s = .next (s.flag TIME_STAT 0 TIME_STAT_OFS_REF)) ∧
      (s.fld TIME_CTRL 0 TIME_CTRL_SRC = 1 → v ≠ 0x80000000 → s.bit TIME_CTRL 0 TIME_CTRL_SERVO_EN = true →
        s.time.stepTick ≠ some s.tick →
        ∃ t, exec (.timeOfsInWrite ag v) s = .next t ∧ t.time.slew = -v.toInt * 4 ∧ t.time.first = false ∧
          t.time.sinceTicks = 0 ∧ t.reg TIME_LASTOFS 0 = v ∧ (s.time.first = true → t.time.inc = s.time.inc) ∧
          t.time.now = s.time.now ∧ t = { s with time := t.time, regs := t.regs } ∧
          s.regsSame t [TIME_INC_INT.addr 0, TIME_INC_FRAC.addr 0, TIME_STAT.addr 0, TIME_LASTOFS.addr 0, TIME_ERRB.addr 0])) ∧
    (∀ (pin : Fin 16) (rising : Bool),
      let mine := s.fabricOn = true ∧ s.fld TIME_CTRL 0 TIME_CTRL_SRC = 3 ∧ s.fld TIME_CTRL 0 TIME_CTRL_PPS_GPIO = pin.val ∧
        rising = !s.bit TIME_CTRL 0 TIME_CTRL_PPS_POL;
      (¬ mine → exec (.ppsEdge pin rising) s = .next s) ∧
      (mine → s.bit TIME_CTRL 0 TIME_CTRL_SERVO_EN = true → s.time.stepTick ≠ some s.tick →
        ∃ t, exec (.ppsEdge pin rising) s = .next t ∧ t.time.slew = -s.ppsOffset * 4 ∧ t.time.first = false ∧
          t.reg TIME_LASTOFS 0 = BitVec.ofNat 32 (pat 32 s.ppsOffset) ∧ t.time.now = s.time.now ∧
          t = { s with time := t.time, regs := t.regs }))

/-- R70 to R73. -/
def Obligations.TimeQualityEvents : Prop :=
  ∀ s : State,
    (let due := s.fabricOn = true ∧ s.bit TIME_CTRL 0 TIME_CTRL_SERVO_EN = true ∧ srcOf (s.reg TIME_CTRL 0) ≠ 0 ∧
        max 1 (s.fld TIME_SERVO 0 TIME_SERVO_HOLD_TMO) * 64000000 ≤ s.time.sinceTicks;
      (¬ due → exec .sourceLost s = .next s) ∧
      (due → ∃ t, exec .sourceLost s = .next t ∧ t.bit TIME_STAT 0 TIME_STAT_SRC_LOST = true ∧
        (s.level = 4 → t.level = 2 ∧ t.time.holdErr = (s.reg TIME_ERRB 0).toNat ∧ t.time.holdFrom = s.ns) ∧
        (s.level ≠ 4 → s.time.everLocked = false → t.level = 1 ∧ t.reg TIME_ERRB 0 = 0xFFFFFFFF) ∧
        (s.level ≠ 4 → s.time.everLocked = true → t.level = s.level ∧ t.reg TIME_ERRB 0 = s.reg TIME_ERRB 0) ∧
        t.time.inc = s.time.inc ∧ t.time.now = s.time.now ∧ t.time.slew = s.time.slew ∧
        s.regsSame t [TIME_STAT.addr 0, TIME_ERRB.addr 0] ∧ t = { s with time := t.time, regs := t.regs })) ∧
    (s.level ≠ 2 → exec .holdoverErrbUpdate s = .next s) ∧
    (s.level = 2 → exec .holdoverErrbUpdate s = .next (s.setReg TIME_ERRB 0 (BitVec.ofNat 32 (min 0xFFFFFFFF
      (s.time.holdErr + s.fld TIME_HDRIFT 0 TIME_HDRIFT_PPB * (s.ns - s.time.holdFrom) / 10 ^ 9))))) ∧
    (s.fabricOn = true → ∀ n : Nat, ∃ t, exec (.rateCheck n) s = .next t ∧ t.time.rateFrom = s.time.now.toNat ∧
      t.time.now = s.time.now ∧ t.time.inc = s.time.inc ∧ t.mem = s.mem ∧
      let adv : Int := s.time.now.toNat - s.time.rateFrom
      let want : Int := (n * s.time.inc.toNat * 128 / 5 : Nat)
      (want * 2000 < 1000000 * ((adv - want).natAbs : Int) → t.bit TIME_STAT 0 TIME_STAT_RATE_ERR = true) ∧
      (1000000 * ((adv - want).natAbs : Int) ≤ want * 2000 → t.reg TIME_STAT 0 = s.reg TIME_STAT 0))

/-- R74, R79, R80, R84: what software does to a tracker. -/
def Obligations.TrackerWrites : Prop :=
  ∀ (ag : Agent) (x : Fin 8) (s : State),
    (s.accessStatus ag true (ANG_CFG.addr x.val) = stOK →
      (∀ v, s.trkOn x = false → ∃ t, exec (.trackerEnable ag x v) s = .next t ∧ t.trkOn x = true ∧
        t.bit ANG_STAT x.val ANG_STAT_VALID = false ∧ t.bit ANG_STAT x.val ANG_STAT_SUB = false ∧
        (t.tr x).coasts = 0 ∧ (t.tr x).goods = 0 ∧
        (∀ i, (vget (t.tr x).src i).overs = 0 ∧ (vget (t.tr x).src i).under = 0 ∧ (vget (t.tr x).src i).obsAge = 0) ∧
        (t.tr x).a = (s.tr x).a ∧ (t.tr x).w = (s.tr x).w ∧ (t.tr x).c = (s.tr x).c ∧ t.time = s.time) ∧
      (∀ v, s.trkOn x = true → ANG_CFG_MODE.get v = s.fld ANG_CFG x.val ANG_CFG_MODE →
        exec (.trackerEnable ag x v) s = .next (s.setReg ANG_CFG x.val (ANG_CFG_EN.put v 1 &&& 0xE07FFFFF))) ∧
      (∀ mode : BitVec 2, ∃ t, exec (.modeChange ag x mode) s = .next t ∧ t.fld ANG_CFG x.val ANG_CFG_MODE = mode.toNat ∧
        t.trkOn x = s.trkOn x ∧
        (mode.toNat ≠ s.fld ANG_CFG x.val ANG_CFG_MODE → t.bit ANG_STAT x.val ANG_STAT_SUB = false) ∧
        (mode.toNat = s.fld ANG_CFG x.val ANG_CFG_MODE → t.reg ANG_STAT x.val = s.reg ANG_STAT x.val) ∧
        s.regsSame t [ANG_CFG.addr x.val, ANG_STAT.addr x.val] ∧ t = { s with regs := t.regs })) ∧
    (s.accessStatus ag true (ANG_CMD.addr x.val) = stOK →
      (∀ rev : Half, ∃ t, exec (.angleSet ag x rev) s = .next t ∧
        (t.tr x).a = BitVec.ofNat 64 (rev.toNat * 2 ^ 48 + (s.reg ANG_SET_FRAC x.val).toNat * 2 ^ 16) ∧
        t.reg ANG_FRAC x.val = s.reg ANG_SET_FRAC x.val ∧ t.reg ANG_REV x.val = BitVec.ofNat 32 rev.toNat ∧
        t.bit ANG_STAT x.val ANG_STAT_VALID = false ∧
        t.fld ANG_SEQ x.val ANG_SEQ_SEQ = (s.fld ANG_SEQ x.val ANG_SEQ_SEQ + 1) % 2 ^ 16 ∧
        (t.tr x).w = (s.tr x).w ∧ (t.tr x).c = (s.tr x).c ∧ t.time = s.time) ∧
      (s.srcGood x 0 = true → exec (.angCmdPri ag x) s = .next (s.setBit ANG_STAT x.val ANG_STAT_SUB false)) ∧
      (s.srcGood x 0 = false → exec (.angCmdPri ag x) s = .next s)) ∧
    (s.accessStatus ag true (ANG_OBS.addr x.val) = stOK → ∀ v, ∃ t, exec (.angObsWrite ag x v) s = .next t ∧
      t.reg ANG_OBS x.val = v &&& 0xFFFF ∧ (∀ i, (vget (t.tr x).src i).obsAge = 0) ∧ (t.tr x).a = (s.tr x).a ∧
      (∀ y, y ≠ x → t.tr y = s.tr y) ∧ s.regsSame t [ANG_OBS.addr x.val] ∧ t = { s with regs := t.regs, trk := t.trk })

/-- R74 to R85: the update. -/
def Obligations.TrackerUpdates : Prop :=
  ∀ s : State,
    let due := s.fabricOn = true ∧ s.tick % 640 = 0 ∧ s.trkAt ≠ some s.tick;
    (¬ due → exec .trackerUpdate s = .next s) ∧
    (due → ∃ t, exec .trackerUpdate s = .next t ∧ t.trkAt = some s.tick ∧ t.tick = s.tick ∧ t.time = s.time ∧
      ∀ x : Fin 8,
        (s.trkOn x = false → t.tr x = s.tr x ∧ t.reg ANG_SEQ x.val = s.reg ANG_SEQ x.val) ∧
        (s.trkOn x = true →
          t.fld ANG_SEQ x.val ANG_SEQ_SEQ = (s.fld ANG_SEQ x.val ANG_SEQ_SEQ + 1) % 2 ^ 16 ∧
          t.reg ANG_TS_LO x.val = BitVec.ofNat 32 s.ns ∧ t.reg ANG_TS_HI x.val = BitVec.ofNat 32 (s.ns / 2 ^ 32) ∧
          t.reg ANG_FRAC x.val = BitVec.ofNat 32 ((t.tr x).a.toNat / 2 ^ 16) ∧
          t.reg ANG_REV x.val = BitVec.ofNat 32 ((t.tr x).a.toNat / 2 ^ 48) ∧
          t.reg ANG_SPEED x.val = BitVec.ofNat 32 ((t.tr x).w.toNat / 2 ^ 16) ∧
          t.reg ANG_ACCEL x.val = BitVec.ofNat 32 ((t.tr x).c.toNat / 2 ^ 16)) ∧
        (s.trkOn x = true → s.trkSel x 0 = none → s.trkSel x 1 = none →
          (t.tr x).a = BitVec.ofInt 64 ((s.tr x).a.toNat + sx 48 (s.tr x).w.toNat) ∧ (t.tr x).w = (s.tr x).w ∧ (t.tr x).c = 0 ∧
          (t.tr x).coasts = (s.tr x).coasts + 1 ∧ t.bit ANG_STAT x.val ANG_STAT_COAST = true ∧
          ((s.tr x).coasts + 1 = max 1 (s.fld ANG_LIM x.val ANG_LIM_COAST_MAX) →
            t.bit ANG_STAT x.val ANG_STAT_FAULT = true ∧ t.bit ANG_STAT x.val ANG_STAT_VALID = false)))

/-- R79, R80, R82, R83. -/
def Obligations.TrackerFaults : Prop :=
  ∀ (x : Fin 8) (s : State),
    (∀ i : Fin 2,
      let due := s.fabricOn = true ∧ s.tick % 640 = 0 ∧ s.trkAt ≠ some s.tick ∧ s.trkOn x = true;
      (¬ due → exec (.sourceFault x i) s = .next s) ∧
      (s.trkSel x i = none → (vget (s.tr x).src i).faulted = false → exec (.sourceFault x i) s = .next s) ∧
      (∀ k, due → s.trkSel x i = some (.iface k) → s.bit POS_STAT k.val POS_STAT_HEALTHY = false →
        ∃ t, exec (.sourceFault x i) s = .next t ∧ (vget (t.tr x).src i).badIface = true ∧
          ((vget (s.tr x).src i).badIface = false → t.bit ANG_STAT x.val (sfFld i) = true) ∧
          (i = 0 → s.trkMode x = 1 → t.bit ANG_STAT x.val ANG_STAT_SUB = true) ∧ (t.tr x).a = (s.tr x).a ∧ t.time = s.time) ∧
      (due → s.trkSel x i = some .observer → s.obsTmo x ≤ (vget (s.tr x).src i).obsAge + 1 →
        ∃ t, exec (.sourceFault x i) s = .next t ∧ (vget (t.tr x).src i).badObs = true ∧
          ((vget (s.tr x).src i).badObs = false → t.bit ANG_STAT x.val (sfFld i) = true) ∧
          (i = 0 → s.trkMode x = 1 → t.bit ANG_STAT x.val ANG_STAT_SUB = true) ∧ (t.tr x).a = (s.tr x).a ∧ t.time = s.time)) ∧
    (let due := s.fabricOn = true ∧ s.trkOn x = true ∧ max 1 (s.fld ANG_LIM x.val ANG_LIM_COAST_MAX) ≤ (s.tr x).coasts;
      (¬ due → exec (.trackerFault x) s = .next s) ∧
      (due → ∃ t, exec (.trackerFault x) s = .next t ∧ t.bit ANG_STAT x.val ANG_STAT_FAULT = true ∧
        t.bit ANG_STAT x.val ANG_STAT_VALID = false ∧ (t.tr x).goods = 0 ∧ (t.tr x).a = (s.tr x).a ∧ (t.tr x).w = (s.tr x).w ∧
        t.time = s.time))

/-- R92, R97 to R99, R101. -/
def Obligations.GallerySubmissions : Prop :=
  ∀ s : State,
    (∀ (ag : Agent) (v : Word), ((∃ c, ag = .cell c) ∨ s.accessStatus ag true (GAL_SUB_GO.addr 0) = stOK) →
      (GAL_SUB_GO_GO.get v ≠ 1 → exec (.submission ag v) s = .next s) ∧
      (GAL_SUB_GO_GO.get v = 1 → ∃ t, exec (.submission ag v) s = .next t ∧
        t.gal = { s.gal with waiting := s.gal.waiting ++ [{
          agent := ag, chamber := chamberOf s ag,
          w0 := s.regA GAL_SUB_W0 (agentId ag) 0, w1 := s.regA GAL_SUB_W1 (agentId ag) 0,
          w2 := s.regA GAL_SUB_W2 (agentId ag) 0, w3 := s.regA GAL_SUB_W3 (agentId ag) 0, src := .reg }] } ∧
        t = { s with regs := t.regs, gal := t.gal })) ∧
    ((s.fabricOn = false ∨ s.gal.waiting.all (fun u => decide (16 ≤ u.chamber)) = true) →
      exec .submissionDecision s = .next s) ∧
    (s.fabricOn = true → (∃ u ∈ s.gal.waiting, u.chamber < 16) → ∃ t u, exec .submissionDecision s = .next t ∧
      u ∈ s.gal.waiting ∧ t.gal.waiting = s.gal.waiting.erase u ∧ t.gal.served = u.chamber ∧
      (s.checkSub u ≠ stOK → t.gal.events = s.gal.events ∧ t.mem = s.mem) ∧
      (s.checkSub u = stOK → ∃ e, t.gal.events.getLast? = some e ∧
        t.gal.events.map (·.slot) = s.gal.events.map (·.slot) ++ [e.slot] ∧
        e.w0 = u.w0 ∧ e.w1 = u.w1 ∧ e.w2 = u.w2 ∧ e.w3 = u.w3 ∧ e.chamber = s.ringOwner (GAL_SUB_W2_HRING.get u.w2) ∧
        (s.gal.events.length < 49152 → e.slot ∉ s.gal.events.map (·.slot)))) ∧
    (∀ (ag : Agent) (c : Fin 16) (v : Word), s.accessStatus ag true (GAL_QUOTA.addr c.val) = stOK →
      let sum := ((List.range 16).map fun i => if i = c.val then GAL_QUOTA_RSV.get v else s.fld GAL_QUOTA i GAL_QUOTA_RSV).sum;
      (chamberOf s ag = 0 → sum ≤ 49152 → exec (.galQuotaWrite ag c v) s = .next (s.setReg GAL_QUOTA c.val v)) ∧
      ((chamberOf s ag ≠ 0 ∨ 49152 < sum) →
        exec (.galQuotaWrite ag c v) s = .next (s.refuse ag stPERM 1 (GAL_QUOTA.addr c.val))))

/-- R100, R103, R121. -/
def Obligations.GalleryCancelAndCommit : Prop :=
  ∀ s : State,
    (∀ (ag : Agent) (v : Word), s.accessStatus ag true (GAL_CANCEL.addr 0) = stOK →
      let n := GAL_CANCEL_SLOT.get v
      let answer (st : Nat) : State := s.setRegA GAL_CANCEL_RES (agentId ag) 0 (GAL_CANCEL_RES_STATUS.put 0 st);
      (s.eventAt n = none → exec (.galCancel ag v) s = .next (answer stSTALE_GEN)) ∧
      (∀ e, s.eventAt n = some e →
        (((s.slotTag n).toNat ≠ GAL_CANCEL_TAG.get v ∨ e.committed = true) →
          exec (.galCancel ag v) s = .next (answer stSTALE_GEN)) ∧
        ((s.slotTag n).toNat = GAL_CANCEL_TAG.get v → e.committed = false →
          (chamberOf s ag ≠ 0 → chamberOf s ag ≠ e.chamber → exec (.galCancel ag v) s = .next (answer stPERM)) ∧
          ((chamberOf s ag = 0 ∨ chamberOf s ag = e.chamber) → ∃ t, exec (.galCancel ag v) s = .next t ∧
            t.gal.events = s.gal.events.filter (fun w => w.slot != n) ∧ t.slotTag n = s.slotTag n + 1 ∧
            (∀ m, m ≠ n → t.slotTag m = s.slotTag m) ∧
            t.regA GAL_CANCEL_RES (agentId ag) 0 = GAL_CANCEL_RES_STATUS.put 0 stOK ∧ t.time = s.time)))) ∧
    (∀ n : Fin 49152,
      ((s.fabricOn = false ∨ s.eventAt n.val = none) → exec (.timeEventCommit n) s = .next s) ∧
      (∀ e, s.eventAt n.val = some e →
        ((e.angle = true ∨ e.committed = true ∨ s.isNear e.timeStamp = false) → exec (.timeEventCommit n) s = .next s) ∧
        (s.fabricOn = true → e.angle = false → e.committed = false → s.isNear e.timeStamp = true → s.slotFault e = none →
          ∃ t, exec (.timeEventCommit n) s = .next t ∧
            t.gal.events = s.gal.events.map (fun w => if w.slot = n.val then { w with committed := true } else w) ∧
            t.slotTag n.val = s.slotTag n.val + 1 ∧ (∀ m, m ≠ n.val → t.slotTag m = s.slotTag m) ∧
            t.mem = s.mem ∧ t.regs = s.regs ∧ t.time = s.time)))

/-- R95, R108 to R111. -/
def Obligations.EventIssue : Prop :=
  ∀ (e : Fin 4) (s : State),
    let due := s.fabricOn = true ∧ s.tick % 4 = 0 ∧ (s.engine e).slotUsed ≠ some s.tick ∧ (s.engine e).retryUsed ≠ some s.tick
    let s1 := s.latchDue;
    (¬ due → exec (.eventIssue e) s = .next s) ∧
    (due → s1.nextIssue e = none → exec (.eventIssue e) s = .next s1) ∧
    (∀ v d ph, due → s1.nextIssue e = some v → s1.slotFault v = none → s1.dueOf v = some (d, ph) →
      let late := min 0xFFFF (((s.issueSlot / 2 : Nat) - d).toNat + v.lc)
      let tooLate := v.mustNotLate = true ∧ v.exempt = false ∧ s.fld GAL_RING_TOL v.hring GAL_RING_TOL_TOL < late;
      (¬ tooLate → v.doomed = false → ∃ t w i, exec (.eventIssue e) s = .next t ∧ t.eventAt v.slot = some w ∧
        w.issued = some i ∧ i.phase = ph ∧ i.late = late ∧ i.first = s.issueSlot ∧ i.ns = s.nsLo ∧
        (t.engine e).slotUsed = some s.issueSlot ∧
        t.gal.events.map (·.slot) = s.gal.events.map (·.slot) ∧ t.mem = s.mem ∧ t.time = s.time) ∧
      (tooLate → ∃ t, exec (.eventIssue e) s = .next t ∧ t.eventAt v.slot = none ∧ t.time = s.time)) ∧
    (let mayNot := s.fabricOn = false ∨ (s.engine e).slotUsed = some s.issueSlot ∨ (s.engine e).retryUsed = some s.issueSlot ∨
        (∃ v, s.nextIssue e = some v) ∨ s.gal.events.any (fun v => v.held && v.engine == e) = false;
      (mayNot → exec (.holdRetry e) s = .next s) ∧
      (∀ c v i, ¬ mayNot →
        nextChamber (s.engine e).retry (fun c => s.gal.events.any fun v => v.held && v.engine == e && v.chamber == c) = some c →
        s.gal.events.find? (fun v => v.held && v.engine == e && v.chamber == c) = some v → v.issued = some i →
        let s1 := s.modEngine e fun g => { g with retry := c, retryUsed := some s.issueSlot };
        (s1.offerAgain v i = .unable → exec (.holdRetry e) s = .next s1) ∧
        (∀ s2 st, s1.offerAgain v i = .done s2 st →
          exec (.holdRetry e) s = .next (s2.endEvent v st 0 (v.action == 6 && st == stOK))) ∧
        (∀ s2, s1.offerAgain v i = .open_ s2 → exec (.holdRetry e) s = .next s2))) ∧
    (let out (v : GEvent) : Bool := v.held && v.engine == e &&
        (match v.issued with | some i => decide (i.first + 1280 ≤ s.tick) | none => false);
      ((s.fabricOn = false ∨ s.gal.events.find? out = none) → exec (.holdTimeout e) s = .next s) ∧
      (∀ v, s.fabricOn = true → s.gal.events.find? out = some v → ∃ t, exec (.holdTimeout e) s = .next t ∧
        t.eventAt v.slot = none ∧ t.gal.events = s.gal.events.filter (fun w => w.slot != v.slot) ∧
        t.slotTag v.slot = s.slotTag v.slot + 1 ∧ t.time = s.time))

/-- R93 and R95: the actions. -/
def Obligations.GalleryActions : Prop :=
  ∀ (e : Fin 4) (s : State),
    (s.firedEvent e 0 = none → exec (.nopAction e) s = .next s) ∧ (s.firedEvent e 1 = none → exec (.cellEvent e) s = .next s) ∧
    (s.firedEvent e 2 = none → exec (.pwmEdge e) s = .next s) ∧ (s.firedEvent e 3 = none → exec (.pwmLoadall e) s = .next s) ∧
    (s.firedEvent e 4 = none → exec (.adcTrigger e) s = .next s) ∧ (s.firedEvent e 5 = none → exec (.pin e) s = .next s) ∧
    (s.firedEvent e 6 = none → exec (.ringPush e) s = .next s) ∧ (s.firedEvent e 7 = none → exec (.echoSend e) s = .next s) ∧
    (s.firedEvent e 8 = none → exec (.columnIrq e) s = .next s) ∧ (s.firedEvent e 9 = none → exec (.safeCheck e) s = .next s) ∧
    ∀ (v : GEvent) (i : Issue),
      let unable : State := if s.gal.events.any (fun w => w.held && w.engine == v.engine && w.chamber == v.chamber)
        then (s.count GAL_ENG_TMOCNT v.engine.val GAL_ENG_TMOCNT_COUNT).endEvent v stTIMEOUT 0 false
        else s.modEvent v.slot fun w => { w with held := true };
      (s.firedEvent e 0 = some (v, i) → exec (.nopAction e) s = .next (s.endEvent v stOK 0 false)) ∧
      (s.firedEvent e 1 = some (v, i) →
        let entry : FifoEntry := { vec := v.arg 19 16, payload := BitVec.ofNat 16 (v.arg 15 0), ring := none };
        (s.pushFifo (Fin.ofNat 128 (v.arg 30 24)) entry = none → exec (.cellEvent e) s = .next unable) ∧
        (∀ s1, s.pushFifo (Fin.ofNat 128 (v.arg 30 24)) entry = some s1 →
          exec (.cellEvent e) s = .next (s1.endEvent v stOK 0 false))) ∧
      (s.firedEvent e 2 = some (v, i) →
        let k := Fin.ofNat 16 (v.arg 30 24 / 6);
        ((s.bMode k ≠ 2 ∨ 32 ≤ (vget (s.br k).outs (Fin.ofNat 6 (v.arg 30 24))).queue.length) →
          exec (.pwmEdge e) s = .next unable) ∧
        (s.bMode k = 2 → (vget (s.br k).outs (Fin.ofNat 6 (v.arg 30 24))).queue.length < 32 →
          ∃ t, exec (.pwmEdge e) s = .next t ∧ t.eventAt v.slot = none ∧
            (vget (t.br k).outs (Fin.ofNat 6 (v.arg 30 24))).queue =
              (vget (s.br k).outs (Fin.ofNat 6 (v.arg 30 24))).queue ++ [(8 * i.tick + i.phase, v.arg 23 23 == 1)])) ∧
      (s.firedEvent e 3 = some (v, i) →
        (v.arg 7 0 = 0 → exec (.pwmLoadall e) s = .next (s.endEvent v stOK 0 false)) ∧
        (v.arg 7 0 ≠ 0 → ∃ t, exec (.pwmLoadall e) s = .next t ∧ ∀ g, g < 8 → bitN (v.arg 7 0) g = true →
          let G := Fin.ofNat 32 (8 * v.arg 9 8 + g);
          (s.bit PWM_GCTL G.val PWM_GCTL_EN = true → Requester.slot v.slot ∈ (t.pg G).reqs ++ (t.pg G).late) ∧
          (s.bit PWM_GCTL G.val PWM_GCTL_EN = false → t.bit PWM_GSTAT G.val PWM_GSTAT_CFAIL = true))) ∧
      (s.firedEvent e 4 = some (v, i) →
        let r := s.adcGallery (Fin.ofNat 16 (v.arg 3 0)) (v.arg 13 8);
        exec (.adcTrigger e) s = .next (r.1.endEvent v (if r.2 then stOK else stTIMEOUT) 0 false)) ∧
      (s.firedEvent e 5 = some (v, i) →
        exec (.pin e) s = .next ((s.pinAction (v.arg 3 0) (v.arg 9 8) (v.arg 31 16)).endEvent v stOK 0 false)) ∧
      (s.firedEvent e 6 = some (v, i) →
        (s.ringPush v.hring (s.entryBody v v.w3) stOK 1 v.action = none → exec (.ringPush e) s = .next unable) ∧
        (∀ s1, s.ringPush v.hring (s.entryBody v v.w3) stOK 1 v.action = some s1 →
          exec (.ringPush e) s = .next (s1.endEvent v stOK 0 true))) ∧
      (s.firedEvent e 7 = some (v, i) →
        (s.takeSend v = .unable → exec (.echoSend e) s = .next unable) ∧
        (∀ s1 st, s.takeSend v = .done s1 st → exec (.echoSend e) s = .next (s1.endEvent v st 0 false)) ∧
        (∀ s1, s.takeSend v = .open_ s1 → exec (.echoSend e) s = .next s1)) ∧
      (s.firedEvent e 8 = some (v, i) →
        (s.takeIrq v = .unable → exec (.columnIrq e) s = .next unable) ∧
        (∀ s1 st, s.takeIrq v = .done s1 st → exec (.columnIrq e) s = .next (s1.endEvent v st 0 false))) ∧
      (s.firedEvent e 9 = some (v, i) →
        exec (.safeCheck e) s = .next ((s.heartbeat (v.arg 31 24) (v.arg 23 0) s.ns).endEvent v stOK 0 false))

/-- R117, R119, R121: the report of a NOP. -/
def Obligations.NopReports : Prop :=
  ∀ (e : Fin 4) (s : State) (v : GEvent) (i : Issue), s.firedEvent e 0 = some (v, i) → GAL_SUB_W2_REPORT.get v.w2 = 1 →
    s.ringRx v.hring = true → s.ringFull v.hring = false → v.chamber < 16 → s.memOk →
    ∃ t, exec (.nopAction e) s = .next t ∧
      let n := v.hring
      let prod := s.fld GAL_RING_IDX n GAL_RING_IDX_PROD
      let a := s.ringAddr n prod;
      t.gal.events = s.gal.events.filter (fun w => w.slot != v.slot) ∧ t.slotTag v.slot = s.slotTag v.slot + 1 ∧
      t.fld GAL_RING_IDX n GAL_RING_IDX_PROD = (prod + 1) % 2 ^ 16 ∧
      memWord t.mem a = v.w3 ∧ memWord t.mem (a + 4) = i.ns ∧
      memWord t.mem (a + 8) = BitVec.ofNat 32 (v.slot * 2 ^ 16 + min 0xFFFF i.late) ∧
      memWord t.mem (a + s.ringEntry n - 4) =
        BitVec.ofNat 32 (s.fld GAL_RING_CFG n GAL_RING_CFG_PGEN * 2 ^ 24 + 2 * 2 ^ 12 + v.action % 2 ^ 12) ∧
      s.memSame t a (s.ringEntry n) ∧ t.time = s.time

/-- R113, R114, R116. -/
def Obligations.RingSetup : Prop :=
  ∀ (ag : Agent) (n : Fin 16384) (s : State),
    (s.accessStatus ag true (GAL_RING_CFG.addr n.val) = stOK →
      (∀ v, s.bit GAL_RING_CFG n.val GAL_RING_CFG_EN = false → ∃ t, exec (.ringEnable ag n v) s = .next t ∧
        t.fld GAL_RING_CFG n.val GAL_RING_CFG_LDEPTH = GAL_RING_CFG_LDEPTH.get v ∧
        t.fld GAL_RING_CFG n.val GAL_RING_CFG_ESZ = GAL_RING_CFG_ESZ.get v ∧
        t.fld GAL_RING_CFG n.val GAL_RING_CFG_OWNER = s.fld GAL_RING_CFG n.val GAL_RING_CFG_OWNER ∧ t.mem = s.mem ∧
        (t.ringPlaced n.val = true → t.bit GAL_RING_CFG n.val GAL_RING_CFG_EN = true ∧
          t.fld GAL_RING_CFG n.val GAL_RING_CFG_PGEN = 1 ∧ t.reg GAL_RING_IDX n.val = 0 ∧ t.fabLog = s.fabLog) ∧
        (t.ringPlaced n.val = false → t.bit GAL_RING_CFG n.val GAL_RING_CFG_EN = false ∧
          t.reg GAL_RING_IDX n.val = s.reg GAL_RING_IDX n.val ∧
          (s.fabLog.length < 16 →
            t.fabLog = s.fabLog ++ [errEntry s stBAD_TARGET (chamberOf s ag) 3 1 (agentId ag) (GAL_RING_BASE.addr n.val)]))) ∧
      (∀ v, s.bit GAL_RING_CFG n.val GAL_RING_CFG_EN = true →
        (s.fld GAL_RING_TOL n.val GAL_RING_TOL_PEND = 0 → ∃ t, exec (.ringDisable ag n v) s = .next t ∧
          t.bit GAL_RING_CFG n.val GAL_RING_CFG_EN = false ∧
          t.fld GAL_RING_CFG n.val GAL_RING_CFG_LDEPTH = s.fld GAL_RING_CFG n.val GAL_RING_CFG_LDEPTH ∧
          t.fld GAL_RING_CFG n.val GAL_RING_CFG_OWNER = s.fld GAL_RING_CFG n.val GAL_RING_CFG_OWNER ∧
          s.regsSame t [GAL_RING_CFG.addr n.val] ∧ t = { s with regs := t.regs }) ∧
        (s.fld GAL_RING_TOL n.val GAL_RING_TOL_PEND ≠ 0 → ∃ t, exec (.ringDisable ag n v) s = .next t ∧
          t.bit GAL_RING_CFG n.val GAL_RING_CFG_EN = true ∧
          (s.fabLog.length < 16 →
            t.fabLog = s.fabLog ++ [errEntry s stPERM (chamberOf s ag) 3 1 (agentId ag) (GAL_RING_CFG.addr n.val)])))) ∧
    (s.accessStatus ag true (GAL_RING_IDX.addr n.val) = stOK →
      (∀ cons : Half, ∃ t, exec (.ringConsWrite ag n cons) s = .next t ∧
        s.regsSame t [GAL_RING_IDX.addr n.val] ∧ t = { s with regs := t.regs } ∧
        t.fld GAL_RING_IDX n.val GAL_RING_IDX_PROD = s.fld GAL_RING_IDX n.val GAL_RING_IDX_PROD ∧
        t.fld GAL_RING_IDX n.val GAL_RING_IDX_CONS =
          if s.bit GAL_RING_BASE n.val GAL_RING_BASE_TXR then s.fld GAL_RING_IDX n.val GAL_RING_IDX_CONS else cons.toNat) ∧
      (∀ prod : Half, (s.bit GAL_RING_BASE n.val GAL_RING_BASE_TXR = false ∨ s.echoBind n.val = none) →
        ∃ t, exec (.ringProdWrite ag n prod) s = .next t ∧
          s.regsSame t [GAL_RING_IDX.addr n.val] ∧ t = { s with regs := t.regs } ∧
          t.fld GAL_RING_IDX n.val GAL_RING_IDX_CONS = s.fld GAL_RING_IDX n.val GAL_RING_IDX_CONS ∧
          t.fld GAL_RING_IDX n.val GAL_RING_IDX_PROD =
            if s.bit GAL_RING_BASE n.val GAL_RING_BASE_TXR then prod.toNat else s.fld GAL_RING_IDX n.val GAL_RING_IDX_PROD))

/-- R136, R137, R141: the register forms of the ALU. -/
def Obligations.SornasAlu : Prop :=
  ∀ (p : Proc) (gd : BitVec 3) (rd ra rb : BitVec 5) (s : State), s.mayRun p gd →
    let pf := profileOf p
    let W := wordBits pf
    let runs (i : Instr) (f : Core → Core) : Prop := ∃ t, exec i s = .next t ∧ s.ranAs t p fun k => (f k).advance pf
    let x (k : Core) : Int := k.i pf ra.toNat
    let y (k : Core) : Int := k.i pf rb.toNat
    let a (k : Core) : Nat := k.u pf ra.toNat
    let b (k : Core) : Nat := k.u pf rb.toNat
    let n (k : Core) : Nat := b k % 64
    let put (k : Core) (z : Int) : Core := (k.zn W z).wr pf rd.toNat z;
    (allData pf [rd, ra, rb] = true →
      runs (.add p gd rd ra rb) (fun k => let r := k.sat W (x k + y k); ((r.1.zn W r.2).cf (decide (2 ^ W ≤ a k + b k))).wr pf rd.toNat r.2) ∧
      runs (.sub p gd rd ra rb) (fun k => let r := k.sat W (x k - y k); ((r.1.zn W r.2).cf (decide (a k < b k))).wr pf rd.toNat r.2) ∧
      runs (.addw p gd rd ra rb) (fun k => let z := wrapS W (x k + y k)
        (((k.vf (oflow W (x k + y k))).zn W z).cf (decide (2 ^ W ≤ a k + b k))).wr pf rd.toNat z) ∧
      runs (.subw p gd rd ra rb) (fun k => let z := wrapS W (x k - y k)
        (((k.vf (oflow W (x k - y k))).zn W z).cf (decide (a k < b k))).wr pf rd.toNat z) ∧
      runs (.and p gd rd ra rb) (fun k => put k (a k &&& b k : Nat)) ∧
      runs (.or p gd rd ra rb) (fun k => put k (a k ||| b k : Nat)) ∧
      runs (.xor p gd rd ra rb) (fun k => put k (a k ^^^ b k : Nat)) ∧
      runs (.andn p gd rd ra rb) (fun k => put k (a k &&& (2 ^ W - 1 - b k) : Nat)) ∧
      runs (.shl p gd rd ra rb) (fun k => let z := wrapS W (x k * 2 ^ n k)
        ((k.zn W z).cf (n k != 0 && n k ≤ W && bitN (a k) (W - n k))).wr pf rd.toNat z) ∧
      runs (.shr p gd rd ra rb) (fun k => let z : Int := (a k / 2 ^ n k : Nat)
        ((k.zn W z).cf (n k != 0 && n k ≤ W && bitN (a k) (n k - 1))).wr pf rd.toNat z) ∧
      runs (.sra p gd rd ra rb) (fun k => let z := x k / 2 ^ n k
        ((k.zn W z).cf (n k != 0 && (if n k ≤ W then bitN (a k) (n k - 1) else decide (x k < 0)))).wr pf rd.toNat z) ∧
      runs (.shls p gd rd ra rb) (fun k => let r := k.sat W (x k * 2 ^ n k); (r.1.zn W r.2).wr pf rd.toNat r.2) ∧
      runs (.min p gd rd ra rb) (fun k => put k (if x k ≤ y k then x k else y k)) ∧
      runs (.max p gd rd ra rb) (fun k => put k (if x k ≤ y k then y k else x k)) ∧
      runs (.minu p gd rd ra rb) (fun k => put k (if a k ≤ b k then x k else y k)) ∧
      runs (.maxu p gd rd ra rb) (fun k => put k (if a k ≤ b k then y k else x k)) ∧
      runs (.clip p gd rd ra rb) (fun k => let m := max (y k) 0
        let z := if x k < -m then -m else if m < x k then m else x k
        ((k.zn W z).vf (decide (z ≠ x k))).wr pf rd.toNat z) ∧
      runs (.avg p gd rd ra rb) (fun k => put k (k.rnd (x k + y k) 1)) ∧
      runs (.ror p gd rd ra rb) (fun k => let m := n k % W; put k ((a k / 2 ^ m + a k % 2 ^ m * 2 ^ (W - m)) % 2 ^ W : Nat))) ∧
    (allData pf [rd, ra] = true → rb = 0 →
      runs (.neg p gd rd ra rb) (fun k => let r := k.sat W (-x k); (r.1.zn W r.2).wr pf rd.toNat r.2) ∧
      runs (.abs p gd rd ra rb) (fun k => let r := k.sat W ((x k).natAbs : Int); (r.1.zn W r.2).wr pf rd.toNat r.2) ∧
      runs (.cls p gd rd ra rb) (fun k => let z : Int := (leadCount (fun c => c == decide (x k < 0)) (a k) (W - 1) : Nat)
        (k.zf W z).wr pf rd.toNat z) ∧
      runs (.clz p gd rd ra rb) (fun k => let z : Int := (leadCount (fun c => !c) (a k) W : Nat); (k.zf W z).wr pf rd.toNat z) ∧
      runs (.mov p gd rd ra rb) (fun k => put k (x k))) ∧
    (allRegs pf [rd, ra, rb] = true → anyAddr pf [rd, ra, rb] = true →
      runs (.add p gd rd ra rb) (fun k => k.wr pf rd.toNat (x k + y k)) ∧
      runs (.sub p gd rd ra rb) (fun k => k.wr pf rd.toNat (x k - y k)) ∧
      runs (.addw p gd rd ra rb) (fun k => k.wr pf rd.toNat (x k + y k)) ∧
      runs (.subw p gd rd ra rb) (fun k => k.wr pf rd.toNat (x k - y k))) ∧
    (allRegs pf [rd, ra] = true → anyAddr pf [rd, ra] = true → rb = 0 →
      runs (.mov p gd rd ra rb) (fun k => k.wr pf rd.toNat (x k)))

/-- R138 to R140, R142, R143. -/
def Obligations.SornasImmediates : Prop :=
  ∀ (p : Proc) (gd : BitVec 3) (rd ra rb : BitVec 5) (s : State), s.mayRun p gd →
    let pf := profileOf p
    let W := wordBits pf
    let runs (i : Instr) (f : Core → Core) : Prop := ∃ t, exec i s = .next t ∧ s.ranAs t p fun k => (f k).advance pf
    let x (k : Core) : Int := k.i pf ra.toNat
    let a (k : Core) : Nat := k.u pf ra.toNat
    let put (k : Core) (z : Int) : Core := (k.zn W z).wr pf rd.toNat z;
    (∀ imm : BitVec 13,
      (allData pf [rd, ra] = true →
        runs (.addi p gd rd ra imm) (fun k => let v := x k + imm.toInt
          (((k.vf (oflow W v)).zn W v).cf (decide (2 ^ W ≤ a k + pat W imm.toInt))).wr pf rd.toNat v) ∧
        runs (.andi p gd rd ra imm) (fun k => put k (a k &&& imm.toNat : Nat)) ∧
        runs (.ori p gd rd ra imm) (fun k => put k (a k ||| imm.toNat : Nat)) ∧
        runs (.xori p gd rd ra imm) (fun k => put k (a k ^^^ imm.toNat : Nat))) ∧
      (allRegs pf [rd, ra] = true → anyAddr pf [rd, ra] = true →
        runs (.addi p gd rd ra imm) (fun k => k.wr pf rd.toNat (x k + imm.toInt)))) ∧
    (∀ imm : BitVec 10, imm.toNat < 64 → allData pf [rd, ra] = true →
      let n := imm.toNat;
      runs (.shiShl p gd rd ra imm) (fun k => let z := wrapS W (x k * 2 ^ n)
        ((k.zn W z).cf (n != 0 && n ≤ W && bitN (a k) (W - n))).wr pf rd.toNat z) ∧
      runs (.shiShr p gd rd ra imm) (fun k => let z : Int := (a k / 2 ^ n : Nat)
        ((k.zn W z).cf (n != 0 && n ≤ W && bitN (a k) (n - 1))).wr pf rd.toNat z) ∧
      runs (.shiSra p gd rd ra imm) (fun k => let z := x k / 2 ^ n
        ((k.zn W z).cf (n != 0 && (if n ≤ W then bitN (a k) (n - 1) else decide (x k < 0)))).wr pf rd.toNat z) ∧
      runs (.shiShls p gd rd ra imm) (fun k => let r := k.sat W (x k * 2 ^ n); (r.1.zn W r.2).wr pf rd.toNat r.2) ∧
      runs (.shiRor p gd rd ra imm) (fun k => let m := n % W; put k ((a k / 2 ^ m + a k % 2 ^ m * 2 ^ (W - m)) % 2 ^ W : Nat))) ∧
    (∀ imm : BitVec 18,
      (allRegs pf [rd] = true → runs (.li p gd rd imm) (fun k =>
        k.wr pf rd.toNat (match pf with | .c => ((imm.toNat % 2 ^ 16 : Nat) : Int) | .s => imm.toInt))) ∧
      (isBase pf rd.toNat = true → runs (.lih p gd rd imm) (fun k =>
        k.wr pf rd.toNat (k.u pf rd.toNat % 2 ^ 16 + imm.toNat % 2 ^ 16 * 2 ^ 16 : Nat)))) ∧
    (∀ pos len1 : BitVec 5, allData pf [rd, ra] = true → pos.toNat + len1.toNat + 1 ≤ W →
      let l := len1.toNat + 1
      let fieldOf (k : Core) : Nat := a k / 2 ^ pos.toNat % 2 ^ l;
      runs (.extu p gd rd ra pos len1) (fun k => put k (fieldOf k)) ∧
      runs (.exts p gd rd ra pos len1) (fun k => put k (if fieldOf k < 2 ^ (l - 1) then (fieldOf k : Int) else fieldOf k - 2 ^ l)) ∧
      runs (.ins p gd rd ra pos len1) (fun k => let d := k.u pf rd.toNat
        put k (d % 2 ^ pos.toNat + a k % 2 ^ l * 2 ^ pos.toNat + d / 2 ^ (pos.toNat + l) * 2 ^ (pos.toNat + l) : Nat))) ∧
    (∀ (pd : BitVec 2) (cond : BitVec 3),
      let holds (m : Nat) (u v : Int) : Bool :=
        (match cond.toNat / 2 with
          | 0 => pat m u == pat m v
          | 1 => decide (wrapS m u < wrapS m v)
          | 2 => decide (pat m u < pat m v)
          | _ => (pat m u &&& pat m v) != 0) != (cond.toNat % 2 == 1);
      ((if condAddr cond then allRegs pf [ra, rb] else allData pf [ra, rb]) = true →
        runs (.cmp p gd pd cond ra rb 0) (fun k =>
          k.wrP pd.toNat (holds (if anyAddr pf [ra, rb] then 20 else W) (x k) (k.i pf rb.toNat)))) ∧
      (∀ imm : BitVec 13, (if condAddr cond then allRegs pf [ra] else allData pf [ra]) = true →
        runs (.cmpi p gd pd cond ra imm) (fun k =>
          k.wrP pd.toNat (holds (if anyAddr pf [ra] then 20 else W) (x k) imm.toInt)))) ∧
    (∀ (pd pa pb : BitVec 2) (op : BitVec 3),
      runs (.plog p gd pd pa pb op) (fun k =>
        let u := k.pred pa.toNat
        let v := k.pred pb.toNat
        k.wrP pd.toNat (match op.toNat with
          | 0 => u && v | 1 => u || v | 2 => u != v | 3 => u && !v | 4 => u || !v | 5 => !u | 6 => true | _ => false)))

/-- R144 to R148. -/
def Obligations.SornasMultiply : Prop :=
  ∀ (p : Proc) (gd : BitVec 3) (rd ra rb : BitVec 5) (aa ab : BitVec 2) (s : State), s.mayRun p gd →
    let pf := profileOf p
    let W := wordBits pf
    let runs (i : Instr) (f : Core → Core) : Prop := ∃ t, exec i s = .next t ∧ s.ranAs t p fun k => (f k).advance pf
    let x (k : Core) : Int := k.i pf ra.toNat
    let y (k : Core) : Int := k.i pf rb.toNat
    let a (k : Core) : Nat := k.u pf ra.toNat
    let b (k : Core) : Nat := k.u pf rb.toNat
    let put (k : Core) (z : Int) : Core := (k.zn W z).wr pf rd.toNat z
    let putSat (k : Core) (v : Int) : Core := put (k.sat W v).1 (k.sat W v).2
    let A (k : Core) : Int := k.a aa.toNat
    let accSat (k : Core) (v : Int) : Core := (k.sat 40 v).1.wrA aa.toNat (k.sat 40 v).2
    let h (k : Core) (r : BitVec 5) : Int := sx 16 (k.u pf r.toNat)
    let u (k : Core) : Int × Int := k.pair pf ra
    let v (k : Core) : Int × Int := k.pair pf rb
    let zero (k : Core) (z : Int) : Core := (((k.zn W z).vf true).setStb 4 true).wr pf rd.toNat z
    let most (k : Core) : Int := if 0 ≤ x k then 2 ^ (W - 1) - 1 else -(2 ^ (W - 1));
    (allData pf [rd, ra, rb] = true →
      runs (.mull p gd rd ra rb) (fun k => put k (x k * y k)) ∧
      runs (.mulh p gd rd ra rb) (fun k => put k (x k * y k / 2 ^ W)) ∧
      runs (.mulhu p gd rd ra rb) (fun k => put k (a k * b k / 2 ^ W : Nat)) ∧
      runs (.mulf p gd rd ra rb) (fun k => putSat k (k.rnd (x k * y k) (W - 1))) ∧
      (rd.toNat % 2 = 0 → runs (.mulw p gd rd ra rb) (fun k =>
        (k.wr pf rd.toNat (x k * y k)).wr pf (rd.toNat + 1) (x k * y k / 2 ^ W))) ∧
      runs (.div p gd rd ra rb) (fun k => if b k = 0 then zero k (most k) else putSat k ((x k).tdiv (y k))) ∧
      runs (.divu p gd rd ra rb) (fun k => if b k = 0 then zero k (-1) else put (k.vf false) (a k / b k : Nat)) ∧
      runs (.rem p gd rd ra rb) (fun k => if b k = 0 then zero k (x k) else put (k.vf false) ((x k).tmod (y k))) ∧
      runs (.remu p gd rd ra rb) (fun k => if b k = 0 then zero k (x k) else put (k.vf false) (a k % b k : Nat)) ∧
      runs (.divf p gd rd ra rb) (fun k => if b k = 0 then zero k (most k) else putSat k ((x k * 2 ^ (W - 1)).tdiv (y k)))) ∧
    (allData pf [ra, rb] = true → ab = 0 →
      runs (.mac p gd aa ab ra rb) (fun k => accSat k (A k + 2 * h k ra * h k rb)) ∧
      runs (.msu p gd aa ab ra rb) (fun k => accSat k (A k - 2 * h k ra * h k rb)) ∧
      runs (.mpy p gd aa ab ra rb) (fun k => k.wrA aa.toNat (2 * h k ra * h k rb)) ∧
      runs (.maci p gd aa ab ra rb) (fun k => accSat k (A k + h k ra * h k rb))) ∧
    (isPair pf ra = true → isPair pf rb = true →
      (aa ≠ ab → runs (.mac2 p gd aa ab ra rb) (fun k =>
        let v1 := A k + 2 * (u k).1 * (v k).1
        let v2 := k.a ab.toNat + 2 * (u k).2 * (v k).2
        let k2 := (k.sat 40 v1).1.sat 40 v2
        ((k2.1.vf (oflow 40 v1 || oflow 40 v2)).wrA aa.toNat (k.sat 40 v1).2).wrA ab.toNat k2.2)) ∧
      (ab = 0 →
        runs (.macd p gd aa ab ra rb) (fun k => accSat k (A k + 2 * ((u k).1 * (v k).1 + (u k).2 * (v k).2))) ∧
        runs (.macx p gd aa ab ra rb) (fun k => accSat k (A k + 2 * ((u k).1 * (v k).1 - (u k).2 * (v k).2))) ∧
        runs (.mpyd p gd aa ab ra rb) (fun k => k.wrA aa.toNat (2 * ((u k).1 * (v k).1 + (u k).2 * (v k).2))) ∧
        runs (.mpyx p gd aa ab ra rb) (fun k => k.wrA aa.toNat (2 * ((u k).1 * (v k).1 - (u k).2 * (v k).2))))) ∧
    (ab = 0 → rb = 0 →
      (ra = 0 → runs (.clra p gd aa ab ra rb) (fun k => k.wrA aa.toNat 0) ∧
        runs (.nega p gd aa ab ra rb) (fun k => accSat k (-A k))) ∧
      (allData pf [ra] = true → runs (.ldah p gd aa ab ra rb) (fun k => k.wrA aa.toNat (h k ra * 2 ^ 16))) ∧
      (isPair pf ra = true → runs (.ldaw p gd aa ab ra rb) (fun k => k.wrA aa.toNat (k.f32 pf ra)))) ∧
    (ab = 0 → rb.toNat < 16 →
      (allData pf [ra] = true → runs (.rdah p gd aa ab ra rb) (fun k => let r := k.sat 16 (k.rnd (A k * 2 ^ rb.toNat) 16)
        r.1.wr pf ra.toNat r.2)) ∧
      (isPair pf ra = true → runs (.rdaw p gd aa ab ra rb) (fun k => let r := k.sat 32 (A k * 2 ^ rb.toNat); r.1.wrF32 pf ra r.2)) ∧
      (ra = 0 → runs (.sha p gd aa ab ra rb) (fun k => accSat k (A k * 2 ^ rb.toNat)))) ∧
    (ab = 0 → ra = 0 → 16 ≤ rb.toNat → runs (.sha p gd aa ab ra rb) (fun k => k.wrA aa.toNat (k.rnd (A k) (32 - rb.toNat)))) ∧
    (ra = 0 → rb = 0 →
      runs (.adda p gd aa ab ra rb) (fun k => accSat k (A k + k.a ab.toNat)) ∧
      runs (.suba p gd aa ab ra rb) (fun k => accSat k (A k - k.a ab.toNat)) ∧
      runs (.mova p gd aa ab ra rb) (fun k => k.wrA aa.toNat (k.a ab.toNat)))

/-- R131, R133, R167. -/
def Obligations.SornasGuards : Prop :=
  ∀ (p : Proc) (gd : BitVec 3) (rd ra rb : BitVec 5) (aa ab : BitVec 2) (s : State),
    (∀ e ∈ [(Instr.add, 0x00), (Instr.sub, 0x01), (Instr.addw, 0x02), (Instr.subw, 0x03), (Instr.and, 0x04), (Instr.or, 0x05),
        (Instr.xor, 0x06), (Instr.andn, 0x07), (Instr.shl, 0x08), (Instr.shr, 0x09), (Instr.sra, 0x0A), (Instr.shls, 0x0B),
        (Instr.min, 0x0C), (Instr.max, 0x0D), (Instr.minu, 0x0E), (Instr.maxu, 0x0F), (Instr.clip, 0x12), (Instr.avg, 0x16),
        (Instr.ror, 0x17)],
      (s.canRun p = false → exec (e.1 p gd rd ra rb) s = .next s) ∧
      (s.canRun p = true → gd = 4#3 → exec (e.1 p gd rd ra rb) s = .next (s.trap p (encR 0x01 gd rd ra rb e.2) .illegal)) ∧
      (s.mayRun p 0 → (s.coreOf p).guard gd = some false → allData (profileOf p) [rd, ra, rb] = true →
        ∃ t, exec (e.1 p gd rd ra rb) s = .next t ∧ s.ranAs t p (·.advance (profileOf p))) ∧
      (s.canRun p = true → allRegs (profileOf p) [rd, ra, rb] = false →
        exec (e.1 p gd rd ra rb) s = .next (s.trap p (encR 0x01 gd rd ra rb e.2) .illegal))) ∧
    (∀ e ∈ [(Instr.mull, 0x0C, 0x00), (Instr.mulh, 0x0C, 0x01), (Instr.mulhu, 0x0C, 0x02), (Instr.mulf, 0x0C, 0x03),
        (Instr.mulw, 0x0C, 0x04), (Instr.div, 0x0F, 0x00), (Instr.divu, 0x0F, 0x01), (Instr.rem, 0x0F, 0x02),
        (Instr.remu, 0x0F, 0x03), (Instr.divf, 0x0F, 0x04)],
      (s.canRun p = false → exec (e.1 p gd rd ra rb) s = .next s) ∧
      (s.canRun p = true → (gd = 4#3 ∨ allData (profileOf p) [rd, ra, rb] = false) →
        exec (e.1 p gd rd ra rb) s = .next (s.trap p (encR e.2.1 gd rd ra rb e.2.2) .illegal))) ∧
    (∀ e ∈ [(Instr.mac, 0x0D, 0x00), (Instr.msu, 0x0D, 0x01), (Instr.mpy, 0x0D, 0x02), (Instr.maci, 0x0D, 0x03),
        (Instr.mac2, 0x0D, 0x04), (Instr.macd, 0x0D, 0x05), (Instr.macx, 0x0D, 0x06), (Instr.mpyd, 0x0D, 0x07),
        (Instr.mpyx, 0x0D, 0x08), (Instr.clra, 0x0E, 0x00), (Instr.ldah, 0x0E, 0x01), (Instr.ldaw, 0x0E, 0x02),
        (Instr.rdah, 0x0E, 0x03), (Instr.rdaw, 0x0E, 0x04), (Instr.sha, 0x0E, 0x05), (Instr.adda, 0x0E, 0x06),
        (Instr.suba, 0x0E, 0x07), (Instr.nega, 0x0E, 0x08), (Instr.mova, 0x0E, 0x09)],
      (s.canRun p = false → exec (e.1 p gd aa ab ra rb) s = .next s) ∧
      (s.canRun p = true → gd = 4#3 →
        exec (e.1 p gd aa ab ra rb) s = .next (s.trap p (encA e.2.1 gd aa ab ra rb e.2.2) .illegal)))

/-- R166, R168 to R171, R456. -/
def Obligations.SornasTraps : Prop :=
  ∀ (p : Proc) (s : State), (∀ c, p = .cell c → (s.cellCores c).Nodup) →
    (p.casesOn (fun c => (s.cellCores c).all fun q => !(vget s.phys q).core.stb 13) (fun _ => !(s.coreOf p).stb 13)
      (!(s.coreOf p).stb 13) : Bool) = true →
    let pf := profileOf p
    let entered (k k' : Core) (epc : Word) (cause : Nat) (tval : Word) : Prop :=
      k'.xepc = epc ∧ k'.xcause.toNat = cause ∧ k'.xtval = tval ∧
      k'.xst = (match pf with | .c => k.st &&& 0xFFFF | .s => k.st) ∧ k'.stb 13 = true ∧ k'.stb 15 = false ∧
      k'.pc = (match pf with | .c => BitVec.ofNat 32 ((k.xvec.toNat + 64) % 4096) | .s => s.cvec (sIndex p) + 0x80) ∧
      (pf = .s → k'.stb 31 = true) ∧ k'.r = k.r ∧ k'.acc = k.acc ∧ k'.p = k.p ∧ k'.lc = k.lc ∧ k'.xvec = k.xvec;
    (∀ (gd : BitVec 3) (spn : BitVec 10), s.canRun p = true → (s.coreOf p).guard gd = some true →
      (∃ t, exec (.trap p gd 0 spn) s = .next t ∧
        entered (s.coreOf p) (t.coreOf p) (pcAdd pf (s.coreOf p).pc 1) 4 (BitVec.ofNat 32 spn.toNat)) ∧
      (s.debuggerUnlocked = false → ∃ t, exec (.brk p gd 0 0) s = .next t ∧
        entered (s.coreOf p) (t.coreOf p) (s.coreOf p).pc 5 0) ∧
      (s.debuggerUnlocked = true → ∃ t, exec (.brk p gd 0 0) s = .next t ∧ t.waitOf p = .debug ∧ t.coreOf p = s.coreOf p) ∧
      (∃ t, exec (.eret p gd 0 0) s = .next t ∧ t.coreOf p = (s.coreOf p).eret pf)) ∧
    (∀ c st a, p = .cell c → (vget s.phys ((s.physOf c).getD 0)).refusal = some (st, a) → s.alive p = true →
      (s.waitOf p = .run ∨ ∃ n, s.waitOf p = .fence n) → ∃ t, exec (.accessPostedTrap p) s = .next t ∧
        entered (s.coreOf p) (t.coreOf p) (s.coreOf p).pc ((st * 256 + 3) % 2 ^ 32) (BitVec.ofNat 32 (a % 2 ^ 20)) ∧
        (vget t.phys ((t.physOf c).getD 0)).refusal = none) ∧
    (∀ c st a, p = .col c → (vget s.sproc (sIndex p)).refusal = some (st, a) → s.alive p = true → s.waitOf p ≠ .debug →
      ∃ t, exec (.accessPostedTrap p) s = .next t ∧
        entered (s.coreOf p) (t.coreOf p) (s.coreOf p).pc ((st * 256 + 3) % 2 ^ 32) (BitVec.ofNat 32 (a % 2 ^ 32)) ∧
        (vget t.sproc (sIndex p)).refusal = none) ∧
    (∀ c, p = .cell c →
      let ph := vget s.phys ((s.physOf c).getD 0);
      ((ph.fifo = [] ∨ ph.core.stb 15 = false ∨ s.alive p = false) → exec (.eventEntry c) s = .next s) ∧
      (∀ e rest, ph.fifo = e :: rest → ph.core.stb 15 = true → ph.refusal = none → s.canRun p = true →
        ∃ t, exec (.eventEntry c) s = .next t ∧ t.coreOf p = ph.core.takeEvent e.vec e.payload ∧
          (t.coreOf p).xepc = ph.core.pc ∧ (t.coreOf p).ev = e.payload ∧
          (t.coreOf p).pc = BitVec.ofNat 32 ((ph.core.xvec.toNat + 4 * (e.vec % 16)) % 4096) ∧
          (t.coreOf p).stb 15 = false ∧ t.mem = s.mem))

/-- R155 to R157, R162, R163. -/
def Obligations.SornasFlow : Prop :=
  ∀ (p : Proc) (gd : BitVec 3) (rd ra rb : BitVec 5) (s : State), s.mayRun p gd →
    let pf := profileOf p
    let k := s.coreOf p
    let lnk : Core := k.wr pf (match pf with | .c => 23 | .s => 31) ((pcAdd pf k.pc 1).toNat : Nat)
    let jumps (i : Instr) (k' : Core) : Prop := ∃ t, exec i s = .next t ∧ t.coreOf p = k' ∧
      t = { s with phys := t.phys, lcell := t.lcell, sproc := t.sproc }
    let runs (i : Instr) (f : Core → Core) : Prop := ∃ t, exec i s = .next t ∧ s.ranAs t p fun k => (f k).advance pf
    let target : Nat := k.u pf ra.toNat
    let goodTarget : Prop := isBase pf ra.toNat = true ∧ rd = 0 ∧ rb = 0 ∧
      (match pf with | .c => target < 4096 | .s => target % 4 = 0);
    (∀ off : BitVec 23,
      let d := pcAdd pf k.pc off.toInt;
      (k.atLoopEnd = false →
        jumps (.br p gd off) { k.leave d with pc := d } ∧ jumps (.call p gd off) { lnk with pc := d }) ∧
      (k.atLoopEnd = true → exec (.br p gd off) s = .next (s.trap p (encB 0x14 gd off) .illegal) ∧
        exec (.call p gd off) s = .next (s.trap p (encB 0x15 gd off) .illegal))) ∧
    (k.atLoopEnd = false → goodTarget →
      let d : Word := BitVec.ofNat 32 target;
      jumps (.jr p gd rd ra rb) { k.leave d with pc := d } ∧ jumps (.jrLink p gd rd ra rb) { lnk with pc := d }) ∧
    (∀ (n ci : BitVec 1) (cnt : BitVec 12) (len : BitVec 9), k.atLoopEnd = false → len ≠ 0 → (ci = 1 ∨ isData pf ra.toNat = true) →
      let count := if ci = 1 then cnt.toNat else k.u pf ra.toNat % 2 ^ 16
      let le := pcAdd pf k.pc len.toNat;
      (count = 0 → ∃ t, exec (.loop p gd n ci cnt ra len) s = .next t ∧ (t.coreOf p).pc = pcAdd pf le 1 ∧
        (t.coreOf p).lc[n.toNat]! = 0 ∧ t.mem = s.mem ∧ t.regs = s.regs) ∧
      (count ≠ 0 → (k.lc[1 - n.toNat]! = 0 ∨ le.toNat ≤ (k.le[1 - n.toNat]!).toNat) → 
        ∃ t, exec (.loop p gd n ci cnt ra len) s = .next t ∧
        (t.coreOf p).ls[n.toNat]! = pcAdd pf k.pc 1 ∧ (t.coreOf p).le[n.toNat]! = le ∧
        (t.coreOf p).lc[n.toNat]! = BitVec.ofNat 16 count ∧ (t.coreOf p).pc = pcAdd pf k.pc 1 ∧
        t.mem = s.mem ∧ t.regs = s.regs)) ∧
    runs (.nop p gd 0 0) id ∧
    (∀ spn : BitVec 10,
      let n := spn.toNat;
      (sprLegal pf n false = true → sprField pf rd n = true → sprPriv pf k n = false →
        ∃ t, exec (.mfs p gd rd spn) s = .next t ∧ t.coreOf p = (k.wr pf rd.toNat (k.spr pf n : Nat)).advance pf ∧
          t.mem = s.mem ∧ t.regs = s.regs) ∧
      (sprLegal pf n true = true → sprField pf rd n = true → sprPriv pf k n = false →
        ∃ t, exec (.mts p gd rd spn) s = .next t ∧ t.coreOf p = (k.setSpr pf n (k.u pf rd.toNat)).advance pf ∧
          t.mem = s.mem ∧ t.regs = s.regs) ∧
      (pf = .s → 0x010 ≤ n → n ≤ 0x013 → k.stb 31 = false →
        exec (.mfs p gd rd spn) s = .next (s.trap p (encY 0x00 gd rd spn 0x04) .priv) ∧
        exec (.mts p gd rd spn) s = .next (s.trap p (encY 0x00 gd rd spn 0x05) .priv)))

/-- R177 to R184. -/
def Obligations.SornasControl : Prop :=
  ∀ (p : Proc) (gd : BitVec 3) (rd ra rb : BitVec 5) (s : State), s.mayRun p gd →
    let pf := profileOf p
    let runs (i : Instr) (f : Core → Core) : Prop := ∃ t, exec i s = .next t ∧ s.ranAs t p fun k => (f k).advance pf
    let u (k : Core) : Int × Int := k.pair pf ra
    let th (k : Core) : Nat := k.u pf rb.toNat % 2 ^ 16
    let two (k : Core) (x y : Int) : Core :=
      let k2 := ((k.sat 16 x).1.sat 16 y)
      (k2.1.vf (oflow 16 x || oflow 16 y)).wrPair pf rd (k.sat 16 x).2 k2.2
    let cs (k : Core) : Int := cos16 (th k)
    let sn (k : Core) : Int := sin16 (th k)
    let K (bank i : Nat) : Int := sx 16 (s.gain (s.blockOf p) bank i).toNat;
    (isPair pf rd = true →
      (isPair pf ra = true → rb = 0 → runs (.clarke p gd rd ra rb) (fun k =>
        two k (u k).1 (k.rnd (((u k).1 + 2 * (u k).2) * 18918) 15))) ∧
      (isPair pf ra = true → allData pf [rb] = true →
        runs (.clarke3 p gd rd ra rb) (fun k => two k (k.rnd ((2 * (u k).1 - (u k).2 - sx 16 (k.u pf rb.toNat)) * 10923) 15)
          (k.rnd (((u k).2 - sx 16 (k.u pf rb.toNat)) * 18918) 15)) ∧
        runs (.park p gd rd ra rb) (fun k => two k (k.rnd ((u k).1 * cs k + (u k).2 * sn k) 15)
          (k.rnd ((u k).2 * cs k - (u k).1 * sn k) 15)) ∧
        runs (.ipark p gd rd ra rb) (fun k => two k (k.rnd ((u k).1 * cs k - (u k).2 * sn k) 15)
          (k.rnd ((u k).1 * sn k + (u k).2 * cs k) 15)) ∧
        runs (.rot p gd rd ra rb) (fun k =>
          let a := sx 16 (k.u pf rb.toNat)
          let i : Int × Int × Int := if 0x4000 < a ∨ a < -0x4000 then (-((u k).1 * 4), -((u k).2 * 4), wrapS 16 (a - 0x8000))
            else ((u k).1 * 4, (u k).2 * 4, a)
          let r := cordicRun (fun _ z => z < 0) i.1 i.2.1 i.2.2
          two k (k.rnd (r.1 * 19898) 17) (k.rnd (r.2.1 * 19898) 17))) ∧
      (ra = 0 → allData pf [rb] = true → runs (.sincos p gd rd ra rb) (fun k => two k (cs k) (sn k))) ∧
      (isPair pf ra = true → rb = 0 → runs (.vec p gd rd ra rb) (fun k =>
        let i : Int × Int × Int := if (u k).1 < 0 then (-((u k).1 * 4), -((u k).2 * 4), 0x8000) else ((u k).1 * 4, (u k).2 * 4, 0)
        let r := cordicRun (fun y _ => 0 ≤ y) i.1 i.2.1 i.2.2
        let m := k.sat 16 (k.rnd (r.1 * 19898) 17)
        m.1.wrPair pf rd m.2 (pat 16 r.2.2 : Nat)))) ∧
    (pf = .c → isQuad rd = true → isPair .c ra = true → rb = 0 →
      let modulated (zs : Int → Int → Int) (k : Core) : Core :=
        let ph := svmPhases k (k.pair .c ra).1 (k.pair .c ra).2
        let z := zs (max ph.1 (max ph.2.1 ph.2.2)) (min ph.1 (min ph.2.1 ph.2.2))
        let ovm := (svmDuty (ph.1 + z)).2 || (svmDuty (ph.2.1 + z)).2 || (svmDuty (ph.2.2 + z)).2
        let k1 := ((((k.wr .c rd.toNat (svmDuty (ph.1 + z)).1).wr .c (rd.toNat + 1) (svmDuty (ph.2.1 + z)).1).wr .c (rd.toNat + 2)
          (svmDuty (ph.2.2 + z)).1).wr .c (rd.toNat + 3) ((if ovm then 2 ^ 15 else 0) + svmSector (k.pair .c ra).1 (k.pair .c ra).2 : Nat)).vf ovm
        if ovm then k1.setStb 4 true else k1;
      runs (.sv p gd rd ra rb) (modulated fun hi lo => -((hi + lo) / 2)) ∧ runs (.sin p gd rd ra rb) (modulated fun _ _ => 0) ∧
      runs (.dmin p gd rd ra rb) (modulated fun _ lo => -16384 - lo)) ∧
    (∀ spn : BitVec 10, pf = .c → allData .c [rd] = true →
      runs (.gbrd p gd rd spn) (fun k => k.wr .c rd.toNat (K (spn.toNat / 64) (spn.toNat % 64))) ∧
      (spn.toNat < 64 → runs (.gbrda p gd rd spn) (fun k => k.wr .c rd.toNat (K (k.gb.toNat % 16) spn.toNat))) ∧
      (s.bankWritable (s.blockOf p) (spn.toNat / 64) = true → (∀ c, p = .cell c → (vget s.lcell c).twin = none) →
        ∃ t, exec (.gbwr p gd rd spn) s = .next t ∧
          t.gain (s.blockOf p) (spn.toNat / 64) (spn.toNat % 64) = BitVec.ofNat 16 ((s.coreOf p).u .c rd.toNat) ∧
          (∀ b i j, j < 64 → ¬ (b = s.blockOf p ∧ i = spn.toNat / 64 ∧ j = spn.toNat % 64) → t.gain b i j = s.gain b i j) ∧
          t.coreOf p = (s.coreOf p).advance .c ∧ t.mem = s.mem ∧ t.regs = s.regs) ∧
      (s.bankWritable (s.blockOf p) (spn.toNat / 64) = false →
        exec (.gbwr p gd rd spn) s = .next (s.trap p (encY 0x24 gd rd spn 0x02) (.access stPERM spn.toNat)))) ∧
    (∀ fn : BitVec 8, pf = .c → allData .c [rd, ra] = true → rb = 0 → fn.toNat < 4 →
      runs (.lutg p gd rd ra rb fn) (fun k =>
        let e := k.i .c ra.toNat
        let m := min e.natAbs 32767
        let g (i : Nat) : Int := K (k.gb.toNat % 16) (16 * fn.toNat + i)
        let z := if m / 2048 = 15 then g 15
          else g (m / 2048) + k.rnd ((g (m / 2048 + 1) - g (m / 2048)) * (m % 2048 : Nat)) 11
        ((k.zn 16 z).vf false).wr .c rd.toNat z)) ∧
    (∀ fn : BitVec 5, pf = .c → allData .c [rd] = true → rb.toNat < 16 →
      let step (D : Core → Int) (k : Core) : Core :=
        let g (i : Nat) : Int := K (k.gb.toNat % 16) i
        let e := k.i .c ra.toNat
        let sh : Int := 2 ^ (fn.toNat % 4)
        let kp := if bitN fn.toNat 2 then gainLaw k g 3 e else g (4 * rb.toNat)
        let I := k.a (fn.toNat / 8) + 2 * g (4 * rb.toNat + 1) * e * sh
        let v := 2 * kp * e * sh + I + D k * sh
        let hi := g (4 * rb.toNat + 2)
        let lo := g (4 * rb.toNat + 3)
        let up := hi * 2 ^ 16 < v
        let dn := ¬ up ∧ v < lo * 2 ^ 16
        let z := if up then hi else if dn then lo else k.rnd v 16
        let k1 := if (up ∧ 0 < e) ∨ (dn ∧ e < 0) then k else (k.sat 40 I).1.wrA (fn.toNat / 8) (k.sat 40 I).2
        ((k1.zn 16 z).vf (decide (up ∨ dn))).wr .c rd.toNat z;
      (allData .c [ra] = true → runs (.pi p gd rd ra rb fn) (step fun _ => 0)) ∧
      (isPair .c ra = true → rb.toNat ≠ 15 → runs (.pid p gd rd ra rb fn) (step fun k =>
        2 * K (k.gb.toNat % 16) (4 * rb.toNat + 4) * (k.i .c ra.toNat - k.i .c (ra.toNat + 1)))))

/-- R23, R149 to R153. -/
def Obligations.SornasLoadsStores : Prop :=
  (∀ (c : Fin 128) (gd : BitVec 3) (rd ra : BitVec 5) (s : State), s.mayRun (.cell c) gd → isData .c rd.toNat = true →
    isAddr .c ra.toNat = true → s.memOk →
    let p := Proc.cell c
    let k := s.coreOf p
    let runs (i : Instr) (f : Core → Core) : Prop := ∃ t, exec i s = .next t ∧ s.ranAs t p fun k => (f k).advance .c
    let at_ (w : Nat) : Nat := cellWin (s.physIx c).val + 0x4000 + 2 * w
    let stores (i : Instr) (a : Nat) (k' : Core) : Prop := (vget s.lcell c).twin = none → ∃ t, exec i s = .next t ∧
      memHalf t.mem a = BitVec.ofNat 16 (k.u .c rd.toNat) ∧ s.memSame t a 2 ∧ t.coreOf p = k'.advance .c ∧ t.regs = s.regs ∧
      t.ecc = s.ecc;
    (∀ imm : BitVec 11,
      let w := pat 20 (k.u .c ra.toNat + imm.toInt);
      w < 0x1000 → s.eccOf (at_ w) = 0 →
        runs (.ld p gd rd ra 0 imm) (fun k => k.wr .c rd.toNat (memHalf s.mem (at_ w)).toNat) ∧
        runs (.ldu p gd rd ra 0 imm) (fun k => k.wr .c rd.toNat (memHalf s.mem (at_ w)).toNat) ∧
        stores (.st p gd rd ra 0 imm) (at_ w) k) ∧
    (∀ (md : BitVec 2) (imm : BitVec 8), md.toNat < 2 →
      let new (k : Core) : Nat := pat 20 (k.u .c ra.toNat + imm.toInt)
      let w := if md = 1 then new k else k.u .c ra.toNat;
      w < 0x1000 → s.eccOf (at_ w) = 0 →
        runs (.ldstxLoad p gd rd ra 0 md imm) (fun k =>
          (k.wr .c ra.toNat (new k)).wr .c rd.toNat (memHalf s.mem (at_ w)).toNat) ∧
        stores (.ldstxStore p gd rd ra 0 md imm) (at_ w) (k.wr .c ra.toNat (new k)))) ∧
  (∀ (c : Fin 5) (gd : BitVec 3) (rd ra : BitVec 5) (imm : BitVec 11) (s : State), s.mayRun (.col c) gd → s.memOk →
    let p := Proc.col c
    let k := s.coreOf p
    let runs (i : Instr) (f : Core → Core) : Prop := ∃ t, exec i s = .next t ∧ s.ranAs t p fun k => (f k).advance .s
    let a := pat 32 (k.u .s ra.toNat + imm.toInt);
    (a % 4 ≠ 0 → exec (.ld p gd rd ra 2 imm) s =
      .next ((s.refuse (.col c) stBAD_TARGET 0 a).trap p (encM 0x10 gd rd ra 2 imm) (.access stBAD_TARGET a))) ∧
    (a % 4 = 0 → 0x10000000 ≤ a → a < 0x10800000 → s.eccOf a = 0 →
      (s.mpu (sIndex p) a 0 = some false → s.accessStatus (.col c) false a = stOK →
        runs (.ld p gd rd ra 2 imm) (fun k => k.wr .s rd.toNat (memWord s.mem a).toNat)) ∧
      (s.mpu (sIndex p) a 1 = some false → s.accessStatus (.col c) true a = stOK →
        ∃ t, exec (.st p gd rd ra 2 imm) s = .next t ∧ memWord t.mem a = BitVec.ofNat 32 (k.u .s rd.toNat) ∧ s.memSame t a 4 ∧
          t.coreOf p = k.advance .s ∧ t.regs = s.regs ∧ t.ecc = s.ecc))) ∧
  (∀ (c : Fin 128) (s : State), (s.cellCores c).Nodup → s.memOk →
    ((s.treesOn = false ∨ s.physOf c = none ∨ s.wbufOf c = []) → exec (.writeBufferDrain c) s = .next s) ∧
    (∀ a v w rest, s.treesOn = true → s.physOf c ≠ none → s.wbufOf c = .mem a v w :: rest → a % 2 = 0 → s.eccOf a = 0 →
      s.mayGranule c a = true → ∃ t, exec (.writeBufferDrain c) s = .next t ∧ memHalf t.mem a = v ∧ s.memSame t a 2 ∧
        t.wbufOf c = rest ∧ t.coreOf (.cell c) = s.coreOf (.cell c) ∧ t.regs = s.regs))

/-- R185 to R189. -/
def Obligations.SornasBlockOps : Prop :=
  ∀ (c : Fin 128) (gd : BitVec 3) (rd ra rb : BitVec 5) (most : BitVec 16) (s : State), s.mayRun (.cell c) gd →
    (vget s.lcell c).twin = none → s.ix c = 0 → s.memOk →
    let p := Proc.cell c
    let k := s.coreOf p
    let at_ (w : Nat) : Nat := cellWin (s.physIx c).val + 0x4000 + 2 * w
    let clean (w n : Nat) : Prop := w + n ≤ 0x1000 ∧ ∀ i, i < n → s.eccOf (at_ (w + i)) = 0;
    (∀ (aa : BitVec 2) (cnt : Fin 16),
      let n := k.u .c cnt.val
      let ax := k.u .c ra.toNat
      let ay := k.u .c rb.toNat
      let X (i : Nat) : Int := sx 16 (memHalf s.mem (at_ (ax + i))).toNat
      let Y (i : Nat) : Int := sx 16 (memHalf s.mem (at_ (ay + i))).toNat;
      isAddr .c ra.toNat = true → isAddr .c rb.toNat = true → n ≤ most.toNat → clean ax n → clean ay n →
        ∃ t, exec (.blkmac p gd aa 0 ra rb (BitVec.ofNat 8 (16 * cnt.val)) most) s = .next t ∧
          (t.coreOf p).a aa.toNat = (List.range n).foldl (fun z i => (k.sat 40 (z + 2 * X i * Y i)).2) (k.a aa.toNat) ∧
          (t.coreOf p).prog = 0 ∧ (t.coreOf p).pc = (k.advance .c).pc ∧ (t.coreOf p).r = k.r ∧ t.mem = s.mem ∧ t.regs = s.regs) ∧
    (let n := k.u .c rb.toNat
      let src := k.u .c ra.toNat
      let dst := k.u .c rd.toNat;
      isAddr .c rd.toNat = true → isAddr .c ra.toNat = true → isData .c rb.toNat = true → n ≤ most.toNat → dst + n ≤ 0x1000 →
        (clean src n → (src + n ≤ dst ∨ dst + n ≤ src) → ∃ t, exec (.movb p gd rd ra rb most) s = .next t ∧
          (∀ i, i < n → memHalf t.mem (at_ (dst + i)) = memHalf s.mem (at_ (src + i))) ∧ s.memSame t (at_ dst) (2 * n) ∧
          (t.coreOf p).prog = 0 ∧ (t.coreOf p).pc = (k.advance .c).pc ∧ (t.coreOf p).r = k.r ∧ t.regs = s.regs) ∧
        (clean src 1 → (src < dst ∨ dst + n ≤ src) → ∃ t, exec (.fillb p gd rd ra rb most) s = .next t ∧
          (∀ i, i < n → memHalf t.mem (at_ (dst + i)) = memHalf s.mem (at_ src)) ∧ s.memSame t (at_ dst) (2 * n) ∧
          (t.coreOf p).prog = 0 ∧ (t.coreOf p).pc = (k.advance .c).pc ∧ (t.coreOf p).r = k.r ∧ t.regs = s.regs))

/-- R190 to R194, R199 to R202. -/
def Obligations.SornasWaits : Prop :=
  (∀ (c : Fin 128) (gd : BitVec 3) (s : State), s.mayRun (.cell c) gd → (vget s.lcell c).twin = none →
    let p := Proc.cell c
    let k := s.coreOf p
    let ph := vget s.phys (s.physIx c)
    let runs (i : Instr) (f : Core → Core) : Prop := ∃ t, exec i s = .next t ∧ s.ranAs t p fun k => (f k).advance .c;
    (∀ rd : BitVec 5, isData .c rd.toNat = true →
      ((k.stb 13 = true ∨ k.stb 14 = true) → runs (.ckpt p gd rd 0 0 0) (fun k => k.wr .c rd.toNat 0xFFFD)) ∧
      (k.stb 13 = false → k.stb 14 = false →
        (s.bit CELL_CFG c.val CELL_CFG_FLOW = false → runs (.ckpt p gd rd 0 0 0) (fun k => k.wr .c rd.toNat 0xFFFF)) ∧
        (s.bit CELL_CFG c.val CELL_CFG_FLOW = true →
          let r := if s.activeRecord c = some 0 then 1 else 0
          let gen := ((vget s.lcell c).clGen.toNat + 1) % 256
          let flow (s : State) (j : Nat) : Half := smGet 0 (vget s.block (blockOf c)).flow (256 * (c.val % 8) + j);
          s.ckptFails c r 0 = false → ∃ t, exec (.ckpt p gd rd 0 0 0) s = .next t ∧
            t.coreOf p = (k.wr .c rd.toNat gen).advance .c ∧ (vget t.lcell c).clGen.toNat = gen ∧
            t.fld CELL_STAT c.val CELL_STAT_GEN = gen ∧ flow t (128 * r) = BitVec.ofNat 16 (gen * 256 + 1) ∧
            flow t (128 * r + 1) = BitVec.ofNat 16 (pcAdd .c k.pc 1).toNat ∧
            (∀ j, j < 128 → flow t (128 * (1 - r) + j) = flow s (128 * (1 - r) + j)) ∧ t.mem = s.mem))) ∧
    (∀ (ra : BitVec 5) (ord : Bool), isAddr .c ra.toNat = true →
      let a := k.u .c ra.toNat
      let base := cellWin (s.physIx c).val + 0x4000 + 2 * a
      let image (wait : Bool) : WbufEntry :=
        .submit (memWord s.mem base) (memWord s.mem (base + 4)) (memWord s.mem (base + 8)) (memWord s.mem (base + 12)) ord wait;
      a % 2 = 0 → a + 8 ≤ 0x1000 → (∀ i, i < 8 → s.eccOf (base + 2 * i) = 0) → (s.wbufOf c).length < 4 →
        (∃ t, exec (.submit p gd 0 ra 0 (if ord then 1 else 0)) s = .next t ∧ t.wbufOf c = s.wbufOf c ++ [image false] ∧
          t.coreOf p = k.advance .c ∧ t.mem = s.mem ∧ t.regs = s.regs) ∧
        (∀ rd : BitVec 5, isPair .c rd = true → ∃ t, exec (.submit p gd rd ra 0 (if ord then 3 else 2)) s = .next t ∧
          t.wbufOf c = s.wbufOf c ++ [image true] ∧ t.waitOf p = .decision rd.toNat ∧ t.coreOf p = k ∧ t.mem = s.mem ∧
          t.regs = s.regs)) ∧
    (∀ e rest, ph.fifo = e :: rest →
      runs (.wait p gd 0 0 0 0) id ∧
      (∀ rd : BitVec 5, isData .c rd.toNat = true → ∃ t, exec (.waitp p gd rd 0 0 0) s = .next t ∧
        t.coreOf p = ({ k.wr .c rd.toNat e.vec with ev := e.payload } : Core).advance .c ∧
        (∃ more, (vget t.phys (t.physIx c)).fifo = rest ++ more) ∧ t.mem = s.mem)) ∧
    (ph.fifo = [] → ∀ ra : BitVec 5, isData .c ra.toNat = true →
      let n := k.u .c ra.toNat;
      exec (.wait p gd 0 0 0 0) s = .next (s.setWait p (.sleep false 0 none)) ∧
      (n = 0 → runs (.wait p gd 0 ra 0 1) id ∧
        ∀ rd : BitVec 5, isData .c rd.toNat = true → runs (.waitp p gd rd ra 0 1) (fun k => k.wr .c rd.toNat 0xFFFF)) ∧
      (n ≠ 0 → exec (.wait p gd 0 ra 0 1) s = .next (s.setWait p (.sleep false 0 (some (s.tick + n)))) ∧
        ∀ rd : BitVec 5, isData .c rd.toNat = true →
          exec (.waitp p gd rd ra 0 1) s = .next (s.setWait p (.sleep true rd.toNat (some (s.tick + n)))))) ∧
    (∀ e ∈ [(Instr.fenceB, 0), (Instr.fenceR, 1), (Instr.fenceC, 2)],
      (s.fenceClear c e.2 = true → ∃ t, exec (e.1 p gd 0 0 0) s = .next t ∧ s.ranAs t p (·.advance .c)) ∧
      (s.fenceClear c e.2 = false → exec (e.1 p gd 0 0 0) s = .next (s.setWait p (.fence e.2)))) ∧
    (∃ t, exec (.fenceE p gd 0 0 0) s = .next t ∧ (vget t.phys (t.physIx c)).fenceE = true ∧ t.coreOf p = k.advance .c ∧
      t.mem = s.mem ∧ t.regs = s.regs)) ∧
  (∀ (c : Fin 128) (s : State), (vget s.lcell c).twin = none →
    let p := Proc.cell c;
    ((∀ b r t, s.waitOf p = .sleep b r (some t) → s.tick < t) → exec (.waitTimeout c) s = .next s) ∧
    (∀ b r l, s.waitOf p = .sleep b r (some l) → l ≤ s.tick → s.alive p = true → ∃ t, exec (.waitTimeout c) s = .next t ∧
      t.waitOf p = .run ∧ t.coreOf p = (if b then (s.coreOf p).wr .c r 0xFFFF else s.coreOf p).advance .c ∧ t.mem = s.mem) ∧
    (∀ n, s.waitOf p = .fence n → s.alive p = true →
      (s.fenceClear c n = false → exec (.fenceComplete p) s = .next s) ∧
      (s.fenceClear c n = true → ∃ t, exec (.fenceComplete p) s = .next t ∧ t.waitOf p = .run ∧
        t.coreOf p = (s.coreOf p).advance .c ∧ t.mem = s.mem))) ∧
  (∀ (c : Fin 5) (gd : BitVec 3) (s : State), s.mayRun (.col c) gd →
    let runs (i : Instr) (f : Core → Core) : Prop := ∃ t, exec i s = .next t ∧ s.ranAs t (.col c) fun k => (f k).advance .s;
    runs (.fenceB (.col c) gd 0 0 0) id ∧ runs (.fenceR (.col c) gd 0 0 0) id ∧ runs (.fenceC (.col c) gd 0 0 0) id)

/-- R204, R205, R208 to R210, R217. -/
def Obligations.CellStartStop : Prop :=
  (∀ (ag : Agent) (c : Fin 128) (s : State), s.accessStatus ag true (CELL_CTRL.addr c.val) = stOK →
    (∀ load entry, (s.lstate c ≠ 0 ∧ s.lstate c ≠ 3 ∨ (vget s.lcell c).work ≠ .none) → exec (.start ag c load entry) s = .next s) ∧
    (∀ (entry : BitVec 12) (p : Fin 128), (s.lstate c = 0 ∨ s.lstate c = 3) → (vget s.lcell c).work = .none → s.physOf c = some p →
      s.pstate p ≠ 5 →
      (s.role c = 0 → (vget s.lcell c).twin = none → ∃ t, exec (.start ag c false entry) s = .next t ∧ t.lstate c = 1 ∧ t.pstate p = 1 ∧
        t.physOf c = some p ∧ (vget t.phys p).core.pc = entry.zeroExtend 32 ∧ (vget t.phys p).fifo = (vget s.phys p).fifo ∧
        (vget t.phys p).wbuf = (vget s.phys p).wbuf ∧ (vget t.phys p).wait = .run ∧ t.mem = s.mem) ∧
      (∃ t, exec (.start ag c true entry) s = .next t ∧ (vget t.lcell c).work = .start ag entry.toNat false ∧ t.pstate p = 4 ∧
        t.lstate c = s.lstate c ∧ t.phys = s.phys ∧ t.mem = s.mem)) ∧
    ((vget s.lcell c).work = .none → s.lstate c ≠ 1 → s.lstate c ≠ 4 → exec (.stop ag c) s = .next s) ∧
    (∀ p, (vget s.lcell c).work = .none → s.lstate c = 1 → s.physOf c = some p → (vget s.lcell c).twin = none →
      ∃ t, exec (.stop ag c) s = .next t ∧ t.lstate c = 0 ∧ t.pstate p = 0 ∧ (vget t.phys p).wait = .run ∧
        (vget t.phys p).wbuf = (vget s.phys p).wbuf ∧ (vget t.phys p).core = (vget s.phys p).core ∧ t.mem = s.mem) ∧
    (∀ g e b, (vget s.lcell c).work = .start g e b → ∃ t, exec (.stop ag c) s = .next t ∧
      (vget t.lcell c).work = .start g e true ∧ t.lstate c = s.lstate c ∧ t.phys = s.phys)) ∧
  (∀ (c : Fin 128) (s : State),
    ((∀ g e b, (vget s.lcell c).work ≠ .start g e b) → exec (.imageCopyDone c) s = .next s) ∧
    (∀ g e b p, (vget s.lcell c).work = .start g e b → s.physOf c = some p →
      (∀ a s1, s.loadCell c p = (some a, s1) → ∃ t, exec (.imageCopyDone c) s = .next t ∧ t.lstate c = 3 ∧
        t.fld CELL_STAT c.val CELL_STAT_CAUSE = 7 ∧ t.bit CELL_STAT c.val CELL_STAT_FLT = true ∧ (vget t.lcell c).work = .none) ∧
      (∀ s1, s.loadCell c p = (none, s1) → s.role c = 0 → b = false → (vget s.lcell c).twin = none →
        ∃ t, exec (.imageCopyDone c) s = .next t ∧ t.lstate c = 1 ∧ t.pstate p = 1 ∧ (vget t.lcell c).work = .none ∧
          (vget t.phys p).core.pc = BitVec.ofNat 32 (e % 4096) ∧ t.mem = s1.mem)) ∧
    (s.lstate c ≠ 1 → exec (.kick c) s = .next s) ∧
    (s.lstate c = 1 → ∃ t, exec (.kick c) s = .next t ∧ (vget t.lcell c).kickAt = s.tick ∧
      (∀ d, d ≠ c → vget t.lcell d = vget s.lcell d) ∧ t = { s with lcell := t.lcell })) ∧
  (∀ (ag : Agent) (c : Fin 128) (v : Word) (s : State), s.accessStatus ag true (CELL_BIND.addr c.val) = stOK →
    s.ownerOf 0x01 c.val = 0 →
    let taken := ∃ j d, j < 4 ∧ d < 32 ∧ 32 * (c.val / 32) + d ≠ c.val ∧ bitN (CELL_BIND_ADCM.get v) j = true ∧
      bitN (s.fld CELL_BIND (32 * (c.val / 32) + d) CELL_BIND_ADCM) j = true;
    (¬ taken → exec (.cellBindWrite ag c v) s = .next (s.setReg CELL_BIND c.val (v &&& 0xFFFEFF00))) ∧
    (taken → exec (.cellBindWrite ag c v) s = .next (s.refuse ag stPERM 1 (CELL_BIND.addr c.val)))) ∧
  (∀ (ag : Agent) (b : Fin 16) (mask : Byte) (s : State), s.accessStatus ag true (BLK_CTRL.addr b.val) = stOK →
    ∃ t, exec (.releasePhysical ag b mask) s = .next t ∧ t = { s with regs := t.regs } ∧
      s.regsSame t [BLK_PSTATE.addr b.val, BLK_MAP.addr b.val] ∧
      ∀ p : Fin 128, p.val / 8 = b.val →
        (mask.getLsbD (p.val % 8) = true → s.pstate p = 5 → t.pstate p = 0 ∧ ∀ l, s.logOf p = some l → t.physOf l = none) ∧
        (mask.getLsbD (p.val % 8) = false ∨ s.pstate p ≠ 5 → t.pstate p = s.pstate p))

/-- R217 to R221, R229. -/
def Obligations.CellFaults : Prop :=
  ∀ (c : Fin 128) (s : State),
    (let due := ∃ p t, s.physOf c = some p ∧ (vget s.phys p).trapAt = some t ∧ s.lstate c = 1 ∧ t + 640 ≤ s.tick;
      (¬ due → exec (.trapesc c) s = .next s) ∧ (due → exec (.trapesc c) s = .next (s.cellFault c 3))) ∧
    (let n := s.fld CELL_WDT c.val CELL_WDT_WDT
      let due := s.lstate c = 1 ∧ n ≠ 0 ∧ (vget s.lcell c).kickAt + 640 * n ≤ s.tick;
      (¬ due → exec (.wdt c) s = .next s) ∧ (due → exec (.wdt c) s = .next (s.cellFault c 4))) ∧
    (let n := s.fld CELL_WDT c.val CELL_WDT_CKMAX
      let due := s.lstate c = 1 ∧ n ≠ 0 ∧ (vget s.lcell c).ckAt + 640 * n ≤ s.tick;
      (¬ due → exec (.ckage c) s = .next s) ∧ (due → exec (.ckage c) s = .next (s.cellFault c 5))) ∧
    (∀ cause p, cause < 8 → s.lstate c = 1 → (vget s.lcell c).work = .none → (vget s.lcell c).twin = none → s.physOf c = some p →
      let t := s.cellFault c cause
      let fact := s.fld CELL_CFG c.val CELL_CFG_FACT;
      t.fld CELL_STAT c.val CELL_STAT_CAUSE = cause ∧ t.bit CELL_STAT c.val CELL_STAT_FLT = true ∧
      t.bit BLK_STAT (c.val / 8) BLK_STAT_FAULT = true ∧
      (fact = 1 → t.lstate c = 3 ∧ t.pstate p = 5) ∧
      (fact = 2 → (cause = 4 ∨ cause = 5) → t.lstate c = 1 ∧ (vget t.lcell c).kickAt = s.tick ∧ t.phys = s.phys) ∧
      (fact = 0 → s.pstate p = 1 → ∀ sp l rest, s.spares c = (sp, l) :: rest →
        t.lstate c = 2 ∧ t.physOf c = some sp ∧ t.pstate p = 5 ∧ t.pstate sp = 4 ∧ t.lstate l = 0 ∧
        (vget t.lcell c).work = .migrate p.val sp.val l.val cause s.tick s.nsLo false false none)) ∧
    ((∀ f p po ca si ns ag st se, (vget s.lcell c).work ≠ .migrate f p po ca si ns ag st se) →
      exec (.migrationComplete c) s = .next s) ∧
    (∀ (f : Nat) (p : Fin 128) (po ca si : Nat) (ns : Word) (ag : Bool), (vget s.lcell c).work = .migrate f p.val po ca si ns ag false none →
      (∀ a s1, s.loadCell c p = (some a, s1) → ∃ t, exec (.migrationComplete c) s = .next t ∧ t.lstate c = 3 ∧
        t.fld BLK_MIGLOG (c.val / 8) BLK_MIGLOG_STATUS = stECC ∧ (vget t.lcell c).work = .none) ∧
      (∀ s1, s.loadCell c p = (none, s1) →
        let rec_ := if s.bit CELL_CFG c.val CELL_CFG_FLOW then s1.activeRecord c else none;
        ∃ t, exec (.migrationComplete c) s = .next t ∧ t.lstate c = 1 ∧ t.pstate p = 1 ∧ (vget t.lcell c).work = .none ∧
          t.bit BLK_STAT (c.val / 8) BLK_STAT_MIG = true ∧ t.bit CELL_STAT c.val CELL_STAT_MIG = true ∧ (vget t.lcell c).clMig = true ∧
          (∀ r, rec_ = some r →
            (vget t.phys p).core = { flowCore (s.flowWord c r) with xvec := (vget s.lcell c).xvecSh } ∧
            t.fld CELL_STAT c.val CELL_STAT_GEN = s.flowGen c r) ∧
          (rec_ = none → (vget t.phys p).core.pc = BitVec.ofNat 32 (s.fld CELL_CTRL c.val CELL_CTRL_ENTRY) ∧
            t.bit CELL_STAT c.val CELL_STAT_COLD = true))) ∧
    (∀ g : Fin 32,
      ((∀ d t0, (s.pg g).mig = some (d, true, t0) → s.tick < t0 + max 1 (s.fld CELL_CFG d CELL_CFG_HOLDT) * 5120) →
        exec (.migrationHoldTimeout g) s = .next s) ∧
      (∀ d t0, (s.pg g).mig = some (d, true, t0) → t0 + max 1 (s.fld CELL_CFG d CELL_CFG_HOLDT) * 5120 ≤ s.tick →
        ∃ t, exec (.migrationHoldTimeout g) s = .next t ∧ (t.pg g).mig = some (d, false, s.tick) ∧ t.time = s.time ∧ t.mem = s.mem)) ∧
    (let l := vget s.lcell c;
      (l.pmPend = 0 → exec (.pmcOverflowEntry c) s = .next s) ∧
      (∀ k s1, (List.range 4).find? (fun k => l.pmPend.getLsbD k) = some k →
        s.pushFifo c { vec := l.pmstat.toNat / 2 ^ 16 % 16, payload := BitVec.ofNat 16 k, ring := none } = some s1 →
        ∃ t, exec (.pmcOverflowEntry c) s = .next t ∧ (vget t.lcell c).pmPend = l.pmPend &&& ~~~(1#4 <<< k) ∧ t.phys = s1.phys))

/-- The two gates of a leg are never on together: an invariant of every step. -/
def Obligations.StepKeepsGatesApart : Prop :=
  let apart (s : State) : Prop := ∀ (k : Fin 16) (p : Fin 3),
    ¬ ((vget (s.br k).outs (hiOf p)).gate = true ∧ (vget (s.br k).outs (loOf p)).gate = true)
  ∀ s t : State, apart s → step s = .next t → apart t

/-- R267 to R269, R277, R282. -/
def Obligations.GroupControl : Prop :=
  (∀ (ag : Agent) (g : Fin 32) (v : Word) (s : State), s.accessStatus ag true (PWM_GCTL.addr g.val) = stOK →
    (s.bit PWM_GCTL g.val PWM_GCTL_EN = false →
      let s1 := s.setReg PWM_GCTL g.val (PWM_GCTL_EN.put v 1 &&& 0xC0FF0000);
      (s1.isNear (s1.startStamp g) = false → exec (.groupEnable ag g v) s = .next (s1.modPg g fun p => { p with armed := true, lateAt := none })) ∧
      (s1.isNear (s1.startStamp g) = true → ∃ t, exec (.groupEnable ag g v) s = .next t ∧ (t.pg g).armed = true ∧
        (t.pg g).lateAt = some ((s.tick / 2 + 1) * 16) ∧ t.bit PWM_GSTAT g.val PWM_GSTAT_LATESTART = true ∧
        s.regsSame t [PWM_GCTL.addr g.val, PWM_GSTAT.addr g.val] ∧ t = { s with regs := t.regs, grp := t.grp })) ∧
    (s.galOk → s.bit PWM_GCTL g.val PWM_GCTL_EN = true → ∃ t, exec (.groupDisable ag g v) s = .next t ∧
      t.bit PWM_GCTL g.val PWM_GCTL_EN = false ∧ t.running g = false ∧ (t.pg g).armed = false ∧ (t.pg g).reqs = [] ∧
      (t.pg g).late = [] ∧ t.bit PWM_GSTAT g.val PWM_GSTAT_PEND = false ∧
      (∀ k : Fin 16, s.bgrp k = g → ∀ i : Fin 6, (vget (t.br k).outs i).queue = [] ∧ (vget (t.br k).outs i).req = false) ∧
      ((s.pg g).reqs ≠ [] → t.bit PWM_GSTAT g.val PWM_GSTAT_CFAIL = true) ∧ t.time = s.time)) ∧
  (∀ (g : Fin 32) (s : State),
    ((s.fabricOn = false ∨ s.startAt g = none) → exec (.groupStart g) s = .next s) ∧
    (∀ u, s.galOk → s.fabricOn = true → s.startAt g = some u → ∃ t, exec (.groupStart g) s = .next t ∧ t.running g = true ∧
      (t.pg g).armed = false ∧ (t.pg g).bnd = u ∧ t.reg PWM_GBND g.val = s.nsLo ∧ t.time = s.time)) ∧
  (∀ (ag : Agent) (r : Fin 4) (v : Word) (s : State), s.accessStatus ag true (PWM_LOADALL.addr r.val) = stOK →
    ∃ t, exec (.pwmLoadallWrite ag r v) s = .next t ∧ t.time = s.time ∧ t.bridge = s.bridge ∧
      ∀ g, g < 8 → bitN (PWM_LOADALL_GROUPS.get v) g = true →
        let G := Fin.ofNat 32 (8 * r.val + g);
        (s.bit PWM_GCTL G.val PWM_GCTL_EN = true → Requester.agent (agentId ag) ∈ (t.pg G).reqs ++ (t.pg G).late) ∧
        (s.bit PWM_GCTL G.val PWM_GCTL_EN = false → t.bit PWM_GSTAT G.val PWM_GSTAT_CFAIL = true)) ∧
  (∀ (ag : Agent) (k : Fin 16) (v : Word) (s : State), s.accessStatus ag true (PWM_MCTL.addr k.val) = stOK →
    ∃ t, exec (.maskIndexSet ag k v) s = .next t ∧ t.fld PWM_BSTAT k.val PWM_BSTAT_MIDX = PWM_MCTL_IDX.get v ∧
      (∀ j, j ≠ k → vget t.bridge j = vget s.bridge j) ∧ t.mem = s.mem ∧ t.time = s.time)

/-- R268, R270, R272 to R274, R278, R279, R282. -/
def Obligations.PwmEdges : Prop :=
  ∀ s : State,
    (∀ g : Fin 32,
      (let at_ := (s.pg g).bnd + s.perOf g;
        ((s.fabricOn = false ∨ s.running g = false ∨ 8 * (s.tick + 1) ≤ at_) → exec (.periodBoundary g) s = .next s) ∧
        (s.galOk → s.fabricOn = true → s.running g = true → at_ < 8 * (s.tick + 1) → ∃ t, exec (.periodBoundary g) s = .next t ∧
          (t.pg g).bnd = at_ ∧ (t.pg g).mid = false ∧ (t.pg g).snap = none ∧ t.running g = true ∧ t.time = s.time)) ∧
      ((s.fabricOn = false ∨ s.pmidDue g = false) → exec (.pmid g) s = .next s) ∧
      (s.fabricOn = true → s.pmidDue g = true → ∃ t, exec (.pmid g) s = .next t ∧ (t.pg g).mid = true ∧ (t.pg g).bnd = (s.pg g).bnd ∧
        t.bridge = s.bridge ∧ t.time = s.time) ∧
      (let due := s.fabricOn = true ∧ (s.pg g).snap = none ∧
          (if s.running g = true then (s.pg g).bnd + s.perOf g - 512 < 8 * (s.tick + 1) else s.startSoon g = true);
        (¬ due → exec (.shadowSnapshot g) s = .next s) ∧
        (due → exec (.shadowSnapshot g) s = .next (s.modPg g fun p => { p with snap := some (s.captureGrp g) })))) ∧
    (∀ (k : Fin 16) (p : Fin 3),
      let b := s.br k
      let g := s.bgrp k
      let on := vget b.tOn p
      let off := vget b.tOff p
      let live := s.fabricOn = true ∧ s.running g = true ∧ s.bMode k = 0 ∧ on < off;
      (¬ live → exec (.carrierEdge k p) s = .next s) ∧
      (live → vget b.ref p = false → b.done.getLsbD (4 * p.val) = false → on ≠ 0 → (s.pg g).bnd + on < 8 * (s.tick + 1) →
        ∃ t, exec (.carrierEdge k p) s = .next t ∧ vget (t.br k).ref p = true ∧ (∀ j, j ≠ k → vget t.bridge j = vget s.bridge j) ∧
          t.mem = s.mem ∧ t.time = s.time) ∧
      (live → vget b.ref p = true → off < s.perOf g → (s.pg g).bnd + off < 8 * (s.tick + 1) →
        ∃ t, exec (.carrierEdge k p) s = .next t ∧ vget (t.br k).ref p = false ∧ (∀ j, j ≠ k → vget t.bridge j = vget s.bridge j) ∧
          t.mem = s.mem ∧ t.time = s.time) ∧
      ((s.fabricOn = false ∨ s.running g = false ∨ s.bMode k ≠ 1) → exec (.tableEdge k p) s = .next s) ∧
      (∀ (e : Fin 4) (o : Nat) (l : Bool), s.fabricOn = true → s.running g = true → s.bMode k = 1 →
        b.done.getLsbD (4 * p.val + e.val) = false → tabEntry b.act.tab[4 * p.val + e.val]! (s.perOf g) = some (o, l) →
        (∀ (e' : Fin 4) (o' : Nat) (l' : Bool), e' ≠ e → b.done.getLsbD (4 * p.val + e'.val) = false →
          tabEntry b.act.tab[4 * p.val + e'.val]! (s.perOf g) = some (o', l') → o < o') →
        (8 * (s.tick + 1) ≤ (s.pg g).bnd + o → exec (.tableEdge k p) s = .next s) ∧
        ((s.pg g).bnd + o < 8 * (s.tick + 1) → ∃ t, exec (.tableEdge k p) s = .next t ∧ vget (t.br k).ref p = l ∧
          (t.br k).done.getLsbD (4 * p.val + e.val) = true ∧ (∀ j, j ≠ k → vget t.bridge j = vget s.bridge j) ∧
          t.mem = s.mem ∧ t.time = s.time))) ∧
    (∀ (k : Fin 16) (i : Fin 6),
      let o := vget (s.br k).outs i;
      (o.queue = [] → exec (.listEdge k i) s = .next s) ∧
      (∀ u l q, o.queue = (u, l) :: q →
        ((s.fabricOn = false ∨ 8 * (s.tick + 1) ≤ u) → exec (.listEdge k i) s = .next s) ∧
        (s.fabricOn = true → u < 8 * (s.tick + 1) → ∃ t, exec (.listEdge k i) s = .next t ∧ (vget (t.br k).outs i).queue = q ∧
          (vget (t.br k).outs i).src = (if s.bMode k = 2 ∧ s.running (s.bgrp k) = true then l else o.src) ∧
          (∀ j, j ≠ k → vget t.bridge j = vget s.bridge j) ∧ t.mem = s.mem ∧ t.time = s.time)) ∧
      (o.held = [] → exec (.minPulseRelease k i) s = .next s) ∧
      (∀ u l rest, o.held = (u, l) :: rest →
        ((s.fabricOn = false ∨ 8 * (s.tick + 1) ≤ u) → exec (.minPulseRelease k i) s = .next s) ∧
        (s.fabricOn = true → u < 8 * (s.tick + 1) → ∃ t, exec (.minPulseRelease k i) s = .next t ∧ (vget (t.br k).outs i).req = l ∧
          (vget (t.br k).outs i).chgAt = some u ∧ (vget (t.br k).outs i).held.length = rest.length ∧
          (∀ j, j ≠ k → vget t.bridge j = vget s.bridge j) ∧ t.mem = s.mem ∧ t.time = s.time)) ∧
      (o.onAt = none → exec (.deadTimeExpiry k i) s = .next s) ∧
      (∀ u, o.onAt = some u →
        ((s.fabricOn = false ∨ 8 * (s.tick + 1) ≤ u) → exec (.deadTimeExpiry k i) s = .next s) ∧
        (s.fabricOn = true → u < 8 * (s.tick + 1) →
          let partner := vget (s.br k).outs (if i.val % 2 = 0 then loOf (legOf i) else hiOf (legOf i))
          let partnerIx := if i.val % 2 = 0 then loOf (legOf i) else hiOf (legOf i);
          s.stage4 k i = true → s.stage4 k partnerIx = false → o.inp = true → o.out = false → partner.out = false → partner.inp = false →
          vget (s.br k).shoot (legOf i) = false →
          ∃ t, exec (.deadTimeExpiry k i) s = .next t ∧ (vget (t.br k).outs i).out = true ∧ (vget (t.br k).outs partnerIx).out = false ∧
            (∀ j, j ≠ k → vget t.bridge j = vget s.bridge j) ∧ t.mem = s.mem ∧ t.time = s.time)))

/-- R234, R242, R244, R246, R250. -/
def Obligations.AxisCommands : Prop :=
  ∀ (ag : Agent) (x : Fin 8) (s : State),
    (∀ v, s.accessStatus ag true (AX_VDQ.addr x.val) = stOK → ∃ t, exec (.axVdqWrite ag x v) s = .next t ∧
      t.reg AX_VDQ x.val = v ∧ t.bit AX_STAT x.val AX_STAT_VSTALE = false ∧ (t.ax x).vfresh = true ∧
      s.regsSame t [AX_VDQ.addr x.val, AX_STAT.addr x.val] ∧ (∀ y, y ≠ x → t.ax y = s.ax y) ∧
      t = { s with regs := t.regs, axis := t.axis }) ∧
    (s.accessStatus ag true (SH_CMD.addr x.val) = stOK →
      exec (.apply ag x) s = .next (s.modU x fun u => { u with apply := true }) ∧
      (∀ m, exec (.excl ag x m) s = .next (s.modU x fun u => { u with excl := u.excl ||| m })) ∧
      (∀ m, exec (.readmit ag x m) s = .next (s.modU x fun u => { u with readm := u.readm ||| m }) ∧
        ∀ t, exec (.readmit ag x m) s = .next t → ∀ q, q < 4 →
          (t.shPresent (axBr x q) ((t.ax x).excl.getLsbD q) = none → t.shJudge x q =
            if m.getLsbD q = true ∨ (s.ax x).readm.getLsbD q = true then 0 else s.shCause x q) ∧
          (∀ c, t.shPresent (axBr x q) ((t.ax x).excl.getLsbD q) = some c →
            t.shJudge x q = if s.shCause x q = 0 then c else s.shCause x q))) ∧
    (s.accessStatus ag true (OPP_CTRL.addr x.val) = stOK → ∀ (a : Half) (p : BitVec 6),
      (s.bit OPP_CFG x.val OPP_CFG_EN = false ∨ s.oppState x ≠ 0 → exec (.oppStart ag x a p) s = .next (s.oppDrop x)) ∧
      (s.bit OPP_CFG x.val OPP_CFG_EN = true → s.oppState x = 0 →
        (s.oppRecord x p.toNat = none → exec (.oppStart ag x a p) s = .next (s.flag OPP_STAT x.val OPP_STAT_BADPAT)) ∧
        (∀ r, s.oppRecord x p.toNat = some r → ∃ t x0, exec (.oppStart ag x a p) s = .next t ∧ t.oppState x = 1 ∧
          t.fld OPP_STAT x.val OPP_STAT_NEXT = p.toNat ∧ x0 % 2 ^ 32 = a.toNat * 2 ^ 16 ∧
          (t.ax x).opp.cmd = some { start := true, x0 := x0, pat := r, no := p.toNat } ∧
          s.regsSame t [OPP_STAT.addr x.val] ∧ (∀ y, y ≠ x → t.ax y = s.ax y) ∧ t = { s with regs := t.regs, axis := t.axis })) ∧
      (s.oppState x ≠ 2 → exec (.oppSwitch ag x a p) s = .next (s.oppDrop x)) ∧
      (s.oppState x = 2 → (∀ k, (s.ax x).opp.cmd = some k → (s.ax x).opp.cursor ≠ k.x0 ∨ (s.ax x).opp.gate = 96) →
        (s.oppRecord x p.toNat = none → exec (.oppSwitch ag x a p) s = .next (s.flag OPP_STAT x.val OPP_STAT_BADPAT)) ∧
        (∀ r, s.oppRecord x p.toNat = some r → ∃ t x0, exec (.oppSwitch ag x a p) s = .next t ∧ t.oppState x = 2 ∧
          t.bit OPP_STAT x.val OPP_STAT_SWPEND = true ∧ t.fld OPP_STAT x.val OPP_STAT_NEXT = p.toNat ∧
          x0 % 2 ^ 32 = a.toNat * 2 ^ 16 ∧ (t.ax x).opp.cmd = some { start := false, x0 := x0, pat := r, no := p.toNat } ∧
          s.regsSame t [OPP_STAT.addr x.val] ∧ (∀ y, y ≠ x → t.ax y = s.ax y) ∧ t = { s with regs := t.regs, axis := t.axis })) ∧
      (s.oppState x ≠ 1 → s.oppState x ≠ 2 → exec (.oppStop ag x a) s = .next (s.oppDrop x)) ∧
      (s.oppState x = 1 → ∃ t, exec (.oppStop ag x a) s = .next t ∧ t.oppState x = 0 ∧ (t.ax x).opp.cmd = none ∧
        s.regsSame t [OPP_STAT.addr x.val] ∧ t = { s with regs := t.regs, axis := t.axis }) ∧
      (s.oppState x = 2 → ∃ t u, exec (.oppStop ag x a) s = .next t ∧ t.oppState x = 3 ∧ (t.ax x).opp.stop = some u ∧
        u % 2 ^ 32 = a.toNat * 2 ^ 16 ∧ s.regsSame t [OPP_STAT.addr x.val] ∧ t = { s with regs := t.regs, axis := t.axis }))

/-- R254 to R260. -/
def Obligations.SixStepUnit : Prop :=
  ∀ (x : Fin 8) (s : State),
    let u := (s.ax x).ssx
    let shows (t : State) (ph m : Nat) : Prop := t.ssxPhase x = ph ∧ t.ssxState x = m ∧
      t.fld PWM_BSTAT (axBr x (s.fld SSX_CFG x.val SSX_CFG_BR)).val PWM_BSTAT_MIDX = m ∧ t.time = s.time ∧ t.mem = s.mem
    let lost (t : State) (cause : Nat) : Prop := t.fld SSX_STAT x.val SSX_STAT_CAUSE = cause ∧ (t.ax x).ssx.sched = none ∧
      shows t (if s.fld SSX_STAT x.val SSX_STAT_RETRIES < s.fld SSX_RETRY x.val SSX_RETRY_RETRY_MAX then 6 else 7) 6
    (∀ ag : Agent, s.accessStatus ag true (SSX_CTRL.addr x.val) = stOK →
      (s.bit SSX_CFG x.val SSX_CFG_EN = true → s.ssxPhase x = 0 → ∃ t, exec (.ssxCtrlStart ag x) s = .next t ∧ shows t 1 6 ∧
        t.fld SSX_STAT x.val SSX_STAT_RETRIES = 0 ∧ (t.ax x).ssx.since = s.tick) ∧
      (s.bit SSX_CFG x.val SSX_CFG_EN = false ∨ s.ssxPhase x ≠ 0 → exec (.ssxCtrlStart ag x) s = .next s) ∧
      (s.ssxPhase x = 0 → exec (.ssxCtrlStop ag x) s = .next s) ∧
      (s.ssxPhase x ≠ 0 → ∃ t, exec (.ssxCtrlStop ag x) s = .next t ∧ shows t 0 6 ∧ (t.ax x).ssx.sched = none)) ∧
    ((∀ n, s.ssxTime x = some n → s.ssxLive x = false ∨ s.tick < u.since + n) → exec (.ssxPhaseTimer x) s = .next s) ∧
    (∀ n, s.ssxTime x = some n → s.ssxLive x = true → u.since + n ≤ s.tick → ∃ t, exec (.ssxPhaseTimer x) s = .next t ∧
      (s.ssxPhase x = 1 → shows t 3 (s.alignS x)) ∧ (s.ssxPhase x = 2 ∨ s.ssxPhase x = 6 → shows t 1 6) ∧
      (s.ssxPhase x = 3 → shows t 4 (s.ssxStep x (s.alignS x)) ∧ (t.ax x).ssx.ti = s.fld SSX_RAMP x.val SSX_RAMP_T0 * 640)) ∧
    (let due := ∃ c, u.sched = some c ∧ c ≤ s.tick ∧ s.ssxLive x = true ∧ s.ssxPhase x = 5;
      (¬ due → exec (.commutation x) s = .next s) ∧
      (due → ∃ t, exec (.commutation x) s = .next t ∧ shows t 5 (s.ssxStep x (s.ssxState x)) ∧ (t.ax x).ssx.com = s.tick ∧
        (t.ax x).ssx.sched = none)) ∧
    (let due := s.ssxLive x = true ∧ s.ssxForced x = true
      let last := max 1 (s.fld SSX_LIM x.val SSX_LIM_MISSMAX) ≤ u.miss + 1;
      (¬ due → exec (.forcedCommutation x) s = .next s) ∧
      (due → ∃ t, exec (.forcedCommutation x) s = .next t ∧ (t.ax x).ssx.miss = u.miss + 1 ∧
        (¬ last → shows t 5 (s.ssxStep x (s.ssxState x)) ∧ (t.ax x).ssx.com = s.tick) ∧
        (last → u.coms < 999 → lost t 2))) ∧
    (let due := s.ssxLive x = true ∧ s.ssxPhase x = 4 ∧ u.com + u.ti ≤ s.tick
      let hand := max 1 (s.fld SSX_RAMP x.val SSX_RAMP_HANDN) ≤ (if u.seen = true then u.good + 1 else 0)
      let next := u.ti * s.fld SSX_RAMP x.val SSX_RAMP_RAMPK / 256
      let short := next ≤ s.fld SSX_TEND x.val SSX_TEND_TEND * 640;
      (¬ due → exec (.rampCommutation x) s = .next s) ∧
      (due → ∃ t, exec (.rampCommutation x) s = .next t ∧
        (hand → t.ssxPhase x = 5 ∧ t.reg SSX_T60 x.val = BitVec.ofNat 32 u.ti) ∧ (¬ hand → short → lost t 1) ∧
        (¬ hand → ¬ short → shows t 4 (s.ssxStep x (s.ssxState x)) ∧ (t.ax x).ssx.ti = next ∧ (t.ax x).ssx.com = s.tick))) ∧
    (∀ (p : Fin 3) (held : Nat),
      let at_ := s.tick - held
      let k := ssxRow p.val (s.bit CMP_STAT (s.ssxCmp x p.val).val CMP_STAT_HI)
      let heard := s.ssxLive x = true ∧ max 1 (s.fld SSX_ZC x.val SSX_ZC_FILT) * 16 ≤ held ∧ held ≤ s.tick
      let wanted := k = (if s.ssxDir x = true then (s.ssxState x + 3) % 6 else s.ssxState x) ∧
        u.com + s.fld SSX_ZC x.val SSX_ZC_BLANK * 64 ≤ at_;
      (¬ heard → exec (.zeroCrossing x p held) s = .next s) ∧
      (heard → s.ssxPhase x = 1 → u.trans.length < 2 → exec (.zeroCrossing x p held) s =
        .next (s.modSsx x fun u => { u with trans := (k, at_) :: u.trans })) ∧
      (∀ b c l, heard → s.ssxPhase x = 1 → u.trans = b :: c :: l → ∃ t, exec (.zeroCrossing x p held) s = .next t ∧
        let up := k = (b.1 + 1) % 6 ∧ b.1 = (c.1 + 1) % 6
        let down := b.1 = (k + 1) % 6 ∧ c.1 = (b.1 + 1) % 6
        let right := if s.ssxDir x = true then down else up
        let wrong := if s.ssxDir x = true then up else down
        let t60 := at_ - b.2;
        (right → t60 ≤ s.fld SSX_TEND x.val SSX_TEND_TEND * 640 → t.ssxPhase x = 5 ∧ t.reg SSX_T60 x.val = BitVec.ofNat 32 t60) ∧
        (wrong → t60 ≤ s.fld SSX_TEND x.val SSX_TEND_BRK60 * 640 → shows t 2 7) ∧
        ((right ∧ s.fld SSX_TEND x.val SSX_TEND_TEND * 640 < t60) ∨ (wrong ∧ s.fld SSX_TEND x.val SSX_TEND_BRK60 * 640 < t60) →
          shows t 3 (s.alignS x)) ∧
        (¬ right → ¬ wrong → t = s.modSsx x fun u => { u with trans := [(k, at_), b, c] })) ∧
      (heard → s.ssxPhase x ≠ 1 → (¬ wanted ∨ s.ssxPhase x ≠ 4 ∧ s.ssxPhase x ≠ 5) → exec (.zeroCrossing x p held) s = .next s) ∧
      (heard → s.ssxPhase x = 4 → wanted → s.tick < u.com + u.ti →
        exec (.zeroCrossing x p held) s = .next (s.modSsx x fun u => { u with seen := true, zc := at_ })) ∧
      (heard → s.ssxPhase x = 5 → wanted → s.ssxForced x = false → ∃ t, exec (.zeroCrossing x p held) s = .next t ∧
        let t60 := s.fld SSX_T60 x.val SSX_T60_T60
        let ratio := max 65 (s.fld SSX_LIM x.val SSX_LIM_RATIO)
        let los := max 1 (s.fld SSX_LIM x.val SSX_LIM_LOSCNT);
        t.reg SSX_T60 x.val = BitVec.ofNat 32 (max (t60 * 64 / ratio) (min (at_ - u.zc) (t60 * ratio / 64))) ∧
        (t.ax x).ssx.zc = at_ ∧
        (u.ratio + 1 < los → s.bit SSX_CFG x.val SSX_CFG_OBS = false →
          t.ssxPhase x = 5 ∧ (t.ax x).ssx.sched = some (at_ + t.ssxDelay x))))

/-- R296 to R305. -/
def Obligations.GateLinks : Prop :=
  ∀ (j : Fin 48) (s : State),
    let l := s.gl j
    let tx (src : GdlFrom) (sel cmd addr data : Nat) : GdlTx :=
      { src := src, sel := sel, cmd := cmd, addr := addr, data := data, seq := (l.seq + 1) % 16, second := false, failed := 0,
        status := stOK, reply := 0, since := s.tick + 1102 }
    let sent (i : Instr) (w : Word) : Prop :=
      (s.link j ≠ 2 → ∃ t, exec i s = .next t ∧ t.fld GDL_CRES j.val GDL_CRES_STATUS = stLINK_DOWN ∧
        t.bit GDL_CRES j.val GDL_CRES_BUSY = false ∧ s.regsSame t [GDL_CRES.addr j.val] ∧ t = { s with regs := t.regs }) ∧
      (s.link j = 2 → ∃ t, exec i s = .next t ∧ t.bit GDL_CRES j.val GDL_CRES_BUSY = true ∧
        s.regsSame t [GDL_CRES.addr j.val] ∧ (∀ k, k ≠ j → t.gl k = s.gl k) ∧ t = { s with regs := t.regs, gdl := t.gdl } ∧
        (l.busy.isSome = true → t.gl j = { l with cmd := some w }) ∧
        (l.busy = none → l.auto = [] →
          let y := tx .cmd (GDL_CMD_SEL.get w) (GDL_CMD_CMD.get w) (GDL_CMD_ADDR.get w) (GDL_CMD_DATA.get w);
          t.gl j = { l with cmd := none, seq := (l.seq + 1) % 16, busy := some y }))
    (∀ (ag : Agent) (v : Word), s.accessStatus ag true (GDL_CFG.addr j.val) = stOK → s.bit GDL_CFG j.val GDL_CFG_EN = false →
      ∃ t, exec (.gdlEnable ag j v) s = .next t ∧ t.link j = 1 ∧ t.bit GDL_CFG j.val GDL_CFG_EN = true ∧ (t.gl j).busy = none ∧
        (t.gl j).cmd = none ∧ (t.gl j).auto = [] ∧ (t.gl j).initAt = s.tick ∧ t.time = s.time ∧ t.mem = s.mem) ∧
    (let due := s.fabricOn = true ∧ s.bit GDL_CFG j.val GDL_CFG_EN = true ∧ s.link j ≠ 2 ∧ l.busy = none ∧ l.initAt ≤ s.tick;
      (¬ due → exec (.gdlInitRetry j) s = .next s) ∧
      (due → ∃ t, exec (.gdlInitRetry j) s = .next t ∧ t.link j = 1 ∧
        t.gl j = { l with seq := (l.seq + 1) % 16, busy := some (tx (.init 0) 0 3 0 0) } ∧
        s.regsSame t [GDL_STAT.addr j.val] ∧ t = { s with regs := t.regs, gdl := t.gdl })) ∧
    (∀ (ag : Agent) (sel : BitVec 2) (addr : BitVec 7) (data : Half), s.accessStatus ag true (GDL_CMD.addr j.val) = stOK →
      ∃ r w c n : Word, (GDL_CMD_SEL.get r = sel.toNat ∧ GDL_CMD_CMD.get r = 0 ∧ GDL_CMD_ADDR.get r = addr.toNat) ∧
        (GDL_CMD_SEL.get w = sel.toNat ∧ GDL_CMD_CMD.get w = 1 ∧ GDL_CMD_ADDR.get w = addr.toNat ∧ GDL_CMD_DATA.get w = data.toNat) ∧
        (GDL_CMD_SEL.get c = sel.toNat ∧ GDL_CMD_CMD.get c = 2) ∧ (GDL_CMD_SEL.get n = sel.toNat ∧ GDL_CMD_CMD.get n = 3) ∧
        sent (.gdlRead ag j sel addr) r ∧ sent (.gdlWrite ag j sel addr data) w ∧ sent (.clrf ag j sel) c ∧ sent (.gdlNop ag j sel) n) ∧
    (∀ (w : Word) (coded : Bool),
      (l.busy = none ∨ s.fabricOn = false → exec (.replyFrame j w coded) s = .next s ∧ exec (.gdlReplyTimeout j) s = .next s) ∧
      (∀ x, l.busy = some x → (s.tick < x.since → exec (.replyFrame j w coded) s = .next s) ∧
        (s.tick < x.since + 154 → exec (.gdlReplyTimeout j) s = .next s)) ∧
      (∀ x, l.busy = some x → s.fabricOn = true → s.pollOk →
        let b (i : Nat) : Byte := w.extractLsb' (8 * i) 8
        let err : Option Fld := if coded = false then some GDL_ERRCNT_MANCH else if crc8 [b 3, b 2, b 1] ≠ b 0 then some GDL_ERRCNT_CRC
          else if (b 3).toNat % 64 ≠ x.cmd * 16 + x.seq then some GDL_ERRCNT_ECHO else none
        let reply := w.toNat / 256
        let ends (t : State) (fail : Option Nat) : Prop :=
          (x.src = .cmd → l.cmd = none → x.sel ≠ 2 → x.second = false → x.failed = 0 → t.bit GDL_CRES j.val GDL_CRES_BUSY = false ∧
            t.fld GDL_CRES j.val GDL_CRES_STATUS = fail.getD stOK ∧
            (fail = none → t.fld GDL_CRES j.val GDL_CRES_DATA = reply % 2 ^ 16)) ∧
          (x.sel = 2 → x.second = false → ∃ y, (t.gl j).busy = some y ∧ y.second = true ∧ y.since = s.tick ∧
            y.failed = x.failed ||| (if fail = none then 0 else 1)) ∧
          (x.src = .cmd → l.cmd = none → x.sel = 2 → x.second = true →
            let f := x.failed ||| (if fail = none then 0 else 2#2);
            t.fld GDL_CRES j.val GDL_CRES_MASK = f.toNat ∧ t.fld GDL_CRES j.val GDL_CRES_STATUS =
              if f = 0 then stOK else if f = 3 then x.status % 256 else stPARTIAL)
        (x.since ≤ s.tick → ∃ t, exec (.replyFrame j w coded) s = .next t ∧ ends t (err.map fun _ => stECC) ∧
          (∀ F, err = some F → t.fld GDL_ERRCNT j.val F = incSat 8 (s.fld GDL_ERRCNT j.val F) 1) ∧ t.time = s.time ∧ t.mem = s.mem ∧
          (x.failed = 0 → x.sel ≠ 2 → x.second = false →
            (∀ k, x.src = .poll k → t.bit GDL_TEL (8 * j.val + k) GDL_TEL_VALID = err.isNone ∧ (err = none →
              t.fld GDL_TEL (8 * j.val + k) GDL_TEL_DATA = reply % 2 ^ 16 ∧
              t.bit GDL_TEL (8 * j.val + k) GDL_TEL_FLT = bitN reply 23)) ∧
            (x.src = .auto → err = none →
              t.fld GDL_FSTAT j.val (if x.sel = 0 then GDL_FSTAT_HIGH else GDL_FSTAT_LOW) = reply % 2 ^ 16) ∧
            (x.src = .init 3 → err = none → reply % 2 ^ 16 = 1 → t.link j = 2) ∧
            (∀ k, x.src = .init k → k < 3 → err = none → (k % 2 = 0 ∨ reply % 2 ^ 16 = 1) → ∃ y, (t.gl j).busy = some y ∧
              y.src = .init (k + 1) ∧ y.sel = (k + 1) / 2 ∧ y.cmd = if k % 2 = 0 then 0 else 3))) ∧
        (x.since + 154 ≤ s.tick → ∃ t, exec (.gdlReplyTimeout j) s = .next t ∧ ends t (some stTIMEOUT) ∧
          t.fld GDL_ERRCNT j.val GDL_ERRCNT_NOREPLY = incSat 8 (s.fld GDL_ERRCNT j.val GDL_ERRCNT_NOREPLY) 1 ∧
          t.time = s.time ∧ t.mem = s.mem))) ∧
    (let down (t : State) : Prop := t.link j = 0 ∧ t.bit GDL_STAT j.val GDL_STAT_DOWNEV = true ∧ (t.gl j).busy = none ∧
        (t.gl j).initAt = s.tick + 64000 ∧ t.time = s.time ∧ t.mem = s.mem
      let due := s.fabricOn = true ∧ s.link j = 2 ∧ l.okAt + max 1 (s.fld GDL_CFG j.val GDL_CFG_LTMO) * 6400 ≤ s.tick;
      (¬ due → exec (.gdlSilenceTimeout j) s = .next s) ∧ (due → ∃ t, exec (.gdlSilenceTimeout j) s = .next t ∧ down t) ∧
      (s.fabricOn = false → exec (.stuckLine j) s = .next s) ∧
      (s.fabricOn = true → s.link j = 2 → s.pollOk → ∃ t, exec (.stuckLine j) s = .next t ∧ down t)) ∧
    (∀ code : Option (Bool × Bool), (s.fabricOn = false → exec (.faultFrame j code) s = .next s) ∧
      (s.fabricOn = true → s.pollOk → ∃ t, exec (.faultFrame j code) s = .next t ∧ (t.br (bridgeOfLink j)).trip = true ∧
        t.bit PWM_BSTAT (bridgeOfLink j).val PWM_BSTAT_TRIP = true ∧ t.bit GDL_STAT j.val GDL_STAT_FAULT = true ∧
        (l.busy = none → t.fld PWM_BSTAT (bridgeOfLink j).val PWM_BSTAT_TCAUSE = 2) ∧
        (∀ side kind, code = some (side, kind) → t.bit GDL_STAT j.val GDL_STAT_FSIDE = side ∧
          t.fld GDL_STAT j.val GDL_STAT_FKIND = b2n kind ∧ (t.gl j).named.getLsbD (b2n side) = true) ∧
        (code = none → t.fld GDL_STAT j.val GDL_STAT_FKIND = 2 ∧ (t.gl j).named = 3) ∧ t.time = s.time ∧ t.mem = s.mem)) ∧
    (let per := s.fld GDL_CFG j.val GDL_CFG_POLLPER
      let due := s.fabricOn = true ∧ s.link j = 2 ∧ per ≠ 0 ∧ s.nPoll j ≠ 0 ∧ l.poll = none ∧ l.pollAt + per * 640 ≤ s.tick;
      (¬ due → exec (.pollRound j) s = .next s) ∧
      (due → ∃ t, exec (.pollRound j) s = .next t ∧ (t.gl j).pollAt = s.tick ∧ t = { s with gdl := t.gdl } ∧
        (l.busy = none → l.auto = [] → l.cmd = none → (t.gl j).busy = some (tx (.poll 0)
          (if s.fld GDL_POLL (8 * j.val) GDL_POLL_SEL = 1 then 1 else 0) 0 (s.fld GDL_POLL (8 * j.val) GDL_POLL_ADDR) 0))))

/-- R313, R317, R318, R320, R322, R327, R328, R330, R335 to R341, R344. -/
def Obligations.Sensing : Prop :=
  (∀ (j : Fin 16) (s : State),
    let a := s.cv j
    (a.queue = [] → exec (.scanStart j) s = .next s) ∧
    (∀ g ∈ a.queue, (∀ u ∈ a.queue, u ≠ g → g.ready < u.ready ∨ (g.ready = u.ready ∧ g.rank < u.rank)) →
      let start := max g.ready a.ends
      let chs := (List.finRange 6).filter fun k => g.mask.getLsbD k.val;
      (s.fabricOn = false ∨ s.tick < start → exec (.scanStart j) s = .next s) ∧
      (s.fabricOn = true → start ≤ s.tick → ∃ t sl, exec (.scanStart j) s = .next t ∧ (t.cv j).queue = a.queue.erase g ∧
        (t.cv j).ends = start + 128 * chs.length ∧ (t.cv j).land = a.land ++ sl ∧ sl.map (·.ch) = chs ∧
        (∀ i (h : i < sl.length), sl[i].start = start + 128 * i ∧ sl[i].scan = (a.scans + 1) % 256 ∧
          sl[i].last = decide (i + 1 = chs.length)) ∧
        (∀ k, k ≠ j → t.cv k = s.cv k) ∧ t = { s with adc := t.adc })) ∧
    (∀ (raw : BitVec 14) (above below : Bool),
      (a.land = [] → exec (.adcResult j raw above below) s = .next s) ∧
      (∀ w l, a.land = w :: l →
        (s.fabricOn = false ∨ s.tick < w.start + 132 → exec (.adcResult j raw above below) s = .next s) ∧
        (s.fabricOn = true → w.start + 132 ≤ s.tick → ∃ t, exec (.adcResult j raw above below) s = .next t ∧ (t.cv j).land = l ∧
          let f := w.fmt.getD (s.adcFmt j w.ch)
          let x : Int := (raw.toNat : Int) * 4 - f.2;
          t.bit ADC_RES j.val ADC_RES_NEW = true ∧ t.fld ADC_RES j.val ADC_RES_CH = w.ch.val ∧
          t.fld ADC_RES j.val ADC_RES_SCAN = w.scan % 256 ∧ t.bit ADC_RES j.val ADC_RES_OR = (above || below) ∧
          t.bit ADC_RES j.val ADC_RES_SGN = f.1 ∧
          (s.bit ADC_RES j.val ADC_RES_NEW = true → t.bit ADC_RES j.val ADC_RES_OVR = true) ∧
          t.fld ADC_RES j.val ADC_RES_DATA =
            (if above = true then (if f.1 = true then 0x7FFC else 0xFFFC)
             else if below = true then (if f.1 = true then 0x8000 else 0)
             else if f.1 = true then (max (-32768) (min x 32764) % 65536).toNat else raw.toNat * 4) ∧
          t.mem = s.mem ∧ t.time = s.time))) ∧
    (let due := s.fabricOn = true ∧ s.bit ADC_CFG j.val ADC_CFG_REFEN = true ∧ a.refAt + 32000 ≤ s.tick;
      (¬ due → exec (.refrdy j) s = .next s) ∧ (due → exec (.refrdy j) s = .next (s.setBit ADC_STAT j.val ADC_STAT_REFRDY true)))) ∧
  (∀ (i : Fin 32) (s : State),
    let d := s.dm i
    (∀ bits, exec (.stuckRun i bits) s = exec (.dsmOutput i bits) s ∧ (s.dsmRun i = false → exec (.dsmOutput i bits) s = .next s)) ∧
    (∀ b : Bool, s.dsmRun i = true → d.sync = false →
      let x : Int := if b ≠ s.bit DSM_CFG i.val DSM_CFG_INV then 1 else -1
      let i2 := d.i2 + (d.i1 + x)
      let i3 := d.i3 + i2
      let y := (i3 - d.z1 - d.z2 - d.z3) * 2 ^ 15 / (s.dsmOsr i : Int) ^ 3
      let stuckN := s.fld DSM_CFG i.val DSM_CFG_STUCKN * 8
      let run := if b = d.bit then d.run + 1 else 1;
      ∃ t, exec (.stuckRun i [b]) s = .next t ∧ exec (.dsmOutput i [b]) s = .next t ∧ (t.dm i).i1 = d.i1 + x ∧ (t.dm i).i2 = i2 ∧
        (t.dm i).i3 = i3 ∧ (t.dm i).bit = b ∧ (t.dm i).run = run ∧ (∀ k, k ≠ i → t.dm k = s.dm k) ∧
        (stuckN ≠ 0 → stuckN ≤ run → t.bit DSM_STAT i.val DSM_STAT_STUCK = true) ∧
        (d.n + 1 ≠ s.dsmOsr i → (t.dm i).n = d.n + 1 ∧ t.reg DSM_RES i.val = s.reg DSM_RES i.val) ∧
        (d.n + 1 = s.dsmOsr i → (t.dm i).n = 0 ∧ (t.dm i).z1 = i3 ∧ (t.dm i).z2 = i3 - d.z1 ∧ (t.dm i).z3 = i3 - d.z1 - d.z2 ∧
          t.bit DSM_RES i.val DSM_RES_NEW = true ∧ t.bit DSM_RES i.val DSM_RES_VALID = decide (2 ≤ d.k) ∧
          t.fld DSM_RES i.val DSM_RES_COUNT = (d.cnt + 1) % 256 ∧
          t.fld DSM_RES i.val DSM_RES_DATA = (if 2 ≤ d.k then (min y 32767 % 65536).toNat else 0)) ∧ t.time = s.time ∧ t.mem = s.mem) ∧
    (∀ ag : Agent, s.accessStatus ag true (DSM_CTRL.addr i.val) = stOK →
      exec (.dsmSync ag i) s = .next (s.modDsm i fun d => { d with sync := true }) ∧
      exec (.dsmArm ag i) s = .next (s.setBit DSM_STAT i.val DSM_STAT_ARMED true))) ∧
  (∀ (c : Fin 64) (v vref lo hi : Int) (held : Nat) (s : State),
    let hi0 := s.bit CMP_STAT c.val CMP_STAT_HI
    let lo0 := s.bit CMP_STAT c.val CMP_STAT_LO
    let hys : Int := s.fld CMP_HYS c.val CMP_HYS_HYS
    let thh : Int := s.fld CMP_THR c.val CMP_THR_THH
    let thl : Int := s.fld CMP_THR c.val CMP_THR_THL
    let above (k : Int) : Prop := k * (hi - lo) < (v - lo) * 4096
    let below (k : Int) : Prop := (v - lo) * 4096 < k * (hi - lo)
    let free := s.fabricOn = true ∧ s.bit CMP_CFG c.val CMP_CFG_EN = true ∧ vget s.settle c = none
    let smp := s.bit CMP_CFG c.val CMP_CFG_SMP
    let assessed (t : State) : Prop := t.time = s.time ∧
      (s.fld CMP_CFG c.val CMP_CFG_INSEL ≤ 23 → s.fld CMP_CFG c.val CMP_CFG_RSEL ≤ 23 → s.fld CMP_CFG c.val CMP_CFG_TEST = 0 →
        s.bit CMP_CFG c.val CMP_CFG_MODE = false →
        (above thh → t.bit CMP_STAT c.val CMP_STAT_HI = true) ∧ (¬ above thh → below (thh - hys) → t.bit CMP_STAT c.val CMP_STAT_HI = false) ∧
        (¬ above thh → ¬ below (thh - hys) → t.bit CMP_STAT c.val CMP_STAT_HI = hi0) ∧
        (below thl → t.bit CMP_STAT c.val CMP_STAT_LO = true) ∧ (¬ below thl → above (thl + hys) → t.bit CMP_STAT c.val CMP_STAT_LO = false) ∧
        (¬ below thl → ¬ above (thl + hys) → t.bit CMP_STAT c.val CMP_STAT_LO = lo0)) ∧
      (hi0 = false → t.bit CMP_STAT c.val CMP_STAT_HI = true → t.bit CMP_STAT c.val CMP_STAT_HIL = true) ∧
      (lo0 = false → t.bit CMP_STAT c.val CMP_STAT_LO = true → t.bit CMP_STAT c.val CMP_STAT_LOL = true)
    (¬ (free ∧ smp = false ∧ s.fld CMP_CFG c.val CMP_CFG_FILT ≤ held) →
      exec (.comparatorOutputChange c v vref lo hi held) s = .next s) ∧
    (free → s.pollOk → smp = false → s.fld CMP_CFG c.val CMP_CFG_FILT ≤ held →
      ∃ t, exec (.comparatorOutputChange c v vref lo hi held) s = .next t ∧ assessed t ∧
        (∀ k : Fin 16, s.fld CMP_CFG c.val CMP_CFG_TEST = 0 → c.val / 16 = k.val / 4 → hi0 = false → t.bit CMP_STAT c.val CMP_STAT_HI = true →
          bitN (s.fld CMP_ROUTE c.val CMP_ROUTE_TRIPB) (k.val % 4) = true → bitN (s.fld CMP_ROUTE c.val CMP_ROUTE_TSRC) 0 = true →
          (t.br k).trip = true ∨ (t.br k).ssdAt.isSome = true)) ∧
    (¬ (free ∧ smp = true) → exec (.sampledEvaluation c v vref lo hi) s = .next s) ∧
    (free → s.pollOk → smp = true → ∃ t, exec (.sampledEvaluation c v vref lo hi) s = .next t ∧ assessed t) ∧
    ((s.fabricOn = false ∨ ∀ u, vget s.settle c = some u → s.tick < u) → exec (.settleEnd c v vref lo hi) s = .next s) ∧
    (∀ u, s.pollOk → s.fabricOn = true → vget s.settle c = some u → u ≤ s.tick → ∃ t, exec (.settleEnd c v vref lo hi) s = .next t ∧
      vget t.settle c = none ∧ t.bit CMP_STAT c.val CMP_STAT_SETTLE = false ∧ (smp = false → assessed t)))

/-- R348, R349, R351 to R353. -/
def Obligations.SumpUnit : Prop :=
  ∀ (r : Fin 4) (s : State),
    let st (F : Fld) : Bool := s.bit SUMP_STAT r.val F
    let q := vget s.sump r
    let past (F : Fld) : Prop := ∀ u, q.chopAt = some u → u + s.fld SUMP_CHOP r.val F * 640 ≤ s.tick
    let barred := st SUMP_STAT_RESHOT = true ∨ s.bit SUMP_CFG r.val SUMP_CFG_EN = false ∨ s.bit SUMP_CFG r.val SUMP_CFG_CHEN = false
    let active := s.dstate r = 1 ∨ s.dstate r = 3
    let cbLo := s.sumpSees r SUMP_CFG_CB CMP_STAT_LO = true
    let keeps (t : State) : Prop := t.time = s.time ∧ t.mem = s.mem ∧ s.regsSame t ([SUMP_STAT.addr r.val] ++
      (List.range 4).map fun k => PWM_BSTAT.addr (4 * r.val + k))
    (s.fabricOn = false → exec (.chopperTimer r) s = .next s ∧ exec (.rampLimitExpiry r) s = .next s) ∧
    (s.fabricOn = true → ∃ t, exec (.chopperTimer r) s = .next t ∧ keeps t ∧
      (barred → t.bit SUMP_STAT r.val SUMP_STAT_CHOP = false) ∧
      (¬ barred → s.caHi r = true → st SUMP_STAT_CHOP = false → past SUMP_CHOP_MINOFF →
        t.bit SUMP_STAT r.val SUMP_STAT_CHOP = true ∧ (vget t.sump r).chopAt = some s.tick) ∧
      (¬ barred → s.caHi r = false → st SUMP_STAT_CHOP = true → past SUMP_CHOP_MINON →
        t.bit SUMP_STAT r.val SUMP_STAT_CHOP = false ∧ (vget t.sump r).chopAt = some s.tick) ∧
      (¬ barred → s.caHi r = st SUMP_STAT_CHOP → t = s) ∧
      (¬ barred → s.caHi r = true → st SUMP_STAT_CHOP = false → ¬ past SUMP_CHOP_MINOFF → t = s) ∧
      (¬ barred → s.caHi r = false → st SUMP_STAT_CHOP = true → ¬ past SUMP_CHOP_MINON → t = s)) ∧
    (let emax := s.fld SUMP_RES r.val SUMP_RES_EMAX
      let e := (s.reg SUMP_E r.val).toNat
      let on := q.used = true ∨ st SUMP_STAT_CHOP = true ∨ st SUMP_STAT_DIS = true
      let e' := if on then min (e + s.fld SUMP_RES r.val SUMP_RES_INC) (2 ^ 32 - 1) else e - s.fld SUMP_RES r.val SUMP_RES_DEC;
      (s.fabricOn = false ∨ emax = 0 → exec (.energyModelUpdate r) s = .next s) ∧
      (s.fabricOn = true → emax ≠ 0 → ∃ t, exec (.energyModelUpdate r) s = .next t ∧ (t.reg SUMP_E r.val).toNat = e' ∧
        (e' ≤ emax * 2 ^ 15 → t.bit SUMP_STAT r.val SUMP_STAT_RESHOT = false) ∧
        (emax * 2 ^ 16 ≤ e' → t.bit SUMP_STAT r.val SUMP_STAT_RESHOT = true ∧ (st SUMP_STAT_RESHOT = false →
          t.bit SUMP_STAT r.val SUMP_STAT_CHOP = false ∧ t.bit SUMP_STAT r.val SUMP_STAT_DIS = false)) ∧
        (emax * 2 ^ 15 < e' → e' < emax * 2 ^ 16 → t.bit SUMP_STAT r.val SUMP_STAT_RESHOT = st SUMP_STAT_RESHOT) ∧
        t.time = s.time ∧ t.mem = s.mem)) ∧
    (let due := ∃ u, q.lowAt = some u ∧ s.fabricOn = true ∧ st SUMP_STAT_EPIS = true ∧ s.caHi r = false ∧ u + s.rampTicks r ≤ s.tick;
      (¬ due → exec (.episodeEnd r) s = .next s) ∧
      (due → ∃ t, exec (.episodeEnd r) s = .next t ∧ t.bit SUMP_STAT r.val SUMP_STAT_EPIS = false ∧ t.bridge = s.bridge ∧
        t.time = s.time ∧ t.mem = s.mem)) ∧
    (let due := st SUMP_STAT_EPIS = true ∧ s.caHi r = true ∧ st SUMP_STAT_RAMPTO = false ∧ q.epAt + s.rampTicks r < s.tick;
      (¬ due → exec (.rampLimitExpiry r) s = .next s) ∧
      (s.fabricOn = true → due → ∃ t, exec (.rampLimitExpiry r) s = .next t ∧ t.bit SUMP_STAT r.val SUMP_STAT_RAMPTO = true ∧
        t.bridge = s.bridge ∧ t.time = s.time ∧ t.mem = s.mem)) ∧
    (∀ ag : Agent, s.accessStatus ag true (SUMP_CTRL.addr r.val) = stOK →
      (∀ v, SUMP_CTRL_DSTOP.get v = 0 → (active → exec (.sumpDisch ag r v) s = .next s) ∧
        (¬ active → s.sumpAvail r = false → exec (.sumpDisch ag r v) s = .next (s.refuse ag stPERM 1 (SUMP_CTRL.addr r.val))) ∧
        (¬ active → s.sumpAvail r = true → ∃ t, exec (.sumpDisch ag r v) s = .next t ∧ t.time = s.time ∧ t.mem = s.mem ∧
          (¬ cbLo → t.dstate r = 1 ∧ t.fld SUMP_STAT r.val SUMP_STAT_DREQ = 1 ∧ t.bit SUMP_STAT r.val SUMP_STAT_DIS = true ∧
            (vget t.sump r).disAt = s.tick) ∧
          (cbLo → t.dstate r = 2 ∧ t.fld SUMP_STAT r.val SUMP_STAT_DREQ = 0 ∧ t.bit SUMP_STAT r.val SUMP_STAT_DIS = false))) ∧
      (¬ active → exec (.dstop ag r) s = .next s) ∧
      (active → s.fld SUMP_STAT r.val SUMP_STAT_DREQ = 2 → exec (.dstop ag r) s = .next (s.refuse ag stPERM 1 (SUMP_CTRL.addr r.val))) ∧
      (active → s.fld SUMP_STAT r.val SUMP_STAT_DREQ ≠ 2 → ∃ t, exec (.dstop ag r) s = .next t ∧ t.dstate r = 0 ∧
        t.fld SUMP_STAT r.val SUMP_STAT_DREQ = 0 ∧ t.bit SUMP_STAT r.val SUMP_STAT_DIS = false ∧ keeps t)) ∧
    (let off := s.fld SUMP_DIS r.val SUMP_DIS_DOFF
      let us := if st SUMP_STAT_DIS = true then max 1 (s.fld SUMP_DIS r.val SUMP_DIS_DON) else off
      let due := s.fabricOn = true ∧ active ∧ st SUMP_STAT_RESHOT = false ∧ (off ≠ 0 ∨ st SUMP_STAT_DIS = false) ∧
        q.pulseAt + us * 640 ≤ s.tick;
      (¬ due → exec (.dischargePulseTimer r) s = .next s) ∧
      (due → ∃ t, exec (.dischargePulseTimer r) s = .next t ∧ t.bit SUMP_STAT r.val SUMP_STAT_DIS = !st SUMP_STAT_DIS ∧
        (vget t.sump r).pulseAt = s.tick ∧ keeps t)) ∧
    (let due := s.fabricOn = true ∧ s.dstate r = 1 ∧
        q.disAt + max 100 (min 5000 (s.fld SUMP_DIS r.val SUMP_DIS_DTIME)) * 640000 ≤ s.tick;
      (¬ due → exec (.dischargeTimeout r) s = .next s) ∧
      (due → ∃ t, exec (.dischargeTimeout r) s = .next t ∧ t.time = s.time ∧ (cbLo → t.dstate r = 2) ∧
        (¬ cbLo → t.dstate r = 3 ∧ t.bit SUMP_STAT r.val SUMP_STAT_DTO = true)))

/-- R360, R363, R365 to R370, R375 to R377. -/
def Obligations.PositionFeedback : Prop :=
  ∀ (k : Fin 16) (s : State),
    let p := s.ps k
    let same (t : State) : Prop := t.time = s.time ∧ t.mem = s.mem ∧ t.bridge = s.bridge ∧ ∀ j, j ≠ k → t.ps j = s.ps j
    let moved (t : State) (d0 : Int) : Prop :=
      let d := if s.bit POS_CFG k.val POS_CFG_DIRINV = true then -d0 else d0;
      same t ∧ (d0 ≠ 0 → t.reg POS_CNT k.val = s.reg POS_CNT k.val + BitVec.ofInt 32 d ∧ (t.phi k : Int) = ((s.phi k : Int) + d) % s.spt k) ∧
      (d0 = 0 → t.cnt k = s.cnt k ∧ t.phi k = s.phi k)
    let faulty (t : State) (cause : Nat) (loss : Bool) : Prop := same t ∧ t.cnt k = s.cnt k ∧
      t.fld POS_STAT k.val POS_STAT_CAUSE = cause ∧ t.bit POS_STAT k.val (if loss = true then POS_STAT_LOSS else POS_STAT_PLAUS) = true ∧
      t.bit POS_STAT k.val POS_STAT_HEALTHY = false ∧ (loss = true → (t.ps k).conds.getLsbD cause = true)
    (∀ (sn cs : BitVec 12) (neg : Bool),
      let inTracks := s.posIn k 1 = true ∧ s.tick % 320 = 288
      let live := inTracks ∨ s.posIn k 2 = true
      let σ : Int := if ¬ inTracks ∧ neg = true then -1 else 1
      let sv := σ * sn.toInt - s.sfld POS_TRIM k.val POS_TRIM_SOFS
      let cv := (σ * cs.toInt - s.sfld POS_TRIM k.val POS_TRIM_COFS) * s.fld POS_TRIM k.val POS_TRIM_CGAIN / 2 ^ 14
      let amp := isqrt (sv * sv + cv * cv).toNat
      let low := amp < s.fld POS_AMP k.val POS_AMP_AMIN
      let high := s.fld POS_AMP k.val POS_AMP_AMAX < amp
      let a := angle12 sv cv;
      (¬ live → exec (.posSample k sn cs neg) s = .next s) ∧
      (live → ∃ t, exec (.posSample k sn cs neg) s = .next t ∧ same t ∧
        (low → ¬ high → (t.ps k).lo = p.lo + 1 ∧ (s.losn k ≤ p.lo + 1 → faulty t 1 true)) ∧
        (high → ¬ low → (t.ps k).hi = p.hi + 1 ∧ (s.losn k ≤ p.hi + 1 → faulty t 2 true)) ∧
        (¬ low → ¬ high → p.conds = 0 → (t.ps k).lo = 0 ∧ (t.ps k).hi = 0 ∧ (p.ang = none → (t.ps k).ang = some a ∧ moved t 0) ∧
          (∀ b, p.ang = some b → let d := wrapS 12 ((a : Int) - b); (d.natAbs < 1024 → (t.ps k).ang = some a ∧ moved t d) ∧
            (1024 ≤ d.natAbs → (t.ps k).ang = some b ∧ faulty t 3 false))))) ∧
    (∀ amp : Nat,
      let set := s.fld POS_EXC k.val POS_EXC_AMP * 256
      let on := s.bit POS_EXC k.val POS_EXC_EXEN = true
      let out := set < 4 * ((amp : Int) - set).natAbs;
      (s.posMode k ≠ 2 ∨ (s.fabricOn = false ∧ on) → exec (.excitationCheck k amp) s = .next s) ∧
      (s.posMode k = 2 → (¬ on ∨ s.fabricOn = true ∧ out) → ∃ t, exec (.excitationCheck k amp) s = .next t ∧ faulty t 9 true) ∧
      (s.posIn k 2 = true → on → ¬ out → ∃ t, exec (.excitationCheck k amp) s = .next t ∧ same t ∧ (t.ps k).conds.getLsbD 9 = false)) ∧
    (∀ (a b : Bool) (held : Nat),
      let step := (quadPos a b + 4 - quadPos p.a p.b) % 4
      let live := s.posIn k 3 = true ∧ s.posFilt k ≤ held;
      (¬ live ∨ step = 0 → exec (.quadEdge k a b held) s = .next s) ∧
      (live → step ≠ 0 → ∃ t, exec (.quadEdge k a b held) s = .next t ∧ (t.ps k).a = a ∧ (t.ps k).b = b ∧
        (step = 1 → moved t 1) ∧ (step = 3 → moved t (-1)) ∧ (step = 2 → faulty t 4 false))) ∧
    (∀ held : Nat,
      let quad := if s.posMode k = 3 then 2 * b2n p.a + b2n p.b else p.quad.toNat
      let live := (s.posIn k 1 = true ∨ s.posIn k 3 = true) ∧ s.bit POS_CFG k.val POS_CFG_ZEN = true ∧ s.posFilt k ≤ held ∧
        s.fld POS_CFG k.val POS_CFG_ZQUAL = quad
      let z := s.fld POS_ZREF k.val POS_ZREF_VALUE
      let off := (mapHalf (s.spt k) ((s.phi k : Int) - z)).natAbs
      let checked := s.bit POS_STAT k.val POS_STAT_ZREFD = true ∧ s.fld POS_ZTOL k.val POS_ZTOL_ZTOL < off;
      (¬ live ∨ p.zarm = false ∧ ¬ checked → exec (.referenceMark k held) s = .next s) ∧
      (live → p.zarm = true → ∃ t, exec (.referenceMark k held) s = .next t ∧ same t ∧ (t.ps k).zarm = false ∧
        t.phi k = z % s.spt k ∧ t.bit POS_STAT k.val POS_STAT_ZREFD = true ∧
        t.reg POS_CNT k.val = s.reg POS_CNT k.val + BitVec.ofInt 32 (mapHalf (s.spt k) ((z : Int) - s.phi k))) ∧
      (live → p.zarm = false → checked → ∃ t, exec (.referenceMark k held) s = .next t ∧ faulty t 5 false)) ∧
    (∀ (h : BitVec 3) (held : Nat),
      let live := s.posIn k 4 = true ∧ s.posFilt k * 64 ≤ held
      let ofs := if 6 ≤ s.fld POS_CFG k.val POS_CFG_HOFS then 0 else s.fld POS_CFG k.val POS_CFG_HOFS;
      (¬ live → exec (.hallEdge k h held) s = .next s) ∧
      (live → hallIdx h.toNat = none → ∃ t, exec (.hallEdge k h held) s = .next t ∧ faulty t 6 true) ∧
      (∀ i, live → hallIdx h.toNat = some i → let c := (i + ofs) % 6;
        ∃ t, exec (.hallEdge k h held) s = .next t ∧ same t ∧ t.fld POS_STAT k.val POS_STAT_HCODE = h.toNat ∧
          (p.sect = none → p.fresh = false → (t.ps k).sect = some c ∧ t.phi k = c ∧ t.cnt k = s.cnt k) ∧
          (∀ c0, p.sect = some c0 → let d := mapHalf 6 ((c : Int) - c0);
            (d = 1 ∨ d = -1 → (t.ps k).sect = some c ∧ t.phi k = c ∧ t.reg POS_CNT k.val = s.reg POS_CNT k.val +
              BitVec.ofInt 32 (if s.bit POS_CFG k.val POS_CFG_DIRINV = true then -d else d)) ∧
            (d ≠ 0 → d ≠ 1 → d ≠ -1 → faulty t 7 false ∧ (t.ps k).sect = some c)))) ∧
    (let due := s.posIn k 5 = true ∧ s.tick % 640 = 0 ∧ p.frame = none ∧
        (∀ u, p.began = some u → u + max 1 (s.fld POS_SSIT k.val POS_SSIT_SSIPER) * 640 ≤ s.tick) ∧
        (∀ u, p.ended = some u → u + s.fld POS_SSIT k.val POS_SSIT_TM * 640 ≤ s.tick);
      (¬ due → exec (.ssiFrameStart k) s = .next s) ∧ (due → exec (.ssiFrameStart k) s =
        .next (s.modPos k fun p => { p with frame := some s.tick, began := some s.tick }))) ∧
    (∀ (first : Bool) (value again : Word) (check : Bool),
      let n := s.ssiNb k
      let raw := value.toNat % 2 ^ n
      let good := first = true ∧ check = false ∧ (s.bit POS_SSI k.val POS_SSI_RPT = true → again.toNat % 2 ^ n = raw)
      let v := if s.bit POS_SSI k.val POS_SSI_GRAY = true then grayBin raw n else raw;
      ((∀ u, p.frame = some u → s.posIn k 5 = false ∨ s.tick < u + s.ssiTicks k) →
        exec (.ssiFrameEnd k first value again check) s = .next s) ∧
      (∀ u, p.frame = some u → s.posIn k 5 = true → u + s.ssiTicks k ≤ s.tick →
        ∃ t, exec (.ssiFrameEnd k first value again check) s = .next t ∧ (t.ps k).frame = none ∧
          (good → t.reg POS_SSIRAW k.val = BitVec.ofNat 32 v ∧ (t.ps k).bad = 0 ∧ (t.ps k).ssi = some (v % 2 ^ s.ssiStb k) ∧
            moved t (wrapS (s.ssiStb k) (((v % 2 ^ s.ssiStb k : Nat) : Int) - p.ssi.getD (s.phi k)))) ∧
          (¬ good → (t.ps k).bad = p.bad + 1 ∧ same t ∧ (s.losn k ≤ p.bad + 1 → faulty t 8 true)))) ∧
    (∀ ag : Agent, s.accessStatus ag true (POS_CMD.addr k.val) = stOK →
      (∃ t, exec (.posSet ag k) s = .next t ∧ same t ∧ t.cnt k = s.fld POS_SETV k.val POS_SETV_VALUE ∧
        t.phi k = s.fld POS_SETV k.val POS_SETV_VALUE % s.spt k) ∧
      exec (.zarm ag k) s = .next (s.modPos k fun p => { p with zarm := true }) ∧
      (∃ t, exec (.posArm ag k) s = .next t ∧ same t ∧ t.cnt k = s.cnt k ∧ t.phi k = s.phi k ∧
        (s.bit POS_CMPCTL k.val POS_CMPCTL_EN = false → (t.ps k).armed = true ∧ (t.ps k).lap = 0 ∧
          t.bit POS_CMPSTAT k.val POS_CMPSTAT_DONE = false ∧
          (t.ps k).idx = if s.bit POS_CMPCTL k.val POS_CMPCTL_DIR = true then s.nent k - 1 else 0))) ∧
    (∀ one : Bool, let end_ := if one = true then p.end1 else p.end0;
      ((s.fabricOn = false ∨ ∀ u, end_ = some u → s.tick < u) → exec (.comparePulseEnd k one) s = .next s) ∧
      (∀ u, s.fabricOn = true → end_ = some u → u ≤ s.tick → exec (.comparePulseEnd k one) s = .next (s.modPos k fun p =>
        if one = true then { p with po1 := false, end1 := none } else { p with po0 := false, end0 := none }))) ∧
    (let back := s.sfld POS_DIVCFG k.val POS_DIVCFG_BACKLOG
      let osep := max 4 (s.fld POS_DIVCFG k.val POS_DIVCFG_OSEP)
      let up := decide (0 < back)
      let live := s.fabricOn = true ∧ back ≠ 0 ∧ ∀ u, p.stepAt = some u → u + osep ≤ s.tick
      let dmode := s.bit POS_DIVCFG k.val POS_DIVCFG_DMODE
      let settled := ∀ u, p.dirAt = some u → u + osep / 2 ≤ s.tick
      let took (t : State) : Prop := same t ∧ t.sfld POS_DIVCFG k.val POS_DIVCFG_BACKLOG = (if up = true then back - 1 else back + 1) ∧
        (t.ps k).stepAt = some s.tick;
      (¬ live ∨ dmode = true ∧ p.outB = up ∧ ¬ settled → exec (.dividerStep k) s = .next s) ∧
      (live → dmode = true → p.outB ≠ up → exec (.dividerStep k) s =
        .next (s.modPos k fun p => { p with outB := up, dirAt := some s.tick })) ∧
      (live → dmode = true → p.outB = up → settled → ∃ t, exec (.dividerStep k) s = .next t ∧ took t ∧ (t.ps k).outB = p.outB) ∧
      (live → dmode = false → ∃ t, exec (.dividerStep k) s = .next t ∧ took t ∧
        quadPos (t.ps k).outA (t.ps k).outB = (quadPos p.outA p.outB + if up = true then 1 else 3) % 4))

/-- R382, R391, R395, R396, R407 to R409, R411, R418, R443. -/
def Obligations.GrottoMonitors : Prop :=
  ∀ s : State,
    let hard (t : State) : Prop := t.gstate = 3 ∧ (∀ x, x < 8 → t.axOut x = 1 ∧ t.fld GRT_AXSTAT x GRT_AXSTAT_CAUSE = 3) ∧
      t.time = s.time ∧ t.mem = s.mem
    let logged (t : State) (entry unit : Nat) : Prop := (s.fld GRT_STAT 0 GRT_STAT_FLTIDX, entry, unit) ∈ t.grt.open_
    (s.grottoOn = false ∨ s.gstate = 3 → exec .orderRefreshTimeout s = .next s) ∧
    (s.grottoOn = true → s.gstate ≠ 3 → ∃ t, exec .orderRefreshTimeout s = .next t ∧ hard t) ∧
    (∀ k : Fin 16, ((∀ i u, (vget (s.br k).outs i).gateOn = some u → s.dueU u = false) → exec (.ascDeadTimeExpiry k) s = .next s) ∧
      ∃ t, exec (.ascDeadTimeExpiry k) s = .next t ∧ t.time = s.time ∧ t.mem = s.mem ∧ (∀ j, j ≠ k → t.br j = s.br j) ∧
        ∀ (i : Fin 6) (m : BitVec 6) (u : Nat),
          let partner := if i.val % 2 = 0 then loOf (legOf i) else hiOf (legOf i);
          (vget (s.br k).outs i).gateOn = some u → u < 8 * (s.tick + 1) → s.isAux k (legOf i) = false → (s.br k).safe = some m →
          m.getLsbD i.val = true → m.getLsbD partner.val = false → (vget (s.br k).outs i).gate = false →
            (vget (t.br k).outs i).gate = true ∧ (vget (t.br k).outs partner).gate = false) ∧
    (∀ i : Fin 6,
      let alive := s.alive (procAt i) = true
      let halts (t : State) (cause : Nat) : Prop := t.bit SYSCTL_LSSTAT i.val SYSCTL_LSSTAT_HALT = true ∧
        t.fld SYSCTL_LSSTAT i.val SYSCTL_LSSTAT_CAUSE = cause ∧ t.bit SYSCTL_COLCTL i.val SYSCTL_COLCTL_HALTED = true ∧
        logged t 2 (0x80 + i.val) ∧ t.time = s.time ∧ t.mem = s.mem
      let free := i.val < 5 ∧ s.bit SYSCTL_COLCTL i.val SYSCTL_COLCTL_HALTED = false
      (∀ c : Fin 3, (¬ alive → exec (.lockstepMismatch i c) s = .next s) ∧
        (alive → free → ∃ t, exec (.lockstepMismatch i c) s = .next t ∧ halts t (if c = 0 then 1 else if c = 1 then 2 else 5)) ∧
        (alive → i.val = 5 → s.gstate ≠ 3 → ∃ t, exec (.lockstepMismatch i c) s = .next t ∧ hard t)) ∧
      (¬ alive → ∀ b, exec (.asyncMismatch i b) s = .next s) ∧
      (alive → free → ∃ t, exec (.asyncMismatch i true) s = .next t ∧ halts t 3) ∧
      (alive → i.val < 5 → exec (.asyncMismatch i false) s = .next (s.setFld SYSCTL_LSSTAT i.val SYSCTL_LSSTAT_SUPP
        (incSat (SYSCTL_LSSTAT_SUPP.hi + 1 - SYSCTL_LSSTAT_SUPP.lo) (s.fld SYSCTL_LSSTAT i.val SYSCTL_LSSTAT_SUPP) 1))) ∧
      (¬ alive → ∀ w, exec (.injectionPass i w) s = .next s) ∧
      (∀ w, alive → free → w ≠ 0xFFFFFFFF → ∃ t, exec (.injectionPass i w) s = .next t ∧ halts t 4) ∧
      (alive → i.val < 5 → exec (.injectionPass i 0xFFFFFFFF) s = .next (s.setFld SYSCTL_LSSTAT i.val SYSCTL_LSSTAT_INJ
        (s.fld SYSCTL_LSSTAT i.val SYSCTL_LSSTAT_INJ + 1)))) ∧
    (∀ (c : Fin 5) (rd : BitVec 5) (wake agreed : Bool) (s1 : State) (v : Nat), s.canRun (.col c) = true →
      (s.coreOf (.col c)).guard 0 = some true → s.sLoad (.col c) (if wake = true then 0x40028060 else 0x40408010) 4 = .val s1 v →
      ∃ t, exec (.confirmedAliasRead c rd wake agreed) s = .next t ∧ t.coreOf (.col c) = ((s1.coreOf (.col c)).wr .s rd.toNat v).advance .s ∧
        t.mem = s1.mem ∧ t.bit SYSCTL_LSSTAT c.val SYSCTL_LSSTAT_UNCONF = (!agreed || s1.bit SYSCTL_LSSTAT c.val SYSCTL_LSSTAT_UNCONF)) ∧
    (∀ (c : Fin 256),
      let due (b : Beat) : Prop := s.grottoOn = true ∧ s.hRec c.val 4 31 31 = 1 ∧ b.late = false ∧
        b.at_ + (s.hRec c.val 0 31 16 + s.hRec c.val 0 15 0) * 3200 < s.grt.clk
      ((∀ b, s.grt.beats.find? (·.1 == c.val) = some (c.val, b) → ¬ due b) → exec (.heartbeatTimeout c) s = .next s) ∧
      (∀ b, s.grt.beats.find? (·.1 == c.val) = some (c.val, b) → due b → ∃ t, exec (.heartbeatTimeout c) s = .next t ∧
        t.grt.beats.find? (·.1 == c.val) = some (c.val, { b with late := true }) ∧ logged t 8 c.val ∧ t.time = s.time ∧ t.mem = s.mem)) ∧
    (∀ (ref : Nat) (fab : Option Nat) (a b : BitVec 4),
      (s.grottoOn = false → exec (.clockMonitor ref fab a b) s = .next s) ∧
      (s.grottoOn = true → ∃ t, exec (.clockMonitor ref fab a b) s = .next t ∧ t.time = s.time ∧ t.mem = s.mem ∧
        t.gHas 16 0 = decide (250 < 20 * ((ref : Int) - 250).natAbs) ∧
        (∀ n, fab = some n → s.pllStopped = false → t.gHas 16 1 = decide (5 < ((n : Int) - 100).natAbs)) ∧
        (fab = none → ref = 250 → s.grt.genAt + 10 ≤ s.us → ∀ r, r < 4 →
          (∀ q, q ≤ r → a.getLsbD q = s.grt.genA.getLsbD q ∧ b.getLsbD q = s.grt.genB.getLsbD q) → t.gHas 9 r = false) ∧
        (fab = none → ref = 250 → s.grt.genAt + 10 ≤ s.us → ∀ r, r < 4 →
          (∀ q, q < r → a.getLsbD q = s.grt.genA.getLsbD q ∧ b.getLsbD q = s.grt.genB.getLsbD q) →
          (a.getLsbD r ≠ s.grt.genA.getLsbD r ∨ b.getLsbD r ≠ s.grt.genB.getLsbD r) → t.gHas 9 r = true))) ∧
    (∀ (rail : Fin 8) (mv : Int) (held : Nat),
      let out := decide (mv < (s.railWindow rail).1 ∨ (s.railWindow rail).2 < mv);
      (s.grottoOn = false ∨ out = true ∧ held < 5 → exec (.supplyFault rail mv held) s = .next s) ∧
      (s.grottoOn = true → (out = true → 5 ≤ held) → ∃ t, exec (.supplyFault rail mv held) s = .next t ∧ t.gHas 17 rail.val = out ∧
        (out = true → s.gHas 17 rail.val = false → logged t 17 rail.val) ∧ t.time = s.time ∧ t.mem = s.mem)) ∧
    (∀ inj sram : Bool, (s.grottoOn = false → exec (.grottoInitComplete inj sram) s = .next s) ∧
      (s.grottoOn = true → (inj && sram) = true → ∃ t, exec (.grottoInitComplete inj sram) s = .next t ∧ t.grt.tested = true ∧
        t.gstate = (if s.gstate = 0 ∧ s.ccvOk = true then 1 else s.gstate) ∧ s.regsSame t [GRT_STAT.addr 0] ∧
        t = { s with regs := t.regs, grt := t.grt }) ∧
      (s.grottoOn = true → (inj && sram) = false → s.gstate ≠ 3 → ∃ t, exec (.grottoInitComplete inj sram) s = .next t ∧ hard t)) ∧
    (∀ hit : Option (Fin 16384 × Word),
      let s1 := match hit with
        | some (i, w) => s.modGrt fun g => { g with param := smSet g.param i.val w }
        | none => s
      let good := ∃ l, s.grt.record = some (s1.ccv :: l);
      (s.grottoOn = false ∨ s.lock ≠ 2 → exec (.ccvCheck hit) s = .next s) ∧
      (s.grottoOn = true → s.lock = 2 → ∃ t, exec (.ccvCheck hit) s = .next t ∧ t.reg GRT_CCV 0 = s1.ccv ∧ t.time = s.time ∧
        t.mem = s.mem ∧ t.grt.param = s1.grt.param ∧ (good → t.gHas 21 0 = false ∧ t.ccvOk = s.ccvOk) ∧
        (¬ good → t.gHas 21 0 = true ∧ t.ccvOk = false ∧
          ∀ x, x < 8 → s.axUse x = true → t.axOut x = 1 ∧ t.fld GRT_AXSTAT x GRT_AXSTAT_CAUSE = 21)))

/-- R397 to R400, R403, R426, R427, R429, R434 to R436. -/
def Obligations.GrottoSafety : Prop :=
  ∀ s : State,
    let logged (t : State) (entry unit : Nat) : Prop := (s.fld GRT_STAT 0 GRT_STAT_FLTIDX, entry, unit) ∈ t.grt.open_
    let plain (t : State) : Prop := t.time = s.time ∧ t.mem = s.mem
    (∀ (k : Fin 16) (sn cs : BitVec 12) (pz : Bool),
      let amp := isqrt (sn.toInt * sn.toInt + cs.toInt * cs.toInt).toNat
      let ang := angle12 sn.toInt cs.toInt
      let bad := (∃ x ∈ s.tapAxes k, amp < s.aRec x 0x1C 15 0 ∨ s.aRec x 0x1C 31 16 < amp) ∨
        ∃ p, (s.tapAt k).pos = some p ∧ 1024 ≤ (wrapS 12 ((ang : Int) - p)).natAbs;
      (s.grottoOn = false → exec (.tapSample k sn cs pz) s = .next s) ∧
      (s.grottoOn = true → bad → ∃ t, exec (.tapSample k sn cs pz) s = .next t ∧ plain t ∧ (t.tapAt k).pos = none ∧
        (t.tapAt k).fault = true ∧ (t.tapAt k).refd = false ∧ (∀ x ∈ s.tapAxes k, t.tmValid x = false) ∧
        ((s.tapAt k).fault = false → t.gHas 6 k.val = true ∧ logged t 6 k.val)) ∧
      (s.grottoOn = true → ¬ bad → ∃ t, exec (.tapSample k sn cs pz) s = .next t ∧ plain t ∧ (t.tapAt k).fault = false ∧
        (t.tapAt k).pz = pz ∧ t.gHas 6 k.val = false ∧ (pz = false → (t.tapAt k).pos = some (match (s.tapAt k).pos with
          | some p => p + wrapS 12 ((ang : Int) - p)
          | none => (ang : Int))))) ∧
    (∀ (x : Fin 8) (ar br ap bp vdc : BitVec 12) (t0 t1 : Half),
      let over_ := ∃ i ∈ [s.scaled x 0 ar, s.scaled x 1 br, s.scaled x 2 ap, s.scaled x 3 bp], s.aRecS x 0x48 31 16 < (i.natAbs : Int)
      let slow := s.aRecS x 0x4C 31 16 < mag0 (clarke0 (s.scaled x 0 ar) (s.scaled x 1 br));
      (s.grottoOn = false ∨ x ≠ 0 ∧ s.axUse x = false → exec (.torqueMonitorSlice x ar br ap bp vdc t0 t1) s = .next s) ∧
      (s.grottoOn = true → x ≠ 0 → s.axUse x = true → ∃ t, exec (.torqueMonitorSlice x ar br ap bp vdc t0 t1) s = .next t ∧ plain t ∧
        t.fld GRT_TMON x.val GRT_TMON_VDC = pat 16 (s.scaled x 4 vdc) ∧
        t.bit GRT_AXSTAT x.val GRT_AXSTAT_MAGMODE = !s.tmValid x ∧ (t.gHas 11 x = true ↔ over_) ∧
        (over_ → s.gstate ≠ 3 → t.axOut x ≠ 0) ∧ (s.tmValid x = false → (t.gax x).n = if slow then (s.gax x).n + 1 else 0)) ∧
      (s.grottoOn = true → x = 0 → ∃ t, exec (.torqueMonitorSlice x ar br ap bp vdc t0 t1) s = .next t ∧ t.reg GRT_TEMP 0 = t1 ++ t0 ∧
        plain t) ∧
      (let due := ∃ u, (s.gax x).lowAt = some u ∧ s.grottoOn = true ∧ 2 ≤ s.axOut x ∧ u + 10000 ≤ s.us;
        (¬ due → exec (.ascExit x) s = .next s) ∧ (due → ∃ t, exec (.ascExit x) s = .next t ∧ t.axOut x = 1 ∧ plain t)) ∧
      (let due := ∃ u h l, (s.gax x).env = some (u, h, l) ∧ s.grottoOn = true ∧ s.axUse x = true ∧ u + s.aRec x 0x4C 15 0 < s.us;
        (¬ due → exec (.envelopeTimeout x) s = .next s) ∧
        (due → ∃ t, exec (.envelopeTimeout x) s = .next t ∧ (t.gax x).env = none ∧ t.bit GRT_AXSTAT x.val GRT_AXSTAT_ENVSTALE = true ∧
          ((s.gax x).ss1 = none → t.sfld GRT_TENV x.val GRT_TENV_THI = s.aRecS x 0x50 31 16 ∧
            t.sfld GRT_TENV x.val GRT_TENV_TLO = s.aRecS x 0x50 15 0) ∧ s.regsSame t [GRT_AXSTAT.addr x.val, GRT_TENV.addr x.val] ∧
          t = { s with regs := t.regs, grt := t.grt }))) ∧
    (∀ l : Fin 8,
      let xs := s.axesUsed.filter fun x => s.aRec x 0 15 13 == l.val
      let due := s.grottoOn = true ∧ xs ≠ [] ∧ (∀ x ∈ xs, s.aRec x 0 10 10 = 1 ∧ ∃ u, (s.gax x).restAt = some u ∧
        u + s.aRec x 8 15 0 * 1000 ≤ s.us) ∧ ∃ x ∈ xs, (s.gax x).reqd = false;
      (¬ due → exec (.dischargeRequest l) s = .next s) ∧
      (due → ∃ t, exec (.dischargeRequest l) s = .next t ∧ plain t ∧ (∀ x ∈ xs, (t.gax x).reqd = true) ∧
        ∀ (r : Fin 4) (x : Nat), x ∈ xs → s.axRegion x = some r.val → t.dstate r ≠ 0 ∨ t.bit SUMP_STAT r.val SUMP_STAT_REQREF = true)) ∧
    (∀ (i : Fin 32) (lvl : Bool) (held : Nat),
      let k := i.val / 2
      let b := i.val % 2 == 1
      let own := ∃ u, s.tpOf k b = some u ∧ lvl = false ∧ s.inPulse u held = true
      let live := s.pairOn k = true ∧ s.debounced k lvl held = true ∧ ¬ own
      let s1 := s.modPair k fun p => if b then { p with lvB := some lvl } else { p with lvA := some lvl }
      let whole := s1.chHealthy k false = true ∧ s1.chHealthy k true = true
      let p := s.pairAt k;
      (¬ live → exec (.safeInputChange i lvl held) s = .next s) ∧
      (live → ∃ t, exec (.safeInputChange i lvl held) s = .next t ∧ plain t ∧
        (if b then (t.pairAt k).lvB else (t.pairAt k).lvA) = some lvl ∧
        (p.tpA = 0 → p.tpB = 0 → p.own = 1 → ¬ whole → (t.pairAt k).own = 0) ∧
        (p.tpA = 0 → p.tpB = 0 → p.own = 1 → whole → (t.pairAt k).own = 1) ∧
        (p.tpA = 0 → p.tpB = 0 → p.own = 0 → p.disAt = none → whole → (t.pairAt k).own = 1))) ∧
    (∀ (u : Fin 8) (lows : Word), ∃ t, exec (.testPulse u lows) s = .next t ∧ plain t ∧ ∀ k, k < 16 →
      (s.pairOn k = true → (t.pairAt k).tpA = tpSeen (s.tpOf k false) (s.pairAt k).lvA u.val (lows.getLsbD (2 * k)) (s.pairAt k).tpA ∧
        (t.pairAt k).tpB = tpSeen (s.tpOf k true) (s.pairAt k).lvB u.val (lows.getLsbD (2 * k + 1)) (s.pairAt k).tpB) ∧
      (s.pairOn k = false → (t.pairAt k).tpA = (s.pairAt k).tpA ∧ (t.pairAt k).tpB = (s.pairAt k).tpB)) ∧
    (∀ (k : Fin 16) (u : Nat), s.pairOn k.val = true → (s.pairAt k.val).disAt = some u → u + s.pRec k.val 0 19 10 * 1000 < s.us →
      (s.pairAt k.val).own = 0 → ∃ t, exec (.discrepancyTimeout k) s = .next t ∧ plain t ∧ (t.pairAt k.val).own = 2 ∧ logged t 19 k.val) ∧
    (∀ (k : Fin 4) (f : List Byte) (bad : Bool),
      let on := s.grottoOn = true ∧ s.xlOn k.val = true
      let accepted := bad = false ∧ s.xlAccepts k f = true
      let heard (t : State) : Prop := t.fld GRT_XLSTAT k.val GRT_XLSTAT_SEQ = frHalf f 5 % 65536 ∧ (t.xlAt k).lastAt = s.us ∧
        (t.xlAt k).run = (s.xlAt k).run + 1 ∧ plain t;
      (¬ on → exec (.xlFrameReceived k f bad) s = .next s ∧ exec (.xlStatusSend k) s = .next s ∧ exec (.xlTimeout k) s = .next s) ∧
      (on → ¬ accepted → ∃ t, exec (.xlFrameReceived k f bad) s = .next t ∧ (t.xlAt k).run = 0 ∧
        t.fld GRT_XLSTAT k.val GRT_XLSTAT_DISC = (s.fld GRT_XLSTAT k.val GRT_XLSTAT_DISC + 1) % 2 ^
          (GRT_XLSTAT_DISC.hi + 1 - GRT_XLSTAT_DISC.lo) ∧ s.regsSame t [GRT_XLSTAT.addr k.val] ∧ t = { s with regs := t.regs, grt := t.grt }) ∧
      (on → accepted → ∃ t, exec (.xlFrameReceived k f bad) s = .next t ∧ heard t ∧
        (s.xlUp k.val = false → (s.xlAt k).run + 1 < 3 → t.xlUp k.val = false) ∧
        (s.xlUp k.val = false → 3 ≤ (s.xlAt k).run + 1 → t.xlUp k.val = true ∧ (t.xlAt k).lost = false) ∧
        (s.xlUp k.val = true → s.xRec k.val 0 30 30 = 0 → (t.xlAt k).sto = BitVec.ofNat 8 (frByte f 40) ∧
          (t.xlAt k).ss1 = BitVec.ofNat 8 (frByte f 41))) ∧
      (on → ∃ t, exec (.xlStatusSend k) s = .next t ∧ (t.xlAt k).txSeq = (s.xlAt k).txSeq + 1 ∧ (t.xlAt k).sent.length = 48 ∧
        frHalf (t.xlAt k).sent 5 = (t.xlAt k).txSeq.toNat ∧ frWord (t.xlAt k).sent 44 = (crc32 ((t.xlAt k).sent.take 44)).toNat ∧
        t = { s with grt := t.grt }) ∧
      (let due := on ∧ s.xlUp k.val = true ∧ (s.xlAt k).lastAt + s.xRec k.val 4 31 16 ≤ s.us;
        (¬ due → exec (.xlTimeout k) s = .next s) ∧
        (due → ∃ t, exec (.xlTimeout k) s = .next t ∧ t.xlUp k.val = false ∧ (t.xlAt k).lost = true ∧ (t.xlAt k).run = 0 ∧
          logged t 20 k.val ∧ plain t)))

/-- R384, R394, R420, R421, R444, R446, R560. -/
def Obligations.Mailbox : Prop :=
  ∀ (k : Fin 5) (s : State),
    let bell := 0x18000800 + 4 * k.val
    let said (t : State) (st : Nat) (l : List Word) : Prop := (t.mailAt k).ans = some (st, l) ∧ t.time = s.time ∧ t.mem = s.mem
    let refusal (i : Instr) (st : Nat) : Prop := exec i s = .next (s.answer k st [])
    (s.accessStatus (.col k) true bell = stOK →
      (s.grottoOn = false ∨ (s.mailAt k).req ≠ none → exec (.doorbell (.col k) k) s = .next s) ∧
      (s.grottoOn = true → (s.mailAt k).req = none → exec (.doorbell (.col k) k) s = .next (s.modMail k fun _ =>
        { req := some ((List.range (min ((memWord s.mem (0x18000000 + 0x100 * k.val)).toNat / 256 % 256) 60 + 2)).map fun i =>
            memWord s.mem (0x18000000 + 0x100 * k.val + 4 * i)), ans := none, irq := false }))) ∧
    (∀ ag : Agent, ag ≠ .col k → s.accessStatus ag true bell = stOK → exec (.doorbell ag k) s = .next (s.refuse ag stPERM 1 bell)) ∧
    ((s.grottoOn = false ∨ (s.mailAt k).req = none ∨ (s.earlyAnswer k = none ∧ (s.mailAt k).ans = none)) →
      exec (.mailboxReply k) s = .next s) ∧
    (∀ h l st body, s.grottoOn = true → (s.mailAt k).req = some (h :: l) →
      (s.earlyAnswer k = some st ∧ body = [] ∨ s.earlyAnswer k = none ∧ (s.mailAt k).ans = some (st, body)) → s.memOk →
      ∃ t, exec (.mailboxReply k) s = .next t ∧ t.mailAt k = { req := none, ans := none, irq := true } ∧
        memWord t.mem (0x18002000 + 0x100 * k.val) = BitVec.ofNat 32 (h.toNat / 2 ^ 16 * 2 ^ 16 + st * 256) ∧
        (∀ i, (h1 : i < body.length) → memWord t.mem (0x18002000 + 0x100 * k.val + 4 * (i + 1)) = body[i]) ∧
        s.memSame t (0x18002000 + 0x100 * k.val) (4 * (body.length + 1)) ∧ t.regs = s.regs) ∧
    (s.asks k 1 0 = none → exec (.ss1 k) s = .next s) ∧ (s.asks k 2 0 = none → exec (.sto k) s = .next s) ∧
    (s.asks k 3 0 = none → exec (.release k) s = .next s) ∧ (s.asks k 4 0 = none → exec (.clrflt k) s = .next s) ∧
    (s.asks k 5 0 = none → exec (.disch k) s = .next s) ∧ (s.asks k 6 0 = none → exec (.pwrreq k) s = .next s) ∧
    (∀ body x, s.asks k 1 0 = some body → x ∈ maskAxes (body.getD 0 0).toNat → s.axUse x = true →
      ∃ t, exec (.ss1 k) s = .next t ∧ said t stOK [] ∧ (t.gax x).mbSs1 = true) ∧
    (∀ body x, s.asks k 2 0 = some body → x ∈ maskAxes (body.getD 0 0).toNat → s.axUse x = true →
      ∃ t, exec (.sto k) s = .next t ∧ said t stOK [] ∧ (t.gax x).mbSto = true ∧ ((s.gax x).stoUp = false → t.axOut x = 1)) ∧
    (∀ body, s.asks k 3 0 = some body →
      let barred := s.ccvOk = false ∨ s.gstate = 0 ∨ s.gstate = 3 ∨ s.grt.bootOk = false ∨ s.bit THERM_STAT 0 THERM_STAT_LATCH = true ∨
        ∃ x ∈ maskAxes (body.getD 0 0).toNat, s.releaseRefused x = true;
      (barred → refusal (.release k) stPERM) ∧
      (¬ barred → ∃ t, exec (.release k) s = .next t ∧ said t stOK [] ∧
        ∀ x ∈ maskAxes (body.getD 0 0).toNat, s.axUse x = true → t.axOut x = 0 ∧ (t.gax x).mbSto = false ∧ (t.gax x).mbSs1 = false)) ∧
    (∀ body, s.asks k 4 0 = some body → ∃ t, exec (.clrflt k) s = .next t ∧ said t stOK [] ∧ t = { s with grt := t.grt } ∧
      ∀ e, e ∈ t.grt.open_ ↔ e ∈ s.grt.open_ ∧ s.gHas e.2.1 e.2.2 = true) ∧
    (∀ body, s.asks k 5 0 = some body → ∃ t, exec (.disch k) s = .next t ∧ said t stOK [] ∧
      ∀ r : Fin 4, bitN (body.getD 0 0).toNat r.val = true → t.dstate r ≠ 0 ∨ t.bit SUMP_STAT r.val SUMP_STAT_REQREF = true) ∧
    (∀ body, s.asks k 6 0 = some body →
      let safe := s.gstate = 1 ∧ ∀ x, x < 8 → s.axOut x = 1 ∧ (s.gax x).ss1 = none
      let n := (body.getD 0 0).toNat;
      (¬ safe ∨ n ≠ 2 ∧ n ≠ 3 → refusal (.pwrreq k) stPERM) ∧
      (safe → n = 2 → ∃ t, exec (.pwrreq k) s = .next t ∧ said t stOK [] ∧ t.power.consentP = some (s.us + 10000) ∧
        t.bit PWR_STAT 0 PWR_STAT_CONSENTP = true ∧ s.regsSame t [PWR_STAT.addr 0]) ∧
      (safe → n = 3 → ∃ t, exec (.pwrreq k) s = .next t ∧ said t stOK [] ∧ t.power.consentK = some (s.us + 10000) ∧
        t.bit PWR_STAT 0 PWR_STAT_CONSENTK = true ∧ s.regsSame t [PWR_STAT.addr 0])) ∧
    (s.asks k 7 1 = none → exec (.openSession k) s = .next s) ∧ (s.asks k 7 2 = none → exec (.paramWrite k) s = .next s) ∧
    (s.asks k 7 3 = none → exec (.check k) s = .next s) ∧ (s.asks k 7 4 = none → exec (.confirm k) s = .next s) ∧
    (s.asks k 7 5 = none → exec (.loadconf k) s = .next s) ∧ (s.asks k 7 6 = none → exec (.close k) s = .next s) ∧
    (s.asks k 7 7 = none → exec (.paramRead k) s = .next s) ∧
    (∀ body, s.asks k 7 1 = some body → let free := s.lock ≠ 1 ∧ ∀ x, x < 8 → s.axOut x = 1;
      (¬ free → refusal (.openSession k) stPERM) ∧ (free → ∃ t, exec (.openSession k) s = .next t ∧ said t stOK [] ∧ t.lock = 1 ∧
        t.ccvOk = false ∧ s.regsSame t [GRT_PSTAT.addr 0, GRT_STAT.addr 0])) ∧
    (∀ body, s.asks k 7 2 = some body → let n := (parSpan (body.getD 0 0)).1; let o := (parSpan (body.getD 0 0)).2;
      (s.lock = 2 → refusal (.paramWrite k) stPERM) ∧
      (s.lock ≠ 2 → (n = 0 ∨ 59 < n ∨ 16384 < n + o) → refusal (.paramWrite k) stBAD_TARGET) ∧
      (s.lock ≠ 2 → 0 < n → n ≤ 59 → n + o ≤ 16384 → ∃ t, exec (.paramWrite k) s = .next t ∧ said t stOK [] ∧ t.grt.dirty = true ∧
        (∀ i, i < n → smGet 0 t.grt.param (o + i) = body.getD (i + 1) 0) ∧
        (∀ j, j < o ∨ o + n ≤ j → smGet 0 t.grt.param j = smGet 0 s.grt.param j) ∧ t = { s with grt := t.grt })) ∧
    (∀ body, s.asks k 7 3 = some body → (s.lock = 2 → refusal (.check k) stPERM) ∧
      (s.lock ≠ 2 → ∃ t, exec (.check k) s = .next t ∧ t.reg GRT_CCV 0 = s.ccv ∧ t.grt.dirty = false ∧
        t.bit GRT_PSTAT 0 GRT_PSTAT_CHKOK = (firstBad s.grt.param s.nodeIds).isNone ∧
        (firstBad s.grt.param s.nodeIds = none → said t stOK [s.ccv, 0xFFFFFFFF]) ∧
        (∀ o, firstBad s.grt.param s.nodeIds = some o → said t stBAD_TARGET [s.ccv, BitVec.ofNat 32 o]))) ∧
    (∀ body, s.asks k 7 4 = some body →
      let ready := s.lock = 1 ∧ s.bit GRT_PSTAT 0 GRT_PSTAT_CHKOK = true ∧ s.grt.dirty = false
      let r := [s.ccv, body.getD 2 0, body.getD 3 0, s.recWord]
      (¬ ready → refusal (.confirm k) stPERM) ∧ (ready → body.getD 1 0 ≠ s.ccv → refusal (.confirm k) stBAD_TARGET) ∧
      (ready → body.getD 1 0 = s.ccv → ∃ t, exec (.confirm k) s = .next t ∧ said t stOK (r ++ [crcWords r]) ∧ t.lock = 2 ∧
        t.ccvOk = true ∧ t.reg GRT_CCVCONF 0 = s.ccv ∧ t.grt.record = some (r ++ [crcWords r]) ∧ t.grt.cfg = some s.grt.param)) ∧
    (∀ body, s.asks k 7 5 = some body →
      let r := (body.drop 1).take 5
      let good := s.recValid r = true ∧ firstBad s.grt.param s.nodeIds = none ∧ r[0]? = some s.ccv;
      (s.lock ≠ 0 → refusal (.loadconf k) stPERM) ∧
      (s.lock = 0 → ∃ t, exec (.loadconf k) s = .next t ∧ t.lock = 2 ∧ t.reg GRT_CCV 0 = s.ccv ∧
        (good → said t stOK [] ∧ t.ccvOk = true ∧ t.grt.cfg = some s.grt.param) ∧
        (¬ good → said t stBAD_TARGET [] ∧ t.ccvOk = false ∧ t.grt.cfg = s.grt.cfg))) ∧
    (∀ body, s.asks k 7 6 = some body → let good := ∃ l, s.grt.record = some (s.ccv :: l);
      (s.lock ≠ 1 → refusal (.close k) stPERM) ∧
      (s.lock = 1 → ∃ t, exec (.close k) s = .next t ∧ t.lock = 2 ∧ t.reg GRT_CCV 0 = s.ccv ∧
        (good → said t stOK [] ∧ t.ccvOk = true ∧ t.grt.cfg = some s.grt.param) ∧
        (¬ good → said t stBAD_TARGET [] ∧ t.ccvOk = false ∧ t.grt.cfg = s.grt.cfg))) ∧
    (∀ body, s.asks k 7 7 = some body → let n := (parSpan (body.getD 0 0)).1; let o := (parSpan (body.getD 0 0)).2;
      ((n = 0 ∨ 59 < n ∨ 16384 < n + o) → refusal (.paramRead k) stBAD_TARGET) ∧
      (0 < n → n ≤ 59 → n + o ≤ 16384 → exec (.paramRead k) s =
        .next (s.answer k stOK ((List.range n).map fun i => smGet 0 s.grt.param (o + i)))))

/-- R454, R532, R533, R536 to R538, R540, R544, R546, R551. -/
def Obligations.ThermalAndAvs : Prop :=
  ∀ s : State,
    let plain (t : State) : Prop := t.time = s.time ∧ t.mem = s.mem
    (∀ v : Vector Half 24, (s.fabricOn = false → exec (.sensorRound v) s = .next s) ∧
      (s.fabricOn = true → ∃ t, exec (.sensorRound v) s = .next t ∧ plain t ∧
        (∀ k : Fin 24, t.bit THERM_S k.val THERM_S_VALID = true ∧ t.fld THERM_S k.val THERM_S_T = (vget v k).toNat ∧
          (t.dieBad k.val = false → (vget v k).toInt ≤ t.sfld THERM_STAT 0 THERM_STAT_TDIE)) ∧
        ((∃ k : Fin 24, t.dieBad k.val = false) → ∃ k : Fin 24, t.dieBad k.val = false ∧
          t.sfld THERM_STAT 0 THERM_STAT_TDIE = (vget v k).toInt))) ∧
    (let due := s.fabricOn = true ∧ s.bit THERM_STAT 0 THERM_STAT_STOPREQ = true ∧ s.bit THERM_STAT 0 THERM_STAT_HALT = false ∧
        ∀ x, x < 8 → s.axUse x = true → s.axOut x = 1;
      (¬ due → exec .halt s = .next s) ∧
      (due → ∃ t, exec .halt s = .next t ∧ t.bit THERM_STAT 0 THERM_STAT_HALT = true ∧ plain t ∧
        ∀ i : Fin 6, i.val < 4 → (vget t.sproc i).inReset = true)) ∧
    (∀ (ag : Agent) (v : Word), s.accessStatus ag true (THERM_CTRL.addr 0) = stOK →
      let on := THERM_CTRL_SERVICE.get v = 1 ∧ (s.bit THERM_STAT 0 THERM_STAT_LATCH = true ∨
        s.bit SYSCTL_COLCTL 4 SYSCTL_COLCTL_HALTED = true ∨ s.bit SYSCTL_COLCTL 4 SYSCTL_COLCTL_STOPPED = true);
      (chamberOf s ag ≠ 0 → exec (.serviceWrite ag v) s = .next (s.refuse ag stPERM 1 (THERM_CTRL.addr 0))) ∧
      (chamberOf s ag = 0 → on → exec (.serviceWrite ag v) s = .next s) ∧
      (chamberOf s ag = 0 → ¬ on → exec (.serviceWrite ag v) s =
        .next (s.setFld THERM_CTRL 0 THERM_CTRL_SERVICE (THERM_CTRL_SERVICE.get v)))) ∧
    (∀ c q d : Nat,
      let k (F : Fld) : Nat := s.fld THERM_KCOEF 0 F
      let i : Int := s.leak (s.sfld THERM_STAT 0 THERM_STAT_TDIE) + (c * k THERM_KCOEF_KCELL / 64000 : Nat) +
        (q * k THERM_KCOEF_KCOL / 25600 : Nat) + (d * k THERM_KCOEF_KDRIP / 6400 : Nat)
      let bud : Int := s.fld THERM_BUD (s.fld THERM_STAT 0 THERM_STAT_STEP) THERM_BUD_VALUE
      let l := s.fld THERM_STAT 0 THERM_STAT_TLVL;
      (s.fabricOn = false → exec (.currentEstimate c q d) s = .next s) ∧
      (s.fabricOn = true → ∃ t, exec (.currentEstimate c q d) s = .next t ∧ (0 ≤ i → i < 65536 → (t.fld THERM_EST 0 THERM_EST_I : Int) = i) ∧
        (bud < i → t.fld THERM_STAT 0 THERM_STAT_TLVL = min 3 (l + 1)) ∧
        (i ≤ bud → bud - k THERM_KCOEF_IHYS ≤ i → t.fld THERM_STAT 0 THERM_STAT_TLVL = l) ∧
        (i ≤ bud → i < bud - k THERM_KCOEF_IHYS → t.fld THERM_STAT 0 THERM_STAT_TLVL = if s.therm.under = 99 then l - 1 else l) ∧
        s.regsSame t [THERM_EST.addr 0, THERM_STAT.addr 0] ∧
        t = { s with regs := t.regs, therm := t.therm, freeCtr := t.freeCtr })) ∧
    (∀ r : Fin 4, let on := s.fabricOn = true ∧ s.bit LAN_CFG r.val LAN_CFG_EN = true;
      (¬ on → exec (.lanternStep r) s = .next s) ∧
      (on → s.lanTable r.val = none → exec (.lanternStep r) s = .next (s.setBit LAN_CFG r.val LAN_CFG_BADTAB true)) ∧
      (on → s.lanTable r.val ≠ none → ∃ t, exec (.lanternStep r) s = .next t ∧ plain t ∧
        (∀ e ∈ (vget t.lan r).win, e.2.ton = 0 ∧ e.2.edges = 0) ∧
        ∀ q, q < 4 → let m := t.sfld LAN_BSTAT (4 * r.val + q) LAN_BSTAT_TJMAX;
          (∀ l ∈ s.lanLegs r.val q, ∀ d, d < 4 → t.lanTj r.val l d ≤ m) ∧
          (s.lanLegs r.val q ≠ [] → (∃ l ∈ s.lanLegs r.val q, ∃ d, d < 4 ∧ m = t.lanTj r.val l d) ∧
            (s.bit LAN_CFG r.val LAN_CFG_RIMEN = false → t.fld LAN_BLIM (4 * r.val + q) LAN_BLIM_LIM = 0x7FFF)))) ∧
    (∀ k : Fin 2,
      let ended (t : State) (q : AvsReq) (st data : Nat) : Prop := (t.avsc k).req = none ∧ t.bit AVS_RES k.val AVS_RES_BUSY = false ∧
        (q.seq = false → t.bit AVS_RES k.val AVS_RES_DONE = true ∧ t.fld AVS_RES k.val AVS_RES_STATUS = st ∧
          t.fld AVS_RES k.val AVS_RES_DATA = data) ∧ (q.seq = true → (t.avsc k).seqRes = some (st, data)) ∧ plain t ∧
        (q.op = 0 → st = stOK → t.fld AVS_VACK k.val AVS_VACK_MV = q.mv % 2 ^ 16)
      let moves (i : Instr) (f : AvsReq → AvsReq) : Prop := exec i s = .next (s.modAvs k fun c => { c with req := c.req.map f })
      let wait : AvsReq → AvsReq := fun q => { q with stage := .poll (s.aon + 160000) }
      (∀ (ag : Agent) (v : Word), s.accessStatus ag true (AVS_REQ.addr k.val) = stOK →
        let mv := AVS_REQ_MV.get v
        let bad := mv < s.fld AVS_LIM k.val AVS_LIM_VMIN ∨ s.fld AVS_LIM k.val AVS_LIM_VMAX < mv
        let en := s.bit AVS_CFG k.val AVS_CFG_EN
        let q (op : Nat) : AvsReq := { op := op, mv := mv, since := s.aon, resends := 0, again := false, seq := false, stage := .frame (op != 0) }
        let begun (i : Instr) (op : Nat) : Prop := ∃ t, exec i s = .next t ∧ (t.avsc k).req = some (q op) ∧
          t.bit AVS_RES k.val AVS_RES_BUSY = true ∧ plain t ∧ s.regsSame t [AVS_RES.addr k.val]
        let cut (i : Instr) (op st : Nat) : Prop := ∃ t, exec i s = .next t ∧ ended t (q op) st 0;
        ((s.avsc k).req ≠ none → exec (.avsWriteVoltage ag k v) s = .next (s.refuse ag stPERM 1 (AVS_REQ.addr k.val)) ∧
          exec (.avsReadVoltage ag k v) s = .next (s.refuse ag stPERM 1 (AVS_REQ.addr k.val)) ∧
          exec (.avsReadStatus ag k v) s = .next (s.refuse ag stPERM 1 (AVS_REQ.addr k.val))) ∧
        ((s.avsc k).req = none → (bad → cut (.avsWriteVoltage ag k v) 0 stBAD_TARGET) ∧
          (¬ bad → en = false → cut (.avsWriteVoltage ag k v) 0 stLINK_DOWN) ∧
          (¬ bad → en = true → begun (.avsWriteVoltage ag k v) 0 ∧
            ∀ t, exec (.avsWriteVoltage ag k v) s = .next t → k = 0 → t.grt.coreWin = some mv) ∧
          (en = false → cut (.avsReadVoltage ag k v) 1 stLINK_DOWN ∧ cut (.avsReadStatus ag k v) 2 stLINK_DOWN) ∧
          (en = true → begun (.avsReadVoltage ag k v) 1 ∧ begun (.avsReadStatus ag k v) 2))) ∧
      ((s.avsc k).req = none → exec (.avsResend k) s = .next s ∧ exec (.avsStatusPoll k) s = .next s ∧ exec (.avsTimeout k) s = .next s ∧
        ∀ a d b, exec (.avsFrameEnd k a d b) s = .next s) ∧
      (∀ q, (s.avsc k).req = some q →
        (∀ u, q.stage = .resend u → (s.aon < u → exec (.avsResend k) s = .next s) ∧
          (u ≤ s.aon → moves (.avsResend k) fun q => { q with stage := .frame (q.op != 0) })) ∧
        (∀ u, q.stage = .poll u → (s.aon < u → exec (.avsStatusPoll k) s = .next s) ∧
          (u ≤ s.aon → moves (.avsStatusPoll k) fun q => { q with stage := .frame true })) ∧
        ((q.op ≠ 0 ∨ s.aon < q.since + 32000000) → exec (.avsTimeout k) s = .next s) ∧
        (q.op = 0 → q.since + 32000000 ≤ s.aon → ∃ t, exec (.avsTimeout k) s = .next t ∧ ended t q stTIMEOUT 0) ∧
        (∀ (a : BitVec 2) (d : Half) (b : Bool),
          let frame := AvsStage.frame
          let it := Instr.avsFrameEnd k a d b;
          ((∀ r, q.stage ≠ frame r) → exec (.avsFrameEnd k a d b) s = .next s) ∧
          (q.stage = frame true → q.op = 0 → (a = 0 ∧ b = true → ∃ t, exec it s = .next t ∧ ended t q stOK 0) ∧
            (¬ (a = 0 ∧ b = true) → moves it wait)) ∧
          (∀ r, q.stage = frame r → (r = false ∨ q.op ≠ 0) →
            (a = 0 → q.op = 0 → moves it wait) ∧ (a = 0 → q.op ≠ 0 → ∃ t, exec it s = .next t ∧ ended t q stOK d.toNat) ∧
            (a = 1 → q.resends < 8 → moves it fun q => { q with resends := q.resends + 1, stage := .resend (s.aon + 160000) }) ∧
            (a = 1 → 8 ≤ q.resends → ∃ t, exec it s = .next t ∧ ended t q stTIMEOUT 0) ∧
            (a = 2 → q.again = false → moves it fun q => { q with again := true }) ∧
            (a = 2 → q.again = true → ∃ t, exec it s = .next t ∧ ended t q stECC 0) ∧
            (a = 3 → ∃ t, exec it s = .next t ∧ ended t q stBAD_TARGET 0))))) ∧
    (∀ i : Fin 6, (s.irqQualifies i 28 = false → exec (.timerCompare i) s = .next s) ∧
      (s.irqQualifies i 28 = true → ∃ t, exec (.timerCompare i) s = .next t ∧ (s.waitOf (procAt i) = .wfi → t.waitOf (procAt i) = .run) ∧
        (s.power.phase = .doze → i.val < 5 → t.power.phase = .run) ∧ (s.power.phase ≠ .doze → t.regs = s.regs ∧ t.power = s.power) ∧
        plain t))

/-- R560 to R565, R567, R568, R570 to R572. -/
def Obligations.PowerStates : Prop :=
  ∀ s : State,
    let plain (t : State) : Prop := t.time = s.time ∧ t.mem = s.mem
    let over_ (t : State) (st k r : Nat) : Prop := t.power.phase = .run ∧ t.power.exitReq = false ∧ t.bit PWR_STAT 0 PWR_STAT_BUSY = false ∧
      t.bit PWR_STAT 0 PWR_STAT_DONE = true ∧ t.fld PWR_STAT 0 PWR_STAT_RESULT = st ∧ t.fld PWR_STAT 0 PWR_STAT_ABPT = k ∧
      t.fld PWR_STAT 0 PWR_STAT_REASON = r ∧ plain t ∧ s.regsSame t [PWR_STAT.addr 0]
    let ends (i : Instr) (st k r : Nat) : Prop := ∃ t, exec i s = .next t ∧ over_ t st k r
    let asks (t : State) (mv : Nat) : Prop := (t.avsc 0).req =
      some { op := 0, mv := mv, since := s.aon, resends := 0, again := false, seq := true, stage := .frame false }
    (∀ ag : Agent, s.accessStatus ag true (PWR_CTRL.addr 0) = stOK →
      let begun (t : State) (n : Nat) : Prop := t.bit PWR_STAT 0 PWR_STAT_BUSY = true ∧ t.fld PWR_STAT 0 PWR_STAT_TARGET = n ∧
        t.power = { s.power with phase := .quiesce n s.aon, exitReq := false } ∧ s.regsSame t [PWR_STAT.addr 0] ∧
        t = { s with regs := t.regs, power := t.power };
      (s.bit PWR_STAT 0 PWR_STAT_BUSY = true → (∃ t, exec (.doze ag) s = .next t ∧ t.bit PWR_STAT 0 PWR_STAT_DONE = true ∧
        t.fld PWR_STAT 0 PWR_STAT_RESULT = stPERM ∧ t.power = s.power) ∧ exec (.keep ag) s = exec (.doze ag) s) ∧
      (s.bit PWR_STAT 0 PWR_STAT_BUSY = false → (∃ t, exec (.doze ag) s = .next t ∧ begun t 1) ∧
        (s.entryFails 3 false = none → ∃ t, exec (.keep ag) s = .next t ∧ begun t 3) ∧
        (∀ r, s.entryFails 3 false = some r → ends (.keep ag) stABORTED 1 r))) ∧
    ((∀ n u, s.power.phase ≠ .quiesce n u) → exec .quiescence s = .next s ∧ exec .quiescenceTimeout s = .next s) ∧
    (∀ n u, s.power.phase = .quiesce n u →
      (s.quiescent = false → exec .quiescence s = .next s) ∧
      (s.quiescent = true → n = 1 → s.power.exitReq = false → exec .quiescence s = .next (s.setPhase .doze)) ∧
      (s.quiescent = true → n = 1 → s.power.exitReq = true → ends .quiescence stOK 0 0) ∧
      (s.quiescent = true → n ≠ 1 → s.entryFails n true = none → exec .quiescence s = .next (s.setPhase (.drain n s.aon))) ∧
      (∀ r, s.quiescent = true → n ≠ 1 → s.entryFails n true = some r → ends .quiescence stABORTED 2 r) ∧
      (let due := s.quiescent = false ∧ u + max 1 (s.fld PWR_CFG 0 PWR_CFG_QTMO) * 16000 ≤ s.aon;
        (¬ due → exec .quiescenceTimeout s = .next s) ∧ (due → n = 1 → ends .quiescenceTimeout stTIMEOUT 0 0) ∧
        (due → n ≠ 1 → ends .quiescenceTimeout stABORTED 2 ((s.entryFails n true).getD 3)))) ∧
    ((∀ n u, s.power.phase ≠ .drain n u ∧ s.power.phase ≠ .confirm n u) → exec .entryDrain s = .next s) ∧
    (∀ n u, s.power.phase = .drain n u →
      let empty := ∀ p : Fin 128, (vget s.phys p).wbuf = [];
      (¬ empty → exec .entryDrain s = .next s) ∧
      (empty → s.entryFails n true = none → exec .entryDrain s = .next (s.setPhase (.confirm n s.aon))) ∧
      (∀ r, empty → s.entryFails n true = some r → ends .entryDrain stABORTED 3 r)) ∧
    (∀ n u, s.power.phase = .confirm n u →
      (s.allSto = false → ends .entryDrain stABORTED 4 2) ∧
      (∀ r, s.allSto = true → s.entryFails n true = some r → ends .entryDrain stABORTED 4 r) ∧
      (s.allSto = true → s.entryFails n true = none → exec .entryDrain s = .next (s.modPower fun p =>
        { p with phase := .handover n s.aon, vrun := s.fld AVS_VACK 0 AVS_VACK_MV }))) ∧
    ((∀ n u, s.power.phase = .handover n u → s.aon < u + 1920) → exec .entryCommit s = .next s) ∧
    (∀ n u, s.power.phase = .handover n u → u + 1920 ≤ s.aon → s.galOk → ∃ t, exec .entryCommit s = .next t ∧
      t.power.phase = .entering n ∧ asks t 550 ∧ (∀ g : Fin 32, t.bit PWM_GCTL g.val PWM_GCTL_EN = false) ∧ ∀ j : Fin 48, t.link j ≠ 2) ∧
    ((∀ n, s.power.phase ≠ .entering n) ∨ s.seqOutcome = none → exec .entryComplete s = .next s) ∧
    (∀ n st, s.power.phase = .entering n → s.seqOutcome = some st → ∃ t, exec .entryComplete s = .next t ∧ t.power.phase = .asleep n ∧
      (st ≠ stOK → t.bit WAKE_STAT 0 WAKE_STAT_VRETF = true) ∧ s.regsSame t [WAKE_STAT.addr 0] ∧
      t = { s with regs := t.regs, power := t.power }) ∧
    (let due := s.power.phase = .doze ∧ (s.quiescent = false ∨ s.power.exitReq = true ∨ s.wakeMask ≠ 0 ∨ ∃ k, (s.mailAt k).irq = true);
      (¬ due → exec .dozeExit s = .next s) ∧ (due → ends .dozeExit stOK 0 0)) ∧
    (let due (o : Option Nat) : Prop := ∃ u, o = some u ∧ u ≤ s.us;
      (s.grottoOn = false ∨ ¬ due s.power.consentP ∧ ¬ due s.power.consentK → exec .consentExpiry s = .next s) ∧
      (s.grottoOn = true → due s.power.consentP ∨ due s.power.consentK → ∃ t, exec .consentExpiry s = .next t ∧
        (due s.power.consentP → t.power.consentP = none ∧ t.bit PWR_STAT 0 PWR_STAT_CONSENTP = false) ∧
        (due s.power.consentK → t.power.consentK = none ∧ t.bit PWR_STAT 0 PWR_STAT_CONSENTK = false) ∧
        s.regsSame t [PWR_STAT.addr 0] ∧ t = { s with regs := t.regs, power := t.power })) ∧
    (∀ (k : Fin 8) (v : Int),
      let c := s.reg PWR_WCFG k.val
      let thr (x : Int) : Int := x * 7031250
      let th : Int := PWR_WCFG_THR.get c
      let hy : Int := PWR_WCFG_HYS.get c
      let out := (vget s.power.wcmp k).out
      let change := if PWR_WCFG_WLVL.get c = 1 then (if out = true then v < thr (th - hy) else thr th < v)
        else (if out = true then thr (th + hy) < v else v < thr th)
      let n := (vget s.power.wcmp k).agree + 1;
      ∃ t, exec (.wakeSample k v) s = .next t ∧ (¬ change → vget t.power.wcmp k = { out := out, agree := 0 } ∧ t.regs = s.regs) ∧
        (change → n < PWR_WCFG_FILT.get c + 1 → vget t.power.wcmp k = { out := out, agree := n } ∧ t.regs = s.regs) ∧
        (change → PWR_WCFG_FILT.get c + 1 ≤ n → vget t.power.wcmp k = { out := !out, agree := 0 } ∧
          t.bit PWR_WSTAT 0 ⟨k.val, k.val⟩ = !out ∧
          (out = false → PWR_WCFG_LATCH.get c = 1 → t.bit PWR_WSTAT 0 ⟨16 + k.val, 16 + k.val⟩ = true)) ∧
        s.regsSame t [PWR_WSTAT.addr 0] ∧ t = { s with regs := t.regs, power := t.power }) ∧
    (let due (n : Nat) : Prop := s.power.phase = .asleep n ∧ s.wakeMask ≠ 0;
      ((∀ n, ¬ due n) → exec .wake s = .next s) ∧
      (∀ n, due n → ∃ t, exec .wake s = .next t ∧ t.power.phase = .wake n 2 s.aon ∧ asks t s.power.vrun ∧
        t.fld WAKE_STAT 0 WAKE_STAT_SRC = s.wakeMask ∧ t.fld WAKE_STAT 0 WAKE_STAT_TRIES = 0 ∧
        t.fld WAKE_STAT 0 WAKE_STAT_COUNT = (s.fld WAKE_STAT 0 WAKE_STAT_COUNT + 1) % 256 ∧ plain t)) ∧
    (((∀ n u, s.power.phase ≠ .wake n 2 u) ∨ s.seqOutcome ≠ some 0) → exec .wakePowerUp s = .next s) ∧
    (∀ n u, s.power.phase = .wake n 2 u → s.seqOutcome = some 0 → exec .wakePowerUp s = .next (s.setPhase (.wake n 4 s.aon))) ∧
    (∀ levels, ((∀ n u, s.power.phase = .wake n 4 u → u + 8000000 < s.aon) → exec (.wakePllLock levels) s = .next s) ∧
      ∀ n u, s.power.phase = .wake n 4 u → s.aon ≤ u + 8000000 → ∃ t, exec (.wakePllLock levels) s = .next t ∧ t.power.phase = .run ∧
        t.bit PWR_STAT 0 PWR_STAT_BUSY = false ∧ t.fld PWR_STAT 0 PWR_STAT_RESULT = stOK) ∧
    (let fails (n c : Nat) : Prop := (∃ u st, s.power.phase = .wake n 2 u ∧ s.seqOutcome = some st ∧ st ≠ stOK ∧
          c = if st = stTIMEOUT then 1 else 2) ∨ (∃ u, s.power.phase = .wake n 4 u ∧ u + 8000000 ≤ s.aon ∧ c = 3)
      let tries := s.fld WAKE_STAT 0 WAKE_STAT_TRIES;
      ((∀ n c, ¬ fails n c) → exec .wakeFailure s = .next s) ∧
      (∀ n c, fails n c → tries ≠ s.fld PWR_CFG 0 PWR_CFG_WAKE_RETRY → ∃ t, exec .wakeFailure s = .next t ∧
        t.power.phase = .retry n s.aon ∧ asks t 550 ∧ t.bit WAKE_STAT 0 WAKE_STAT_FAIL = true ∧
        t.fld WAKE_STAT 0 WAKE_STAT_CAUSE = c ∧ t.fld WAKE_STAT 0 WAKE_STAT_TRIES = min 255 (tries + 1) ∧ plain t) ∧
      (∀ n c, fails n c → tries = s.fld PWR_CFG 0 PWR_CFG_WAKE_RETRY → s.heldScope < 2 → ∃ t, exec .wakeFailure s = .next t ∧
        t.boot.start = .held 2 s.aon ∧ t.bit WAKE_STAT 0 WAKE_STAT_COLD = true ∧
        t.bit SYSCTL_RSTCAUSE 0 SYSCTL_RSTCAUSE_COLDWAKE = true)) ∧
    ((∀ n u, s.power.phase = .retry n u → s.aon < u + 1600000000) → exec .wakeRetry s = .next s) ∧
    (∀ n u, s.power.phase = .retry n u → u + 1600000000 ≤ s.aon → ∃ t, exec .wakeRetry s = .next t ∧
      t.power.phase = .wake n 2 s.aon ∧ asks t s.power.vrun ∧ plain t)

/-- R576 to R580, R583, R586, R587, R590, R591, R621. -/
def Obligations.ResetsAndBoot : Prop :=
  ∀ s : State,
    let resets (t : State) (scope : Nat) (F : Fld) : Prop := t.boot.start = .held scope s.aon ∧ t.bit SYSCTL_RSTCAUSE 0 F = true ∧
      t.grt.bootOk = false ∧ t.phys = State.reset.phys ∧ t.pending = s.pending ∧
      t.time = (if scope < 3 then s.time else State.reset.time) ∧
      (∀ a, grottoMem a = true → memGet t.mem a = memGet s.mem a) ∧
      (∀ a, grottoMem a = false → memGet t.mem a =
        if scope = 1 ∧ s.bit SYSCTL_RSTCFG 0 SYSCTL_RSTCFG_KEEPEN = true ∧ keepArea a = true then memGet s.mem a else memGet [] a) ∧
      (∀ (f : RegFam) (i : Nat), scope < 3 → keptReg (f.addr i) = true → f.addr i ≠ SYSCTL_RSTCAUSE.addr 0 → t.reg f i = s.reg f i)
    let begun (i : Instr) (scope : Nat) (F : Fld) : Prop :=
      (s.heldScope < scope → ∃ t, exec i s = .next t ∧ resets t scope F) ∧
      (scope ≤ s.heldScope → ∃ t, exec i s = .next t ∧ t.boot = { s.boot with start := .held s.heldScope s.aon } ∧
        t.bit SYSCTL_RSTCAUSE 0 F = true ∧ s.regsSame t [SYSCTL_RSTCAUSE.addr 0] ∧ t = { s with regs := t.regs, boot := t.boot })
    let asked (i : Agent → Instr) (scope : Nat) (F : Fld) : Prop :=
      (s.accessStatus (.col 4) true (SYSCTL_RSTCTL.addr 0) = stOK → begun (i (.col 4)) scope F) ∧
      (∀ ag, ag ≠ .col 4 → ag ≠ .debug → s.accessStatus ag true (SYSCTL_RSTCTL.addr 0) = stOK →
        exec (i ag) s = .next (s.refuse ag stPERM 1 (SYSCTL_RSTCTL.addr 0))) ∧
      (s.fld DBG_STAT 0 DBG_STAT_LEVEL = 0 → exec (i .debug) s = .next (s.refuse .debug stPERM 1 (SYSCTL_RSTCTL.addr 0))) ∧
      (s.fld DBG_STAT 0 DBG_STAT_LEVEL ≠ 0 → begun (i .debug) scope F ∧ begun (i .debug) scope SYSCTL_RSTCAUSE_DEBUG)
    (∃ t, exec .powerOnReset s = .next t ∧ t.bit SYSCTL_RSTCAUSE 0 SYSCTL_RSTCAUSE_PORPIN = true ∧
      State.reset.regsSame t [SYSCTL_RSTCAUSE.addr 0] ∧ t.boot = { State.reset.boot with start := .held 3 s.aon } ∧
      t = { State.reset with pending := s.pending, freeCtr := s.freeCtr, aon := s.aon, regs := t.regs, boot := t.boot }) ∧
    (∀ (rail : Fin 3) (mv : Nat), let least := if rail = 0 then 450 else if rail = 1 then 700 else 1500;
      (least ≤ mv → exec (.supplyMonitorReset rail mv) s = .next s) ∧
      (mv < least → begun (.supplyMonitorReset rail mv) 3 SYSCTL_RSTCAUSE_PORMON)) ∧
    (∀ mv : Nat, (680 ≤ mv → exec (.grottoReset mv) s = .next s) ∧
      (mv < 680 → ∃ t, exec (.grottoReset mv) s = .next t ∧ t.grt = { grottoReset with bootOk := s.grt.bootOk } ∧
        (∀ k, (t.br k).safe = some 0) ∧ t.time = s.time ∧ t.phys = s.phys ∧ (∀ i : Fin 6, i.val < 5 → vget t.sproc i = vget s.sproc i) ∧
        ∀ a, memGet t.mem a = if grottoMem a = true then memGet [] a else memGet s.mem a)) ∧
    asked (fun ag => .coldReset ag) 2 SYSCTL_RSTCAUSE_COLDSW ∧ asked (fun ag => .warmReset ag) 1 SYSCTL_RSTCAUSE_WARMSW ∧
    (∀ low : Nat, (low < 1000 → exec (.wrst low) s = .next s) ∧
      (1000 ≤ low → s.parking = false → begun (.wrst low) 1 SYSCTL_RSTCAUSE_WARMPIN) ∧
      (1000 ≤ low → s.parking = true → ∃ t, exec (.wrst low) s = .next t ∧ t.bit WAKE_STAT 0 WAKE_STAT_RST = true ∧
        t.bit SYSCTL_RSTCAUSE 0 SYSCTL_RSTCAUSE_WARMPIN = true ∧ t.boot.start = .held (max 1 s.heldScope) s.aon)) ∧
    (let due := ∃ u, s.boot.colhAt = some u ∧ s.bit SYSCTL_RSTCFG 0 SYSCTL_RSTCFG_HALTWARM = true ∧ u + 1600000 ≤ s.aon;
      (¬ due → exec .colhHaltReset s = .next s) ∧ (due → begun .colhHaltReset 1 SYSCTL_RSTCAUSE_COLHHALT)) ∧
    (∀ (mode : BitVec 2) (testen : Bool),
      ((∀ n u, s.boot.start = .held n u → n < 3 ∧ s.aon < u + 160000) → exec (.resetRelease mode testen) s = .next s) ∧
      (∀ n u, s.boot.start = .held n u → (3 ≤ n ∨ u + 160000 ≤ s.aon) → ∃ t, exec (.resetRelease mode testen) s = .next t ∧
        t.boot.start = .test 0 s.aon ∧ t.fld SYSCTL_BOOTSTAT 0 SYSCTL_BOOTSTAT_BOOTMODE = mode.toNat ∧ t.tick % 1280 = 0 ∧
        s.tick ≤ t.tick ∧ t.tick < s.tick + 1280 ∧ (Config.otpLocked = false → t.fld DBG_STAT 0 DBG_STAT_LEVEL = 2) ∧
        t.boot.tap.testen = (if n = 3 ∧ s.bit SYSCTL_RSTCAUSE 0 SYSCTL_RSTCAUSE_PORPIN = true then testen else s.boot.tap.testen) ∧
        t.mem = s.mem ∧ s.regsSame t [SYSCTL_BOOTSTAT.addr 0, DBG_STAT.addr 0])) ∧
    (∀ bad : Option (Byte × Bool × Byte),
      ((∀ w u, s.boot.start ≠ .test w u) → exec (.selfTestWave bad) s = .next s) ∧
      (∀ w u, s.boot.start = .test w u → w < 7 → ∃ t, exec (.selfTestWave bad) s = .next t ∧
        let old := s.fld SYSCTL_STRES 0 SYSCTL_STRES_WAVE
        let first := if old = 0 then (match bad with | some _ => w + 1 | none => 0) else old;
        t.fld SYSCTL_STRES 0 SYSCTL_STRES_WAVE = first ∧ s.regsSame t [SYSCTL_STRES.addr 0, SYSCTL_STTIME.addr 0] ∧
        (∀ st l v, bad = some (st, l, v) → old = 0 → t.fld SYSCTL_STRES 0 SYSCTL_STRES_STATUS = st.toNat ∧
          t.bit SYSCTL_STRES 0 SYSCTL_STRES_LOGIC = l ∧ t.fld SYSCTL_STRES 0 SYSCTL_STRES_UNIT = v.toNat) ∧
        (w < 6 → t.boot.start = .test (w + 1) u) ∧
        (w = 6 → t.bit SYSCTL_STRES 0 SYSCTL_STRES_DONE = true ∧ t.bit SYSCTL_STRES 0 SYSCTL_STRES_FAIL = decide (first ≠ 0) ∧
          t.boot.start = if first = 1 then .up else .rom))) ∧
    (∀ prim sec : Option (List Byte),
      let mode := s.fld SYSCTL_BOOTSTAT 0 SYSCTL_BOOTSTAT_BOOTMODE
      let res (alt : Bool) : Nat := if alt = true then s.imgResult Config.otpSecondary.toNat sec else s.imgResult 0 prim
      let img (alt : Bool) : List Byte := (if alt = true then sec else prim).getD []
      let alt := decide (mode = 2)
      let idle (t : State) : Prop := t.boot.start = .up ∧ (vget t.sproc 4).wait = .wfi
      let runs (t : State) (a : Bool) : Prop := t.boot.start = .up ∧ (vget t.sproc 4).wait = .run ∧
        (vget t.sproc 4).core.pc = BitVec.ofNat 32 (imgWord (img a) 0x10) ∧ t.fld SYSCTL_BOOTSTAT 0 SYSCTL_BOOTSTAT_RESULT = 1 ∧
        t.bit SYSCTL_BOOTSTAT 0 SYSCTL_BOOTSTAT_ALT = a ∧ (s.bit SYSCTL_STRES 0 SYSCTL_STRES_DONE = true →
          s.bit SYSCTL_STRES 0 SYSCTL_STRES_FAIL = false → t.bit SYSCTL_BOOTSTAT 0 SYSCTL_BOOTSTAT_BOOTOK = true ∧ t.grt.bootOk = true);
      (s.boot.start ≠ .rom ∨ s.boot.tap.testen = true → exec (.boot prim sec) s = .next s) ∧
      (s.boot.start = .rom → s.boot.tap.testen = false → ∃ t, exec (.boot prim sec) s = .next t ∧
        (mode = 3 ∨ Config.otpLocked = false → idle t ∧ t.regs = s.regs ∧ t.mem = s.mem) ∧
        (mode ≠ 3 → Config.otpLocked = true → (res alt = 1 → runs t alt) ∧ (res alt ≠ 1 → res (!alt) = 1 → runs t (!alt)) ∧
          (res alt ≠ 1 → res (!alt) ≠ 1 → idle t ∧ t.fld SYSCTL_BOOTSTAT 0 SYSCTL_BOOTSTAT_RESULT = res alt)))) ∧
    (∀ ag : Agent, s.accessStatus ag true (DBG_CTRL.addr 0) = stOK →
      exec (.newchal ag) s = .next { s with boot := { s.boot with want := true } } ∧
      ∀ (level : BitVec 2) (kslot : Bool),
        (s.bit DBG_STAT 0 DBG_STAT_BLOCKED = true → exec (.dbgSubmit ag level kslot) s = .next (s.refuse ag stPERM 1 (DBG_CTRL.addr 0))) ∧
        (s.bit DBG_STAT 0 DBG_STAT_BLOCKED = false → s.bit DBG_STAT 0 DBG_STAT_BUSY = true → exec (.dbgSubmit ag level kslot) s = .next s) ∧
        (s.bit DBG_STAT 0 DBG_STAT_BLOCKED = false → s.bit DBG_STAT 0 DBG_STAT_BUSY = false →
          ∃ t, exec (.dbgSubmit ag level kslot) s = .next t ∧ t.bit DBG_STAT 0 DBG_STAT_BUSY = true ∧
            t.boot.sub = some { level := level.toNat, kslot := kslot,
                                nonce := if s.bit DBG_STAT 0 DBG_STAT_NONCEV = true then some s.dbgNonce else none } ∧
            s.regsSame t [DBG_STAT.addr 0] ∧ t = { s with regs := t.regs, boot := t.boot })) ∧
    (∀ n : BitVec 256, (s.boot.want = false → exec (.nonceReady n) s = .next s) ∧
      (s.boot.want = true → ∃ t, exec (.nonceReady n) s = .next t ∧ t.dbgNonce = n ∧ t.bit DBG_STAT 0 DBG_STAT_NONCEV = true ∧
        t.boot = { s.boot with want := false } ∧ t = { s with regs := t.regs, boot := t.boot })) ∧
    (s.boot.sub = none → exec .dbgDecision s = .next s) ∧
    (∀ q, s.boot.sub = some q → ∃ t, exec .dbgDecision s = .next t ∧ t.boot = { s.boot with sub := none } ∧
      t.bit DBG_STAT 0 DBG_STAT_BUSY = false ∧ (q.nonce = some s.dbgNonce → t.bit DBG_STAT 0 DBG_STAT_NONCEV = false) ∧
      (s.dbgAccepts q = true → t.fld DBG_STAT 0 DBG_STAT_LEVEL = min 2 q.level ∧ t.fld DBG_STAT 0 DBG_STAT_FAILS = 0) ∧
      (s.dbgAccepts q = false → t.fld DBG_STAT 0 DBG_STAT_FAILS = (s.fld DBG_STAT 0 DBG_STAT_FAILS + 1) % 4 ∧
        t.fld DBG_STAT 0 DBG_STAT_LEVEL = s.fld DBG_STAT 0 DBG_STAT_LEVEL ∧
        (s.fld DBG_STAT 0 DBG_STAT_FAILS = 2 → t.bit DBG_STAT 0 DBG_STAT_BLOCKED = true)) ∧
      s.regsSame t [DBG_STAT.addr 0] ∧ t = { s with regs := t.regs, boot := t.boot })

/-- R450, R452 to R456, R459, R466. -/
def Obligations.ColumnSystemOps : Prop :=
  ∀ (i : Fin 6) (s : State),
    let p := procAt i
    let k := s.coreOf p
    (∀ (gd : BitVec 3) (rd ra : BitVec 5), s.mayRun p gd →
      let runs (j : Instr) (f : Core → Core) : Prop := ∃ t, exec j s = .next t ∧ s.ranAs t p fun k => (f k).advance .s
      let x : Word := BitVec.ofNat 32 (k.u .s ra.toNat)
      let csr (t : State) (n : Nat) : Word := smGet 0 (vget t.sproc i).csr n;
      (k.stb 31 = false → ∀ e ∈ [(Instr.curchWrite p gd rd ra, encI 0x31 gd rd ra 0x021), (Instr.swi p gd rd ra, encI 0x31 gd rd ra 0x02C),
          (Instr.csrw p gd rd ra 0x020, encI 0x31 gd rd ra 0x020), (Instr.csrs p gd rd ra 0x020, encI 0x32 gd rd ra 0x020),
          (Instr.csrc p gd rd ra 0x020, encI 0x33 gd rd ra 0x020), (Instr.wfi p gd 0 0 0 0, encR 0x38 gd 0 0 0 0)],
        exec e.1 s = .next (s.trap p e.2 .priv)) ∧
      (k.stb 31 = true →
        (∀ imm : BitVec 13, imm.getLsbD 12 = false → csrKnown imm.toNat = true →
          let n := imm.toNat
          let old := s.csrRead i n;
          runs (.csrr p gd rd 0 imm) (fun k => k.wr .s rd.toNat old.toNat) ∧
          (n ≠ 0x021 →
            let sets (t : State) (v : Word) : Prop := t.mem = s.mem ∧ t.regs = s.regs ∧
              (n < 0x014 → t.coreOf p = ((k.wr .s rd.toNat old.toNat).setSpr .s n v.toNat).advance .s) ∧
              (0x014 ≤ n → t.coreOf p = (k.wr .s rd.toNat old.toNat).advance .s ∧
                ∀ m, m < 0xC10 → csr t m = if m = n ∧ csrMask n ≠ 0 then v &&& csrMask n else csr s m);
            (∃ t, exec (.csrw p gd rd ra imm) s = .next t ∧ sets t x) ∧
            (∃ t, exec (.csrs p gd rd ra imm) s = .next t ∧ sets t (old ||| x)) ∧
            (∃ t, exec (.csrc p gd rd ra imm) s = .next t ∧ sets t (old &&& ~~~x)))) ∧
        (s.maySelect i (x.toNat % 16) = true → ∃ t, exec (.curchWrite p gd rd ra) s = .next t ∧
          (∀ m, m < 0xC10 → csr t m = if m = 0x021 then x &&& 0xF else csr s m) ∧
          t.coreOf p = (k.wr .s rd.toNat (s.csrRead i 0x021).toNat).advance .s ∧ t = { s with sproc := t.sproc }) ∧
        (s.maySelect i (x.toNat % 16) = false →
          exec (.curchWrite p gd rd ra) s = .next (s.trap p (encI 0x31 gd rd ra 0x021) (.access stPERM 0x021))) ∧
        (∃ t, exec (.swi p gd rd ra) s = .next t ∧ t.coreOf p = (k.wr .s rd.toNat 0).advance .s ∧ t = { s with sproc := t.sproc } ∧
          ∀ c : Fin 5, (vget t.sproc (Fin.ofNat 6 c.val)).swi = (vget s.sproc (Fin.ofNat 6 c.val)).swi |||
            (if i.val < 5 ∧ x.getLsbD c.val = true then 1#5 <<< i.val else 0)) ∧
        ((s.irqNext i).isSome = true → runs (.wfi p gd 0 0 0 0) id) ∧
        (s.irqNext i = none → ∃ t, exec (.wfi p gd 0 0 0 0) s = .next t ∧ t.waitOf p = .wfi ∧ t.coreOf p = k.advance .s ∧
          t = { s with sproc := t.sproc }))) ∧
    (let q := vget s.sproc i
      let awake := q.wait = .run ∨ q.wait = .wfi;
      ((s.irqNext i = none ∨ s.alive p = false ∨ ¬ awake ∨ q.refusal ≠ none) → exec (.interruptEntry p) s = .next s) ∧
      (∀ j, s.irqNext i = some j → s.alive p = true → awake → q.refusal = none →
        (k.stb 15 = false → exec (.interruptEntry p) s = .next (s.setWait p .run)) ∧
        (k.stb 15 = true → ∃ t, exec (.interruptEntry p) s = .next t ∧ t.waitOf p = .run ∧
          t.coreOf p = k.takeInterrupt (s.cvec i) (0x20 + j) (BitVec.ofNat 32 ((s.irqPending i j).getD 0)) (s.irqLevel i j) ∧
          (j = 31 → (vget t.sproc i).swi = 0) ∧ t.regs = s.regs ∧ t.mem = s.mem ∧
          (16 ≤ j → t = { s with sproc := t.sproc }) ∧
          (∀ h : j < 16, s.gal.notify = [] → vget (vget t.sproc i).lines ⟨j, h⟩ = none))))

/-- R36, R154, R460 to R463. -/
def Obligations.ColumnMemoryOps : Prop :=
  (∀ (c : Fin 5) (gd : BitVec 3) (rd ra rb : BitVec 5) (s : State), s.mayRun (.col c) gd → s.memOk →
    let p := Proc.col c
    let k := s.coreOf p
    let sram (a n : Nat) (wr : Bool) : Prop := a % 4 = 0 ∧ 0x10000000 ≤ a ∧ a + 4 * n ≤ 0x10800000 ∧
      ∀ i, i < n → s.accessStatus (.col c) wr (a + 4 * i) = stOK
    let line (n : Nat) : Prop := sram (64 * n) 16 true
    let word (l : CacheLine) (i : Nat) : Word := (l.data[4 * i + 3]?.getD 0) ++ (l.data[4 * i + 2]?.getD 0) ++
      (l.data[4 * i + 1]?.getD 0) ++ (l.data[4 * i]?.getD 0)
    let same (t : State) (k' : Core) : Prop := t.coreOf p = k' ∧ t.regs = s.regs ∧ t.gal = s.gal ∧ t.fabLog = s.fabLog;
    (k.stb 31 = false → ∀ most : BitVec 16, ∀ e ∈ [(Instr.cacheInvalidateLine p gd 0 ra 0, encR 0x34 gd 0 ra 0 0),
        (Instr.cacheWritebackLine p gd 0 ra 0, encR 0x34 gd 0 ra 0 1), (Instr.cacheFlushLine p gd 0 ra 0, encR 0x34 gd 0 ra 0 2),
        (Instr.cacheInvalidateIline p gd 0 ra 0, encR 0x34 gd 0 ra 0 3), (Instr.cacheFlushData p gd 0 0 0 0, encR 0x34 gd 0 0 0 4),
        (Instr.cacheInvalidateInstr p gd 0 0 0, encR 0x34 gd 0 0 0 5), (Instr.bmov p gd rd ra rb most, encR 0x35 gd rd ra rb 0),
        (Instr.bmovFill p gd rd ra rb most, encR 0x35 gd rd ra rb 1)],
      exec e.1 s = .next (s.trap p e.2 .priv)) ∧
    (k.stb 31 = true →
      (let a := k.u .s ra.toNat
        let n := a / 64;
        (∃ t, exec (.cacheInvalidateLine p gd 0 ra 0) s = .next t ∧ t.dline c n = none ∧ (∀ m, m ≠ n → t.dline c m = s.dline c m) ∧
          t.mem = s.mem ∧ same t (k.advance .s)) ∧
        (∀ i : Instr, i = .cacheWritebackLine p gd 0 ra 0 ∨ i = .cacheFlushLine p gd 0 ra 0 →
          (s.dline c n = none → ∃ t, exec i s = .next t ∧ s.ranAs t p fun k => k.advance .s) ∧
          (∀ l, s.dline c n = some l → (l.dirty = true → line n) → ∃ t, exec i s = .next t ∧
            (l.dirty = false → t.mem = s.mem) ∧ (l.dirty = true → ∀ j, j < 16 → memWord t.mem (64 * n + 4 * j) = word l j) ∧
            s.memSame t (64 * n) 64 ∧ (∀ m, m ≠ n → t.dline c m = s.dline c m) ∧ same t (k.advance .s) ∧
            t.dline c n = if i = .cacheFlushLine p gd 0 ra 0 then none else some { l with dirty := false })) ∧
        (∃ t, exec (.cacheInvalidateIline p gd 0 ra 0) s = .next t ∧ t.mem = s.mem ∧ same t (k.advance .s) ∧
          (vget t.sproc (sIndex p)).icache = smDrop (· == n) (vget s.sproc (sIndex p)).icache)) ∧
      (∃ t, exec (.cacheInvalidateInstr p gd 0 0 0) s = .next t ∧ t.mem = s.mem ∧ same t (k.advance .s) ∧
        (vget t.sproc (sIndex p)).icache = []) ∧
      (∀ most : BitVec 10, (vget s.sproc (sIndex p)).dcache.length ≤ most.toNat →
        (∀ n l, s.dline c n = some l → l.dirty = true → line n) → ∃ t, exec (.cacheFlushData p gd 0 0 0 most) s = .next t ∧
          (vget t.sproc (sIndex p)).dcache = [] ∧ same t { k.advance .s with prog := 0 } ∧
          ∀ n l, s.dline c n = some l → l.dirty = true → ∀ j, j < 16 → memWord t.mem (64 * n + 4 * j) = word l j) ∧
      (let plain (a n : Nat) (wr : Bool) : Prop := sram a n wr ∧ a + 4 * n ≤ 2 ^ 32 ∧
          ∀ i, i < n → s.eccOf (a + 4 * i) = 0 ∧ s.mpu (sIndex p) (a + 4 * i) (if wr then 1 else 0) = some false
        let base := k.u .s ra.toNat;
        k.prog = 0 →
        (∀ most : BitVec 16,
          let n := k.u .s rb.toNat
          let dst := k.u .s rd.toNat;
          n ≤ most.toNat → plain dst n true →
          (plain base n false → (base + 4 * n ≤ dst ∨ dst + 4 * n ≤ base) → ∃ t, exec (.bmov p gd rd ra rb most) s = .next t ∧
            (∀ i, i < n → memWord t.mem (dst + 4 * i) = memWord s.mem (base + 4 * i)) ∧ s.memSame t dst (4 * n) ∧
            same t (k.advance .s)) ∧
          (plain base 1 false → (base + 4 ≤ dst ∨ dst + 4 * n ≤ base) → ∃ t, exec (.bmovFill p gd rd ra rb most) s = .next t ∧
            (∀ i, i < n → memWord t.mem (dst + 4 * i) = memWord s.mem base) ∧ s.memSame t dst (4 * n) ∧ same t (k.advance .s))) ∧
        (∀ (most : BitVec 6) (fr : Bool), rd.toNat ≤ rb.toNat → (fr = true → rb.toNat < 16) →
          let n := rb.toNat - rd.toNat + 1
          let fn : Byte := if fr then 1 else 0
          let get (k : Core) (i : Nat) : Word := if fr then k.fr[i]! else k.r[i]!;
          n ≤ most.toNat →
          (plain base n true → ∃ t, exec (.savem p gd rd ra rb fn most) s = .next t ∧
            (∀ i, i < n → memWord t.mem (base + 4 * i) = get k (rd.toNat + i)) ∧ s.memSame t base (4 * n) ∧ same t (k.advance .s)) ∧
          (plain base n false → ¬ (rd.toNat ≤ ra.toNat ∧ ra.toNat ≤ rb.toNat) →
            ∃ t, exec (.restm p gd rd ra rb fn most) s = .next t ∧ t.mem = s.mem ∧ t.regs = s.regs ∧
              (∀ i, i < n → get (t.coreOf p) (rd.toNat + i) = memWord s.mem (base + 4 * i)) ∧
              (∀ i, i < 32 → (i < rd.toNat ∨ rb.toNat < i) → get (t.coreOf p) i = get k i) ∧
              t.coreOf p = { k.advance .s with r := (t.coreOf p).r, fr := (t.coreOf p).fr } ∧
              (if fr then (t.coreOf p).r = k.r else (t.coreOf p).fr = k.fr)))))) ∧
  (∀ (gd : BitVec 3) (ra : BitVec 5) (s : State), s.mayRun .grotto gd → (s.coreOf .grotto).stb 31 = true →
    ∀ i ∈ [Instr.cacheInvalidateLine .grotto gd 0 ra 0, Instr.cacheWritebackLine .grotto gd 0 ra 0,
        Instr.cacheFlushLine .grotto gd 0 ra 0, Instr.cacheInvalidateIline .grotto gd 0 ra 0, Instr.cacheFlushData .grotto gd 0 0 0 0,
        Instr.cacheInvalidateInstr .grotto gd 0 0 0],
      ∃ t, exec i s = .next t ∧ s.ranAs t .grotto fun k => k.advance .s)

/-- R32, R466 to R468, R474 to R477, R577, R642. -/
def Obligations.ChambersAndColumns : Prop :=
  ∀ s : State,
    (∀ (ag : Agent) (c : Fin 16) (v : Word), s.accessStatus ag true (FAB_CH_CFG.addr c.val) = stOK →
      let w (b : Nat) : Word := FAB_CH_CFG_ACTIVE.put v b &&& 0xC000001F
      let kept (b : Nat) : State := s.setReg FAB_CH_CFG c.val (FAB_CH_CFG_ACTIVE.put (w b) 1);
      (c = 0 → exec (.chamberCreate ag c v) s = .next (kept 1) ∧ exec (.chamberDelete ag c v) s = .next (kept 0)) ∧
      (c ≠ 0 → exec (.chamberCreate ag c v) s = .next (s.setReg FAB_CH_CFG c.val (w 1))) ∧
      (c ≠ 0 → s.chActive c.val = true → s.chamberHeld c.val = true →
        exec (.chamberDelete ag c v) s = .next ((kept 0).refuse ag stPERM 1 (FAB_CH_CFG.addr c.val))) ∧
      (c ≠ 0 → (s.chActive c.val = false ∨ s.chamberHeld c.val = false) →
        exec (.chamberDelete ag c v) s = .next (s.setReg FAB_CH_CFG c.val (w 0)))) ∧
    (∀ (ag : Agent) (kind : BitVec 5) (c : Fin 16), s.accessStatus ag true (FAB_ASN_CMD.addr 0) = stOK →
      let k := kind.toNat
      let a := s.fld FAB_ASN_RANGE 0 FAB_ASN_RANGE_FIRST
      let n := max 1 (s.fld FAB_ASN_RANGE 0 FAB_ASN_RANGE_COUNT)
      let res (st bad : Nat) : Word := FAB_ASN_RES_BADIDX.put (FAB_ASN_RES_STATUS.put 0 st) bad
      let fails (i : Instr) (st bad : Nat) : Prop := exec i s = .next (s.setReg FAB_ASN_RES 0 (res st bad))
      let moves (i : Instr) (o : Nat) : Prop := ∃ t, exec i s = .next t ∧ t.reg FAB_ASN_RES 0 = res stOK 0 ∧
        (∀ j, a ≤ j → j < a + n → t.unitOwner k j = o) ∧ (k = 0x0C → t.owner = s.owner) ∧
        (∀ k' j, j < 2 ^ 16 → (k' ≠ k ∨ j < a ∨ a + n ≤ j) → t.ownerOf k' j = s.ownerOf k' j) ∧
        (k ≠ 0x0C → s.regsSame t [FAB_ASN_RES.addr 0]) ∧
        t = { s with regs := t.regs, owner := t.owner, slotOld := t.slotOld }
      let good (o i : Nat) : Prop := (if k = 0x0F then s.slotKept a (a + n) o i else s.movable k i o) = true
      let first (o i : Nat) : Prop := a ≤ i ∧ i < a + n ∧ ¬ good o i ∧ ∀ j, a ≤ j → j < i → good o j;
      (s.abort ≠ none → exec (.assign ag kind c) s = .next (s.refuse ag stPERM 1 (FAB_ASN_CMD.addr 0)) ∧
        exec (.assignFree ag kind) s = .next (s.refuse ag stPERM 1 (FAB_ASN_CMD.addr 0))) ∧
      (s.abort = none →
        (kindSize k = 0 → fails (.assign ag kind c) stBAD_TARGET a) ∧
        (k ≠ 0x0F → fails (.assignFree ag kind) stBAD_TARGET a) ∧
        (kindSize k ≠ 0 → kindSize k < a + n → fails (.assign ag kind c) stBAD_TARGET (max a (kindSize k)) ∧
          (k = 0x0F → fails (.assignFree ag kind) stBAD_TARGET (max a (kindSize k)))) ∧
        (a + n ≤ kindSize k →
          (s.chActive c.val = false → fails (.assign ag kind c) stPERM a) ∧
          (s.chActive c.val = true → (∀ i, first c.val i → fails (.assign ag kind c) stPERM i) ∧
            ((∀ i, a ≤ i → i < a + n → good c.val i) → moves (.assign ag kind c) c.val)) ∧
          (k = 0x0F → (∀ i, first 16 i → fails (.assignFree ag kind) stPERM i) ∧
            ((∀ i, a ≤ i → i < a + n → good 16 i) → moves (.assignFree ag kind) 16))))) ∧
    (∀ (ag : Agent) (kind : BitVec 5) (i : Half), s.accessStatus ag true (FAB_QUERY.addr 0) = stOK →
      let k := kind.toNat
      let answer (w : Word) : State := s.setRegA FAB_QUERY_RES (agentId ag) 0 w;
      (kindSize k ≤ i.toNat → exec (.fabQuery ag kind i) s = .next ((answer 0).refuse ag stBAD_TARGET 1 (FAB_QUERY.addr 0))) ∧
      (i.toNat < kindSize k → 16 ≤ s.unitOwner k i.toNat → exec (.fabQuery ag kind i) s = .next (answer 0)) ∧
      (i.toNat < kindSize k → s.unitOwner k i.toNat < 16 → exec (.fabQuery ag kind i) s =
        .next (answer (FAB_QUERY_RES_OWNER.put (FAB_QUERY_RES_OWNED.put 0 1) (s.unitOwner k i.toNat))))) ∧
    (∀ c : Fin 5,
      let i : Fin 6 := Fin.ofNat 6 c.val
      let q := vget s.sproc i
      let n := s.fld SYSCTL_COLCTL c.val SYSCTL_COLCTL_WDT
      let due := s.treesOn = true ∧ n ≠ 0 ∧ q.inReset = false ∧ q.kickAt + 640 * n ≤ s.tick
      let warm := c = 4 ∧ s.bit SYSCTL_RSTCFG 0 SYSCTL_RSTCFG_WDTWARM = true
      let out := (s.setBit SYSCTL_COLCTL c.val SYSCTL_COLCTL_WDTEXP true).modSproc i fun q => { q with kickAt := s.tick };
      (¬ due → exec (.columnWatchdogExpiry c) s = .next s) ∧
      (due → ¬ warm → exec (.columnWatchdogExpiry c) s = .next out) ∧
      (due → warm → ∃ t, exec (.columnWatchdogExpiry c) s = .next t ∧ t = out.beginReset 1 [SYSCTL_RSTCAUSE_COLHWDT] ∧
        t.bit SYSCTL_RSTCAUSE 0 SYSCTL_RSTCAUSE_COLHWDT = true) ∧
      (∀ (ag : Agent) (v : Word), s.accessStatus ag true (SYSCTL_COLKICK.addr c.val) = stOK →
        (ag ≠ .col c → exec (.colkick ag c v) s = .next (s.refuse ag stPERM 1 (SYSCTL_COLKICK.addr c.val))) ∧
        (ag = .col c → SYSCTL_COLKICK_KICK.get v = 1 → exec (.colkick ag c v) s =
          .next (s.modSproc i fun q => { q with kickAt := s.tick })) ∧
        (ag = .col c → SYSCTL_COLKICK_KICK.get v ≠ 1 → exec (.colkick ag c v) s = .next s)) ∧
      (∀ ag : Agent, s.accessStatus ag true (SYSCTL_COLCTL.addr c.val) = stOK →
        (chamberOf s ag ≠ 0 → exec (.columnReset ag c) s = .next (s.refuse ag stPERM 1 (SYSCTL_COLCTL.addr c.val))) ∧
        (chamberOf s ag = 0 → ∃ t, exec (.columnReset ag c) s = .next t ∧ s.regsSame t [] ∧
          (¬ (ag = .col 4 ∧ c.val < 4) → t = { s with regs := t.regs }) ∧
          (ag = .col 4 → c.val < 4 → t = { s with
            regs := t.regs
            sproc := vset s.sproc i { sprocReset with inReset := true, restart := true } })))) ∧
    (∀ c : Fin 4,
      let i : Fin 6 := Fin.ofNat 6 c.val
      let due := s.treesOn = true ∧ (vget s.sproc i).restart = true;
      (¬ due → exec (.columnRestart c) s = .next s) ∧
      (due → ∃ t, exec (.columnRestart c) s = .next t ∧ (vget t.sproc i).inReset = false ∧ (vget t.sproc i).restart = false ∧
        (vget t.sproc i).core = { sprocReset.core with pc := s.reg SYSCTL_COLBOOT c.val &&& 0xFFFFFFFC } ∧
        (vget t.sproc i).kickAt = s.tick ∧ (vget t.sproc i).csr = [] ∧ t.bit SYSCTL_COLCTL c.val SYSCTL_COLCTL_HALTED = false ∧
        t.bit SYSCTL_COLCTL c.val SYSCTL_COLCTL_STOPPED = false ∧ t.bit SYSCTL_COLCTL c.val SYSCTL_COLCTL_REDIR = false ∧
        t.mem = s.mem ∧ s.regsSame t [SYSCTL_COLCTL.addr c.val]))

/-- R123, R289, R333, R470 to R472, R531. -/
def Obligations.Aborts : Prop :=
  ∀ s : State,
    (∀ (ag : Agent) (t : Half), s.accessStatus ag true (FAB_ABORT.addr 0) = stOK →
      let no (i : Instr) (st : Nat) : Prop := exec i s = .next (s.refuse ag st 1 (FAB_ABORT.addr 0))
      let all : List (Nat × Instr) := [(1, .abortCell ag t), (2, .abortBlock ag t), (3, .abortLink ag t), (4, .abortRegion ag t),
        (5, .abortChamber ag t)]
      let sent (kind : Nat) (i : Instr) (post : State → Prop) : Prop := ∃ u, exec i s = .next u ∧ post u ∧ u.time = s.time ∧
        u.abort = some { kind := kind, target := t.toNat, since := s.tick, mask := (abortKind kind).2.1 } ∧
        u.reg FAB_ABORT_RES 0 = FAB_ABORT_RES_BUSY.put 0 1
      let plain (c : Fin 128) : Prop := (vget s.lcell c).twin = none ∧ (vget s.lcell c).work = .none
      let stopped (u : State) (c : Fin 128) : Prop := ∀ p, s.physOf c = some p → s.lstate c = 1 →
        u.lstate c = 0 ∧ u.pstate p = 0 ∧ (vget u.phys p).wbuf = []
      let pattern (u : State) (g : Fin 32) : Prop := u.bit PWM_GSTAT g.val PWM_GSTAT_ABORT = true ∧ (u.pg g).abort = true;
      (∀ e ∈ all, (s.abort ≠ none → no e.2 stFULL) ∧ (s.abort = none → (abortKind e.1).1 ≤ t.toNat → no e.2 stBAD_TARGET)) ∧
      (s.abort = none → t.toNat = 0 → no (.abortChamber ag t) stPERM) ∧
      (s.abort = none → s.galOk → s.echoOk →
        (∀ c : Fin 128, t.toNat = c.val → sent 1 (.abortCell ag t) fun u => plain c → stopped u c ∧
          ∀ p, s.physOf c = some p → s.lstate c = 1 → (∀ e ∈ s.gal.events, e.toCell c.val = false) → (vget u.phys p).fifo = []) ∧
        (∀ b : Fin 16, t.toNat = b.val → sent 2 (.abortBlock ag t) fun u =>
          (∀ c : Fin 128, c.val / 8 = b.val → plain c) → (∀ c d : Fin 128, s.physOf c = s.physOf d → s.physOf c ≠ none → c = d) →
            ∀ c : Fin 128, c.val / 8 = b.val → stopped u c) ∧
        (t.toNat < 0x1B → sent 3 (.abortLink ag t) fun u =>
          (∀ k : Fin 8, t.toNat = k.val → (vget u.can k).bus = none ∧ ∀ b, b < 3 → u.txPend k b = false ∧
            (s.txPend k b = true → u.fld CAN_TXB_RES (txbIdx k b) CAN_TXB_RES_STATUS = stABORTED)) ∧
          (0x08 ≤ t.toNat → t.toNat < 0x0C → u.regs = (s.setReg FAB_ABORT_RES 0 (FAB_ABORT_RES_BUSY.put 0 1)).regs) ∧
          (∀ k : Fin 4, t.toNat = 0x0C + k.val → ∀ f ∈ (u.ep k.val).queue, f.own = none) ∧
          (∀ k : Fin 4, t.toNat = 0x10 + k.val → (vget u.spi k).tx = [] ∧ (vget u.spi k).csLow = false) ∧
          (t.toNat = 0x14 → u.xspi.cmd = none ∧ (s.xspi.cmd ≠ none → u.fld XSPI_STAT 0 XSPI_STAT_STATUS = stABORTED)) ∧
          (∀ k : Fin 2, t.toNat = 0x15 + k.val → (vget u.uart k).tx = []) ∧
          (∀ k : Fin 2, t.toNat = 0x17 + k.val → (vget u.i2c k).cmd = none ∧ u.bit I2C_STAT k.val I2C_STAT_BUSY = false) ∧
          (∀ k : Fin 2, t.toNat = 0x19 + k.val → ∀ q, (s.avsc k).req = some q → q.seq = false → (u.avsc k).req = none ∧
            u.fld AVS_RES k.val AVS_RES_STATUS = stABORTED)) ∧
        (∀ r : Fin 4, t.toNat = r.val → sent 4 (.abortRegion ag t) fun u =>
          (∀ g : Fin 32, g.val / 8 = r.val → pattern u g) ∧
          (∀ i, i < 8 → u.bit DSM_CFG (8 * r.val + i) DSM_CFG_EN = false) ∧
          (∀ j : Fin 16, j.val / 4 = r.val → (u.cv j).queue = []) ∧
          ((∀ c : Fin 128, plain c) → (∀ c d : Fin 128, s.physOf c = s.physOf d → s.physOf c ≠ none → c = d) →
            ∀ c : Fin 128, c.val / 32 = r.val → stopped u c)) ∧
        (∀ c : Fin 16, c ≠ 0 → t.toNat = c.val → sent 5 (.abortChamber ag t) fun u =>
          (∀ g : Fin 32, s.ownerOf 0x02 g.val = c.val → pattern u g) ∧
          (∀ i, i < 32 → s.ownerOf 0x06 i = c.val → u.bit DSM_CFG i DSM_CFG_EN = false) ∧
          (∀ n, n < 16 → bitN (s.pinsOf c.val) n = true → bitN (u.reg GPIO_EDGE 0).toNat n = false) ∧
          ((∀ d : Fin 128, plain d) → (∀ d e : Fin 128, s.physOf d = s.physOf e → s.physOf d ≠ none → d = e) →
            ∀ d : Fin 128, s.ownerOf 0x01 d.val = c.val → stopped u d)))) ∧
    (∀ late : Byte,
      (s.abort = none → exec (.abortComplete late) s = .next s) ∧
      (∀ a, s.abort = some a →
        let fails := late &&& a.mask
        let st := if fails = 0 then stOK else if fails = a.mask then stTIMEOUT else stPARTIAL
        let shown (t : State) : Prop := t.abort = none ∧ t.abortIrq = true ∧ t.time = s.time ∧
          t.reg FAB_ABORT_RES 0 = FAB_ABORT_RES_MASK.put (FAB_ABORT_RES_STATUS.put 0 st) fails.toNat ∧
          t.reg FAB_ABORT_TIME 0 = BitVec.ofNat 32 (s.tick - a.since);
        (fails ≠ 0 → s.tick < a.since + (abortKind a.kind).2.2 → exec (.abortComplete late) s = .next s) ∧
        (fails = 0 → ∃ t, exec (.abortComplete late) s = .next t ∧ shown t ∧ s.regsSame t [FAB_ABORT_RES.addr 0, FAB_ABORT_TIME.addr 0] ∧
          t = { s with regs := t.regs, abort := none, abortIrq := true }) ∧
        (fails ≠ 0 → a.since + (abortKind a.kind).2.2 ≤ s.tick → ∃ t, exec (.abortComplete late) s = .next t ∧ shown t ∧
          (a.kind = 1 → fails = 1 → ∀ (c p : Fin 128), c.val = a.target → s.physOf c = some p → t.lstate c = 3 ∧ t.pstate p = 5))))

/-- R481, R482, R484 to R487, R490 to R492, R495, R496. -/
def Obligations.EchoPorts : Prop :=
  ∀ (k : Fin 4) (s : State),
    let mate := portMate k.val
    let m := k.val / 2
    let port (t : State) (j : Nat) : EPort := t.ep j
    let same (t : State) : Prop := t.time = s.time ∧ t.mem = s.mem
    let puts (t : State) (j : Nat) (f : ELine) : Prop := (port t j).line = some ((port s j).txSeq + 1, f)
    (∀ (l : List Byte) (bad ecc : Bool) (ago lead : Nat) (seg : Fin 64),
      let seq := BitVec.ofNat 16 (frHalf l 2)
      let all : List (Nat × Instr) := [(1, .echoData k l ago bad ecc), (2, .echoAck k l bad), (3, .ttSync k l bad ago lead),
        (4, .ttResp k l bad ago), (5, .echoBreak k l bad seg), (6, .mend k l bad seg)]
      let good := bad = false ∧ frameSound l = true ∧
        ∀ last, (port s k.val).rxSeq = some last → 0 < (seq - last).toNat ∧ (seq - last).toNat < 0x8000
      let takes (ty : Nat) : Prop := s.portUp k.val = true ∧ frameType l = ty ∧ good
      let mine (f : EFrame) : Prop := f.dst = s.nodeId 0 ∨ f.dst = s.nodeId 1;
      (∀ e ∈ all, ((s.portUp k.val = false ∨ frameType l ≠ e.1) → exec e.2 s = .next s) ∧
        (s.portUp k.val = true → frameType l = e.1 → ¬ good → exec e.2 s = .next (s.count ECHO_CNT k.val ECHO_CNT_CRC)) ∧
        (takes e.1 → ∃ t, exec e.2 s = .next t ∧ (port t k.val).rxSeq = some seq)) ∧
      (takes 1 →
        let f := parseFrame l 0
        let n := f.dring
        let sent (t : State) (st : Nat) : Prop := ∀ p, f.ackreq = true → s.route m f.src = .inl p → s.portUp p = true →
          ((port s p).queue.filter (·.cls == f.cls)).length < 8 →
          (port t p).queue = (port s p).queue ++ [{ f with ack := true, ackreq := false, wrap := false, hops := 255, src := s.nodeId m,
                                                           dst := f.src, status := st, payload := [], own := none }]
        let ends (st : Nat) : Prop := ∃ t, exec (.echoData k l ago bad ecc) s = .next t ∧ sent t st ∧ (st ≠ stOK → same t);
        (f.hops = 0 → f.ackreq = false → ∃ t, exec (.echoData k l ago bad ecc) s = .next t ∧ same t ∧
          t.fld ECHO_CNT k.val ECHO_CNT_NOROUTE = (s.count ECHO_CNT k.val ECHO_CNT_NOROUTE).fld ECHO_CNT k.val ECHO_CNT_NOROUTE) ∧
        (f.hops ≠ 0 → ¬ mine f → f.dst / 64 = s.nodeId m / 64 → s.portUp mate = true →
          ((port s mate).queue.filter (·.cls == f.cls)).length < 8 → ∃ t, exec (.echoData k l ago bad ecc) s = .next t ∧ same t ∧
            (port t mate).queue = (port s mate).queue ++ [{ f with hops := f.hops - 1 }]) ∧
        (f.hops ≠ 0 → mine f →
          let fits := s.ringRx n = true ∧ f.payload.length + 12 ≤ s.ringEntry n
          let may := s.bit ECHO_CHCFG (16 * m + s.ringOwner n) ECHO_CHCFG_RXEN = true
          let room := s.ringFull n = false ∨ s.bit GAL_RING_CFG n GAL_RING_CFG_AUTO = true;
          (¬ fits → ends stBAD_TARGET) ∧ (fits → ¬ may → ends stPERM) ∧ (fits → may → ¬ room → ends stFULL) ∧
          (fits → may → room → ecc = true → ends stECC) ∧ (fits → may → room → ecc = false → ends stOK) ∧
          (fits → may → ecc = false → s.ringFull n = false → s.memOk →
            let prod := s.fld GAL_RING_IDX n GAL_RING_IDX_PROD
            let a := s.ringAddr n prod;
            ∃ t, exec (.echoData k l ago bad ecc) s = .next t ∧ t.fld GAL_RING_IDX n GAL_RING_IDX_PROD = (prod + 1) % 2 ^ 16 ∧
              memWord t.mem a = BitVec.ofNat 32 (f.src * 2 ^ 16 + f.eseq) ∧ memWord t.mem (a + 4) = s.nsAgo ago ∧
              s.memSame t a (s.ringEntry n)))) ∧
      (takes 2 → let f := parseFrame l (s.free.toNat % 4)
        f.hops ≠ 0 → mine f → ∀ (x : ESend) (u : EUnit), s.echo.sends = [x] → x.units = [u] → u.node = f.src → u.due ≠ none →
          x.ackreq = true → x.eseq = f.eseq → x.result = none → x.event = none → u.unit < 16 → x.multi.open_ = 1#16 <<< u.unit →
          x.ring < 16384 → ∃ t, exec (.echoAck k l bad) s = .next t ∧ t.echo.sends = [] ∧
            t.fld GAL_RING_IDX x.ring GAL_RING_IDX_CONS = (x.eseq + 1) % 2 ^ 16) ∧
      (takes 3 → ∃ t, exec (.ttSync k l bad ago lead) s = .next t ∧ puts t k.val (.resp (s.stamp - ago) (s.stamp + lead)) ∧ same t) ∧
      (takes 4 → ((port s k.val).tt = none → ∃ t, exec (.ttResp k l bad ago) s = .next t ∧ same t ∧
          s.regsSame t [ECHO_CNT.addr k.val]) ∧
        (∀ t1 t0, (port s k.val).tt = some (t1, t0) → ∃ t, exec (.ttResp k l bad ago) s = .next t ∧ (port t k.val).tt = none ∧
          (let asym := s.sfld ECHO_CFG k.val ECHO_CFG_ASYM
            let t2 : Int := frStamp l 16
            let t3 : Int := frStamp l 25
            let t4 : Int := (s.stamp - ago : Nat);
            t.reg ECHO_TTOFS k.val = BitVec.ofNat 32 (pat 32 (((t1 - t2) + (t4 - t3)).tdiv 2 + asym)) ∧
            t.reg ECHO_TTDLY k.val = BitVec.ofNat 32 (pat 32 (((t4 - t1) - (t3 - t2)).tdiv 2 - asym))) ∧ t.mem = s.mem)) ∧
      (∀ e ∈ [(5, Instr.echoBreak k l bad seg, true), (6, Instr.mend k l bad seg, false)], takes e.1 →
        ∃ t, exec e.2.1 s = .next t ∧ t.segBroken m seg.val = e.2.2 ∧ same t ∧
          (s.segBroken m seg.val ≠ e.2.2 → t.bit ECHO_STAT (2 * m) ECHO_STAT_BRKEV = true) ∧
          (frByte l 1 ≠ 0 → s.portUp mate = true → puts t mate (if e.2.2 then .brk seg.val (frByte l 1 - 1)
            else .mend seg.val (frByte l 1 - 1))))) ∧
    (∀ lead : Nat,
      let due := s.portUp k.val = true ∧ s.bit ECHO_CFG k.val ECHO_CFG_TTEN = true ∧
        ∀ t, (port s k.val).ttAt = some t → t + 640000 * max 1 (s.fld ECHO_CFG k.val ECHO_CFG_TTPER) ≤ s.tick;
      (¬ due → exec (.ttSyncSend k lead) s = .next s) ∧
      (due → ∃ t, exec (.ttSyncSend k lead) s = .next t ∧ puts t k.val .sync ∧ (port t k.val).tt = some (s.stamp + lead, s.tick) ∧
        (port t k.val).ttAt = some s.tick ∧ same t ∧ t.regs = s.regs)) ∧
    (let due := s.fabricOn = true ∧ ∃ x, (port s k.val).tt = some x ∧ x.2 + 64000 ≤ s.tick;
      (¬ due → exec (.ttTimeout k) s = .next s) ∧
      (due → ∃ t, exec (.ttTimeout k) s = .next t ∧ (port t k.val).tt = none ∧ t.bit ECHO_STAT k.val ECHO_STAT_TTLOST = true ∧
        same t)) ∧
    (let may := s.fabricOn = true ∧ s.bit ECHO_CFG k.val ECHO_CFG_EN = true ∧ s.portUp k.val = false;
      (¬ may → ∀ held : Bool, exec (.portUp k held) s = .next s) ∧
      (may → exec (.portUp k false) s = .next (s.setFld ECHO_STAT k.val ECHO_STAT_LINK 1) ∧
        ∃ t, exec (.portUp k true) s = .next t ∧ t.fld ECHO_STAT k.val ECHO_STAT_LINK = 2 ∧ t.segBroken m (s.segOf k.val) = false ∧
          (s.portUp mate = true → puts t mate (.mend (s.segOf k.val) 255)) ∧ same t)) ∧
    ((s.fabricOn = false → exec (.portDown k) s = .next s) ∧
      (s.fabricOn = true → s.portUp k.val = false → exec (.portDown k) s = .next (s.setFld ECHO_STAT k.val ECHO_STAT_LINK 0)) ∧
      (s.portUp k.val = true → s.echoOk → ∃ t, exec (.portDown k) s = .next t ∧ (port t k.val).queue = [] ∧ t.time = s.time ∧
        ((∀ f ∈ (port s k.val).queue, f.own = none) → t.fld ECHO_STAT k.val ECHO_STAT_LINK = 0 ∧ t.mem = s.mem ∧
          t.bit ECHO_STAT k.val ECHO_STAT_DOWNEV = true ∧ t.segBroken m (s.segOf k.val) = true) ∧
        (s.portUp mate = true → puts t mate (.brk (s.segOf k.val) 255)))) ∧
    (let p := port s k.val
      let own := if p.slot < 8 then s.fld ECHO_CLSLO k.val (fldAt 4 p.slot) else s.fld ECHO_CLSHI k.val (fldAt 4 (p.slot - 8))
      let moved := s.modEp k.val fun p => { p with slot := (p.slot + 1) % 16 }
      let leaves (c : Nat) : Prop := ∀ f, p.queue.find? (·.cls == c) = some f → ∃ t, exec (.echoSlotTransmit k) s = .next t ∧
        puts t k.val (.frame f) ∧ (port t k.val).queue = p.queue.erase f ∧ (port t k.val).slot = (p.slot + 1) % 16 ∧
        (port t k.val).lend = (if c = own then p.lend else c) ∧ (f.own = none → same t ∧ t.regs = s.regs ∧ t.echo.sends = s.echo.sends);
      (s.fabricOn = false → exec (.echoSlotTransmit k) s = .next s) ∧
      (s.fabricOn = true → (s.portUp k.val = false ∨ p.queue = []) →
        exec (.echoSlotTransmit k) s = .next moved) ∧
      (s.portUp k.val = true → p.queue.any (·.cls == own) = true → leaves own) ∧
      (s.portUp k.val = true → p.queue.any (·.cls == own) = false →
        ∀ c, nextChamber p.lend (fun c => p.queue.any (·.cls == c)) = some c → leaves c)) ∧
    ((s.fabricOn = false ∨ ∀ x ∈ s.echo.sends, ∀ u ∈ x.units, ∀ d, u.due = some d → s.tick < d) → exec .ackTimeout s = .next s) ∧
    (∀ (x : ESend) (u : EUnit) (d : Nat), s.fabricOn = true → s.echo.sends = [x] → x.units = [u] → u.due = some d → d ≤ s.tick →
      x.result = none → x.event = none → u.unit < 16 → x.multi.open_ = 1#16 <<< u.unit → x.ring < 16384 →
      ∃ t, exec .ackTimeout s = .next t ∧ t.echo.sends = [] ∧
        t.fld GAL_RING_IDX x.ring GAL_RING_IDX_CONS = (x.eseq + 1) % 2 ^ 16)

/-- R115, R497 to R501, R504. -/
def Obligations.EthernetMacs : Prop :=
  ∀ s : State,
    (∀ (k : Fin 4) (l : List Byte) (ago : Nat),
      let run := exec (.ethFrameReceived k l ago) s
      let len := ¬ (l.length < 64 ∨ 1522 < l.length)
      let body := l.take (l.length - 4)
      let fcs := frWord l (l.length - 4) = (crc32 body).toNat
      let pause := s.bit ETH_CFG k.val ETH_CFG_RXPAUSE = true ∧ beNum (l.take 6) = 0x0180C2000001 ∧ beNum ((l.drop 12).take 4) = 0x88080001
      let q := s.rxQueue k body
      let n := s.fld ETH_RXQ (8 * k.val + q) ETH_RXQ_RING
      let e := s.ringEntry n
      let on := s.bit ETH_RXQ (8 * k.val + q) ETH_RXQ_EN = true ∧ s.ringRx n = true;
      (s.macUp k = false → run = .next s) ∧
      (s.macUp k = true →
        (¬ len → run = .next (s.count ETH_CNT k.val ETH_CNT_LEN)) ∧
        (len → ¬ fcs → run = .next (s.count ETH_CNT k.val ETH_CNT_FCS)) ∧
        (len → fcs → pause → run = .next (s.modMac k fun m =>
          { m with pause := some (s.tick, beNum ((l.drop 16).take 2) * (512 * 10 ^ (2 - min 2 (s.fld ETH_STAT k.val ETH_STAT_SPEED)))) })) ∧
        (len → fcs → ¬ pause → s.macAccepts k l = false → run = .next s) ∧
        (len → fcs → ¬ pause → s.macAccepts k l = true →
          (¬ on → run = .next (s.count ETH_CNT k.val ETH_CNT_RXDROP)) ∧
          (on → s.bit GAL_RING_CFG n GAL_RING_CFG_AUTO = false → s.ringDepth n < (framePieces e body).length + s.ringCount n →
            run = .next (s.count ETH_CNT k.val ETH_CNT_RXDROP)) ∧
          (on → body.length ≤ e - 16 → s.ringFull n = false → s.ringCount n + 1 ≤ s.ringDepth n → s.memOk →
            let prod := s.fld GAL_RING_IDX n GAL_RING_IDX_PROD
            let a := s.ringAddr n prod
            let at_ := s.stamp - ago - s.fld ETH_TSLAT k.val ETH_TSLAT_RXLAT;
            ∃ t, run = .next t ∧ t.fld GAL_RING_IDX n GAL_RING_IDX_PROD = (prod + 1) % 2 ^ 16 ∧
              memWord t.mem a = BitVec.ofNat 32 (body.length + q * 2 ^ 16 + b2n (ethTagged body) * 2 ^ 19) ∧
              memWord t.mem (a + 4) = BitVec.ofNat 32 (at_ / 256) ∧ s.memSame t a e ∧ t.time = s.time)))) ∧
    (∀ (k : Fin 4) (lead : Nat),
      let m := s.mac k
      let w := if m.slot < 8 then s.reg ETH_SLOTLO k.val else s.reg ETH_SLOTHI k.val
      let f := (fldAt 4 (m.slot % 8)).get w
      let lent := ((List.range 8).map fun i => (m.lend + 1 + i) % 8).find? fun q => s.ethHas k q
      let serves (q lend : Nat) : Prop :=
        let n := s.fld ETH_TXQ (8 * k.val + q) ETH_TXQ_RING
        let idx := (s.txRing n).next
        let passed (t : State) (cnt : Nat) : Prop := t.fld GAL_RING_IDX n GAL_RING_IDX_CONS = (t.txRing n).next ∧
          (0 < cnt → (t.txRing n).next = (idx + cnt) % 2 ^ 16)
        ∃ t, exec (.ethTransmit k lead) s = .next t ∧ (t.mac k).slot = (m.slot + 1) % 16 ∧ (t.mac k).lend = lend ∧ t.time = s.time ∧
          (s.ethHead k q = .stale → (t.txRing n).told = some idx) ∧
          (∀ st cnt, s.ethHead k q = .bad st cnt → passed t cnt ∧
            t.fld ETH_CNT k.val ETH_CNT_TXERR = (s.count ETH_CNT k.val ETH_CNT_TXERR).fld ETH_CNT k.val ETH_CNT_TXERR) ∧
          (∀ ts data cnt, s.ethHead k q = .frame ts data cnt → passed t cnt ∧ (t.mac k).line = ethLine data ∧
            (ts = false → t.mem = s.mem));
      ((s.macUp k = false ∨ s.macPaused k = true) → exec (.ethTransmit k lead) s = .next s) ∧
      (s.macUp k = true → s.macPaused k = false →
        (f / 8 = 1 → s.ethHas k (f % 8) = true → serves (f % 8) m.lend) ∧
        (¬ (f / 8 = 1 ∧ s.ethHas k (f % 8) = true) → (∀ q, lent = some q → serves q q) ∧
          (lent = none → exec (.ethTransmit k lead) s = .next (s.modMac k fun m => { m with slot := (m.slot + 1) % 16 }))))) ∧
    (∀ (k : Fin 4) (up : Bool) (v : BitVec 2),
      let on := s.fabricOn = true ∧ s.bit ETH_CFG k.val ETH_CFG_EN = true;
      (¬ on → exec (.ethLinkChange k up v) s = .next s) ∧
      (on → ∃ t, exec (.ethLinkChange k up v) s = .next t ∧ t.bit ETH_STAT k.val ETH_STAT_LINK = up ∧
        t.fld ETH_STAT k.val ETH_STAT_SPEED = v.toNat ∧ t.bit ETH_STAT k.val ETH_STAT_LINKEV =
          (s.bit ETH_STAT k.val ETH_STAT_LINKEV || s.bit ETH_STAT k.val ETH_STAT_LINK != up) ∧
        s.regsSame t [ETH_STAT.addr k.val] ∧ t = { s with regs := t.regs })) ∧
    (let busy := s.bit ETH_MDIO 0 ETH_MDIO_BUSY;
      (∀ (ag : Agent) (v : Word), s.accessStatus ag true (ETH_MDIO.addr 0) = stOK →
        (busy = true → exec (.mdioTransaction ag v) s = .next s) ∧
        (busy = false → exec (.mdioTransaction ag v) s = .next (s.setReg ETH_MDIO 0 ((v &&& 0x7FFCFFFF) ||| 0x80000000)))) ∧
      (∀ d : Half,
        let op := s.fld ETH_MDIO 0 ETH_MDIO_OP
        let read := op = 2 ∨ (op = 3 ∧ s.bit ETH_MDIO 0 ETH_MDIO_ST = false);
        (busy = false → exec (.mdioDone d) s = .next s) ∧
        (busy = true → ∃ t, exec (.mdioDone d) s = .next t ∧ t.bit ETH_MDIO 0 ETH_MDIO_BUSY = false ∧
          t.fld ETH_MDIO 0 ETH_MDIO_DATA = (if read then d.toNat else s.fld ETH_MDIO 0 ETH_MDIO_DATA) ∧
          t.fld ETH_MDIO 0 ETH_MDIO_OP = op ∧ s.regsSame t [ETH_MDIO.addr 0] ∧ t = { s with regs := t.regs })))

/-- R507, R511, R512, R514 to R518. -/
def Obligations.CanControllers : Prop :=
  ∀ (k : Fin 8) (s : State),
    let rx := s.canOn k = true ∧ s.canMode k ≠ 2 ∧ s.busOff k = false
    let rec_ (t : State) : Nat := t.fld CAN_ERR k.val CAN_ERR_REC
    let tec (t : State) : Nat := t.fld CAN_ERR k.val CAN_ERR_TEC
    let state (t : State) : Nat := t.fld CAN_ERR k.val CAN_ERR_STATE
    let confined (t : State) : Prop := state t = (if 127 < tec t ∨ 127 < rec_ t then 1 else 0) ∧
      (state t = 1 → state s = 0 → t.bit CAN_STAT k.val CAN_STAT_EPASS = true)
    let done (t : State) (b : Fin 3) (st : Nat) : Prop := t.reg CAN_TXB_RES (txbIdx k b) = CAN_TXB_RES_STATUS.put 0 st ∧
      bitN (t.fld CAN_STAT k.val CAN_STAT_TXDONE) b.val = true;
    (∀ (f : CanFrame) (ago : Nat),
      let run := exec (.canFrameReceived k f ago) s
      let good (t : State) : Prop := tec t = tec s ∧ confined t ∧ t.time = s.time ∧ (rec_ s ≤ 127 → rec_ t = rec_ s - 1) ∧
        (127 < rec_ s → 119 ≤ rec_ t ∧ rec_ t ≤ 127)
      let plus (t : State) (F : Fld) : Prop := t.fld CAN_CNT k.val F = (s.count CAN_CNT k.val F).fld CAN_CNT k.val F;
      (¬ rx → run = .next s) ∧
      (rx → (∀ j, j < 16 → s.canMatch k f j = false) → ∃ t, run = .next t ∧ good t ∧ plus t CAN_CNT_RXNOM ∧ t.mem = s.mem) ∧
      (∀ j, rx → j < 16 → s.canMatch k f j = true → (∀ i, i < j → s.canMatch k f i = false) →
        let n := s.fld CAN_FLTC (16 * k.val + j) CAN_FLTC_RING
        let len := canLen f.fdf f.rtr f.dlc.toNat
        let fits := s.ringRx n = true ∧ s.bit GAL_RING_CFG n GAL_RING_CFG_AUTO = false ∧ s.ringOwner n = s.ownerOf 0x12 k.val ∧
          s.ringFull n = false ∧ 16 + len ≤ s.ringEntry n
        let prod := s.fld GAL_RING_IDX n GAL_RING_IDX_PROD
        let a := s.ringAddr n prod;
        (¬ fits → ∃ t, run = .next t ∧ good t ∧ plus t CAN_CNT_RXDROP ∧ t.bit CAN_STAT k.val CAN_STAT_RXLOST = true ∧ t.mem = s.mem) ∧
        (fits → s.memOk → ∃ t, run = .next t ∧ good t ∧ t.bit CAN_STAT k.val CAN_STAT_RXAV = true ∧
          t.fld GAL_RING_IDX n GAL_RING_IDX_PROD = (prod + 1) % 2 ^ 16 ∧ memWord t.mem a =
            BitVec.ofNat 32 (b2n f.ide * 2 ^ 31 + b2n f.rtr * 2 ^ 30 + f.id.toNat) ∧ memWord t.mem (a + 8) = s.nsAgo ago ∧
          s.memSame t a (s.ringEntry n)))) ∧
    (∀ (code : Fin 7) (eight : Bool),
      let run := exec (.canReceiveError k code eight) s
      let res := code = 0 ∧ s.bit CAN_CFG k.val CAN_CFG_PEXEN = true;
      (¬ rx → run = .next s) ∧ (rx → res → run = .next (s.setBit CAN_STAT k.val CAN_STAT_PEX true)) ∧
      (rx → ¬ res → ∃ t, run = .next t ∧ rec_ t = min 255 (rec_ s + if eight then 8 else 1) ∧ tec t = tec s ∧ confined t ∧
        t.fld CAN_ERR k.val CAN_ERR_LEC = (if code = 0 then 2 else code.val) ∧
        s.regsSame t [CAN_ERR.addr k.val, CAN_STAT.addr k.val] ∧ t = { s with regs := t.regs })) ∧
    (∀ (ag : Agent) (b : Fin 3) (v : Word), s.accessStatus ag true (CAN_TXB_CTL.addr (txbIdx k b)) = stOK →
      let i := txbIdx k b
      let pend := s.txPend k b.val = true
      let wr := CAN_TXB_CTL_REQ.put (CAN_TXB_CTL_ABORT.put v 0) 1
      let wa := CAN_TXB_CTL_ABORT.put (CAN_TXB_CTL_REQ.put v 0) 1
      let fd := CAN_TXB_CTL_FDF.get wr = 1
      let bad := (fd ∧ bitN (s.reg CAN_TXB_ID i).toNat 30 = true) ∨ (¬ fd ∧ CAN_TXB_CTL_BRS.get wr = 1)
      let ctl (t : State) : Prop := t.reg CAN_TXB_CTL i = wr &&& 0xFC000000 ∧ t = { s with regs := t.regs } ∧
        s.regsSame t [CAN_TXB_CTL.addr i, CAN_TXB_RES.addr i, CAN_STAT.addr k.val]
      let ends (st : Nat) : Prop := ∃ t, exec (.canReq ag k b v) s = .next t ∧ ctl t ∧ done t b st;
      (pend → exec (.canReq ag k b v) s = .next (s.refuse ag stPERM 1 (CAN_TXB_CTL.addr i))) ∧
      (¬ pend → bad → ends stBAD_TARGET) ∧ (¬ pend → ¬ bad → s.canMode k = 1 → ends stPERM) ∧
      (¬ pend → ¬ bad → s.canMode k ≠ 1 → s.busOff k = true → ends stLINK_DOWN) ∧
      (¬ pend → ¬ bad → s.canMode k ≠ 1 → s.busOff k = false → ∃ t, exec (.canReq ag k b v) s = .next t ∧ ctl t ∧
        t.txPend k b.val = true) ∧
      (¬ pend → exec (.canAbort ag k b v) s = .next (s.setReg CAN_TXB_CTL i (wa &&& 0xFC000000))) ∧
      (∀ x, pend → (s.canc k).bus = some x → x.buf = b → exec (.canAbort ag k b v) s =
        .next (s.modCan k fun c => { c with bus := some { x with abort := true } })) ∧
      (pend → (∀ x, (s.canc k).bus = some x → x.buf ≠ b) → ∃ t, exec (.canAbort ag k b v) s = .next t ∧ done t b stABORTED ∧
        s.regsSame t [CAN_TXB_RES.addr i, CAN_STAT.addr k.val] ∧ t = { s with regs := t.regs })) ∧
    (let may := s.canOn k = true ∧ s.busOff k = false ∧ (s.canc k).bus = none;
      ((¬ may ∨ ∀ b, b < 3 → s.txPend k b = false) → exec (.txSelection k) s = .next s) ∧
      (may → (∃ b, b < 3 ∧ s.txPend k b = true) → ∃ b : Fin 3, s.txPend k b.val = true ∧
        exec (.txSelection k) s = .next (s.modCan k fun c => { c with bus := some { buf := b, abort := false, sof := s.nsLo } }) ∧
        ∀ a : Fin 3, s.txPend k a.val = true → (s.bit CAN_CFG k.val CAN_CFG_TXPRIO = true → b ≤ a) ∧
          (s.bit CAN_CFG k.val CAN_CFG_TXPRIO = false → s.arbKey k b.val ≤ s.arbKey k a.val ∧
            (s.arbKey k a.val = s.arbKey k b.val → b ≤ a)))) ∧
    (∀ how : CanEnd,
      (((s.canc k).bus = none ∨ s.canOn k = false) → exec (.canTxEnd k how) s = .next s) ∧
      (∀ x, (s.canc k).bus = some x → s.canOn k = true →
        (how = .success → ∃ t, exec (.canTxEnd k how) s = .next t ∧ done t x.buf stOK ∧ (t.canc k).bus = none ∧
          t.reg CAN_TXB_TS (txbIdx k x.buf) = x.sof ∧ tec t = tec s - 1 ∧ confined t) ∧
        (how = .lost → x.abort = false → exec (.canTxEnd k how) s = .next (s.modCan k fun c => { c with bus := none })) ∧
        (how = .lost → x.abort = true → ∃ t, exec (.canTxEnd k how) s = .next t ∧ done t x.buf stABORTED ∧ (t.canc k).bus = none ∧
          tec t = tec s) ∧
        (∀ (lec : Fin 7) (ex : Bool), how = .error lec ex →
          let n := tec s + if ex then 0 else 8;
          ∃ t, exec (.canTxEnd k how) s = .next t ∧ (t.canc k).bus = none ∧ tec t = min 255 n ∧ t.mem = s.mem ∧
            t.fld CAN_ERR k.val CAN_ERR_LEC = lec.val ∧ (n ≤ 255 → confined t) ∧
            (255 < n → state t = 2 ∧ t.bit CAN_STAT k.val CAN_STAT_BOFF = true ∧
              ∀ b : Fin 3, s.txPend k b.val = true → done t b stLINK_DOWN) ∧
            (n ≤ 255 → x.abort = true → s.txPend k x.buf.val = true → done t x.buf stABORTED)))) ∧
    (∀ (ag : Agent) (v : Word), s.accessStatus ag true (CAN_CTRL.addr k.val) = stOK →
      let asks := CAN_CTRL_RECOVER.get v = 1 ∧ s.busOff k = true;
      (asks → exec (.recover ag k v) s = .next (s.modCan k fun c => { c with recover := true })) ∧
      (¬ asks → exec (.recover ag k v) s = .next s)) ∧
    (let due := s.canOn k = true ∧ s.busOff k = true ∧ (s.bit CAN_CFG k.val CAN_CFG_AUTOREC = true ∨ (s.canc k).recover = true);
      (¬ due → exec (.busOffRecovery k) s = .next s) ∧
      (due → ∃ t, exec (.busOffRecovery k) s = .next t ∧ tec t = 0 ∧ rec_ t = 0 ∧ state t = 0 ∧ (t.canc k).recover = false ∧
        s.regsSame t [CAN_ERR.addr k.val] ∧ t = { s with regs := t.regs, can := t.can }))

/-- R521 to R530. -/
def Obligations.SerialAndPins : Prop :=
  ∀ s : State,
    (∀ k : Fin 4,
      let c := s.spic k
      let ovr (t : State) : Prop := t.bit SPI_STAT k.val SPI_STAT_OVR = true
      let stat (t : State) : Prop := s.regsSame t [SPI_STAT.addr k.val] ∧ t = { s with regs := t.regs, spi := t.spi };
      (∀ (ag : Agent) (v : Word), s.accessStatus ag true (SPI_TXD.addr k.val) = stOK →
        (16 ≤ c.tx.length → exec (.spiTxdWrite ag k v) s = .next (s.setBit SPI_STAT k.val SPI_STAT_OVR true)) ∧
        (c.tx.length < 16 → ∃ t, exec (.spiTxdWrite ag k v) s = .next t ∧ (t.spic k).tx = c.tx ++ [s.spiWord k v] ∧
          (t.spic k).rx = c.rx ∧ t.fld SPI_STAT k.val SPI_STAT_TXCNT = c.tx.length + 1 ∧ t.bit SPI_STAT k.val SPI_STAT_BUSY = true ∧
          (s.spiOn k = true → s.spiTgt k = false → (t.spic k).csLow = true) ∧ stat t)) ∧
      (∀ miso : Word,
        let on := s.spiOn k = true ∧ s.spiTgt k = false;
        ((c.tx = [] ∨ ¬ on) → exec (.spiWordDone k miso) s = .next s) ∧
        (∀ w rest, c.tx = w :: rest → on → ∃ t, exec (.spiWordDone k miso) s = .next t ∧ (t.spic k).tx = rest ∧ (t.spic k).sent = w ∧
          (c.rx.length < 16 → (t.spic k).rx = c.rx ++ [s.spiWord k miso]) ∧ (16 ≤ c.rx.length → (t.spic k).rx = c.rx ∧ ovr t) ∧
          (rest = [] → s.bit SPI_CFG k.val SPI_CFG_CSHOLD = false → (t.spic k).csLow = false) ∧ stat t))) ∧
    (let tgt := s.spiOn 0 = true ∧ s.spiTgt 0 = true
      let c := s.spic 0
      let terr (t : State) : Prop := t.bit SPI_STAT 0 SPI_STAT_TERR = true
      let same (t : State) : Prop := t.time = s.time ∧ t.gal = s.gal ∧ (t.spic 0).tx = c.tx ∧ (t.spic 0).frames = c.frames;
      (¬ tgt → exec .spiTargetStatus s = .next s ∧ (∀ b : Bool, exec (.spiCsRise b) s = .next s) ∧
        ∀ (off : BitVec 24) (d : List Byte) (n : Nat), exec (.spiTargetWrite off d) s = .next s ∧ exec (.spiTargetRead off n) s = .next s) ∧
      (tgt →
        (∀ (off : BitVec 24) (d : List Byte),
          let n := d.length / 4
          let a := s.fld SPI_TWIN 0 SPI_TWIN_BASE * 65536 + off.toNat
          let inside := ∀ j, j < n → s.spiWin (off.toNat + 4 * j) = some (a + 4 * j);
          ∃ t, exec (.spiTargetWrite off d) s = .next t ∧ same t ∧ (t.spic 0).wrote = true ∧
            (t.spic 0).partl = (n * 4 != d.length) ∧ ((∃ j, j < n ∧ s.spiWin (off.toNat + 4 * j) = none) → terr t) ∧
            (inside → s.memOk → s.memSame t a (4 * n) ∧
              ∀ j, j < n → memWord t.mem (a + 4 * j) = (packWords (d.take (n * 4)))[j]?.getD 0)) ∧
        (∀ (off : BitVec 24) (n : Nat), ∃ t, exec (.spiTargetRead off n) s = .next t ∧ same t ∧ t.mem = s.mem ∧
          (t.spic 0).reply.length = n ∧ ((∃ j, j < n ∧ s.spiWin (off.toNat + 4 * j) = none) → terr t) ∧
          (∀ j, j < n → (∀ a, s.spiWin (off.toNat + 4 * j) = some a →
              (t.spic 0).reply[j]? = some (if s.eccOf a = 2 then 0 else memWord s.mem a)) ∧
            (s.spiWin (off.toNat + 4 * j) = none → (t.spic 0).reply[j]? = some 0))) ∧
        (∃ t, exec .spiTargetStatus s = .next t ∧ same t ∧ t.mem = s.mem ∧ (t.spic 0).status =
          BitVec.ofNat 8 (b2n (s.bit SPI_STAT 0 SPI_STAT_TERR) * 128 + c.frames % 64)) ∧
        (∀ unknown : Bool, ∃ t, exec (.spiCsRise unknown) s = .next t ∧ (t.spic 0).frames = (c.frames + 1) % 64 ∧
          (t.spic 0).wrote = false ∧ (t.spic 0).partl = false ∧ s.regsSame t [SPI_STAT.addr 0] ∧
          t = { s with regs := t.regs, spi := t.spi } ∧
          t.bit SPI_STAT 0 SPI_STAT_TERR = (s.bit SPI_STAT 0 SPI_STAT_TERR || unknown || c.partl) ∧
          t.bit SPI_STAT 0 SPI_STAT_TWDONE = (s.bit SPI_STAT 0 SPI_STAT_TWDONE || (c.wrote && !unknown))))) ∧
    ((∀ (ag : Agent) (v : Word), s.accessStatus ag true (XSPI_CMD.addr 0) = stOK →
        let may := s.xspi.cmd = none ∧ s.bit XSPI_CFG 0 XSPI_CFG_EN = true;
        (¬ may → exec (.xspiCmd ag v) s = .next s) ∧
        (may → exec (.xspiCmd ag v) s =
          .next { s.setBit XSPI_STAT 0 XSPI_STAT_BUSY true with xspi := { s.xspi with cmd := some v } })) ∧
      (∀ (d : List Byte) (late : Bool),
        ((s.xspi.cmd = none ∨ s.fabricOn = false) → exec (.xspiDone d late) s = .next s) ∧
        (∀ v, s.xspi.cmd = some v → s.fabricOn = true → ∃ t, exec (.xspiDone d late) s = .next t ∧ t.xspi.cmd = none ∧
          t.bit XSPI_STAT 0 XSPI_STAT_BUSY = false ∧ t.bit XSPI_STAT 0 XSPI_STAT_DONE = true ∧
          t.fld XSPI_STAT 0 XSPI_STAT_STATUS = (if late then stTIMEOUT else stOK) ∧ s.regsSame t [XSPI_STAT.addr 0] ∧
          t = { s with regs := t.regs, xspi := t.xspi } ∧
          (let n := min 64 (XSPI_CMD_LEN.get v);
            t.xspi.fifo = if late then s.xspi.fifo else if XSPI_CMD_DIR.get v = 0
              then (s.xspi.fifo ++ packWords (d.take n)).take 16 else s.xspi.fifo.drop ((n + 3) / 4))))) ∧
    (∀ k : Fin 2,
      let c := s.uartc k
      let stat (t : State) : Prop := s.regsSame t [UART_STAT.addr k.val] ∧ t = { s with regs := t.regs, uart := t.uart };
      (∀ (ag : Agent) (v : Word), s.accessStatus ag true (UART_TXD.addr k.val) = stOK →
        (32 ≤ c.tx.length → exec (.uartTxdWrite ag k v) s = .next s) ∧
        (c.tx.length < 32 → ∃ t, exec (.uartTxdWrite ag k v) s = .next t ∧ (t.uartc k).tx = c.tx ++ [v.extractLsb' 0 8] ∧
          (t.uartc k).rx = c.rx ∧ t.fld UART_STAT k.val UART_STAT_TXCNT = c.tx.length + 1 ∧ stat t)) ∧
      (∀ (b : Byte) (fe pe brk : Bool),
        (s.uartOn k = false → exec (.uartRxByte k b fe pe brk) s = .next s) ∧
        (s.uartOn k = true → ∃ t, exec (.uartRxByte k b fe pe brk) s = .next t ∧ (t.uartc k).tx = c.tx ∧ stat t ∧
          (fe = true ∨ pe = true ∨ brk = true → t.bit UART_STAT k.val UART_STAT_ERR = true) ∧
          (32 ≤ c.rx.length → (t.uartc k).rx = c.rx ∧ t.bit UART_STAT k.val UART_STAT_OVR = true) ∧
          (c.rx.length < 32 → t.bit UART_STAT k.val UART_STAT_RXAV = true ∧ (t.uartc k).rx = c.rx ++
            [BitVec.ofNat 32 (b2n fe * 2 ^ 15 + b2n pe * 2 ^ 14 + b2n brk * 2 ^ 13 + (s.uartBits k b).toNat)]))) ∧
      ((c.tx = [] ∨ s.uartOn k = false) → exec (.uartTxByteDone k) s = .next s) ∧
      (∀ b rest, c.tx = b :: rest → s.uartOn k = true → ∃ t, exec (.uartTxByteDone k) s = .next t ∧ (t.uartc k).tx = rest ∧
        (t.uartc k).rx = c.rx ∧ stat t ∧ (rest = [] → t.bit UART_STAT k.val UART_STAT_TXE = true ∧
          t.bit UART_STAT k.val UART_STAT_TXBUSY = false))) ∧
    (∀ k : Fin 2,
      let busy := s.bit I2C_STAT k.val I2C_STAT_BUSY
      let ended (t : State) (F : Fld) (held : Bool) : Prop := t.i2cc k = { cmd := none, held := held } ∧
        t.bit I2C_STAT k.val I2C_STAT_BUSY = false ∧ t.bit I2C_STAT k.val F = true ∧ s.regsSame t [I2C_STAT.addr k.val] ∧
        t = { s with regs := t.regs, i2c := t.i2c };
      (∀ (ag : Agent) (v : Word), s.accessStatus ag true (I2C_CMD.addr k.val) = stOK →
        (busy = true → exec (.i2cCmd ag k v) s = .next (s.refuse ag stPERM 1 (I2C_CMD.addr k.val))) ∧
        (busy = false → s.bit I2C_CFG k.val I2C_CFG_EN = false → exec (.i2cCmd ag k v) s = .next s) ∧
        (busy = false → s.bit I2C_CFG k.val I2C_CFG_EN = true → exec (.i2cCmd ag k v) s =
          .next ((s.setBit I2C_STAT k.val I2C_STAT_BUSY true).modI2c k fun c => { c with cmd := some v }))) ∧
      (((s.i2cc k).cmd = none ∨ s.fabricOn = false) → exec (.i2cTimeout k) s = .next s ∧ ∀ how, exec (.i2cDone k how) s = .next s) ∧
      (∀ v, (s.i2cc k).cmd = some v → s.fabricOn = true →
        let held := decide (I2C_CMD_CLEAR.get v = 0 ∧ I2C_CMD_STOP.get v = 0);
        (∃ t, exec (.i2cTimeout k) s = .next t ∧ ended t I2C_STAT_TMO false) ∧
        (∀ r : Byte, ∃ t, exec (.i2cDone k (.done r)) s = .next t ∧ ended t I2C_STAT_DONE held ∧
          (I2C_CMD_RD.get v = 1 → t.fld I2C_STAT k.val I2C_STAT_RDATA = r.toNat)) ∧
        (∃ t, exec (.i2cDone k .nacked) s = .next t ∧ ended t I2C_STAT_NACKED held) ∧
        (∃ t, exec (.i2cDone k .arbLost) s = .next t ∧ ended t I2C_STAT_ARBLOST false))) ∧
    (∀ (ag : Agent) (v : Word),
      let mask : Word := BitVec.ofNat 32 (s.pinsOf (chamberOf s ag))
      let w := v &&& mask
      let mine := v &&& 0xFFFF &&& ~~~mask = 0
      let pins (i : Instr) (f : RegFam) (out : Word) : Prop := s.accessStatus ag true (f.addr 0) = stOK →
        let u : State := s.setPins w out;
        (mine → exec i s = .next u) ∧ (¬ mine → exec i s = .next (u.refuse ag stPERM 1 (f.addr 0)));
      pins (.gpioSet ag v) GPIO_SET w ∧ pins (.gpioClr ag v) GPIO_CLR 0 ∧
      (s.setPins w w).reg GPIO_OUT 0 = s.reg GPIO_OUT 0 ||| w ∧ (s.setPins w 0).reg GPIO_OUT 0 = s.reg GPIO_OUT 0 &&& ~~~w) ∧
    (∀ (n : Fin 16) (level : Bool) (held : Nat),
      let lv := if bitN (s.reg GPIO_DIR 0).toNat n.val then bitN (s.reg GPIO_OUT 0).toNat n.val else level
      let shows := s.fabricOn = true ∧ s.fld GPIO_FILT 0 GPIO_FILT_FILT ≤ held ∧ lv ≠ bitN (s.reg GPIO_IN 0).toNat n.val
      let sel := bitN (s.reg GPIO_EDGE 0).toNat (if lv then 16 + n.val else n.val);
      (¬ shows → exec (.gpioInputChange n level held) s = .next s) ∧
      (shows → ∃ t, exec (.gpioInputChange n level held) s = .next t ∧ bitN (t.reg GPIO_IN 0).toNat n.val = lv ∧
        (∀ j, j ≠ n.val → bitN (t.reg GPIO_IN 0).toNat j = bitN (s.reg GPIO_IN 0).toNat j) ∧
        (sel = true → bitN (t.reg GPIO_STAT 0).toNat n.val = true) ∧ (sel = false → t.reg GPIO_STAT 0 = s.reg GPIO_STAT 0) ∧
        s.regsSame t [GPIO_IN.addr 0, GPIO_STAT.addr 0] ∧ t = { s with regs := t.regs })) ∧
    (∀ n : Fin 16,
      let due := s.fabricOn = true ∧ ∃ x, s.pulse.find? (·.1 == n.val) = some x ∧ x.2 ≤ s.firing;
      (¬ due → exec (.pinPulseEnd n) s = .next s) ∧
      (due → ∃ t, exec (.pinPulseEnd n) s = .next t ∧ t.reg GPIO_OUT 0 = s.reg GPIO_OUT 0 &&& ~~~(1#32 <<< n.val) ∧
        t.pulse.find? (·.1 == n.val) = none ∧ s.regsSame t [GPIO_OUT.addr 0] ∧ t = { s with regs := t.regs, pulse := t.pulse }))

/-- R592 to R596, R611 to R617. -/
def Obligations.DripAndTap : Prop :=
  ∀ s : State,
    (∀ (k : Fin 6) (fails : List Nat),
      let run := exec (.dripSlice k fails) s
      let code := s.fld DRIP_LANE k.val DRIP_LANE_ARRAY
      let i := s.fld DRIP_LANE k.val DRIP_LANE_SLICE
      let count := (dripArray code i).1
      let base := (dripArray code i).2
      let wide := if code < 0x80 then 2 else 4
      let at_ := (vget s.boot.drip k).at_
      let per := s.dripPer
      let due := match at_ with
        | some t => t + per
        | none => 0
      let on := s.fabricOn = true ∧ s.boot.start = .up ∧ s.bit DRIP_CTRL 0 DRIP_CTRL_EN = true ∧
        bitN (s.fld DRIP_CTRL 0 DRIP_CTRL_LANEEN) k.val = true ∧ s.bit THERM_STAT 0 THERM_STAT_HALT = false ∧ due ≤ s.tick
      let flag (t : State) (n : Nat) : Prop := bitN (t.reg DRIP_STAT 0).toNat (n + k.val) = true
      let sound := ∀ j, j < 1024 / wide → s.eccOf (dripKey code (base + wide * j)) = 0
      let moved (t : State) : Prop := (vget t.boot.drip k).at_ = some s.tick ∧ t.time = s.time ∧ t.mem = s.mem ∧
        (i + 1 < count → t.fld DRIP_LANE k.val DRIP_LANE_SLICE = i + 1 ∧ t.fld DRIP_LANE k.val DRIP_LANE_ARRAY = code) ∧
        (count ≤ i + 1 → t.fld DRIP_LANE k.val DRIP_LANE_SLICE = 0 ∧ t.fld DRIP_LANE k.val DRIP_LANE_ARRAY = dripNext k.val code % 256)
      let lane (t : State) : Prop := s.regsSame t [DRIP_LANE.addr k.val, DRIP_PASST.addr k.val, DRIP_STAT.addr 0] ∧
        t = { s with regs := t.regs, boot := t.boot };
      (¬ on → run = .next s) ∧
      (on →
        (s.dripCell code = none → ∃ t, run = .next t ∧ moved t ∧ lane t) ∧
        (s.dripCell code = some false → s.treesOn = true → s.tick < due + per → run = .next s) ∧
        (s.dripCell code = some false → (s.treesOn = false ∨ due + per ≤ s.tick) → ∃ t, run = .next t ∧ moved t ∧ lane t ∧ flag t 16) ∧
        (s.dripCell code = some true → sound → (∀ j ∈ fails, 1024 / wide ≤ j) → ∃ t, run = .next t ∧ moved t ∧ lane t ∧
          (at_ ≠ none → due + per ≤ s.tick → flag t 24)) ∧
        (∀ j, s.dripCell code = some true → 0x80 ≤ code → sound → fails = [j] → j < 256 →
          let a := base + 4 * j;
          ∃ t, run = .next t ∧ moved t ∧ flag t 8 ∧ t.reg DRIP_ERRADDR 0 = BitVec.ofNat 32 a ∧
            t.reg DRIP_ERR 0 = DRIP_ERR_STATUS.put (DRIP_ERR_ARRAY.put 0 code) stECC ∧
            t.reg DRIP_ERRCNT 0 = (s.count DRIP_ERRCNT 0 DRIP_ERRCNT_COUNT).reg DRIP_ERRCNT 0 ∧
            t.fabLog = (s.refuse .drip stECC 0 a).fabLog))) ∧
    (exec .tapReset s = .next (s.modJtag fun t => { t with ir := .idcode, acc := none })) ∧
    (let tap := s.boot.tap
      let sel (i : Instr) (ir : TapIr) (d : BitVec 1254) : Prop := exec i s = .next (s.modJtag fun t => { t with ir := ir, dr := d });
      (s.tapOn = false → ∀ (balls : BitVec 418) (cells : BitVec 1254) (r : Bool) (a d : Word),
        ∀ i ∈ [Instr.extest balls cells, .idcode, .samplePreload balls cells, .clamp, .highz, .extestPulse balls cells,
            .extestTrain balls cells, .debug, .bypass, .dbgaccAccess r a d], exec i s = .next s) ∧
      (s.tapOn = true → sel .idcode .idcode 0x14896953 ∧ sel .bypass .bypass 0 ∧
        (tap.testen = false → sel .clamp .bypass 0 ∧ sel .highz .bypass 0 ∧
          (tap.acc = none → sel .debug .debug 0) ∧
          (∀ st d, tap.acc = some (st, d) → sel .debug .debug (BitVec.ofNat 1254 (2 ^ 65 + b2n (st != stOK) * 2 ^ 64 +
            st % 256 * 2 ^ 32 + (if st = stOK then d.toNat else 0))))) ∧
        (tap.testen = true → sel .clamp .clamp 0 ∧ sel .highz .highz 0 ∧ sel .debug .bypass 0) ∧
        (∀ (balls : BitVec 418) (cells : BitVec 1254),
          let scans (i : Instr) (ir : TapIr) : Prop := ∃ t, exec i s = .next t ∧ t.boot.tap.ir = ir ∧ t.boot.tap.upd = cells ∧
            (∀ p : Fin 418, t.boot.tap.dr.getLsbD (3 * p.val) = balls.getLsbD p.val ∧ t.scanDrive p =
              if ir ≠ .sample ∧ cells.getLsbD (3 * p.val + 2) = true then some (cells.getLsbD (3 * p.val + 1)) else none) ∧
            t = { s with boot := t.boot, freeCtr := s.freeCtr + 418 };
          scans (.samplePreload balls cells) .sample ∧
          (tap.testen = false → sel (.extest balls cells) .bypass 0 ∧ sel (.extestPulse balls cells) .bypass 0 ∧
            sel (.extestTrain balls cells) .bypass 0) ∧
          (tap.testen = true → scans (.extest balls cells) .extest ∧ scans (.extestPulse balls cells) .pulse ∧
            scans (.extestTrain balls cells) .train)))) ∧
    (∀ (rnw : Bool) (addr v : Word),
      let run := exec (.dbgaccAccess rnw addr v) s
      let a := addr.toNat
      let st := s.accessStatus .debug (!rnw) a
      let acc (t : State) (st : Nat) (d : Word) : State := t.modJtag fun x => { x with acc := some (st, d) }
      let failed (st : Nat) : State := acc (s.refuse .debug st (if rnw then 0 else 1) a) st 0
      let sram := 0x10000000 ≤ a ∧ a < 0x10800000 ∧ s.eccOf a = 0;
      ((s.tapOn = false ∨ s.boot.tap.ir ≠ .debug) → run = .next s) ∧
      (s.tapOn = true → s.boot.tap.ir = .debug →
        (a % 4 ≠ 0 → run = .next (failed stBAD_TARGET)) ∧
        (a % 4 = 0 → st ≠ stOK → run = .next (failed st)) ∧
        (a % 4 = 0 → st = stOK → rnw = true → (sram → run = .next (acc s stOK (memWord s.mem a))) ∧
          run = .next (acc (s.busRead .debug 4 0 a).1 (s.busRead .debug 4 0 a).2.1 (s.busRead .debug 4 0 a).2.2)) ∧
        (a % 4 = 0 → st = stOK → rnw = false → run = .next (acc (s.busWrite .debug 4 1 a v).1 (s.busWrite .debug 4 1 a v).2 0) ∧
          (sram → s.memOk → ∃ t, run = .next t ∧ memWord t.mem a = v ∧ s.memSame t a 4 ∧ t.regs = s.regs ∧
            t.boot.tap.acc = some (stOK, 0)))))

/-- R6, R10, R12, R13, R28, R34 to R36, R154, R413. -/
def Obligations.BusAccess : Prop :=
  ∀ s : State,
    (∀ (ag : Agent) (addr v : Word),
      let a := addr.toNat
      let w := Instr.registerWrite ag addr v
      let r := Instr.rcRead ag addr
      let stw := s.accessStatus ag true a
      let str := s.accessStatus ag false a;
      (s.fabricOn = false → exec w s = .next s ∧ exec r s = .next s) ∧
      (s.fabricOn = true →
        (stw ≠ stOK → exec w s = .next ((s.refuse ag stw 1 a).postBack ag stw a)) ∧
        (str ≠ stOK → exec r s = .next (s.refuse ag str 0 a)) ∧
        (targetAt ag a = .nothing → (stw = stOK → exec w s = .next s) ∧ (str = stOK → exec r s = .next s)) ∧
        (∀ f i, targetAt ag a = .reg f i → a % 4 = 0 →
          let key := f.key (agentId ag) i
          let old := smGet (f.reset i) s.regs key
          let apart := (∀ e ∈ f.flds, e.1.lo ≤ e.1.hi ∧ e.1.hi < 32) ∧
            f.flds.Pairwise fun x y => x.1.hi < y.1.lo ∨ y.1.hi < x.1.lo;
          (stw = stOK → (∀ e ∈ regHooks, e.1.base ≠ f.base) → (f.host = true → chamberOf s ag = 0) →
            (∀ e ∈ f.flds, e.2 ≠ .rws ∧ e.2 ≠ .st) → ∃ t, exec w s = .next t ∧
              t = { s with regs := smSet s.regs key (smGet 0 t.regs key) } ∧
              (apart → ∀ e ∈ f.flds, e.1.get (smGet 0 t.regs key) = match e.2 with
                | .rw => e.1.get v
                | .w1c => e.1.get (old &&& ~~~v)
                | _ => e.1.get old)) ∧
          (str = stOK → f.flds.any (·.2 == .rc) = true → (∀ g ∈ [SPI_RXD, XSPI_DATA, UART_RXD, TIME_NS_LO, FAB_ABORT_RES], g.base ≠ f.base) →
            ∃ t, exec r s = .next t ∧ t = { s with regs := smSet s.regs key (smGet 0 t.regs key) } ∧
              (apart → ∀ e ∈ f.flds, e.1.get (smGet 0 t.regs key) = if e.2 = .rc then 0 else e.1.get old))))) ∧
    (∀ (ag : Agent) (wr : Bool) (addr : Word),
      let run := exec (.transactionTimeout ag wr addr) s
      let logged := s.logTimeout ag wr addr.toNat
      let entry (level : Nat) : State := s.appendErr stTIMEOUT (chamberOf s ag) level (if wr then 1 else 0) (agentId ag) addr.toNat
      let away := 0x20000000 ≤ addr.toNat ∧ addr.toNat < 0x30000000
      let proc (p : Proc) : Prop := ag = (match p with | .cell c => .cell c | .col c => .col c | .grotto => .grotto) ∧ p ≠ .grotto;
      (¬ away → logged = entry 3) ∧
      (away → agentRegion ag = some ((addr.toNat - 0x20000000) / 0x04000000) → logged = entry 2) ∧
      (away → logged.fabLog = (entry 2).fabLog ∨ logged.fabLog = (entry 3).fabLog) ∧
      (s.fabricOn = false → run = .next s) ∧
      (s.fabricOn = true → ((∀ p, ¬ proc p) → run = .next logged) ∧
        (∀ p, proc p → (wr = true → run = .next (logged.postBack ag stTIMEOUT addr.toNat)) ∧
          (wr = false → s.canRun p = false → run = .next logged) ∧
          (wr = false → s.canRun p = true → run = .next (logged.trap p 0 (.access stTIMEOUT addr.toNat)))))) ∧
    (∀ unit : Nat,
      (s.reports.find? (·.unit == unit) = none → exec (.errorEscalation unit) s = .next s) ∧
      (∀ r, s.reports.find? (·.unit == unit) = some r →
        let due := r.level < 4 ∧ r.since + escalateAfter r.level ≤ s.tick
        let up : Report := { level := r.level + 1, unit := unit, since := s.tick };
        (¬ due → exec (.errorEscalation unit) s = .next s) ∧
        (due → r.level < 2 → exec (.errorEscalation unit) s =
          .next { s with reports := s.reports.map fun q => if q.unit = unit then up else q }) ∧
        (due → unit ≠ reportFab ∨ r.level ≠ 2 → ∃ t, exec (.errorEscalation unit) s = .next t ∧
          t.reports.find? (·.unit == unit) = some up ∧ t.time = s.time))) ∧
    (let clean (i : Instr) : Prop := exec i s = .next s
      let fixed (i : Instr) (key : Nat) : Prop := ∃ t, exec i s = .next t ∧ t.eccOf key = 0 ∧ t.eccCount = s.eccCount + 1 ∧
        (∀ b, eccWord b ≠ eccWord key → t.eccOf b = s.eccOf b) ∧ t = { s with ecc := t.ecc, eccCount := t.eccCount }
      let bad (i : Instr) (key : Nat) (tell : State → State) : Prop := ∃ t, exec i s = .next t ∧ t.eccOf key = 2 ∧ t.mem = s.mem ∧
        (∀ b, eccWord b ≠ eccWord key → t.eccOf b = s.eccOf b) ∧ t = tell { s with ecc := t.ecc }
      let scrubs (i : Ecc → Instr) (key : Nat) (tell : State → State) : Prop := (s.eccOf key = 0 → clean (i .clean)) ∧
        ((s.eccOf key = 0 ∨ s.eccOf key = 1) → fixed (i .single) key) ∧ (s.eccOf key = 1 → fixed (i .clean) key) ∧
        ((s.eccOf key = 0 ∨ s.eccOf key = 1) → bad (i .uncorrectable) key tell) ∧
        (s.eccOf key = 2 → ∀ e, bad (i e) key tell);
      (∀ (b : Fin 16) (bank : Fin 8) (line : BitVec 13),
        let key := blockBase b.val + 32 * line.toNat + 4 * bank.val;
        (s.treesOn = false → ∀ e, clean (.bankScrub b bank line e)) ∧
        (s.treesOn = true → scrubs (.bankScrub b bank line) key fun t => t.refuse (.blockCtl b) stECC 0 key)) ∧
      (∀ (arr : ScrubArray) (word : BitVec 21),
        let key := (scrubWord arr word.toNat).1
        let a := (scrubWord arr word.toNat).2
        let on := if arr = .grotto then s.grottoOn else s.fabricOn;
        (on = false → ∀ e, clean (.arrayScrub arr word e)) ∧
        (on = true → scrubs (.arrayScrub arr word) key fun t => if arr = .grotto then t.hardSto 0x9A
          else t.used.appendErr stECC t.free.toNat (levelOf a) 0 (t.free.toNat / 16) a))) ∧
    (∀ (ag : Agent) (v : Word) (k8 : Fin 8) (k4 : Fin 4) (k2 : Fin 2) (x : Fin 8) (c : Fin 5) (n : Fin 16384) (b : Fin 3),
      ∀ e ∈ [(Instr.fabErrPop ag v, FAB_ERR_POP.addr 0), (.canReq ag k8 b v, CAN_TXB_CTL.addr (txbIdx k8 b)),
          (.canAbort ag k8 b v, CAN_TXB_CTL.addr (txbIdx k8 b)), (.recover ag k8 v, CAN_CTRL.addr k8.val),
          (.mdioTransaction ag v, ETH_MDIO.addr 0), (.spiTxdWrite ag k4 v, SPI_TXD.addr k4.val), (.xspiCmd ag v, XSPI_CMD.addr 0),
          (.uartTxdWrite ag k2 v, UART_TXD.addr k2.val), (.i2cCmd ag k2 v, I2C_CMD.addr k2.val), (.gpioSet ag v, GPIO_SET.addr 0),
          (.gpioClr ag v, GPIO_CLR.addr 0), (.avsWriteVoltage ag k2 v, AVS_REQ.addr k2.val), (.serviceWrite ag v, THERM_CTRL.addr 0),
          (.colkick ag c v, SYSCTL_COLKICK.addr c.val), (.columnReset ag c, SYSCTL_COLCTL.addr c.val),
          (.doze ag, PWR_CTRL.addr 0), (.ssxCtrlStop ag x, SSX_CTRL.addr x.val), (.ringProdWrite ag n (v.setWidth 16), GAL_RING_IDX.addr n.val)],
        s.accessStatus ag true e.2 ≠ stOK → exec e.1 s = .next (s.refuse ag (s.accessStatus ag true e.2) 1 e.2))

/-- R38. -/
def Obligations.ErrorLogOverflow : Prop :=
  (∀ (s : State) (e : ErrEntry), 16 ≤ s.fabLog.length →
    let t := s.logErr e;
    t.fabLog = s.fabLog ∧ t.bit FAB_ERR_STAT 0 FAB_ERR_STAT_OVF = true ∧
    t.fld FAB_ERR_DROP 0 FAB_ERR_DROP_DROPPED = min (2 ^ 32 - 1) (s.fld FAB_ERR_DROP 0 FAB_ERR_DROP_DROPPED + 1) ∧
    s.regsSame t [FAB_ERR_STAT.addr 0, FAB_ERR_DROP.addr 0] ∧ t = { s with regs := t.regs }) ∧
  (∀ (ag : Agent) (v : Word) (s : State), s.accessStatus ag true (FAB_ERR_POP.addr 0) = stOK →
    ((FAB_ERR_POP_POP.get v ≠ 1 ∨ s.fabLog = []) → exec (.fabErrPop ag v) s = .next s) ∧
    (∀ h rest, FAB_ERR_POP_POP.get v = 1 → s.fabLog = h :: rest → rest.length < 16 → ∃ t, exec (.fabErrPop ag v) s = .next t ∧
      t.fabLog = rest ∧ t = { s with fabLog := rest, reports := t.reports } ∧ ∀ e, (t.logErr e).fabLog = rest ++ [e]))
end

