-- ==== Sys2Proof/Laws/Exec.lean ====
section
/-! SUPPORT. Laws of the dispatch: which meaning each command has. A proof about a command cites its line here instead of
unfolding the whole of `exec`. -/

namespace Sys2Proof.Machine

section
variable (s : State)
theorem exec_registerWrite (ag : Agent) (addr : Word) (v : Word) : exec (.registerWrite ag addr v) s = execRegisterWrite ag addr v s := rfl
theorem exec_rcRead (ag : Agent) (addr : Word) : exec (.rcRead ag addr) s = execRcRead ag addr s := rfl
theorem exec_transactionTimeout (ag : Agent) (write : Bool) (addr : Word) : exec (.transactionTimeout ag write addr) s = execTransactionTimeout ag write addr s := rfl
theorem exec_errorEscalation (unit : Nat) : exec (.errorEscalation unit) s = execErrorEscalation unit s := rfl
theorem exec_fabErrPop (ag : Agent) (v : Word) : exec (.fabErrPop ag v) s = execFabErrPop ag v s := rfl
theorem exec_bankScrub (b : Fin 16) (bank : Fin 8) (line : BitVec 13) (found : Ecc) : exec (.bankScrub b bank line found) s = execBankScrub b bank line found s := rfl
theorem exec_arrayScrub (arr : ScrubArray) (word : BitVec 21) (found : Ecc) : exec (.arrayScrub arr word found) s = execArrayScrub arr word found s := rfl
theorem exec_timeAdvance  : exec (.timeAdvance) s = execTimeAdvance s := rfl
theorem exec_timeNsLoRead (ag : Agent) : exec (.timeNsLoRead ag) s = execTimeNsLoRead ag s := rfl
theorem exec_timeIncIntWrite (ag : Agent) (v : Word) : exec (.timeIncIntWrite ag v) s = execTimeIncIntWrite ag v s := rfl
theorem exec_timeIncFracWrite (ag : Agent) (v : Word) : exec (.timeIncFracWrite ag v) s = execTimeIncFracWrite ag v s := rfl
theorem exec_step (ag : Agent) (v : Word) : exec (.step ag v) s = execStep ag v s := rfl
theorem exec_timeSlewWrite (ag : Agent) (v : Word) : exec (.timeSlewWrite ag v) s = execTimeSlewWrite ag v s := rfl
theorem exec_srcChange (ag : Agent) (v : Word) : exec (.srcChange ag v) s = execSrcChange ag v s := rfl
theorem exec_timeOfsInWrite (ag : Agent) (v : Word) : exec (.timeOfsInWrite ag v) s = execTimeOfsInWrite ag v s := rfl
theorem exec_ppsEdge (pin : Fin 16) (rising : Bool) : exec (.ppsEdge pin rising) s = execPpsEdge pin rising s := rfl
theorem exec_sourceLost  : exec (.sourceLost) s = execSourceLost s := rfl
theorem exec_holdoverErrbUpdate  : exec (.holdoverErrbUpdate) s = execHoldoverErrbUpdate s := rfl
theorem exec_rateCheck (refCycles : Nat) : exec (.rateCheck refCycles) s = execRateCheck refCycles s := rfl
theorem exec_trackerEnable (ag : Agent) (x : Fin 8) (v : Word) : exec (.trackerEnable ag x v) s = execTrackerEnable ag x v s := rfl
theorem exec_trackerUpdate  : exec (.trackerUpdate) s = execTrackerUpdate s := rfl
theorem exec_sourceFault (x : Fin 8) (src : Fin 2) : exec (.sourceFault x src) s = execSourceFault x src s := rfl
theorem exec_trackerFault (x : Fin 8) : exec (.trackerFault x) s = execTrackerFault x s := rfl
theorem exec_angleSet (ag : Agent) (x : Fin 8) (rev : Half) : exec (.angleSet ag x rev) s = execAngleSet ag x rev s := rfl
theorem exec_angCmdPri (ag : Agent) (x : Fin 8) : exec (.angCmdPri ag x) s = execAngCmdPri ag x s := rfl
theorem exec_angObsWrite (ag : Agent) (x : Fin 8) (v : Word) : exec (.angObsWrite ag x v) s = execAngObsWrite ag x v s := rfl
theorem exec_modeChange (ag : Agent) (x : Fin 8) (mode : BitVec 2) : exec (.modeChange ag x mode) s = execModeChange ag x mode s := rfl
theorem exec_submission (ag : Agent) (v : Word) : exec (.submission ag v) s = execSubmission ag v s := rfl
theorem exec_submissionDecision  : exec (.submissionDecision) s = execSubmissionDecision s := rfl
theorem exec_galCancel (ag : Agent) (v : Word) : exec (.galCancel ag v) s = execGalCancel ag v s := rfl
theorem exec_galQuotaWrite (ag : Agent) (c : Fin 16) (v : Word) : exec (.galQuotaWrite ag c v) s = execGalQuotaWrite ag c v s := rfl
theorem exec_timeEventCommit (n : Fin 49152) : exec (.timeEventCommit n) s = execTimeEventCommit n s := rfl
theorem exec_eventIssue (e : Fin 4) : exec (.eventIssue e) s = execEventIssue e s := rfl
theorem exec_nopAction (e : Fin 4) : exec (.nopAction e) s = execNopAction e s := rfl
theorem exec_cellEvent (e : Fin 4) : exec (.cellEvent e) s = execCellEvent e s := rfl
theorem exec_pwmEdge (e : Fin 4) : exec (.pwmEdge e) s = execPwmEdge e s := rfl
theorem exec_pwmLoadall (e : Fin 4) : exec (.pwmLoadall e) s = execPwmLoadall e s := rfl
theorem exec_adcTrigger (e : Fin 4) : exec (.adcTrigger e) s = execAdcTrigger e s := rfl
theorem exec_pin (e : Fin 4) : exec (.pin e) s = execPin e s := rfl
theorem exec_ringPush (e : Fin 4) : exec (.ringPush e) s = execRingPush e s := rfl
theorem exec_echoSend (e : Fin 4) : exec (.echoSend e) s = execEchoSend e s := rfl
theorem exec_columnIrq (e : Fin 4) : exec (.columnIrq e) s = execColumnIrq e s := rfl
theorem exec_safeCheck (e : Fin 4) : exec (.safeCheck e) s = execSafeCheck e s := rfl
theorem exec_holdRetry (e : Fin 4) : exec (.holdRetry e) s = execHoldRetry e s := rfl
theorem exec_holdTimeout (e : Fin 4) : exec (.holdTimeout e) s = execHoldTimeout e s := rfl
theorem exec_ringEnable (ag : Agent) (n : Fin 16384) (v : Word) : exec (.ringEnable ag n v) s = execRingEnable ag n v s := rfl
theorem exec_ringDisable (ag : Agent) (n : Fin 16384) (v : Word) : exec (.ringDisable ag n v) s = execRingDisable ag n v s := rfl
theorem exec_ringConsWrite (ag : Agent) (n : Fin 16384) (cons : Half) : exec (.ringConsWrite ag n cons) s = execRingConsWrite ag n cons s := rfl
theorem exec_ringProdWrite (ag : Agent) (n : Fin 16384) (prod : Half) : exec (.ringProdWrite ag n prod) s = execRingProdWrite ag n prod s := rfl
theorem exec_add (p : Proc) (gd : BitVec 3) (rd : BitVec 5) (ra : BitVec 5) (rb : BitVec 5) : exec (.add p gd rd ra rb) s = execAdd p gd rd ra rb s := rfl
theorem exec_sub (p : Proc) (gd : BitVec 3) (rd : BitVec 5) (ra : BitVec 5) (rb : BitVec 5) : exec (.sub p gd rd ra rb) s = execSub p gd rd ra rb s := rfl
theorem exec_addw (p : Proc) (gd : BitVec 3) (rd : BitVec 5) (ra : BitVec 5) (rb : BitVec 5) : exec (.addw p gd rd ra rb) s = execAddw p gd rd ra rb s := rfl
theorem exec_subw (p : Proc) (gd : BitVec 3) (rd : BitVec 5) (ra : BitVec 5) (rb : BitVec 5) : exec (.subw p gd rd ra rb) s = execSubw p gd rd ra rb s := rfl
theorem exec_and (p : Proc) (gd : BitVec 3) (rd : BitVec 5) (ra : BitVec 5) (rb : BitVec 5) : exec (.and p gd rd ra rb) s = execAnd p gd rd ra rb s := rfl
theorem exec_or (p : Proc) (gd : BitVec 3) (rd : BitVec 5) (ra : BitVec 5) (rb : BitVec 5) : exec (.or p gd rd ra rb) s = execOr p gd rd ra rb s := rfl
theorem exec_xor (p : Proc) (gd : BitVec 3) (rd : BitVec 5) (ra : BitVec 5) (rb : BitVec 5) : exec (.xor p gd rd ra rb) s = execXor p gd rd ra rb s := rfl
theorem exec_andn (p : Proc) (gd : BitVec 3) (rd : BitVec 5) (ra : BitVec 5) (rb : BitVec 5) : exec (.andn p gd rd ra rb) s = execAndn p gd rd ra rb s := rfl
theorem exec_shl (p : Proc) (gd : BitVec 3) (rd : BitVec 5) (ra : BitVec 5) (rb : BitVec 5) : exec (.shl p gd rd ra rb) s = execShl p gd rd ra rb s := rfl
theorem exec_shr (p : Proc) (gd : BitVec 3) (rd : BitVec 5) (ra : BitVec 5) (rb : BitVec 5) : exec (.shr p gd rd ra rb) s = execShr p gd rd ra rb s := rfl
theorem exec_sra (p : Proc) (gd : BitVec 3) (rd : BitVec 5) (ra : BitVec 5) (rb : BitVec 5) : exec (.sra p gd rd ra rb) s = execSra p gd rd ra rb s := rfl
theorem exec_shls (p : Proc) (gd : BitVec 3) (rd : BitVec 5) (ra : BitVec 5) (rb : BitVec 5) : exec (.shls p gd rd ra rb) s = execShls p gd rd ra rb s := rfl
theorem exec_min (p : Proc) (gd : BitVec 3) (rd : BitVec 5) (ra : BitVec 5) (rb : BitVec 5) : exec (.min p gd rd ra rb) s = execMin p gd rd ra rb s := rfl
theorem exec_max (p : Proc) (gd : BitVec 3) (rd : BitVec 5) (ra : BitVec 5) (rb : BitVec 5) : exec (.max p gd rd ra rb) s = execMax p gd rd ra rb s := rfl
theorem exec_minu (p : Proc) (gd : BitVec 3) (rd : BitVec 5) (ra : BitVec 5) (rb : BitVec 5) : exec (.minu p gd rd ra rb) s = execMinu p gd rd ra rb s := rfl
theorem exec_maxu (p : Proc) (gd : BitVec 3) (rd : BitVec 5) (ra : BitVec 5) (rb : BitVec 5) : exec (.maxu p gd rd ra rb) s = execMaxu p gd rd ra rb s := rfl
theorem exec_neg (p : Proc) (gd : BitVec 3) (rd : BitVec 5) (ra : BitVec 5) (rb : BitVec 5) : exec (.neg p gd rd ra rb) s = execNeg p gd rd ra rb s := rfl
theorem exec_abs (p : Proc) (gd : BitVec 3) (rd : BitVec 5) (ra : BitVec 5) (rb : BitVec 5) : exec (.abs p gd rd ra rb) s = execAbs p gd rd ra rb s := rfl
theorem exec_clip (p : Proc) (gd : BitVec 3) (rd : BitVec 5) (ra : BitVec 5) (rb : BitVec 5) : exec (.clip p gd rd ra rb) s = execClip p gd rd ra rb s := rfl
theorem exec_cls (p : Proc) (gd : BitVec 3) (rd : BitVec 5) (ra : BitVec 5) (rb : BitVec 5) : exec (.cls p gd rd ra rb) s = execCls p gd rd ra rb s := rfl
theorem exec_clz (p : Proc) (gd : BitVec 3) (rd : BitVec 5) (ra : BitVec 5) (rb : BitVec 5) : exec (.clz p gd rd ra rb) s = execClz p gd rd ra rb s := rfl
theorem exec_mov (p : Proc) (gd : BitVec 3) (rd : BitVec 5) (ra : BitVec 5) (rb : BitVec 5) : exec (.mov p gd rd ra rb) s = execMov p gd rd ra rb s := rfl
theorem exec_avg (p : Proc) (gd : BitVec 3) (rd : BitVec 5) (ra : BitVec 5) (rb : BitVec 5) : exec (.avg p gd rd ra rb) s = execAvg p gd rd ra rb s := rfl
theorem exec_ror (p : Proc) (gd : BitVec 3) (rd : BitVec 5) (ra : BitVec 5) (rb : BitVec 5) : exec (.ror p gd rd ra rb) s = execRor p gd rd ra rb s := rfl
theorem exec_addi (p : Proc) (gd : BitVec 3) (rd : BitVec 5) (ra : BitVec 5) (imm : BitVec 13) : exec (.addi p gd rd ra imm) s = execAddi p gd rd ra imm s := rfl
theorem exec_andi (p : Proc) (gd : BitVec 3) (rd : BitVec 5) (ra : BitVec 5) (imm : BitVec 13) : exec (.andi p gd rd ra imm) s = execAndi p gd rd ra imm s := rfl
theorem exec_ori (p : Proc) (gd : BitVec 3) (rd : BitVec 5) (ra : BitVec 5) (imm : BitVec 13) : exec (.ori p gd rd ra imm) s = execOri p gd rd ra imm s := rfl
theorem exec_xori (p : Proc) (gd : BitVec 3) (rd : BitVec 5) (ra : BitVec 5) (imm : BitVec 13) : exec (.xori p gd rd ra imm) s = execXori p gd rd ra imm s := rfl
theorem exec_shiShl (p : Proc) (gd : BitVec 3) (rd : BitVec 5) (ra : BitVec 5) (imm : BitVec 10) : exec (.shiShl p gd rd ra imm) s = execShiShl p gd rd ra imm s := rfl
theorem exec_shiShr (p : Proc) (gd : BitVec 3) (rd : BitVec 5) (ra : BitVec 5) (imm : BitVec 10) : exec (.shiShr p gd rd ra imm) s = execShiShr p gd rd ra imm s := rfl
theorem exec_shiSra (p : Proc) (gd : BitVec 3) (rd : BitVec 5) (ra : BitVec 5) (imm : BitVec 10) : exec (.shiSra p gd rd ra imm) s = execShiSra p gd rd ra imm s := rfl
theorem exec_shiShls (p : Proc) (gd : BitVec 3) (rd : BitVec 5) (ra : BitVec 5) (imm : BitVec 10) : exec (.shiShls p gd rd ra imm) s = execShiShls p gd rd ra imm s := rfl
theorem exec_shiRor (p : Proc) (gd : BitVec 3) (rd : BitVec 5) (ra : BitVec 5) (imm : BitVec 10) : exec (.shiRor p gd rd ra imm) s = execShiRor p gd rd ra imm s := rfl
theorem exec_li (p : Proc) (gd : BitVec 3) (rd : BitVec 5) (imm : BitVec 18) : exec (.li p gd rd imm) s = execLi p gd rd imm s := rfl
theorem exec_lih (p : Proc) (gd : BitVec 3) (rd : BitVec 5) (imm : BitVec 18) : exec (.lih p gd rd imm) s = execLih p gd rd imm s := rfl
theorem exec_extu (p : Proc) (gd : BitVec 3) (rd : BitVec 5) (ra : BitVec 5) (pos : BitVec 5) (len1 : BitVec 5) : exec (.extu p gd rd ra pos len1) s = execExtu p gd rd ra pos len1 s := rfl
theorem exec_exts (p : Proc) (gd : BitVec 3) (rd : BitVec 5) (ra : BitVec 5) (pos : BitVec 5) (len1 : BitVec 5) : exec (.exts p gd rd ra pos len1) s = execExts p gd rd ra pos len1 s := rfl
theorem exec_ins (p : Proc) (gd : BitVec 3) (rd : BitVec 5) (ra : BitVec 5) (pos : BitVec 5) (len1 : BitVec 5) : exec (.ins p gd rd ra pos len1) s = execIns p gd rd ra pos len1 s := rfl
theorem exec_cmp (p : Proc) (gd : BitVec 3) (pd : BitVec 2) (cond : BitVec 3) (ra : BitVec 5) (rb : BitVec 5) (fn : BitVec 8) : exec (.cmp p gd pd cond ra rb fn) s = execCmp p gd pd cond ra rb fn s := rfl
theorem exec_cmpi (p : Proc) (gd : BitVec 3) (pd : BitVec 2) (cond : BitVec 3) (ra : BitVec 5) (imm : BitVec 13) : exec (.cmpi p gd pd cond ra imm) s = execCmpi p gd pd cond ra imm s := rfl
theorem exec_plog (p : Proc) (gd : BitVec 3) (pd : BitVec 2) (pa : BitVec 2) (pb : BitVec 2) (op2 : BitVec 3) : exec (.plog p gd pd pa pb op2) s = execPlog p gd pd pa pb op2 s := rfl
theorem exec_mull (p : Proc) (gd : BitVec 3) (rd : BitVec 5) (ra : BitVec 5) (rb : BitVec 5) : exec (.mull p gd rd ra rb) s = execMull p gd rd ra rb s := rfl
theorem exec_mulh (p : Proc) (gd : BitVec 3) (rd : BitVec 5) (ra : BitVec 5) (rb : BitVec 5) : exec (.mulh p gd rd ra rb) s = execMulh p gd rd ra rb s := rfl
theorem exec_mulhu (p : Proc) (gd : BitVec 3) (rd : BitVec 5) (ra : BitVec 5) (rb : BitVec 5) : exec (.mulhu p gd rd ra rb) s = execMulhu p gd rd ra rb s := rfl
theorem exec_mulf (p : Proc) (gd : BitVec 3) (rd : BitVec 5) (ra : BitVec 5) (rb : BitVec 5) : exec (.mulf p gd rd ra rb) s = execMulf p gd rd ra rb s := rfl
theorem exec_mulw (p : Proc) (gd : BitVec 3) (rd : BitVec 5) (ra : BitVec 5) (rb : BitVec 5) : exec (.mulw p gd rd ra rb) s = execMulw p gd rd ra rb s := rfl
theorem exec_mac (p : Proc) (gd : BitVec 3) (aa : BitVec 2) (ab : BitVec 2) (ra : BitVec 5) (rb : BitVec 5) : exec (.mac p gd aa ab ra rb) s = execMac p gd aa ab ra rb s := rfl
theorem exec_msu (p : Proc) (gd : BitVec 3) (aa : BitVec 2) (ab : BitVec 2) (ra : BitVec 5) (rb : BitVec 5) : exec (.msu p gd aa ab ra rb) s = execMsu p gd aa ab ra rb s := rfl
theorem exec_mpy (p : Proc) (gd : BitVec 3) (aa : BitVec 2) (ab : BitVec 2) (ra : BitVec 5) (rb : BitVec 5) : exec (.mpy p gd aa ab ra rb) s = execMpy p gd aa ab ra rb s := rfl
theorem exec_maci (p : Proc) (gd : BitVec 3) (aa : BitVec 2) (ab : BitVec 2) (ra : BitVec 5) (rb : BitVec 5) : exec (.maci p gd aa ab ra rb) s = execMaci p gd aa ab ra rb s := rfl
theorem exec_mac2 (p : Proc) (gd : BitVec 3) (aa : BitVec 2) (ab : BitVec 2) (ra : BitVec 5) (rb : BitVec 5) : exec (.mac2 p gd aa ab ra rb) s = execMac2 p gd aa ab ra rb s := rfl
theorem exec_macd (p : Proc) (gd : BitVec 3) (aa : BitVec 2) (ab : BitVec 2) (ra : BitVec 5) (rb : BitVec 5) : exec (.macd p gd aa ab ra rb) s = execMacd p gd aa ab ra rb s := rfl
theorem exec_macx (p : Proc) (gd : BitVec 3) (aa : BitVec 2) (ab : BitVec 2) (ra : BitVec 5) (rb : BitVec 5) : exec (.macx p gd aa ab ra rb) s = execMacx p gd aa ab ra rb s := rfl
theorem exec_mpyd (p : Proc) (gd : BitVec 3) (aa : BitVec 2) (ab : BitVec 2) (ra : BitVec 5) (rb : BitVec 5) : exec (.mpyd p gd aa ab ra rb) s = execMpyd p gd aa ab ra rb s := rfl
theorem exec_mpyx (p : Proc) (gd : BitVec 3) (aa : BitVec 2) (ab : BitVec 2) (ra : BitVec 5) (rb : BitVec 5) : exec (.mpyx p gd aa ab ra rb) s = execMpyx p gd aa ab ra rb s := rfl
theorem exec_clra (p : Proc) (gd : BitVec 3) (aa : BitVec 2) (ab : BitVec 2) (ra : BitVec 5) (rb : BitVec 5) : exec (.clra p gd aa ab ra rb) s = execClra p gd aa ab ra rb s := rfl
theorem exec_ldah (p : Proc) (gd : BitVec 3) (aa : BitVec 2) (ab : BitVec 2) (ra : BitVec 5) (rb : BitVec 5) : exec (.ldah p gd aa ab ra rb) s = execLdah p gd aa ab ra rb s := rfl
theorem exec_ldaw (p : Proc) (gd : BitVec 3) (aa : BitVec 2) (ab : BitVec 2) (ra : BitVec 5) (rb : BitVec 5) : exec (.ldaw p gd aa ab ra rb) s = execLdaw p gd aa ab ra rb s := rfl
theorem exec_rdah (p : Proc) (gd : BitVec 3) (aa : BitVec 2) (ab : BitVec 2) (ra : BitVec 5) (rb : BitVec 5) : exec (.rdah p gd aa ab ra rb) s = execRdah p gd aa ab ra rb s := rfl
theorem exec_rdaw (p : Proc) (gd : BitVec 3) (aa : BitVec 2) (ab : BitVec 2) (ra : BitVec 5) (rb : BitVec 5) : exec (.rdaw p gd aa ab ra rb) s = execRdaw p gd aa ab ra rb s := rfl
theorem exec_sha (p : Proc) (gd : BitVec 3) (aa : BitVec 2) (ab : BitVec 2) (ra : BitVec 5) (rb : BitVec 5) : exec (.sha p gd aa ab ra rb) s = execSha p gd aa ab ra rb s := rfl
theorem exec_adda (p : Proc) (gd : BitVec 3) (aa : BitVec 2) (ab : BitVec 2) (ra : BitVec 5) (rb : BitVec 5) : exec (.adda p gd aa ab ra rb) s = execAdda p gd aa ab ra rb s := rfl
theorem exec_suba (p : Proc) (gd : BitVec 3) (aa : BitVec 2) (ab : BitVec 2) (ra : BitVec 5) (rb : BitVec 5) : exec (.suba p gd aa ab ra rb) s = execSuba p gd aa ab ra rb s := rfl
theorem exec_nega (p : Proc) (gd : BitVec 3) (aa : BitVec 2) (ab : BitVec 2) (ra : BitVec 5) (rb : BitVec 5) : exec (.nega p gd aa ab ra rb) s = execNega p gd aa ab ra rb s := rfl
theorem exec_mova (p : Proc) (gd : BitVec 3) (aa : BitVec 2) (ab : BitVec 2) (ra : BitVec 5) (rb : BitVec 5) : exec (.mova p gd aa ab ra rb) s = execMova p gd aa ab ra rb s := rfl
theorem exec_div (p : Proc) (gd : BitVec 3) (rd : BitVec 5) (ra : BitVec 5) (rb : BitVec 5) : exec (.div p gd rd ra rb) s = execDiv p gd rd ra rb s := rfl
theorem exec_divu (p : Proc) (gd : BitVec 3) (rd : BitVec 5) (ra : BitVec 5) (rb : BitVec 5) : exec (.divu p gd rd ra rb) s = execDivu p gd rd ra rb s := rfl
theorem exec_rem (p : Proc) (gd : BitVec 3) (rd : BitVec 5) (ra : BitVec 5) (rb : BitVec 5) : exec (.rem p gd rd ra rb) s = execRem p gd rd ra rb s := rfl
theorem exec_remu (p : Proc) (gd : BitVec 3) (rd : BitVec 5) (ra : BitVec 5) (rb : BitVec 5) : exec (.remu p gd rd ra rb) s = execRemu p gd rd ra rb s := rfl
theorem exec_divf (p : Proc) (gd : BitVec 3) (rd : BitVec 5) (ra : BitVec 5) (rb : BitVec 5) : exec (.divf p gd rd ra rb) s = execDivf p gd rd ra rb s := rfl
theorem exec_ld (p : Proc) (gd : BitVec 3) (rd : BitVec 5) (ra : BitVec 5) (wd : BitVec 2) (imm : BitVec 11) : exec (.ld p gd rd ra wd imm) s = execLd p gd rd ra wd imm s := rfl
theorem exec_ldu (p : Proc) (gd : BitVec 3) (rd : BitVec 5) (ra : BitVec 5) (wd : BitVec 2) (imm : BitVec 11) : exec (.ldu p gd rd ra wd imm) s = execLdu p gd rd ra wd imm s := rfl
theorem exec_st (p : Proc) (gd : BitVec 3) (rd : BitVec 5) (ra : BitVec 5) (wd : BitVec 2) (imm : BitVec 11) : exec (.st p gd rd ra wd imm) s = execSt p gd rd ra wd imm s := rfl
theorem exec_ldstxLoad (p : Proc) (gd : BitVec 3) (rd : BitVec 5) (ra : BitVec 5) (wd : BitVec 2) (md : BitVec 2) (imm : BitVec 8) : exec (.ldstxLoad p gd rd ra wd md imm) s = execLdstxLoad p gd rd ra wd md imm s := rfl
theorem exec_ldstxStore (p : Proc) (gd : BitVec 3) (rd : BitVec 5) (ra : BitVec 5) (wd : BitVec 2) (md : BitVec 2) (imm : BitVec 8) : exec (.ldstxStore p gd rd ra wd md imm) s = execLdstxStore p gd rd ra wd md imm s := rfl
theorem exec_writeBufferDrain (c : Fin 128) : exec (.writeBufferDrain c) s = execWriteBufferDrain c s := rfl
theorem exec_accessPostedTrap (p : Proc) : exec (.accessPostedTrap p) s = execAccessPostedTrap p s := rfl
theorem exec_br (p : Proc) (gd : BitVec 3) (off : BitVec 23) : exec (.br p gd off) s = execBr p gd off s := rfl
theorem exec_call (p : Proc) (gd : BitVec 3) (off : BitVec 23) : exec (.call p gd off) s = execCall p gd off s := rfl
theorem exec_jr (p : Proc) (gd : BitVec 3) (rd : BitVec 5) (ra : BitVec 5) (rb : BitVec 5) : exec (.jr p gd rd ra rb) s = execJr p gd rd ra rb s := rfl
theorem exec_jrLink (p : Proc) (gd : BitVec 3) (rd : BitVec 5) (ra : BitVec 5) (rb : BitVec 5) : exec (.jrLink p gd rd ra rb) s = execJrLink p gd rd ra rb s := rfl
theorem exec_loop (p : Proc) (gd : BitVec 3) (n : BitVec 1) (ci : BitVec 1) (cnt : BitVec 12) (ra : BitVec 5) (len : BitVec 9) : exec (.loop p gd n ci cnt ra len) s = execLoop p gd n ci cnt ra len s := rfl
theorem exec_nop (p : Proc) (gd : BitVec 3) (rd : BitVec 5) (spn : BitVec 10) : exec (.nop p gd rd spn) s = execNop p gd rd spn s := rfl
theorem exec_trap (p : Proc) (gd : BitVec 3) (rd : BitVec 5) (spn : BitVec 10) : exec (.trap p gd rd spn) s = execTrap p gd rd spn s := rfl
theorem exec_eret (p : Proc) (gd : BitVec 3) (rd : BitVec 5) (spn : BitVec 10) : exec (.eret p gd rd spn) s = execEret p gd rd spn s := rfl
theorem exec_brk (p : Proc) (gd : BitVec 3) (rd : BitVec 5) (spn : BitVec 10) : exec (.brk p gd rd spn) s = execBrk p gd rd spn s := rfl
theorem exec_mfs (p : Proc) (gd : BitVec 3) (rd : BitVec 5) (spn : BitVec 10) : exec (.mfs p gd rd spn) s = execMfs p gd rd spn s := rfl
theorem exec_mts (p : Proc) (gd : BitVec 3) (rd : BitVec 5) (spn : BitVec 10) : exec (.mts p gd rd spn) s = execMts p gd rd spn s := rfl
theorem exec_eventEntry (c : Fin 128) : exec (.eventEntry c) s = execEventEntry c s := rfl
theorem exec_clarke (p : Proc) (gd : BitVec 3) (rd : BitVec 5) (ra : BitVec 5) (rb : BitVec 5) : exec (.clarke p gd rd ra rb) s = execClarke p gd rd ra rb s := rfl
theorem exec_clarke3 (p : Proc) (gd : BitVec 3) (rd : BitVec 5) (ra : BitVec 5) (rb : BitVec 5) : exec (.clarke3 p gd rd ra rb) s = execClarke3 p gd rd ra rb s := rfl
theorem exec_park (p : Proc) (gd : BitVec 3) (rd : BitVec 5) (ra : BitVec 5) (rb : BitVec 5) : exec (.park p gd rd ra rb) s = execPark p gd rd ra rb s := rfl
theorem exec_ipark (p : Proc) (gd : BitVec 3) (rd : BitVec 5) (ra : BitVec 5) (rb : BitVec 5) : exec (.ipark p gd rd ra rb) s = execIpark p gd rd ra rb s := rfl
theorem exec_sincos (p : Proc) (gd : BitVec 3) (rd : BitVec 5) (ra : BitVec 5) (rb : BitVec 5) : exec (.sincos p gd rd ra rb) s = execSincos p gd rd ra rb s := rfl
theorem exec_sv (p : Proc) (gd : BitVec 3) (rd : BitVec 5) (ra : BitVec 5) (rb : BitVec 5) : exec (.sv p gd rd ra rb) s = execSv p gd rd ra rb s := rfl
theorem exec_sin (p : Proc) (gd : BitVec 3) (rd : BitVec 5) (ra : BitVec 5) (rb : BitVec 5) : exec (.sin p gd rd ra rb) s = execSin p gd rd ra rb s := rfl
theorem exec_dmin (p : Proc) (gd : BitVec 3) (rd : BitVec 5) (ra : BitVec 5) (rb : BitVec 5) : exec (.dmin p gd rd ra rb) s = execDmin p gd rd ra rb s := rfl
theorem exec_vec (p : Proc) (gd : BitVec 3) (rd : BitVec 5) (ra : BitVec 5) (rb : BitVec 5) : exec (.vec p gd rd ra rb) s = execVec p gd rd ra rb s := rfl
theorem exec_rot (p : Proc) (gd : BitVec 3) (rd : BitVec 5) (ra : BitVec 5) (rb : BitVec 5) : exec (.rot p gd rd ra rb) s = execRot p gd rd ra rb s := rfl
theorem exec_pi (p : Proc) (gd : BitVec 3) (rd : BitVec 5) (ra : BitVec 5) (rb : BitVec 5) (fn : BitVec 5) : exec (.pi p gd rd ra rb fn) s = execPi p gd rd ra rb fn s := rfl
theorem exec_pid (p : Proc) (gd : BitVec 3) (rd : BitVec 5) (ra : BitVec 5) (rb : BitVec 5) (fn : BitVec 5) : exec (.pid p gd rd ra rb fn) s = execPid p gd rd ra rb fn s := rfl
theorem exec_gbrd (p : Proc) (gd : BitVec 3) (rd : BitVec 5) (spn : BitVec 10) : exec (.gbrd p gd rd spn) s = execGbrd p gd rd spn s := rfl
theorem exec_gbrda (p : Proc) (gd : BitVec 3) (rd : BitVec 5) (spn : BitVec 10) : exec (.gbrda p gd rd spn) s = execGbrda p gd rd spn s := rfl
theorem exec_gbwr (p : Proc) (gd : BitVec 3) (rd : BitVec 5) (spn : BitVec 10) : exec (.gbwr p gd rd spn) s = execGbwr p gd rd spn s := rfl
theorem exec_lutg (p : Proc) (gd : BitVec 3) (rd : BitVec 5) (ra : BitVec 5) (rb : BitVec 5) (fn : BitVec 8) : exec (.lutg p gd rd ra rb fn) s = execLutg p gd rd ra rb fn s := rfl
theorem exec_blkmac (p : Proc) (gd : BitVec 3) (aa : BitVec 2) (ab : BitVec 2) (ra : BitVec 5) (rb : BitVec 5) (fn : BitVec 8) (most : BitVec 16) : exec (.blkmac p gd aa ab ra rb fn most) s = execBlkmac p gd aa ab ra rb fn most s := rfl
theorem exec_movb (p : Proc) (gd : BitVec 3) (rd : BitVec 5) (ra : BitVec 5) (rb : BitVec 5) (most : BitVec 16) : exec (.movb p gd rd ra rb most) s = execMovb p gd rd ra rb most s := rfl
theorem exec_fillb (p : Proc) (gd : BitVec 3) (rd : BitVec 5) (ra : BitVec 5) (rb : BitVec 5) (most : BitVec 16) : exec (.fillb p gd rd ra rb most) s = execFillb p gd rd ra rb most s := rfl
theorem exec_ckpt (p : Proc) (gd : BitVec 3) (rd : BitVec 5) (ra : BitVec 5) (rb : BitVec 5) (fn : BitVec 8) : exec (.ckpt p gd rd ra rb fn) s = execCkpt p gd rd ra rb fn s := rfl
theorem exec_submit (p : Proc) (gd : BitVec 3) (rd : BitVec 5) (ra : BitVec 5) (rb : BitVec 5) (fn : BitVec 8) : exec (.submit p gd rd ra rb fn) s = execSubmit p gd rd ra rb fn s := rfl
theorem exec_wait (p : Proc) (gd : BitVec 3) (rd : BitVec 5) (ra : BitVec 5) (rb : BitVec 5) (fn : BitVec 7) : exec (.wait p gd rd ra rb fn) s = execWait p gd rd ra rb fn s := rfl
theorem exec_waitp (p : Proc) (gd : BitVec 3) (rd : BitVec 5) (ra : BitVec 5) (rb : BitVec 5) (fn : BitVec 7) : exec (.waitp p gd rd ra rb fn) s = execWaitp p gd rd ra rb fn s := rfl
theorem exec_waitTimeout (c : Fin 128) : exec (.waitTimeout c) s = execWaitTimeout c s := rfl
theorem exec_fenceB (p : Proc) (gd : BitVec 3) (rd : BitVec 5) (ra : BitVec 5) (rb : BitVec 5) : exec (.fenceB p gd rd ra rb) s = execFenceB p gd rd ra rb s := rfl
theorem exec_fenceR (p : Proc) (gd : BitVec 3) (rd : BitVec 5) (ra : BitVec 5) (rb : BitVec 5) : exec (.fenceR p gd rd ra rb) s = execFenceR p gd rd ra rb s := rfl
theorem exec_fenceC (p : Proc) (gd : BitVec 3) (rd : BitVec 5) (ra : BitVec 5) (rb : BitVec 5) : exec (.fenceC p gd rd ra rb) s = execFenceC p gd rd ra rb s := rfl
theorem exec_fenceE (p : Proc) (gd : BitVec 3) (rd : BitVec 5) (ra : BitVec 5) (rb : BitVec 5) : exec (.fenceE p gd rd ra rb) s = execFenceE p gd rd ra rb s := rfl
theorem exec_fenceComplete (p : Proc) : exec (.fenceComplete p) s = execFenceComplete p s := rfl
theorem exec_start (ag : Agent) (c : Fin 128) (load : Bool) (entry : BitVec 12) : exec (.start ag c load entry) s = execStart ag c load entry s := rfl
theorem exec_imageCopyDone (c : Fin 128) : exec (.imageCopyDone c) s = execImageCopyDone c s := rfl
theorem exec_stop (ag : Agent) (c : Fin 128) : exec (.stop ag c) s = execStop ag c s := rfl
theorem exec_cellBindWrite (ag : Agent) (c : Fin 128) (v : Word) : exec (.cellBindWrite ag c v) s = execCellBindWrite ag c v s := rfl
theorem exec_kick (c : Fin 128) : exec (.kick c) s = execKick c s := rfl
theorem exec_trapesc (c : Fin 128) : exec (.trapesc c) s = execTrapesc c s := rfl
theorem exec_wdt (c : Fin 128) : exec (.wdt c) s = execWdt c s := rfl
theorem exec_ckage (c : Fin 128) : exec (.ckage c) s = execCkage c s := rfl
theorem exec_migrationComplete (c : Fin 128) : exec (.migrationComplete c) s = execMigrationComplete c s := rfl
theorem exec_migrationHoldTimeout (g : Fin 32) : exec (.migrationHoldTimeout g) s = execMigrationHoldTimeout g s := rfl
theorem exec_releasePhysical (ag : Agent) (b : Fin 16) (mask : Byte) : exec (.releasePhysical ag b mask) s = execReleasePhysical ag b mask s := rfl
theorem exec_pmcOverflowEntry (c : Fin 128) : exec (.pmcOverflowEntry c) s = execPmcOverflowEntry c s := rfl
theorem exec_axVdqWrite (ag : Agent) (x : Fin 8) (v : Word) : exec (.axVdqWrite ag x v) s = execAxVdqWrite ag x v s := rfl
theorem exec_apply (ag : Agent) (x : Fin 8) : exec (.apply ag x) s = execApply ag x s := rfl
theorem exec_excl (ag : Agent) (x : Fin 8) (m : BitVec 4) : exec (.excl ag x m) s = execExcl ag x m s := rfl
theorem exec_readmit (ag : Agent) (x : Fin 8) (m : BitVec 4) : exec (.readmit ag x m) s = execReadmit ag x m s := rfl
theorem exec_oppStart (ag : Agent) (x : Fin 8) (angle : Half) (p : BitVec 6) : exec (.oppStart ag x angle p) s = execOppStart ag x angle p s := rfl
theorem exec_oppSwitch (ag : Agent) (x : Fin 8) (angle : Half) (p : BitVec 6) : exec (.oppSwitch ag x angle p) s = execOppSwitch ag x angle p s := rfl
theorem exec_oppStop (ag : Agent) (x : Fin 8) (angle : Half) : exec (.oppStop ag x angle) s = execOppStop ag x angle s := rfl
theorem exec_ssxCtrlStart (ag : Agent) (x : Fin 8) : exec (.ssxCtrlStart ag x) s = execSsxCtrlStart ag x s := rfl
theorem exec_ssxCtrlStop (ag : Agent) (x : Fin 8) : exec (.ssxCtrlStop ag x) s = execSsxCtrlStop ag x s := rfl
theorem exec_zeroCrossing (x : Fin 8) (ph : Fin 3) (held : Nat) : exec (.zeroCrossing x ph held) s = execZeroCrossing x ph held s := rfl
theorem exec_commutation (x : Fin 8) : exec (.commutation x) s = execCommutation x s := rfl
theorem exec_forcedCommutation (x : Fin 8) : exec (.forcedCommutation x) s = execForcedCommutation x s := rfl
theorem exec_rampCommutation (x : Fin 8) : exec (.rampCommutation x) s = execRampCommutation x s := rfl
theorem exec_ssxPhaseTimer (x : Fin 8) : exec (.ssxPhaseTimer x) s = execSsxPhaseTimer x s := rfl
theorem exec_groupEnable (ag : Agent) (g : Fin 32) (v : Word) : exec (.groupEnable ag g v) s = execGroupEnable ag g v s := rfl
theorem exec_groupStart (g : Fin 32) : exec (.groupStart g) s = execGroupStart g s := rfl
theorem exec_groupDisable (ag : Agent) (g : Fin 32) (v : Word) : exec (.groupDisable ag g v) s = execGroupDisable ag g v s := rfl
theorem exec_periodBoundary (g : Fin 32) : exec (.periodBoundary g) s = execPeriodBoundary g s := rfl
theorem exec_pmid (g : Fin 32) : exec (.pmid g) s = execPmid g s := rfl
theorem exec_shadowSnapshot (g : Fin 32) : exec (.shadowSnapshot g) s = execShadowSnapshot g s := rfl
theorem exec_pwmLoadallWrite (ag : Agent) (r : Fin 4) (v : Word) : exec (.pwmLoadallWrite ag r v) s = execPwmLoadallWrite ag r v s := rfl
theorem exec_carrierEdge (k : Fin 16) (p : Fin 3) : exec (.carrierEdge k p) s = execCarrierEdge k p s := rfl
theorem exec_tableEdge (k : Fin 16) (p : Fin 3) : exec (.tableEdge k p) s = execTableEdge k p s := rfl
theorem exec_listEdge (k : Fin 16) (ix : Fin 6) : exec (.listEdge k ix) s = execListEdge k ix s := rfl
theorem exec_minPulseRelease (k : Fin 16) (ix : Fin 6) : exec (.minPulseRelease k ix) s = execMinPulseRelease k ix s := rfl
theorem exec_deadTimeExpiry (k : Fin 16) (ix : Fin 6) : exec (.deadTimeExpiry k ix) s = execDeadTimeExpiry k ix s := rfl
theorem exec_maskIndexSet (ag : Agent) (k : Fin 16) (v : Word) : exec (.maskIndexSet ag k v) s = execMaskIndexSet ag k v s := rfl
theorem exec_gdlEnable (ag : Agent) (j : Fin 48) (v : Word) : exec (.gdlEnable ag j v) s = execGdlEnable ag j v s := rfl
theorem exec_gdlInitRetry (j : Fin 48) : exec (.gdlInitRetry j) s = execGdlInitRetry j s := rfl
theorem exec_gdlRead (ag : Agent) (j : Fin 48) (sel : BitVec 2) (addr : BitVec 7) : exec (.gdlRead ag j sel addr) s = execGdlRead ag j sel addr s := rfl
theorem exec_gdlWrite (ag : Agent) (j : Fin 48) (sel : BitVec 2) (addr : BitVec 7) (data : Half) : exec (.gdlWrite ag j sel addr data) s = execGdlWrite ag j sel addr data s := rfl
theorem exec_clrf (ag : Agent) (j : Fin 48) (sel : BitVec 2) : exec (.clrf ag j sel) s = execClrf ag j sel s := rfl
theorem exec_gdlNop (ag : Agent) (j : Fin 48) (sel : BitVec 2) : exec (.gdlNop ag j sel) s = execGdlNop ag j sel s := rfl
theorem exec_replyFrame (j : Fin 48) (w : Word) (coded : Bool) : exec (.replyFrame j w coded) s = execReplyFrame j w coded s := rfl
theorem exec_gdlReplyTimeout (j : Fin 48) : exec (.gdlReplyTimeout j) s = execGdlReplyTimeout j s := rfl
theorem exec_gdlSilenceTimeout (j : Fin 48) : exec (.gdlSilenceTimeout j) s = execGdlSilenceTimeout j s := rfl
theorem exec_stuckLine (j : Fin 48) : exec (.stuckLine j) s = execStuckLine j s := rfl
theorem exec_faultFrame (j : Fin 48) (code : Option (Bool × Bool)) : exec (.faultFrame j code) s = execFaultFrame j code s := rfl
theorem exec_pollRound (j : Fin 48) : exec (.pollRound j) s = execPollRound j s := rfl
theorem exec_scanStart (j : Fin 16) : exec (.scanStart j) s = execScanStart j s := rfl
theorem exec_adcResult (j : Fin 16) (raw : BitVec 14) (above : Bool) (below : Bool) : exec (.adcResult j raw above below) s = execAdcResult j raw above below s := rfl
theorem exec_refrdy (j : Fin 16) : exec (.refrdy j) s = execRefrdy j s := rfl
theorem exec_dsmOutput (ix : Fin 32) (bits : List Bool) : exec (.dsmOutput ix bits) s = execDsmOutput ix bits s := rfl
theorem exec_dsmSync (ag : Agent) (ix : Fin 32) : exec (.dsmSync ag ix) s = execDsmSync ag ix s := rfl
theorem exec_dsmArm (ag : Agent) (ix : Fin 32) : exec (.dsmArm ag ix) s = execDsmArm ag ix s := rfl
theorem exec_stuckRun (ix : Fin 32) (bits : List Bool) : exec (.stuckRun ix bits) s = execStuckRun ix bits s := rfl
theorem exec_comparatorOutputChange (c : Fin 64) (v : Int) (vref : Int) (vrefl : Int) (vrefh : Int) (held : Nat) : exec (.comparatorOutputChange c v vref vrefl vrefh held) s = execComparatorOutputChange c v vref vrefl vrefh held s := rfl
theorem exec_settleEnd (c : Fin 64) (v : Int) (vref : Int) (vrefl : Int) (vrefh : Int) : exec (.settleEnd c v vref vrefl vrefh) s = execSettleEnd c v vref vrefl vrefh s := rfl
theorem exec_sampledEvaluation (c : Fin 64) (v : Int) (vref : Int) (vrefl : Int) (vrefh : Int) : exec (.sampledEvaluation c v vref vrefl vrefh) s = execSampledEvaluation c v vref vrefl vrefh s := rfl
theorem exec_chopperTimer (r : Fin 4) : exec (.chopperTimer r) s = execChopperTimer r s := rfl
theorem exec_energyModelUpdate (r : Fin 4) : exec (.energyModelUpdate r) s = execEnergyModelUpdate r s := rfl
theorem exec_episodeEnd (r : Fin 4) : exec (.episodeEnd r) s = execEpisodeEnd r s := rfl
theorem exec_sumpDisch (ag : Agent) (r : Fin 4) (v : Word) : exec (.sumpDisch ag r v) s = execSumpDisch ag r v s := rfl
theorem exec_dstop (ag : Agent) (r : Fin 4) : exec (.dstop ag r) s = execDstop ag r s := rfl
theorem exec_dischargePulseTimer (r : Fin 4) : exec (.dischargePulseTimer r) s = execDischargePulseTimer r s := rfl
theorem exec_dischargeTimeout (r : Fin 4) : exec (.dischargeTimeout r) s = execDischargeTimeout r s := rfl
theorem exec_posSample (k : Fin 16) (sn : BitVec 12) (cs : BitVec 12) (neg : Bool) : exec (.posSample k sn cs neg) s = execPosSample k sn cs neg s := rfl
theorem exec_excitationCheck (k : Fin 16) (amp : Nat) : exec (.excitationCheck k amp) s = execExcitationCheck k amp s := rfl
theorem exec_quadEdge (k : Fin 16) (a : Bool) (b : Bool) (held : Nat) : exec (.quadEdge k a b held) s = execQuadEdge k a b held s := rfl
theorem exec_referenceMark (k : Fin 16) (held : Nat) : exec (.referenceMark k held) s = execReferenceMark k held s := rfl
theorem exec_hallEdge (k : Fin 16) (h : BitVec 3) (held : Nat) : exec (.hallEdge k h held) s = execHallEdge k h held s := rfl
theorem exec_ssiFrameStart (k : Fin 16) : exec (.ssiFrameStart k) s = execSsiFrameStart k s := rfl
theorem exec_ssiFrameEnd (k : Fin 16) (first : Bool) (value : Word) (again : Word) (check : Bool) : exec (.ssiFrameEnd k first value again check) s = execSsiFrameEnd k first value again check s := rfl
theorem exec_posSet (ag : Agent) (k : Fin 16) : exec (.posSet ag k) s = execPosSet ag k s := rfl
theorem exec_zarm (ag : Agent) (k : Fin 16) : exec (.zarm ag k) s = execZarm ag k s := rfl
theorem exec_posArm (ag : Agent) (k : Fin 16) : exec (.posArm ag k) s = execPosArm ag k s := rfl
theorem exec_comparePulseEnd (k : Fin 16) (one : Bool) : exec (.comparePulseEnd k one) s = execComparePulseEnd k one s := rfl
theorem exec_dividerStep (k : Fin 16) : exec (.dividerStep k) s = execDividerStep k s := rfl
theorem exec_ascDeadTimeExpiry (k : Fin 16) : exec (.ascDeadTimeExpiry k) s = execAscDeadTimeExpiry k s := rfl
theorem exec_orderRefreshTimeout  : exec (.orderRefreshTimeout) s = execOrderRefreshTimeout s := rfl
theorem exec_lockstepMismatch (ix : Fin 6) (cause : Fin 3) : exec (.lockstepMismatch ix cause) s = execLockstepMismatch ix cause s := rfl
theorem exec_asyncMismatch (ix : Fin 6) (persists : Bool) : exec (.asyncMismatch ix persists) s = execAsyncMismatch ix persists s := rfl
theorem exec_injectionPass (ix : Fin 6) (reported : Word) : exec (.injectionPass ix reported) s = execInjectionPass ix reported s := rfl
theorem exec_confirmedAliasRead (c : Fin 5) (rd : BitVec 5) (wake : Bool) (agreed : Bool) : exec (.confirmedAliasRead c rd wake agreed) s = execConfirmedAliasRead c rd wake agreed s := rfl
theorem exec_doorbell (ag : Agent) (k : Fin 5) : exec (.doorbell ag k) s = execDoorbell ag k s := rfl
theorem exec_mailboxReply (k : Fin 5) : exec (.mailboxReply k) s = execMailboxReply k s := rfl
theorem exec_ss1 (k : Fin 5) : exec (.ss1 k) s = execSs1 k s := rfl
theorem exec_sto (k : Fin 5) : exec (.sto k) s = execSto k s := rfl
theorem exec_release (k : Fin 5) : exec (.release k) s = execRelease k s := rfl
theorem exec_clrflt (k : Fin 5) : exec (.clrflt k) s = execClrflt k s := rfl
theorem exec_disch (k : Fin 5) : exec (.disch k) s = execDisch k s := rfl
theorem exec_pwrreq (k : Fin 5) : exec (.pwrreq k) s = execPwrreq k s := rfl
theorem exec_openSession (k : Fin 5) : exec (.openSession k) s = execOpen k s := rfl
theorem exec_paramWrite (k : Fin 5) : exec (.paramWrite k) s = execParamWrite k s := rfl
theorem exec_check (k : Fin 5) : exec (.check k) s = execCheck k s := rfl
theorem exec_confirm (k : Fin 5) : exec (.confirm k) s = execConfirm k s := rfl
theorem exec_loadconf (k : Fin 5) : exec (.loadconf k) s = execLoadconf k s := rfl
theorem exec_close (k : Fin 5) : exec (.close k) s = execClose k s := rfl
theorem exec_paramRead (k : Fin 5) : exec (.paramRead k) s = execParamRead k s := rfl
theorem exec_heartbeatTimeout (c : Fin 256) : exec (.heartbeatTimeout c) s = execHeartbeatTimeout c s := rfl
theorem exec_clockMonitor (ref : Nat) (fab : Option Nat) (genA : BitVec 4) (genB : BitVec 4) : exec (.clockMonitor ref fab genA genB) s = execClockMonitor ref fab genA genB s := rfl
theorem exec_supplyFault (rail : Fin 8) (mv : Int) (held : Nat) : exec (.supplyFault rail mv held) s = execSupplyFault rail mv held s := rfl
theorem exec_tapSample (k : Fin 16) (sn : BitVec 12) (cs : BitVec 12) (pz : Bool) : exec (.tapSample k sn cs pz) s = execTapSample k sn cs pz s := rfl
theorem exec_torqueMonitorSlice (x : Fin 8) (iar : BitVec 12) (ibr : BitVec 12) (iap : BitVec 12) (ibp : BitVec 12) (vdc : BitVec 12) (t0 : Half) (t1 : Half) : exec (.torqueMonitorSlice x iar ibr iap ibp vdc t0 t1) s = execTorqueMonitorSlice x iar ibr iap ibp vdc t0 t1 s := rfl
theorem exec_ascExit (x : Fin 8) : exec (.ascExit x) s = execAscExit x s := rfl
theorem exec_dischargeRequest (l : Fin 8) : exec (.dischargeRequest l) s = execDischargeRequest l s := rfl
theorem exec_envelopeTimeout (x : Fin 8) : exec (.envelopeTimeout x) s = execEnvelopeTimeout x s := rfl
theorem exec_grottoInitComplete (inj : Bool) (sram : Bool) : exec (.grottoInitComplete inj sram) s = execGrottoInitComplete inj sram s := rfl
theorem exec_ccvCheck (hit : Option (Fin 16384 × Word)) : exec (.ccvCheck hit) s = execCcvCheck hit s := rfl
theorem exec_safeInputChange (ix : Fin 32) (lvl : Bool) (held : Nat) : exec (.safeInputChange ix lvl held) s = execSafeInputChange ix lvl held s := rfl
theorem exec_testPulse (t : Fin 8) (lows : Word) : exec (.testPulse t lows) s = execTestPulse t lows s := rfl
theorem exec_discrepancyTimeout (k : Fin 16) : exec (.discrepancyTimeout k) s = execDiscrepancyTimeout k s := rfl
theorem exec_xlFrameReceived (k : Fin 4) (f : List Byte) (bad : Bool) : exec (.xlFrameReceived k f bad) s = execXlFrameReceived k f bad s := rfl
theorem exec_xlStatusSend (k : Fin 4) : exec (.xlStatusSend k) s = execXlStatusSend k s := rfl
theorem exec_xlTimeout (k : Fin 4) : exec (.xlTimeout k) s = execXlTimeout k s := rfl
theorem exec_csrr (p : Proc) (gd : BitVec 3) (rd : BitVec 5) (ra : BitVec 5) (imm : BitVec 13) : exec (.csrr p gd rd ra imm) s = execCsrr p gd rd ra imm s := rfl
theorem exec_csrw (p : Proc) (gd : BitVec 3) (rd : BitVec 5) (ra : BitVec 5) (imm : BitVec 13) : exec (.csrw p gd rd ra imm) s = execCsrw p gd rd ra imm s := rfl
theorem exec_csrs (p : Proc) (gd : BitVec 3) (rd : BitVec 5) (ra : BitVec 5) (imm : BitVec 13) : exec (.csrs p gd rd ra imm) s = execCsrs p gd rd ra imm s := rfl
theorem exec_csrc (p : Proc) (gd : BitVec 3) (rd : BitVec 5) (ra : BitVec 5) (imm : BitVec 13) : exec (.csrc p gd rd ra imm) s = execCsrc p gd rd ra imm s := rfl
theorem exec_curchWrite (p : Proc) (gd : BitVec 3) (rd : BitVec 5) (ra : BitVec 5) : exec (.curchWrite p gd rd ra) s = execCurchWrite p gd rd ra s := rfl
theorem exec_swi (p : Proc) (gd : BitVec 3) (rd : BitVec 5) (ra : BitVec 5) : exec (.swi p gd rd ra) s = execSwi p gd rd ra s := rfl
theorem exec_interruptEntry (p : Proc) : exec (.interruptEntry p) s = execInterruptEntry p s := rfl
theorem exec_cacheInvalidateLine (p : Proc) (gd : BitVec 3) (rd : BitVec 5) (ra : BitVec 5) (rb : BitVec 5) : exec (.cacheInvalidateLine p gd rd ra rb) s = execCacheInvalidateLine p gd rd ra rb s := rfl
theorem exec_cacheWritebackLine (p : Proc) (gd : BitVec 3) (rd : BitVec 5) (ra : BitVec 5) (rb : BitVec 5) : exec (.cacheWritebackLine p gd rd ra rb) s = execCacheWritebackLine p gd rd ra rb s := rfl
theorem exec_cacheFlushLine (p : Proc) (gd : BitVec 3) (rd : BitVec 5) (ra : BitVec 5) (rb : BitVec 5) : exec (.cacheFlushLine p gd rd ra rb) s = execCacheFlushLine p gd rd ra rb s := rfl
theorem exec_cacheInvalidateIline (p : Proc) (gd : BitVec 3) (rd : BitVec 5) (ra : BitVec 5) (rb : BitVec 5) : exec (.cacheInvalidateIline p gd rd ra rb) s = execCacheInvalidateIline p gd rd ra rb s := rfl
theorem exec_cacheFlushData (p : Proc) (gd : BitVec 3) (rd : BitVec 5) (ra : BitVec 5) (rb : BitVec 5) (most : BitVec 10) : exec (.cacheFlushData p gd rd ra rb most) s = execCacheFlushData p gd rd ra rb most s := rfl
theorem exec_cacheInvalidateInstr (p : Proc) (gd : BitVec 3) (rd : BitVec 5) (ra : BitVec 5) (rb : BitVec 5) : exec (.cacheInvalidateInstr p gd rd ra rb) s = execCacheInvalidateInstr p gd rd ra rb s := rfl
theorem exec_bmov (p : Proc) (gd : BitVec 3) (rd : BitVec 5) (ra : BitVec 5) (rb : BitVec 5) (most : BitVec 16) : exec (.bmov p gd rd ra rb most) s = execBmov p gd rd ra rb most s := rfl
theorem exec_bmovFill (p : Proc) (gd : BitVec 3) (rd : BitVec 5) (ra : BitVec 5) (rb : BitVec 5) (most : BitVec 16) : exec (.bmovFill p gd rd ra rb most) s = execBmovFill p gd rd ra rb most s := rfl
theorem exec_savem (p : Proc) (gd : BitVec 3) (rd : BitVec 5) (ra : BitVec 5) (rb : BitVec 5) (fn : Byte) (most : BitVec 6) : exec (.savem p gd rd ra rb fn most) s = execSavem p gd rd ra rb fn most s := rfl
theorem exec_restm (p : Proc) (gd : BitVec 3) (rd : BitVec 5) (ra : BitVec 5) (rb : BitVec 5) (fn : Byte) (most : BitVec 6) : exec (.restm p gd rd ra rb fn most) s = execRestm p gd rd ra rb fn most s := rfl
theorem exec_wfi (p : Proc) (gd : BitVec 3) (rd : BitVec 5) (ra : BitVec 5) (rb : BitVec 5) (fn : Byte) : exec (.wfi p gd rd ra rb fn) s = execWfi p gd rd ra rb fn s := rfl
theorem exec_chamberCreate (ag : Agent) (c : Fin 16) (v : Word) : exec (.chamberCreate ag c v) s = execChamberCreate ag c v s := rfl
theorem exec_chamberDelete (ag : Agent) (c : Fin 16) (v : Word) : exec (.chamberDelete ag c v) s = execChamberDelete ag c v s := rfl
theorem exec_assign (ag : Agent) (kind : BitVec 5) (c : Fin 16) : exec (.assign ag kind c) s = execAssign ag kind c s := rfl
theorem exec_assignFree (ag : Agent) (kind : BitVec 5) : exec (.assignFree ag kind) s = execAssignFree ag kind s := rfl
theorem exec_fabQuery (ag : Agent) (kind : BitVec 5) (ix : Half) : exec (.fabQuery ag kind ix) s = execFabQuery ag kind ix s := rfl
theorem exec_abortCell (ag : Agent) (t : Half) : exec (.abortCell ag t) s = execAbortCell ag t s := rfl
theorem exec_abortBlock (ag : Agent) (t : Half) : exec (.abortBlock ag t) s = execAbortBlock ag t s := rfl
theorem exec_abortLink (ag : Agent) (t : Half) : exec (.abortLink ag t) s = execAbortLink ag t s := rfl
theorem exec_abortRegion (ag : Agent) (t : Half) : exec (.abortRegion ag t) s = execAbortRegion ag t s := rfl
theorem exec_abortChamber (ag : Agent) (t : Half) : exec (.abortChamber ag t) s = execAbortChamber ag t s := rfl
theorem exec_abortComplete (late : Byte) : exec (.abortComplete late) s = execAbortComplete late s := rfl
theorem exec_columnWatchdogExpiry (c : Fin 5) : exec (.columnWatchdogExpiry c) s = execColumnWatchdogExpiry c s := rfl
theorem exec_colkick (ag : Agent) (c : Fin 5) (v : Word) : exec (.colkick ag c v) s = execColkick ag c v s := rfl
theorem exec_columnReset (ag : Agent) (c : Fin 5) : exec (.columnReset ag c) s = execColumnReset ag c s := rfl
theorem exec_columnRestart (c : Fin 4) : exec (.columnRestart c) s = execColumnRestart c s := rfl
theorem exec_echoData (k : Fin 4) (l : List Byte) (ago : Nat) (bad : Bool) (eccBad : Bool) : exec (.echoData k l ago bad eccBad) s = execEchoData k l ago bad eccBad s := rfl
theorem exec_echoAck (k : Fin 4) (l : List Byte) (bad : Bool) : exec (.echoAck k l bad) s = execEchoAck k l bad s := rfl
theorem exec_ttSync (k : Fin 4) (l : List Byte) (bad : Bool) (ago : Nat) (lead : Nat) : exec (.ttSync k l bad ago lead) s = execTtSync k l bad ago lead s := rfl
theorem exec_ttResp (k : Fin 4) (l : List Byte) (bad : Bool) (ago : Nat) : exec (.ttResp k l bad ago) s = execTtResp k l bad ago s := rfl
theorem exec_echoBreak (k : Fin 4) (l : List Byte) (bad : Bool) (seg : Fin 64) : exec (.echoBreak k l bad seg) s = execEchoBreak k l bad seg s := rfl
theorem exec_mend (k : Fin 4) (l : List Byte) (bad : Bool) (seg : Fin 64) : exec (.mend k l bad seg) s = execMend k l bad seg s := rfl
theorem exec_ttSyncSend (k : Fin 4) (lead : Nat) : exec (.ttSyncSend k lead) s = execTtSyncSend k lead s := rfl
theorem exec_ttTimeout (k : Fin 4) : exec (.ttTimeout k) s = execTtTimeout k s := rfl
theorem exec_portUp (k : Fin 4) (held : Bool) : exec (.portUp k held) s = execPortUp k held s := rfl
theorem exec_portDown (k : Fin 4) : exec (.portDown k) s = execPortDown k s := rfl
theorem exec_echoSlotTransmit (k : Fin 4) : exec (.echoSlotTransmit k) s = execEchoSlotTransmit k s := rfl
theorem exec_ackTimeout  : exec (.ackTimeout) s = execAckTimeout s := rfl
theorem exec_ethFrameReceived (k : Fin 4) (l : List Byte) (ago : Nat) : exec (.ethFrameReceived k l ago) s = execEthFrameReceived k l ago s := rfl
theorem exec_ethTransmit (k : Fin 4) (lead : Nat) : exec (.ethTransmit k lead) s = execEthTransmit k lead s := rfl
theorem exec_ethLinkChange (k : Fin 4) (up : Bool) (speed : BitVec 2) : exec (.ethLinkChange k up speed) s = execEthLinkChange k up speed s := rfl
theorem exec_mdioTransaction (ag : Agent) (v : Word) : exec (.mdioTransaction ag v) s = execMdioTransaction ag v s := rfl
theorem exec_mdioDone (data : Half) : exec (.mdioDone data) s = execMdioDone data s := rfl
theorem exec_canFrameReceived (k : Fin 8) (f : CanFrame) (ago : Nat) : exec (.canFrameReceived k f ago) s = execCanFrameReceived k f ago s := rfl
theorem exec_canReq (ag : Agent) (k : Fin 8) (b : Fin 3) (v : Word) : exec (.canReq ag k b v) s = execCanReq ag k b v s := rfl
theorem exec_canAbort (ag : Agent) (k : Fin 8) (b : Fin 3) (v : Word) : exec (.canAbort ag k b v) s = execCanAbort ag k b v s := rfl
theorem exec_txSelection (k : Fin 8) : exec (.txSelection k) s = execTxSelection k s := rfl
theorem exec_canTxEnd (k : Fin 8) (how : CanEnd) : exec (.canTxEnd k how) s = execCanTxEnd k how s := rfl
theorem exec_recover (ag : Agent) (k : Fin 8) (v : Word) : exec (.recover ag k v) s = execRecover ag k v s := rfl
theorem exec_busOffRecovery (k : Fin 8) : exec (.busOffRecovery k) s = execBusOffRecovery k s := rfl
theorem exec_spiTxdWrite (ag : Agent) (k : Fin 4) (v : Word) : exec (.spiTxdWrite ag k v) s = execSpiTxdWrite ag k v s := rfl
theorem exec_spiWordDone (k : Fin 4) (miso : Word) : exec (.spiWordDone k miso) s = execSpiWordDone k miso s := rfl
theorem exec_spiTargetWrite (off : BitVec 24) (data : List Byte) : exec (.spiTargetWrite off data) s = execSpiTargetWrite off data s := rfl
theorem exec_spiTargetRead (off : BitVec 24) (n : Nat) : exec (.spiTargetRead off n) s = execSpiTargetRead off n s := rfl
theorem exec_spiTargetStatus  : exec (.spiTargetStatus) s = execSpiTargetStatus s := rfl
theorem exec_spiCsRise (unknown : Bool) : exec (.spiCsRise unknown) s = execSpiCsRise unknown s := rfl
theorem exec_xspiCmd (ag : Agent) (v : Word) : exec (.xspiCmd ag v) s = execXspiCmd ag v s := rfl
theorem exec_xspiDone (data : List Byte) (timeout : Bool) : exec (.xspiDone data timeout) s = execXspiDone data timeout s := rfl
theorem exec_uartTxdWrite (ag : Agent) (k : Fin 2) (v : Word) : exec (.uartTxdWrite ag k v) s = execUartTxdWrite ag k v s := rfl
theorem exec_uartRxByte (k : Fin 2) (b : Byte) (fe : Bool) (pe : Bool) (brk : Bool) : exec (.uartRxByte k b fe pe brk) s = execUartRxByte k b fe pe brk s := rfl
theorem exec_i2cCmd (ag : Agent) (k : Fin 2) (v : Word) : exec (.i2cCmd ag k v) s = execI2cCmd ag k v s := rfl
theorem exec_i2cDone (k : Fin 2) (how : I2cEnd) : exec (.i2cDone k how) s = execI2cDone k how s := rfl
theorem exec_i2cTimeout (k : Fin 2) : exec (.i2cTimeout k) s = execI2cTimeout k s := rfl
theorem exec_gpioSet (ag : Agent) (v : Word) : exec (.gpioSet ag v) s = execGpioSet ag v s := rfl
theorem exec_gpioClr (ag : Agent) (v : Word) : exec (.gpioClr ag v) s = execGpioClr ag v s := rfl
theorem exec_gpioInputChange (n : Fin 16) (level : Bool) (held : Nat) : exec (.gpioInputChange n level held) s = execGpioInputChange n level held s := rfl
theorem exec_pinPulseEnd (n : Fin 16) : exec (.pinPulseEnd n) s = execPinPulseEnd n s := rfl
theorem exec_avsWriteVoltage (ag : Agent) (k : Fin 2) (v : Word) : exec (.avsWriteVoltage ag k v) s = execAvsWriteVoltage ag k v s := rfl
theorem exec_avsReadVoltage (ag : Agent) (k : Fin 2) (v : Word) : exec (.avsReadVoltage ag k v) s = execAvsReadVoltage ag k v s := rfl
theorem exec_avsReadStatus (ag : Agent) (k : Fin 2) (v : Word) : exec (.avsReadStatus ag k v) s = execAvsReadStatus ag k v s := rfl
theorem exec_avsStatusPoll (k : Fin 2) : exec (.avsStatusPoll k) s = execAvsStatusPoll k s := rfl
theorem exec_avsResend (k : Fin 2) : exec (.avsResend k) s = execAvsResend k s := rfl
theorem exec_avsTimeout (k : Fin 2) : exec (.avsTimeout k) s = execAvsTimeout k s := rfl
theorem exec_sensorRound (t : Vector Half 24) : exec (.sensorRound t) s = execSensorRound t s := rfl
theorem exec_halt  : exec (.halt) s = execHalt s := rfl
theorem exec_serviceWrite (ag : Agent) (v : Word) : exec (.serviceWrite ag v) s = execServiceWrite ag v s := rfl
theorem exec_currentEstimate (c : Nat) (q : Nat) (d : Nat) : exec (.currentEstimate c q d) s = execCurrentEstimate c q d s := rfl
theorem exec_lanternStep (r : Fin 4) : exec (.lanternStep r) s = execLanternStep r s := rfl
theorem exec_doze (ag : Agent) : exec (.doze ag) s = execDoze ag s := rfl
theorem exec_keep (ag : Agent) : exec (.keep ag) s = execKeep ag s := rfl
theorem exec_quiescence  : exec (.quiescence) s = execQuiescence s := rfl
theorem exec_quiescenceTimeout  : exec (.quiescenceTimeout) s = execQuiescenceTimeout s := rfl
theorem exec_entryDrain  : exec (.entryDrain) s = execEntryDrain s := rfl
theorem exec_entryCommit  : exec (.entryCommit) s = execEntryCommit s := rfl
theorem exec_entryComplete  : exec (.entryComplete) s = execEntryComplete s := rfl
theorem exec_dozeExit  : exec (.dozeExit) s = execDozeExit s := rfl
theorem exec_consentExpiry  : exec (.consentExpiry) s = execConsentExpiry s := rfl
theorem exec_wakeSample (k : Fin 8) (v : Int) : exec (.wakeSample k v) s = execWakeSample k v s := rfl
theorem exec_wake  : exec (.wake) s = execWake s := rfl
theorem exec_wakePowerUp  : exec (.wakePowerUp) s = execWakePowerUp s := rfl
theorem exec_wakePllLock (levels : BitVec 16) : exec (.wakePllLock levels) s = execWakePllLock levels s := rfl
theorem exec_wakeFailure  : exec (.wakeFailure) s = execWakeFailure s := rfl
theorem exec_wakeRetry  : exec (.wakeRetry) s = execWakeRetry s := rfl
theorem exec_powerOnReset  : exec (.powerOnReset) s = execPowerOnReset s := rfl
theorem exec_supplyMonitorReset (rail : Fin 3) (mv : Nat) : exec (.supplyMonitorReset rail mv) s = execSupplyMonitorReset rail mv s := rfl
theorem exec_grottoReset (mv : Nat) : exec (.grottoReset mv) s = execGrottoReset mv s := rfl
theorem exec_coldReset (ag : Agent) : exec (.coldReset ag) s = execColdReset ag s := rfl
theorem exec_warmReset (ag : Agent) : exec (.warmReset ag) s = execWarmReset ag s := rfl
theorem exec_wrst (low : Nat) : exec (.wrst low) s = execWrst low s := rfl
theorem exec_colhHaltReset  : exec (.colhHaltReset) s = execColhHaltReset s := rfl
theorem exec_resetRelease (mode : BitVec 2) (testen : Bool) : exec (.resetRelease mode testen) s = execResetRelease mode testen s := rfl
theorem exec_selfTestWave (bad : Option (Byte × Bool × Byte)) : exec (.selfTestWave bad) s = execSelfTestWave bad s := rfl
theorem exec_boot (prim : Option (List Byte)) (sec : Option (List Byte)) : exec (.boot prim sec) s = execBoot prim sec s := rfl
theorem exec_newchal (ag : Agent) : exec (.newchal ag) s = execNewchal ag s := rfl
theorem exec_nonceReady (nonce : BitVec 256) : exec (.nonceReady nonce) s = execNonceReady nonce s := rfl
theorem exec_dbgSubmit (ag : Agent) (level : BitVec 2) (kslot : Bool) : exec (.dbgSubmit ag level kslot) s = execDbgSubmit ag level kslot s := rfl
theorem exec_dbgDecision  : exec (.dbgDecision) s = execDbgDecision s := rfl
theorem exec_dripSlice (k : Fin 6) (fails : List Nat) : exec (.dripSlice k fails) s = execDripSlice k fails s := rfl
theorem exec_tapReset  : exec (.tapReset) s = execTapReset s := rfl
theorem exec_extest (balls : BitVec 418) (cells : BitVec 1254) : exec (.extest balls cells) s = execExtest balls cells s := rfl
theorem exec_idcode  : exec (.idcode) s = execIdcode s := rfl
theorem exec_samplePreload (balls : BitVec 418) (cells : BitVec 1254) : exec (.samplePreload balls cells) s = execSamplePreload balls cells s := rfl
theorem exec_clamp  : exec (.clamp) s = execClamp s := rfl
theorem exec_highz  : exec (.highz) s = execHighz s := rfl
theorem exec_extestPulse (balls : BitVec 418) (cells : BitVec 1254) : exec (.extestPulse balls cells) s = execExtestPulse balls cells s := rfl
theorem exec_extestTrain (balls : BitVec 418) (cells : BitVec 1254) : exec (.extestTrain balls cells) s = execExtestTrain balls cells s := rfl
theorem exec_debug  : exec (.debug) s = execDebug s := rfl
theorem exec_bypass  : exec (.bypass) s = execBypass s := rfl
theorem exec_dbgaccAccess (rnw : Bool) (addr : Word) (data : Word) : exec (.dbgaccAccess rnw addr data) s = execDbgaccAccess rnw addr data s := rfl
theorem exec_timerCompare (ix : Fin 6) : exec (.timerCompare ix) s = execTimerCompare ix s := rfl
theorem exec_rampLimitExpiry (r : Fin 4) : exec (.rampLimitExpiry r) s = execRampLimitExpiry r s := rfl
theorem exec_canReceiveError (k : Fin 8) (code : Fin 7) (eight : Bool) : exec (.canReceiveError k code eight) s = execCanReceiveError k code eight s := rfl
theorem exec_uartTxByteDone (k : Fin 2) : exec (.uartTxByteDone k) s = execUartTxByteDone k s := rfl
theorem exec_avsFrameEnd (k : Fin 2) (ack : BitVec 2) (data : Half) (vdone : Bool) : exec (.avsFrameEnd k ack data vdone) s = execAvsFrameEnd k ack data vdone s := rfl
end

end Sys2Proof.Machine
end

