-- ==== Sys2Proof/Laws/Store.lean ====
section
/-! SUPPORT. Laws of the stores: sparse tables, the memory and its canonical form, register fields, arrays of units. -/

namespace Sys2Proof.Machine

/-! ## Sparse tables -/

@[simp] theorem smGet_smSet_same {α : Type} (d : α) (m : SMap α) (k : Nat) (v : α) : smGet d (smSet m k v) k = v := by
  induction m with
  | nil => simp [smSet, smGet]
  | cons e m ih =>
    obtain ⟨j, w⟩ := e
    unfold smSet
    split
    · simp [smGet]
    · split
      · simp [smGet]
      · simp [smGet, *]

theorem smGet_smSet_other {α : Type} (d : α) (m : SMap α) {k l : Nat} (v : α) (h : l ≠ k) :
    smGet d (smSet m k v) l = smGet d m l := by
  induction m with
  | nil => simp [smSet, smGet, Ne.symm h]
  | cons e m ih =>
    obtain ⟨j, w⟩ := e
    unfold smSet
    split
    · simp [smGet, Ne.symm h]
    · split
      · subst_vars; simp [smGet, Ne.symm h]
      · simp [smGet, ih]

/-! ## Memory -/

@[simp] theorem memGet_nil (a : Nat) : memGet [] a = 0 := rfl

/-- Every address that a canonical list holds after its first lies above it. -/
theorem memWf_above {a : Nat} {v : Byte} {m : List Host.Cell} (h : memWf ((a, v) :: m) = true) :
    v ≠ 0 ∧ memWf m = true ∧ ∀ b, b ≤ a → memGet m b = 0 := by
  induction m generalizing a v with
  | nil => simp [memWf] at h ⊢; exact h
  | cons e m ih =>
    obtain ⟨b, w⟩ := e
    simp only [memWf, Bool.and_eq_true, bne_iff_ne, decide_eq_true_eq] at h
    obtain ⟨⟨hv, hab⟩, hm⟩ := h
    refine ⟨hv, hm, fun c hc => ?_⟩
    have hb := (ih hm).2.2 c (by omega)
    simp only [memGet, smGet] at hb ⊢
    rw [if_neg (by omega)]; exact hb

/-- Before the first address of a canonical list there may stand a lower one. -/
theorem memWf_cons {a : Nat} {v : Byte} {m : List Host.Cell} (hv : v ≠ 0) (hm : memWf m = true)
    (h : ∀ e ∈ m.head?, a < e.1) : memWf ((a, v) :: m) = true := by
  cases m with
  | nil => simpa [memWf] using hv
  | cons e m => obtain ⟨b, w⟩ := e; simp_all [memWf]

/-- The first address after a write lies at or above the lower of the old first address and the one written. -/
theorem memPut_head (m : List Host.Cell) (a : Nat) (v : Byte) (k : Nat) (hk : k < a)
    (hm : ∀ e ∈ m.head?, k < e.1) (hw : memWf m = true) : ∀ e ∈ (memPut m a v).head?, k < e.1 := by
  cases m with
  | nil => unfold memPut; split <;> simp [hk]
  | cons e m =>
    obtain ⟨j, w⟩ := e
    have hj : k < j := hm (j, w) rfl
    unfold memPut
    split
    · split <;> simp [hk, hj]
    · split
      · split
        · cases m with
          | nil => simp
          | cons e m =>
            obtain ⟨b, x⟩ := e
            simp only [memWf, Bool.and_eq_true, decide_eq_true_eq] at hw
            simp; omega
        · simp [hk]
      · simp [hj]

/-- A byte write keeps the canonical form. -/
theorem memPut_wf {m : List Host.Cell} (h : memWf m = true) (a : Nat) (v : Byte) : memWf (memPut m a v) = true := by
  induction m with
  | nil => unfold memPut; split <;> simp_all [memWf]
  | cons e m ih =>
    obtain ⟨j, w⟩ := e
    have hm := memWf_above h
    have hh : ∀ e ∈ m.head?, j < e.1 := by
      cases m with
      | nil => simp
      | cons e m => obtain ⟨b, x⟩ := e; simp_all [memWf]
    unfold memPut
    split
    · split
      · exact h
      · exact memWf_cons ‹_› h (by simpa)
    · split
      · subst_vars
        split
        · exact hm.2.1
        · exact memWf_cons ‹_› hm.2.1 hh
      · exact memWf_cons hm.1 (ih hm.2.1) (memPut_head m a v j (by omega) hh hm.2.1)

/-- A byte written reads back. -/
theorem memGet_memPut_same {m : List Host.Cell} (h : memWf m = true) (a : Nat) (v : Byte) :
    memGet (memPut m a v) a = v := by
  induction m with
  | nil => unfold memPut; split <;> simp_all [memGet, smGet]
  | cons e m ih =>
    obtain ⟨j, w⟩ := e
    have hm := memWf_above h
    unfold memPut
    split
    · split
      · have := hm.2.2 a (by omega)
        simp only [memGet, smGet] at this ⊢
        rw [if_neg (by omega), this]; exact (‹v = 0›).symm
      · simp [memGet, smGet]
    · split
      · subst_vars
        split
        · rw [hm.2.2 _ (Nat.le_refl _)]; exact (‹v = 0›).symm
        · simp [memGet, smGet]
      · simp only [memGet, smGet]
        rw [if_neg ‹_›]; exact ih hm.2.1

/-- A byte write leaves every other address as it was. -/
theorem memGet_memPut_other {m : List Host.Cell} (h : memWf m = true) {a b : Nat} (v : Byte) (hb : b ≠ a) :
    memGet (memPut m a v) b = memGet m b := by
  induction m with
  | nil => unfold memPut; split <;> simp [memGet, smGet, Ne.symm hb]
  | cons e m ih =>
    obtain ⟨j, w⟩ := e
    have hm := memWf_above h
    unfold memPut
    split
    · split
      · rfl
      · simp [memGet, smGet, Ne.symm hb]
    · split
      · subst_vars
        split
        · simp [memGet, smGet, Ne.symm hb]
        · simp [memGet, smGet, Ne.symm hb]
      · simp only [memGet, smGet]
        split
        · rfl
        · exact ih hm.2.1

theorem memPutHalf_wf {m : List Host.Cell} (h : memWf m = true) (a : Nat) (v : Half) : memWf (memPutHalf m a v) = true :=
  memPut_wf (memPut_wf h _ _) _ _

theorem memPutWord_wf {m : List Host.Cell} (h : memWf m = true) (a : Nat) (v : Word) : memWf (memPutWord m a v) = true :=
  memPutHalf_wf (memPutHalf_wf h _ _) _ _

theorem memPutList_wf {m : List Host.Cell} (h : memWf m = true) (a : Nat) (l : List Byte) :
    memWf (memPutList m a l) = true := by
  induction l generalizing m a with
  | nil => exact h
  | cons b l ih => exact ih (memPut_wf h a b) (a + 1)

/-- Leaving bytes out keeps the canonical form. -/
theorem memWf_filter {m : List Host.Cell} (h : memWf m = true) (p : Host.Cell → Bool) : memWf (m.filter p) = true := by
  have above : ∀ (m : List Host.Cell) (k : Nat), memWf m = true → (∀ e ∈ m.head?, k < e.1) → ∀ e ∈ m, k < e.1 := by
    intro m
    induction m with
    | nil => simp
    | cons e m ih =>
      obtain ⟨b, w⟩ := e
      intro k hw hk e he
      have hb : k < b := hk (b, w) rfl
      rcases List.mem_cons.1 he with rfl | he
      · exact hb
      · refine Nat.lt_trans hb (ih b (memWf_above hw).2.1 ?_ e he)
        cases m with
        | nil => simp
        | cons f m => obtain ⟨c, x⟩ := f; simp_all [memWf]
  induction m with
  | nil => rfl
  | cons e m ih =>
    obtain ⟨a, v⟩ := e
    have hm := memWf_above h
    rw [List.filter_cons]
    split
    · refine memWf_cons hm.1 (ih hm.2.1) fun e he => ?_
      have : e ∈ m := List.mem_of_mem_filter (List.mem_of_mem_head? he)
      refine above m a hm.2.1 ?_ e this
      cases m with
      | nil => simp
      | cons f m => obtain ⟨c, x⟩ := f; simp_all [memWf]
    · exact ih hm.2.1

theorem memGet_memPutHalf_other {m : List Host.Cell} (h : memWf m = true) {a b : Nat} (v : Half)
    (hb : ¬ (a ≤ b ∧ b < a + 2)) : memGet (memPutHalf m a v) b = memGet m b := by
  unfold memPutHalf
  rw [memGet_memPut_other (memPut_wf h _ _) _ (by omega), memGet_memPut_other h _ (by omega)]

theorem memGet_memPutWord_other {m : List Host.Cell} (h : memWf m = true) {a b : Nat} (v : Word)
    (hb : ¬ (a ≤ b ∧ b < a + 4)) : memGet (memPutWord m a v) b = memGet m b := by
  unfold memPutWord
  rw [memGet_memPutHalf_other (memPutHalf_wf h _ _) _ (by omega), memGet_memPutHalf_other h _ (by omega)]

theorem memGet_memPutList_other {m : List Host.Cell} (h : memWf m = true) {a b : Nat} (l : List Byte)
    (hb : ¬ (a ≤ b ∧ b < a + l.length)) : memGet (memPutList m a l) b = memGet m b := by
  induction l generalizing m a with
  | nil => rfl
  | cons x l ih =>
    simp only [List.length_cons] at hb
    simp only [memPutList]
    rw [ih (memPut_wf h a x) (by omega), memGet_memPut_other h _ (by omega)]

/-- A 16-bit word is its two bytes. -/
theorem bytes_of_half (v : Half) : (v.extractLsb' 8 8 ++ v.extractLsb' 0 8 : BitVec 16) = v := by
  apply BitVec.eq_of_getLsbD_eq
  intro i hi
  rw [BitVec.getLsbD_append]
  by_cases h : i < 8
  · simp [h]
  · have e : 8 + (i - 8) = i := by omega
    have f : i - 8 < 8 := by omega
    simp [h, e, f]

/-- A 32-bit word is its two halves. -/
theorem halves_of_word (v : Word) : (v.extractLsb' 16 16 ++ v.extractLsb' 0 16 : BitVec 32) = v := by
  apply BitVec.eq_of_getLsbD_eq
  intro i hi
  rw [BitVec.getLsbD_append]
  by_cases h : i < 16
  · simp [h]
  · have e : 16 + (i - 16) = i := by omega
    have f : i - 16 < 16 := by omega
    simp [h, e, f]

/-- A 16-bit word written reads back. -/
theorem memHalf_memPutHalf {m : List Host.Cell} (h : memWf m = true) (a : Nat) (v : Half) :
    memHalf (memPutHalf m a v) a = v := by
  unfold memHalf memPutHalf
  rw [memGet_memPut_same (memPut_wf h _ _), memGet_memPut_other (memPut_wf h _ _) _ (by omega), memGet_memPut_same h]
  exact bytes_of_half v

/-- A 32-bit word written reads back. -/
theorem memWord_memPutWord {m : List Host.Cell} (h : memWf m = true) (a : Nat) (v : Word) :
    memWord (memPutWord m a v) a = v := by
  have lo : memHalf (memPutWord m a v) a = v.extractLsb' 0 16 := by
    rw [← memHalf_memPutHalf h a (v.extractLsb' 0 16)]
    unfold memPutWord memHalf
    rw [memGet_memPutHalf_other (memPutHalf_wf h _ _) _ (by omega), memGet_memPutHalf_other (memPutHalf_wf h _ _) _ (by omega),
      ← memHalf, memHalf_memPutHalf h]
  have hi : memHalf (memPutWord m a v) (a + 2) = v.extractLsb' 16 16 :=
    memHalf_memPutHalf (memPutHalf_wf h _ _) _ _
  unfold memWord
  rw [lo, hi]
  exact halves_of_word v

/-! ## Arrays of units -/

@[simp] theorem vget_vset_same {α : Type} {n : Nat} (v : Vector α n) (i : Fin n) (x : α) : vget (vset v i x) i = x := by
  simp [vget, vset]

theorem vget_vset_other {α : Type} {n : Nat} (v : Vector α n) {i j : Fin n} (x : α) (h : j ≠ i) :
    vget (vset v i x) j = vget v j := by
  have : i.val ≠ j.val := fun e => h (Fin.ext e.symm)
  simp [vget, vset, Vector.getElem_set_ne, this]

/-! ## Fields of a register -/

/-- A field written reads as what was written, as far as it fits. -/
theorem Fld.get_put (F : Fld) (w : Word) (v : Nat) (h : F.lo ≤ F.hi ∧ F.hi < 32) :
    F.get (F.put w v) = v % 2 ^ (F.hi + 1 - F.lo) := by
  simp only [Fld.get, Fld.put, BitVec.toNat_ofNat]
  have hW := w.isLt
  have hV := Nat.mod_lt v (Nat.two_pow_pos (F.hi + 1 - F.lo))
  have hT : 2 ^ 32 = 2 ^ F.lo * (2 ^ (F.hi + 1 - F.lo) * 2 ^ (31 - F.hi)) := by
    rw [← Nat.pow_add, ← Nat.pow_add]; congr 1; omega
  have hP := Nat.two_pow_pos F.lo
  have hQ := Nat.two_pow_pos (F.hi + 1 - F.lo)
  generalize v % 2 ^ (F.hi + 1 - F.lo) = V at *
  generalize 2 ^ F.lo = P at *
  generalize 2 ^ (F.hi + 1 - F.lo) = Q at *
  generalize 2 ^ (31 - F.hi) = R at *
  generalize w.toNat = W at *
  rw [hT] at hW ⊢
  have h1 := Nat.div_add_mod W P
  have h2 := Nat.div_add_mod (W / P) Q
  have hA : W / P / Q < R := by
    rw [Nat.div_div_eq_div_mul]
    exact Nat.div_lt_of_lt_mul (by rw [Nat.mul_assoc]; exact hW)
  have hC := Nat.mod_lt W hP
  generalize W % P = C at *
  generalize W / P % Q = B at *
  generalize W / P / Q = A at *
  have e : W - B * P + V * P = P * (Q * A + V) + C := by
    rw [← h1, ← h2]; rw [Nat.mul_add, Nat.mul_add, Nat.mul_comm P B, Nat.mul_comm P V]; omega
  have hb : P * (Q * A + V) + C < P * (Q * R) := by
    have : Q * A + V + 1 ≤ Q * R := by
      calc Q * A + V + 1 ≤ Q * A + Q := by omega
        _ = Q * (A + 1) := by ring
        _ ≤ Q * R := Nat.mul_le_mul_left _ hA
    calc P * (Q * A + V) + C < P * (Q * A + V) + P := by omega
      _ = P * (Q * A + V + 1) := by ring
      _ ≤ _ := Nat.mul_le_mul_left _ this
  rw [e, Nat.mod_eq_of_lt hb, Nat.mul_add_div hP, Nat.div_eq_of_lt hC, Nat.add_zero, Nat.mul_add_mod,
    Nat.mod_eq_of_lt hV]

/-- A one-bit field written reads as what was written. -/
theorem Fld.get_put_bit (F : Fld) (w : Word) (b : Bool) (h : F.hi = F.lo ∧ F.hi < 32) : F.get (F.put w (b2n b)) = b2n b := by
  rw [Fld.get_put F w _ ⟨by omega, h.2⟩, h.1]
  cases b <;> simp [b2n]

/-! ## Registers -/

@[simp] theorem reg_setReg_same (s : State) (f : RegFam) (i : Nat) (v : Word) : (s.setReg f i v).reg f i = v := by
  simp [State.reg, State.setReg]

theorem reg_setReg_other (s : State) (f g : RegFam) (i j : Nat) (v : Word) (h : g.addr j ≠ f.addr i) :
    (s.setReg f i v).reg g j = s.reg g j := by
  simp [State.reg, State.setReg, smGet_smSet_other _ _ _ h]

/-- A field written by hardware reads as what was written, as far as it fits. -/
theorem fld_setFld_same (s : State) (f : RegFam) (i : Nat) (F : Fld) (v : Nat) (h : F.lo ≤ F.hi ∧ F.hi < 32) :
    (s.setFld f i F v).fld f i F = v % 2 ^ (F.hi + 1 - F.lo) := by
  simp [State.fld, State.setFld, Fld.get_put F _ _ h]

/-- A flag written by hardware reads as what was written. -/
theorem bit_setBit_same (s : State) (f : RegFam) (i : Nat) (F : Fld) (b : Bool) (h : F.hi = F.lo ∧ F.hi < 32) :
    (s.setBit f i F b).bit f i F = b := by
  rw [State.bit, State.setBit, fld_setFld_same _ _ _ _ _ ⟨by omega, h.2⟩, h.1]
  cases b <;> simp [b2n]

end Sys2Proof.Machine
end

