-- ==== Sys2Proof/Laws/State.lean ====
section
/-! SUPPORT. Laws of the state: for each basic update, what it writes and that every other field stays, so that no later proof
unfolds a record update. -/

namespace Sys2Proof.Machine

/-! ## setReg -/

section
variable (s : State) (f : RegFam) (i : Nat) (v : Word)
@[simp] theorem State.setReg_pending : (s.setReg f i v).pending = s.pending := rfl
@[simp] theorem State.setReg_mem : (s.setReg f i v).mem = s.mem := rfl
@[simp] theorem State.setReg_ecc : (s.setReg f i v).ecc = s.ecc := rfl
@[simp] theorem State.setReg_eccCount : (s.setReg f i v).eccCount = s.eccCount := rfl
@[simp] theorem State.setReg_tick : (s.setReg f i v).tick = s.tick := rfl
@[simp] theorem State.setReg_cellTick : (s.setReg f i v).cellTick = s.cellTick := rfl
@[simp] theorem State.setReg_colTick : (s.setReg f i v).colTick = s.colTick := rfl
@[simp] theorem State.setReg_freeCtr : (s.setReg f i v).freeCtr = s.freeCtr := rfl
@[simp] theorem State.setReg_fabLog : (s.setReg f i v).fabLog = s.fabLog := rfl
@[simp] theorem State.setReg_reports : (s.setReg f i v).reports = s.reports := rfl
@[simp] theorem State.setReg_owner : (s.setReg f i v).owner = s.owner := rfl
@[simp] theorem State.setReg_slotOld : (s.setReg f i v).slotOld = s.slotOld := rfl
@[simp] theorem State.setReg_time : (s.setReg f i v).time = s.time := rfl
@[simp] theorem State.setReg_trk : (s.setReg f i v).trk = s.trk := rfl
@[simp] theorem State.setReg_trkAt : (s.setReg f i v).trkAt = s.trkAt := rfl
@[simp] theorem State.setReg_phys : (s.setReg f i v).phys = s.phys := rfl
@[simp] theorem State.setReg_lcell : (s.setReg f i v).lcell = s.lcell := rfl
@[simp] theorem State.setReg_block : (s.setReg f i v).block = s.block := rfl
@[simp] theorem State.setReg_sproc : (s.setReg f i v).sproc = s.sproc := rfl
@[simp] theorem State.setReg_abort : (s.setReg f i v).abort = s.abort := rfl
@[simp] theorem State.setReg_abortIrq : (s.setReg f i v).abortIrq = s.abortIrq := rfl
@[simp] theorem State.setReg_gal : (s.setReg f i v).gal = s.gal := rfl
@[simp] theorem State.setReg_axis : (s.setReg f i v).axis = s.axis := rfl
@[simp] theorem State.setReg_bridge : (s.setReg f i v).bridge = s.bridge := rfl
@[simp] theorem State.setReg_grp : (s.setReg f i v).grp = s.grp := rfl
@[simp] theorem State.setReg_gdl : (s.setReg f i v).gdl = s.gdl := rfl
@[simp] theorem State.setReg_adc : (s.setReg f i v).adc = s.adc := rfl
@[simp] theorem State.setReg_dsm : (s.setReg f i v).dsm = s.dsm := rfl
@[simp] theorem State.setReg_settle : (s.setReg f i v).settle = s.settle := rfl
@[simp] theorem State.setReg_sump : (s.setReg f i v).sump = s.sump := rfl
@[simp] theorem State.setReg_pos : (s.setReg f i v).pos = s.pos := rfl
@[simp] theorem State.setReg_grt : (s.setReg f i v).grt = s.grt := rfl
@[simp] theorem State.setReg_txr : (s.setReg f i v).txr = s.txr := rfl
@[simp] theorem State.setReg_echo : (s.setReg f i v).echo = s.echo := rfl
@[simp] theorem State.setReg_eth : (s.setReg f i v).eth = s.eth := rfl
@[simp] theorem State.setReg_aon : (s.setReg f i v).aon = s.aon := rfl
@[simp] theorem State.setReg_can : (s.setReg f i v).can = s.can := rfl
@[simp] theorem State.setReg_spi : (s.setReg f i v).spi = s.spi := rfl
@[simp] theorem State.setReg_xspi : (s.setReg f i v).xspi = s.xspi := rfl
@[simp] theorem State.setReg_uart : (s.setReg f i v).uart = s.uart := rfl
@[simp] theorem State.setReg_i2c : (s.setReg f i v).i2c = s.i2c := rfl
@[simp] theorem State.setReg_pulse : (s.setReg f i v).pulse = s.pulse := rfl
@[simp] theorem State.setReg_avs : (s.setReg f i v).avs = s.avs := rfl
@[simp] theorem State.setReg_therm : (s.setReg f i v).therm = s.therm := rfl
@[simp] theorem State.setReg_lan : (s.setReg f i v).lan = s.lan := rfl
@[simp] theorem State.setReg_power : (s.setReg f i v).power = s.power := rfl
@[simp] theorem State.setReg_boot : (s.setReg f i v).boot = s.boot := rfl
end

/-! ## setRegA -/

section
variable (s : State) (f : RegFam) (g i : Nat) (v : Word)
@[simp] theorem State.setRegA_pending : (s.setRegA f g i v).pending = s.pending := rfl
@[simp] theorem State.setRegA_mem : (s.setRegA f g i v).mem = s.mem := rfl
@[simp] theorem State.setRegA_ecc : (s.setRegA f g i v).ecc = s.ecc := rfl
@[simp] theorem State.setRegA_eccCount : (s.setRegA f g i v).eccCount = s.eccCount := rfl
@[simp] theorem State.setRegA_tick : (s.setRegA f g i v).tick = s.tick := rfl
@[simp] theorem State.setRegA_cellTick : (s.setRegA f g i v).cellTick = s.cellTick := rfl
@[simp] theorem State.setRegA_colTick : (s.setRegA f g i v).colTick = s.colTick := rfl
@[simp] theorem State.setRegA_freeCtr : (s.setRegA f g i v).freeCtr = s.freeCtr := rfl
@[simp] theorem State.setRegA_fabLog : (s.setRegA f g i v).fabLog = s.fabLog := rfl
@[simp] theorem State.setRegA_reports : (s.setRegA f g i v).reports = s.reports := rfl
@[simp] theorem State.setRegA_owner : (s.setRegA f g i v).owner = s.owner := rfl
@[simp] theorem State.setRegA_slotOld : (s.setRegA f g i v).slotOld = s.slotOld := rfl
@[simp] theorem State.setRegA_time : (s.setRegA f g i v).time = s.time := rfl
@[simp] theorem State.setRegA_trk : (s.setRegA f g i v).trk = s.trk := rfl
@[simp] theorem State.setRegA_trkAt : (s.setRegA f g i v).trkAt = s.trkAt := rfl
@[simp] theorem State.setRegA_phys : (s.setRegA f g i v).phys = s.phys := rfl
@[simp] theorem State.setRegA_lcell : (s.setRegA f g i v).lcell = s.lcell := rfl
@[simp] theorem State.setRegA_block : (s.setRegA f g i v).block = s.block := rfl
@[simp] theorem State.setRegA_sproc : (s.setRegA f g i v).sproc = s.sproc := rfl
@[simp] theorem State.setRegA_abort : (s.setRegA f g i v).abort = s.abort := rfl
@[simp] theorem State.setRegA_abortIrq : (s.setRegA f g i v).abortIrq = s.abortIrq := rfl
@[simp] theorem State.setRegA_gal : (s.setRegA f g i v).gal = s.gal := rfl
@[simp] theorem State.setRegA_axis : (s.setRegA f g i v).axis = s.axis := rfl
@[simp] theorem State.setRegA_bridge : (s.setRegA f g i v).bridge = s.bridge := rfl
@[simp] theorem State.setRegA_grp : (s.setRegA f g i v).grp = s.grp := rfl
@[simp] theorem State.setRegA_gdl : (s.setRegA f g i v).gdl = s.gdl := rfl
@[simp] theorem State.setRegA_adc : (s.setRegA f g i v).adc = s.adc := rfl
@[simp] theorem State.setRegA_dsm : (s.setRegA f g i v).dsm = s.dsm := rfl
@[simp] theorem State.setRegA_settle : (s.setRegA f g i v).settle = s.settle := rfl
@[simp] theorem State.setRegA_sump : (s.setRegA f g i v).sump = s.sump := rfl
@[simp] theorem State.setRegA_pos : (s.setRegA f g i v).pos = s.pos := rfl
@[simp] theorem State.setRegA_grt : (s.setRegA f g i v).grt = s.grt := rfl
@[simp] theorem State.setRegA_txr : (s.setRegA f g i v).txr = s.txr := rfl
@[simp] theorem State.setRegA_echo : (s.setRegA f g i v).echo = s.echo := rfl
@[simp] theorem State.setRegA_eth : (s.setRegA f g i v).eth = s.eth := rfl
@[simp] theorem State.setRegA_aon : (s.setRegA f g i v).aon = s.aon := rfl
@[simp] theorem State.setRegA_can : (s.setRegA f g i v).can = s.can := rfl
@[simp] theorem State.setRegA_spi : (s.setRegA f g i v).spi = s.spi := rfl
@[simp] theorem State.setRegA_xspi : (s.setRegA f g i v).xspi = s.xspi := rfl
@[simp] theorem State.setRegA_uart : (s.setRegA f g i v).uart = s.uart := rfl
@[simp] theorem State.setRegA_i2c : (s.setRegA f g i v).i2c = s.i2c := rfl
@[simp] theorem State.setRegA_pulse : (s.setRegA f g i v).pulse = s.pulse := rfl
@[simp] theorem State.setRegA_avs : (s.setRegA f g i v).avs = s.avs := rfl
@[simp] theorem State.setRegA_therm : (s.setRegA f g i v).therm = s.therm := rfl
@[simp] theorem State.setRegA_lan : (s.setRegA f g i v).lan = s.lan := rfl
@[simp] theorem State.setRegA_power : (s.setRegA f g i v).power = s.power := rfl
@[simp] theorem State.setRegA_boot : (s.setRegA f g i v).boot = s.boot := rfl
end

/-! ## setFld -/

section
variable (s : State) (f : RegFam) (i : Nat) (F : Fld) (v : Nat)
@[simp] theorem State.setFld_pending : (s.setFld f i F v).pending = s.pending := rfl
@[simp] theorem State.setFld_mem : (s.setFld f i F v).mem = s.mem := rfl
@[simp] theorem State.setFld_ecc : (s.setFld f i F v).ecc = s.ecc := rfl
@[simp] theorem State.setFld_eccCount : (s.setFld f i F v).eccCount = s.eccCount := rfl
@[simp] theorem State.setFld_tick : (s.setFld f i F v).tick = s.tick := rfl
@[simp] theorem State.setFld_cellTick : (s.setFld f i F v).cellTick = s.cellTick := rfl
@[simp] theorem State.setFld_colTick : (s.setFld f i F v).colTick = s.colTick := rfl
@[simp] theorem State.setFld_freeCtr : (s.setFld f i F v).freeCtr = s.freeCtr := rfl
@[simp] theorem State.setFld_fabLog : (s.setFld f i F v).fabLog = s.fabLog := rfl
@[simp] theorem State.setFld_reports : (s.setFld f i F v).reports = s.reports := rfl
@[simp] theorem State.setFld_owner : (s.setFld f i F v).owner = s.owner := rfl
@[simp] theorem State.setFld_slotOld : (s.setFld f i F v).slotOld = s.slotOld := rfl
@[simp] theorem State.setFld_time : (s.setFld f i F v).time = s.time := rfl
@[simp] theorem State.setFld_trk : (s.setFld f i F v).trk = s.trk := rfl
@[simp] theorem State.setFld_trkAt : (s.setFld f i F v).trkAt = s.trkAt := rfl
@[simp] theorem State.setFld_phys : (s.setFld f i F v).phys = s.phys := rfl
@[simp] theorem State.setFld_lcell : (s.setFld f i F v).lcell = s.lcell := rfl
@[simp] theorem State.setFld_block : (s.setFld f i F v).block = s.block := rfl
@[simp] theorem State.setFld_sproc : (s.setFld f i F v).sproc = s.sproc := rfl
@[simp] theorem State.setFld_abort : (s.setFld f i F v).abort = s.abort := rfl
@[simp] theorem State.setFld_abortIrq : (s.setFld f i F v).abortIrq = s.abortIrq := rfl
@[simp] theorem State.setFld_gal : (s.setFld f i F v).gal = s.gal := rfl
@[simp] theorem State.setFld_axis : (s.setFld f i F v).axis = s.axis := rfl
@[simp] theorem State.setFld_bridge : (s.setFld f i F v).bridge = s.bridge := rfl
@[simp] theorem State.setFld_grp : (s.setFld f i F v).grp = s.grp := rfl
@[simp] theorem State.setFld_gdl : (s.setFld f i F v).gdl = s.gdl := rfl
@[simp] theorem State.setFld_adc : (s.setFld f i F v).adc = s.adc := rfl
@[simp] theorem State.setFld_dsm : (s.setFld f i F v).dsm = s.dsm := rfl
@[simp] theorem State.setFld_settle : (s.setFld f i F v).settle = s.settle := rfl
@[simp] theorem State.setFld_sump : (s.setFld f i F v).sump = s.sump := rfl
@[simp] theorem State.setFld_pos : (s.setFld f i F v).pos = s.pos := rfl
@[simp] theorem State.setFld_grt : (s.setFld f i F v).grt = s.grt := rfl
@[simp] theorem State.setFld_txr : (s.setFld f i F v).txr = s.txr := rfl
@[simp] theorem State.setFld_echo : (s.setFld f i F v).echo = s.echo := rfl
@[simp] theorem State.setFld_eth : (s.setFld f i F v).eth = s.eth := rfl
@[simp] theorem State.setFld_aon : (s.setFld f i F v).aon = s.aon := rfl
@[simp] theorem State.setFld_can : (s.setFld f i F v).can = s.can := rfl
@[simp] theorem State.setFld_spi : (s.setFld f i F v).spi = s.spi := rfl
@[simp] theorem State.setFld_xspi : (s.setFld f i F v).xspi = s.xspi := rfl
@[simp] theorem State.setFld_uart : (s.setFld f i F v).uart = s.uart := rfl
@[simp] theorem State.setFld_i2c : (s.setFld f i F v).i2c = s.i2c := rfl
@[simp] theorem State.setFld_pulse : (s.setFld f i F v).pulse = s.pulse := rfl
@[simp] theorem State.setFld_avs : (s.setFld f i F v).avs = s.avs := rfl
@[simp] theorem State.setFld_therm : (s.setFld f i F v).therm = s.therm := rfl
@[simp] theorem State.setFld_lan : (s.setFld f i F v).lan = s.lan := rfl
@[simp] theorem State.setFld_power : (s.setFld f i F v).power = s.power := rfl
@[simp] theorem State.setFld_boot : (s.setFld f i F v).boot = s.boot := rfl
end

/-! ## setBit -/

section
variable (s : State) (f : RegFam) (i : Nat) (F : Fld) (b : Bool)
@[simp] theorem State.setBit_pending : (s.setBit f i F b).pending = s.pending := rfl
@[simp] theorem State.setBit_mem : (s.setBit f i F b).mem = s.mem := rfl
@[simp] theorem State.setBit_ecc : (s.setBit f i F b).ecc = s.ecc := rfl
@[simp] theorem State.setBit_eccCount : (s.setBit f i F b).eccCount = s.eccCount := rfl
@[simp] theorem State.setBit_tick : (s.setBit f i F b).tick = s.tick := rfl
@[simp] theorem State.setBit_cellTick : (s.setBit f i F b).cellTick = s.cellTick := rfl
@[simp] theorem State.setBit_colTick : (s.setBit f i F b).colTick = s.colTick := rfl
@[simp] theorem State.setBit_freeCtr : (s.setBit f i F b).freeCtr = s.freeCtr := rfl
@[simp] theorem State.setBit_fabLog : (s.setBit f i F b).fabLog = s.fabLog := rfl
@[simp] theorem State.setBit_reports : (s.setBit f i F b).reports = s.reports := rfl
@[simp] theorem State.setBit_owner : (s.setBit f i F b).owner = s.owner := rfl
@[simp] theorem State.setBit_slotOld : (s.setBit f i F b).slotOld = s.slotOld := rfl
@[simp] theorem State.setBit_time : (s.setBit f i F b).time = s.time := rfl
@[simp] theorem State.setBit_trk : (s.setBit f i F b).trk = s.trk := rfl
@[simp] theorem State.setBit_trkAt : (s.setBit f i F b).trkAt = s.trkAt := rfl
@[simp] theorem State.setBit_phys : (s.setBit f i F b).phys = s.phys := rfl
@[simp] theorem State.setBit_lcell : (s.setBit f i F b).lcell = s.lcell := rfl
@[simp] theorem State.setBit_block : (s.setBit f i F b).block = s.block := rfl
@[simp] theorem State.setBit_sproc : (s.setBit f i F b).sproc = s.sproc := rfl
@[simp] theorem State.setBit_abort : (s.setBit f i F b).abort = s.abort := rfl
@[simp] theorem State.setBit_abortIrq : (s.setBit f i F b).abortIrq = s.abortIrq := rfl
@[simp] theorem State.setBit_gal : (s.setBit f i F b).gal = s.gal := rfl
@[simp] theorem State.setBit_axis : (s.setBit f i F b).axis = s.axis := rfl
@[simp] theorem State.setBit_bridge : (s.setBit f i F b).bridge = s.bridge := rfl
@[simp] theorem State.setBit_grp : (s.setBit f i F b).grp = s.grp := rfl
@[simp] theorem State.setBit_gdl : (s.setBit f i F b).gdl = s.gdl := rfl
@[simp] theorem State.setBit_adc : (s.setBit f i F b).adc = s.adc := rfl
@[simp] theorem State.setBit_dsm : (s.setBit f i F b).dsm = s.dsm := rfl
@[simp] theorem State.setBit_settle : (s.setBit f i F b).settle = s.settle := rfl
@[simp] theorem State.setBit_sump : (s.setBit f i F b).sump = s.sump := rfl
@[simp] theorem State.setBit_pos : (s.setBit f i F b).pos = s.pos := rfl
@[simp] theorem State.setBit_grt : (s.setBit f i F b).grt = s.grt := rfl
@[simp] theorem State.setBit_txr : (s.setBit f i F b).txr = s.txr := rfl
@[simp] theorem State.setBit_echo : (s.setBit f i F b).echo = s.echo := rfl
@[simp] theorem State.setBit_eth : (s.setBit f i F b).eth = s.eth := rfl
@[simp] theorem State.setBit_aon : (s.setBit f i F b).aon = s.aon := rfl
@[simp] theorem State.setBit_can : (s.setBit f i F b).can = s.can := rfl
@[simp] theorem State.setBit_spi : (s.setBit f i F b).spi = s.spi := rfl
@[simp] theorem State.setBit_xspi : (s.setBit f i F b).xspi = s.xspi := rfl
@[simp] theorem State.setBit_uart : (s.setBit f i F b).uart = s.uart := rfl
@[simp] theorem State.setBit_i2c : (s.setBit f i F b).i2c = s.i2c := rfl
@[simp] theorem State.setBit_pulse : (s.setBit f i F b).pulse = s.pulse := rfl
@[simp] theorem State.setBit_avs : (s.setBit f i F b).avs = s.avs := rfl
@[simp] theorem State.setBit_therm : (s.setBit f i F b).therm = s.therm := rfl
@[simp] theorem State.setBit_lan : (s.setBit f i F b).lan = s.lan := rfl
@[simp] theorem State.setBit_power : (s.setBit f i F b).power = s.power := rfl
@[simp] theorem State.setBit_boot : (s.setBit f i F b).boot = s.boot := rfl
end

/-! ## flag -/

section
variable (s : State) (f : RegFam) (i : Nat) (F : Fld)
@[simp] theorem State.flag_pending : (s.flag f i F).pending = s.pending := rfl
@[simp] theorem State.flag_mem : (s.flag f i F).mem = s.mem := rfl
@[simp] theorem State.flag_ecc : (s.flag f i F).ecc = s.ecc := rfl
@[simp] theorem State.flag_eccCount : (s.flag f i F).eccCount = s.eccCount := rfl
@[simp] theorem State.flag_tick : (s.flag f i F).tick = s.tick := rfl
@[simp] theorem State.flag_cellTick : (s.flag f i F).cellTick = s.cellTick := rfl
@[simp] theorem State.flag_colTick : (s.flag f i F).colTick = s.colTick := rfl
@[simp] theorem State.flag_freeCtr : (s.flag f i F).freeCtr = s.freeCtr := rfl
@[simp] theorem State.flag_fabLog : (s.flag f i F).fabLog = s.fabLog := rfl
@[simp] theorem State.flag_reports : (s.flag f i F).reports = s.reports := rfl
@[simp] theorem State.flag_owner : (s.flag f i F).owner = s.owner := rfl
@[simp] theorem State.flag_slotOld : (s.flag f i F).slotOld = s.slotOld := rfl
@[simp] theorem State.flag_time : (s.flag f i F).time = s.time := rfl
@[simp] theorem State.flag_trk : (s.flag f i F).trk = s.trk := rfl
@[simp] theorem State.flag_trkAt : (s.flag f i F).trkAt = s.trkAt := rfl
@[simp] theorem State.flag_phys : (s.flag f i F).phys = s.phys := rfl
@[simp] theorem State.flag_lcell : (s.flag f i F).lcell = s.lcell := rfl
@[simp] theorem State.flag_block : (s.flag f i F).block = s.block := rfl
@[simp] theorem State.flag_sproc : (s.flag f i F).sproc = s.sproc := rfl
@[simp] theorem State.flag_abort : (s.flag f i F).abort = s.abort := rfl
@[simp] theorem State.flag_abortIrq : (s.flag f i F).abortIrq = s.abortIrq := rfl
@[simp] theorem State.flag_gal : (s.flag f i F).gal = s.gal := rfl
@[simp] theorem State.flag_axis : (s.flag f i F).axis = s.axis := rfl
@[simp] theorem State.flag_bridge : (s.flag f i F).bridge = s.bridge := rfl
@[simp] theorem State.flag_grp : (s.flag f i F).grp = s.grp := rfl
@[simp] theorem State.flag_gdl : (s.flag f i F).gdl = s.gdl := rfl
@[simp] theorem State.flag_adc : (s.flag f i F).adc = s.adc := rfl
@[simp] theorem State.flag_dsm : (s.flag f i F).dsm = s.dsm := rfl
@[simp] theorem State.flag_settle : (s.flag f i F).settle = s.settle := rfl
@[simp] theorem State.flag_sump : (s.flag f i F).sump = s.sump := rfl
@[simp] theorem State.flag_pos : (s.flag f i F).pos = s.pos := rfl
@[simp] theorem State.flag_grt : (s.flag f i F).grt = s.grt := rfl
@[simp] theorem State.flag_txr : (s.flag f i F).txr = s.txr := rfl
@[simp] theorem State.flag_echo : (s.flag f i F).echo = s.echo := rfl
@[simp] theorem State.flag_eth : (s.flag f i F).eth = s.eth := rfl
@[simp] theorem State.flag_aon : (s.flag f i F).aon = s.aon := rfl
@[simp] theorem State.flag_can : (s.flag f i F).can = s.can := rfl
@[simp] theorem State.flag_spi : (s.flag f i F).spi = s.spi := rfl
@[simp] theorem State.flag_xspi : (s.flag f i F).xspi = s.xspi := rfl
@[simp] theorem State.flag_uart : (s.flag f i F).uart = s.uart := rfl
@[simp] theorem State.flag_i2c : (s.flag f i F).i2c = s.i2c := rfl
@[simp] theorem State.flag_pulse : (s.flag f i F).pulse = s.pulse := rfl
@[simp] theorem State.flag_avs : (s.flag f i F).avs = s.avs := rfl
@[simp] theorem State.flag_therm : (s.flag f i F).therm = s.therm := rfl
@[simp] theorem State.flag_lan : (s.flag f i F).lan = s.lan := rfl
@[simp] theorem State.flag_power : (s.flag f i F).power = s.power := rfl
@[simp] theorem State.flag_boot : (s.flag f i F).boot = s.boot := rfl
end

/-! ## count -/

section
variable (s : State) (f : RegFam) (i : Nat) (F : Fld)
@[simp] theorem State.count_pending : (s.count f i F).pending = s.pending := rfl
@[simp] theorem State.count_mem : (s.count f i F).mem = s.mem := rfl
@[simp] theorem State.count_ecc : (s.count f i F).ecc = s.ecc := rfl
@[simp] theorem State.count_eccCount : (s.count f i F).eccCount = s.eccCount := rfl
@[simp] theorem State.count_tick : (s.count f i F).tick = s.tick := rfl
@[simp] theorem State.count_cellTick : (s.count f i F).cellTick = s.cellTick := rfl
@[simp] theorem State.count_colTick : (s.count f i F).colTick = s.colTick := rfl
@[simp] theorem State.count_freeCtr : (s.count f i F).freeCtr = s.freeCtr := rfl
@[simp] theorem State.count_fabLog : (s.count f i F).fabLog = s.fabLog := rfl
@[simp] theorem State.count_reports : (s.count f i F).reports = s.reports := rfl
@[simp] theorem State.count_owner : (s.count f i F).owner = s.owner := rfl
@[simp] theorem State.count_slotOld : (s.count f i F).slotOld = s.slotOld := rfl
@[simp] theorem State.count_time : (s.count f i F).time = s.time := rfl
@[simp] theorem State.count_trk : (s.count f i F).trk = s.trk := rfl
@[simp] theorem State.count_trkAt : (s.count f i F).trkAt = s.trkAt := rfl
@[simp] theorem State.count_phys : (s.count f i F).phys = s.phys := rfl
@[simp] theorem State.count_lcell : (s.count f i F).lcell = s.lcell := rfl
@[simp] theorem State.count_block : (s.count f i F).block = s.block := rfl
@[simp] theorem State.count_sproc : (s.count f i F).sproc = s.sproc := rfl
@[simp] theorem State.count_abort : (s.count f i F).abort = s.abort := rfl
@[simp] theorem State.count_abortIrq : (s.count f i F).abortIrq = s.abortIrq := rfl
@[simp] theorem State.count_gal : (s.count f i F).gal = s.gal := rfl
@[simp] theorem State.count_axis : (s.count f i F).axis = s.axis := rfl
@[simp] theorem State.count_bridge : (s.count f i F).bridge = s.bridge := rfl
@[simp] theorem State.count_grp : (s.count f i F).grp = s.grp := rfl
@[simp] theorem State.count_gdl : (s.count f i F).gdl = s.gdl := rfl
@[simp] theorem State.count_adc : (s.count f i F).adc = s.adc := rfl
@[simp] theorem State.count_dsm : (s.count f i F).dsm = s.dsm := rfl
@[simp] theorem State.count_settle : (s.count f i F).settle = s.settle := rfl
@[simp] theorem State.count_sump : (s.count f i F).sump = s.sump := rfl
@[simp] theorem State.count_pos : (s.count f i F).pos = s.pos := rfl
@[simp] theorem State.count_grt : (s.count f i F).grt = s.grt := rfl
@[simp] theorem State.count_txr : (s.count f i F).txr = s.txr := rfl
@[simp] theorem State.count_echo : (s.count f i F).echo = s.echo := rfl
@[simp] theorem State.count_eth : (s.count f i F).eth = s.eth := rfl
@[simp] theorem State.count_aon : (s.count f i F).aon = s.aon := rfl
@[simp] theorem State.count_can : (s.count f i F).can = s.can := rfl
@[simp] theorem State.count_spi : (s.count f i F).spi = s.spi := rfl
@[simp] theorem State.count_xspi : (s.count f i F).xspi = s.xspi := rfl
@[simp] theorem State.count_uart : (s.count f i F).uart = s.uart := rfl
@[simp] theorem State.count_i2c : (s.count f i F).i2c = s.i2c := rfl
@[simp] theorem State.count_pulse : (s.count f i F).pulse = s.pulse := rfl
@[simp] theorem State.count_avs : (s.count f i F).avs = s.avs := rfl
@[simp] theorem State.count_therm : (s.count f i F).therm = s.therm := rfl
@[simp] theorem State.count_lan : (s.count f i F).lan = s.lan := rfl
@[simp] theorem State.count_power : (s.count f i F).power = s.power := rfl
@[simp] theorem State.count_boot : (s.count f i F).boot = s.boot := rfl
end

/-! ## modPhys -/

section
variable (s : State) (p : Fin 128) (f : Phys → Phys)
@[simp] theorem State.modPhys_pending : (s.modPhys p f).pending = s.pending := rfl
@[simp] theorem State.modPhys_mem : (s.modPhys p f).mem = s.mem := rfl
@[simp] theorem State.modPhys_ecc : (s.modPhys p f).ecc = s.ecc := rfl
@[simp] theorem State.modPhys_eccCount : (s.modPhys p f).eccCount = s.eccCount := rfl
@[simp] theorem State.modPhys_regs : (s.modPhys p f).regs = s.regs := rfl
@[simp] theorem State.modPhys_tick : (s.modPhys p f).tick = s.tick := rfl
@[simp] theorem State.modPhys_cellTick : (s.modPhys p f).cellTick = s.cellTick := rfl
@[simp] theorem State.modPhys_colTick : (s.modPhys p f).colTick = s.colTick := rfl
@[simp] theorem State.modPhys_freeCtr : (s.modPhys p f).freeCtr = s.freeCtr := rfl
@[simp] theorem State.modPhys_fabLog : (s.modPhys p f).fabLog = s.fabLog := rfl
@[simp] theorem State.modPhys_reports : (s.modPhys p f).reports = s.reports := rfl
@[simp] theorem State.modPhys_owner : (s.modPhys p f).owner = s.owner := rfl
@[simp] theorem State.modPhys_slotOld : (s.modPhys p f).slotOld = s.slotOld := rfl
@[simp] theorem State.modPhys_time : (s.modPhys p f).time = s.time := rfl
@[simp] theorem State.modPhys_trk : (s.modPhys p f).trk = s.trk := rfl
@[simp] theorem State.modPhys_trkAt : (s.modPhys p f).trkAt = s.trkAt := rfl
@[simp] theorem State.modPhys_phys : (s.modPhys p f).phys = vset s.phys p (f (vget s.phys p)) := rfl
@[simp] theorem State.modPhys_lcell : (s.modPhys p f).lcell = s.lcell := rfl
@[simp] theorem State.modPhys_block : (s.modPhys p f).block = s.block := rfl
@[simp] theorem State.modPhys_sproc : (s.modPhys p f).sproc = s.sproc := rfl
@[simp] theorem State.modPhys_abort : (s.modPhys p f).abort = s.abort := rfl
@[simp] theorem State.modPhys_abortIrq : (s.modPhys p f).abortIrq = s.abortIrq := rfl
@[simp] theorem State.modPhys_gal : (s.modPhys p f).gal = s.gal := rfl
@[simp] theorem State.modPhys_axis : (s.modPhys p f).axis = s.axis := rfl
@[simp] theorem State.modPhys_bridge : (s.modPhys p f).bridge = s.bridge := rfl
@[simp] theorem State.modPhys_grp : (s.modPhys p f).grp = s.grp := rfl
@[simp] theorem State.modPhys_gdl : (s.modPhys p f).gdl = s.gdl := rfl
@[simp] theorem State.modPhys_adc : (s.modPhys p f).adc = s.adc := rfl
@[simp] theorem State.modPhys_dsm : (s.modPhys p f).dsm = s.dsm := rfl
@[simp] theorem State.modPhys_settle : (s.modPhys p f).settle = s.settle := rfl
@[simp] theorem State.modPhys_sump : (s.modPhys p f).sump = s.sump := rfl
@[simp] theorem State.modPhys_pos : (s.modPhys p f).pos = s.pos := rfl
@[simp] theorem State.modPhys_grt : (s.modPhys p f).grt = s.grt := rfl
@[simp] theorem State.modPhys_txr : (s.modPhys p f).txr = s.txr := rfl
@[simp] theorem State.modPhys_echo : (s.modPhys p f).echo = s.echo := rfl
@[simp] theorem State.modPhys_eth : (s.modPhys p f).eth = s.eth := rfl
@[simp] theorem State.modPhys_aon : (s.modPhys p f).aon = s.aon := rfl
@[simp] theorem State.modPhys_can : (s.modPhys p f).can = s.can := rfl
@[simp] theorem State.modPhys_spi : (s.modPhys p f).spi = s.spi := rfl
@[simp] theorem State.modPhys_xspi : (s.modPhys p f).xspi = s.xspi := rfl
@[simp] theorem State.modPhys_uart : (s.modPhys p f).uart = s.uart := rfl
@[simp] theorem State.modPhys_i2c : (s.modPhys p f).i2c = s.i2c := rfl
@[simp] theorem State.modPhys_pulse : (s.modPhys p f).pulse = s.pulse := rfl
@[simp] theorem State.modPhys_avs : (s.modPhys p f).avs = s.avs := rfl
@[simp] theorem State.modPhys_therm : (s.modPhys p f).therm = s.therm := rfl
@[simp] theorem State.modPhys_lan : (s.modPhys p f).lan = s.lan := rfl
@[simp] theorem State.modPhys_power : (s.modPhys p f).power = s.power := rfl
@[simp] theorem State.modPhys_boot : (s.modPhys p f).boot = s.boot := rfl
end

/-! ## modCell -/

section
variable (s : State) (c : Fin 128) (f : LCell → LCell)
@[simp] theorem State.modCell_pending : (s.modCell c f).pending = s.pending := rfl
@[simp] theorem State.modCell_mem : (s.modCell c f).mem = s.mem := rfl
@[simp] theorem State.modCell_ecc : (s.modCell c f).ecc = s.ecc := rfl
@[simp] theorem State.modCell_eccCount : (s.modCell c f).eccCount = s.eccCount := rfl
@[simp] theorem State.modCell_regs : (s.modCell c f).regs = s.regs := rfl
@[simp] theorem State.modCell_tick : (s.modCell c f).tick = s.tick := rfl
@[simp] theorem State.modCell_cellTick : (s.modCell c f).cellTick = s.cellTick := rfl
@[simp] theorem State.modCell_colTick : (s.modCell c f).colTick = s.colTick := rfl
@[simp] theorem State.modCell_freeCtr : (s.modCell c f).freeCtr = s.freeCtr := rfl
@[simp] theorem State.modCell_fabLog : (s.modCell c f).fabLog = s.fabLog := rfl
@[simp] theorem State.modCell_reports : (s.modCell c f).reports = s.reports := rfl
@[simp] theorem State.modCell_owner : (s.modCell c f).owner = s.owner := rfl
@[simp] theorem State.modCell_slotOld : (s.modCell c f).slotOld = s.slotOld := rfl
@[simp] theorem State.modCell_time : (s.modCell c f).time = s.time := rfl
@[simp] theorem State.modCell_trk : (s.modCell c f).trk = s.trk := rfl
@[simp] theorem State.modCell_trkAt : (s.modCell c f).trkAt = s.trkAt := rfl
@[simp] theorem State.modCell_phys : (s.modCell c f).phys = s.phys := rfl
@[simp] theorem State.modCell_lcell : (s.modCell c f).lcell = vset s.lcell c (f (vget s.lcell c)) := rfl
@[simp] theorem State.modCell_block : (s.modCell c f).block = s.block := rfl
@[simp] theorem State.modCell_sproc : (s.modCell c f).sproc = s.sproc := rfl
@[simp] theorem State.modCell_abort : (s.modCell c f).abort = s.abort := rfl
@[simp] theorem State.modCell_abortIrq : (s.modCell c f).abortIrq = s.abortIrq := rfl
@[simp] theorem State.modCell_gal : (s.modCell c f).gal = s.gal := rfl
@[simp] theorem State.modCell_axis : (s.modCell c f).axis = s.axis := rfl
@[simp] theorem State.modCell_bridge : (s.modCell c f).bridge = s.bridge := rfl
@[simp] theorem State.modCell_grp : (s.modCell c f).grp = s.grp := rfl
@[simp] theorem State.modCell_gdl : (s.modCell c f).gdl = s.gdl := rfl
@[simp] theorem State.modCell_adc : (s.modCell c f).adc = s.adc := rfl
@[simp] theorem State.modCell_dsm : (s.modCell c f).dsm = s.dsm := rfl
@[simp] theorem State.modCell_settle : (s.modCell c f).settle = s.settle := rfl
@[simp] theorem State.modCell_sump : (s.modCell c f).sump = s.sump := rfl
@[simp] theorem State.modCell_pos : (s.modCell c f).pos = s.pos := rfl
@[simp] theorem State.modCell_grt : (s.modCell c f).grt = s.grt := rfl
@[simp] theorem State.modCell_txr : (s.modCell c f).txr = s.txr := rfl
@[simp] theorem State.modCell_echo : (s.modCell c f).echo = s.echo := rfl
@[simp] theorem State.modCell_eth : (s.modCell c f).eth = s.eth := rfl
@[simp] theorem State.modCell_aon : (s.modCell c f).aon = s.aon := rfl
@[simp] theorem State.modCell_can : (s.modCell c f).can = s.can := rfl
@[simp] theorem State.modCell_spi : (s.modCell c f).spi = s.spi := rfl
@[simp] theorem State.modCell_xspi : (s.modCell c f).xspi = s.xspi := rfl
@[simp] theorem State.modCell_uart : (s.modCell c f).uart = s.uart := rfl
@[simp] theorem State.modCell_i2c : (s.modCell c f).i2c = s.i2c := rfl
@[simp] theorem State.modCell_pulse : (s.modCell c f).pulse = s.pulse := rfl
@[simp] theorem State.modCell_avs : (s.modCell c f).avs = s.avs := rfl
@[simp] theorem State.modCell_therm : (s.modCell c f).therm = s.therm := rfl
@[simp] theorem State.modCell_lan : (s.modCell c f).lan = s.lan := rfl
@[simp] theorem State.modCell_power : (s.modCell c f).power = s.power := rfl
@[simp] theorem State.modCell_boot : (s.modCell c f).boot = s.boot := rfl
end

/-! ## modSproc -/

section
variable (s : State) (i : Fin 6) (f : SProc → SProc)
@[simp] theorem State.modSproc_pending : (s.modSproc i f).pending = s.pending := rfl
@[simp] theorem State.modSproc_mem : (s.modSproc i f).mem = s.mem := rfl
@[simp] theorem State.modSproc_ecc : (s.modSproc i f).ecc = s.ecc := rfl
@[simp] theorem State.modSproc_eccCount : (s.modSproc i f).eccCount = s.eccCount := rfl
@[simp] theorem State.modSproc_regs : (s.modSproc i f).regs = s.regs := rfl
@[simp] theorem State.modSproc_tick : (s.modSproc i f).tick = s.tick := rfl
@[simp] theorem State.modSproc_cellTick : (s.modSproc i f).cellTick = s.cellTick := rfl
@[simp] theorem State.modSproc_colTick : (s.modSproc i f).colTick = s.colTick := rfl
@[simp] theorem State.modSproc_freeCtr : (s.modSproc i f).freeCtr = s.freeCtr := rfl
@[simp] theorem State.modSproc_fabLog : (s.modSproc i f).fabLog = s.fabLog := rfl
@[simp] theorem State.modSproc_reports : (s.modSproc i f).reports = s.reports := rfl
@[simp] theorem State.modSproc_owner : (s.modSproc i f).owner = s.owner := rfl
@[simp] theorem State.modSproc_slotOld : (s.modSproc i f).slotOld = s.slotOld := rfl
@[simp] theorem State.modSproc_time : (s.modSproc i f).time = s.time := rfl
@[simp] theorem State.modSproc_trk : (s.modSproc i f).trk = s.trk := rfl
@[simp] theorem State.modSproc_trkAt : (s.modSproc i f).trkAt = s.trkAt := rfl
@[simp] theorem State.modSproc_phys : (s.modSproc i f).phys = s.phys := rfl
@[simp] theorem State.modSproc_lcell : (s.modSproc i f).lcell = s.lcell := rfl
@[simp] theorem State.modSproc_block : (s.modSproc i f).block = s.block := rfl
@[simp] theorem State.modSproc_sproc : (s.modSproc i f).sproc = vset s.sproc i (f (vget s.sproc i)) := rfl
@[simp] theorem State.modSproc_abort : (s.modSproc i f).abort = s.abort := rfl
@[simp] theorem State.modSproc_abortIrq : (s.modSproc i f).abortIrq = s.abortIrq := rfl
@[simp] theorem State.modSproc_gal : (s.modSproc i f).gal = s.gal := rfl
@[simp] theorem State.modSproc_axis : (s.modSproc i f).axis = s.axis := rfl
@[simp] theorem State.modSproc_bridge : (s.modSproc i f).bridge = s.bridge := rfl
@[simp] theorem State.modSproc_grp : (s.modSproc i f).grp = s.grp := rfl
@[simp] theorem State.modSproc_gdl : (s.modSproc i f).gdl = s.gdl := rfl
@[simp] theorem State.modSproc_adc : (s.modSproc i f).adc = s.adc := rfl
@[simp] theorem State.modSproc_dsm : (s.modSproc i f).dsm = s.dsm := rfl
@[simp] theorem State.modSproc_settle : (s.modSproc i f).settle = s.settle := rfl
@[simp] theorem State.modSproc_sump : (s.modSproc i f).sump = s.sump := rfl
@[simp] theorem State.modSproc_pos : (s.modSproc i f).pos = s.pos := rfl
@[simp] theorem State.modSproc_grt : (s.modSproc i f).grt = s.grt := rfl
@[simp] theorem State.modSproc_txr : (s.modSproc i f).txr = s.txr := rfl
@[simp] theorem State.modSproc_echo : (s.modSproc i f).echo = s.echo := rfl
@[simp] theorem State.modSproc_eth : (s.modSproc i f).eth = s.eth := rfl
@[simp] theorem State.modSproc_aon : (s.modSproc i f).aon = s.aon := rfl
@[simp] theorem State.modSproc_can : (s.modSproc i f).can = s.can := rfl
@[simp] theorem State.modSproc_spi : (s.modSproc i f).spi = s.spi := rfl
@[simp] theorem State.modSproc_xspi : (s.modSproc i f).xspi = s.xspi := rfl
@[simp] theorem State.modSproc_uart : (s.modSproc i f).uart = s.uart := rfl
@[simp] theorem State.modSproc_i2c : (s.modSproc i f).i2c = s.i2c := rfl
@[simp] theorem State.modSproc_pulse : (s.modSproc i f).pulse = s.pulse := rfl
@[simp] theorem State.modSproc_avs : (s.modSproc i f).avs = s.avs := rfl
@[simp] theorem State.modSproc_therm : (s.modSproc i f).therm = s.therm := rfl
@[simp] theorem State.modSproc_lan : (s.modSproc i f).lan = s.lan := rfl
@[simp] theorem State.modSproc_power : (s.modSproc i f).power = s.power := rfl
@[simp] theorem State.modSproc_boot : (s.modSproc i f).boot = s.boot := rfl
end

/-! ## modBlock -/

section
variable (s : State) (b : Fin 16) (f : Block → Block)
@[simp] theorem State.modBlock_pending : (s.modBlock b f).pending = s.pending := rfl
@[simp] theorem State.modBlock_mem : (s.modBlock b f).mem = s.mem := rfl
@[simp] theorem State.modBlock_ecc : (s.modBlock b f).ecc = s.ecc := rfl
@[simp] theorem State.modBlock_eccCount : (s.modBlock b f).eccCount = s.eccCount := rfl
@[simp] theorem State.modBlock_regs : (s.modBlock b f).regs = s.regs := rfl
@[simp] theorem State.modBlock_tick : (s.modBlock b f).tick = s.tick := rfl
@[simp] theorem State.modBlock_cellTick : (s.modBlock b f).cellTick = s.cellTick := rfl
@[simp] theorem State.modBlock_colTick : (s.modBlock b f).colTick = s.colTick := rfl
@[simp] theorem State.modBlock_freeCtr : (s.modBlock b f).freeCtr = s.freeCtr := rfl
@[simp] theorem State.modBlock_fabLog : (s.modBlock b f).fabLog = s.fabLog := rfl
@[simp] theorem State.modBlock_reports : (s.modBlock b f).reports = s.reports := rfl
@[simp] theorem State.modBlock_owner : (s.modBlock b f).owner = s.owner := rfl
@[simp] theorem State.modBlock_slotOld : (s.modBlock b f).slotOld = s.slotOld := rfl
@[simp] theorem State.modBlock_time : (s.modBlock b f).time = s.time := rfl
@[simp] theorem State.modBlock_trk : (s.modBlock b f).trk = s.trk := rfl
@[simp] theorem State.modBlock_trkAt : (s.modBlock b f).trkAt = s.trkAt := rfl
@[simp] theorem State.modBlock_phys : (s.modBlock b f).phys = s.phys := rfl
@[simp] theorem State.modBlock_lcell : (s.modBlock b f).lcell = s.lcell := rfl
@[simp] theorem State.modBlock_block : (s.modBlock b f).block = vset s.block b (f (vget s.block b)) := rfl
@[simp] theorem State.modBlock_sproc : (s.modBlock b f).sproc = s.sproc := rfl
@[simp] theorem State.modBlock_abort : (s.modBlock b f).abort = s.abort := rfl
@[simp] theorem State.modBlock_abortIrq : (s.modBlock b f).abortIrq = s.abortIrq := rfl
@[simp] theorem State.modBlock_gal : (s.modBlock b f).gal = s.gal := rfl
@[simp] theorem State.modBlock_axis : (s.modBlock b f).axis = s.axis := rfl
@[simp] theorem State.modBlock_bridge : (s.modBlock b f).bridge = s.bridge := rfl
@[simp] theorem State.modBlock_grp : (s.modBlock b f).grp = s.grp := rfl
@[simp] theorem State.modBlock_gdl : (s.modBlock b f).gdl = s.gdl := rfl
@[simp] theorem State.modBlock_adc : (s.modBlock b f).adc = s.adc := rfl
@[simp] theorem State.modBlock_dsm : (s.modBlock b f).dsm = s.dsm := rfl
@[simp] theorem State.modBlock_settle : (s.modBlock b f).settle = s.settle := rfl
@[simp] theorem State.modBlock_sump : (s.modBlock b f).sump = s.sump := rfl
@[simp] theorem State.modBlock_pos : (s.modBlock b f).pos = s.pos := rfl
@[simp] theorem State.modBlock_grt : (s.modBlock b f).grt = s.grt := rfl
@[simp] theorem State.modBlock_txr : (s.modBlock b f).txr = s.txr := rfl
@[simp] theorem State.modBlock_echo : (s.modBlock b f).echo = s.echo := rfl
@[simp] theorem State.modBlock_eth : (s.modBlock b f).eth = s.eth := rfl
@[simp] theorem State.modBlock_aon : (s.modBlock b f).aon = s.aon := rfl
@[simp] theorem State.modBlock_can : (s.modBlock b f).can = s.can := rfl
@[simp] theorem State.modBlock_spi : (s.modBlock b f).spi = s.spi := rfl
@[simp] theorem State.modBlock_xspi : (s.modBlock b f).xspi = s.xspi := rfl
@[simp] theorem State.modBlock_uart : (s.modBlock b f).uart = s.uart := rfl
@[simp] theorem State.modBlock_i2c : (s.modBlock b f).i2c = s.i2c := rfl
@[simp] theorem State.modBlock_pulse : (s.modBlock b f).pulse = s.pulse := rfl
@[simp] theorem State.modBlock_avs : (s.modBlock b f).avs = s.avs := rfl
@[simp] theorem State.modBlock_therm : (s.modBlock b f).therm = s.therm := rfl
@[simp] theorem State.modBlock_lan : (s.modBlock b f).lan = s.lan := rfl
@[simp] theorem State.modBlock_power : (s.modBlock b f).power = s.power := rfl
@[simp] theorem State.modBlock_boot : (s.modBlock b f).boot = s.boot := rfl
end

/-! ## modGrt -/

section
variable (s : State) (f : Grotto → Grotto)
@[simp] theorem State.modGrt_pending : (s.modGrt f).pending = s.pending := rfl
@[simp] theorem State.modGrt_mem : (s.modGrt f).mem = s.mem := rfl
@[simp] theorem State.modGrt_ecc : (s.modGrt f).ecc = s.ecc := rfl
@[simp] theorem State.modGrt_eccCount : (s.modGrt f).eccCount = s.eccCount := rfl
@[simp] theorem State.modGrt_regs : (s.modGrt f).regs = s.regs := rfl
@[simp] theorem State.modGrt_tick : (s.modGrt f).tick = s.tick := rfl
@[simp] theorem State.modGrt_cellTick : (s.modGrt f).cellTick = s.cellTick := rfl
@[simp] theorem State.modGrt_colTick : (s.modGrt f).colTick = s.colTick := rfl
@[simp] theorem State.modGrt_freeCtr : (s.modGrt f).freeCtr = s.freeCtr := rfl
@[simp] theorem State.modGrt_fabLog : (s.modGrt f).fabLog = s.fabLog := rfl
@[simp] theorem State.modGrt_reports : (s.modGrt f).reports = s.reports := rfl
@[simp] theorem State.modGrt_owner : (s.modGrt f).owner = s.owner := rfl
@[simp] theorem State.modGrt_slotOld : (s.modGrt f).slotOld = s.slotOld := rfl
@[simp] theorem State.modGrt_time : (s.modGrt f).time = s.time := rfl
@[simp] theorem State.modGrt_trk : (s.modGrt f).trk = s.trk := rfl
@[simp] theorem State.modGrt_trkAt : (s.modGrt f).trkAt = s.trkAt := rfl
@[simp] theorem State.modGrt_phys : (s.modGrt f).phys = s.phys := rfl
@[simp] theorem State.modGrt_lcell : (s.modGrt f).lcell = s.lcell := rfl
@[simp] theorem State.modGrt_block : (s.modGrt f).block = s.block := rfl
@[simp] theorem State.modGrt_sproc : (s.modGrt f).sproc = s.sproc := rfl
@[simp] theorem State.modGrt_abort : (s.modGrt f).abort = s.abort := rfl
@[simp] theorem State.modGrt_abortIrq : (s.modGrt f).abortIrq = s.abortIrq := rfl
@[simp] theorem State.modGrt_gal : (s.modGrt f).gal = s.gal := rfl
@[simp] theorem State.modGrt_axis : (s.modGrt f).axis = s.axis := rfl
@[simp] theorem State.modGrt_bridge : (s.modGrt f).bridge = s.bridge := rfl
@[simp] theorem State.modGrt_grp : (s.modGrt f).grp = s.grp := rfl
@[simp] theorem State.modGrt_gdl : (s.modGrt f).gdl = s.gdl := rfl
@[simp] theorem State.modGrt_adc : (s.modGrt f).adc = s.adc := rfl
@[simp] theorem State.modGrt_dsm : (s.modGrt f).dsm = s.dsm := rfl
@[simp] theorem State.modGrt_settle : (s.modGrt f).settle = s.settle := rfl
@[simp] theorem State.modGrt_sump : (s.modGrt f).sump = s.sump := rfl
@[simp] theorem State.modGrt_pos : (s.modGrt f).pos = s.pos := rfl
@[simp] theorem State.modGrt_grt : (s.modGrt f).grt = f s.grt := rfl
@[simp] theorem State.modGrt_txr : (s.modGrt f).txr = s.txr := rfl
@[simp] theorem State.modGrt_echo : (s.modGrt f).echo = s.echo := rfl
@[simp] theorem State.modGrt_eth : (s.modGrt f).eth = s.eth := rfl
@[simp] theorem State.modGrt_aon : (s.modGrt f).aon = s.aon := rfl
@[simp] theorem State.modGrt_can : (s.modGrt f).can = s.can := rfl
@[simp] theorem State.modGrt_spi : (s.modGrt f).spi = s.spi := rfl
@[simp] theorem State.modGrt_xspi : (s.modGrt f).xspi = s.xspi := rfl
@[simp] theorem State.modGrt_uart : (s.modGrt f).uart = s.uart := rfl
@[simp] theorem State.modGrt_i2c : (s.modGrt f).i2c = s.i2c := rfl
@[simp] theorem State.modGrt_pulse : (s.modGrt f).pulse = s.pulse := rfl
@[simp] theorem State.modGrt_avs : (s.modGrt f).avs = s.avs := rfl
@[simp] theorem State.modGrt_therm : (s.modGrt f).therm = s.therm := rfl
@[simp] theorem State.modGrt_lan : (s.modGrt f).lan = s.lan := rfl
@[simp] theorem State.modGrt_power : (s.modGrt f).power = s.power := rfl
@[simp] theorem State.modGrt_boot : (s.modGrt f).boot = s.boot := rfl
end

/-! ## modGal -/

section
variable (s : State) (f : Gallery → Gallery)
@[simp] theorem State.modGal_pending : (s.modGal f).pending = s.pending := rfl
@[simp] theorem State.modGal_mem : (s.modGal f).mem = s.mem := rfl
@[simp] theorem State.modGal_ecc : (s.modGal f).ecc = s.ecc := rfl
@[simp] theorem State.modGal_eccCount : (s.modGal f).eccCount = s.eccCount := rfl
@[simp] theorem State.modGal_regs : (s.modGal f).regs = s.regs := rfl
@[simp] theorem State.modGal_tick : (s.modGal f).tick = s.tick := rfl
@[simp] theorem State.modGal_cellTick : (s.modGal f).cellTick = s.cellTick := rfl
@[simp] theorem State.modGal_colTick : (s.modGal f).colTick = s.colTick := rfl
@[simp] theorem State.modGal_freeCtr : (s.modGal f).freeCtr = s.freeCtr := rfl
@[simp] theorem State.modGal_fabLog : (s.modGal f).fabLog = s.fabLog := rfl
@[simp] theorem State.modGal_reports : (s.modGal f).reports = s.reports := rfl
@[simp] theorem State.modGal_owner : (s.modGal f).owner = s.owner := rfl
@[simp] theorem State.modGal_slotOld : (s.modGal f).slotOld = s.slotOld := rfl
@[simp] theorem State.modGal_time : (s.modGal f).time = s.time := rfl
@[simp] theorem State.modGal_trk : (s.modGal f).trk = s.trk := rfl
@[simp] theorem State.modGal_trkAt : (s.modGal f).trkAt = s.trkAt := rfl
@[simp] theorem State.modGal_phys : (s.modGal f).phys = s.phys := rfl
@[simp] theorem State.modGal_lcell : (s.modGal f).lcell = s.lcell := rfl
@[simp] theorem State.modGal_block : (s.modGal f).block = s.block := rfl
@[simp] theorem State.modGal_sproc : (s.modGal f).sproc = s.sproc := rfl
@[simp] theorem State.modGal_abort : (s.modGal f).abort = s.abort := rfl
@[simp] theorem State.modGal_abortIrq : (s.modGal f).abortIrq = s.abortIrq := rfl
@[simp] theorem State.modGal_gal : (s.modGal f).gal = f s.gal := rfl
@[simp] theorem State.modGal_axis : (s.modGal f).axis = s.axis := rfl
@[simp] theorem State.modGal_bridge : (s.modGal f).bridge = s.bridge := rfl
@[simp] theorem State.modGal_grp : (s.modGal f).grp = s.grp := rfl
@[simp] theorem State.modGal_gdl : (s.modGal f).gdl = s.gdl := rfl
@[simp] theorem State.modGal_adc : (s.modGal f).adc = s.adc := rfl
@[simp] theorem State.modGal_dsm : (s.modGal f).dsm = s.dsm := rfl
@[simp] theorem State.modGal_settle : (s.modGal f).settle = s.settle := rfl
@[simp] theorem State.modGal_sump : (s.modGal f).sump = s.sump := rfl
@[simp] theorem State.modGal_pos : (s.modGal f).pos = s.pos := rfl
@[simp] theorem State.modGal_grt : (s.modGal f).grt = s.grt := rfl
@[simp] theorem State.modGal_txr : (s.modGal f).txr = s.txr := rfl
@[simp] theorem State.modGal_echo : (s.modGal f).echo = s.echo := rfl
@[simp] theorem State.modGal_eth : (s.modGal f).eth = s.eth := rfl
@[simp] theorem State.modGal_aon : (s.modGal f).aon = s.aon := rfl
@[simp] theorem State.modGal_can : (s.modGal f).can = s.can := rfl
@[simp] theorem State.modGal_spi : (s.modGal f).spi = s.spi := rfl
@[simp] theorem State.modGal_xspi : (s.modGal f).xspi = s.xspi := rfl
@[simp] theorem State.modGal_uart : (s.modGal f).uart = s.uart := rfl
@[simp] theorem State.modGal_i2c : (s.modGal f).i2c = s.i2c := rfl
@[simp] theorem State.modGal_pulse : (s.modGal f).pulse = s.pulse := rfl
@[simp] theorem State.modGal_avs : (s.modGal f).avs = s.avs := rfl
@[simp] theorem State.modGal_therm : (s.modGal f).therm = s.therm := rfl
@[simp] theorem State.modGal_lan : (s.modGal f).lan = s.lan := rfl
@[simp] theorem State.modGal_power : (s.modGal f).power = s.power := rfl
@[simp] theorem State.modGal_boot : (s.modGal f).boot = s.boot := rfl
end

/-! ## modBr -/

section
variable (s : State) (k : Fin 16) (f : Bridge → Bridge)
@[simp] theorem State.modBr_pending : (s.modBr k f).pending = s.pending := rfl
@[simp] theorem State.modBr_mem : (s.modBr k f).mem = s.mem := rfl
@[simp] theorem State.modBr_ecc : (s.modBr k f).ecc = s.ecc := rfl
@[simp] theorem State.modBr_eccCount : (s.modBr k f).eccCount = s.eccCount := rfl
@[simp] theorem State.modBr_regs : (s.modBr k f).regs = s.regs := rfl
@[simp] theorem State.modBr_tick : (s.modBr k f).tick = s.tick := rfl
@[simp] theorem State.modBr_cellTick : (s.modBr k f).cellTick = s.cellTick := rfl
@[simp] theorem State.modBr_colTick : (s.modBr k f).colTick = s.colTick := rfl
@[simp] theorem State.modBr_freeCtr : (s.modBr k f).freeCtr = s.freeCtr := rfl
@[simp] theorem State.modBr_fabLog : (s.modBr k f).fabLog = s.fabLog := rfl
@[simp] theorem State.modBr_reports : (s.modBr k f).reports = s.reports := rfl
@[simp] theorem State.modBr_owner : (s.modBr k f).owner = s.owner := rfl
@[simp] theorem State.modBr_slotOld : (s.modBr k f).slotOld = s.slotOld := rfl
@[simp] theorem State.modBr_time : (s.modBr k f).time = s.time := rfl
@[simp] theorem State.modBr_trk : (s.modBr k f).trk = s.trk := rfl
@[simp] theorem State.modBr_trkAt : (s.modBr k f).trkAt = s.trkAt := rfl
@[simp] theorem State.modBr_phys : (s.modBr k f).phys = s.phys := rfl
@[simp] theorem State.modBr_lcell : (s.modBr k f).lcell = s.lcell := rfl
@[simp] theorem State.modBr_block : (s.modBr k f).block = s.block := rfl
@[simp] theorem State.modBr_sproc : (s.modBr k f).sproc = s.sproc := rfl
@[simp] theorem State.modBr_abort : (s.modBr k f).abort = s.abort := rfl
@[simp] theorem State.modBr_abortIrq : (s.modBr k f).abortIrq = s.abortIrq := rfl
@[simp] theorem State.modBr_gal : (s.modBr k f).gal = s.gal := rfl
@[simp] theorem State.modBr_axis : (s.modBr k f).axis = s.axis := rfl
@[simp] theorem State.modBr_bridge : (s.modBr k f).bridge = vset s.bridge k (f (vget s.bridge k)) := rfl
@[simp] theorem State.modBr_grp : (s.modBr k f).grp = s.grp := rfl
@[simp] theorem State.modBr_gdl : (s.modBr k f).gdl = s.gdl := rfl
@[simp] theorem State.modBr_adc : (s.modBr k f).adc = s.adc := rfl
@[simp] theorem State.modBr_dsm : (s.modBr k f).dsm = s.dsm := rfl
@[simp] theorem State.modBr_settle : (s.modBr k f).settle = s.settle := rfl
@[simp] theorem State.modBr_sump : (s.modBr k f).sump = s.sump := rfl
@[simp] theorem State.modBr_pos : (s.modBr k f).pos = s.pos := rfl
@[simp] theorem State.modBr_grt : (s.modBr k f).grt = s.grt := rfl
@[simp] theorem State.modBr_txr : (s.modBr k f).txr = s.txr := rfl
@[simp] theorem State.modBr_echo : (s.modBr k f).echo = s.echo := rfl
@[simp] theorem State.modBr_eth : (s.modBr k f).eth = s.eth := rfl
@[simp] theorem State.modBr_aon : (s.modBr k f).aon = s.aon := rfl
@[simp] theorem State.modBr_can : (s.modBr k f).can = s.can := rfl
@[simp] theorem State.modBr_spi : (s.modBr k f).spi = s.spi := rfl
@[simp] theorem State.modBr_xspi : (s.modBr k f).xspi = s.xspi := rfl
@[simp] theorem State.modBr_uart : (s.modBr k f).uart = s.uart := rfl
@[simp] theorem State.modBr_i2c : (s.modBr k f).i2c = s.i2c := rfl
@[simp] theorem State.modBr_pulse : (s.modBr k f).pulse = s.pulse := rfl
@[simp] theorem State.modBr_avs : (s.modBr k f).avs = s.avs := rfl
@[simp] theorem State.modBr_therm : (s.modBr k f).therm = s.therm := rfl
@[simp] theorem State.modBr_lan : (s.modBr k f).lan = s.lan := rfl
@[simp] theorem State.modBr_power : (s.modBr k f).power = s.power := rfl
@[simp] theorem State.modBr_boot : (s.modBr k f).boot = s.boot := rfl
end

/-! ## modGdl -/

section
variable (s : State) (j : Fin 48) (f : Gdl → Gdl)
@[simp] theorem State.modGdl_pending : (s.modGdl j f).pending = s.pending := rfl
@[simp] theorem State.modGdl_mem : (s.modGdl j f).mem = s.mem := rfl
@[simp] theorem State.modGdl_ecc : (s.modGdl j f).ecc = s.ecc := rfl
@[simp] theorem State.modGdl_eccCount : (s.modGdl j f).eccCount = s.eccCount := rfl
@[simp] theorem State.modGdl_regs : (s.modGdl j f).regs = s.regs := rfl
@[simp] theorem State.modGdl_tick : (s.modGdl j f).tick = s.tick := rfl
@[simp] theorem State.modGdl_cellTick : (s.modGdl j f).cellTick = s.cellTick := rfl
@[simp] theorem State.modGdl_colTick : (s.modGdl j f).colTick = s.colTick := rfl
@[simp] theorem State.modGdl_freeCtr : (s.modGdl j f).freeCtr = s.freeCtr := rfl
@[simp] theorem State.modGdl_fabLog : (s.modGdl j f).fabLog = s.fabLog := rfl
@[simp] theorem State.modGdl_reports : (s.modGdl j f).reports = s.reports := rfl
@[simp] theorem State.modGdl_owner : (s.modGdl j f).owner = s.owner := rfl
@[simp] theorem State.modGdl_slotOld : (s.modGdl j f).slotOld = s.slotOld := rfl
@[simp] theorem State.modGdl_time : (s.modGdl j f).time = s.time := rfl
@[simp] theorem State.modGdl_trk : (s.modGdl j f).trk = s.trk := rfl
@[simp] theorem State.modGdl_trkAt : (s.modGdl j f).trkAt = s.trkAt := rfl
@[simp] theorem State.modGdl_phys : (s.modGdl j f).phys = s.phys := rfl
@[simp] theorem State.modGdl_lcell : (s.modGdl j f).lcell = s.lcell := rfl
@[simp] theorem State.modGdl_block : (s.modGdl j f).block = s.block := rfl
@[simp] theorem State.modGdl_sproc : (s.modGdl j f).sproc = s.sproc := rfl
@[simp] theorem State.modGdl_abort : (s.modGdl j f).abort = s.abort := rfl
@[simp] theorem State.modGdl_abortIrq : (s.modGdl j f).abortIrq = s.abortIrq := rfl
@[simp] theorem State.modGdl_gal : (s.modGdl j f).gal = s.gal := rfl
@[simp] theorem State.modGdl_axis : (s.modGdl j f).axis = s.axis := rfl
@[simp] theorem State.modGdl_bridge : (s.modGdl j f).bridge = s.bridge := rfl
@[simp] theorem State.modGdl_grp : (s.modGdl j f).grp = s.grp := rfl
@[simp] theorem State.modGdl_gdl : (s.modGdl j f).gdl = vset s.gdl j (f (vget s.gdl j)) := rfl
@[simp] theorem State.modGdl_adc : (s.modGdl j f).adc = s.adc := rfl
@[simp] theorem State.modGdl_dsm : (s.modGdl j f).dsm = s.dsm := rfl
@[simp] theorem State.modGdl_settle : (s.modGdl j f).settle = s.settle := rfl
@[simp] theorem State.modGdl_sump : (s.modGdl j f).sump = s.sump := rfl
@[simp] theorem State.modGdl_pos : (s.modGdl j f).pos = s.pos := rfl
@[simp] theorem State.modGdl_grt : (s.modGdl j f).grt = s.grt := rfl
@[simp] theorem State.modGdl_txr : (s.modGdl j f).txr = s.txr := rfl
@[simp] theorem State.modGdl_echo : (s.modGdl j f).echo = s.echo := rfl
@[simp] theorem State.modGdl_eth : (s.modGdl j f).eth = s.eth := rfl
@[simp] theorem State.modGdl_aon : (s.modGdl j f).aon = s.aon := rfl
@[simp] theorem State.modGdl_can : (s.modGdl j f).can = s.can := rfl
@[simp] theorem State.modGdl_spi : (s.modGdl j f).spi = s.spi := rfl
@[simp] theorem State.modGdl_xspi : (s.modGdl j f).xspi = s.xspi := rfl
@[simp] theorem State.modGdl_uart : (s.modGdl j f).uart = s.uart := rfl
@[simp] theorem State.modGdl_i2c : (s.modGdl j f).i2c = s.i2c := rfl
@[simp] theorem State.modGdl_pulse : (s.modGdl j f).pulse = s.pulse := rfl
@[simp] theorem State.modGdl_avs : (s.modGdl j f).avs = s.avs := rfl
@[simp] theorem State.modGdl_therm : (s.modGdl j f).therm = s.therm := rfl
@[simp] theorem State.modGdl_lan : (s.modGdl j f).lan = s.lan := rfl
@[simp] theorem State.modGdl_power : (s.modGdl j f).power = s.power := rfl
@[simp] theorem State.modGdl_boot : (s.modGdl j f).boot = s.boot := rfl
end

/-! ## modU -/

section
variable (s : State) (x : Fin 8) (f : AxisU → AxisU)
@[simp] theorem State.modU_pending : (s.modU x f).pending = s.pending := rfl
@[simp] theorem State.modU_mem : (s.modU x f).mem = s.mem := rfl
@[simp] theorem State.modU_ecc : (s.modU x f).ecc = s.ecc := rfl
@[simp] theorem State.modU_eccCount : (s.modU x f).eccCount = s.eccCount := rfl
@[simp] theorem State.modU_regs : (s.modU x f).regs = s.regs := rfl
@[simp] theorem State.modU_tick : (s.modU x f).tick = s.tick := rfl
@[simp] theorem State.modU_cellTick : (s.modU x f).cellTick = s.cellTick := rfl
@[simp] theorem State.modU_colTick : (s.modU x f).colTick = s.colTick := rfl
@[simp] theorem State.modU_freeCtr : (s.modU x f).freeCtr = s.freeCtr := rfl
@[simp] theorem State.modU_fabLog : (s.modU x f).fabLog = s.fabLog := rfl
@[simp] theorem State.modU_reports : (s.modU x f).reports = s.reports := rfl
@[simp] theorem State.modU_owner : (s.modU x f).owner = s.owner := rfl
@[simp] theorem State.modU_slotOld : (s.modU x f).slotOld = s.slotOld := rfl
@[simp] theorem State.modU_time : (s.modU x f).time = s.time := rfl
@[simp] theorem State.modU_trk : (s.modU x f).trk = s.trk := rfl
@[simp] theorem State.modU_trkAt : (s.modU x f).trkAt = s.trkAt := rfl
@[simp] theorem State.modU_phys : (s.modU x f).phys = s.phys := rfl
@[simp] theorem State.modU_lcell : (s.modU x f).lcell = s.lcell := rfl
@[simp] theorem State.modU_block : (s.modU x f).block = s.block := rfl
@[simp] theorem State.modU_sproc : (s.modU x f).sproc = s.sproc := rfl
@[simp] theorem State.modU_abort : (s.modU x f).abort = s.abort := rfl
@[simp] theorem State.modU_abortIrq : (s.modU x f).abortIrq = s.abortIrq := rfl
@[simp] theorem State.modU_gal : (s.modU x f).gal = s.gal := rfl
@[simp] theorem State.modU_axis : (s.modU x f).axis = vset s.axis x (f (vget s.axis x)) := rfl
@[simp] theorem State.modU_bridge : (s.modU x f).bridge = s.bridge := rfl
@[simp] theorem State.modU_grp : (s.modU x f).grp = s.grp := rfl
@[simp] theorem State.modU_gdl : (s.modU x f).gdl = s.gdl := rfl
@[simp] theorem State.modU_adc : (s.modU x f).adc = s.adc := rfl
@[simp] theorem State.modU_dsm : (s.modU x f).dsm = s.dsm := rfl
@[simp] theorem State.modU_settle : (s.modU x f).settle = s.settle := rfl
@[simp] theorem State.modU_sump : (s.modU x f).sump = s.sump := rfl
@[simp] theorem State.modU_pos : (s.modU x f).pos = s.pos := rfl
@[simp] theorem State.modU_grt : (s.modU x f).grt = s.grt := rfl
@[simp] theorem State.modU_txr : (s.modU x f).txr = s.txr := rfl
@[simp] theorem State.modU_echo : (s.modU x f).echo = s.echo := rfl
@[simp] theorem State.modU_eth : (s.modU x f).eth = s.eth := rfl
@[simp] theorem State.modU_aon : (s.modU x f).aon = s.aon := rfl
@[simp] theorem State.modU_can : (s.modU x f).can = s.can := rfl
@[simp] theorem State.modU_spi : (s.modU x f).spi = s.spi := rfl
@[simp] theorem State.modU_xspi : (s.modU x f).xspi = s.xspi := rfl
@[simp] theorem State.modU_uart : (s.modU x f).uart = s.uart := rfl
@[simp] theorem State.modU_i2c : (s.modU x f).i2c = s.i2c := rfl
@[simp] theorem State.modU_pulse : (s.modU x f).pulse = s.pulse := rfl
@[simp] theorem State.modU_avs : (s.modU x f).avs = s.avs := rfl
@[simp] theorem State.modU_therm : (s.modU x f).therm = s.therm := rfl
@[simp] theorem State.modU_lan : (s.modU x f).lan = s.lan := rfl
@[simp] theorem State.modU_power : (s.modU x f).power = s.power := rfl
@[simp] theorem State.modU_boot : (s.modU x f).boot = s.boot := rfl
end

/-! ## modPos -/

section
variable (s : State) (k : Fin 16) (f : Pos → Pos)
@[simp] theorem State.modPos_pending : (s.modPos k f).pending = s.pending := rfl
@[simp] theorem State.modPos_mem : (s.modPos k f).mem = s.mem := rfl
@[simp] theorem State.modPos_ecc : (s.modPos k f).ecc = s.ecc := rfl
@[simp] theorem State.modPos_eccCount : (s.modPos k f).eccCount = s.eccCount := rfl
@[simp] theorem State.modPos_regs : (s.modPos k f).regs = s.regs := rfl
@[simp] theorem State.modPos_tick : (s.modPos k f).tick = s.tick := rfl
@[simp] theorem State.modPos_cellTick : (s.modPos k f).cellTick = s.cellTick := rfl
@[simp] theorem State.modPos_colTick : (s.modPos k f).colTick = s.colTick := rfl
@[simp] theorem State.modPos_freeCtr : (s.modPos k f).freeCtr = s.freeCtr := rfl
@[simp] theorem State.modPos_fabLog : (s.modPos k f).fabLog = s.fabLog := rfl
@[simp] theorem State.modPos_reports : (s.modPos k f).reports = s.reports := rfl
@[simp] theorem State.modPos_owner : (s.modPos k f).owner = s.owner := rfl
@[simp] theorem State.modPos_slotOld : (s.modPos k f).slotOld = s.slotOld := rfl
@[simp] theorem State.modPos_time : (s.modPos k f).time = s.time := rfl
@[simp] theorem State.modPos_trk : (s.modPos k f).trk = s.trk := rfl
@[simp] theorem State.modPos_trkAt : (s.modPos k f).trkAt = s.trkAt := rfl
@[simp] theorem State.modPos_phys : (s.modPos k f).phys = s.phys := rfl
@[simp] theorem State.modPos_lcell : (s.modPos k f).lcell = s.lcell := rfl
@[simp] theorem State.modPos_block : (s.modPos k f).block = s.block := rfl
@[simp] theorem State.modPos_sproc : (s.modPos k f).sproc = s.sproc := rfl
@[simp] theorem State.modPos_abort : (s.modPos k f).abort = s.abort := rfl
@[simp] theorem State.modPos_abortIrq : (s.modPos k f).abortIrq = s.abortIrq := rfl
@[simp] theorem State.modPos_gal : (s.modPos k f).gal = s.gal := rfl
@[simp] theorem State.modPos_axis : (s.modPos k f).axis = s.axis := rfl
@[simp] theorem State.modPos_bridge : (s.modPos k f).bridge = s.bridge := rfl
@[simp] theorem State.modPos_grp : (s.modPos k f).grp = s.grp := rfl
@[simp] theorem State.modPos_gdl : (s.modPos k f).gdl = s.gdl := rfl
@[simp] theorem State.modPos_adc : (s.modPos k f).adc = s.adc := rfl
@[simp] theorem State.modPos_dsm : (s.modPos k f).dsm = s.dsm := rfl
@[simp] theorem State.modPos_settle : (s.modPos k f).settle = s.settle := rfl
@[simp] theorem State.modPos_sump : (s.modPos k f).sump = s.sump := rfl
@[simp] theorem State.modPos_pos : (s.modPos k f).pos = vset s.pos k (f (vget s.pos k)) := rfl
@[simp] theorem State.modPos_grt : (s.modPos k f).grt = s.grt := rfl
@[simp] theorem State.modPos_txr : (s.modPos k f).txr = s.txr := rfl
@[simp] theorem State.modPos_echo : (s.modPos k f).echo = s.echo := rfl
@[simp] theorem State.modPos_eth : (s.modPos k f).eth = s.eth := rfl
@[simp] theorem State.modPos_aon : (s.modPos k f).aon = s.aon := rfl
@[simp] theorem State.modPos_can : (s.modPos k f).can = s.can := rfl
@[simp] theorem State.modPos_spi : (s.modPos k f).spi = s.spi := rfl
@[simp] theorem State.modPos_xspi : (s.modPos k f).xspi = s.xspi := rfl
@[simp] theorem State.modPos_uart : (s.modPos k f).uart = s.uart := rfl
@[simp] theorem State.modPos_i2c : (s.modPos k f).i2c = s.i2c := rfl
@[simp] theorem State.modPos_pulse : (s.modPos k f).pulse = s.pulse := rfl
@[simp] theorem State.modPos_avs : (s.modPos k f).avs = s.avs := rfl
@[simp] theorem State.modPos_therm : (s.modPos k f).therm = s.therm := rfl
@[simp] theorem State.modPos_lan : (s.modPos k f).lan = s.lan := rfl
@[simp] theorem State.modPos_power : (s.modPos k f).power = s.power := rfl
@[simp] theorem State.modPos_boot : (s.modPos k f).boot = s.boot := rfl
end

/-! ## modSump -/

section
variable (s : State) (r : Fin 4) (f : Sump → Sump)
@[simp] theorem State.modSump_pending : (s.modSump r f).pending = s.pending := rfl
@[simp] theorem State.modSump_mem : (s.modSump r f).mem = s.mem := rfl
@[simp] theorem State.modSump_ecc : (s.modSump r f).ecc = s.ecc := rfl
@[simp] theorem State.modSump_eccCount : (s.modSump r f).eccCount = s.eccCount := rfl
@[simp] theorem State.modSump_regs : (s.modSump r f).regs = s.regs := rfl
@[simp] theorem State.modSump_tick : (s.modSump r f).tick = s.tick := rfl
@[simp] theorem State.modSump_cellTick : (s.modSump r f).cellTick = s.cellTick := rfl
@[simp] theorem State.modSump_colTick : (s.modSump r f).colTick = s.colTick := rfl
@[simp] theorem State.modSump_freeCtr : (s.modSump r f).freeCtr = s.freeCtr := rfl
@[simp] theorem State.modSump_fabLog : (s.modSump r f).fabLog = s.fabLog := rfl
@[simp] theorem State.modSump_reports : (s.modSump r f).reports = s.reports := rfl
@[simp] theorem State.modSump_owner : (s.modSump r f).owner = s.owner := rfl
@[simp] theorem State.modSump_slotOld : (s.modSump r f).slotOld = s.slotOld := rfl
@[simp] theorem State.modSump_time : (s.modSump r f).time = s.time := rfl
@[simp] theorem State.modSump_trk : (s.modSump r f).trk = s.trk := rfl
@[simp] theorem State.modSump_trkAt : (s.modSump r f).trkAt = s.trkAt := rfl
@[simp] theorem State.modSump_phys : (s.modSump r f).phys = s.phys := rfl
@[simp] theorem State.modSump_lcell : (s.modSump r f).lcell = s.lcell := rfl
@[simp] theorem State.modSump_block : (s.modSump r f).block = s.block := rfl
@[simp] theorem State.modSump_sproc : (s.modSump r f).sproc = s.sproc := rfl
@[simp] theorem State.modSump_abort : (s.modSump r f).abort = s.abort := rfl
@[simp] theorem State.modSump_abortIrq : (s.modSump r f).abortIrq = s.abortIrq := rfl
@[simp] theorem State.modSump_gal : (s.modSump r f).gal = s.gal := rfl
@[simp] theorem State.modSump_axis : (s.modSump r f).axis = s.axis := rfl
@[simp] theorem State.modSump_bridge : (s.modSump r f).bridge = s.bridge := rfl
@[simp] theorem State.modSump_grp : (s.modSump r f).grp = s.grp := rfl
@[simp] theorem State.modSump_gdl : (s.modSump r f).gdl = s.gdl := rfl
@[simp] theorem State.modSump_adc : (s.modSump r f).adc = s.adc := rfl
@[simp] theorem State.modSump_dsm : (s.modSump r f).dsm = s.dsm := rfl
@[simp] theorem State.modSump_settle : (s.modSump r f).settle = s.settle := rfl
@[simp] theorem State.modSump_sump : (s.modSump r f).sump = vset s.sump r (f (vget s.sump r)) := rfl
@[simp] theorem State.modSump_pos : (s.modSump r f).pos = s.pos := rfl
@[simp] theorem State.modSump_grt : (s.modSump r f).grt = s.grt := rfl
@[simp] theorem State.modSump_txr : (s.modSump r f).txr = s.txr := rfl
@[simp] theorem State.modSump_echo : (s.modSump r f).echo = s.echo := rfl
@[simp] theorem State.modSump_eth : (s.modSump r f).eth = s.eth := rfl
@[simp] theorem State.modSump_aon : (s.modSump r f).aon = s.aon := rfl
@[simp] theorem State.modSump_can : (s.modSump r f).can = s.can := rfl
@[simp] theorem State.modSump_spi : (s.modSump r f).spi = s.spi := rfl
@[simp] theorem State.modSump_xspi : (s.modSump r f).xspi = s.xspi := rfl
@[simp] theorem State.modSump_uart : (s.modSump r f).uart = s.uart := rfl
@[simp] theorem State.modSump_i2c : (s.modSump r f).i2c = s.i2c := rfl
@[simp] theorem State.modSump_pulse : (s.modSump r f).pulse = s.pulse := rfl
@[simp] theorem State.modSump_avs : (s.modSump r f).avs = s.avs := rfl
@[simp] theorem State.modSump_therm : (s.modSump r f).therm = s.therm := rfl
@[simp] theorem State.modSump_lan : (s.modSump r f).lan = s.lan := rfl
@[simp] theorem State.modSump_power : (s.modSump r f).power = s.power := rfl
@[simp] theorem State.modSump_boot : (s.modSump r f).boot = s.boot := rfl
end

/-! ## modPower -/

section
variable (s : State) (f : Power → Power)
@[simp] theorem State.modPower_pending : (s.modPower f).pending = s.pending := rfl
@[simp] theorem State.modPower_mem : (s.modPower f).mem = s.mem := rfl
@[simp] theorem State.modPower_ecc : (s.modPower f).ecc = s.ecc := rfl
@[simp] theorem State.modPower_eccCount : (s.modPower f).eccCount = s.eccCount := rfl
@[simp] theorem State.modPower_regs : (s.modPower f).regs = s.regs := rfl
@[simp] theorem State.modPower_tick : (s.modPower f).tick = s.tick := rfl
@[simp] theorem State.modPower_cellTick : (s.modPower f).cellTick = s.cellTick := rfl
@[simp] theorem State.modPower_colTick : (s.modPower f).colTick = s.colTick := rfl
@[simp] theorem State.modPower_freeCtr : (s.modPower f).freeCtr = s.freeCtr := rfl
@[simp] theorem State.modPower_fabLog : (s.modPower f).fabLog = s.fabLog := rfl
@[simp] theorem State.modPower_reports : (s.modPower f).reports = s.reports := rfl
@[simp] theorem State.modPower_owner : (s.modPower f).owner = s.owner := rfl
@[simp] theorem State.modPower_slotOld : (s.modPower f).slotOld = s.slotOld := rfl
@[simp] theorem State.modPower_time : (s.modPower f).time = s.time := rfl
@[simp] theorem State.modPower_trk : (s.modPower f).trk = s.trk := rfl
@[simp] theorem State.modPower_trkAt : (s.modPower f).trkAt = s.trkAt := rfl
@[simp] theorem State.modPower_phys : (s.modPower f).phys = s.phys := rfl
@[simp] theorem State.modPower_lcell : (s.modPower f).lcell = s.lcell := rfl
@[simp] theorem State.modPower_block : (s.modPower f).block = s.block := rfl
@[simp] theorem State.modPower_sproc : (s.modPower f).sproc = s.sproc := rfl
@[simp] theorem State.modPower_abort : (s.modPower f).abort = s.abort := rfl
@[simp] theorem State.modPower_abortIrq : (s.modPower f).abortIrq = s.abortIrq := rfl
@[simp] theorem State.modPower_gal : (s.modPower f).gal = s.gal := rfl
@[simp] theorem State.modPower_axis : (s.modPower f).axis = s.axis := rfl
@[simp] theorem State.modPower_bridge : (s.modPower f).bridge = s.bridge := rfl
@[simp] theorem State.modPower_grp : (s.modPower f).grp = s.grp := rfl
@[simp] theorem State.modPower_gdl : (s.modPower f).gdl = s.gdl := rfl
@[simp] theorem State.modPower_adc : (s.modPower f).adc = s.adc := rfl
@[simp] theorem State.modPower_dsm : (s.modPower f).dsm = s.dsm := rfl
@[simp] theorem State.modPower_settle : (s.modPower f).settle = s.settle := rfl
@[simp] theorem State.modPower_sump : (s.modPower f).sump = s.sump := rfl
@[simp] theorem State.modPower_pos : (s.modPower f).pos = s.pos := rfl
@[simp] theorem State.modPower_grt : (s.modPower f).grt = s.grt := rfl
@[simp] theorem State.modPower_txr : (s.modPower f).txr = s.txr := rfl
@[simp] theorem State.modPower_echo : (s.modPower f).echo = s.echo := rfl
@[simp] theorem State.modPower_eth : (s.modPower f).eth = s.eth := rfl
@[simp] theorem State.modPower_aon : (s.modPower f).aon = s.aon := rfl
@[simp] theorem State.modPower_can : (s.modPower f).can = s.can := rfl
@[simp] theorem State.modPower_spi : (s.modPower f).spi = s.spi := rfl
@[simp] theorem State.modPower_xspi : (s.modPower f).xspi = s.xspi := rfl
@[simp] theorem State.modPower_uart : (s.modPower f).uart = s.uart := rfl
@[simp] theorem State.modPower_i2c : (s.modPower f).i2c = s.i2c := rfl
@[simp] theorem State.modPower_pulse : (s.modPower f).pulse = s.pulse := rfl
@[simp] theorem State.modPower_avs : (s.modPower f).avs = s.avs := rfl
@[simp] theorem State.modPower_therm : (s.modPower f).therm = s.therm := rfl
@[simp] theorem State.modPower_lan : (s.modPower f).lan = s.lan := rfl
@[simp] theorem State.modPower_power : (s.modPower f).power = f s.power := rfl
@[simp] theorem State.modPower_boot : (s.modPower f).boot = s.boot := rfl
end

/-! ## poke -/

section
variable (s : State) (a : Nat) (v : Byte)
@[simp] theorem State.poke_pending : (s.poke a v).pending = s.pending := rfl
@[simp] theorem State.poke_mem : (s.poke a v).mem = memPut s.mem a v := rfl
@[simp] theorem State.poke_ecc : (s.poke a v).ecc = s.ecc := rfl
@[simp] theorem State.poke_eccCount : (s.poke a v).eccCount = s.eccCount := rfl
@[simp] theorem State.poke_regs : (s.poke a v).regs = s.regs := rfl
@[simp] theorem State.poke_tick : (s.poke a v).tick = s.tick := rfl
@[simp] theorem State.poke_cellTick : (s.poke a v).cellTick = s.cellTick := rfl
@[simp] theorem State.poke_colTick : (s.poke a v).colTick = s.colTick := rfl
@[simp] theorem State.poke_freeCtr : (s.poke a v).freeCtr = s.freeCtr := rfl
@[simp] theorem State.poke_fabLog : (s.poke a v).fabLog = s.fabLog := rfl
@[simp] theorem State.poke_reports : (s.poke a v).reports = s.reports := rfl
@[simp] theorem State.poke_owner : (s.poke a v).owner = s.owner := rfl
@[simp] theorem State.poke_slotOld : (s.poke a v).slotOld = s.slotOld := rfl
@[simp] theorem State.poke_time : (s.poke a v).time = s.time := rfl
@[simp] theorem State.poke_trk : (s.poke a v).trk = s.trk := rfl
@[simp] theorem State.poke_trkAt : (s.poke a v).trkAt = s.trkAt := rfl
@[simp] theorem State.poke_phys : (s.poke a v).phys = s.phys := rfl
@[simp] theorem State.poke_lcell : (s.poke a v).lcell = s.lcell := rfl
@[simp] theorem State.poke_block : (s.poke a v).block = s.block := rfl
@[simp] theorem State.poke_sproc : (s.poke a v).sproc = s.sproc := rfl
@[simp] theorem State.poke_abort : (s.poke a v).abort = s.abort := rfl
@[simp] theorem State.poke_abortIrq : (s.poke a v).abortIrq = s.abortIrq := rfl
@[simp] theorem State.poke_gal : (s.poke a v).gal = s.gal := rfl
@[simp] theorem State.poke_axis : (s.poke a v).axis = s.axis := rfl
@[simp] theorem State.poke_bridge : (s.poke a v).bridge = s.bridge := rfl
@[simp] theorem State.poke_grp : (s.poke a v).grp = s.grp := rfl
@[simp] theorem State.poke_gdl : (s.poke a v).gdl = s.gdl := rfl
@[simp] theorem State.poke_adc : (s.poke a v).adc = s.adc := rfl
@[simp] theorem State.poke_dsm : (s.poke a v).dsm = s.dsm := rfl
@[simp] theorem State.poke_settle : (s.poke a v).settle = s.settle := rfl
@[simp] theorem State.poke_sump : (s.poke a v).sump = s.sump := rfl
@[simp] theorem State.poke_pos : (s.poke a v).pos = s.pos := rfl
@[simp] theorem State.poke_grt : (s.poke a v).grt = s.grt := rfl
@[simp] theorem State.poke_txr : (s.poke a v).txr = s.txr := rfl
@[simp] theorem State.poke_echo : (s.poke a v).echo = s.echo := rfl
@[simp] theorem State.poke_eth : (s.poke a v).eth = s.eth := rfl
@[simp] theorem State.poke_aon : (s.poke a v).aon = s.aon := rfl
@[simp] theorem State.poke_can : (s.poke a v).can = s.can := rfl
@[simp] theorem State.poke_spi : (s.poke a v).spi = s.spi := rfl
@[simp] theorem State.poke_xspi : (s.poke a v).xspi = s.xspi := rfl
@[simp] theorem State.poke_uart : (s.poke a v).uart = s.uart := rfl
@[simp] theorem State.poke_i2c : (s.poke a v).i2c = s.i2c := rfl
@[simp] theorem State.poke_pulse : (s.poke a v).pulse = s.pulse := rfl
@[simp] theorem State.poke_avs : (s.poke a v).avs = s.avs := rfl
@[simp] theorem State.poke_therm : (s.poke a v).therm = s.therm := rfl
@[simp] theorem State.poke_lan : (s.poke a v).lan = s.lan := rfl
@[simp] theorem State.poke_power : (s.poke a v).power = s.power := rfl
@[simp] theorem State.poke_boot : (s.poke a v).boot = s.boot := rfl
end

/-! ## used -/

section
variable (s : State) 
@[simp] theorem State.used_pending : (s.used).pending = s.pending := rfl
@[simp] theorem State.used_mem : (s.used).mem = s.mem := rfl
@[simp] theorem State.used_ecc : (s.used).ecc = s.ecc := rfl
@[simp] theorem State.used_eccCount : (s.used).eccCount = s.eccCount := rfl
@[simp] theorem State.used_regs : (s.used).regs = s.regs := rfl
@[simp] theorem State.used_tick : (s.used).tick = s.tick := rfl
@[simp] theorem State.used_cellTick : (s.used).cellTick = s.cellTick := rfl
@[simp] theorem State.used_colTick : (s.used).colTick = s.colTick := rfl
@[simp] theorem State.used_freeCtr : (s.used).freeCtr = s.freeCtr + 1 := rfl
@[simp] theorem State.used_fabLog : (s.used).fabLog = s.fabLog := rfl
@[simp] theorem State.used_reports : (s.used).reports = s.reports := rfl
@[simp] theorem State.used_owner : (s.used).owner = s.owner := rfl
@[simp] theorem State.used_slotOld : (s.used).slotOld = s.slotOld := rfl
@[simp] theorem State.used_time : (s.used).time = s.time := rfl
@[simp] theorem State.used_trk : (s.used).trk = s.trk := rfl
@[simp] theorem State.used_trkAt : (s.used).trkAt = s.trkAt := rfl
@[simp] theorem State.used_phys : (s.used).phys = s.phys := rfl
@[simp] theorem State.used_lcell : (s.used).lcell = s.lcell := rfl
@[simp] theorem State.used_block : (s.used).block = s.block := rfl
@[simp] theorem State.used_sproc : (s.used).sproc = s.sproc := rfl
@[simp] theorem State.used_abort : (s.used).abort = s.abort := rfl
@[simp] theorem State.used_abortIrq : (s.used).abortIrq = s.abortIrq := rfl
@[simp] theorem State.used_gal : (s.used).gal = s.gal := rfl
@[simp] theorem State.used_axis : (s.used).axis = s.axis := rfl
@[simp] theorem State.used_bridge : (s.used).bridge = s.bridge := rfl
@[simp] theorem State.used_grp : (s.used).grp = s.grp := rfl
@[simp] theorem State.used_gdl : (s.used).gdl = s.gdl := rfl
@[simp] theorem State.used_adc : (s.used).adc = s.adc := rfl
@[simp] theorem State.used_dsm : (s.used).dsm = s.dsm := rfl
@[simp] theorem State.used_settle : (s.used).settle = s.settle := rfl
@[simp] theorem State.used_sump : (s.used).sump = s.sump := rfl
@[simp] theorem State.used_pos : (s.used).pos = s.pos := rfl
@[simp] theorem State.used_grt : (s.used).grt = s.grt := rfl
@[simp] theorem State.used_txr : (s.used).txr = s.txr := rfl
@[simp] theorem State.used_echo : (s.used).echo = s.echo := rfl
@[simp] theorem State.used_eth : (s.used).eth = s.eth := rfl
@[simp] theorem State.used_aon : (s.used).aon = s.aon := rfl
@[simp] theorem State.used_can : (s.used).can = s.can := rfl
@[simp] theorem State.used_spi : (s.used).spi = s.spi := rfl
@[simp] theorem State.used_xspi : (s.used).xspi = s.xspi := rfl
@[simp] theorem State.used_uart : (s.used).uart = s.uart := rfl
@[simp] theorem State.used_i2c : (s.used).i2c = s.i2c := rfl
@[simp] theorem State.used_pulse : (s.used).pulse = s.pulse := rfl
@[simp] theorem State.used_avs : (s.used).avs = s.avs := rfl
@[simp] theorem State.used_therm : (s.used).therm = s.therm := rfl
@[simp] theorem State.used_lan : (s.used).lan = s.lan := rfl
@[simp] theorem State.used_power : (s.used).power = s.power := rfl
@[simp] theorem State.used_boot : (s.used).boot = s.boot := rfl
end

/-! ## Registers under the other updates -/

@[simp] theorem State.modPhys_reg (s : State) (p : Fin 128) (f : Phys → Phys) (g : RegFam) (n : Nat) : (s.modPhys p f).reg g n = s.reg g n := rfl
@[simp] theorem State.modCell_reg (s : State) (c : Fin 128) (f : LCell → LCell) (g : RegFam) (n : Nat) : (s.modCell c f).reg g n = s.reg g n := rfl
@[simp] theorem State.modSproc_reg (s : State) (i : Fin 6) (f : SProc → SProc) (g : RegFam) (n : Nat) : (s.modSproc i f).reg g n = s.reg g n := rfl
@[simp] theorem State.modBlock_reg (s : State) (b : Fin 16) (f : Block → Block) (g : RegFam) (n : Nat) : (s.modBlock b f).reg g n = s.reg g n := rfl
@[simp] theorem State.modGrt_reg (s : State) (f : Grotto → Grotto) (g : RegFam) (n : Nat) : (s.modGrt f).reg g n = s.reg g n := rfl
@[simp] theorem State.modGal_reg (s : State) (f : Gallery → Gallery) (g : RegFam) (n : Nat) : (s.modGal f).reg g n = s.reg g n := rfl
@[simp] theorem State.modBr_reg (s : State) (k : Fin 16) (f : Bridge → Bridge) (g : RegFam) (n : Nat) : (s.modBr k f).reg g n = s.reg g n := rfl
@[simp] theorem State.modGdl_reg (s : State) (j : Fin 48) (f : Gdl → Gdl) (g : RegFam) (n : Nat) : (s.modGdl j f).reg g n = s.reg g n := rfl
@[simp] theorem State.modU_reg (s : State) (x : Fin 8) (f : AxisU → AxisU) (g : RegFam) (n : Nat) : (s.modU x f).reg g n = s.reg g n := rfl
@[simp] theorem State.modPos_reg (s : State) (k : Fin 16) (f : Pos → Pos) (g : RegFam) (n : Nat) : (s.modPos k f).reg g n = s.reg g n := rfl
@[simp] theorem State.modSump_reg (s : State) (r : Fin 4) (f : Sump → Sump) (g : RegFam) (n : Nat) : (s.modSump r f).reg g n = s.reg g n := rfl
@[simp] theorem State.modPower_reg (s : State) (f : Power → Power) (g : RegFam) (n : Nat) : (s.modPower f).reg g n = s.reg g n := rfl
@[simp] theorem State.poke_reg (s : State) (a : Nat) (v : Byte) (g : RegFam) (n : Nat) : (s.poke a v).reg g n = s.reg g n := rfl
@[simp] theorem State.used_reg (s : State)  (g : RegFam) (n : Nat) : (s.used).reg g n = s.reg g n := rfl

end Sys2Proof.Machine
end

