-- ==== Sys2Proof/Laws/Ops.lean ====
section
/-! SUPPORT. What the shared operations do, said once: register writes by an agent, the error log, field updates. -/

namespace Sys2Proof.Machine

/-- The access rules admit the write: its effect happens. -/
theorem asWrite_ok {s : State} {ag : Agent} {f : RegFam} {i : Nat} {act : State → State}
    (h : s.accessStatus ag true (f.addr i) = stOK) : s.asWrite ag f i act = act s := by
  simp [State.asWrite, h]

/-- The access rules refuse the write: it is logged. -/
theorem asWrite_refused {s : State} {ag : Agent} {f : RegFam} {i : Nat} {act : State → State}
    (h : s.accessStatus ag true (f.addr i) ≠ stOK) :
    s.asWrite ag f i act = s.refuse ag (s.accessStatus ag true (f.addr i)) 1 (f.addr i) := by
  simp [State.asWrite, h]

theorem reg_setFld_other (s : State) (f g : RegFam) (i j : Nat) (F : Fld) (v : Nat) (h : g.addr j ≠ f.addr i) :
    (s.setFld f i F v).reg g j = s.reg g j := reg_setReg_other s f g i j _ h

theorem reg_setBit_other (s : State) (f g : RegFam) (i j : Nat) (F : Fld) (b : Bool) (h : g.addr j ≠ f.addr i) :
    (s.setBit f i F b).reg g j = s.reg g j := reg_setReg_other s f g i j _ h

theorem reg_flag_other (s : State) (f g : RegFam) (i j : Nat) (F : Fld) (h : g.addr j ≠ f.addr i) :
    (s.flag f i F).reg g j = s.reg g j := reg_setReg_other s f g i j _ h

theorem reg_count_other (s : State) (f g : RegFam) (i j : Nat) (F : Fld) (h : g.addr j ≠ f.addr i) :
    (s.count f i F).reg g j = s.reg g j := reg_setReg_other s f g i j _ h

/-- A flag set by hardware reads 1. -/
theorem bit_flag_same (s : State) (f : RegFam) (i : Nat) (F : Fld) (h : F.hi = F.lo ∧ F.hi < 32) :
    (s.flag f i F).bit f i F = true := bit_setBit_same s f i F true h

/-- The range of R57. -/
theorem clamp_range (x : Int) : incNom - incLim ≤ clampI x (incNom - incLim) (incNom + incLim) ∧
    clampI x (incNom - incLim) (incNom + incLim) ≤ incNom + incLim := by
  unfold clampI incNom incLim
  split
  · omega
  · split <;> omega

theorem clamp_toNat (x : Int) : (BitVec.ofNat 34 (clampI x (incNom - incLim) (incNom + incLim)).toNat).toNat =
    (clampI x (incNom - incLim) (incNom + incLim)).toNat := by
  have hr := clamp_range x
  rw [BitVec.toNat_ofNat]
  apply Nat.mod_eq_of_lt
  revert hr
  generalize clampI x (incNom - incLim) (incNom + incLim) = y
  intro hr
  simp only [incNom, incLim] at hr
  omega

/-- The increment that `setInc` puts in force. -/
theorem setInc_inc (s : State) (x : Int) :
    (s.setInc x).time.inc = BitVec.ofNat 34 (clampI x (incNom - incLim) (incNom + incLim)).toNat := by
  unfold State.setInc
  dsimp only
  split
  · simp only [State.setReg_time]
  · simp only [State.setReg_time, State.flag_time]

end Sys2Proof.Machine
end

