-- ==== Sys2Proof/WellFormed.lean ====
section
/-! DEFINITION. Which commands are well formed: those whose operands the outside world can present. The types of the operands rule
out the rest; a command that is not well formed stands for nothing that happens at the device. -/

namespace Sys2Proof

/-- The data bytes of a CAN frame by its DLC (R512); a remote frame carries none. -/
def CanFrame.bytes (f : CanFrame) : Nat :=
  if f.rtr then 0
  else if f.dlc.toNat ≤ 8 then f.dlc.toNat
  else if !f.fdf then 8
  else [12, 16, 20, 24, 32, 48, 64].getD (f.dlc.toNat - 9) 64

/-- A frame as the bus can carry it (R507, R512, R514): a base identifier in bits 28 to 18, no FD remote frame, BRS and ESI only in an
FD frame, and as many data bytes as the DLC says. -/
def CanFrame.wf (f : CanFrame) : Bool :=
  (f.ide || f.id.toNat % 2 ^ 18 == 0) && !(f.fdf && f.rtr) && (f.fdf || (!f.brs && !f.esi)) && f.data.length == f.bytes

/-- The number of 32-bit words in a scrubbed array (R413). -/
def ScrubArray.words : ScrubArray → Nat
  | .region _ => 0x80000
  | .sysram => 0x200000
  | .tcm _ => 0x20000
  | .grotto => 0x40000
  | .slots => 0x30000
  | .rings => 0x10000

/-- The numbers rise strictly. -/
def rising : List Nat → Bool
  | a :: b :: l => decide (a < b) && rising (b :: l)
  | _ => true

/-- A well-formed command. -/
def Instr.wf : Instr → Bool
  | .registerWrite .. => true
  | .rcRead .. => true
  | .transactionTimeout .. => true
  | .errorEscalation .. => true
  | .fabErrPop .. => true
  | .bankScrub .. => true
  | .arrayScrub arr word _ => decide (word.toNat < arr.words)
  | .timeAdvance => true
  | .timeNsLoRead .. => true
  | .timeIncIntWrite .. => true
  | .timeIncFracWrite .. => true
  | .step .. => true
  | .timeSlewWrite .. => true
  | .srcChange .. => true
  | .timeOfsInWrite .. => true
  | .ppsEdge .. => true
  | .sourceLost => true
  | .holdoverErrbUpdate => true
  | .rateCheck .. => true
  | .trackerEnable .. => true
  | .trackerUpdate => true
  | .sourceFault .. => true
  | .trackerFault .. => true
  | .angleSet .. => true
  | .angCmdPri .. => true
  | .angObsWrite .. => true
  | .modeChange .. => true
  | .submission .. => true
  | .submissionDecision => true
  | .galCancel .. => true
  | .galQuotaWrite .. => true
  | .timeEventCommit .. => true
  | .eventIssue .. => true
  | .nopAction .. => true
  | .cellEvent .. => true
  | .pwmEdge .. => true
  | .pwmLoadall .. => true
  | .adcTrigger .. => true
  | .pin .. => true
  | .ringPush .. => true
  | .echoSend .. => true
  | .columnIrq .. => true
  | .safeCheck .. => true
  | .holdRetry .. => true
  | .holdTimeout .. => true
  | .ringEnable .. => true
  | .ringDisable .. => true
  | .ringConsWrite .. => true
  | .ringProdWrite .. => true
  | .add .. => true
  | .sub .. => true
  | .addw .. => true
  | .subw .. => true
  | .and .. => true
  | .or .. => true
  | .xor .. => true
  | .andn .. => true
  | .shl .. => true
  | .shr .. => true
  | .sra .. => true
  | .shls .. => true
  | .min .. => true
  | .max .. => true
  | .minu .. => true
  | .maxu .. => true
  | .neg .. => true
  | .abs .. => true
  | .clip .. => true
  | .cls .. => true
  | .clz .. => true
  | .mov .. => true
  | .avg .. => true
  | .ror .. => true
  | .addi .. => true
  | .andi .. => true
  | .ori .. => true
  | .xori .. => true
  | .shiShl .. => true
  | .shiShr .. => true
  | .shiSra .. => true
  | .shiShls .. => true
  | .shiRor .. => true
  | .li .. => true
  | .lih .. => true
  | .extu .. => true
  | .exts .. => true
  | .ins .. => true
  | .cmp .. => true
  | .cmpi .. => true
  | .plog .. => true
  | .mull .. => true
  | .mulh .. => true
  | .mulhu .. => true
  | .mulf .. => true
  | .mulw .. => true
  | .mac .. => true
  | .msu .. => true
  | .mpy .. => true
  | .maci .. => true
  | .mac2 .. => true
  | .macd .. => true
  | .macx .. => true
  | .mpyd .. => true
  | .mpyx .. => true
  | .clra .. => true
  | .ldah .. => true
  | .ldaw .. => true
  | .rdah .. => true
  | .rdaw .. => true
  | .sha .. => true
  | .adda .. => true
  | .suba .. => true
  | .nega .. => true
  | .mova .. => true
  | .div .. => true
  | .divu .. => true
  | .rem .. => true
  | .remu .. => true
  | .divf .. => true
  | .ld .. => true
  | .ldu .. => true
  | .st .. => true
  | .ldstxLoad .. => true
  | .ldstxStore .. => true
  | .writeBufferDrain .. => true
  | .accessPostedTrap .. => true
  | .br .. => true
  | .call .. => true
  | .jr .. => true
  | .jrLink .. => true
  | .loop .. => true
  | .nop .. => true
  | .trap .. => true
  | .eret .. => true
  | .brk .. => true
  | .mfs .. => true
  | .mts .. => true
  | .eventEntry .. => true
  | .clarke .. => true
  | .clarke3 .. => true
  | .park .. => true
  | .ipark .. => true
  | .sincos .. => true
  | .sv .. => true
  | .sin .. => true
  | .dmin .. => true
  | .vec .. => true
  | .rot .. => true
  | .pi .. => true
  | .pid .. => true
  | .gbrd .. => true
  | .gbrda .. => true
  | .gbwr .. => true
  | .lutg .. => true
  | .blkmac .. => true
  | .movb .. => true
  | .fillb .. => true
  | .ckpt .. => true
  | .submit .. => true
  | .wait .. => true
  | .waitp .. => true
  | .waitTimeout .. => true
  | .fenceB .. => true
  | .fenceR .. => true
  | .fenceC .. => true
  | .fenceE .. => true
  | .fenceComplete .. => true
  | .start .. => true
  | .imageCopyDone .. => true
  | .stop .. => true
  | .cellBindWrite .. => true
  | .kick .. => true
  | .trapesc .. => true
  | .wdt .. => true
  | .ckage .. => true
  | .migrationComplete .. => true
  | .migrationHoldTimeout .. => true
  | .releasePhysical .. => true
  | .pmcOverflowEntry .. => true
  | .axVdqWrite .. => true
  | .apply .. => true
  | .excl .. => true
  | .readmit .. => true
  | .oppStart .. => true
  | .oppSwitch .. => true
  | .oppStop .. => true
  | .ssxCtrlStart .. => true
  | .ssxCtrlStop .. => true
  | .zeroCrossing .. => true
  | .commutation .. => true
  | .forcedCommutation .. => true
  | .rampCommutation .. => true
  | .ssxPhaseTimer .. => true
  | .groupEnable .. => true
  | .groupStart .. => true
  | .groupDisable .. => true
  | .periodBoundary .. => true
  | .pmid .. => true
  | .shadowSnapshot .. => true
  | .pwmLoadallWrite .. => true
  | .carrierEdge .. => true
  | .tableEdge .. => true
  | .listEdge .. => true
  | .minPulseRelease .. => true
  | .deadTimeExpiry .. => true
  | .maskIndexSet .. => true
  | .gdlEnable .. => true
  | .gdlInitRetry .. => true
  | .gdlRead .. => true
  | .gdlWrite .. => true
  | .clrf .. => true
  | .gdlNop .. => true
  | .replyFrame .. => true
  | .gdlReplyTimeout .. => true
  | .gdlSilenceTimeout .. => true
  | .stuckLine .. => true
  | .faultFrame .. => true
  | .pollRound .. => true
  | .scanStart .. => true
  | .adcResult .. => true
  | .refrdy .. => true
  | .dsmOutput .. => true
  | .dsmSync .. => true
  | .dsmArm .. => true
  | .stuckRun .. => true
  | .comparatorOutputChange .. => true
  | .settleEnd .. => true
  | .sampledEvaluation .. => true
  | .chopperTimer .. => true
  | .energyModelUpdate .. => true
  | .episodeEnd .. => true
  | .sumpDisch .. => true
  | .dstop .. => true
  | .dischargePulseTimer .. => true
  | .dischargeTimeout .. => true
  | .posSample .. => true
  | .excitationCheck .. => true
  | .quadEdge .. => true
  | .referenceMark .. => true
  | .hallEdge .. => true
  | .ssiFrameStart .. => true
  | .ssiFrameEnd .. => true
  | .posSet .. => true
  | .zarm .. => true
  | .posArm .. => true
  | .comparePulseEnd .. => true
  | .dividerStep .. => true
  | .ascDeadTimeExpiry .. => true
  | .orderRefreshTimeout => true
  | .lockstepMismatch .. => true
  | .asyncMismatch .. => true
  | .injectionPass .. => true
  | .confirmedAliasRead .. => true
  | .doorbell .. => true
  | .mailboxReply .. => true
  | .ss1 .. => true
  | .sto .. => true
  | .release .. => true
  | .clrflt .. => true
  | .disch .. => true
  | .pwrreq .. => true
  | .openSession .. => true
  | .paramWrite .. => true
  | .check .. => true
  | .confirm .. => true
  | .loadconf .. => true
  | .close .. => true
  | .paramRead .. => true
  | .heartbeatTimeout .. => true
  | .clockMonitor .. => true
  | .supplyFault .. => true
  | .tapSample .. => true
  | .torqueMonitorSlice .. => true
  | .ascExit .. => true
  | .dischargeRequest .. => true
  | .envelopeTimeout .. => true
  | .grottoInitComplete .. => true
  | .ccvCheck .. => true
  | .safeInputChange .. => true
  | .testPulse .. => true
  | .discrepancyTimeout .. => true
  | .xlFrameReceived .. => true
  | .xlStatusSend .. => true
  | .xlTimeout .. => true
  | .csrr .. => true
  | .csrw .. => true
  | .csrs .. => true
  | .csrc .. => true
  | .curchWrite .. => true
  | .swi .. => true
  | .interruptEntry .. => true
  | .cacheInvalidateLine .. => true
  | .cacheWritebackLine .. => true
  | .cacheFlushLine .. => true
  | .cacheInvalidateIline .. => true
  | .cacheFlushData .. => true
  | .cacheInvalidateInstr .. => true
  | .bmov .. => true
  | .bmovFill .. => true
  | .savem .. => true
  | .restm .. => true
  | .wfi .. => true
  | .chamberCreate .. => true
  | .chamberDelete .. => true
  | .assign .. => true
  | .assignFree .. => true
  | .fabQuery .. => true
  | .abortCell .. => true
  | .abortBlock .. => true
  | .abortLink .. => true
  | .abortRegion .. => true
  | .abortChamber .. => true
  | .abortComplete .. => true
  | .columnWatchdogExpiry .. => true
  | .colkick .. => true
  | .columnReset .. => true
  | .columnRestart .. => true
  | .echoData .. => true
  | .echoAck .. => true
  | .ttSync .. => true
  | .ttResp .. => true
  | .echoBreak .. => true
  | .mend .. => true
  | .ttSyncSend .. => true
  | .ttTimeout .. => true
  | .portUp .. => true
  | .portDown .. => true
  | .echoSlotTransmit .. => true
  | .ackTimeout => true
  | .ethFrameReceived _ l _ => !l.isEmpty
  | .ethTransmit .. => true
  | .ethLinkChange .. => true
  | .mdioTransaction .. => true
  | .mdioDone .. => true
  | .canFrameReceived _ f _ => f.wf
  | .canReq .. => true
  | .canAbort .. => true
  | .txSelection .. => true
  | .canTxEnd .. => true
  | .recover .. => true
  | .busOffRecovery .. => true
  | .spiTxdWrite .. => true
  | .spiWordDone .. => true
  | .spiTargetWrite .. => true
  | .spiTargetRead .. => true
  | .spiTargetStatus => true
  | .spiCsRise .. => true
  | .xspiCmd .. => true
  | .xspiDone .. => true
  | .uartTxdWrite .. => true
  | .uartRxByte .. => true
  | .i2cCmd .. => true
  | .i2cDone .. => true
  | .i2cTimeout .. => true
  | .gpioSet .. => true
  | .gpioClr .. => true
  | .gpioInputChange .. => true
  | .pinPulseEnd .. => true
  | .avsWriteVoltage .. => true
  | .avsReadVoltage .. => true
  | .avsReadStatus .. => true
  | .avsStatusPoll .. => true
  | .avsResend .. => true
  | .avsTimeout .. => true
  | .sensorRound .. => true
  | .halt => true
  | .serviceWrite .. => true
  | .currentEstimate c q d => decide (c ≤ 819200) && decide (q ≤ 128000) && decide (d ≤ 6400)
  | .lanternStep .. => true
  | .doze .. => true
  | .keep .. => true
  | .quiescence => true
  | .quiescenceTimeout => true
  | .entryDrain => true
  | .entryCommit => true
  | .entryComplete => true
  | .dozeExit => true
  | .consentExpiry => true
  | .wakeSample .. => true
  | .wake => true
  | .wakePowerUp => true
  | .wakePllLock .. => true
  | .wakeFailure => true
  | .wakeRetry => true
  | .powerOnReset => true
  | .supplyMonitorReset .. => true
  | .grottoReset .. => true
  | .coldReset .. => true
  | .warmReset .. => true
  | .wrst .. => true
  | .colhHaltReset => true
  | .resetRelease .. => true
  | .selfTestWave .. => true
  | .boot .. => true
  | .newchal .. => true
  | .nonceReady .. => true
  | .dbgSubmit .. => true
  | .dbgDecision => true
  | .dripSlice _ fails => rising fails
  | .tapReset => true
  | .extest .. => true
  | .idcode => true
  | .samplePreload .. => true
  | .clamp => true
  | .highz => true
  | .extestPulse .. => true
  | .extestTrain .. => true
  | .debug => true
  | .bypass => true
  | .dbgaccAccess .. => true
  | .timerCompare .. => true
  | .rampLimitExpiry .. => true
  | .canReceiveError .. => true
  | .uartTxByteDone .. => true
  | .avsFrameEnd .. => true

end Sys2Proof
end

