-- ==== Sys2Proof/Tests/Slice0.lean ====
section
/-! SUPPORT. Tests of the model. The smoke of `Instr.wf`: an ill-formed command for each check. For every statement with hypotheses, a
state and operands that meet them (`witness_…`, named after the obligation; one conjunct a clause). And a few single steps
(`test_…`), whose expected values are worked out by hand from the rules named at each. -/

namespace Sys2Proof.Tests

set_option Elab.async false

open Sys2Proof.Machine

/-! ## Well-formed commands -/

/-- A classic data frame with one byte. -/
def frame1 : CanFrame := { id := 0x40000, ide := false, fdf := false, brs := false, esi := false, rtr := false, dlc := 1, data := [7] }

theorem smoke_can : (Instr.canFrameReceived 0 frame1 0).wf = true ∧
    (Instr.canFrameReceived 0 { frame1 with id := 0x40001 } 0).wf = false ∧
    (Instr.canFrameReceived 0 { frame1 with fdf := true, rtr := true, data := [] } 0).wf = false ∧
    (Instr.canFrameReceived 0 { frame1 with brs := true } 0).wf = false ∧
    (Instr.canFrameReceived 0 { frame1 with esi := true } 0).wf = false ∧
    (Instr.canFrameReceived 0 { frame1 with data := [] } 0).wf = false ∧
    (Instr.canFrameReceived 0 { frame1 with dlc := 9, data := List.replicate 9 0 } 0).wf = false := by decide

theorem smoke_scrub : (Instr.arrayScrub .grotto 0x3FFFF .clean).wf = true ∧ (Instr.arrayScrub .grotto 0x40000 .clean).wf = false := by
  decide

theorem smoke_drip : (Instr.dripSlice 0 [1, 4]).wf = true ∧ (Instr.dripSlice 0 [4, 4]).wf = false := by decide

theorem smoke_eth : (Instr.ethFrameReceived 0 [1] 0).wf = true ∧ (Instr.ethFrameReceived 0 [] 0).wf = false := by decide

theorem smoke_current : (Instr.currentEstimate 819200 128000 6400).wf = true ∧ (Instr.currentEstimate 819201 0 0).wf = false ∧
    (Instr.currentEstimate 0 128001 0).wf = false ∧ (Instr.currentEstimate 0 0 6401).wf = false := by decide

/-- The table gives no row a word of its own, so no word spells a command and nothing is put in front. -/
theorem test_decode_none : decodeTableWord 0 0 = none ∧ decodeTableWord 32 0x04000000 = none ∧
    State.reset.withFetchWord 32 0x04000000 = State.reset := ⟨rfl, rfl, rfl⟩

/-! ## Small states -/

/-- The next state of a command. -/
def nx (i : Instr) (s : State) : State :=
  match exec i s with
  | .next t => t
  | .fault _ => s
  | .refused _ => s

/-- The machine after start-up: every column runs. -/
def up : State := { State.reset with boot := { bootReset with start := .up }, sproc := Vector.replicate 6 sprocReset }

/-- COLH. -/
abbrev colh : Agent := .col 4

/-- The fabric clock stands still: DEEP sleep. -/
def asleep : State := { up with power := { powerReset with phase := .asleep 1 } }

/-- Cell 0 is RUNNING on physical cell 0, where the reset map puts it. -/
def cellUp : State := (up.setLstate 0 1).setPstate 0 1

/-! ## The block, TIME and the trackers -/

theorem witness_invariants : State.reset.memOk ∧ State.reset.incOk ∧ State.reset.logOk ∧ State.reset.galOk ∧
    State.reset.echoOk ∧ State.reset.time.now.toNat + 2 ^ 40 < 2 ^ 96 ∧
    { State.reset with mem := [(0x10000000, 1)] }.memOk ∧ { State.reset with fabLog := List.replicate 16 ⟨0, 0, 0⟩ }.logOk ∧
    ¬ { State.reset with mem := [(0x10000000, 0)] }.memOk ∧ ¬ { State.reset with fabLog := List.replicate 17 ⟨0, 0, 0⟩ }.logOk ∧
    { State.reset with time := { timeReset with inc := 6717597286 } }.incOk ∧
    ¬ { State.reset with time := { timeReset with inc := 6717597287 } }.incOk := by decide +kernel

/-- SRC = 1, the servo on. -/
def servo : State := (up.setFld TIME_CTRL 0 TIME_CTRL_SRC 1).setBit TIME_CTRL 0 TIME_CTRL_SERVO_EN true

theorem witness_timeWrites : servo.bit TIME_CTRL 0 TIME_CTRL_SERVO_EN = true ∧ up.bit TIME_CTRL 0 TIME_CTRL_SERVO_EN = false ∧
    (∀ s ∈ [servo, up], s.accessStatus colh true (TIME_INC_INT.addr 0) = stOK ∧
      s.accessStatus colh true (TIME_INC_FRAC.addr 0) = stOK ∧ s.accessStatus colh true (TIME_SLEW.addr 0) = stOK ∧
      s.accessStatus colh true (TIME_CTRL.addr 0) = stOK ∧ s.accessStatus colh false (TIME_NS_LO.addr 0) = stOK) := by
  decide +kernel

/-- A step to 1 ns waits. -/
def stepping : State := { up with time := { timeReset with stepTarget := some 1 } }

theorem witness_TimeAdvances : up.heldScope ≠ 3 ∧ up.fabricOn = true ∧ up.time.stepTarget = none ∧ stepping.heldScope ≠ 3 ∧
    stepping.fabricOn = true ∧ stepping.time.stepTarget = some 1 ∧ asleep.heldScope ≠ 3 ∧ asleep.fabricOn = false := by decide +kernel

/-- SRC = 3: the rising edge of GPIO 0. -/
def pps : State := (up.setFld TIME_CTRL 0 TIME_CTRL_SRC 3).setBit TIME_CTRL 0 TIME_CTRL_SERVO_EN true

theorem witness_OffsetSamples : up.accessStatus colh true (TIME_OFS_IN.addr 0) = stOK ∧ up.fld TIME_CTRL 0 TIME_CTRL_SRC ≠ 1 ∧
    servo.accessStatus colh true (TIME_OFS_IN.addr 0) = stOK ∧ servo.fld TIME_CTRL 0 TIME_CTRL_SRC = 1 ∧
    servo.bit TIME_CTRL 0 TIME_CTRL_SERVO_EN = true ∧ servo.time.stepTick ≠ some servo.tick ∧ servo.time.first = true ∧
    pps.fabricOn = true ∧ pps.fld TIME_CTRL 0 TIME_CTRL_SRC = 3 ∧ pps.fld TIME_CTRL 0 TIME_CTRL_PPS_GPIO = 0 ∧
    (true = !pps.bit TIME_CTRL 0 TIME_CTRL_PPS_POL) ∧ pps.bit TIME_CTRL 0 TIME_CTRL_SERVO_EN = true ∧
    pps.time.stepTick ≠ some pps.tick := by decide +kernel

/-- No sample for 25.5 seconds: the level is LOCKED, and unlocked since power-on. -/
def late4 : State := { servo.setLevel 4 with time := { timeReset with sinceTicks := 16320000000, everLocked := true } }
def late1 : State := { servo with time := { timeReset with sinceTicks := 16320000000 } }

theorem witness_TimeQualityEvents :
    (∀ s ∈ [late4, late1], s.fabricOn = true ∧ s.bit TIME_CTRL 0 TIME_CTRL_SERVO_EN = true ∧ srcOf (s.reg TIME_CTRL 0) ≠ 0 ∧
      max 1 (s.fld TIME_SERVO 0 TIME_SERVO_HOLD_TMO) * 64000000 ≤ s.time.sinceTicks) ∧
    late4.level = 4 ∧ late1.level ≠ 4 ∧ late1.time.everLocked = false ∧ (late4.setLevel 3).level ≠ 4 ∧
    (late4.setLevel 3).time.everLocked = true ∧ up.level ≠ 2 ∧ (up.setLevel 2).level = 2 ∧ up.fabricOn = true := by decide +kernel

/-- Axis 0's tracker on, neither source configured; with source 0 an interface; with source 0 an observer. -/
def trk : State := ((up.setReg ANG_SRC 0 0xFFFFFFFF).setBit ANG_CFG 0 ANG_CFG_EN true).setFld ANG_LIM 0 ANG_LIM_COAST_MAX 2
def trkIf : State := trk.setFld ANG_SRC 0 ANG_SRC_SEL0 0
def trkObs : State := trk.setFld ANG_SRC 0 ANG_SRC_SEL0 8

theorem witness_TrackerWrites : trk.accessStatus colh true (ANG_CFG.addr 0) = stOK ∧ up.trkOn 0 = false ∧ trk.trkOn 0 = true ∧
    ANG_CFG_MODE.get 1 = trk.fld ANG_CFG 0 ANG_CFG_MODE ∧ trk.accessStatus colh true (ANG_CMD.addr 0) = stOK ∧
    trkIf.srcGood 0 0 = true ∧ trk.srcGood 0 0 = false ∧ trk.accessStatus colh true (ANG_OBS.addr 0) = stOK ∧
    up.accessStatus colh true (ANG_CFG.addr 7) = stOK ∧ up.accessStatus colh true (ANG_CMD.addr 7) = stOK ∧
    up.accessStatus colh true (ANG_OBS.addr 7) = stOK := by decide +kernel

theorem witness_TrackerUpdates : trk.fabricOn = true ∧ trk.tick % 640 = 0 ∧ trk.trkAt ≠ some trk.tick ∧ trk.trkOn 0 = true ∧
    trk.trkOn 7 = false ∧ trk.trkSel 0 0 = none ∧ trk.trkSel 0 1 = none ∧
    (nx .trackerUpdate trk).fld ANG_STAT 0 ANG_STAT_COAST = 1 ∧ (nx .trackerUpdate trk).trkAt = some 0 ∧
    (nx .trackerUpdate (nx .trackerUpdate trk)) = nx .trackerUpdate trk := by decide +kernel

theorem witness_TrackerFaults : trkIf.fabricOn = true ∧ trkIf.tick % 640 = 0 ∧ trkIf.trkAt ≠ some trkIf.tick ∧ trkIf.trkOn 0 = true ∧
    trkIf.trkSel 0 0 = some (.iface 0) ∧ trkIf.bit POS_STAT 0 POS_STAT_HEALTHY = false ∧ trkIf.trkSel 0 1 = none ∧
    (vget (trkIf.tr 0).src 1).faulted = false ∧ trkObs.fabricOn = true ∧ trkObs.trkSel 0 0 = some .observer ∧
    ((trkObs.modSrc 0 0 fun x => { x with obsAge := 63 }).obsTmo 0 ≤
      (vget ((trkObs.modSrc 0 0 fun x => { x with obsAge := 63 }).tr 0).src 0).obsAge + 1) ∧
    (let s := trk.modTrk 0 fun t => { t with coasts := 2 }
     s.fabricOn = true ∧ s.trkOn 0 = true ∧ max 1 (s.fld ANG_LIM 0 ANG_LIM_COAST_MAX) ≤ (s.tr 0).coasts) := by decide +kernel

/-- R56, R60: 640 fabric ticks are 1 µs; one tick adds 1.5625 ns. -/
theorem test_time_tick : (nx .timeAdvance up).time.now = 0x190000000 ∧ (nx .timeAdvance up).tick = 1 := by decide +kernel

/-- R62: a step to 1 ns at the tick that reaches 1.5625 ns is refused; one to 2 ns is taken, with a fraction of 0. -/
theorem test_time_step : (nx .timeAdvance stepping).bit TIME_STAT 0 TIME_STAT_STEP_REF = true ∧
    (nx .timeAdvance stepping).time.now = 0x190000000 ∧
    (nx .timeAdvance { up with time := { timeReset with stepTarget := some 2 } }).time.now = 0x200000000 := by decide +kernel

/-- R57: an increment of 2 ns is clamped to 1.5625 ns + 1,000 ppm, 6,710,886,400 + 6,710,886 units. -/
theorem test_time_clamp : (nx (.timeIncFracWrite colh 0) (nx (.timeIncIntWrite colh 2) up)).time.inc = 6717597286 ∧
    (nx (.timeIncFracWrite colh 0) (nx (.timeIncIntWrite colh 2) up)).bit TIME_STAT 0 TIME_STAT_INC_CLAMP = true ∧
    (nx (.timeIncIntWrite colh 2) up).time.inc = 0x190000000 := by decide +kernel

/-- R79: SUBSTITUTE mode takes source 1 when the interface of source 0 is not HEALTHY. -/
theorem test_source_fault : (nx (.sourceFault 0 0) (trkIf.setFld ANG_CFG 0 ANG_CFG_MODE 1)).bit ANG_STAT 0 ANG_STAT_SUB = true ∧
    (nx (.sourceFault 0 0) (trkIf.setFld ANG_CFG 0 ANG_CFG_MODE 1)).bit ANG_STAT 0 ANG_STAT_SF0 = true := by decide +kernel

/-! ## The Gallery and its rings -/

/-- Ring 0: 16 entries of 16 bytes at the start of system SRAM, enabled, on its first lap. -/
def ring0 : State :=
  (((up.setFld GAL_RING_BASE 0 GAL_RING_BASE_BASE 0x1000000).setFld GAL_RING_CFG 0 GAL_RING_CFG_LDEPTH 4).setFld GAL_RING_CFG 0
    GAL_RING_CFG_PGEN 1).setBit GAL_RING_CFG 0 GAL_RING_CFG_EN true

/-- An event of engine 0 in slot 0, committed and issued, with an action code and ARG; REPORT = 1. -/
def ev (action : Nat) (arg : Word) : GEvent :=
  { slot := 0, w0 := 0, w1 := 0, w2 := GAL_SUB_W2_REPORT.put (GAL_SUB_W2_ACTION.put 0 action) 1, w3 := arg, chamber := 0, engine := 0,
    order := 0, dir := 0, committed := true, instant := none, due := none, lc := 0, exempt := false,
    issued := some { tick := 0, phase := 0, first := 0, late := 0, ns := 0 }, held := false, span := none, doomed := false }

/-- Ring 0 and one event. -/
def withEv (e : GEvent) : State := { ring0 with gal := { galleryReset with events := [e] } }

/-- Ring 0 and one submission of a cell or of COLH. -/
def withSub (ag : Agent) (w2 w3 : Word) : State :=
  { ring0 with gal := { galleryReset with waiting := [{ agent := ag, chamber := 0, w0 := 0, w1 := 0, w2 := w2, w3 := w3, src := .reg }] } }

theorem witness_GallerySubmissions : up.accessStatus colh true (GAL_SUB_GO.addr 0) = stOK ∧ GAL_SUB_GO_GO.get 0 ≠ 1 ∧
    GAL_SUB_GO_GO.get 1 = 1 ∧ asleep.fabricOn = false ∧ up.gal.waiting.all (fun u => decide (16 ≤ u.chamber)) = true ∧
    (withSub colh 0 0).fabricOn = true ∧ (withSub colh 0 0).gal.waiting.any (fun u => decide (u.chamber < 16)) = true ∧
    (withSub colh 0 0).gal.waiting.all (fun u => (withSub colh 0 0).checkSub u == stOK) = true ∧
    (withSub colh (GAL_SUB_W2_ACTION.put 0 0xA) 0).gal.waiting.all
      (fun u => (withSub colh (GAL_SUB_W2_ACTION.put 0 0xA) 0).checkSub u == stBAD_TARGET) = true ∧
    (withSub colh 0 0).gal.events.length < 49152 ∧ up.accessStatus colh true (GAL_QUOTA.addr 15) = stOK ∧ chamberOf up colh = 0 ∧
    (let sum (v : Word) := ((List.range 16).map fun i => if i = 15 then GAL_QUOTA_RSV.get v else up.fld GAL_QUOTA i GAL_QUOTA_RSV).sum
     sum 0 ≤ 49152 ∧ 49152 < sum 0xFFFF) := by decide +kernel

theorem witness_GalleryCancelAndCommit : up.accessStatus colh true (GAL_CANCEL.addr 0) = stOK ∧
    up.eventAt (GAL_CANCEL_SLOT.get 0) = none ∧
    (let e := { ev 0 0 with committed := false, issued := none }
     let s := withEv e
     s.eventAt (GAL_CANCEL_SLOT.get 0) = some e ∧ (s.slotTag 0).toNat = GAL_CANCEL_TAG.get 0 ∧
       (s.slotTag 0).toNat ≠ GAL_CANCEL_TAG.get (GAL_CANCEL_TAG.put 0 1) ∧ chamberOf s colh = 0 ∧
       s.accessStatus colh true (GAL_CANCEL.addr 0) = stOK ∧
       s.fabricOn = true ∧ e.angle = false ∧ e.committed = false ∧ s.isNear e.timeStamp = true ∧ s.slotFault e = none ∧
       s.isNear { e with w1 := 1 }.timeStamp = false ∧ { e with w2 := GAL_SUB_W2_DOMAIN.put 0 1 }.angle = true) ∧
    (let e := { ev 0 0 with committed := false, chamber := 2 }
     let s := { withEv e with owner := smSet [] 0x0103 3 }
     s.eventAt 0 = some e ∧ e.committed = false) ∧ asleep.fabricOn = false := by decide +kernel

theorem witness_EventIssue :
    (let s := withEv { ev 0 0 with issued := none }
     let s1 := s.latchDue
     s.fabricOn = true ∧ s.tick % 4 = 0 ∧ (s.engine 0).slotUsed ≠ some s.tick ∧ (s.engine 0).retryUsed ≠ some s.tick ∧
       ((s1.nextIssue 0).any fun v => (s1.slotFault v).isNone && (s1.dueOf v).isSome && !v.mustNotLate && !v.doomed) = true) ∧
    ring0.latchDue.nextIssue 0 = none ∧ ring0.fabricOn = true ∧ ring0.tick % 4 = 0 ∧ ¬ asleep.fabricOn = true ∧
    (let s := { withEv { ev 0 0 with issued := none, due := some (0, 0), w2 := GAL_SUB_W2_MUSTNOT_LATE.put 0 1 } with tick := 8000 }
     let s1 := s.latchDue
     s.fabricOn = true ∧ s.tick % 4 = 0 ∧
       ((s1.nextIssue 0).any fun v => (s1.slotFault v).isNone && (s1.dueOf v).isSome && v.mustNotLate && !v.exempt &&
         decide (s.fld GAL_RING_TOL v.hring GAL_RING_TOL_TOL < min 0xFFFF (((s.issueSlot / 2 : Nat) - (0 : Int)).toNat + v.lc))) = true) ∧
    (let s := withEv { ev 1 0 with held := true }
     s.fabricOn = true ∧ (s.engine 0).slotUsed ≠ some s.issueSlot ∧ (s.engine 0).retryUsed ≠ some s.issueSlot ∧ s.nextIssue 0 = none ∧
       nextChamber (s.engine 0).retry (fun c => s.gal.events.any fun v => v.held && v.engine == 0 && v.chamber == c) = some 0 ∧
       (s.gal.events.find? fun v => v.held && v.engine == 0 && v.chamber == 0) = some { ev 1 0 with held := true }) ∧
    (let s := { withEv { ev 1 0 with held := true } with tick := 1280 }
     s.fabricOn = true ∧ (s.gal.events.find? fun v => v.held && v.engine == 0 &&
       (match v.issued with | some i => decide (i.first + 1280 ≤ s.tick) | none => false)).isSome = true) := by decide +kernel

theorem witness_GalleryActions : (∀ a < 10, ((withEv (ev a 0)).firedEvent 0 a).map (·.1) = some (ev a 0)) ∧
    (∀ a < 10, up.firedEvent 0 a = none) ∧
    ((withEv (ev 1 0)).pushFifo 0 { vec := 0, payload := 0, ring := none } = none) ∧
    (cellUp.pushFifo 0 { vec := 0, payload := 0, ring := none }).isSome = true ∧
    (let s := (withEv (ev 2 0)).modBr 0 fun b => { b with act := { b.act with bmode := PWM_BMODE_MODE.put 0 2 } }
     s.firedEvent 0 2 ≠ none ∧ s.bMode 0 = 2 ∧ (vget (s.br 0).outs 0).queue.length < 32) ∧ (withEv (ev 2 0)).bMode 0 ≠ 2 ∧
    (ev 3 0).arg 7 0 = 0 ∧ (ev 3 0x81).arg 7 0 ≠ 0 ∧ (withEv (ev 3 0x81)).firedEvent 0 3 ≠ none ∧
    bitN ((ev 3 0x81).arg 7 0) 7 = true ∧ (withEv (ev 3 0x81)).bit PWM_GCTL 7 PWM_GCTL_EN = false ∧
    ((withEv (ev 3 1)).setBit PWM_GCTL 0 PWM_GCTL_EN true).bit PWM_GCTL 0 PWM_GCTL_EN = true ∧
    ((withEv (ev 6 5)).ringPush 0 ((withEv (ev 6 5)).entryBody (ev 6 5) 5) stOK 1 6).isSome = true ∧
    ((withEv (ev 6 5)).setBit GAL_RING_CFG 0 GAL_RING_CFG_EN false).firedEvent 0 6 ≠ none := by decide +kernel

theorem witness_NopReports : (withEv (ev 0 7)).firedEvent 0 0 ≠ none ∧ GAL_SUB_W2_REPORT.get (ev 0 7).w2 = 1 ∧
    (withEv (ev 0 7)).ringRx (ev 0 7).hring = true ∧ (withEv (ev 0 7)).ringFull (ev 0 7).hring = false ∧ (ev 0 7).chamber < 16 ∧
    (withEv (ev 0 7)).memOk := by decide +kernel

theorem witness_RingSetup : up.accessStatus colh true (GAL_RING_CFG.addr 16383) = stOK ∧
    up.bit GAL_RING_CFG 16383 GAL_RING_CFG_EN = false ∧ ring0.accessStatus colh true (GAL_RING_CFG.addr 0) = stOK ∧
    ring0.bit GAL_RING_CFG 0 GAL_RING_CFG_EN = true ∧ ring0.fld GAL_RING_TOL 0 GAL_RING_TOL_PEND = 0 ∧
    (ring0.setFld GAL_RING_TOL 0 GAL_RING_TOL_PEND 1).fld GAL_RING_TOL 0 GAL_RING_TOL_PEND ≠ 0 ∧ up.fabLog.length < 16 ∧
    ring0.accessStatus colh true (GAL_RING_IDX.addr 0) = stOK ∧ ring0.ringPlaced 0 = true ∧ up.ringPlaced 0 = false := by decide +kernel

/-- R117, R119: the NOP's report stands at the old PROD: ARG, TIME, slot and lateness, and a trailer of lap 1 and KIND 2; PROD is 1. -/
theorem test_nop_report : memWord (nx (.nopAction 0) (withEv (ev 0 7))).mem 0x10000000 = 7 ∧
    (nx (.nopAction 0) (withEv (ev 0 7))).fld GAL_RING_IDX 0 GAL_RING_IDX_PROD = 1 ∧
    memWord (nx (.nopAction 0) (withEv (ev 0 7))).mem (0x10000000 + ring0.ringEntry 0 - 4) = 0x01002000 := by decide +kernel

/-- R93: a COLUMN_IRQ action for COLH raises its Gallery line. -/
theorem test_column_irq : (nx (.columnIrq 0) (withEv (ev 8 4))).gal.events = [] ∧
    ((vget (nx (.columnIrq 0) (withEv (ev 8 4))).sproc 4).lines.toList.any (·.isSome)) = true := by decide +kernel

/-- R100: a cancelled event's slot has the next tag. -/
theorem test_cancel : ((nx (.galCancel colh 0) (withEv { ev 0 0 with committed := false, issued := none })).slotTag 0).toNat =
    ((withEv (ev 0 0)).slotTag 0).toNat + 1 := by decide +kernel

/-! ## Sornas processors -/

/-- Cell 0 with a register file. -/
def core0 (f : Core → Core) : State := cellUp.modPhys 0 fun ph => { ph with core := f ph.core }

theorem witness_mayRun : (cellUp.mayRun (.cell 0) 0 ∧ up.mayRun (.col 4) 0 ∧ up.mayRun .grotto 0) ∧ (vget cellUp.lcell 0).twin = none := by
  unfold State.mayRun; decide +kernel

theorem witness_SornasAlu : allData .c [1, 2, 15] = true ∧ allData .s [1, 2, 31] = true ∧ allRegs .c [16, 1, 2] = true ∧
    anyAddr .c [16, 1, 2] = true ∧ allRegs .c [23, 16] = true ∧ anyAddr .c [23, 16] = true := by decide +kernel

theorem witness_SornasImmediates : allData .c [0, 15] = true ∧ allRegs .c [23, 16] = true ∧ anyAddr .c [23, 16] = true ∧
    (63 : BitVec 10).toNat < 64 ∧ allRegs .c [16] = true ∧ isBase .c 16 = true ∧ isBase .s 1 = true ∧
    (15 : BitVec 5).toNat + (0 : BitVec 5).toNat + 1 ≤ wordBits .c ∧ condAddr 0 = true ∧ condAddr 2 = false ∧
    allData .c [1, 2] = true := by decide +kernel

theorem witness_SornasMultiply : allData .c [2, 1, 3] = true ∧ (2 : BitVec 5).toNat % 2 = 0 ∧ isPair .c 2 = true ∧ isPair .c 14 = true ∧
    (0 : BitVec 2) ≠ 1 ∧ (15 : BitVec 5).toNat < 16 ∧ 16 ≤ (16 : BitVec 5).toNat := by decide +kernel

theorem witness_SornasGuards : cellUp.canRun (.cell 0) = true ∧ up.canRun (.cell 0) = false ∧ (cellUp.coreOf (.cell 0)).guard 1 = some false ∧
    allRegs .c [31, 1, 2] = false ∧ allData .c [16, 1, 2] = false ∧ allData .c [1, 2, 3] = true := by decide +kernel

theorem witness_SornasTraps :
    (cellUp.cellCores 0).Nodup ∧ ((cellUp.cellCores 0).all fun q => !(vget cellUp.phys q).core.stb 13) = true ∧
    cellUp.canRun (.cell 0) = true ∧ (cellUp.coreOf (.cell 0)).guard 0 = some true ∧ cellUp.debuggerUnlocked = false ∧
    (cellUp.setFld DBG_STAT 0 DBG_STAT_LEVEL 1).debuggerUnlocked = true ∧ !(up.coreOf (.col 4)).stb 13 ∧
    (let s := cellUp.modPhys 0 fun ph => { ph with refusal := some (1, 5) }
     (vget s.phys ((s.physOf 0).getD 0)).refusal = some (1, 5) ∧ s.alive (.cell 0) = true ∧ s.waitOf (.cell 0) = .run) ∧
    (let s := up.modSproc 4 fun q => { q with refusal := some (1, 5) }
     (vget s.sproc (sIndex (.col 4))).refusal = some (1, 5) ∧ s.alive (.col 4) = true ∧ s.waitOf (.col 4) ≠ .debug) ∧
    (let s := cellUp.modPhys 0 fun ph => { ph with fifo := [{ vec := 3, payload := 9, ring := none }], core := ph.core.setStb 15 true }
     (vget s.phys ((s.physOf 0).getD 0)).core.stb 15 = true ∧ (vget s.phys ((s.physOf 0).getD 0)).refusal = none ∧
       s.canRun (.cell 0) = true) ∧ (vget cellUp.phys ((cellUp.physOf 0).getD 0)).fifo = [] := by decide +kernel

/-- Loop 0 is active and its body ends at the program counter. -/
def atEnd : State := core0 fun k => { k with lc := k.lc.set 0 2, pc := 5, le := k.le.set 0 5 }

theorem witness_SornasFlow : (cellUp.coreOf (.cell 0)).atLoopEnd = false ∧ (atEnd.coreOf (.cell 0)).atLoopEnd = true ∧
    (isBase .c 16 = true ∧ (cellUp.coreOf (.cell 0)).u .c 16 < 4096) ∧ (9 : BitVec 9) ≠ 0 ∧ isData .c 1 = true ∧
    (cellUp.coreOf (.cell 0)).lc[1]! = 0 ∧ sprLegal .c 0x000 false = true ∧ sprLegal .c 0x000 true = true ∧
    sprField .c 1 0x000 = true ∧ sprPriv .c (cellUp.coreOf (.cell 0)) 0x000 = false ∧
    (let s := up.modSproc 4 fun q => { q with core := q.core.setStb 31 false }
     (s.coreOf (.col 4)).stb 31 = false ∧ s.canRun (.col 4) = true ∧ (s.coreOf (.col 4)).guard 0 = some true) := by decide +kernel

theorem witness_SornasControl : isPair .c 2 = true ∧ isPair .c 4 = true ∧ allData .c [1] = true ∧ isQuad 4 = true ∧
    (63 : BitVec 10).toNat < 64 ∧ cellUp.bankWritable 0 ((0 : BitVec 10).toNat / 64) = false ∧
    (cellUp.setReg BLK_GSWR 0 0xFFFFFFFF).bankWritable 0 0 = true ∧ allData .c [1, 2] = true ∧ (3 : BitVec 8).toNat < 4 ∧
    (15 : BitVec 5).toNat < 16 := by decide +kernel

theorem witness_SornasLoadsStores : isData .c 1 = true ∧ isAddr .c 16 = true ∧ cellUp.memOk ∧
    pat 20 ((cellUp.coreOf (.cell 0)).u .c 16 + (3 : BitVec 11).toInt) < 0x1000 ∧
    cellUp.eccOf (cellWin (cellUp.physIx 0).val + 0x4000 + 2 * 3) = 0 ∧
    (pat 32 ((up.coreOf (.col 4)).u .s 1 + (2 : BitVec 11).toInt)) % 4 ≠ 0 ∧
    (let s := up.modSproc 4 fun q => { q with core := { q.core with r := q.core.r.set 1 0x107FFFFC } }
     let a := pat 32 ((s.coreOf (.col 4)).u .s 1 + (0 : BitVec 11).toInt)
     a % 4 = 0 ∧ 0x10000000 ≤ a ∧ a < 0x10800000 ∧ s.eccOf a = 0 ∧ s.mpu (sIndex (.col 4)) a 0 = some false ∧
       s.mpu (sIndex (.col 4)) a 1 = some false ∧ s.accessStatus colh true a = stOK ∧ s.accessStatus colh false a = stOK) ∧
    (let s := cellUp.modPhys 0 fun ph => { ph with wbuf := [.mem 0x21000000 5 0] }
     s.treesOn = true ∧ s.physOf 0 ≠ none ∧ s.wbufOf 0 = [.mem 0x21000000 5 0] ∧ 0x21000000 % 2 = 0 ∧ s.eccOf 0x21000000 = 0 ∧
       s.mayGranule 0 0x21000000 = true ∧ (s.cellCores 0).Nodup ∧ s.memOk) ∧
    (up.setReg BLK_MAP 0 0).physOf 0 = none ∧ cellUp.wbufOf 0 = [] := by decide +kernel

theorem witness_SornasBlockOps : cellUp.ix 0 = 0 ∧ isAddr .c 16 = true ∧ isAddr .c 17 = true ∧ isData .c 1 = true ∧
    (let s := core0 fun k => { k with r := (k.r.set 1 2).set 17 0xFFE }
     let k := s.coreOf (.cell 0)
     k.u .c 1 = 2 ∧ k.u .c 1 ≤ (2 : BitVec 16).toNat ∧ k.u .c 17 + 2 ≤ 0x1000 ∧ k.u .c 16 + 2 ≤ k.u .c 17 ∧ k.u .c 16 < k.u .c 17 ∧
       s.eccOf (cellWin (s.physIx 0).val + 0x4000) = 0 ∧ s.eccOf (cellWin (s.physIx 0).val + 0x4002) = 0 ∧
       s.eccOf (cellWin (s.physIx 0).val + 0x4000 + 2 * 0xFFF) = 0) := by decide +kernel

theorem witness_SornasWaits :
    (let k := cellUp.coreOf (.cell 0)
     k.stb 13 = false ∧ k.stb 14 = false ∧ (k.setStb 14 true).stb 14 = true) ∧
    (cellUp.setBit CELL_CFG 0 CELL_CFG_FLOW false).bit CELL_CFG 0 CELL_CFG_FLOW = false ∧
    (let s := cellUp.setBit CELL_CFG 0 CELL_CFG_FLOW true
     s.bit CELL_CFG 0 CELL_CFG_FLOW = true ∧ s.ckptFails 0 (if s.activeRecord 0 = some 0 then 1 else 0) 0 = false) ∧
    (let a := (cellUp.coreOf (.cell 0)).u .c 16
     a % 2 = 0 ∧ a + 8 ≤ 0x1000 ∧ (cellUp.wbufOf 0).length < 4) ∧ isPair .c 2 = true ∧
    (∀ i < 8, cellUp.eccOf (cellWin (cellUp.physIx 0).val + 0x4000 + 2 * i) = 0) ∧
    (vget cellUp.phys (cellUp.physIx 0)).fifo = [] ∧
    (vget (cellUp.modPhys 0 fun ph => { ph with fifo := [{ vec := 3, payload := 9, ring := none }] }).phys 0).fifo ≠ [] ∧
    (cellUp.coreOf (.cell 0)).u .c 1 = 0 ∧ ((core0 fun k => { k with r := k.r.set 1 5 }).coreOf (.cell 0)).u .c 1 ≠ 0 ∧
    cellUp.fenceClear 0 0 = true ∧ (cellUp.modPhys 0 fun ph => { ph with wbuf := [.mem 0x21000000 5 0] }).fenceClear 0 0 = false ∧
    (let s := cellUp.setWait (.cell 0) (.sleep true 1 (some 0))
     s.waitOf (.cell 0) = .sleep true 1 (some 0) ∧ 0 ≤ s.tick ∧ s.alive (.cell 0) = true) ∧
    (let s := cellUp.setWait (.cell 0) (.sleep true 1 (some 9))
     s.waitOf (.cell 0) = .sleep true 1 (some 9) ∧ s.tick < 9) ∧
    (let s := cellUp.setWait (.cell 0) (.fence 0)
     s.waitOf (.cell 0) = .fence 0 ∧ s.alive (.cell 0) = true ∧ s.fenceClear 0 0 = true) ∧ up.canRun (.col 0) = true := by decide +kernel

/-- A register of cell 0 after one instruction with the two operands in r1 and r2. -/
def two (i : Instr) (x y : Word) (r : Nat) : Nat :=
  ((nx i (core0 fun k => { k with r := (k.r.set 1 x).set 2 y })).coreOf (.cell 0)).u .c r

/-- R137: 0x7000 + 0x2000 saturates to 0x7FFF; ADDW wraps to 0x9000; 0 - 0x8000 saturates to 0x7FFF in SUB. -/
theorem test_alu : two (.add (.cell 0) 0 3 1 2) 0x7000 0x2000 3 = 0x7FFF ∧ two (.addw (.cell 0) 0 3 1 2) 0x7000 0x2000 3 = 0x9000 ∧
    two (.sub (.cell 0) 0 3 1 2) 0 0x8000 3 = 0x7FFF ∧ two (.subw (.cell 0) 0 1 1 2) 3 5 1 = 0xFFFE ∧
    two (.sra (.cell 0) 0 3 1 2) 0x8000 15 3 = 0xFFFF ∧ two (.ror (.cell 0) 0 3 1 2) 1 1 3 = 0x8000 := by decide +kernel

/-- R144: MULF is fractional: 0.5 x 0.5 = 0.25, and -1 x -1 saturates; MULH takes the high half of -1 x 1. -/
theorem test_mul : two (.mulf (.cell 0) 0 3 1 2) 0x4000 0x4000 3 = 0x2000 ∧ two (.mulf (.cell 0) 0 3 1 2) 0x8000 0x8000 3 = 0x7FFF ∧
    two (.mulh (.cell 0) 0 3 1 2) 0xFFFF 1 3 = 0xFFFF ∧ two (.divu (.cell 0) 0 3 1 2) 7 0 3 = 0xFFFF := by decide +kernel

/-- R142, R143: CMP LT is signed; PLOG of predicate 1 with itself inverted. -/
theorem test_cmp : ((nx (.cmp (.cell 0) 0 1 2 1 2 0) (core0 fun k => { k with r := (k.r.set 1 0xFFFF).set 2 1 })).coreOf (.cell 0)).pred 1 = true ∧
    ((nx (.cmp (.cell 0) 0 1 4 1 2 0) (core0 fun k => { k with r := (k.r.set 1 0xFFFF).set 2 1 })).coreOf (.cell 0)).pred 1 = false ∧
    ((nx (.plog (.cell 0) 0 1 1 1 5) cellUp).coreOf (.cell 0)).pred 1 = true := by decide +kernel

/-- R155: CALL saves PC + 1 in a7 and branches; PC counts modulo 4,096. -/
theorem test_call : ((nx (.call (.cell 0) 0 0x7FFFFF) cellUp).coreOf (.cell 0)).pc = 4095 ∧
    ((nx (.call (.cell 0) 0 0x7FFFFF) cellUp).coreOf (.cell 0)).u .c 23 = 1 := by decide +kernel

/-- R177: CLARKE of (0, 0.5) has beta = 0.5 x 2 / sqrt 3: 16384 x 2 x 18918 / 2^15 = 18918. -/
theorem test_clarke :
    ((nx (.clarke (.cell 0) 0 4 2 0) (core0 fun k => { k with r := (k.r.set 2 0).set 3 0x4000 })).coreOf (.cell 0)).u .c 5 = 18918 := by
  decide +kernel

/-- R149, R151: ST then LD through operand RAM; ST writes the low 16 bits of the register, the low byte first. -/
theorem test_store : memHalf (nx (.st (.cell 0) 0 1 16 0 3) (core0 fun k => { k with r := k.r.set 1 0xBEEF })).mem
      (cellWin 0 + 0x4006) = 0xBEEF ∧
    memGet (nx (.st (.cell 0) 0 1 16 0 3) (core0 fun k => { k with r := k.r.set 1 0xBEEF })).mem (cellWin 0 + 0x4006) = 0xEF := by
  decide +kernel

/-- R168: TRAP saves PC + 1 and goes to XVEC + 64 with cause 4; ERET comes back. -/
theorem test_trap : ((nx (.trap (.cell 0) 0 0 7) cellUp).coreOf (.cell 0)).pc = 64 ∧
    ((nx (.trap (.cell 0) 0 0 7) cellUp).coreOf (.cell 0)).xcause = 4 ∧
    ((nx (.eret (.cell 0) 0 0 0) (nx (.trap (.cell 0) 0 0 7) cellUp)).coreOf (.cell 0)).pc = 1 := by decide +kernel

/-- R131, R167: guard code 4 is ILLEGAL, cause 1, with the instruction word in XTVAL; a false guard only moves on. -/
theorem test_guard : ((nx (.add (.cell 0) 4 1 2 3) cellUp).coreOf (.cell 0)).pc = 64 ∧
    (nx (.add (.cell 0) 1 1 2 3) cellUp).coreOf (.cell 0) = (cellUp.coreOf (.cell 0)).advance .c := by decide +kernel

/-- R156: LOOP with a count of 0 skips its body of LEN instructions. -/
theorem test_loop : ((nx (.loop (.cell 0) 0 0 1 0 0 3) cellUp).coreOf (.cell 0)).pc = 4 ∧
    ((nx (.loop (.cell 0) 0 0 1 2 0 3) cellUp).coreOf (.cell 0)).lc[0]! = 2 := by decide +kernel

/-! ## Cells and torque continuity -/

theorem witness_CellStartStop : up.accessStatus colh true (CELL_CTRL.addr 127) = stOK ∧ up.lstate 127 = 0 ∧
    (vget up.lcell 127).work = .none ∧ up.physOf 127 = some 127 ∧ up.pstate 127 ≠ 5 ∧ up.role 127 = 0 ∧ (vget up.lcell 127).twin = none ∧
    cellUp.accessStatus colh true (CELL_CTRL.addr 0) = stOK ∧ cellUp.lstate 0 ≠ 0 ∧ cellUp.lstate 0 ≠ 3 ∧ up.lstate 0 ≠ 1 ∧ up.lstate 0 ≠ 4 ∧
    cellUp.lstate 0 = 1 ∧ (vget cellUp.lcell 0).work = .none ∧
    (let s := nx (.start colh 0 true 5) up
     (vget s.lcell 0).work = .start colh 5 false ∧ s.physOf 0 = some 0 ∧ (s.loadCell 0 0).1 = none ∧ s.role 0 = 0 ∧
       (vget s.lcell 0).twin = none) ∧
    (let s := { nx (.start colh 0 true 5) (up.setFld CELL_PIMG 0 CELL_PIMG_LEN 2) with ecc := smSet [] (blockBase 0) 2 }
     (vget s.lcell 0).work = .start colh 5 false ∧ s.physOf 0 = some 0 ∧ (s.loadCell 0 0).1 = some (blockBase 0)) ∧
    up.accessStatus colh true (CELL_BIND.addr 0) = stOK ∧ up.ownerOf 0x01 0 = 0 ∧
    (bitN (CELL_BIND_ADCM.get (CELL_BIND_ADCM.put 0 1)) 0 = true ∧
      bitN ((up.setFld CELL_BIND 31 CELL_BIND_ADCM 1).fld CELL_BIND 31 CELL_BIND_ADCM) 0 = true) ∧
    up.accessStatus colh true (BLK_CTRL.addr 15) = stOK ∧ (up.setPstate 127 5).pstate 127 = 5 ∧ up.logOf 127 = some 127 := by
  decide +kernel

theorem witness_CellFaults :
    (let s := { cellUp.modPhys 0 fun ph => { ph with trapAt := some 0 } with tick := 640 }
     s.physOf 0 = some 0 ∧ (vget s.phys 0).trapAt = some 0 ∧ s.lstate 0 = 1 ∧ 0 + 640 ≤ s.tick) ∧
    (let s := { (cellUp.setFld CELL_WDT 0 CELL_WDT_WDT 1).setFld CELL_WDT 0 CELL_WDT_CKMAX 1 with tick := 640 }
     s.lstate 0 = 1 ∧ s.fld CELL_WDT 0 CELL_WDT_WDT ≠ 0 ∧ (vget s.lcell 0).kickAt + 640 * s.fld CELL_WDT 0 CELL_WDT_WDT ≤ s.tick ∧
       s.fld CELL_WDT 0 CELL_WDT_CKMAX ≠ 0 ∧ (vget s.lcell 0).ckAt + 640 * s.fld CELL_WDT 0 CELL_WDT_CKMAX ≤ s.tick) ∧
    (vget cellUp.lcell 0).work = .none ∧ (vget cellUp.lcell 0).twin = none ∧ cellUp.physOf 0 = some 0 ∧ (7 : Nat) < 8 ∧
    (cellUp.setFld CELL_CFG 0 CELL_CFG_FACT 1).fld CELL_CFG 0 CELL_CFG_FACT = 1 ∧
    (cellUp.setFld CELL_CFG 0 CELL_CFG_FACT 2).fld CELL_CFG 0 CELL_CFG_FACT = 2 ∧
    (let s := ((cellUp.setPstate 7 2).setFld CELL_CFG 0 CELL_CFG_SPMASK 0x80).setFld CELL_CFG 0 CELL_CFG_FACT 0
     s.fld CELL_CFG 0 CELL_CFG_FACT = 0 ∧ s.pstate 0 = 1 ∧ s.spares 0 = [(7, 7)] ∧
       (vget (s.cellFault 0 4).lcell 0).work = .migrate 0 7 7 4 0 0 false false none ∧ ((s.cellFault 0 4).loadCell 0 7).1 = none) ∧
    (let s := { up.modPg 0 fun p => { p with mig := some (0, true, 0) } with tick := 5120 * 256 }
     (s.pg 0).mig = some (0, true, 0) ∧ 0 + max 1 (s.fld CELL_CFG 0 CELL_CFG_HOLDT) * 5120 ≤ s.tick) ∧
    (let s := cellUp.modCell 0 fun l => { l with pmPend := 8 }
     ((List.range 4).find? fun k => (vget s.lcell 0).pmPend.getLsbD k) = some 3 ∧
       (s.pushFifo 0 { vec := 0, payload := 3, ring := none }).isSome = true) ∧ (vget up.lcell 0).pmPend = 0 := by decide +kernel

/-- R218: FACT = STOP leaves the cell FAULTED and its physical cell ISOLATED. -/
theorem test_cell_fault : ((cellUp.setFld CELL_CFG 0 CELL_CFG_FACT 1).cellFault 0 4).lstate 0 = 3 ∧
    ((cellUp.setFld CELL_CFG 0 CELL_CFG_FACT 1).cellFault 0 4).pstate 0 = 5 := by decide +kernel

/-- R208: START without LOAD runs at ENTRY. -/
theorem test_cell_start : (nx (.start colh 127 false 0xABC) up).lstate 127 = 1 ∧
    (vget (nx (.start colh 127 false 0xABC) up).phys 127).core.pc = 0xABC := by decide +kernel

/-! ## PWM -/

/-- Group 0 runs in its first period of 1,024 subunits, at a tick. -/
def pwm (tick : Nat) : State :=
  { ((up.setBit PWM_GCTL 0 PWM_GCTL_EN true).setBit PWM_GSTAT 0 PWM_GSTAT_RUN true).modPg 0 fun p => { p with gper := 1024 } with
    tick := tick }

theorem witness_StepKeepsGatesApart : ∀ (k : Fin 16) (p : Fin 3), ¬ ((vget (State.reset.br k).outs (hiOf p)).gate = true ∧
    (vget (State.reset.br k).outs (loOf p)).gate = true) := by decide +kernel

theorem witness_GroupControl : up.accessStatus colh true (PWM_GCTL.addr 31) = stOK ∧ up.bit PWM_GCTL 31 PWM_GCTL_EN = false ∧
    up.isNear (up.startStamp 31) = true ∧ (up.setReg PWM_GSTART_HI 31 1).isNear ((up.setReg PWM_GSTART_HI 31 1).startStamp 31) = false ∧
    up.galOk ∧ (pwm 0).bit PWM_GCTL 0 PWM_GCTL_EN = true ∧
    (pwm 0).accessStatus colh true (PWM_GCTL.addr 0) = stOK ∧ (pwm 0).bgrp 0 = 0 ∧ up.startAt 0 = none ∧
    (let s := (pwm 0).modPg 0 fun p => { p with armed := true, lateAt := some 0 }
     s.fabricOn = true ∧ s.startAt 0 = some 0) ∧ ((pwm 0).modPg 0 fun p => { p with reqs := [.agent 3] }).pg 0 ≠ (pwm 0).pg 0 ∧
    up.accessStatus colh true (PWM_LOADALL.addr 3) = stOK ∧ bitN (PWM_LOADALL_GROUPS.get (PWM_LOADALL_GROUPS.put 0 0x80)) 7 = true ∧
    up.accessStatus colh true (PWM_MCTL.addr 15) = stOK := by decide +kernel

theorem witness_PwmEdges :
    ((pwm 127).fabricOn = true ∧ (pwm 127).running 0 = true ∧ ((pwm 127).pg 0).bnd + (pwm 127).perOf 0 < 8 * ((pwm 128).tick + 1) ∧
      8 * ((pwm 126).tick + 1) ≤ ((pwm 126).pg 0).bnd + (pwm 126).perOf 0) ∧ (pwm 127).galOk ∧ (pwm 64).pmidDue 0 = true ∧
    (pwm 2).pmidDue 0 = false ∧ ((pwm 64).pg 0).snap = none ∧ ((pwm 64).pg 0).bnd + (pwm 64).perOf 0 - 512 < 8 * ((pwm 64).tick + 1) ∧
    (let s := (pwm 50).modBr 0 fun b => { b with tOn := b.tOn.set 0 100, tOff := b.tOff.set 0 200 }
     s.running (s.bgrp 0) = true ∧ s.bMode 0 = 0 ∧ vget (s.br 0).tOn 0 < vget (s.br 0).tOff 0 ∧ vget (s.br 0).ref 0 = false ∧
       (s.br 0).done.getLsbD 0 = false ∧ vget (s.br 0).tOn 0 ≠ 0 ∧ (s.pg 0).bnd + vget (s.br 0).tOn 0 < 8 * (s.tick + 1) ∧
       vget (s.br 0).tOff 0 < s.perOf 0 ∧ (s.pg 0).bnd + vget (s.br 0).tOff 0 < 8 * (s.tick + 1) ∧
       vget ((s.modBr 0 fun b => { b with ref := b.ref.set 0 true }).br 0).ref 0 = true) ∧
    (let s := (pwm 2).modBr 0 fun b => { b with
       act := { b.act with bmode := PWM_BMODE_MODE.put 0 1, tab := b.act.tab.set 11 (PWM_TAB_OFS.put (PWM_TAB_V.put 0 1) 23) } }
     s.running (s.bgrp 0) = true ∧ s.bMode 0 = 1 ∧ (s.br 0).done.getLsbD 11 = false ∧
       tabEntry (s.br 0).act.tab[11]! (s.perOf 0) = some (23, false) ∧ tabEntry (s.br 0).act.tab[8]! (s.perOf 0) = none ∧
       tabEntry (s.br 0).act.tab[9]! (s.perOf 0) = none ∧ tabEntry (s.br 0).act.tab[10]! (s.perOf 0) = none ∧
       (s.pg 0).bnd + 23 < 8 * (s.tick + 1) ∧ 8 * (1 + 1) ≤ (s.pg 0).bnd + 23) ∧ (pwm 2).bMode 0 ≠ 1 ∧
    (let s := (pwm 2).modBr 0 fun b => { b with outs := b.outs.set 5 { poutReset with queue := [(23, true)], held := [(23, true)] } }
     (vget (s.br 0).outs 5).queue = [(23, true)] ∧ (vget (s.br 0).outs 5).held = [(23, true)] ∧ 23 < 8 * (s.tick + 1)) ∧
    (let s := ((pwm 2).setReg PWM_BCFG 0 0).modBr 0 fun b =>
       { b with outs := b.outs.set 0 { poutReset with onAt := some 23, inp := true, req := true }, safe := none, released := true }
     (vget (s.br 0).outs 0).onAt = some 23 ∧ s.stage4 0 (hiOf 0) = true ∧ s.stage4 0 (loOf 0) = false ∧
       (vget (s.br 0).outs 0).inp = true ∧ (vget (s.br 0).outs 0).out = false ∧ (vget (s.br 0).outs (loOf 0)).out = false ∧
       (vget (s.br 0).outs (loOf 0)).inp = false ∧ vget (s.br 0).shoot 0 = false) := by decide +kernel

/-- R268, R270: a group stopped at a boundary goes on one period of 1,024 subunits (160 ns) later. -/
theorem test_boundary : ((nx (.periodBoundary 0) (pwm 128)).pg 0).bnd = 1024 ∧ nx (.periodBoundary 0) (pwm 127) = pwm 127 := by
  decide +kernel

/-! ## The units of an axis -/

/-- Axis 0's players on, with a state of the pattern player; a valid record for pattern 0 at the base of the region memory. -/
def opp (st : Nat) : State :=
  let s := (up.setBit OPP_CFG 0 OPP_CFG_EN true).setFld OPP_STAT 0 OPP_STAT_STATE st
  { s with mem := memPutWord (memPutWord s.mem 0x20000000 1) 0x20000004 0x1000 }

theorem witness_AxisCommands : up.accessStatus colh true (AX_VDQ.addr 7) = stOK ∧ up.accessStatus colh true (SH_CMD.addr 7) = stOK ∧
    up.accessStatus colh true (OPP_CTRL.addr 7) = stOK ∧ up.bit OPP_CFG 7 OPP_CFG_EN = false ∧ (opp 0).bit OPP_CFG 0 OPP_CFG_EN = true ∧
    (opp 0).oppState 0 = 0 ∧ (opp 1).oppState 0 = 1 ∧ (opp 2).oppState 0 = 2 ∧ ((opp 0).oppRecord 0 0).isSome = true ∧
    ((opp 2).oppRecord 0 0).isSome = true ∧ (opp 0).oppRecord 0 1 = none ∧ ((opp 2).ax 0).opp.cmd = none ∧
    (up.modBr (axBr 0 3) fun b => { b with safe := none }).shPresent (axBr 0 3) false = none ∧ up.shPresent (axBr 0 3) true ≠ none := by decide +kernel

/-- Axis 0's six-step unit on, in a phase, at a tick, with its tracker for RUN. -/
def ssx (ph tick : Nat) (f : Ssx → Ssx) : State :=
  { ((up.setBit SSX_CFG 0 SSX_CFG_EN true).setFld SSX_STAT 0 SSX_STAT_PHASE ph).modSsx 0 f with tick := tick }

theorem witness_SixStepUnit : up.accessStatus colh true (SSX_CTRL.addr 7) = stOK ∧ (ssx 0 0 id).bit SSX_CFG 0 SSX_CFG_EN = true ∧
    (ssx 0 0 id).ssxPhase 0 = 0 ∧ (ssx 5 0 id).ssxPhase 0 = 5 ∧ (ssx 0 0 id).ssxTime 0 = none ∧
    (∀ ph ∈ [1, 2, 3, 6], (((ssx ph (2 ^ 40) id).ssxTime 0).any fun n => decide (n ≤ 2 ^ 40)) = true ∧ (ssx ph (2 ^ 40) id).ssxLive 0 = true) ∧
    (let s := ssx 5 9 fun u => { u with sched := some 9 }
     (s.ax 0).ssx.sched = some 9 ∧ 9 ≤ s.tick ∧ s.ssxLive 0 = true ∧ s.ssxPhase 0 = 5) ∧
    (let s := (ssx 5 (2 ^ 40) id).setReg SSX_T60 0 6400
     s.ssxLive 0 = true ∧ s.ssxForced 0 = true ∧ max 1 (s.fld SSX_LIM 0 SSX_LIM_MISSMAX) ≤ 255 + 1 ∧ (s.ax 0).ssx.coms < 999 ∧
       ¬ max 1 ((s.setFld SSX_LIM 0 SSX_LIM_MISSMAX 3).fld SSX_LIM 0 SSX_LIM_MISSMAX) ≤ (s.ax 0).ssx.miss + 1) ∧
    (let s := ((((ssx 4 100 fun u => { u with ti := 64 }).setFld SSX_RAMP 0 SSX_RAMP_HANDN 2).setFld SSX_RAMP 0 SSX_RAMP_RAMPK 255).setFld
       SSX_TEND 0 SSX_TEND_TEND 0)
     s.ssxLive 0 = true ∧ s.ssxPhase 0 = 4 ∧ (s.ax 0).ssx.com + (s.ax 0).ssx.ti ≤ s.tick ∧ (s.ax 0).ssx.seen = false ∧
       ¬ max 1 (s.fld SSX_RAMP 0 SSX_RAMP_HANDN) ≤ 0 ∧
       ¬ (s.ax 0).ssx.ti * s.fld SSX_RAMP 0 SSX_RAMP_RAMPK / 256 ≤ s.fld SSX_TEND 0 SSX_TEND_TEND * 640 ∧
       (s.ax 0).ssx.ti * 255 / 256 ≤ (s.setFld SSX_TEND 0 SSX_TEND_TEND 1).fld SSX_TEND 0 SSX_TEND_TEND * 640 ∧
       max 1 (s.fld SSX_RAMP 0 SSX_RAMP_HANDN) ≤ 1 + 1) ∧
    (let s := (ssx 1 (2 ^ 30) fun u => { u with trans := [(1, 5), (0, 0)] }).setFld SSX_ZC 0 SSX_ZC_FILT 1
     s.ssxLive 0 = true ∧ max 1 (s.fld SSX_ZC 0 SSX_ZC_FILT) * 16 ≤ 16 ∧ 16 ≤ s.tick ∧ s.ssxPhase 0 = 1 ∧
       (s.ax 0).ssx.trans = [(1, 5), (0, 0)] ∧ ((ssx 1 99 id).ax 0).ssx.trans.length < 2) ∧
    (∀ p < 3, ssxRow p true < 6 ∧ ssxRow p false < 6) ∧
    (∀ ph ∈ [4, 5],
      let s := ((((ssx ph 100 fun u => { u with com := 60, ti := 64 }).setFld SSX_STAT 0 SSX_STAT_STATE (ssxRow 0 false)).setFld
        SSX_ZC 0 SSX_ZC_BLANK 0).setFld SSX_ZC 0 SSX_ZC_FILT 1).setReg SSX_T60 0 6400
      s.ssxLive 0 = true ∧ s.ssxPhase 0 = ph ∧ s.ssxDir 0 = false ∧ s.bit CMP_STAT (s.ssxCmp 0 0).val CMP_STAT_HI = false ∧
        ssxRow 0 false = s.ssxState 0 ∧ (s.ax 0).ssx.com + s.fld SSX_ZC 0 SSX_ZC_BLANK * 64 ≤ s.tick - 16 ∧
        max 1 (s.fld SSX_ZC 0 SSX_ZC_FILT) * 16 ≤ 16 ∧ s.tick < (s.ax 0).ssx.com + (s.ax 0).ssx.ti ∧ s.ssxForced 0 = false ∧
        s.bit SSX_CFG 0 SSX_CFG_OBS = false ∧ (s.ax 0).ssx.ratio + 1 < 3 ∧
        max 1 ((s.setFld SSX_LIM 0 SSX_LIM_LOSCNT 3).fld SSX_LIM 0 SSX_LIM_LOSCNT) = 3) := by decide +kernel

/-! ## Gate-driver links -/

/-- Link 0 enabled, in a state, with a transaction in progress or none, at a tick. -/
def gdl (link : Nat) (busy : Option GdlTx) (tick : Nat) : State :=
  { ((up.setBit GDL_CFG 0 GDL_CFG_EN true).setFld GDL_STAT 0 GDL_STAT_LINK link).modGdl 0 fun l => { l with busy := busy } with tick := tick }

/-- A transaction of a source to a side whose reply is awaited from tick 0 on. -/
def tx (src : GdlFrom) (sel : Nat) (second : Bool) : GdlTx :=
  { src := src, sel := sel, cmd := 0, addr := 0, data := 0, seq := 1, second := second, failed := 0, status := stOK, reply := 0, since := 0 }

/-- The reply that echoes command 0 and SEQ 1 with data 1 and FLT. -/
def reply : Word := 1#8 ++ 0x80#8 ++ 1#8 ++ crc8 [1, 0x80, 1]

theorem witness_GateLinks : up.accessStatus colh true (GDL_CFG.addr 47) = stOK ∧ up.bit GDL_CFG 47 GDL_CFG_EN = false ∧
    ((gdl 0 none 0).fabricOn = true ∧ (gdl 0 none 0).bit GDL_CFG 0 GDL_CFG_EN = true ∧ (gdl 0 none 0).link 0 ≠ 2 ∧
      ((gdl 0 none 0).gl 0).busy = none ∧ ((gdl 0 none 0).gl 0).initAt ≤ (gdl 0 none 0).tick) ∧
    up.accessStatus colh true (GDL_CMD.addr 47) = stOK ∧ (gdl 2 none 0).link 0 = 2 ∧ ((gdl 2 none 0).gl 0).auto = [] ∧
    ((gdl 2 (some (tx .cmd 0 false)) 0).gl 0).busy = some (tx .cmd 0 false) ∧
    (tx .cmd 0 false).since ≤ (gdl 2 (some (tx .cmd 0 false)) 154).tick ∧ (tx .cmd 0 false).since + 154 ≤ (gdl 2 none 154).tick ∧
    crc8 [1, 0x80, 1] = reply.extractLsb' 0 8 ∧ ((reply.extractLsb' 24 8).toNat % 64 = 0 * 16 + 1) ∧ reply.toNat / 256 % 2 ^ 16 ≠ 1 ∧
    crc8 [1, 0, 1] ≠ reply.extractLsb' 0 8 ∧ (gdl 2 none 0).fabricOn = true ∧
    (let s := gdl 2 none (255 * 6400)
     s.link 0 = 2 ∧ (s.gl 0).okAt + max 1 (s.fld GDL_CFG 0 GDL_CFG_LTMO) * 6400 ≤ s.tick) ∧
    (let s := (gdl 2 none 640).setReg GDL_CFG 0 (GDL_CFG_POLLPER.put (GDL_CFG_NPOLL.put (GDL_CFG_EN.put 0 1) 8) 1)
     s.fabricOn = true ∧ s.link 0 = 2 ∧ s.fld GDL_CFG 0 GDL_CFG_POLLPER = 1 ∧ s.nPoll 0 = 8 ∧ (s.gl 0).poll = none ∧
       (s.gl 0).pollAt + 1 * 640 ≤ s.tick ∧ (s.gl 0).cmd = none) := by decide +kernel

theorem witness_pollOk : (∀ j x, ((gdl 2 (some (tx (.poll 7) 0 false)) 0).gl j).busy = some x → x.src = .poll 7) →
    (gdl 2 (some (tx (.poll 7) 0 false)) 0).pollOk := by
  intro h j x k hb hk
  have := h j x hb
  rw [this] at hk
  cases hk
  decide

theorem witness_pollOk_idle : up.pollOk := by
  intro j x k hb
  have : ∀ j, (up.gl j).busy = none := by decide +kernel
  rw [this j] at hb
  cases hb

/-- R300, R302: a good reply to a READ of one side: its data in GDL_CRES, status OK; a missing one is counted and reported. -/
theorem test_gdl_reply : (nx (.replyFrame 0 reply true) (gdl 2 (some (tx .cmd 0 false)) 9)).fld GDL_CRES 0 GDL_CRES_DATA = 0x8001 ∧
    (nx (.replyFrame 0 reply true) (gdl 2 (some (tx .cmd 0 false)) 9)).fld GDL_CRES 0 GDL_CRES_STATUS = stOK ∧
    (nx (.gdlReplyTimeout 0) (gdl 2 (some (tx .cmd 0 false)) 154)).fld GDL_CRES 0 GDL_CRES_STATUS = stTIMEOUT ∧
    (nx (.gdlReplyTimeout 0) (gdl 2 (some (tx .cmd 0 false)) 154)).fld GDL_ERRCNT 0 GDL_ERRCNT_NOREPLY = 1 := by decide +kernel

/-! ## Sensing -/

/-- Converter 0 with two triggers of channels 0 and 5, the later-arrived ready first. -/
def adc2 : State := up.modAdc 0 fun a => { a with queue := [⟨9, 0, 0x21⟩, ⟨5, 1, 0x21⟩] }

/-- Modulator input 0 runs. -/
def dsm0 : State := (up.setBit DSM_CFG 0 DSM_CFG_EN true).setReg DSMCLK_CFG (up.dsmClk 0) 0xFFFFFFFF

/-- Comparator 63 on. -/
def cmp63 : State := (up.setReg CMP_CFG 63 0).setBit CMP_CFG 63 CMP_CFG_EN true

theorem witness_Sensing : (up.cv 0).queue = [] ∧ ⟨5, 1, 0x21⟩ ∈ (adc2.cv 0).queue ∧
    (∀ u ∈ (adc2.cv 0).queue, u ≠ ⟨5, 1, 0x21⟩ → (5 < u.ready ∨ (5 = u.ready ∧ 1 < u.rank))) ∧ adc2.tick < max 5 (adc2.cv 0).ends ∧
    max 5 (adc2.cv 0).ends ≤ { adc2 with tick := 5 }.tick ∧ (up.cv 0).land = [] ∧
    (let s := { up.modAdc 0 fun a => { a with land := [⟨0, 5, 1, true, none⟩] } with tick := 132 }
     s.fabricOn = true ∧ (s.cv 0).land = [⟨0, 5, 1, true, none⟩] ∧ 0 + 132 ≤ s.tick) ∧
    (let s := { up.setBit ADC_CFG 0 ADC_CFG_REFEN true with tick := 32000 }
     s.bit ADC_CFG 0 ADC_CFG_REFEN = true ∧ (s.cv 0).refAt + 32000 ≤ s.tick) ∧
    up.dsmRun 0 = false ∧ dsm0.dsmRun 0 = true ∧ (dsm0.dm 0).sync = false ∧ (dsm0.dm 0).n + 1 ≠ dsm0.dsmOsr 0 ∧
    (let s := dsm0.modDsm 0 fun d => { d with n := 15, k := 2 }
     (s.dm 0).n + 1 = (s.setFld DSM_CFG 0 DSM_CFG_OSR 16).dsmOsr 0 ∧ 2 ≤ (s.dm 0).k) ∧
    up.accessStatus colh true (DSM_CTRL.addr 31) = stOK ∧
    (cmp63.fabricOn = true ∧ cmp63.bit CMP_CFG 63 CMP_CFG_EN = true ∧ vget cmp63.settle 63 = none ∧ cmp63.bit CMP_CFG 63 CMP_CFG_SMP = false ∧
      cmp63.fld CMP_CFG 63 CMP_CFG_FILT ≤ 0 ∧ cmp63.fld CMP_CFG 63 CMP_CFG_INSEL ≤ 23 ∧ cmp63.fld CMP_CFG 63 CMP_CFG_RSEL ≤ 23 ∧
      cmp63.fld CMP_CFG 63 CMP_CFG_TEST = 0 ∧ cmp63.bit CMP_CFG 63 CMP_CFG_MODE = false ∧ cmp63.bit CMP_STAT 63 CMP_STAT_HI = false) ∧
    (cmp63.setBit CMP_CFG 63 CMP_CFG_SMP true).bit CMP_CFG 63 CMP_CFG_SMP = true ∧
    (let s := { cmp63 with settle := vset cmp63.settle 63 (some 0) }
     vget s.settle 63 = some 0 ∧ 0 ≤ s.tick) ∧
    (let s := (cmp63.setFld CMP_ROUTE 63 CMP_ROUTE_TRIPB 8).setFld CMP_ROUTE 63 CMP_ROUTE_TSRC 1
     63 / 16 = 15 / 4 ∧ bitN (s.fld CMP_ROUTE 63 CMP_ROUTE_TRIPB) 3 = true ∧ bitN (s.fld CMP_ROUTE 63 CMP_ROUTE_TSRC) 0 = true) := by
  decide +kernel

/-- R313: the trigger ready first is scanned first: two slots of 128 ticks each, in channel order. -/
theorem test_scan : ((nx (.scanStart 0) { adc2 with tick := 5 }).cv 0).ends = 5 + 256 ∧
    ((nx (.scanStart 0) { adc2 with tick := 5 }).cv 0).land.map (·.ch) = [0, 5] := by decide +kernel

/-! ## The Sump -/

/-- Sump 0 with its chopper on, at a tick. -/
def sump (tick : Nat) (f : State → State) : State :=
  { f ((up.setBit SUMP_CFG 0 SUMP_CFG_EN true).setBit SUMP_CFG 0 SUMP_CFG_CHEN true) with tick := tick }

/-- Sump 0 as R346 asks: CA on comparator 0, CB on comparator 1, its discharge leg 2 of bridge 0, auxiliary. -/
def sumpOk : State :=
  let s := (sump 0 id).setReg SUMP_CFG 0 (SUMP_CFG_EN.put (SUMP_CFG_CHEN.put (SUMP_CFG_CB.put (SUMP_CFG_CLEG.put (SUMP_CFG_DLEG.put 0 2) 6) 1) 1) 1)
  ((s.setBit CMP_CFG 0 CMP_CFG_EN true).setBit CMP_CFG 1 CMP_CFG_EN true)

theorem witness_SumpUnit : asleep.fabricOn = false ∧
    up.bit SUMP_CFG 0 SUMP_CFG_EN = false ∧
    (let s := sump 0 id
     s.fabricOn = true ∧ s.bit SUMP_STAT 0 SUMP_STAT_RESHOT = false ∧ s.bit SUMP_CFG 0 SUMP_CFG_EN = true ∧
       s.bit SUMP_CFG 0 SUMP_CFG_CHEN = true ∧ s.caHi 0 = s.bit SUMP_STAT 0 SUMP_STAT_CHOP) ∧
    (let s := sump 0 fun s => (((s.setReg CMP_CFG (s.sumpCmp 0 SUMP_CFG_CA).val 0).setBit CMP_CFG (s.sumpCmp 0 SUMP_CFG_CA).val CMP_CFG_EN
       true).setBit CMP_STAT (s.sumpCmp 0 SUMP_CFG_CA).val CMP_STAT_HI true)
     s.caHi 0 = true ∧ s.bit SUMP_STAT 0 SUMP_STAT_CHOP = false ∧ (vget s.sump 0).chopAt = none) ∧
    (let s := sump 9 fun s => (s.setBit SUMP_STAT 0 SUMP_STAT_CHOP true).modSump 0 fun q => { q with chopAt := some 0 }
     s.caHi 0 = false ∧ s.bit SUMP_STAT 0 SUMP_STAT_CHOP = true ∧ (vget s.sump 0).chopAt = some 0) ∧
    (let s := (sump 0 id).setFld SUMP_RES 0 SUMP_RES_EMAX 1
     s.fld SUMP_RES 0 SUMP_RES_EMAX ≠ 0 ∧ (s.reg SUMP_E 0).toNat ≤ 1 * 2 ^ 15 ∧ 1 * 2 ^ 16 ≤ 2 ^ 16) ∧
    (sump 0 fun s => s.setFld SUMP_RES 0 SUMP_RES_EMAX 0).fld SUMP_RES 0 SUMP_RES_EMAX = 0 ∧
    (let s := sump (2 ^ 40) fun s => (s.setBit SUMP_STAT 0 SUMP_STAT_EPIS true).modSump 0 fun q => { q with lowAt := some 0 }
     (vget s.sump 0).lowAt = some 0 ∧ s.bit SUMP_STAT 0 SUMP_STAT_EPIS = true ∧ s.caHi 0 = false ∧ 0 + s.rampTicks 0 ≤ s.tick ∧
       s.bit SUMP_STAT 0 SUMP_STAT_RAMPTO = false ∧ (vget s.sump 0).epAt + s.rampTicks 0 < s.tick) ∧
    up.accessStatus colh true (SUMP_CTRL.addr 3) = stOK ∧ SUMP_CTRL_DSTOP.get 0 = 0 ∧ up.dstate 0 = 0 ∧ up.sumpAvail 0 = false ∧
    (up.setFld SUMP_STAT 0 SUMP_STAT_DSTATE 1).dstate 0 = 1 ∧ (up.setFld SUMP_STAT 0 SUMP_STAT_DREQ 2).fld SUMP_STAT 0 SUMP_STAT_DREQ = 2 ∧
    up.fld SUMP_STAT 0 SUMP_STAT_DREQ ≠ 2 ∧
    (let s := { (up.setFld SUMP_STAT 0 SUMP_STAT_DSTATE 3).setFld SUMP_DIS 0 SUMP_DIS_DOFF 1 with tick := 640 }
     s.dstate 0 = 3 ∧ s.bit SUMP_STAT 0 SUMP_STAT_RESHOT = false ∧ s.fld SUMP_DIS 0 SUMP_DIS_DOFF ≠ 0 ∧
       (vget s.sump 0).pulseAt + 1 * 640 ≤ s.tick) ∧
    (let s := { up.setFld SUMP_STAT 0 SUMP_STAT_DSTATE 1 with tick := 5000 * 640000 }
     s.dstate 0 = 1 ∧ (vget s.sump 0).disAt + max 100 (min 5000 (s.fld SUMP_DIS 0 SUMP_DIS_DTIME)) * 640000 ≤ s.tick ∧
       s.sumpSees 0 SUMP_CFG_CB CMP_STAT_LO = false) := by decide +kernel

/-- R352: the pulse timer toggles DIS after its time and not before. -/
theorem test_pulse_timer :
    (let s := { (up.setFld SUMP_STAT 0 SUMP_STAT_DSTATE 1).setFld SUMP_DIS 0 SUMP_DIS_DOFF 1 with tick := 640 }
     (nx (.dischargePulseTimer 0) s).bit SUMP_STAT 0 SUMP_STAT_DIS = true ∧
       nx (.dischargePulseTimer 0) { s with tick := 639 } = { s with tick := 639 }) := by decide +kernel

/-! ## Position feedback -/

/-- Interface 0 on in a mode, at a tick. -/
def pos (mode tick : Nat) : State := { (up.setFld POS_CFG 0 POS_CFG_MODE mode).setBit POS_CFG 0 POS_CFG_EN true with tick := tick }

theorem witness_PositionFeedback :
    ((pos 1 288).posIn 0 1 = true ∧ (pos 1 288).tick % 320 = 288 ∧ (up.posIn 0 1 = false ∧ up.posIn 0 2 = false)) ∧
    (let s := (pos 1 288).setReg POS_AMP 0 (POS_AMP_AMAX.put (POS_AMP_AMIN.put 0 100) 2000)
     ¬ (1000 < s.fld POS_AMP 0 POS_AMP_AMIN) ∧ ¬ (s.fld POS_AMP 0 POS_AMP_AMAX < 1000) ∧ 99 < s.fld POS_AMP 0 POS_AMP_AMIN ∧
       s.fld POS_AMP 0 POS_AMP_AMAX < 2001 ∧ (s.ps 0).conds = 0 ∧ (s.ps 0).ang = none) ∧
    (((pos 1 288).modPos 0 fun p => { p with ang := some 4095 }).ps 0).ang = some 4095 ∧ (wrapS 12 ((0 : Int) - 4095)).natAbs < 1024 ∧
    1024 ≤ (wrapS 12 ((2047 : Int) - 0)).natAbs ∧
    (pos 2 0).posMode 0 = 2 ∧ (pos 2 0).posIn 0 2 = true ∧ (pos 1 0).posMode 0 ≠ 2 ∧
    ((pos 2 0).setBit POS_EXC 0 POS_EXC_EXEN true).bit POS_EXC 0 POS_EXC_EXEN = true ∧
    (pos 3 0).posIn 0 3 = true ∧ (pos 3 0).posFilt 0 ≤ 63 ∧ (quadPos true false + 4 - quadPos false false) % 4 ∈ [1, 3] ∧
    (quadPos true true + 4 - quadPos false false) % 4 = 2 ∧
    (let s := ((pos 3 0).setFld POS_CFG 0 POS_CFG_ZQUAL 0).setBit POS_CFG 0 POS_CFG_ZEN true
     s.posIn 0 3 = true ∧ s.bit POS_CFG 0 POS_CFG_ZEN = true ∧ s.fld POS_CFG 0 POS_CFG_ZQUAL = 2 * b2n (s.ps 0).a + b2n (s.ps 0).b) ∧
    (let s := ((up.setFld POS_ZREF 0 POS_ZREF_VALUE 5).setBit POS_STAT 0 POS_STAT_ZREFD true).setFld POS_ZTOL 0 POS_ZTOL_ZTOL 0
     s.bit POS_STAT 0 POS_STAT_ZREFD = true ∧ s.fld POS_ZTOL 0 POS_ZTOL_ZTOL < 5) ∧
    (pos 4 0).posIn 0 4 = true ∧ (pos 4 0).posFilt 0 * 64 ≤ 4096 ∧ hallIdx 0 = none ∧ (hallIdx 1).isSome = true ∧ ((pos 4 0).ps 0).sect = none ∧
    (mapHalf 6 ((0 : Int) - 5) = 1 ∧ mapHalf 6 ((5 : Int) - 0) = -1 ∧ mapHalf 6 ((2 : Int) - 0) = 2) ∧
    ((pos 5 640).posIn 0 5 = true ∧ (pos 5 640).tick % 640 = 0 ∧ ((pos 5 640).ps 0).frame = none ∧ ((pos 5 640).ps 0).began = none ∧
      ((pos 5 640).ps 0).ended = none) ∧
    (let s := (pos 5 (2 ^ 30)).modPos 0 fun p => { p with frame := some 0 }
     (s.ps 0).frame = some 0 ∧ s.posIn 0 5 = true ∧ 0 + s.ssiTicks 0 ≤ s.tick) ∧
    up.accessStatus colh true (POS_CMD.addr 15) = stOK ∧ up.bit POS_CMPCTL 0 POS_CMPCTL_EN = false ∧
    (((pos 1 5).modPos 0 fun p => { p with end1 := some 5 }).ps 0).end1 = some 5 ∧
    (let s := up.setFld POS_DIVCFG 0 POS_DIVCFG_BACKLOG 1
     s.fabricOn = true ∧ s.sfld POS_DIVCFG 0 POS_DIVCFG_BACKLOG ≠ 0 ∧ (s.ps 0).stepAt = none ∧ (s.ps 0).dirAt = none ∧
       s.bit POS_DIVCFG 0 POS_DIVCFG_DMODE = false ∧ (s.ps 0).outB ≠ true ∧
       (s.setBit POS_DIVCFG 0 POS_DIVCFG_DMODE true).bit POS_DIVCFG 0 POS_DIVCFG_DMODE = true) := by decide +kernel

/-- R366: an edge of A alone steps by 1; both inputs at once are a fault of cause 4. -/
theorem test_quad : (nx (.quadEdge 0 true true 63) (pos 3 0)).fld POS_STAT 0 POS_STAT_CAUSE = 4 ∧
    ((nx (.quadEdge 0 true false 63) (pos 3 0)).reg POS_CNT 0 = 1 ∨ (nx (.quadEdge 0 true false 63) (pos 3 0)).reg POS_CNT 0 = 0xFFFFFFFF) := by
  decide +kernel

/-! ## The Grotto -/

/-- A set in force with some words, at a time of the Grotto's clock in µs. -/
def grt (words : SMap Word) (us : Nat) : State := up.modGrt fun g => { g with cfg := some words, clk := us * 3200 }

/-- Axis 0 in use, with bridge 0. -/
def ax0 : SMap Word := [(0x40, 0x10001)]

/-- COLH's confirmed read: its MPU is off and it may execute. -/
def aliasVal (s : State) (a : Nat) : Bool :=
  match s.sLoad (.col 4) a 4 with
  | .val _ _ => true
  | _ => false

theorem witness_GrottoMonitors : up.grottoOn = true ∧ up.gstate ≠ 3 ∧ (up.setFld GRT_STAT 0 GRT_STAT_GSTATE 3).gstate = 3 ∧
    (let s := (up.setReg PWM_BCFG 0 0).modBr 0 fun b => { b with outs := b.outs.set 0 { poutReset with gateOn := some 7 }, safe := some 1 }
     (vget (s.br 0).outs 0).gateOn = some 7 ∧ 7 < 8 * (s.tick + 1) ∧ s.isAux 0 (legOf 0) = false ∧ (s.br 0).safe = some 1 ∧
       (1#6).getLsbD 0 = true ∧ (1#6).getLsbD (loOf (legOf 0)).val = false ∧ (vget (s.br 0).outs 0).gate = false) ∧
    (∀ i : Fin 6, up.alive (procAt i) = true) ∧ (∀ i < 5, up.bit SYSCTL_COLCTL i SYSCTL_COLCTL_HALTED = false) ∧
    State.reset.alive (procAt 0) = false ∧ up.canRun (.col 4) = true ∧ (up.coreOf (.col 4)).guard 0 = some true ∧
    aliasVal up 0x40028060 = true ∧ aliasVal up 0x40408010 = true ∧ (0 : Word) ≠ 0xFFFFFFFF ∧
    (let b : Beat := { at_ := 0, token := 0, ns := 0, late := false }
     let s := (grt [((0xB00 + 4 + 8 * 255) / 4, 0x80000000)] 1).modGrt fun g => { g with beats := [(255, b)] }
     s.grt.beats.find? (·.1 == 255) = some (255, b) ∧ s.hRec 255 4 31 31 = 1 ∧
       b.at_ + (s.hRec 255 0 31 16 + s.hRec 255 0 15 0) * 3200 < s.grt.clk) ∧
    (250 < 20 * ((263 : Int) - 250).natAbs ∧ ¬ 250 < 20 * ((262 : Int) - 250).natAbs ∧ 5 < ((106 : Int) - 100).natAbs ∧
      ¬ 5 < ((105 : Int) - 100).natAbs) ∧ up.pllStopped = false ∧ (grt [] 10).grt.genAt + 10 ≤ (grt [] 10).us ∧
    (let w := up.railWindow 0
     w.1 - 1 < w.1 ∧ w.2 < w.2 + 1 ∧ ¬ (w.1 < w.1) ∧ w.1 ≤ w.2) ∧ up.gstate = 0 ∧
    (up.setFld GRT_PSTAT 0 GRT_PSTAT_LOCK 2).lock = 2 ∧ up.lock ≠ 2 := by decide +kernel

/-- A cross link that is on (link 0, a host of ID 5), and a STATUS frame for it. -/
def xl (run : Nat) : State :=
  (grt [(0xA00 / 4, 0x80050064), (0xA04 / 4, 0x0064FF00)] 100).modXl 0 fun l => { l with run := run }
def xlFrame : List Byte :=
  let b : List Byte := [0x11, 5, 0, 0, 0, 1, 0] ++ List.replicate 37 0
  b ++ wordBytes (crc32 b)

theorem witness_GrottoSafety :
    (let s := grt ((0x44, 0) :: ax0) 20000
     s.grottoOn = true ∧ s.axUse 0 = true ∧ s.axUse 1 = false) ∧
    (let s := grt [(0x40, 0x10001), (0x47, 0x07000064)] 0
     s.tapAxes 0 = [0] ∧ isqrt (0 : Nat) < s.aRec 0 0x1C 15 0 ∧ ¬ isqrt (1000 * 1000) < s.aRec 0 0x1C 15 0 ∧
       ¬ s.aRec 0 0x1C 31 16 < isqrt (1000 * 1000) ∧ (s.tapAt 0).pos = none ∧ (s.tapAt 0).fault = false) ∧
    (let s := grt ((0x80, 1) :: [(0x80 + 0x48 / 4, 0x00640000)]) 0
     s.axUse 1 = true ∧ (1 : Fin 8) ≠ 0 ∧ s.aRecS 1 0x48 31 16 = 100 ∧ s.tmValid 1 = false) ∧
    (let s := ((grt ax0 10000).setFld GRT_AXSTAT 0 GRT_AXSTAT_OUT 2).modAx 0 fun a => { a with lowAt := some 0 }
     (s.gax 0).lowAt = some 0 ∧ 2 ≤ s.axOut 0 ∧ 0 + 10000 ≤ s.us) ∧
    (let s := (grt ax0 1).modAx 0 fun a => { a with env := some (0, 0, 0) }
     (s.gax 0).env = some (0, 0, 0) ∧ s.axUse 0 = true ∧ 0 + s.aRec 0 0x4C 15 0 < s.us ∧ (s.gax 0).ss1 = none) ∧
    (let s := (grt [(0x40, 0x10401)] 0).modAx 0 fun a => { a with restAt := some 0 }
     s.axesUsed = [0] ∧ s.aRec 0 0 15 13 = 0 ∧ s.aRec 0 0 10 10 = 1 ∧ (s.gax 0).restAt = some 0 ∧ 0 + s.aRec 0 8 15 0 * 1000 ≤ s.us ∧
       (s.gax 0).reqd = false ∧ s.axRegion 0 = some 0) := by decide +kernel

theorem witness_GrottoSafety_inputs :
    (let s := grt [((0x900 + 240) / 4, 0x8FF00400)] 2000
     s.pairOn 15 = true ∧ s.debounced 15 true 0 = true ∧ s.tpOf 15 false = none ∧ s.tpOf 15 true = none ∧ (s.pairAt 15).tpA = 0 ∧
       (s.pairAt 15).own = 0 ∧ (s.pairAt 15).disAt = none ∧ s.pairOn 0 = false) ∧
    (let s := (grt [((0x900 + 240) / 4, 0x8FF00400)] 1001).modPair 15 fun p => { p with disAt := some 0, own := 0 }
     s.pairOn 15 = true ∧ (s.pairAt 15).disAt = some 0 ∧ 0 + s.pRec 15 0 19 10 * 1000 < s.us ∧ (s.pairAt 15).own = 0) ∧
    (let s := ((grt [((0x900 + 240) / 4, 0x8FF00400)] 0).modPair 15 fun p => { p with own := 1, lvB := some true })
     let s1 := s.modPair 15 fun p => { p with lvA := some true }
     (s.pairAt 15).own = 1 ∧ s1.chHealthy 15 false = true ∧ s1.chHealthy 15 true = true ∧ s.chHealthy 15 false = false) ∧
    ((xl 0).grottoOn = true ∧ (xl 0).xlOn 0 = true ∧ (xl 0).xlAccepts 0 xlFrame = true ∧ (xl 0).xlAccepts 0 [] = false ∧
      (xl 0).xlUp 0 = false ∧ ((xl 0).xlAt 0).run + 1 < 3 ∧ (xl 2).xlAccepts 0 xlFrame = true ∧ 3 ≤ ((xl 2).xlAt 0).run + 1 ∧
      (xl 0).xlOn 1 = false ∧ (xl 0).xRec 0 0 30 30 = 0) ∧
    (let s := (xl 0).setBit GRT_XLSTAT 0 GRT_XLSTAT_UP true
     s.xlUp 0 = true ∧ s.xlOn 0 = true ∧ (s.xlAt 0).lastAt + s.xRec 0 4 31 16 ≤ s.us) := by decide +kernel

/-- A request of COLH: a code, a body, its check word. -/
def ask (code : Nat) (body : List Word) (s : State) : State :=
  let h : Word := BitVec.ofNat 32 (code * 2 ^ 24 + body.length * 256)
  s.modMail 4 fun _ => { req := some (h :: body ++ [crcWords (h :: body)]), ans := none, irq := false }

/-- PARAM with a sub-code: its first body word. -/
def sub (n : Nat) (low : Nat) : Word := BitVec.ofNat 32 (n * 2 ^ 24 + low)

/-- The Grotto in SAFE, booted, its set good. -/
def safe : State :=
  ((((grt ax0 0).setFld GRT_STAT 0 GRT_STAT_GSTATE 1).setBit GRT_STAT 0 GRT_STAT_CCVOK true).setFld GRT_AXSTAT 0 GRT_AXSTAT_OUT 1).modGrt
    fun g => { g with bootOk := true }

/-- LOCK in a state. -/
def locked (l : Nat) (s : State) : State := s.setFld GRT_PSTAT 0 GRT_PSTAT_LOCK l

/-- A valid set of words: its identification, LEN = 0x1300, and the test pulses. -/
def goodSet : SMap Word := [(0, 0xF4A60001), (1, 0x1300), (3, 0x00640032)]

theorem witness_Mailbox_bell : up.accessStatus (.col 4) true 0x18000810 = stOK ∧ up.accessStatus (.col 0) true 0x18000800 = stOK ∧
    up.accessStatus (.col 4) true 0x18000800 = stOK ∧ (up.mailAt 4).req = none ∧ up.grottoOn = true ∧
    ((ask 2 [1] up).mailAt 4).req ≠ none ∧
    (let s := nx (.sto 4) (ask 2 [1] (grt ax0 0))
     s.earlyAnswer 4 = none ∧ (s.mailAt 4).ans = some (stOK, []) ∧ (s.mailAt 4).req ≠ none ∧ s.memOk) ∧
    (ask 0 [] up).earlyAnswer 4 = some stBAD_TARGET := by decide +kernel

theorem witness_Mailbox_codes : (∀ c ∈ [1, 2, 3, 4, 5, 6], ((ask c [1] safe).asks 4 c 0 = some [1] ∧ up.asks 4 c 0 = none)) ∧
    0 ∈ maskAxes 1 ∧ (ask 1 [1] safe).axUse 0 = true ∧ (safe.gax 0).stoUp = false ∧
    (up.ccvOk = false ∧ safe.ccvOk = true ∧ safe.gstate ≠ 0 ∧ safe.gstate ≠ 3 ∧ safe.grt.bootOk = true ∧
      safe.bit THERM_STAT 0 THERM_STAT_LATCH = false) ∧ safe.releaseRefused 0 = true ∧
    (let s := (((grt [(0x40, 0x11001)] 0).setFld GRT_AXSTAT 0 GRT_AXSTAT_OUT 1))
     s.axUse 0 = true ∧ s.releaseRefused 0 = false) ∧ bitN 1 0 = true ∧
    (let s := ask 6 [2] ((List.range 8).foldl (fun s x => s.setFld GRT_AXSTAT x GRT_AXSTAT_OUT 1) safe)
     s.asks 4 6 0 = some [2] ∧ s.gstate = 1 ∧ (∀ x < 8, s.axOut x = 1 ∧ (s.gax x).ss1 = none)) := by decide +kernel

theorem witness_Mailbox_param :
    (∀ n ∈ [1, 2, 3, 4, 5, 6, 7], ((ask 7 [sub n 0x10000, 9] up).asks 4 7 n = some [sub n 0x10000, 9] ∧ up.asks 4 7 n = none)) ∧
    (up.lock = 0 ∧ (locked 1 up).lock = 1 ∧ (locked 2 up).lock = 2) ∧ (parSpan (sub 2 0x3B0000)).1 = 59 ∧ (parSpan (sub 2 0x3C0000)).1 = 60 ∧
    (parSpan (sub 2 0)).1 = 0 ∧ (16384 < (parSpan (sub 2 0x23FFF)).1 + (parSpan (sub 2 0x23FFF)).2) ∧ (∀ x < 8, up.axOut x = 1) ∧
    (let s := (locked 1 up).setBit GRT_PSTAT 0 GRT_PSTAT_CHKOK true
     s.lock = 1 ∧ s.bit GRT_PSTAT 0 GRT_PSTAT_CHKOK = true ∧ s.grt.dirty = false ∧ s.ccv = crc32 []) ∧
    firstBad [] up.nodeIds = some 0 := by decide +kernel

theorem witness_Mailbox_set : firstBad goodSet up.nodeIds = none := by decide +kernel

theorem witness_Mailbox_record :
    (let s := up.modGrt fun g => { g with param := [(2, 1)] }
     let r := [s.ccv, 0, 0, s.recWord]
     s.recValid (r ++ [crcWords r]) = true ∧ (r ++ [crcWords r])[0]? = some s.ccv) := by decide +kernel

/-- R394: the header and body are answered in the reply slot with the status. -/
theorem test_mailbox : memWord (nx (.mailboxReply 4) (nx (.sto 4) (ask 2 [1] (grt ax0 0)))).mem 0x18002400 = 0x02000000 ∧
    ((nx (.sto 4) (ask 2 [1] (grt ax0 0))).axOut 0) = 1 := by decide +kernel

/-- R429: the third accepted frame brings the cross link up, the first does not. -/
theorem test_xl : (nx (.xlFrameReceived 0 xlFrame false) (xl 2)).xlUp 0 = true ∧ (nx (.xlFrameReceived 0 xlFrame false) (xl 0)).xlUp 0 = false := by
  decide +kernel

/-! ## Thermal management, AVSBus and power states -/

/-- The thermal block stops the device, every axis in STO. -/
def stopped : State :=
  (List.range 8).foldl (fun s x => s.setFld GRT_AXSTAT x GRT_AXSTAT_OUT 1) (up.setBit THERM_STAT 0 THERM_STAT_STOPREQ true)

/-- AVSBus 0 with a request. -/
def avs (q : AvsReq) (aon : Nat) : State := { up.modAvs 0 fun c => { c with req := some q } with aon := aon }
def req (op : Nat) (st : AvsStage) : AvsReq := { op := op, mv := 800, since := 0, resends := 8, again := true, seq := false, stage := st }

/-- Column timers: the timer source of COLH qualifies (XCAUSE 0x3C enabled at level 1, TIME at its compare value, ST.PRI 0). -/
def timer : State := up.modSproc 4 fun q => { q with wait := .wfi, csr := [(0x23, 0xFFFFFFFF), (0x24, 0xFFFFFFFF)] }

theorem witness_ThermalAndAvs : up.fabricOn = true ∧ asleep.fabricOn = false ∧ up.dieBad 23 = false ∧
    (stopped.bit THERM_STAT 0 THERM_STAT_STOPREQ = true ∧ stopped.bit THERM_STAT 0 THERM_STAT_HALT = false ∧ stopped.axOut 7 = 1) ∧
    up.accessStatus colh true (THERM_CTRL.addr 0) = stOK ∧ chamberOf up colh = 0 ∧ THERM_CTRL_SERVICE.get (THERM_CTRL_SERVICE.put 0 1) = 1 ∧
    (up.setBit THERM_STAT 0 THERM_STAT_LATCH true).bit THERM_STAT 0 THERM_STAT_LATCH = true ∧
    (let s := up.setBit LAN_CFG 0 LAN_CFG_EN true
     s.bit LAN_CFG 0 LAN_CFG_EN = true ∧ s.lanTable 0 ≠ none ∧ (s.setReg LAN_TBASE 0 0xFFFFFFFF).lanTable 0 = none ∧
       ((s.setBit LAN_LCFG 0 LAN_LCFG_EN true).lanLegs 0 0 = [0])) ∧
    up.accessStatus colh true (AVS_REQ.addr 1) = stOK ∧ (up.avsc 0).req = none ∧
    (let s := (up.setFld AVS_LIM 0 AVS_LIM_VMIN 700).setFld AVS_LIM 0 AVS_LIM_VMAX 900
     s.fld AVS_LIM 0 AVS_LIM_VMIN = 700 ∧ s.fld AVS_LIM 0 AVS_LIM_VMAX = 900 ∧
       AVS_REQ_MV.get (AVS_REQ_MV.put 0 900) = 900 ∧ AVS_REQ_MV.get (AVS_REQ_MV.put 0 901) = 901) ∧
    (up.setBit AVS_CFG 0 AVS_CFG_EN true).bit AVS_CFG 0 AVS_CFG_EN = true ∧ (up.setBit AVS_CFG 0 AVS_CFG_EN false).bit AVS_CFG 0 AVS_CFG_EN = false ∧
    (∀ q ∈ [req 0 (.frame true), req 1 (.frame true), req 0 (.frame false), req 0 (.resend 5), req 0 (.poll 5)],
      ((avs q 5).avsc 0).req = some q) ∧ (avs (req 0 (.poll 5)) 32000000).aon = 32000000 := by decide +kernel

/-- Everything waits: every column in WFI, no cell RUNNING. -/
def quiet (p : PwrPhase) : State :=
  { up with sproc := Vector.replicate 6 { sprocReset with wait := .wfi }, power := { powerReset with phase := p } }

/-- COLH's wake comparator 0 has its output at its level; the consents are raised. -/
def woken (s : State) : State := (s.setBit PWR_WCFG 0 PWR_WCFG_EN true).setFld PWR_WSTAT 0 PWR_WSTAT_OUT 1
def agreed (s : State) : State := (s.setBit PWR_STAT 0 PWR_STAT_CONSENTP true).setBit PWR_STAT 0 PWR_STAT_CONSENTK true
/-- The sequencer's own request has ended. -/
def ended (st : Nat) (s : State) : State := s.modAvs 0 fun c => { c with seqRes := some (st, 0) }
/-- At an always-on tick. -/
def at_ (n : Nat) (s : State) : State := { s with aon := n }

theorem witness_PowerStates : up.accessStatus colh true (PWR_CTRL.addr 0) = stOK ∧ up.bit PWR_STAT 0 PWR_STAT_BUSY = false ∧
    (up.setBit PWR_STAT 0 PWR_STAT_BUSY true).bit PWR_STAT 0 PWR_STAT_BUSY = true ∧ (agreed up).entryFails 3 false = none ∧
    (woken up).entryFails 3 false = some 1 ∧ up.entryFails 3 false = some 2 ∧
    (∀ n ∈ [1, 2, 3], (quiet (.quiesce n 0)).quiescent = true ∧ (quiet (.quiesce n 0)).power.exitReq = false) ∧
    (agreed (quiet (.quiesce 3 0))).entryFails 3 true = none ∧ (quiet (.quiesce 3 0)).entryFails 3 true = some 2 ∧
    (let s := { up with power := { powerReset with phase := .quiesce 1 0 } }
     s.quiescent = false ∧ 0 + max 1 (s.fld PWR_CFG 0 PWR_CFG_QTMO) * 16000 ≤ (at_ (2 ^ 40) s).aon) ∧
    (∀ p : Fin 128, (vget (quiet (.drain 3 0)).phys p).wbuf = []) ∧ (agreed (quiet (.drain 3 0))).entryFails 3 true = none ∧
    (agreed (quiet (.confirm 3 0))).allSto = true ∧ (agreed (quiet (.confirm 3 0))).entryFails 3 true = none ∧
    ((quiet (.confirm 3 0)).setFld GRT_AXSTAT 0 GRT_AXSTAT_OUT 0).allSto = false ∧
    (at_ 1920 (quiet (.handover 2 0))).galOk ∧ (ended stOK (quiet (.entering 2))).seqOutcome = some stOK ∧
    (ended stTIMEOUT (quiet (.entering 2))).seqOutcome = some stTIMEOUT ∧ (quiet .doze).quiescent = true ∧ (quiet .doze).wakeMask = 0 ∧
    (woken (quiet .doze)).wakeMask ≠ 0 ∧ (let s := up.modPower fun p => { p with consentP := some 0, consentK := some 0 }
     s.power.consentP = some 0 ∧ s.power.consentK = some 0 ∧ s.grottoOn = true ∧ 0 ≤ s.us) ∧
    (woken (quiet (.asleep 2))).wakeMask = 1 ∧ (ended 0 (quiet (.wake 2 2 0))).seqOutcome = some 0 ∧
    (at_ 8000000 (quiet (.wake 2 4 0))).aon ≤ 0 + 8000000 ∧ (quiet (.wake 2 2 0)).fld WAKE_STAT 0 WAKE_STAT_TRIES = 0 ∧
    (let s := quiet (.wake 2 2 0)
     s.fld WAKE_STAT 0 WAKE_STAT_TRIES ≠ (s.setFld PWR_CFG 0 PWR_CFG_WAKE_RETRY 3).fld PWR_CFG 0 PWR_CFG_WAKE_RETRY ∧
       s.fld WAKE_STAT 0 WAKE_STAT_TRIES = (s.setFld PWR_CFG 0 PWR_CFG_WAKE_RETRY 0).fld PWR_CFG 0 PWR_CFG_WAKE_RETRY ∧ s.heldScope < 2) ∧
    (at_ 1600000000 (quiet (.retry 2 0))).power.phase = .retry 2 0 := by decide +kernel

/-- R562: DOZE, once quiescent; R567: KEEP without consent is abandoned at A1 with reason 2. -/
theorem test_doze : (nx .quiescence (quiet (.quiesce 1 0))).power.phase = .doze ∧
    (nx (.keep colh) up).fld PWR_STAT 0 PWR_STAT_ABPT = 1 ∧ (nx (.keep colh) up).fld PWR_STAT 0 PWR_STAT_REASON = 2 := by decide +kernel

/-! ## Reset, boot and debug -/

theorem witness_ResetsAndBoot : State.reset.heldScope = 3 ∧ up.heldScope = 0 ∧ up.accessStatus colh true (SYSCTL_RSTCTL.addr 0) = stOK ∧
    (∃ ag ∈ [Agent.col 0, Agent.cell 0, Agent.engine 0 0], ag ≠ colh ∧ ag ≠ .debug ∧ up.accessStatus ag true (SYSCTL_RSTCTL.addr 0) = stOK) ∧
    up.fld DBG_STAT 0 DBG_STAT_LEVEL = 0 ∧ (up.setFld DBG_STAT 0 DBG_STAT_LEVEL 1).fld DBG_STAT 0 DBG_STAT_LEVEL ≠ 0 ∧
    up.parking = false ∧ asleep.parking = true ∧
    (let s := { up.setBit SYSCTL_RSTCFG 0 SYSCTL_RSTCFG_HALTWARM true with boot := { up.boot with colhAt := some 0 }, aon := 1600000 }
     s.boot.colhAt = some 0 ∧ s.bit SYSCTL_RSTCFG 0 SYSCTL_RSTCFG_HALTWARM = true ∧ 0 + 1600000 ≤ s.aon) ∧
    State.reset.boot.start = .held 3 0 ∧ { up with boot := { up.boot with start := .held 1 0 }, aon := 160000 }.heldScope = 1 ∧
    (nx (.selfTestWave none) { up with boot := { up.boot with start := .test 5 0 } }).boot.start = .test 6 0 ∧
    (let s := { up with boot := { up.boot with start := .rom } }
     s.boot.start = .rom ∧ s.boot.tap.testen = false ∧ (s.setReg SYSCTL_BOOTSTAT 0 0xFFFFFFFF).fld SYSCTL_BOOTSTAT 0
       SYSCTL_BOOTSTAT_BOOTMODE = 3 ∧ s.imgResult 0 none ≠ 1) ∧
    up.accessStatus .debug true (DBG_CTRL.addr 0) = stOK ∧ up.bit DBG_STAT 0 DBG_STAT_BLOCKED = false ∧ up.bit DBG_STAT 0 DBG_STAT_BUSY = false ∧
    (nx (.newchal .debug) up).boot.want = true ∧ up.boot.want = false ∧ up.boot.sub = none ∧
    (let q : DbgSub := { level := 1, kslot := false, nonce := none }
     let s := { up with boot := { up.boot with sub := some q } }
     s.boot.sub = some q ∧ s.dbgAccepts q = false ∧ (s.setFld DBG_STAT 0 DBG_STAT_FAILS 2).fld DBG_STAT 0 DBG_STAT_FAILS = 2) := by
  decide +kernel

/-- R587: the third failure blocks the debug port. -/
theorem test_debug_block :
    (let s := { up.setFld DBG_STAT 0 DBG_STAT_FAILS 2 with boot := { up.boot with sub := some { level := 1, kslot := false, nonce := none } } }
     (nx .dbgDecision s).bit DBG_STAT 0 DBG_STAT_BLOCKED = true ∧ (nx .dbgDecision s).fld DBG_STAT 0 DBG_STAT_LEVEL = 0) := by
  decide +kernel

/-- R578: a warm reset through WRST# spares TIME and clears a cell's registers. -/
theorem test_warm : (nx (.wrst 1000) (nx .timeAdvance up)).time.now = 0x190000000 ∧
    (nx (.wrst 1000) (cellUp.modPhys 0 fun ph => { ph with core := { ph.core with pc := 9 } })).phys = State.reset.phys ∧ nx (.wrst 999) up = up := by decide +kernel

/-! ## Columns, chambers and aborts -/

/-- COLH with some CSRs, and with ST changed. -/
def colS (csr : SMap Word) (f : Core → Core) : State := up.modSproc 4 fun q => { q with csr := csr, core := f q.core }

theorem witness_ColumnSystemOps : (up.coreOf (.col 4)).stb 31 = true ∧ ((colS [] fun k => k.setStb 31 false).coreOf (.col 4)).stb 31 = false ∧
    (0x020 : BitVec 13).getLsbD 12 = false ∧ csrKnown 0x020 = true ∧ csrKnown 0x010 = true ∧ csrMask 0x020 ≠ 0 ∧
    (0x020 : BitVec 13).toNat ≠ 0x021 ∧ up.maySelect 4 0 = true ∧ up.maySelect 4 15 = false ∧ up.irqNext 4 = none ∧
    (let s := (colS [(0x23, 0x80000000), (0x27, 0x10000000)] id).modSproc 4 fun q =>
       { q with swi := 1 }
     s.irqNext 4 = some 31 ∧ s.alive (.col 4) = true ∧ (vget s.sproc 4).wait = .run ∧ (vget s.sproc 4).refusal = none ∧
       ((s.modSproc 4 fun q => { q with core := q.core.setStb 15 true }).coreOf (.col 4)).stb 15 = true ∧
       ((s.modSproc 4 fun q => { q with core := q.core.setStb 15 false }).coreOf (.col 4)).stb 15 = false) := by decide +kernel

/-- COLH's data cache holds the first line of system SRAM, changed. -/
def cached : State := up.modSproc 4 fun q => { q with dcache := [(0x400000, { dirty := true, data := List.replicate 64 7 })] }

theorem witness_ColumnMemoryOps : up.memOk ∧ (up.coreOf (.col 4)).stb 31 = true ∧ (up.coreOf (.col 4)).prog = 0 ∧
    up.dline 4 0x400000 = none ∧ (cached.dline 4 0x400000).isSome = true ∧ 64 * 0x400000 % 4 = 0 ∧
    (∀ i < 16, cached.accessStatus colh true (0x10000000 + 4 * i) = stOK ∧ up.eccOf (0x10000000 + 4 * i) = 0 ∧
      up.accessStatus colh false (0x10000000 + 4 * i) = stOK ∧ up.mpu 4 (0x10000000 + 4 * i) 0 = some false ∧
      up.mpu 4 (0x10000000 + 4 * i) 1 = some false) ∧ (vget cached.sproc 4).dcache.length ≤ (1 : BitVec 10).toNat ∧
    (up.coreOf .grotto).stb 31 = true ∧ up.canRun .grotto = true := by decide +kernel

theorem witness_ChambersAndColumns : up.accessStatus colh true (FAB_CH_CFG.addr 15) = stOK ∧ (15 : Fin 16) ≠ 0 ∧
    (let s := up.setBit FAB_CH_CFG 15 FAB_CH_CFG_ACTIVE true
     s.chActive 15 = true ∧ s.chamberHeld 15 = false ∧ { s with owner := [(0x10000, 15)] }.chamberHeld 15 = true) ∧
    up.chActive 15 = false ∧ up.accessStatus colh true (FAB_ASN_CMD.addr 0) = stOK ∧ up.abort = none ∧ kindSize 0 = 0 ∧ kindSize 1 = 128 ∧
    (let s := (up.setFld FAB_ASN_RANGE 0 FAB_ASN_RANGE_FIRST 127).setFld FAB_ASN_RANGE 0 FAB_ASN_RANGE_COUNT 1
     s.fld FAB_ASN_RANGE 0 FAB_ASN_RANGE_FIRST = 127 ∧ max 1 (s.fld FAB_ASN_RANGE 0 FAB_ASN_RANGE_COUNT) = 1 ∧ 127 + 1 ≤ kindSize 1 ∧
       s.movable 1 127 0 = true ∧ s.chActive 0 = true) ∧ cellUp.movable 1 0 0 = false ∧
    kindSize 1 < 127 + 2 ∧ up.accessStatus colh true (FAB_QUERY.addr 0) = stOK ∧ kindSize 1 ≤ (128 : Half).toNat ∧ up.unitOwner 1 127 < 16 ∧
    16 ≤ { up with owner := smSet up.owner (0x0F * 2 ^ 16 + 5) 16 }.unitOwner 0x0F 5 ∧ (5 : Half).toNat < kindSize 0x0F ∧
    (let s := { up.setFld SYSCTL_COLCTL 4 SYSCTL_COLCTL_WDT 1 with tick := 640 }
     s.treesOn = true ∧ s.fld SYSCTL_COLCTL 4 SYSCTL_COLCTL_WDT ≠ 0 ∧ (vget s.sproc 4).inReset = false ∧
       (vget s.sproc 4).kickAt + 640 * s.fld SYSCTL_COLCTL 4 SYSCTL_COLCTL_WDT ≤ s.tick ∧
       (s.setBit SYSCTL_RSTCFG 0 SYSCTL_RSTCFG_WDTWARM true).bit SYSCTL_RSTCFG 0 SYSCTL_RSTCFG_WDTWARM = true) ∧
    (∀ c < 5, up.accessStatus (.col (Fin.ofNat 5 c)) true (SYSCTL_COLKICK.addr c) = stOK) ∧ up.accessStatus colh true (SYSCTL_COLKICK.addr 0) = stOK ∧
    SYSCTL_COLKICK_KICK.get (SYSCTL_COLKICK_KICK.put 0 1) = 1 ∧ SYSCTL_COLKICK_KICK.get 0 ≠ 1 ∧
    up.accessStatus colh true (SYSCTL_COLCTL.addr 0) = stOK ∧ (vget (nx (.columnReset colh 0) up).sproc 0).restart = true ∧
    (nx (.columnReset colh 0) up).treesOn = true ∧ (vget up.sproc 0).restart = false := by decide +kernel

theorem witness_Aborts : up.accessStatus colh true (FAB_ABORT.addr 0) = stOK ∧ up.abort = none ∧ up.galOk ∧ up.echoOk ∧
    (∀ k ∈ [(1, 128), (2, 16), (3, 0x1B), (4, 4), (5, 16)], (abortKind k.1).1 = k.2) ∧
    (vget cellUp.lcell 0).twin = none ∧ (vget cellUp.lcell 0).work = .none ∧ cellUp.physOf 0 = some 0 ∧ cellUp.lstate 0 = 1 ∧
    cellUp.gal.events.all (fun e => !e.toCell 0) = true ∧ (∀ c : Fin 128, up.physOf c = some c) ∧
    (nx (.abortCell colh 0) cellUp).abort = some { kind := 1, target := 0, since := 0, mask := (abortKind 1).2.1 } ∧
    (0 : Byte) &&& (abortKind 1).2.1 = 0 ∧ (1 : Byte) &&& (abortKind 1).2.1 = 1 ∧
    (nx (.abortCell colh 0) cellUp).abort.any (fun a : AbortWork => decide (a.since + (abortKind a.kind).2.2 ≤ 2 ^ 30)) = true := by
  decide +kernel

/-- R470, R471: an abort of a cell stops it; the end shows OK and the duration. -/
theorem test_abort : (nx (.abortCell colh 0) cellUp).lstate 0 = 0 ∧
    (nx (.abortComplete 0) { nx (.abortCell colh 0) cellUp with tick := 50 }).reg FAB_ABORT_TIME 0 = 50 ∧
    (nx (.abortComplete 0) { nx (.abortCell colh 0) cellUp with tick := 50 }).abortIrq = true := by decide +kernel

/-- R468: 128 cells; moving cell 127 to a chamber that is not active answers PERM. -/
theorem test_assign : (nx (.assign colh 1 5) (up.setFld FAB_ASN_RANGE 0 FAB_ASN_RANGE_FIRST 127)).fld FAB_ASN_RES 0 FAB_ASN_RES_STATUS = stPERM ∧
    (nx (.assign colh 1 5) ((up.setBit FAB_CH_CFG 5 FAB_CH_CFG_ACTIVE true).setFld FAB_ASN_RANGE 0 FAB_ASN_RANGE_FIRST 127)).ownerOf 1 127 = 5 := by
  decide +kernel

/-- R466: WFI with no source waits; SWI to COLH wakes it. -/
theorem test_wfi : (nx (.wfi (.col 4) 0 0 0 0 0) up).waitOf (.col 4) = .wfi ∧
    (vget (nx (.swi (.col 0) 0 0 1) (up.modSproc 0 fun q => { q with core := { q.core with r := q.core.r.set 1 16 } })).sproc 4).swi = 1 := by
  decide +kernel

/-- R461, R462: a written-back line stands in memory. -/
theorem test_writeback : memWord (nx (.cacheWritebackLine (.col 4) 0 0 1 0)
    (cached.modSproc 4 fun q => { q with core := { q.core with r := q.core.r.set 1 0x10000004 } })).mem 0x1000003C = 0x07070707 := by decide +kernel

/-! ## Echo, Ethernet, CAN -/

/-- The Echo ports are UP, in rings of four nodes; ring 0 receives. -/
def echoUp : State :=
  ([0, 1, 2, 3].foldl (fun s k => s.setFld ECHO_STAT k ECHO_STAT_LINK 2) ring0) |> fun s =>
    (s.setFld ECHO_NODE 0 ECHO_NODE_RSZ 3).setFld ECHO_NODE 1 ECHO_NODE_RSZ 3

/-- A sound Echo frame: its first two bytes, its sequence, source, destination and ring, byte 13 and payload. -/
def eFrame (b0 b1 : Byte) (seq src dst dring : Nat) (st : Byte) (pay : List Byte) : List Byte :=
  let half (n : Nat) : List Byte := [BitVec.ofNat 8 n, BitVec.ofNat 8 (n / 256)]
  let h := [b0, b1] ++ half seq ++ half src ++ half dst ++ half dring ++ [0, 0, BitVec.ofNat 8 pay.length, st]
  h ++ half (crc16 h).toNat ++ pay ++ wordBytes (crc32 ((h.drop 4) ++ pay))

/-- A DATA frame from node 1 that asks for an ACK. -/
def dataTo (dst dring : Nat) : List Byte := eFrame 0x18 9 1 1 dst dring 0 [1, 2, 3, 4]

/-- A send of binding 0, at index 0 of ring 0, to node 1, its ACK due at tick 100. -/
def send0 : ESend :=
  { bind := 0, ring := 0, eseq := 0, ackreq := true, event := none, multi := { asked := 1, open_ := 1, fails := [] },
    units := [{ unit := 0, node := 1, port := 1, due := some 100 }], result := none }

/-- A send of that frame waits in a port's queue. -/
def qframe : EFrame :=
  { ack := false, ackreq := false, wrap := false, hops := 255, src := 0, dst := 1, dring := 0, cls := 0, eseq := 0, status := 0,
    payload := [], own := none }

theorem witness_EchoPorts_received : (∀ k < 4, echoUp.portUp k = true) ∧ up.portUp 0 = false ∧ frameType [] ≠ 1 ∧
    (∀ b ∈ [(0x18, 1), (0x20, 2), (0x30, 3), (0x40, 4), (0x50, 5), (0x60, 6)], frameType (eFrame b.1 9 1 1 0 0 0 []) = b.2 ∧
      frameSound (eFrame b.1 9 1 1 0 0 0 []) = true ∧ frameType (eFrame b.1 9 1 1 0 0 0 []) ≠ 0) ∧
    frameSound (dataTo 0 0) = true ∧ frameType (dataTo 0 0) = 1 ∧ frameSound ((dataTo 0 0).set 1 3) = false ∧
    (echoUp.ep 0).rxSeq = none ∧
    (0 < ((0x7FFF : BitVec 16) - 0).toNat ∧ ((0x7FFF : BitVec 16) - 0).toNat < 0x8000 ∧ ¬ ((0x8000 : BitVec 16) - 0).toNat < 0x8000) ∧
    (let f := parseFrame (dataTo 0 0) 0
     f.ackreq = true ∧ f.hops ≠ 0 ∧ f.dst = echoUp.nodeId 0 ∧ f.dring = 0 ∧ f.payload = [1, 2, 3, 4] ∧
       echoUp.route 0 f.src = .inl 1 ∧ ((echoUp.ep 1).queue.filter (·.cls == f.cls)).length < 8 ∧
       echoUp.ringRx 0 = true ∧ f.payload.length + 12 ≤ echoUp.ringEntry 0 ∧ echoUp.ringRx 1 = false ∧
       echoUp.bit ECHO_CHCFG (echoUp.ringOwner 0) ECHO_CHCFG_RXEN = true ∧ echoUp.ringFull 0 = false ∧
       (echoUp.setBit ECHO_CHCFG 0 ECHO_CHCFG_RXEN false).bit ECHO_CHCFG 0 ECHO_CHCFG_RXEN = false ∧
       (echoUp.setFld GAL_RING_IDX 0 GAL_RING_IDX_PROD 16).ringFull 0 = true ∧ echoUp.bit GAL_RING_CFG 0 GAL_RING_CFG_AUTO = false) ∧
    echoUp.memOk ∧ (parseFrame (eFrame 0x10 0 1 1 0 0 0 []) 0).hops = 0 ∧ (parseFrame (eFrame 0x10 0 1 1 0 0 0 []) 0).ackreq = false ∧
    (let f := parseFrame (dataTo 2 0) 0
     f.hops ≠ 0 ∧ f.dst ≠ echoUp.nodeId 0 ∧ f.dst ≠ echoUp.nodeId 1 ∧ f.dst / 64 = echoUp.nodeId 0 / 64 ∧
       ((echoUp.ep 1).queue.filter (·.cls == f.cls)).length < 8) := by decide +kernel

theorem witness_EchoPorts_exchange :
    (let f := parseFrame (eFrame 0x20 9 1 1 0 0 0 []) 0
     let u : EUnit := { unit := 0, node := 1, port := 1, due := some 100 }
     f.hops ≠ 0 ∧ f.dst = echoUp.nodeId 0 ∧ send0.units = [u] ∧ u.node = f.src ∧ u.due ≠ none ∧ send0.ackreq = true ∧
       send0.eseq = f.eseq ∧ send0.result = none ∧ send0.event = none ∧ send0.multi.open_ = 1#16 <<< u.unit ∧ send0.ring < 16384) ∧
    (echoUp.ep 0).tt = none ∧ ((echoUp.modEp 0 fun p => { p with tt := some (5, 0) }).ep 0).tt = some (5, 0) ∧
    echoUp.segBroken 0 1 = false ∧ (echoUp.setSeg 0 1 true).segBroken 0 1 = true ∧ frByte (eFrame 0x50 9 1 1 0 0 0 [1]) 1 ≠ 0 ∧
    (let s := echoUp.setBit ECHO_CFG 0 ECHO_CFG_TTEN true
     s.portUp 0 = true ∧ s.bit ECHO_CFG 0 ECHO_CFG_TTEN = true ∧ (s.ep 0).ttAt = none ∧
       (echoUp.setBit ECHO_CFG 0 ECHO_CFG_TTEN false).bit ECHO_CFG 0 ECHO_CFG_TTEN = false) ∧
    (let s := { echoUp.modEp 0 fun p => { p with tt := some (5, 0) } with tick := 64000 }
     s.fabricOn = true ∧ (s.ep 0).tt = some (5, 0) ∧ 0 + 64000 ≤ s.tick) ∧
    (let s := up.setBit ECHO_CFG 0 ECHO_CFG_EN true
     s.fabricOn = true ∧ s.bit ECHO_CFG 0 ECHO_CFG_EN = true ∧ s.portUp 0 = false) ∧ asleep.fabricOn = false ∧
    up.echoOk ∧ (∀ f ∈ (echoUp.ep 0).queue, f.own = none) ∧ echoUp.portUp (portMate 0) = true ∧ up.fabricOn = true ∧
    (let s := echoUp.modEp 0 fun p => { p with queue := [qframe] }
     s.portUp 0 = true ∧ (s.ep 0).queue.any (·.cls == s.fld ECHO_CLSLO 0 (fldAt 4 0)) = true ∧ (s.ep 0).slot = 0 ∧
       (s.ep 0).queue.find? (·.cls == 0) = some qframe) ∧
    (let q := { qframe with cls := 3 }
     let s := echoUp.modEp 0 fun p => { p with queue := [q] }
     (s.ep 0).queue.any (·.cls == s.fld ECHO_CLSLO 0 (fldAt 4 0)) = false ∧
       nextChamber (s.ep 0).lend (fun c => (s.ep 0).queue.any (·.cls == c)) = some 3 ∧ (s.ep 0).queue.find? (·.cls == 3) = some q) ∧
    (echoUp.ep 0).queue = [] ∧ up.echo.sends = [] ∧
    (let s := { echoUp with tick := 100, echo := { echoUp.echo with sends := [send0] } }
     s.fabricOn = true ∧ s.echo.sends = [send0] ∧ 100 ≤ s.tick) := by decide +kernel

/-- R491: a DATA frame for this node fills an entry of its ring, and its ACK waits at the port towards its source. -/
theorem test_echoData : (nx (.echoData 0 (dataTo 0 0) 0 false false) echoUp).fld GAL_RING_IDX 0 GAL_RING_IDX_PROD = 1 ∧
    memWord (nx (.echoData 0 (dataTo 0 0) 0 false false) echoUp).mem 0x10000000 = 0x00010000 ∧
    memWord (nx (.echoData 0 (dataTo 0 0) 0 false false) echoUp).mem 0x10000008 = 0x04030201 ∧
    ((nx (.echoData 0 (dataTo 0 0) 0 false false) echoUp).ep 1).queue.map (fun f => (f.ack, f.dst, f.status)) = [(true, 1, 0)] := by
  decide +kernel

/-- A frame of 60 bytes from an address to the broadcast address, with its FCS. -/
def ethBody : List Byte := List.replicate 6 0xFF ++ [2, 0, 0, 0, 0, 1, 0x08, 0] ++ List.replicate 46 5
def ethFrame : List Byte := ethBody ++ wordBytes (crc32 ethBody)
def pauseBody : List Byte := [1, 0x80, 0xC2, 0, 0, 1] ++ [2, 0, 0, 0, 0, 1, 0x88, 8, 0, 1, 0, 2] ++ List.replicate 42 0
def pauseFrame : List Byte := pauseBody ++ wordBytes (crc32 pauseBody)

/-- Ethernet MAC 0 is up; ring 0 holds entries of 128 bytes, and receives queue 0. -/
def ethUp : State :=
  (((ring0.setBit ETH_CFG 0 ETH_CFG_EN true).setBit ETH_STAT 0 ETH_STAT_LINK true).setFld GAL_RING_CFG 0 GAL_RING_CFG_ESZ 3).setReg ETH_RXQ 0
    0x80000000

/-- Ring 0 transmits for queue 0: at index 0 an entry with the trailer `tr` and two bytes. -/
def ethTx (tr : Word) : State :=
  let s := ((ethUp.setReg ETH_TXQ 0 0x80000000).setBit GAL_RING_BASE 0 GAL_RING_BASE_TXR true).setFld GAL_RING_IDX 0 GAL_RING_IDX_PROD 1
  { s.pokeWords 0x10000000 ([2, 0, 0, 0xBBAA] ++ List.replicate 27 0 ++ [tr]) with txr := [(0, { next := 0, lap := 1, told := none })] }

theorem witness_EthernetMacs : up.macUp 0 = false ∧ ethUp.macUp 0 = true ∧ ([] : List Byte).length < 64 ∧ ethFrame.length = 64 ∧
    1522 < (List.replicate 1523 (0 : Byte)).length ∧ frWord ethFrame 60 = (crc32 (ethFrame.take 60)).toNat ∧
    frWord (ethFrame.set 20 6) 60 ≠ (crc32 ((ethFrame.set 20 6).take 60)).toNat ∧ pauseFrame.length = 64 ∧
    frWord pauseFrame 60 = (crc32 (pauseFrame.take 60)).toNat ∧
    (ethUp.setBit ETH_CFG 0 ETH_CFG_RXPAUSE true).bit ETH_CFG 0 ETH_CFG_RXPAUSE = true ∧ beNum (pauseFrame.take 6) = 0x0180C2000001 ∧
    beNum ((pauseFrame.drop 12).take 4) = 0x88080001 ∧ beNum (ethFrame.take 6) ≠ 0x0180C2000001 ∧
    ethUp.macAccepts 0 ethFrame = true ∧ (ethUp.setBit ETH_CFG 0 ETH_CFG_BCAST false).macAccepts 0 ethFrame = false ∧
    ethUp.rxQueue 0 ethBody = 0 ∧ ethUp.bit ETH_RXQ 0 ETH_RXQ_EN = true ∧ ethUp.ringRx 0 = true ∧
    (ethUp.setReg ETH_RXQ 0 0).bit ETH_RXQ 0 ETH_RXQ_EN = false ∧ ethUp.bit GAL_RING_CFG 0 GAL_RING_CFG_AUTO = false ∧
    ethUp.ringDepth 0 < (framePieces 128 ethBody).length + (ethUp.setFld GAL_RING_IDX 0 GAL_RING_IDX_PROD 16).ringCount 0 ∧
    ethBody.length ≤ 128 - 16 ∧ ethUp.ringEntry 0 = 128 ∧ ethUp.ringFull 0 = false ∧ ethUp.ringCount 0 + 1 ≤ ethUp.ringDepth 0 ∧
    ethUp.memOk ∧ ethUp.macPaused 0 = false ∧
    (ethUp.modMac 0 fun m => { m with pause := some (0, 1000) }).macPaused 0 = true ∧
    (let s := (ethTx 0x01000002).setReg ETH_SLOTLO 0 8
     (fldAt 4 0).get (s.reg ETH_SLOTLO 0) / 8 = 1 ∧ s.ethHas 0 0 = true ∧ (s.mac 0).slot = 0 ∧ s.macUp 0 = true) ∧
    (let s := (ethTx 0x01000002).setReg ETH_SLOTLO 0 0
     (fldAt 4 0).get (s.reg ETH_SLOTLO 0) / 8 ≠ 1 ∧
       (((List.range 8).map fun i => ((s.mac 0).lend + 1 + i) % 8).find? fun q => s.ethHas 0 q) = some 0) ∧
    (((List.range 8).map fun i => ((ethUp.mac 0).lend + 1 + i) % 8).find? fun q => ethUp.ethHas 0 q) = none ∧
    (match (ethTx 0x01000002).ethHead 0 0 with | .frame false [0xAA, 0xBB] 1 => true | _ => false) = true ∧
    (match (ethTx 0x01000003).ethHead 0 0 with | .bad _ 1 => true | _ => false) = true ∧
    (match (ethTx 0x02000002).ethHead 0 0 with | .stale => true | _ => false) = true ∧
    ethUp.fabricOn = true ∧ ethUp.bit ETH_CFG 0 ETH_CFG_EN = true ∧ up.bit ETH_CFG 0 ETH_CFG_EN = false ∧
    up.accessStatus colh true (ETH_MDIO.addr 0) = stOK ∧ up.bit ETH_MDIO 0 ETH_MDIO_BUSY = false ∧
    (up.setBit ETH_MDIO 0 ETH_MDIO_BUSY true).bit ETH_MDIO 0 ETH_MDIO_BUSY = true := by decide +kernel

/-- R498, R499: word 0 of the entry is the length and the queue; R500: two octets are padded to 60 before the FCS. -/
theorem test_eth : memWord (nx (.ethFrameReceived 0 ethFrame 0) ethUp).mem 0x10000000 = 60 ∧
    (nx (.ethFrameReceived 0 ethFrame 0) ethUp).fld GAL_RING_IDX 0 GAL_RING_IDX_PROD = 1 ∧
    (let t := nx (.ethTransmit 0 0) (ethTx 0x01000002)
     (t.mac 0).line.length = 64 ∧ (t.mac 0).line.take 3 = [0xAA, 0xBB, 0] ∧ t.fld GAL_RING_IDX 0 GAL_RING_IDX_CONS = 1) := by
  decide +kernel

/-- CAN controller 0 runs; filter 0 sends the identifiers of `frame1` to ring 0, whose entries hold 32 bytes. -/
def canUp : State :=
  ((((ring0.setBit CAN_CFG 0 CAN_CFG_EN true).setFld CAN_CFG 0 CAN_CFG_MODE 0).setFld GAL_RING_CFG 0 GAL_RING_CFG_ESZ 1).setReg CAN_FLTID 0
    0x40000).setReg CAN_FLTC 0 0x80000000 |>.setReg CAN_FLTM 0 0x1FFFFFFF

/-- Buffers 0 and 1 of controller 0 are pending. -/
def canPend : State := (canUp.setReg CAN_TXB_RES 0 (CAN_TXB_RES_PEND.put 0 1)).setReg CAN_TXB_RES 1 (CAN_TXB_RES_PEND.put 0 1)

/-- Buffer 0 is on the bus. -/
def canBus (ab : Bool) : State := canPend.modCan 0 fun c => { c with bus := some { buf := 0, abort := ab, sof := 0 } }

theorem witness_CanControllers : canUp.canOn 0 = true ∧ canUp.canMode 0 ≠ 2 ∧ canUp.busOff 0 = false ∧ up.canOn 0 = false ∧
    canUp.canMatch 0 frame1 0 = true ∧ (∀ j < 16, canUp.canMatch 0 { frame1 with id := 0x80000 } j = false) ∧
    canUp.ringRx 0 = true ∧ canUp.bit GAL_RING_CFG 0 GAL_RING_CFG_AUTO = false ∧ canUp.ringOwner 0 = canUp.ownerOf 0x12 0 ∧
    canUp.ringFull 0 = false ∧ 16 + canLen false false 1 ≤ canUp.ringEntry 0 ∧ canUp.memOk ∧
    (canUp.setFld GAL_RING_IDX 0 GAL_RING_IDX_PROD 16).ringFull 0 = true ∧
    127 < (canUp.setFld CAN_ERR 0 CAN_ERR_REC 128).fld CAN_ERR 0 CAN_ERR_REC ∧ canUp.fld CAN_ERR 0 CAN_ERR_REC ≤ 127 ∧
    (canUp.setBit CAN_CFG 0 CAN_CFG_PEXEN true).bit CAN_CFG 0 CAN_CFG_PEXEN = true ∧ canUp.bit CAN_CFG 0 CAN_CFG_PEXEN = false ∧
    canUp.accessStatus colh true (CAN_TXB_CTL.addr (txbIdx 0 2)) = stOK ∧ canPend.txPend 0 0 = true ∧ canUp.txPend 0 0 = false ∧
    CAN_TXB_CTL_BRS.get (CAN_TXB_CTL_BRS.put 0 1) = 1 ∧ CAN_TXB_CTL_FDF.get 0 ≠ 1 ∧
    bitN ((canUp.setReg CAN_TXB_ID 0 0x40000000).reg CAN_TXB_ID 0).toNat 30 = true ∧
    (canUp.setFld CAN_CFG 0 CAN_CFG_MODE 1).canMode 0 = 1 ∧ (canUp.setFld CAN_ERR 0 CAN_ERR_STATE 2).busOff 0 = true ∧
    canUp.canMode 0 ≠ 1 ∧ ((canBus false).canc 0).bus.isSome = true ∧ (canPend.canc 0).bus = none ∧
    canPend.canOn 0 = true ∧ canPend.busOff 0 = false ∧ (∀ b < 3, canUp.txPend 0 b = false) ∧
    canPend.arbKey 0 0 ≤ canPend.arbKey 0 1 ∧ (canBus true).canOn 0 = true ∧
    (∀ x ∈ [(0, false), (247, false), (248, true)], x.2 = decide (255 < (canUp.setFld CAN_ERR 0 CAN_ERR_TEC x.1).fld CAN_ERR 0 CAN_ERR_TEC + 8)) ∧
    canUp.accessStatus colh true (CAN_CTRL.addr 0) = stOK ∧ CAN_CTRL_RECOVER.get (CAN_CTRL_RECOVER.put 0 1) = 1 ∧
    CAN_CTRL_RECOVER.get 0 ≠ 1 ∧
    (let s := (canUp.setFld CAN_ERR 0 CAN_ERR_STATE 2).setBit CAN_CFG 0 CAN_CFG_AUTOREC true
     s.canOn 0 = true ∧ s.busOff 0 = true ∧ s.bit CAN_CFG 0 CAN_CFG_AUTOREC = true) := by decide +kernel

/-- R512: the entry of a received frame holds its identifier and its data. -/
theorem test_canRx : memWord (nx (.canFrameReceived 0 frame1 0) canUp).mem 0x10000000 = 0x40000 ∧
    memWord (nx (.canFrameReceived 0 frame1 0) canUp).mem 0x1000000C = 7 := by decide +kernel

/-- R518: the transmit counter passes 255, and the controller is bus-off. -/
theorem test_canBusOff : (nx (.canTxEnd 0 (.error 3 false)) ((canBus false).setFld CAN_ERR 0 CAN_ERR_TEC 248)).busOff 0 = true ∧
    (nx (.canTxEnd 0 (.error 3 false)) ((canBus false).setFld CAN_ERR 0 CAN_ERR_TEC 247)).busOff 0 = false ∧
    (nx (.canTxEnd 0 .success) (canBus false)).fld CAN_TXB_RES 0 CAN_TXB_RES_STATUS = stOK := by decide +kernel

/-! ## Serial ports and pins -/

def spiHost : State := (up.setBit SPI_CFG 0 SPI_CFG_EN true).setBit SPI_CFG 0 SPI_CFG_TGT false
/-- SPI 0 as a target with a window of 1 KiB at the start of system SRAM. -/
def spiTarget : State :=
  (((up.setBit SPI_CFG 0 SPI_CFG_EN true).setBit SPI_CFG 0 SPI_CFG_TGT true).setFld SPI_TWIN 0 SPI_TWIN_BASE 0x1000).setFld SPI_TWIN 0
    SPI_TWIN_SIZE 1
def xspiOn : State := up.setBit XSPI_CFG 0 XSPI_CFG_EN true
def uart0 : State := up.setBit UART_CFG 0 UART_CFG_EN true
def i2c0 : State := up.setBit I2C_CFG 0 I2C_CFG_EN true
def i2cCmd0 (v : Word) : State := (i2c0.setBit I2C_STAT 0 I2C_STAT_BUSY true).modI2c 0 fun c => { c with cmd := some v }

theorem witness_SerialAndPins : (∀ k < 4, up.accessStatus colh true (SPI_TXD.addr k) = stOK) ∧
    16 ≤ ((up.modSpi 0 fun c => { c with tx := List.replicate 16 0 }).spic 0).tx.length ∧ (up.spic 0).tx.length < 16 ∧
    spiHost.spiOn 0 = true ∧ spiHost.spiTgt 0 = false ∧ spiTarget.spiOn 0 = true ∧ spiTarget.spiTgt 0 = true ∧
    ((spiHost.modSpi 0 fun c => { c with tx := [5] }).spic 0).tx = [5] ∧
    16 ≤ ((spiHost.modSpi 0 fun c => { c with tx := [5], rx := List.replicate 16 0 }).spic 0).rx.length ∧
    spiHost.bit SPI_CFG 0 SPI_CFG_CSHOLD = false ∧
    spiTarget.spiWin 0 = some 0x10000000 ∧ spiTarget.spiWin 1020 = some 0x100003FC ∧ spiTarget.spiWin 1024 = none ∧
    spiTarget.fld SPI_TWIN 0 SPI_TWIN_BASE * 65536 + 4 = 0x10000004 ∧ spiTarget.memOk ∧
    up.accessStatus colh true (XSPI_CMD.addr 0) = stOK ∧ xspiOn.xspi.cmd = none ∧ xspiOn.bit XSPI_CFG 0 XSPI_CFG_EN = true ∧
    { xspiOn with xspi := { xspiOn.xspi with cmd := some 0 } }.xspi.cmd = some 0 ∧ xspiOn.fabricOn = true ∧
    XSPI_CMD_DIR.get 0 = 0 ∧ XSPI_CMD_DIR.get (XSPI_CMD_DIR.put 0 1) ≠ 0 ∧
    up.accessStatus colh true (UART_TXD.addr 1) = stOK ∧ (up.uartc 0).tx.length < 32 ∧
    32 ≤ ((up.modUart 0 fun c => { c with tx := List.replicate 32 0 }).uartc 0).tx.length ∧ uart0.uartOn 0 = true ∧ up.uartOn 0 = false ∧
    32 ≤ ((up.modUart 0 fun c => { c with rx := List.replicate 32 0 }).uartc 0).rx.length ∧ (up.uartc 0).rx.length < 32 ∧
    ((uart0.modUart 0 fun c => { c with tx := [5] }).uartc 0).tx = [5] ∧
    up.accessStatus colh true (I2C_CMD.addr 1) = stOK ∧ (i2cCmd0 0).bit I2C_STAT 0 I2C_STAT_BUSY = true ∧
    up.bit I2C_STAT 0 I2C_STAT_BUSY = false ∧ up.bit I2C_CFG 0 I2C_CFG_EN = false ∧ i2c0.bit I2C_CFG 0 I2C_CFG_EN = true ∧
    ((i2cCmd0 0).i2cc 0).cmd = some 0 ∧ (i2cCmd0 0).fabricOn = true ∧ (up.i2cc 0).cmd = none ∧ I2C_CMD_RD.get (I2C_CMD_RD.put 0 1) = 1 ∧
    up.accessStatus colh true (GPIO_SET.addr 0) = stOK ∧ up.accessStatus colh true (GPIO_CLR.addr 0) = stOK ∧
    up.pinsOf (chamberOf up colh) = 0xFFFF ∧ up.pinsOf 3 = 0 ∧
    (2 ≤ up.fld GPIO_FILT 0 GPIO_FILT_FILT ∧ up.fld GPIO_FILT 0 GPIO_FILT_FILT ≤ 2 ∧ bitN (up.reg GPIO_IN 0).toNat 15 = false ∧
      bitN (up.reg GPIO_DIR 0).toNat 15 = false ∧ bitN (up.reg GPIO_EDGE 0).toNat 31 = false ∧
      bitN ((up.setReg GPIO_EDGE 0 0x80000000).reg GPIO_EDGE 0).toNat 31 = true ∧
      bitN ((up.setReg GPIO_DIR 0 0x8000).reg GPIO_DIR 0).toNat 15 = true) ∧
    (({ up with pulse := [(15, 0)] }).pulse.find? (·.1 == 15) = some (15, 0) ∧ 0 ≤ up.firing ∧ up.pulse.find? (·.1 == 15) = none) := by
  decide +kernel

/-- R523: a write frame of two words lands in the window; the rise of CS counts it. -/
theorem test_spiTarget : memWord (nx (.spiTargetWrite 4 [1, 2, 3, 4, 5, 6, 7, 8]) spiTarget).mem 0x10000008 = 0x08070605 ∧
    ((nx (.spiCsRise false) (nx (.spiTargetWrite 4 [1, 2, 3, 4]) spiTarget)).spic 0).frames = 1 ∧
    (nx (.spiCsRise false) (nx (.spiTargetWrite 4 [1, 2, 3, 4]) spiTarget)).bit SPI_STAT 0 SPI_STAT_TWDONE = true := by decide +kernel

/-- R528: setting a pin; R526: a received character shows its framing error in bit 15. -/
theorem test_pins : (nx (.gpioSet colh 0x8001) up).reg GPIO_OUT 0 = 0x8001 ∧
    ((nx (.uartRxByte 0 0x41 true false false) uart0).uartc 0).rx = [0x8041] := by decide +kernel

/-! ## The running self-test and the test access port -/

/-- Lane `k` stands at a slice of an array. -/
def lane (k : Nat) (code i : Nat) : State :=
  (up.setFld DRIP_LANE k DRIP_LANE_ARRAY code).setFld DRIP_LANE k DRIP_LANE_SLICE i

theorem witness_DripAndTap_lanes :
    (let s := lane 4 0x94 8191
     s.fabricOn = true ∧ s.boot.start = .up ∧ s.bit DRIP_CTRL 0 DRIP_CTRL_EN = true ∧ bitN (s.fld DRIP_CTRL 0 DRIP_CTRL_LANEEN) 4 = true ∧
       s.bit THERM_STAT 0 THERM_STAT_HALT = false ∧ (vget s.boot.drip 4).at_ = none ∧ s.dripCell 0x94 = some true ∧
       (dripArray 0x94 8191).1 ≤ 8191 + 1 ∧ (dripArray 0x94 8190).1 = 8192 ∧
       (List.range 256).all (fun j => s.eccOf (dripKey 0x94 (0x10000000 + 4 * j)) == 0) = true) ∧
    (asleep.fabricOn = false ∧ (up.setBit DRIP_CTRL 0 DRIP_CTRL_EN false).bit DRIP_CTRL 0 DRIP_CTRL_EN = false) ∧
    (let s := lane 0 0 0
     s.dripCell 0 = some true ∧ ((s.setPstate 0 5).dripCell 0) = none ∧ ((s.setPstate 0 1).dripCell 0) = some false ∧ s.treesOn = true ∧
       s.tick < 0 + s.dripPer ∧ 0 + s.dripPer ≤ 640000 ∧ asleep.treesOn = false) ∧
    (let s := { lane 4 0x94 0 with tick := 2000000, boot := { bootReset with start := .up, drip := Vector.replicate 6 { at_ := some 0, from_ := 0 } } }
     (vget s.boot.drip 4).at_ ≠ none ∧ 0 + s.dripPer + s.dripPer ≤ s.tick) := by decide +kernel

theorem witness_DripAndTap_tap : up.tapOn = true ∧ asleep.tapOn = false ∧ up.boot.tap.testen = false ∧ up.boot.tap.acc = none ∧
    (up.modJtag fun t => { t with testen := true }).boot.tap.testen = true ∧
    (up.modJtag fun t => { t with acc := some (stOK, 5) }).boot.tap.acc = some (stOK, 5) ∧
    (let s := (up.setFld DBG_STAT 0 DBG_STAT_LEVEL 2).modJtag fun t => { t with ir := .debug }
     s.tapOn = true ∧ s.boot.tap.ir = .debug ∧ 0x10000002 % 4 ≠ 0 ∧ s.accessStatus .debug true 0x10000000 = stOK ∧
       s.accessStatus .debug false 0x10000000 = stOK ∧ up.accessStatus .debug true 0x10000000 ≠ stOK ∧ s.eccOf 0x10000000 = 0 ∧ s.memOk) ∧
    up.boot.tap.ir ≠ .debug := by decide +kernel

/-- R594, R595: a failing word of system SRAM is shown and the lane moves on. -/
theorem test_drip : (nx (.dripSlice 4 [1]) (lane 4 0x94 0)).reg DRIP_ERRADDR 0 = 0x10000004 ∧
    (nx (.dripSlice 4 []) (lane 4 0x94 8191)).fld DRIP_LANE 4 DRIP_LANE_ARRAY = 0x95 := by decide +kernel

/-- R614: the device ID is captured. -/
theorem test_tap : (nx .idcode up).boot.tap.dr = 0x14896953 ∧ (nx .tapReset up).boot.tap.ir = .idcode := by decide +kernel

/-! ## Registers by address, timeouts, escalation, scrubs, the error log -/

/-- The log holds `n` entries. -/
def logged (n : Nat) : State := { up with fabLog := List.replicate n { info := 0x80000000, addr := 0, ns := 0 } }

theorem witness_BusAccess : asleep.fabricOn = false ∧ up.fabricOn = true ∧ up.accessStatus colh true 0x7FFFF004 ≠ stOK ∧
    up.accessStatus colh false 0x7FFFF004 ≠ stOK ∧ up.accessStatus colh true (ECHO_NODE.addr 1) = stOK ∧
    (match targetAt colh (ECHO_NODE.addr 1) with | .reg f i => f.name == "ECHO_NODE" && i == 1 | _ => false) = true ∧
    ECHO_NODE.addr 1 % 4 = 0 ∧ ECHO_NODE.flds.all (fun e => decide (e.1.lo ≤ e.1.hi ∧ e.1.hi < 32)) = true ∧
    (∀ e ∈ regHooks, e.1.base ≠ ECHO_NODE.base) ∧ chamberOf up colh = 0 ∧ (ECHO_NODE.flds.all fun e => e.2 != .rws && e.2 != .st) = true ∧
    up.accessStatus colh false (ECHO_CNT.addr 0) = stOK ∧ ECHO_CNT.flds.any (·.2 == .rc) = true ∧
    (match targetAt colh (ECHO_CNT.addr 0) with | .reg f i => f.name == "ECHO_CNT" && i == 0 | _ => false) = true ∧
    (∀ g ∈ [SPI_RXD, XSPI_DATA, UART_RXD, TIME_NS_LO, FAB_ABORT_RES], g.base ≠ ECHO_CNT.base) ∧
    (∀ e ∈ regHooks, e.1.base ≠ ECHO_STAT.base) ∧ ECHO_STAT.flds.any (·.2 == .w1c) = true ∧
    up.canRun (.col 4) = true ∧ up.canRun (.cell 0) = false ∧
    up.reports.find? (·.unit == 3) = none ∧
    (let s := { up with reports := [{ level := 1, unit := 3, since := 0 }], tick := 2560 }
     s.reports.find? (·.unit == 3) = some { level := 1, unit := 3, since := 0 } ∧ 0 + escalateAfter 1 ≤ s.tick ∧ ¬ 0 + escalateAfter 1 ≤ 2559) ∧
    (let s := { up with reports := [{ level := 3, unit := 3, since := 0 }], tick := 64000 }
     s.reports.find? (·.unit == 3) = some { level := 3, unit := 3, since := 0 } ∧ 0 + escalateAfter 3 ≤ s.tick ∧ 3 ≠ reportFab) ∧
    (let s (e : BitVec 2) : State := { up with ecc := [(0x10000000, e)] }
     up.eccOf 0x10000000 = 0 ∧ (s 1).eccOf 0x10000000 = 1 ∧ (s 2).eccOf 0x10000000 = 2 ∧ up.treesOn = true ∧ asleep.treesOn = false ∧
       up.grottoOn = true ∧ (scrubWord .sysram 0).1 = 0x10000000) := by decide +kernel

theorem witness_ErrorLogOverflow : 16 ≤ (logged 16).fabLog.length ∧ up.accessStatus colh true (FAB_ERR_POP.addr 0) = stOK ∧
    FAB_ERR_POP_POP.get (FAB_ERR_POP_POP.put 0 1) = 1 ∧ FAB_ERR_POP_POP.get 0 ≠ 1 ∧ up.fabLog = [] ∧
    (logged 16).fabLog.tail.length < 16 ∧ (logged 16).fabLog ≠ [] := by decide +kernel

/-- R38: the entry that finds the log full is counted. -/
theorem test_errLog : (nx (.registerWrite colh 0x7FFFF004 0) (logged 16)).fld FAB_ERR_DROP 0 FAB_ERR_DROP_DROPPED = 1 ∧
    (nx (.registerWrite colh 0x7FFFF004 0) (logged 15)).fabLog.length = 16 ∧
    (nx (.fabErrPop colh (FAB_ERR_POP_POP.put 0 1)) (logged 2)).fabLog.length = 1 := by decide +kernel

end Sys2Proof.Tests
end

/-! O59, BusAccess: register accesses by address, timeouts, escalation of reports and scrubs. -/

namespace Sys2Proof.Machine

/-! ## Fields of a register word that share no bit -/

theorem add_mul_lt_mul {c p x y : Nat} (hc : c < p) (hx : x < y) : c + p * x < p * y :=
  calc c + p * x < p * (x + 1) := by rw [Nat.mul_succ]; omega
    _ ≤ p * y := Nat.mul_le_mul_left _ hx

/-- The bits below a field, the field and the bits above make up the word. -/
theorem Fld.toNat_split (F : Fld) (w : Word) (h : F.lo ≤ F.hi) : w.toNat = w.toNat % 2 ^ F.lo +
    2 ^ F.lo * (F.get w + 2 ^ (F.hi + 1 - F.lo) * (w.toNat / 2 ^ (F.hi + 1))) := by
  have habove : 2 ^ (F.hi + 1) = 2 ^ F.lo * 2 ^ (F.hi + 1 - F.lo) := by rw [← Nat.pow_add]; congr 1; omega
  rw [habove, ← Nat.div_div_eq_div_mul, Fld.get, Nat.mod_add_div, Nat.mod_add_div]

/-- A field written replaces the middle part. -/
theorem Fld.toNat_put (F : Fld) (w : Word) (v : Nat) (h : F.lo ≤ F.hi ∧ F.hi < 32) :
    (F.put w v).toNat = w.toNat % 2 ^ F.lo +
      2 ^ F.lo * (v % 2 ^ (F.hi + 1 - F.lo) + 2 ^ (F.hi + 1 - F.lo) * (w.toNat / 2 ^ (F.hi + 1))) := by
  have hsplit := F.toNat_split w h.1
  have habove : w.toNat / 2 ^ (F.hi + 1) < 2 ^ (31 - F.hi) :=
    Nat.div_lt_of_lt_mul (by rw [← Nat.pow_add, show F.hi + 1 + (31 - F.hi) = 32 by omega]; exact w.isLt)
  have hfits := add_mul_lt_mul (Nat.mod_lt w.toNat (Nat.two_pow_pos F.lo))
    (add_mul_lt_mul (Nat.mod_lt v (Nat.two_pow_pos (F.hi + 1 - F.lo))) habove)
  rw [← Nat.pow_add, ← Nat.pow_add, show F.lo + (F.hi + 1 - F.lo + (31 - F.hi)) = 32 by omega] at hfits
  rw [Fld.put, BitVec.toNat_ofNat, ← Nat.mod_eq_of_lt hfits]
  congr 1
  simp only [Nat.mul_add, Nat.mul_comm _ (2 ^ F.lo)] at hsplit ⊢
  omega

/-- The bits below a field that is written stay. -/
theorem Fld.put_mod (G : Fld) (w : Word) (v : Nat) (hG : G.lo ≤ G.hi ∧ G.hi < 32) :
    (G.put w v).toNat % 2 ^ G.lo = w.toNat % 2 ^ G.lo := by
  rw [Fld.toNat_put G w v hG, Nat.add_mul_mod_self_left, Nat.mod_mod]

/-- The bits above a field that is written stay. -/
theorem Fld.put_div (G : Fld) (w : Word) (v : Nat) (hG : G.lo ≤ G.hi ∧ G.hi < 32) :
    (G.put w v).toNat / 2 ^ (G.hi + 1) = w.toNat / 2 ^ (G.hi + 1) := by
  have habove : 2 ^ (G.hi + 1) = 2 ^ G.lo * 2 ^ (G.hi + 1 - G.lo) := by rw [← Nat.pow_add]; congr 1; omega
  rw [Fld.toNat_put G w v hG]
  generalize w.toNat / 2 ^ (G.hi + 1) = upper
  rw [habove, ← Nat.div_div_eq_div_mul, Nat.add_mul_div_left _ _ (Nat.two_pow_pos _),
    Nat.div_eq_of_lt (Nat.mod_lt _ (Nat.two_pow_pos _)), Nat.zero_add, Nat.add_mul_div_left _ _ (Nat.two_pow_pos _),
    Nat.div_eq_of_lt (Nat.mod_lt _ (Nat.two_pow_pos _)), Nat.zero_add]

/-- A field written leaves a field beside it as it was. -/
theorem Fld.get_put_apart (F G : Fld) (w : Word) (v : Nat) (hF : F.lo ≤ F.hi) (hG : G.lo ≤ G.hi ∧ G.hi < 32)
    (h : F.hi < G.lo ∨ G.hi < F.lo) : F.get (G.put w v) = F.get w := by
  rcases h with below | above
  · have hdvd : 2 ^ F.lo * 2 ^ (F.hi + 1 - F.lo) ∣ 2 ^ G.lo := by
      rw [← Nat.pow_add]; exact Nat.pow_dvd_pow 2 (by omega)
    have hget (x : Word) : F.get x = x.toNat % 2 ^ G.lo % (2 ^ F.lo * 2 ^ (F.hi + 1 - F.lo)) / 2 ^ F.lo := by
      rw [Nat.mod_mod_of_dvd _ hdvd, Nat.mod_mul_right_div_self, Fld.get]
    rw [hget, hget, Fld.put_mod G w v hG]
  · have hlo : 2 ^ F.lo = 2 ^ (G.hi + 1) * 2 ^ (F.lo - (G.hi + 1)) := by rw [← Nat.pow_add]; congr 1; omega
    have hget (x : Word) : F.get x = x.toNat / 2 ^ (G.hi + 1) / 2 ^ (F.lo - (G.hi + 1)) % 2 ^ (F.hi + 1 - F.lo) := by
      rw [Nat.div_div_eq_div_mul, ← hlo, Fld.get]
    rw [hget, hget, Fld.put_div G w v hG]

/-- A field replaced by another word's reads as that word's. -/
theorem Fld.get_put_get (F : Fld) (w u : Word) (h : F.lo ≤ F.hi ∧ F.hi < 32) : F.get (F.put w (F.get u)) = F.get u := by
  rw [Fld.get_put F w _ h]
  exact Nat.mod_eq_of_lt (Nat.mod_lt _ (Nat.two_pow_pos _))

theorem Fld.get_and (F : Fld) (w m : Word) : F.get (w &&& m) = F.get w &&& F.get m := by
  simp only [Fld.get, BitVec.toNat_and, Nat.and_div_two_pow, Nat.and_mod_two_pow]

@[simp] theorem Fld.get_zero (F : Fld) : F.get 0 = 0 := by simp [Fld.get]

/-- The fields of a register lie within its word and share no bit. -/
def FieldsApart (l : List (Fld × Acc)) : Prop :=
  (∀ e ∈ l, e.1.lo ≤ e.1.hi ∧ e.1.hi < 32) ∧ l.Pairwise fun x y => x.1.hi < y.1.lo ∨ y.1.hi < x.1.lo

/-- A rewriting of a word field by field that touches one field at a time. -/
def FieldLocal (g : Word → Fld × Acc → Word) : Prop :=
  ∀ (w : Word) (F : Fld) (e : Fld × Acc), F.lo ≤ F.hi → e.1.lo ≤ e.1.hi ∧ e.1.hi < 32 →
    (F.hi < e.1.lo ∨ e.1.hi < F.lo) → F.get (g w e) = F.get w

/-- A field apart from every field of the list keeps its value. -/
theorem foldl_get_apart {g : Word → Fld × Acc → Word} (hg : FieldLocal g) (F : Fld) (hF : F.lo ≤ F.hi)
    (l : List (Fld × Acc)) (w : Word) (hl : ∀ e ∈ l, e.1.lo ≤ e.1.hi ∧ e.1.hi < 32)
    (h : ∀ e ∈ l, F.hi < e.1.lo ∨ e.1.hi < F.lo) : F.get (l.foldl g w) = F.get w := by
  induction l generalizing w with
  | nil => rfl
  | cons a l ih =>
    rw [List.foldl_cons, ih _ (fun e he => hl e (.tail _ he)) (fun e he => h e (.tail _ he))]
    exact hg w F a hF (hl a (.head _)) (h a (.head _))

/-- Each field of the list is rewritten once, from a word in which it still has its old value. -/
theorem foldl_get_field {g : Word → Fld × Acc → Word} (hg : FieldLocal g) (l : List (Fld × Acc)) (w : Word)
    (hl : FieldsApart l) (e : Fld × Acc) (he : e ∈ l) :
    ∃ x, e.1.get x = e.1.get w ∧ e.1.get (l.foldl g w) = e.1.get (g x e) := by
  induction l generalizing w with
  | nil => cases he
  | cons a l ih =>
    obtain ⟨hin, hpair⟩ := hl
    obtain ⟨ha, hpair⟩ := List.pairwise_cons.1 hpair
    have htail : ∀ e ∈ l, e.1.lo ≤ e.1.hi ∧ e.1.hi < 32 := fun e he => hin e (.tail _ he)
    rcases List.mem_cons.1 he with rfl | he
    · exact ⟨w, rfl, foldl_get_apart hg e.1 (hin e (.head _)).1 l _ htail ha⟩
    · obtain ⟨x, hx, hget⟩ := ih (g w a) ⟨htail, hpair⟩ he
      exact ⟨x, hx.trans (hg w e.1 a (htail e he).1 (hin a (.head _)) (ha e he).symm), hget⟩

/-! ## Register writes and reads field by field (R6, R10) -/

theorem fldWrite_local (v : Word) (opn : Bool) : FieldLocal fun x e => fldWrite v opn x e.1 e.2 := by
  rintro w F ⟨G, a⟩ hF hG h
  cases a with
  | rw | w1c => exact Fld.get_put_apart F G w _ hF hG h
  | ro | wo | rc => rfl
  | rws | st =>
    cases opn
    · rfl
    · exact Fld.get_put_apart F G w _ hF hG h

theorem only_local (p : Acc → Bool) (w : Word) : FieldLocal fun x e => if p e.2 then e.1.put x (e.1.get w) else x := by
  intro x F e hF hG h
  dsimp only
  split
  · exact Fld.get_put_apart F e.1 x _ hF hG h
  · rfl

/-- What a field of a register without RWS and static fields holds after a write (R6). -/
theorem RegFam.get_write (f : RegFam) (opn : Bool) (v old : Word) (h : FieldsApart f.flds) (e : Fld × Acc) (he : e ∈ f.flds)
    (hacc : e.2 ≠ .rws ∧ e.2 ≠ .st) : e.1.get (f.write opn v old) = match e.2 with
      | .rw => e.1.get v
      | .w1c => e.1.get (old &&& ~~~v)
      | _ => e.1.get old := by
  obtain ⟨x, hx, hget⟩ := foldl_get_field (fldWrite_local v opn) f.flds old h e he
  have hF := h.1 e he
  rw [RegFam.write, hget]
  obtain ⟨F, a⟩ := e
  cases a with
  | rw => exact Fld.get_put_get F x v hF
  | w1c => exact (Fld.get_put_get F x _ hF).trans (by rw [Fld.get_and, Fld.get_and]; exact congrArg (· &&& _) hx)
  | ro | wo | rc => exact hx
  | rws => exact absurd rfl hacc.1
  | st => exact absurd rfl hacc.2

/-- The fields of the access types kept hold their values, the others 0. -/
theorem RegFam.get_only (f : RegFam) (p : Acc → Bool) (w : Word) (h : FieldsApart f.flds) (e : Fld × Acc) (he : e ∈ f.flds) :
    e.1.get (f.only p w) = if p e.2 then e.1.get w else 0 := by
  obtain ⟨x, hx, hget⟩ := foldl_get_field (only_local p w) f.flds 0 h e he
  rw [RegFam.only, hget]
  split
  · exact Fld.get_put_get e.1 x w (h.1 e he)
  · rw [hx, Fld.get_zero]

/-- Without RWS and static fields a write does not depend on their condition. -/
theorem RegFam.write_opn (f : RegFam) (hacc : ∀ e ∈ f.flds, e.2 ≠ .rws ∧ e.2 ≠ .st) (opn : Bool) (v w : Word) :
    f.write opn v w = f.write true v w := by
  refine List.foldl_ext _ _ _ fun x e he => ?_
  obtain ⟨F, a⟩ := e
  have := hacc _ he
  cases a <;> simp_all [fldWrite]

/-- A write of a register without RWS and static fields changes its word alone. -/
theorem State.putFields_open (s : State) (ag : Agent) (f : RegFam) (i : Nat) (v : Word)
    (hacc : ∀ e ∈ f.flds, e.2 ≠ .rws ∧ e.2 ≠ .st) :
    s.putFields ag f i v = s.setRegA f (agentId ag) i (f.write true v (s.regA f (agentId ag) i)) := by
  simp [State.putFields, State.setRegA, State.regA, f.write_opn hacc]

/-- A register without a meaning of its own is written field by field. -/
theorem State.regWrite_plain (s : State) (ag : Agent) (f : RegFam) (i : Nat) (v : Word)
    (hhook : ∀ e ∈ regHooks, e.1.base ≠ f.base) (hhost : f.host = true → chamberOf s ag = 0) :
    s.regWrite ag f i v = s.putFields ag f i v := by
  have hfind : (regHooks.find? fun e => e.1.base == f.base) = none :=
    List.find?_eq_none.2 fun e he => by simpa using hhook e he
  have hopen : ¬ (f.host && chamberOf s ag != 0) = true := by simpa using hhost
  rw [State.regWrite, if_neg hopen, hfind]

/-- A write of such a register is admitted and logs nothing. -/
theorem State.regWriteSt_plain (s : State) (ag : Agent) (f : RegFam) (i : Nat) (v : Word)
    (hhook : ∀ e ∈ regHooks, e.1.base ≠ f.base) (hhost : f.host = true → chamberOf s ag = 0)
    (hacc : ∀ e ∈ f.flds, e.2 ≠ .rws ∧ e.2 ≠ .st) :
    s.regWriteSt ag f i v = (s.setRegA f (agentId ag) i (f.write true v (s.regA f (agentId ag) i)), stOK) := by
  have hpop : f.base ≠ FAB_ERR_POP.base := fun e => hhook _ (List.mem_cons_self (l := _ ++ _)) e.symm
  rw [State.regWriteSt, if_neg hpop,
    State.regWrite_plain { s with fabLog := [] } ag f i v hhook hhost, State.putFields_open _ _ _ _ _ hacc]
  rfl

theorem State.clearRc_of_rc (s : State) (ag : Agent) {f : RegFam} (i : Nat) (hrc : f.flds.any (·.2 == .rc) = true) :
    s.clearRc ag f i = s.setRegA f (agentId ag) i (f.only (· != .rc) (s.regA f (agentId ag) i)) := if_pos hrc

/-- A register without a meaning of its own on a read: its RC fields are cleared. -/
theorem State.regRead_plain (s : State) (ag : Agent) (f : RegFam) (i : Nat)
    (h : ∀ g ∈ [SPI_RXD, XSPI_DATA, UART_RXD, TIME_NS_LO, FAB_ABORT_RES], g.base ≠ f.base) :
    s.regRead ag f i = (s.clearRc ag f i, s.regShow ag f i) := by
  simp only [List.forall_mem_cons] at h
  obtain ⟨h1, h2, h3, h4, h5, -⟩ := h
  rw [State.regRead, if_neg h1.symm, if_neg h2.symm, if_neg h3.symm, if_neg h4.symm, if_neg h5.symm]

/-! ## Accesses by address (R12, R13) -/

section
variable {s : State} {ag : Agent} {addr : Word}

theorem registerWrite_off (v : Word) (hoff : s.fabricOn = false) : exec (.registerWrite ag addr v) s = .next s := by
  simp [exec_registerWrite, execRegisterWrite, ok, hoff]

theorem rcRead_off (hoff : s.fabricOn = false) : exec (.rcRead ag addr) s = .next s := by
  simp [exec_rcRead, execRcRead, ok, hoff]

theorem registerWrite_refused (v : Word) (hon : s.fabricOn = true) (hst : s.accessStatus ag true addr.toNat ≠ stOK) :
    exec (.registerWrite ag addr v) s = .next ((s.refuse ag (s.accessStatus ag true addr.toNat) 1 addr.toNat).postBack ag
      (s.accessStatus ag true addr.toNat) addr.toNat) := by
  simp [exec_registerWrite, execRegisterWrite, ok, State.busWrite, hon, hst]

theorem rcRead_refused (hon : s.fabricOn = true) (hst : s.accessStatus ag false addr.toNat ≠ stOK) :
    exec (.rcRead ag addr) s = .next (s.refuse ag (s.accessStatus ag false addr.toNat) 0 addr.toNat) := by
  simp [exec_rcRead, execRcRead, ok, State.busRead, hon, hst]

theorem registerWrite_nothing (v : Word) (hon : s.fabricOn = true) (hst : s.accessStatus ag true addr.toNat = stOK)
    (htgt : targetAt ag addr.toNat = .nothing) : exec (.registerWrite ag addr v) s = .next s := by
  simp [exec_registerWrite, execRegisterWrite, ok, State.busWrite, State.writeAt, hon, hst, htgt]

theorem rcRead_nothing (hon : s.fabricOn = true) (hst : s.accessStatus ag false addr.toNat = stOK)
    (htgt : targetAt ag addr.toNat = .nothing) : exec (.rcRead ag addr) s = .next s := by
  simp [exec_rcRead, execRcRead, ok, State.busRead, State.readAt, hon, hst, htgt]

/-- A write that the fabric admits at a register's address is a write of that register. -/
theorem State.busWrite_reg {f : RegFam} {i : Nat} (v : Word) (hst : s.accessStatus ag true addr.toNat = stOK)
    (htgt : targetAt ag addr.toNat = .reg f i) (halign : addr.toNat % 4 = 0) :
    s.busWrite ag 4 1 addr.toNat v = s.regWriteSt ag f i v := by
  simp [State.busWrite, State.writeAt, hst, htgt, halign]

/-- A read that the fabric admits at a register's address is a read of that register. -/
theorem State.busRead_reg {f : RegFam} {i : Nat} (hst : s.accessStatus ag false addr.toNat = stOK)
    (htgt : targetAt ag addr.toNat = .reg f i) (halign : addr.toNat % 4 = 0) :
    s.busRead ag 4 0 addr.toNat = ((s.regRead ag f i).1, stOK, (s.regRead ag f i).2) := by
  simp [State.busRead, State.readAt, hst, htgt, halign]

/-- REGISTER_WRITE of a register without a meaning of its own. -/
theorem registerWrite_reg {f : RegFam} {i : Nat} (v : Word) (hon : s.fabricOn = true)
    (hst : s.accessStatus ag true addr.toNat = stOK) (htgt : targetAt ag addr.toNat = .reg f i) (halign : addr.toNat % 4 = 0)
    (hhook : ∀ e ∈ regHooks, e.1.base ≠ f.base) (hhost : f.host = true → chamberOf s ag = 0)
    (hacc : ∀ e ∈ f.flds, e.2 ≠ .rws ∧ e.2 ≠ .st) :
    exec (.registerWrite ag addr v) s = .next (s.setRegA f (agentId ag) i (f.write true v (s.regA f (agentId ag) i))) := by
  rw [exec_registerWrite, execRegisterWrite, hon, State.busWrite_reg v hst htgt halign,
    State.regWriteSt_plain s ag f i v hhook hhost hacc]
  rfl

/-- RC_READ of a register with RC fields and without a meaning of its own. -/
theorem rcRead_reg {f : RegFam} {i : Nat} (hon : s.fabricOn = true) (hst : s.accessStatus ag false addr.toNat = stOK)
    (htgt : targetAt ag addr.toNat = .reg f i) (halign : addr.toNat % 4 = 0) (hrc : f.flds.any (·.2 == .rc) = true)
    (hhook : ∀ g ∈ [SPI_RXD, XSPI_DATA, UART_RXD, TIME_NS_LO, FAB_ABORT_RES], g.base ≠ f.base) :
    exec (.rcRead ag addr) s = .next (s.setRegA f (agentId ag) i (f.only (· != .rc) (s.regA f (agentId ag) i))) := by
  rw [exec_rcRead, execRcRead, hon, if_pos rfl, State.busRead_reg hst htgt halign, State.regRead_plain s ag f i hhook,
    State.clearRc_of_rc s ag i hrc]
  rfl
end

/-! ## The error log and timeouts (R34, R38, R154) -/

/-- The log after an entry has joined it. -/
theorem State.logErr_fabLog (s : State) (e : ErrEntry) :
    (s.logErr e).fabLog = if s.fabLog.length ≥ 16 then s.fabLog else s.fabLog ++ [e] := by
  unfold State.logErr
  split
  · rfl
  · split
    · rw [State.report35]; rfl
    · rfl

/-- What an entry of the log may change: the log, its registers and the reports. -/
def State.LogFrame (s t : State) : Prop := t = { s with regs := t.regs, fabLog := t.fabLog, reports := t.reports }

theorem State.LogFrame.trans {s t u : State} (h : s.LogFrame t) (k : t.LogFrame u) : s.LogFrame u := by
  unfold State.LogFrame at *
  rw [k, h]

theorem State.setFld_logFrame (s : State) (f : RegFam) (i : Nat) (F : Fld) (v : Nat) : s.LogFrame (s.setFld f i F v) := rfl

theorem State.report35_logFrame (s : State) (level unit : Nat) (acked : Bool) : s.LogFrame (s.report35 level unit acked) := by
  rw [State.report35]
  split <;> rfl

theorem State.logErr_logFrame (s : State) (e : ErrEntry) : s.LogFrame (s.logErr e) := by
  unfold State.logErr
  split
  · exact (s.setFld_logFrame ..).trans (State.setFld_logFrame ..)
  · refine State.LogFrame.trans (t := if s.fabLog.isEmpty then s.report35 3 reportFab true else s) ?_ rfl
    split
    · exact s.report35_logFrame ..
    · rfl

@[simp] theorem State.logErr_mem (s : State) (e : ErrEntry) : (s.logErr e).mem = s.mem := by rw [s.logErr_logFrame e]
@[simp] theorem State.logErr_ecc (s : State) (e : ErrEntry) : (s.logErr e).ecc = s.ecc := by rw [s.logErr_logFrame e]
@[simp] theorem State.logErr_phys (s : State) (e : ErrEntry) : (s.logErr e).phys = s.phys := by rw [s.logErr_logFrame e]
@[simp] theorem State.logErr_sproc (s : State) (e : ErrEntry) : (s.logErr e).sproc = s.sproc := by rw [s.logErr_logFrame e]
@[simp] theorem State.logErr_power (s : State) (e : ErrEntry) : (s.logErr e).power = s.power := by rw [s.logErr_logFrame e]
@[simp] theorem State.logErr_boot (s : State) (e : ErrEntry) : (s.logErr e).boot = s.boot := by rw [s.logErr_logFrame e]

/-- An entry of the log leaves the registers beside its own as they are. -/
theorem State.logErr_reg (s : State) (e : ErrEntry) (f : RegFam) (i : Nat) (hstat : f.addr i ≠ FAB_ERR_STAT.addr 0)
    (hdrop : f.addr i ≠ FAB_ERR_DROP.addr 0) : (s.logErr e).reg f i = s.reg f i := by
  unfold State.logErr
  split
  · rw [reg_setFld_other _ _ _ _ _ _ _ hdrop, reg_setBit_other _ _ _ _ _ _ _ hstat]
  · split
    · unfold State.report35
      split <;> rfl
    · rfl

/-- A free value used before does not show in the entry. -/
theorem State.appendErr_used_fabLog (s : State) (st ch level kind source addr : Nat) :
    (s.used.appendErr st ch level kind source addr).fabLog = (s.appendErr st ch level kind source addr).fabLog := by
  simp only [State.appendErr, State.logErr_fabLog]
  rfl

section
variable (s : State) (ag : Agent) (wr : Bool) (addr : Nat)

/-- The log entry of a timeout that a path of level `level` ended. -/
def State.timeoutEntry (level : Nat) : State :=
  s.appendErr stTIMEOUT (chamberOf s ag) level (if wr then 1 else 0) (agentId ag) addr

/-- The mesh ends what lies outside the regions. -/
theorem State.logTimeout_mesh (h : ¬ (0x20000000 ≤ addr ∧ addr < 0x30000000)) :
    s.logTimeout ag wr addr = s.timeoutEntry ag wr addr 3 := by
  simp only [State.logTimeout, Bool.and_eq_true, decide_eq_true_eq, if_neg h]
  rfl

/-- The crossbar ends what lies in the agent's own region. -/
theorem State.logTimeout_crossbar (h : 0x20000000 ≤ addr ∧ addr < 0x30000000)
    (hown : agentRegion ag = some ((addr - 0x20000000) / 0x04000000)) :
    s.logTimeout ag wr addr = s.timeoutEntry ag wr addr 2 := by
  simp only [State.logTimeout, Bool.and_eq_true, decide_eq_true_eq, if_pos h, if_pos hown]
  rfl

/-- In a region one of the two ends it; in another region than the agent's own, which one is a free choice (log entry 25). -/
theorem State.logTimeout_region (h : 0x20000000 ≤ addr ∧ addr < 0x30000000) :
    (s.logTimeout ag wr addr).fabLog = (s.timeoutEntry ag wr addr 2).fabLog ∨
    (s.logTimeout ag wr addr).fabLog = (s.timeoutEntry ag wr addr 3).fabLog := by
  by_cases hown : agentRegion ag = some ((addr - 0x20000000) / 0x04000000)
  · exact .inl (congrArg State.fabLog (s.logTimeout_crossbar ag wr addr h hown))
  · have hlog : s.logTimeout ag wr addr =
        s.used.appendErr stTIMEOUT (chamberOf s.used ag) (2 + s.free.toNat % 2) (b2n wr) (agentId ag) addr := by
      simp only [State.logTimeout, Bool.and_eq_true, decide_eq_true_eq, if_pos h, if_neg hown]
    rw [hlog, State.appendErr_used_fabLog]
    rcases Nat.mod_two_eq_zero_or_one s.free.toNat with hfree | hfree
    · exact .inl (by rw [hfree]; rfl)
    · exact .inr (by rw [hfree]; rfl)
end

/-- The Sornas processor that issues an agent's transactions; the safety column reaches nothing by the fabric. -/
def IssuedBy (ag : Agent) (p : Proc) : Prop :=
  ag = (match p with | .cell c => Agent.cell c | .col c => .col c | .grotto => .grotto) ∧ p ≠ .grotto

section
variable {s : State} {ag : Agent} {addr : Word}

/-- Whether a processor can run does not depend on the error log. -/
theorem State.logErr_canRun (s : State) (e : ErrEntry) (p : Proc) (hp : p ≠ .grotto) : (s.logErr e).canRun p = s.canRun p := by
  cases p with
  | cell c =>
    have hc := c.isLt
    have hstat : (s.logErr e).reg CELL_STAT c.val = s.reg CELL_STAT c.val := by
      apply State.logErr_reg <;> simp only [RegFam.addr, CELL_STAT, FAB_ERR_STAT, FAB_ERR_DROP, dimOff, dimSize] <;> omega
    have hmap : (s.logErr e).reg BLK_MAP (c.val / 8) = s.reg BLK_MAP (c.val / 8) := by
      apply State.logErr_reg <;> simp only [RegFam.addr, BLK_MAP, FAB_ERR_STAT, FAB_ERR_DROP, dimOff, dimSize] <;> omega
    simp [State.canRun, State.alive, State.waitOf, State.treesOn, State.lstate, State.fld, State.physOf, hstat, hmap]
  | col c =>
    have hc := c.isLt
    have hctl : (s.logErr e).reg SYSCTL_COLCTL c.val = s.reg SYSCTL_COLCTL c.val := by
      apply State.logErr_reg <;> simp only [RegFam.addr, SYSCTL_COLCTL, FAB_ERR_STAT, FAB_ERR_DROP, dimOff, dimSize] <;> omega
    simp [State.canRun, State.alive, State.waitOf, State.treesOn, State.colAlive, State.bit, State.fld, sIndex, hctl]
  | grotto => exact absurd rfl hp

/-- Nor on a timeout that is logged. -/
theorem State.logTimeout_canRun (s : State) (ag : Agent) (wr : Bool) (addr : Nat) (p : Proc) (hp : p ≠ .grotto) :
    (s.logTimeout ag wr addr).canRun p = s.canRun p := by
  unfold State.logTimeout
  split
  · split
    · exact s.logErr_canRun _ p hp
    · exact s.used.logErr_canRun _ p hp
  · exact s.logErr_canRun _ p hp

theorem transactionTimeout_off (wr : Bool) (hoff : s.fabricOn = false) :
    exec (.transactionTimeout ag wr addr) s = .next s := by
  simp [exec_transactionTimeout, execTransactionTimeout, ok, hoff]

/-- A timeout of an agent that is no processor is logged. -/
theorem transactionTimeout_unit (wr : Bool) (hon : s.fabricOn = true) (h : ∀ p, ¬ IssuedBy ag p) :
    exec (.transactionTimeout ag wr addr) s = .next (s.logTimeout ag wr addr.toNat) := by
  cases ag with
  | cell c => exact absurd ⟨rfl, nofun⟩ (h (.cell c))
  | col c => exact absurd ⟨rfl, nofun⟩ (h (.col c))
  | engine _ _ | echoDma _ _ | ethDma _ _ | debug | drip | grotto | blockCtl _ =>
    simp [exec_transactionTimeout, execTransactionTimeout, ok, hon]

/-- A timeout of a processor is logged; its store learns of it, its load traps. -/
theorem transactionTimeout_proc (wr : Bool) {p : Proc} (hon : s.fabricOn = true) (h : IssuedBy ag p) :
    exec (.transactionTimeout ag wr addr) s = .next (
      if wr then (s.logTimeout ag wr addr.toNat).postBack ag stTIMEOUT addr.toNat
      else if s.canRun p then (s.logTimeout ag wr addr.toNat).trap p 0 (.access stTIMEOUT addr.toNat)
      else s.logTimeout ag wr addr.toNat) := by
  obtain ⟨rfl, hp⟩ := h
  cases p with
  | cell c | col c => simp [exec_transactionTimeout, execTransactionTimeout, ok, hon, State.logTimeout_canRun]
  | grotto => exact absurd rfl hp
end

/-! ## The hardwired STO (R391) -/

/-- What the sequencer of the hardwired STO and the Grotto's log may change: registers, bridges, the Grotto, the consent lines and the
count of free values. -/
def State.StoFrame (s t : State) : Prop :=
  t = { s with regs := t.regs, bridge := t.bridge, grt := t.grt, power := t.power, freeCtr := t.freeCtr }

theorem State.StoFrame.trans {s t u : State} (h : s.StoFrame t) (k : t.StoFrame u) : s.StoFrame u := by
  unfold State.StoFrame at *
  rw [k, h]

theorem State.StoFrame.foldl {α : Type} {f : State → α → State} (hf : ∀ (s : State) x, s.StoFrame (f s x)) (l : List α) (s : State) :
    s.StoFrame (l.foldl f s) := by
  induction l generalizing s with
  | nil => rfl
  | cons x l ih => exact (hf s x).trans (ih _)

theorem State.setFld_stoFrame (s : State) (f : RegFam) (i : Nat) (F : Fld) (v : Nat) : s.StoFrame (s.setFld f i F v) := rfl
theorem State.setReg_stoFrame (s : State) (f : RegFam) (i : Nat) (v : Word) : s.StoFrame (s.setReg f i v) := rfl
theorem State.modBr_stoFrame (s : State) (k : Fin 16) (f : Bridge → Bridge) : s.StoFrame (s.modBr k f) := rfl
theorem State.modGrt_stoFrame (s : State) (f : Grotto → Grotto) : s.StoFrame (s.modGrt f) := rfl

theorem State.settleLeg_stoFrame (s : State) (k : Fin 16) (t : Nat) (p : Fin 3) : s.StoFrame (s.settleLeg k t p) := by
  have hflag (c : Bool) (u : State) (F : Fld) : u.StoFrame (if c then u.flag PWM_BSTAT k.val F else u) := by
    split
    · exact u.setFld_stoFrame ..
    · rfl
  exact (s.modBr_stoFrame k _).trans ((hflag ..).trans (hflag ..))

theorem State.orderBr_stoFrame (s : State) (k : Fin 16) (pat : Option (BitVec 6)) : s.StoFrame (s.orderBr k pat) :=
  (s.modBr_stoFrame k _).trans (State.StoFrame.foldl (fun s p => s.settleLeg_stoFrame k _ p) _ _)

theorem State.dropConsent_stoFrame (s : State) : s.StoFrame s.dropConsent := by
  have hpower (u : State) (p : Power) : u.StoFrame { u with power := p } := rfl
  unfold State.dropConsent
  exact (s.setFld_stoFrame ..).trans ((State.setFld_stoFrame ..).trans (hpower ..))

theorem State.gensFollow_stoFrame (s : State) : s.StoFrame s.gensFollow := by
  have hgen (c : Prop) [Decidable c] (g : Grotto → Grotto) : s.StoFrame (if c then s else s.modGrt g) := by
    split
    · rfl
    · exact s.modGrt_stoFrame g
  have hstate (u : State) : u.StoFrame (
      if u.gstate = 1 ∨ u.gstate = 2 then
        if (List.range 8).any fun x => u.axUse x && u.axOut x != 1 then (u.setFld GRT_STAT 0 GRT_STAT_GSTATE 2).dropConsent
        else u.setFld GRT_STAT 0 GRT_STAT_GSTATE 1
      else u) := by
    split
    · split
      · exact (u.setFld_stoFrame ..).trans (State.dropConsent_stoFrame _)
      · exact u.setFld_stoFrame ..
    · rfl
  unfold State.gensFollow
  exact (hgen ..).trans (hstate _)

theorem State.setOut_stoFrame (s : State) (x out : Nat) (able : Fin 16 → Bool) : s.StoFrame (s.setOut x out able) := by
  have hax (u : State) : u.StoFrame (if out = 1 then u.modAx x fun a => { a with ss1 := none, lowAt := none } else u) := by
    split
    · exact u.modGrt_stoFrame _
    · rfl
  exact (s.setFld_stoFrame ..).trans ((hax _).trans
    ((State.StoFrame.foldl (fun s k => s.orderBr_stoFrame k _) _ _).trans (State.gensFollow_stoFrame _)))

theorem State.gLog_stoFrame (s : State) (entry action unit : Nat) (detail : Option Nat) :
    s.StoFrame (s.gLog entry action unit detail) := by
  have hused (c : Bool) : s.StoFrame (if c then s.used else s) := by split <;> rfl
  unfold State.gLog
  exact (hused _).trans ((State.setReg_stoFrame ..).trans ((State.setReg_stoFrame ..).trans
    ((State.setFld_stoFrame ..).trans (State.modGrt_stoFrame ..))))

theorem State.gCause_stoFrame (s : State) (entry unit : Nat) (on : Bool) : s.StoFrame (s.gCause entry unit on) := by
  unfold State.gCause
  exact s.modGrt_stoFrame _

theorem State.hardSto_stoFrame (s : State) (unit : Nat) : s.StoFrame (s.hardSto unit) := by
  unfold State.hardSto
  split
  · rfl
  · exact (s.setFld_stoFrame ..).trans ((State.StoFrame.foldl
      (fun s x => (s.setOut_stoFrame x 1 _).trans (State.setFld_stoFrame ..)) _ _).trans
      ((State.dropConsent_stoFrame _).trans ((State.gLog_stoFrame ..).trans (State.gCause_stoFrame ..))))

@[simp] theorem State.hardSto_mem (s : State) (unit : Nat) : (s.hardSto unit).mem = s.mem := by rw [s.hardSto_stoFrame unit]
@[simp] theorem State.hardSto_ecc (s : State) (unit : Nat) : (s.hardSto unit).ecc = s.ecc := by rw [s.hardSto_stoFrame unit]
@[simp] theorem State.gLog_reports (s : State) (entry action unit : Nat) (detail : Option Nat) :
    (s.gLog entry action unit detail).reports = s.reports := by rw [s.gLog_stoFrame entry action unit detail]
@[simp] theorem State.gLog_time (s : State) (entry action unit : Nat) (detail : Option Nat) :
    (s.gLog entry action unit detail).time = s.time := by rw [s.gLog_stoFrame entry action unit detail]

/-! ## Escalation of reports (R35) -/

/-- The first report of a unit once the reports of that unit have been replaced. -/
theorem find?_replaced_report {l : List Report} {unit : Nat} {r up : Report} (h : l.find? (·.unit == unit) = some r)
    (hup : up.unit = unit) : (l.map fun q => if q.unit = unit then up else q).find? (·.unit == unit) = some up := by
  induction l with
  | nil => cases h
  | cons q l ih =>
    by_cases hq : q.unit = unit
    · simp [hq, hup]
    · rw [List.find?_cons_of_neg (by simpa using hq)] at h
      rw [List.map_cons, if_neg hq, List.find?_cons_of_neg (by simpa using hq)]
      exact ih h

/-- A report of one unit does not replace that of another. -/
theorem State.report35_find? (s : State) (level unit other : Nat) (acked : Bool) (r : Report) (hne : other ≠ unit)
    (h : s.reports.find? (·.unit == other) = some r) :
    (s.report35 level unit acked).reports.find? (·.unit == other) = some r := by
  have hkeep : (s.reports.filter fun q => q.unit != unit).find? (·.unit == other) = some r := by
    rw [List.find?_filter, ← h]
    congr 1
    funext q
    by_cases hq : q.unit = other <;> simp [hq, hne]
  unfold State.report35
  split
  · exact h
  · simp [List.find?_append, hkeep]

/-- A report that reaches COLH and the Grotto, or the Grotto alone, still stands there, and TIME runs on. -/
theorem State.escalated_keeps (s : State) (level unit : Nat) (r : Report) (hne : unit ≠ reportFab ∨ level ≠ 3)
    (h : s.reports.find? (·.unit == unit) = some r) :
    (s.escalated level unit).reports.find? (·.unit == unit) = some r ∧ (s.escalated level unit).time = s.time := by
  unfold State.escalated
  split
  · have hunit : unit ≠ reportFab := hne.resolve_right (fun hn => hn ‹level = 3›)
    rw [State.gLog_reports, State.gLog_time, s.report35_logFrame]
    exact ⟨s.report35_find? 3 reportFab unit _ r hunit h, rfl⟩
  · split
    · rw [State.gLog_reports, State.gLog_time]
      exact ⟨h, rfl⟩
    · exact ⟨h, rfl⟩

/-- Below chip level an escalated report does nothing beyond itself. -/
theorem State.escalated_low (s : State) {level : Nat} (unit : Nat) (h : level < 3) : s.escalated level unit = s := by
  rw [State.escalated, if_neg (by omega), if_neg (by omega)]

section
variable {s : State} {unit : Nat} {r : Report}

theorem errorEscalation_none (h : s.reports.find? (·.unit == unit) = none) : exec (.errorEscalation unit) s = .next s := by
  simp [exec_errorEscalation, execErrorEscalation, ok, h]

theorem errorEscalation_early (h : s.reports.find? (·.unit == unit) = some r)
    (hdue : ¬ (r.level < 4 ∧ r.since + escalateAfter r.level ≤ s.tick)) : exec (.errorEscalation unit) s = .next s := by
  simp only [exec_errorEscalation, execErrorEscalation, ok, h, Bool.and_eq_true, decide_eq_true_eq, if_neg hdue]

/-- A report that is due goes up one level. -/
theorem errorEscalation_due (h : s.reports.find? (·.unit == unit) = some r)
    (hdue : r.level < 4 ∧ r.since + escalateAfter r.level ≤ s.tick) :
    exec (.errorEscalation unit) s = .next (State.escalated { s with reports := s.reports.map fun q =>
      if q.unit = unit then { level := r.level + 1, unit := unit, since := s.tick } else q } (r.level + 1) unit) := by
  simp only [exec_errorEscalation, execErrorEscalation, ok, h, Bool.and_eq_true, decide_eq_true_eq, if_pos hdue]
end

/-! ## Scrubs (R28, R36, R413) -/

theorem smGet_smDrop {α : Type} (d : α) (p : Nat → Bool) (m : SMap α) (k : Nat) :
    smGet d (smDrop p m) k = if p k then d else smGet d m k := by
  unfold smDrop
  induction m with
  | nil => simp [smGet]
  | cons e m ih =>
    obtain ⟨j, v⟩ := e
    by_cases hj : j = k
    · subst hj
      by_cases hp : p j <;> simp [smGet, hp, ih]
    · by_cases hp : p j <;> simp [smGet, hp, hj, ih]

/-- What a correction does to the ECC word it corrects and to the others. -/
theorem State.eccCorrect_eccOf (s : State) (a b : Nat) (h : s.eccOf a = 1) :
    (s.eccCorrect a).eccOf b = if eccWord b = eccWord a then 0 else s.eccOf b := by
  rw [State.eccCorrect, if_pos (by simp [h])]
  simp only [State.eccOf, smGet_smDrop, beq_iff_eq]
  split <;> rfl

/-- A correction counts and changes the ECC states alone. -/
theorem State.eccCorrect_frame (s : State) (a : Nat) (h : s.eccOf a = 1) :
    s.eccCorrect a = { s with ecc := (s.eccCorrect a).ecc, eccCount := s.eccCount + 1 } := by
  rw [State.eccCorrect, if_pos (by simp [h])]

/-- The ECC states after one word's has been set. -/
theorem State.eccOf_set (s : State) (key b : Nat) (e : BitVec 2) :
    ({ s with ecc := smSet s.ecc (eccWord key) e } : State).eccOf b = if eccWord b = eccWord key then e.toNat else s.eccOf b := by
  simp only [State.eccOf]
  split
  · next h => rw [h, smGet_smSet_same]
  · next h => rw [smGet_smSet_other _ _ _ h]

/-- A scrub of the word at `key` that tells an uncorrectable error by `tell`. -/
def State.scrubbed (s : State) (tell : State → State) (key : Nat) (found : Ecc) : State :=
  if (s.scrubFinds key found).eccOf key = 2 then tell (s.scrubFinds key found) else (s.scrubFinds key found).eccCorrect key

/-- The scrub ended with the word corrected and counted. -/
def ScrubFixed (s : State) (run : Host.Outcome State Fault Refusal) (key : Nat) : Prop :=
  ∃ t, run = .next t ∧ t.eccOf key = 0 ∧ t.eccCount = s.eccCount + 1 ∧
    (∀ b, eccWord b ≠ eccWord key → t.eccOf b = s.eccOf b) ∧ t = { s with ecc := t.ecc, eccCount := t.eccCount }

/-- The scrub ended with an uncorrectable error told. -/
def ScrubBad (s : State) (run : Host.Outcome State Fault Refusal) (key : Nat) (tell : State → State) : Prop :=
  ∃ t, run = .next t ∧ t.eccOf key = 2 ∧ t.mem = s.mem ∧
    (∀ b, eccWord b ≠ eccWord key → t.eccOf b = s.eccOf b) ∧ t = tell { s with ecc := t.ecc }

/-- How a scrub ends, by the word's state before it and what it finds. -/
def ScrubLaw (s : State) (run : Ecc → Host.Outcome State Fault Refusal) (key : Nat) (tell : State → State) : Prop :=
  (s.eccOf key = 0 → run .clean = .next s) ∧
  ((s.eccOf key = 0 ∨ s.eccOf key = 1) → ScrubFixed s (run .single) key) ∧
  (s.eccOf key = 1 → ScrubFixed s (run .clean) key) ∧
  ((s.eccOf key = 0 ∨ s.eccOf key = 1) → ScrubBad s (run .uncorrectable) key tell) ∧
  (s.eccOf key = 2 → ∀ e, ScrubBad s (run e) key tell)

section
variable {s : State} {key : Nat} {tell : State → State}

/-- A word with a single-bit error, known before or set by the scrub's finding, is corrected. -/
theorem scrubFixed_of_single {s1 : State} (hs1 : s1 = { s with ecc := s1.ecc }) (hkey : s1.eccOf key = 1)
    (hother : ∀ b, eccWord b ≠ eccWord key → s1.eccOf b = s.eccOf b) : ScrubFixed s (.next (s1.eccCorrect key)) key := by
  refine ⟨_, rfl, ?_, ?_, fun b hb => ?_, ?_⟩
  · rw [s1.eccCorrect_eccOf key key hkey, if_pos rfl]
  · rw [s1.eccCorrect_frame key hkey, hs1]
  · rw [s1.eccCorrect_eccOf key b hkey, if_neg hb, hother b hb]
  · rw [s1.eccCorrect_frame key hkey, hs1]

/-- A word with an uncorrectable error, known before or set by the scrub's finding, is told and stays. -/
theorem scrubBad_of_uncorrectable (hecc : ∀ t, (tell t).ecc = t.ecc) (hmem : ∀ t, (tell t).mem = t.mem) {s1 : State}
    (hs1 : s1 = { s with ecc := s1.ecc }) (hkey : s1.eccOf key = 2)
    (hother : ∀ b, eccWord b ≠ eccWord key → s1.eccOf b = s.eccOf b) : ScrubBad s (.next (tell s1)) key tell := by
  have heccOf (b : Nat) : (tell s1).eccOf b = s1.eccOf b := by rw [State.eccOf, hecc, State.eccOf]
  refine ⟨_, rfl, (heccOf key).trans hkey, ?_, fun b hb => (heccOf b).trans (hother b hb), ?_⟩
  · rw [hmem, hs1]
  · rw [hecc, ← hs1]

/-- What a scrub's finding makes of a word that was not known to be uncorrectable. -/
theorem State.scrubFinds_single (h : s.eccOf key ≠ 2) :
    s.scrubFinds key .single = { s with ecc := smSet s.ecc (eccWord key) 1 } := by rw [State.scrubFinds, if_neg h]

theorem State.scrubFinds_uncorrectable (h : s.eccOf key ≠ 2) :
    s.scrubFinds key .uncorrectable = { s with ecc := smSet s.ecc (eccWord key) 2 } := by rw [State.scrubFinds, if_neg h]

theorem State.scrubbed_clean (h : s.eccOf key ≠ 2) : s.scrubbed tell key .clean = s.eccCorrect key := by
  simp [State.scrubbed, State.scrubFinds, h]

theorem State.scrubbed_known (e : Ecc) (h : s.eccOf key = 2) : s.scrubbed tell key e = tell s := by
  simp [State.scrubbed, State.scrubFinds, h]

/-- R36: a scrub ends as its law says, whatever tells the uncorrectable error, as long as that leaves memory and ECC alone. -/
theorem scrubLaw_of_scrubbed {run : Ecc → Host.Outcome State Fault Refusal} (hrun : ∀ e, run e = .next (s.scrubbed tell key e))
    (hecc : ∀ t, (tell t).ecc = t.ecc) (hmem : ∀ t, (tell t).mem = t.mem) : ScrubLaw s run key tell := by
  refine ⟨fun h => ?_, fun h => ?_, fun h => ?_, fun h => ?_, fun h e => ?_⟩
  · rw [hrun, State.scrubbed_clean (by omega), State.eccCorrect, if_neg (by simp [h])]
  · have hfinds := State.scrubFinds_single (s := s) (key := key) (by omega)
    have hkey : (s.scrubFinds key .single).eccOf key = 1 := by rw [hfinds, State.eccOf_set, if_pos rfl]; rfl
    rw [hrun, State.scrubbed, if_neg (by omega)]
    exact scrubFixed_of_single (by rw [hfinds]) hkey fun b hb => by rw [hfinds, State.eccOf_set, if_neg hb]
  · rw [hrun, State.scrubbed_clean (by omega)]
    exact scrubFixed_of_single rfl h fun _ _ => rfl
  · have hfinds := State.scrubFinds_uncorrectable (s := s) (key := key) (by omega)
    have hkey : (s.scrubFinds key .uncorrectable).eccOf key = 2 := by rw [hfinds, State.eccOf_set, if_pos rfl]; rfl
    rw [hrun, State.scrubbed, if_pos hkey]
    exact scrubBad_of_uncorrectable hecc hmem (by rw [hfinds]) hkey fun b hb => by rw [hfinds, State.eccOf_set, if_neg hb]
  · rw [hrun, State.scrubbed_known e h]
    exact scrubBad_of_uncorrectable hecc hmem rfl h fun _ _ => rfl
end

/-- What an array's own controller does about an uncorrectable error: the Grotto's forces the hardwired STO (log entry 57), another
reports with free SOURCE and CHAMBER (log entry 24). -/
def tellArray (arr : ScrubArray) (a : Nat) (t : State) : State :=
  if arr = .grotto then t.hardSto 0x9A
  else t.used.appendErr stECC t.free.toNat (levelOf a) 0 (t.free.toNat / 16) a

theorem tellArray_ecc (arr : ScrubArray) (a : Nat) (t : State) : (tellArray arr a t).ecc = t.ecc := by
  unfold tellArray
  split
  · exact t.hardSto_ecc _
  · exact t.used.logErr_ecc _

theorem tellArray_mem (arr : ScrubArray) (a : Nat) (t : State) : (tellArray arr a t).mem = t.mem := by
  unfold tellArray
  split
  · exact t.hardSto_mem _
  · exact t.used.logErr_mem _

section
variable (s : State)

theorem bankScrub_off (b : Fin 16) (bank : Fin 8) (line : BitVec 13) (e : Ecc) (h : s.treesOn = false) :
    exec (.bankScrub b bank line e) s = .next s := by
  simp [exec_bankScrub, execBankScrub, ok, h]

theorem bankScrub_on (b : Fin 16) (bank : Fin 8) (line : BitVec 13) (e : Ecc) (h : s.treesOn = true) :
    exec (.bankScrub b bank line e) s = .next (s.scrubbed
      (fun t => t.refuse (.blockCtl b) stECC 0 (blockBase b.val + 32 * line.toNat + 4 * bank.val))
      (blockBase b.val + 32 * line.toNat + 4 * bank.val) e) := by
  rw [exec_bankScrub, execBankScrub, h]
  rfl

/-- The clock that the controller of an array needs. -/
def State.arrayOn (arr : ScrubArray) : Bool := if arr = .grotto then s.grottoOn else s.fabricOn

theorem arrayScrub_off (arr : ScrubArray) (word : BitVec 21) (e : Ecc) (h : s.arrayOn arr = false) :
    exec (.arrayScrub arr word e) s = .next s := by
  rw [exec_arrayScrub]
  unfold State.arrayOn at h
  unfold execArrayScrub
  split at h <;> simp [ok, *]

theorem arrayScrub_on (arr : ScrubArray) (word : BitVec 21) (e : Ecc) (h : s.arrayOn arr = true) :
    exec (.arrayScrub arr word e) s = .next (s.scrubbed (tellArray arr (scrubWord arr word.toNat).2)
      (scrubWord arr word.toNat).1 e) := by
  rw [exec_arrayScrub]
  unfold State.arrayOn at h
  unfold execArrayScrub
  split at h <;> simp [ok, State.scrubbed, tellArray, State.scrub, *]
end

/-! ## The obligation -/

/-- A command that is a register write ends, where the access rules refuse it, with the refusal logged alone. -/
theorem exec_refused {s : State} {ag : Agent} {c : Instr} {f : RegFam} {i : Nat} {act : State → State}
    (hrun : exec c s = ok (s.asWrite ag f i act)) (h : s.accessStatus ag true (f.addr i) ≠ stOK) :
    exec c s = .next (s.refuse ag (s.accessStatus ag true (f.addr i)) 1 (f.addr i)) :=
  hrun.trans (congrArg ok (asWrite_refused h))

/-- Settles O59: the accesses by address through the field-by-field laws of a register's word, the timeouts and escalations by the
cases of their commands, the scrubs by one law over what tells an uncorrectable error. -/
theorem busAccess : Obligations.BusAccess := by
  unfold Obligations.BusAccess
  intro s
  refine ⟨fun ag addr v => ⟨fun hoff => ⟨registerWrite_off v hoff, rcRead_off hoff⟩, fun hon => ?_⟩, fun ag wr addr => ?_,
    fun unit => ?_, ⟨fun b bank line => ?_, fun arr word => ?_⟩, fun ag v k8 k4 k2 x c n b => ?_⟩
  · refine ⟨registerWrite_refused v hon, rcRead_refused hon, fun htgt =>
      ⟨fun h => registerWrite_nothing v hon h htgt, fun h => rcRead_nothing hon h htgt⟩, fun f i htgt halign => ⟨?_, ?_⟩⟩
    · intro hst hhook hhost hacc
      refine ⟨_, registerWrite_reg v hon hst htgt halign hhook hhost hacc, ?_, fun hapart e he => ?_⟩
      · simp [State.setRegA]
      · simp only [State.setRegA, smGet_smSet_same]
        exact f.get_write true v _ hapart e he (hacc e he)
    · intro hst hrc hhook
      refine ⟨_, rcRead_reg hon hst htgt halign hrc hhook, ?_, fun hapart e he => ?_⟩
      · simp [State.setRegA]
      · simp only [State.setRegA, smGet_smSet_same]
        rw [f.get_only _ _ hapart e he]
        by_cases h : e.2 = .rc <;> simp [h, State.regA]
  · refine ⟨s.logTimeout_mesh ag wr _, s.logTimeout_crossbar ag wr _, s.logTimeout_region ag wr _, transactionTimeout_off wr,
      fun hon => ⟨transactionTimeout_unit wr hon, fun p hp => ⟨?_, ?_, ?_⟩⟩⟩
    · rintro rfl
      exact transactionTimeout_proc true hon hp
    · rintro rfl hrun
      exact (transactionTimeout_proc false hon hp).trans (by simp [hrun])
    · rintro rfl hrun
      exact (transactionTimeout_proc false hon hp).trans (by simp [hrun])
  · refine ⟨errorEscalation_none, fun r hr => ⟨errorEscalation_early hr, fun hdue hlow => ?_, fun hdue hne => ?_⟩⟩
    · rw [errorEscalation_due hr hdue, State.escalated_low _ unit (by omega)]
    · exact ⟨_, errorEscalation_due hr hdue, State.escalated_keeps _ _ _ _ (hne.imp_right (by omega))
        (find?_replaced_report hr rfl)⟩
  · exact ⟨fun hoff e => bankScrub_off s b bank line e hoff, fun hon =>
      scrubLaw_of_scrubbed (fun e => bankScrub_on s b bank line e hon) (fun t => t.logErr_ecc _) fun t => t.logErr_mem _⟩
  · exact ⟨fun hoff e => arrayScrub_off s arr word e hoff, fun hon =>
      scrubLaw_of_scrubbed (fun e => arrayScrub_on s arr word e hon) (tellArray_ecc arr _) (tellArray_mem arr _)⟩
  · simp only [List.forall_mem_cons]
    exact ⟨exec_refused (exec_fabErrPop s ag v), exec_refused (exec_canReq s ag k8 b v), exec_refused (exec_canAbort s ag k8 b v),
      exec_refused (exec_recover s ag k8 v), exec_refused (exec_mdioTransaction s ag v), exec_refused (exec_spiTxdWrite s ag k4 v),
      exec_refused (exec_xspiCmd s ag v), exec_refused (exec_uartTxdWrite s ag k2 v), exec_refused (exec_i2cCmd s ag k2 v),
      exec_refused (exec_gpioSet s ag v), exec_refused (exec_gpioClr s ag v), exec_refused (exec_avsWriteVoltage s ag k2 v),
      exec_refused (exec_serviceWrite s ag v), exec_refused (exec_colkick s ag c v), exec_refused (exec_columnReset s ag c),
      exec_refused (exec_doze s ag), exec_refused (exec_ssxCtrlStop s ag x),
      exec_refused (exec_ringProdWrite s ag n (v.setWidth 16)), List.forall_mem_nil _⟩

end Sys2Proof.Machine

namespace Sys2Proof.Machine

/-! O60, ErrorLogOverflow: the full log and the pop. -/

/-- What an entry that finds the log full does: OVF and the count of FAB_ERR_DROP alone. -/
theorem State.logErr_full (s : State) (e : ErrEntry) (h : 16 ≤ s.fabLog.length) : s.logErr e =
    (s.setBit FAB_ERR_STAT 0 FAB_ERR_STAT_OVF true).setFld FAB_ERR_DROP 0 FAB_ERR_DROP_DROPPED
      (incSat 32 (s.fld FAB_ERR_DROP 0 FAB_ERR_DROP_DROPPED) 1) := by
  rw [State.logErr, if_pos h]

/-- Dropping the head of the log changes the log and its reports alone. -/
theorem State.popErr_cons (s : State) {h : ErrEntry} {rest : List ErrEntry} (hlog : s.fabLog = h :: rest) :
    s.popErr = { s with fabLog := rest, reports := s.popErr.reports } := by
  unfold State.popErr
  split
  · next hnil => rw [hlog] at hnil; cases hnil
  · next heq => obtain ⟨-, rfl⟩ := List.cons.inj (hlog.symm.trans heq); rfl

theorem State.popErr_nil (s : State) (hlog : s.fabLog = []) : s.popErr = s := by
  unfold State.popErr
  split
  · rfl
  · next heq => rw [hlog] at heq; cases heq

/-- FAB_ERR_POP by an agent that may write it. -/
theorem fabErrPop_admitted {s : State} {ag : Agent} (v : Word) (h : s.accessStatus ag true (FAB_ERR_POP.addr 0) = stOK) :
    exec (.fabErrPop ag v) s = .next (if FAB_ERR_POP_POP.get v = 1 then s.popErr else s) :=
  (exec_fabErrPop s ag v).trans (congrArg ok (asWrite_ok h))

/-- Settles O60: a full log by what the entry then writes, a pop by the cases of the log. -/
theorem errorLogOverflow : Obligations.ErrorLogOverflow := by
  unfold Obligations.ErrorLogOverflow
  have hapart : FAB_ERR_STAT.addr 0 ≠ FAB_ERR_DROP.addr 0 := by decide
  refine ⟨fun s e hfull => ?_, fun ag v s hst => ⟨fun hno => ?_, fun h rest hpop hlog hlen => ?_⟩⟩
  · rw [s.logErr_full e hfull]
    refine ⟨rfl, ?_, ?_, fun f i hi => ?_, rfl⟩
    · rw [State.bit, State.fld, reg_setFld_other _ _ _ _ _ _ _ hapart]
      exact bit_setBit_same _ _ _ _ _ (by decide)
    · rw [fld_setFld_same _ _ _ _ _ (by decide)]
      exact (Nat.mod_eq_of_lt (by simp only [incSat, FAB_ERR_DROP_DROPPED]; omega)).trans (Nat.min_comm ..)
    · simp only [List.mem_cons, List.not_mem_nil, or_false, not_or] at hi
      rw [reg_setFld_other _ _ _ _ _ _ _ hi.2, reg_setBit_other _ _ _ _ _ _ _ hi.1]
  · rw [fabErrPop_admitted v hst]
    rcases hno with hno | hnil
    · rw [if_neg hno]
    · rw [s.popErr_nil hnil, ite_self]
  · have hpopped := s.popErr_cons hlog
    refine ⟨s.popErr, by rw [fabErrPop_admitted v hst, if_pos hpop], by rw [hpopped], hpopped, fun e => ?_⟩
    rw [hpopped, State.logErr_fabLog, if_neg (by simpa using hlen)]

end Sys2Proof.Machine

namespace Sys2Proof.Machine

/-! O52, ChambersAndColumns: refuted by its frame of COLUMN_RESET. -/

/-- A value of the type `RegFam` that stands at the addresses of SYSCTL_COLCTL and gives its registers another reset value. It is no
family of the register map, but the frame `State.regsSame` speaks of every value of the type. -/
def colctlShadow : RegFam := { SYSCTL_COLCTL with reset := fun i => ~~~SYSCTL_COLCTL.reset i }

/-- COLUMN_RESET of COLH writes SYSCTL_COLCTL back as it was: a register that had never been written is in the store from then on. -/
theorem columnReset_stores : ∃ t, exec (.columnReset (.col 4) 4) State.reset = .next t ∧
    t.regs = [(SYSCTL_COLCTL.addr 4, SYSCTL_COLCTL.reset 4)] := ⟨_, rfl, by decide⟩

/-- A read of `colctlShadow` tells a register in the store from one that is not. -/
theorem colctlShadow_reads {t : State} (h : t.regs = [(SYSCTL_COLCTL.addr 4, SYSCTL_COLCTL.reset 4)]) :
    t.reg colctlShadow 4 ≠ State.reset.reg colctlShadow 4 := by
  rw [State.reg, h]
  decide

/-- Refutes O52: after reset, COLUMN_RESET by COLH of itself puts SYSCTL_COLCTL into the store, and with an empty list of exceptions the
frame of registers claims that a family at the same address with another reset value reads as before. -/
theorem not_chambersAndColumns : ¬ Obligations.ChambersAndColumns := by
  unfold Obligations.ChambersAndColumns
  intro h
  obtain ⟨-, -, -, hcolumns, -⟩ := h State.reset
  obtain ⟨-, -, -, -, hreset⟩ := hcolumns 4
  obtain ⟨-, hadmitted⟩ := hreset (.col 4) (by decide)
  obtain ⟨t, ht, hsame, -⟩ := hadmitted (by decide)
  obtain ⟨u, hu, hregs⟩ := columnReset_stores
  obtain rfl : t = u := by rw [hu] at ht; cases ht; rfl
  exact colctlShadow_reads hregs (hsame colctlShadow 4 (by simp))

end Sys2Proof.Machine

/-! ## The error log is bounded (O5)

What each operation of the model does to the error log: most leave it, `logErr` and what calls it leave it within its bound exactly where
it was, and what can pop the log or reset the machine keeps it within its bound. -/

namespace Sys2Proof.Machine

/-- An error log of at most the 16 entries of R38. -/
def LogFits (l : List ErrEntry) : Prop := l.length ≤ 16

/-- The error log of `t` is that of `s`. -/
def State.SameLog (s t : State) : Prop := t.fabLog = s.fabLog

/-- The error log of `t` fits where that of `s` does, and only there. -/
def State.SameFit (s t : State) : Prop := LogFits t.fabLog ↔ LogFits s.fabLog

@[simp] theorem State.sameLog_iff (s t : State) : s.SameLog t ↔ t.fabLog = s.fabLog := ⟨id, id⟩
@[simp] theorem State.sameFit_iff (s t : State) : s.SameFit t ↔ (LogFits t.fabLog ↔ LogFits s.fabLog) := ⟨id, id⟩

@[simp] theorem State.fabLog_ite (c : Prop) [Decidable c] (a b : State) :
    (if c then a else b).fabLog = if c then a.fabLog else b.fabLog := apply_ite ..

@[simp] theorem logFits_ite (c : Prop) [Decidable c] (a b : List ErrEntry) :
    LogFits (if c then a else b) ↔ if c then LogFits a else LogFits b := by split <;> rfl

@[simp] theorem foldl_fabLog {α : Type} {f : State → α → State} (hf : ∀ (s : State) x, s.SameLog (f s x)) (l : List α) (s : State) :
    (l.foldl f s).fabLog = s.fabLog := by
  induction l generalizing s with
  | nil => rfl
  | cons x l ih => rw [List.foldl_cons, ih, hf]

@[simp] theorem forN_fabLog {f : Nat → State → State} (hf : ∀ (s : State) i, s.SameLog (f i s)) (n : Nat) (s : State) :
    (forN n s f).fabLog = s.fabLog := foldl_fabLog (fun s i => hf s i) _ s

@[simp] theorem foldl_logFits {α : Type} {f : State → α → State} (hf : ∀ (s : State) x, s.SameFit (f s x)) (l : List α) (s : State) :
    LogFits (l.foldl f s).fabLog ↔ LogFits s.fabLog := by
  induction l generalizing s with
  | nil => rfl
  | cons x l ih => rw [List.foldl_cons, ih]; exact hf s x

@[simp] theorem State.logErr_logFits (s : State) (e : ErrEntry) : LogFits (s.logErr e).fabLog ↔ LogFits s.fabLog := by
  rw [s.logErr_fabLog]
  unfold LogFits
  split
  · rfl
  · rw [List.length_append, List.length_singleton]; omega

/-! ### Ops -/

@[simp] theorem State.setLstate_fabLog (s : State) (c : Fin 128) (v : Nat) : (s.setLstate c v).fabLog = s.fabLog := rfl
@[simp] theorem State.setPstate_fabLog (s : State) (p : Fin 128) (v : Nat) : (s.setPstate p v).fabLog = s.fabLog := rfl
@[simp] theorem State.mapCell_fabLog (s : State) (c : Fin 128) (p : Option (Fin 128)) : (s.mapCell c p).fabLog = s.fabLog := rfl
@[simp] theorem State.pmcCount_fabLog (s : State) (c : Fin 128) (e : Nat) : (s.pmcCount c e).fabLog = s.fabLog := rfl
@[simp] theorem State.evDrop_fabLog (s : State) (c : Fin 128) (n : Nat) : (s.evDrop c n).fabLog = s.fabLog := rfl

theorem State.pushFifo_fabLog {s t : State} {c : Fin 128} {e : FifoEntry} (h : s.pushFifo c e = some t) :
    t.fabLog = s.fabLog := by
  unfold State.pushFifo at h
  split at h
  · cases h
  · split at h
    · cases h
    · split at h
      · cases h
      · cases h; split <;> rfl

@[simp] theorem State.notifyCell_fabLog (s : State) (c : Fin 128) (vec payload : Nat) :
    (s.notifyCell c vec payload).fabLog = s.fabLog := by
  unfold State.notifyCell
  split
  · next h => exact State.pushFifo_fabLog h
  · simp

@[simp] theorem State.report35_fabLog (s : State) (level unit : Nat) (acked : Bool) : (s.report35 level unit acked).fabLog = s.fabLog := by
  simp [State.report35]

@[simp] theorem State.appendErr_logFits (s : State) (status chamber level kind source addr : Nat) :
    LogFits (s.appendErr status chamber level kind source addr).fabLog ↔ LogFits s.fabLog := by
  simp [State.appendErr]

@[simp] theorem State.refuse_logFits (s : State) (ag : Agent) (status kind addr : Nat) :
    LogFits (s.refuse ag status kind addr).fabLog ↔ LogFits s.fabLog := by
  simp [State.refuse]

@[simp] theorem State.asWrite_logFits {s : State} {ag : Agent} {f : RegFam} {i : Nat} {act : State → State}
    (hact : s.SameFit (act s)) : LogFits (s.asWrite ag f i act).fabLog ↔ LogFits s.fabLog := by
  by_cases h : s.accessStatus ag true (f.addr i) = stOK
  · rw [asWrite_ok h]; exact hact
  · rw [asWrite_refused h]; simp

@[simp] theorem State.discard_logFits (s : State) (ag : Agent) (f : RegFam) (i status : Nat) :
    LogFits (s.discard ag f i status).fabLog ↔ LogFits s.fabLog := by
  simp [State.discard]

@[simp] theorem State.eccCorrect_fabLog (s : State) (a : Nat) : (s.eccCorrect a).fabLog = s.fabLog := by simp [State.eccCorrect]
@[simp] theorem State.eccClear_fabLog (s : State) (a : Nat) : (s.eccClear a).fabLog = s.fabLog := by simp [State.eccClear]
@[simp] theorem State.poke16_fabLog (s : State) (a : Nat) (v : Half) : (s.poke16 a v).fabLog = s.fabLog := rfl
@[simp] theorem State.poke32_fabLog (s : State) (a : Nat) (v : Word) : (s.poke32 a v).fabLog = s.fabLog := rfl
@[simp] theorem State.countWrap_fabLog (s : State) (f : RegFam) (i : Nat) (F : Fld) : (s.countWrap f i F).fabLog = s.fabLog := rfl

/-! ### Rings -/

theorem State.raiseLine_fabLog {s t : State} {c : Fin 5} {line : Fin 16} {chamber payload : Nat} {ring : Option Nat}
    (h : s.raiseLine c line chamber payload ring = some t) : t.fabLog = s.fabLog := by
  unfold State.raiseLine at h
  dsimp only at h
  split at h
  · cases h
  · cases h; rfl

@[simp] theorem State.pokeWords_fabLog (s : State) (a : Nat) (l : List Word) : (s.pokeWords a l).fabLog = s.fabLog := by
  induction l generalizing s a with
  | nil => rfl
  | cons w l ih => rw [State.pokeWords, ih]; simp

@[simp] theorem State.ringPut_fabLog (s : State) (n : Nat) (body : List Word) (status kind info : Nat) :
    (s.ringPut n body status kind info).fabLog = s.fabLog := by
  simp [State.ringPut]

theorem State.notifySend_fabLog {s t : State} {n : Nat} (h : s.notifySend n = some t) : t.fabLog = s.fabLog := by
  unfold State.notifySend at h
  dsimp only at h
  split at h
  · exact State.pushFifo_fabLog h
  · split at h
    · exact State.raiseLine_fabLog h
    · cases h; rfl
  · cases h; rfl

@[simp] theorem State.notifyRing_fabLog (s : State) (n : Nat) : (s.notifyRing n).fabLog = s.fabLog := by
  unfold State.notifyRing
  split
  · rfl
  · split
    · next h => exact State.notifySend_fabLog h
    · rfl

@[simp] theorem State.notifyRetry_fabLog (s : State) : s.notifyRetry.fabLog = s.fabLog := by
  unfold State.notifyRetry
  refine foldl_fabLog (fun s n => ?_) _ _
  rw [State.sameLog_iff]
  split
  · next t h => exact (show t.fabLog = _ from State.notifySend_fabLog h)
  · rfl

@[simp] theorem State.modTxRing_fabLog (s : State) (n : Nat) (f : TxRing → TxRing) : (s.modTxRing n f).fabLog = s.fabLog := rfl
@[simp] theorem State.txPass_fabLog (s : State) (n : Nat) : (s.txPass n).fabLog = s.fabLog := rfl
@[simp] theorem State.ringCorrect_fabLog (s : State) (n idx : Nat) : (s.ringCorrect n idx).fabLog = s.fabLog := by simp [State.ringCorrect]

theorem State.ringPush_fabLog {s t : State} {n : Nat} {body : List Word} {status kind info : Nat}
    (h : s.ringPush n body status kind info = some t) : t.fabLog = s.fabLog := by
  unfold State.ringPush at h
  split at h
  · cases h
  · cases h; simp

@[simp] theorem State.writeRingCfg_logFits (s : State) (ag : Agent) (n : Nat) (v : Word) :
    LogFits (s.writeRingCfg ag n v).fabLog ↔ LogFits s.fabLog := by
  simp only [State.writeRingCfg]
  repeat' split
  all_goals simp

@[simp] theorem State.writeRingIdx_fabLog (s : State) (n : Nat) (v : Word) : (s.writeRingIdx n v).fabLog = s.fabLog := by
  simp [State.writeRingIdx]

/-! ### Time -/

@[simp] theorem State.setInc_fabLog (s : State) (x : Int) : (s.setInc x).fabLog = s.fabLog := by simp [State.setInc]
@[simp] theorem State.setLevel_fabLog (s : State) (l : Nat) : (s.setLevel l).fabLog = s.fabLog := rfl
@[simp] theorem State.enterHoldover_fabLog (s : State) : s.enterHoldover.fabLog = s.fabLog := by simp [State.enterHoldover]
@[simp] theorem State.judgeSample_fabLog (s : State) (o : Int) : (s.judgeSample o).fabLog = s.fabLog := by simp [State.judgeSample]
@[simp] theorem State.servoSample_fabLog (s : State) (o : Int) : (s.servoSample o).fabLog = s.fabLog := by simp [State.servoSample]
@[simp] theorem State.offerSample_fabLog (s : State) (o : Int) : (s.offerSample o).fabLog = s.fabLog := by simp [State.offerSample]
@[simp] theorem State.writeOfsIn_fabLog (s : State) (v : Word) : (s.writeOfsIn v).fabLog = s.fabLog := by simp [State.writeOfsIn]
@[simp] theorem State.writeIncInt_fabLog (s : State) (v : Word) : (s.writeIncInt v).fabLog = s.fabLog := by simp [State.writeIncInt]
@[simp] theorem State.writeIncFrac_fabLog (s : State) (v : Word) : (s.writeIncFrac v).fabLog = s.fabLog := by simp [State.writeIncFrac]
@[simp] theorem State.writeSlew_fabLog (s : State) (v : Word) : (s.writeSlew v).fabLog = s.fabLog := by simp [State.writeSlew]

@[simp] theorem State.writeTimeCtrl_fabLog (s : State) (v : Word) : (s.writeTimeCtrl v).fabLog = s.fabLog := by
  simp only [State.writeTimeCtrl]
  repeat' split
  all_goals simp

@[simp] theorem State.latchTime_fabLog (s : State) (ag : Agent) : (s.latchTime ag).fabLog = s.fabLog := rfl

@[simp] theorem State.doStep_fabLog (s : State) : s.doStep.fabLog = s.fabLog := by
  unfold State.doStep
  split <;> simp

@[simp] theorem State.timeTick_fabLog (s : State) : s.timeTick.fabLog = s.fabLog := by simp [State.timeTick]
@[simp] theorem State.timeRef_fabLog (s : State) : s.timeRef.fabLog = s.fabLog := by simp [State.timeRef]

/-! ### GalleryCore -/

@[simp] theorem State.modEvent_fabLog (s : State) (n : Nat) (f : GEvent → GEvent) : (s.modEvent n f).fabLog = s.fabLog := rfl
@[simp] theorem State.bumpTag_fabLog (s : State) (n : Nat) : (s.bumpTag n).fabLog = s.fabLog := rfl

@[simp] theorem State.writeQuota_logFits (s : State) (ag : Agent) (c : Nat) (v : Word) :
    LogFits (s.writeQuota ag c v).fabLog ↔ LogFits s.fabLog := by
  simp [State.writeQuota]

@[simp] theorem State.countSlot_fabLog (s : State) (ch ring : Nat) (axis : Option Nat) (up : Bool) :
    (s.countSlot ch ring axis up).fabLog = s.fabLog := by
  unfold State.countSlot
  repeat' split
  all_goals simp

@[simp] theorem State.report_fabLog (s : State) (e : GEvent) (status mask : Nat) :
    (s.report e status mask).fabLog = s.fabLog := by
  unfold State.report
  dsimp only
  split
  · rfl
  · split
    · next h => exact State.ringPush_fabLog h
    · simp

@[simp] theorem State.freeSlot_fabLog (s : State) (e : GEvent) : (s.freeSlot e).fabLog = s.fabLog := by simp [State.freeSlot]

@[simp] theorem State.endEvent_fabLog (s : State) (e : GEvent) (status mask : Nat) (quiet : Bool) :
    (s.endEvent e status mask quiet).fabLog = s.fabLog := by
  simp [State.endEvent]

theorem State.slotFault_logFits {s t : State} {e : GEvent} (h : s.slotFault e = some t) : LogFits t.fabLog ↔ LogFits s.fabLog := by
  unfold State.slotFault at h
  dsimp only at h
  split at h
  · cases h; simp
  · cases h

@[simp] theorem State.slotCorrect_fabLog (s : State) (e : GEvent) : (s.slotCorrect e).fabLog = s.fabLog := by simp [State.slotCorrect]

@[simp] theorem State.eachEvent_fabLog {f : GEvent → State → State} (hf : ∀ e (s : State), s.SameLog (f e s)) (s : State)
    (l : List GEvent) :
    (s.eachEvent l f).fabLog = s.fabLog := by
  unfold State.eachEvent
  refine foldl_fabLog (fun s e => ?_) _ _
  split
  · split
    · exact hf _ s
    · rfl
  · rfl

@[simp] theorem State.commitEvent_fabLog (s : State) (e : GEvent) (f : GEvent → GEvent) : (s.commitEvent e f).fabLog = s.fabLog := rfl
@[simp] theorem State.dueNow_fabLog (s : State) (e : GEvent) (lc : Nat) (exempt : Bool) : (s.dueNow e lc exempt).fabLog = s.fabLog := rfl

@[simp] theorem State.predictEvent_logFits (s : State) (e : GEvent) : LogFits (s.predictEvent e).fabLog ↔ LogFits s.fabLog := by
  unfold State.predictEvent
  split
  · next h => exact State.slotFault_logFits h
  · extract_lets s1 d dir s2 sg t w c ds ws wmin t1 corr t2
    have h1 : s1.fabLog = s.fabLog := State.slotCorrect_fabLog ..
    have h2 : s2.fabLog = s.fabLog := (State.modEvent_fabLog ..).trans h1
    split
    · rw [State.endEvent_fabLog, State.flag_fabLog, h1]
    split
    · rw [h1]
    split
    · rw [State.dueNow_fabLog, h1]
    split
    · split
      · rw [State.dueNow_fabLog, h2]
      · rw [State.dueNow_fabLog, h2]
    split
    · rw [h2]
    split
    · split
      · rw [State.commitEvent_fabLog, h2]
      · rw [h2]
    · rw [h2]
@[simp] theorem State.eachEvent_logFits {f : GEvent → State → State} (hf : ∀ e (s : State), s.SameFit (f e s)) (s : State)
    (l : List GEvent) :
    LogFits (s.eachEvent l f).fabLog ↔ LogFits s.fabLog := by
  unfold State.eachEvent
  refine foldl_logFits (fun s e => ?_) _ _
  split
  · split
    · exact hf _ s
    · rfl
  · rfl

@[simp] theorem State.predictAxis_logFits (s : State) (x : Fin 8) : LogFits (s.predictAxis x).fabLog ↔ LogFits s.fabLog := by
  simp [State.predictAxis]

@[simp] theorem State.angleHold_fabLog (s : State) (x : Fin 8) : (s.angleHold x).fabLog = s.fabLog := by simp [State.angleHold]
@[simp] theorem State.acceptNow_fabLog (s : State) (e : GEvent) : (s.acceptNow e).fabLog = s.fabLog := by simp [State.acceptNow]
@[simp] theorem State.acceptSub_fabLog (s : State) (u : Sub) (n : Nat) : (s.acceptSub u n).fabLog = s.fabLog := by simp [State.acceptSub]
@[simp] theorem State.submit_fabLog (s : State) (u : Sub) : (s.submit u).fabLog = s.fabLog := rfl
@[simp] theorem State.writeGo_fabLog (s : State) (ag : Agent) (v : Word) : (s.writeGo ag v).fabLog = s.fabLog := by simp [State.writeGo]

theorem State.takeSub_fabLog {s t : State} {u : Sub} {n slot : Nat} {tag : BitVec 8} (h : s.takeSub = some (t, u, n, tag, slot)) :
    t.fabLog = s.fabLog := by
  unfold State.takeSub at h
  split at h
  · cases h
  · split at h
    · cases h
    · dsimp only at h
      split at h <;> cases h <;> simp

@[simp] theorem State.cancel_fabLog (s : State) (ag : Agent) (v : Word) : (s.cancel ag v).fabLog = s.fabLog := by
  simp only [State.cancel]
  repeat' split
  all_goals simp

/-! ### Param -/

@[simp] theorem State.modAx_fabLog (s : State) (x : Nat) (f : GAxis → GAxis) : (s.modAx x f).fabLog = s.fabLog := rfl

/-! ### Pwm -/

@[simp] theorem State.modOut_fabLog (s : State) (k : Fin 16) (i : Fin 6) (f : POut → POut) : (s.modOut k i f).fabLog = s.fabLog := rfl
@[simp] theorem State.modPg_fabLog (s : State) (g : Fin 32) (f : PGroup → PGroup) : (s.modPg g f).fabLog = s.fabLog := rfl

@[simp] theorem State.askReq_fabLog (s : State) (k : Fin 16) (i : Fin 6) (t : Nat) (v : Bool) : (s.askReq k i t v).fabLog = s.fabLog := by
  simp [State.askReq]

@[simp] theorem State.askAll_fabLog (s : State) (k : Fin 16) (t : Nat) : (s.askAll k t).fabLog = s.fabLog := by simp [State.askAll]

@[simp] theorem State.settleLeg_fabLog (s : State) (k : Fin 16) (t : Nat) (p : Fin 3) : (s.settleLeg k t p).fabLog = s.fabLog := by
  simp [State.settleLeg]

@[simp] theorem State.settleBr_fabLog (s : State) (k : Fin 16) (t : Nat) : (s.settleBr k t).fabLog = s.fabLog := by simp [State.settleBr]
@[simp] theorem State.refreshBr_fabLog (s : State) (k : Fin 16) (t : Nat) : (s.refreshBr k t).fabLog = s.fabLog := by simp [State.refreshBr]
@[simp] theorem State.dropQueues_fabLog (s : State) (k : Fin 16) : (s.dropQueues k).fabLog = s.fabLog := rfl

theorem State.pwmEdge_fabLog {s t : State} {k : Fin 16} {i : Fin 6} {level : Bool} {at_ : Nat}
    (h : s.pwmEdge k i level at_ = some t) : t.fabLog = s.fabLog := by
  unfold State.pwmEdge at h
  split at h
  · cases h
  · cases h; simp

@[simp] theorem State.tripBr_fabLog (s : State) (k : Fin 16) (cause : Nat) : (s.tripBr k cause).fabLog = s.fabLog := by simp [State.tripBr]
@[simp] theorem State.patternSet_fabLog (s : State) (g : Fin 32) : (s.patternSet g).fabLog = s.fabLog := by simp [State.patternSet]
@[simp] theorem State.abortGroup_fabLog (s : State) (g : Fin 32) : (s.abortGroup g).fabLog = s.fabLog := by simp [State.abortGroup]

@[simp] theorem State.migGroup_fabLog (s : State) (g : Fin 32) (c : Nat) (hold : Bool) : (s.migGroup g c hold).fabLog = s.fabLog := by
  simp [State.migGroup]

@[simp] theorem State.orderBr_fabLog (s : State) (k : Fin 16) (pat : Option (BitVec 6)) : (s.orderBr k pat).fabLog = s.fabLog := by
  simp [State.orderBr]

@[simp] theorem State.showLares_fabLog (s : State) (r id : Nat) (m : Multi) : (s.showLares r id m).fabLog = s.fabLog := rfl

@[simp] theorem State.decideFor_fabLog (s : State) (g : Fin 32) (status : Nat) (q : Requester) :
    (s.decideFor g status q).fabLog = s.fabLog := by
  simp only [State.decideFor]
  repeat' split
  all_goals simp

@[simp] theorem State.showPend_fabLog (s : State) (g : Fin 32) : (s.showPend g).fabLog = s.fabLog := rfl

@[simp] theorem State.requestCommit_fabLog (s : State) (g : Fin 32) (q : Requester) : (s.requestCommit g q).fabLog = s.fabLog := by
  simp [State.requestCommit]

@[simp] theorem State.writeLoadall_fabLog (s : State) (r : Fin 4) (id mask : Nat) : (s.writeLoadall r id mask).fabLog = s.fabLog := by
  simp [State.writeLoadall]

@[simp] theorem State.endRelease_fabLog (s : State) (k : Fin 16) : (s.endRelease k).fabLog = s.fabLog := by simp [State.endRelease]

@[simp] theorem State.commitBr_fabLog (s : State) (k : Fin 16) (a : BAct) (per : Nat) (first : Bool) :
    (s.commitBr k a per first).fabLog = s.fabLog := by
  simp [State.commitBr]

@[simp] theorem State.liftPatterns_fabLog (s : State) (g : Fin 32) : (s.liftPatterns g).fabLog = s.fabLog := by
  simp only [State.liftPatterns]
  repeat' split
  all_goals simp

@[simp] theorem State.commitGrp_fabLog (s : State) (g : Fin 32) (first : Bool) : (s.commitGrp g first).fabLog = s.fabLog := by
  simp [State.commitGrp]

@[simp] theorem State.beginBr_fabLog (s : State) (k : Fin 16) (t : Nat) : (s.beginBr k t).fabLog = s.fabLog := by simp [State.beginBr]

@[simp] theorem State.beginPeriod_fabLog (s : State) (g : Fin 32) (t : Nat) : (s.beginPeriod g t).fabLog = s.fabLog := by
  simp [State.beginPeriod]

@[simp] theorem State.boundaryCommit_fabLog (s : State) (g : Fin 32) : (s.boundaryCommit g).fabLog = s.fabLog := by
  simp [State.boundaryCommit]

@[simp] theorem State.disableGrp_fabLog (s : State) (g : Fin 32) : (s.disableGrp g).fabLog = s.fabLog := by simp [State.disableGrp]

@[simp] theorem State.writeGctl_fabLog (s : State) (g : Fin 32) (v : Word) : (s.writeGctl g v).fabLog = s.fabLog := by
  simp [State.writeGctl]

@[simp] theorem State.startGrp_fabLog (s : State) (g : Fin 32) (t : Nat) : (s.startGrp g t).fabLog = s.fabLog := by simp [State.startGrp]

@[simp] theorem State.writeMctl_fabLog (s : State) (k : Fin 16) (v : Word) : (s.writeMctl k v).fabLog = s.fabLog := by
  simp [State.writeMctl]

@[simp] theorem State.setMidx_fabLog (s : State) (k : Fin 16) (m : Nat) : (s.setMidx k m).fabLog = s.fabLog := by simp [State.setMidx]

@[simp] theorem State.softOff_fabLog (s : State) : s.softOff.fabLog = s.fabLog := by
  unfold State.softOff
  refine foldl_fabLog (fun s k => ?_) _ _
  split <;> simp

/-! ### Gdl -/

@[simp] theorem State.gdlStart_fabLog (s : State) (j : Fin 48) (src : GdlFrom) (sel cmd addr data : Nat) :
    (s.gdlStart j src sel cmd addr data).fabLog = s.fabLog := rfl

@[simp] theorem State.gdlInitStep_fabLog (s : State) (j : Fin 48) (n : Nat) : (s.gdlInitStep j n).fabLog = s.fabLog := rfl

@[simp] theorem State.gdlNext_fabLog (s : State) (j : Fin 48) : (s.gdlNext j).fabLog = s.fabLog := by
  simp only [State.gdlNext]
  repeat' split
  all_goals simp

@[simp] theorem State.gdlReport_fabLog (s : State) (j : Fin 48) (status mask data : Nat) :
    (s.gdlReport j status mask data).fabLog = s.fabLog := rfl

@[simp] theorem State.gdlReqTrip_fabLog (s : State) (j : Fin 48) : (s.gdlReqTrip j).fabLog = s.fabLog := by simp [State.gdlReqTrip]

@[simp] theorem State.gdlLeave_fabLog (s : State) (j : Fin 48) (st at_ : Nat) : (s.gdlLeave j st at_).fabLog = s.fabLog := by
  simp [State.gdlLeave]

@[simp] theorem State.gdlDown_fabLog (s : State) (j : Fin 48) : (s.gdlDown j).fabLog = s.fabLog := by simp [State.gdlDown]
@[simp] theorem State.gdlInitFail_fabLog (s : State) (j : Fin 48) : (s.gdlInitFail j).fabLog = s.fabLog := rfl

@[simp] theorem State.gdlDeliver_fabLog (s : State) (j : Fin 48) (x : GdlTx) : (s.gdlDeliver j x).fabLog = s.fabLog := by
  unfold State.gdlDeliver
  split <;> simp

@[simp] theorem State.gdlFinish_fabLog (s : State) (j : Fin 48) (x : GdlTx) : (s.gdlFinish j x).fabLog = s.fabLog := by
  simp [State.gdlFinish]

@[simp] theorem State.gdlSide_fabLog (s : State) (j : Fin 48) (x : GdlTx) (status reply : Nat) :
    (s.gdlSide j x status reply).fabLog = s.fabLog := by
  simp [State.gdlSide]

@[simp] theorem State.gdlBreak_fabLog (s : State) (j : Fin 48) : (s.gdlBreak j).fabLog = s.fabLog := by
  unfold State.gdlBreak
  split <;> simp

@[simp] theorem State.writeGdlCfg_fabLog (s : State) (j : Fin 48) (v : Word) : (s.writeGdlCfg j v).fabLog = s.fabLog := by
  simp [State.writeGdlCfg]

@[simp] theorem State.writeGdlCmd_fabLog (s : State) (j : Fin 48) (v : Word) : (s.writeGdlCmd j v).fabLog = s.fabLog := by
  simp [State.writeGdlCmd]

@[simp] theorem State.masterBreak_fabLog (s : State) (k : Fin 16) : (s.masterBreak k).fabLog = s.fabLog := by
  unfold State.masterBreak
  dsimp only
  rw [State.modBr_fabLog, State.setFld_fabLog, State.flag_fabLog]
  exact foldl_fabLog (fun s j => by simp) _ _

@[simp] theorem State.cmpTripBr_fabLog (s : State) (k : Fin 16) : (s.cmpTripBr k).fabLog = s.fabLog := by simp [State.cmpTripBr]

/-! ### GrottoCore -/

@[simp] theorem State.gLog_fabLog (s : State) (entry action unit : Nat) (detail : Option Nat) :
    (s.gLog entry action unit detail).fabLog = s.fabLog := by
  simp [State.gLog]

@[simp] theorem State.gCause_fabLog (s : State) (entry unit : Nat) (on : Bool) : (s.gCause entry unit on).fabLog = s.fabLog := rfl
@[simp] theorem State.dropConsent_fabLog (s : State) : s.dropConsent.fabLog = s.fabLog := rfl
@[simp] theorem State.gensFollow_fabLog (s : State) : s.gensFollow.fabLog = s.fabLog := by simp [State.gensFollow]

@[simp] theorem State.setOut_fabLog (s : State) (x out : Nat) (able : Fin 16 → Bool) : (s.setOut x out able).fabLog = s.fabLog := by
  simp [State.setOut]

@[simp] theorem State.orderSto_fabLog (s : State) (x : Nat) : (s.orderSto x).fabLog = s.fabLog := by simp [State.orderSto]

@[simp] theorem State.hardSto_fabLog (s : State) (unit : Nat) : (s.hardSto unit).fabLog = s.fabLog := by
  rw [s.hardSto_stoFrame unit]

@[simp] theorem State.orderAsc_fabLog (s : State) (x : Nat) : (s.orderAsc x).fabLog = s.fabLog := by
  unfold State.orderAsc
  split <;> simp

@[simp] theorem State.safeDecision_fabLog (s : State) (x : Nat) : (s.safeDecision x).fabLog = s.fabLog := by simp [State.safeDecision]

@[simp] theorem State.safeOrder_fabLog (s : State) (x entry : Nat) (detail : Option Nat) :
    (s.safeOrder x entry detail).fabLog = s.fabLog := by
  simp [State.safeOrder]

@[simp] theorem State.axFault_fabLog (s : State) (x entry : Nat) (present : Bool) : (s.axFault x entry present).fabLog = s.fabLog := by
  simp [State.axFault]

@[simp] theorem State.startSs1_fabLog (s : State) (x : Nat) : (s.startSs1 x).fabLog = s.fabLog := by simp [State.startSs1]
@[simp] theorem State.slsFollow_fabLog (s : State) (x : Nat) : (s.slsFollow x).fabLog = s.fabLog := by simp [State.slsFollow]
@[simp] theorem State.sdiFollow_fabLog (s : State) (x : Nat) : (s.sdiFollow x).fabLog = s.fabLog := rfl
@[simp] theorem State.demands_fabLog (s : State) (x : Nat) : (s.demands x).fabLog = s.fabLog := by simp [State.demands]
@[simp] theorem State.allDemands_fabLog (s : State) : s.allDemands.fabLog = s.fabLog := by simp [State.allDemands]

@[simp] theorem State.react_fabLog (s : State) (x code : Nat) (detail : Option Nat) : (s.react x code detail).fabLog = s.fabLog := by
  unfold State.react
  split <;> simp

@[simp] theorem State.groupOrder_fabLog (s : State) (xs : List Nat) (entry unit : Nat) (detail : Option Nat) :
    (s.groupOrder xs entry unit detail).fabLog = s.fabLog := by
  simp [State.groupOrder]

@[simp] theorem State.monitor_fabLog (s : State) (xs : List Nat) (entry unit : Nat) (bad : Bool) :
    (s.monitor xs entry unit bad).fabLog = s.fabLog := by
  simp [State.monitor]

@[simp] theorem State.ov2Line_fabLog (s : State) (r : Nat) : (s.ov2Line r).fabLog = s.fabLog := by simp [State.ov2Line]
@[simp] theorem State.dtoLine_fabLog (s : State) (r : Nat) : (s.dtoLine r).fabLog = s.fabLog := rfl

/-! ### Protect -/

@[simp] theorem State.sumpEntry_fabLog (s : State) (r : Fin 4) (on cell : Fld) (code : Nat) :
    (s.sumpEntry r on cell code).fabLog = s.fabLog := by
  unfold State.sumpEntry
  dsimp only
  split
  · split
    · next h => exact State.pushFifo_fabLog h
    · simp
  · rfl

@[simp] theorem State.sumpReport_fabLog (s : State) (r : Fin 4) (code : Nat) : (s.sumpReport r code).fabLog = s.fabLog := by
  simp [State.sumpReport]

@[simp] theorem State.sumpLegs_fabLog (s : State) (r : Fin 4) : (s.sumpLegs r).fabLog = s.fabLog := by simp [State.sumpLegs]
@[simp] theorem State.setChop_fabLog (s : State) (r : Fin 4) (b : Bool) : (s.setChop r b).fabLog = s.fabLog := by simp [State.setChop]
@[simp] theorem State.setDis_fabLog (s : State) (r : Fin 4) (b : Bool) : (s.setDis r b).fabLog = s.fabLog := by simp [State.setDis]
@[simp] theorem State.sumpChop_fabLog (s : State) (r : Fin 4) : (s.sumpChop r).fabLog = s.fabLog := by simp [State.sumpChop]
@[simp] theorem State.rampCheck_fabLog (s : State) (r : Fin 4) : (s.rampCheck r).fabLog = s.fabLog := by simp [State.rampCheck]
@[simp] theorem State.endDis_fabLog (s : State) (r : Fin 4) (st : Nat) : (s.endDis r st).fabLog = s.fabLog := by simp [State.endDis]
@[simp] theorem State.disDone_fabLog (s : State) (r : Fin 4) : (s.disDone r).fabLog = s.fabLog := by simp [State.disDone]
@[simp] theorem State.startDis_fabLog (s : State) (r : Fin 4) (src : Nat) : (s.startDis r src).fabLog = s.fabLog := by simp [State.startDis]

@[simp] theorem State.grottoDis_fabLog (s : State) (r : Fin 4) : (s.grottoDis r).1.fabLog = s.fabLog := by
  unfold State.grottoDis
  split <;> simp

@[simp] theorem State.cmpCapture_fabLog (s : State) (c : Fin 64) (rise : Bool) : (s.cmpCapture c rise).fabLog = s.fabLog := rfl

@[simp] theorem State.dozeExit_fabLog (s : State) : s.dozeExit.fabLog = s.fabLog := by
  unfold State.dozeExit
  split <;> simp

@[simp] theorem State.latchRise_fabLog (s : State) (c : Fin 64) (hil lol : Bool) : (s.latchRise c hil lol).fabLog = s.fabLog := by
  unfold State.latchRise
  extract_lets h l s1 s2 rt cell pay s3
  have hs2 : s2.fabLog = s.fabLog := by simp [s2, s1]
  have hs3 : s3.fabLog = s.fabLog := by
    unfold s3
    split
    · split
      · next h => exact (State.pushFifo_fabLog h).trans hs2
      · simpa using hs2
    · exact hs2
  split
  · rfl
  · split
    · simpa using hs3
    · exact hs3

@[simp] theorem State.cmpTrip_fabLog (s old : State) (c : Fin 64) : (s.cmpTrip old c).fabLog = s.fabLog := by simp [State.cmpTrip]

@[simp] theorem State.sumpEdges_fabLog (s : State) (r : Fin 4) (ah al bh : Bool) : (s.sumpEdges r ah al bh).fabLog = s.fabLog := by
  simp [State.sumpEdges]

@[simp] theorem State.withSump_fabLog {s : State} {f : State → State} (hf : s.SameLog (f s)) (r : Fin 4) :
    (s.withSump r f).fabLog = s.fabLog := by
  rw [State.sameLog_iff] at hf
  simp [State.withSump, hf]

@[simp] theorem State.cmpAccept_fabLog (s : State) (c : Fin 64) (hi lo : Bool) : (s.cmpAccept c hi lo).fabLog = s.fabLog := by
  simp [State.cmpAccept]

@[simp] theorem State.cmpSettle_fabLog (s : State) (c : Fin 64) : (s.cmpSettle c).fabLog = s.fabLog := rfl

@[simp] theorem State.writeCmpStat_fabLog (s : State) (c : Fin 64) (v : Word) : (s.writeCmpStat c v).fabLog = s.fabLog := by
  simp [State.writeCmpStat]

@[simp] theorem State.cmpPstart_fabLog (s : State) (g : Fin 32) : (s.cmpPstart g).fabLog = s.fabLog := by simp [State.cmpPstart]

@[simp] theorem State.firmDisch_logFits (s : State) (ag : Agent) (r : Fin 4) : LogFits (s.firmDisch ag r).fabLog ↔ LogFits s.fabLog := by
  simp [State.firmDisch]

@[simp] theorem State.firmDstop_logFits (s : State) (ag : Agent) (r : Fin 4) : LogFits (s.firmDstop ag r).fabLog ↔ LogFits s.fabLog := by
  simp [State.firmDstop]

@[simp] theorem State.writeSumpCtrl_logFits (s : State) (ag : Agent) (r : Fin 4) (v : Word) :
    LogFits (s.writeSumpCtrl ag r v).fabLog ↔ LogFits s.fabLog := by
  simp [State.writeSumpCtrl]

/-! ### MachineCtl -/

@[simp] theorem State.spfAnalog_fabLog (s : State) (x : Fin 8) (adc ch code : Nat) (overs : Bool) :
    (s.spfAnalog x adc ch code overs).fabLog = s.fabLog := by
  simp [State.spfAnalog]

@[simp] theorem State.spfInput_fabLog (s : State) (x : Fin 8) : (s.spfInput x).fabLog = s.fabLog := by
  unfold State.spfInput
  split <;> simp

@[simp] theorem State.spfEval_fabLog (s : State) (x : Fin 8) : (s.spfEval x).fabLog = s.fabLog := by simp [State.spfEval]
@[simp] theorem State.follower_fabLog (s : State) (x : Fin 8) : (s.follower x).fabLog = s.fabLog := by simp [State.follower]
@[simp] theorem State.axSat_fabLog (s : State) (x : Fin 8) (v : Int) : (s.axSat x v).fabLog = s.fabLog := by simp [State.axSat]

@[simp] theorem State.axCopy_fabLog (s : State) (x : Fin 8) (adc ch code : Nat) : (s.axCopy x adc ch code).fabLog = s.fabLog := by
  simp [State.axCopy]

@[simp] theorem State.axLink_fabLog (s : State) (x : Fin 8) : (s.axLink x).fabLog = s.fabLog := by simp [State.axLink]
@[simp] theorem State.feedForward_fabLog (s : State) (x : Fin 8) : (s.feedForward x).fabLog = s.fabLog := by simp [State.feedForward]
@[simp] theorem State.shaper_fabLog (s : State) (x : Fin 8) : (s.shaper x).fabLog = s.fabLog := by simp [State.shaper]
@[simp] theorem State.writeVdq_fabLog (s : State) (x : Fin 8) (v : Word) : (s.writeVdq x v).fabLog = s.fabLog := rfl

@[simp] theorem State.shSplit_fabLog (s : State) (x : Fin 8) : (s.shSplit x).fabLog = s.fabLog := by
  unfold State.shSplit
  dsimp only
  rw [State.setBit_fabLog, State.setReg_fabLog]
  exact foldl_fabLog (fun s q => State.setReg_fabLog ..) _ _

@[simp] theorem State.shStatus_fabLog (s : State) (x : Fin 8) : (s.shStatus x).fabLog = s.fabLog := rfl
@[simp] theorem State.share_fabLog (s : State) (x : Fin 8) : (s.share x).fabLog = s.fabLog := by simp [State.share]
@[simp] theorem State.writeShCmd_fabLog (s : State) (x : Fin 8) (v : Word) : (s.writeShCmd x v).fabLog = s.fabLog := rfl
@[simp] theorem State.setOpp_fabLog (s : State) (x : Fin 8) (v : Nat) : (s.setOpp x v).fabLog = s.fabLog := rfl
@[simp] theorem State.modOpp_fabLog (s : State) (x : Fin 8) (f : Opp → Opp) : (s.modOpp x f).fabLog = s.fabLog := rfl
@[simp] theorem State.oppEmit_fabLog (s : State) (x : Fin 8) (back : Bool) (e : OppEdge) : (s.oppEmit x back e).fabLog = s.fabLog := rfl

@[simp] theorem State.oppRun_fabLog (s : State) (x : Fin 8) (back : Bool) (n left : Nat) :
    (s.oppRun x back n left).fabLog = s.fabLog := by
  induction n generalizing s left with
  | zero => rfl
  | succ n ih =>
    unfold State.oppRun
    split
    · rfl
    · split
      · simp
      · rw [ih]; simp
    · rw [ih]; simp
    · simp

@[simp] theorem State.player_fabLog (s : State) (x : Fin 8) : (s.player x).fabLog = s.fabLog := by simp [State.player]
@[simp] theorem State.oppFault_fabLog (s : State) (x : Fin 8) (F : Fld) : (s.oppFault x F).fabLog = s.fabLog := by simp [State.oppFault]

@[simp] theorem State.oppRefused_fabLog (s : State) (x : Fin 8) (status : Nat) : (s.oppRefused x status).fabLog = s.fabLog := by
  simp [State.oppRefused]

@[simp] theorem State.oppDrop_fabLog (s : State) (x : Fin 8) : (s.oppDrop x).fabLog = s.fabLog := rfl

@[simp] theorem State.oppArm_fabLog (s : State) (x : Fin 8) (start : Bool) (a p : Nat) : (s.oppArm x start a p).fabLog = s.fabLog := by
  unfold State.oppArm
  split <;> simp

@[simp] theorem State.writeOppCtrl_fabLog (s : State) (x : Fin 8) (v : Word) : (s.writeOppCtrl x v).fabLog = s.fabLog := by
  unfold State.writeOppCtrl
  split <;> simp

@[simp] theorem State.axisUpdate_fabLog (s : State) (x : Fin 8) : (s.axisUpdate x).fabLog = s.fabLog := by simp [State.axisUpdate]
@[simp] theorem State.modSsx_fabLog (s : State) (x : Fin 8) (f : Ssx → Ssx) : (s.modSsx x f).fabLog = s.fabLog := rfl

@[simp] theorem State.ssxEntry_fabLog (s : State) (x : Fin 8) : (s.ssxEntry x).fabLog = s.fabLog := by
  unfold State.ssxEntry
  dsimp only
  split
  · next h => exact State.pushFifo_fabLog h
  · simp

@[simp] theorem State.ssxMaskTo_fabLog (s : State) (x : Fin 8) (m : Nat) : (s.ssxMaskTo x m).fabLog = s.fabLog := by simp [State.ssxMaskTo]
@[simp] theorem State.ssxGo_fabLog (s : State) (x : Fin 8) (ph m : Nat) : (s.ssxGo x ph m).fabLog = s.fabLog := by simp [State.ssxGo]
@[simp] theorem State.ssxCatch_fabLog (s : State) (x : Fin 8) : (s.ssxCatch x).fabLog = s.fabLog := by simp [State.ssxCatch]
@[simp] theorem State.ssxRamp_fabLog (s : State) (x : Fin 8) : (s.ssxRamp x).fabLog = s.fabLog := by simp [State.ssxRamp]

@[simp] theorem State.ssxLose_fabLog (s : State) (x : Fin 8) (cause : Nat) : (s.ssxLose x cause).fabLog = s.fabLog := by
  simp [State.ssxLose]

@[simp] theorem State.ssxCommute_fabLog (s : State) (x : Fin 8) : (s.ssxCommute x).fabLog = s.fabLog := by simp [State.ssxCommute]

@[simp] theorem State.ssxEnterRun_fabLog (s : State) (x : Fin 8) (m t60 zc com : Nat) :
    (s.ssxEnterRun x m t60 zc com).fabLog = s.fabLog := by
  simp [State.ssxEnterRun]

@[simp] theorem State.ssxCaught_fabLog (s : State) (x : Fin 8) (k t : Nat) : (s.ssxCaught x k t).fabLog = s.fabLog := by
  simp only [State.ssxCaught]
  repeat' split
  all_goals simp

@[simp] theorem State.ssxCross_fabLog (s : State) (x : Fin 8) (t : Nat) : (s.ssxCross x t).fabLog = s.fabLog := by
  unfold State.ssxCross
  extract_lets u t60 ratio lo hi raw new out watch zcAngle off ratioN obsN los s1
  have h1 : s1.fabLog = s.fabLog := by rw [State.modSsx_fabLog, State.setReg_fabLog]
  split
  · rw [State.ssxLose_fabLog, h1]
  · split
    · rw [State.ssxLose_fabLog, h1]
    · rw [State.modSsx_fabLog, h1]

@[simp] theorem State.ssxStop_fabLog (s : State) (x : Fin 8) : (s.ssxStop x).fabLog = s.fabLog := by simp [State.ssxStop]

@[simp] theorem State.writeSsxCtrl_fabLog (s : State) (x : Fin 8) (v : Word) : (s.writeSsxCtrl x v).fabLog = s.fabLog := by
  simp [State.writeSsxCtrl]

@[simp] theorem State.angFall_fabLog (s : State) (x : Fin 8) : (s.angFall x).fabLog = s.fabLog := by simp [State.angFall]
@[simp] theorem State.axisAbort_fabLog (s : State) (x : Fin 8) : (s.axisAbort x).fabLog = s.fabLog := by simp [State.axisAbort]
@[simp] theorem State.axisResume_fabLog (s : State) (x : Fin 8) : (s.axisResume x).fabLog = s.fabLog := by simp [State.axisResume]

/-! ### Sensing -/

@[simp] theorem State.modAdc_fabLog (s : State) (j : Fin 16) (f : Adc → Adc) : (s.modAdc j f).fabLog = s.fabLog := rfl

@[simp] theorem State.adcDrop_fabLog (s : State) (j : Fin 16) (notReady : Bool) : (s.adcDrop j notReady).fabLog = s.fabLog := by
  simp [State.adcDrop]

@[simp] theorem State.adcTrigger_fabLog (s : State) (j : Fin 16) (at_ cls delay mask : Nat) :
    (s.adcTrigger j at_ cls delay mask).1.fabLog = s.fabLog := by
  simp only [State.adcTrigger]
  repeat' split
  all_goals simp

@[simp] theorem State.adcGallery_fabLog (s : State) (j : Fin 16) (mask : Nat) : (s.adcGallery j mask).1.fabLog = s.fabLog := by
  simp [State.adcGallery]

@[simp] theorem State.adcPeriod_fabLog (s : State) (g : Fin 32) (mid : Bool) (t : Nat) : (s.adcPeriod g mid t).fabLog = s.fabLog := by
  simp [State.adcPeriod]

@[simp] theorem State.adcStop_fabLog (s : State) (j : Fin 16) : (s.adcStop j).fabLog = s.fabLog := rfl

@[simp] theorem State.adcNotify_fabLog (s : State) (j : Fin 16) (w : Slot) : (s.adcNotify j w).fabLog = s.fabLog := by
  unfold State.adcNotify
  split <;> simp

@[simp] theorem State.adcLand_fabLog (s : State) (j : Fin 16) (w : Slot) (raw : Nat) (above below : Bool) :
    (s.adcLand j w raw above below).fabLog = s.fabLog := by
  simp [State.adcLand]

@[simp] theorem State.adcPark_fabLog (s : State) (j : Fin 16) : (s.adcPark j).fabLog = s.fabLog := rfl
@[simp] theorem State.modDsm_fabLog (s : State) (i : Fin 32) (f : Dsm → Dsm) : (s.modDsm i f).fabLog = s.fabLog := rfl

@[simp] theorem State.dsmOut_fabLog (s : State) (i : Fin 32) (sum : Int) : (s.dsmOut i sum).fabLog = s.fabLog := by
  unfold State.dsmOut
  dsimp only
  split
  · split
    · next h => exact (State.pushFifo_fabLog h).trans (by simp)
    · simp
  · simp

@[simp] theorem State.dsmBit_fabLog (s : State) (i : Fin 32) (b : Bool) : (s.dsmBit i b).fabLog = s.fabLog := by
  simp only [State.dsmBit]
  repeat' split
  all_goals simp

@[simp] theorem State.dsmBits_fabLog (s : State) (i : Fin 32) (l : List Bool) : (s.dsmBits i l).fabLog = s.fabLog := by simp [State.dsmBits]

@[simp] theorem State.writeDsmCtrl_fabLog (s : State) (i : Fin 32) (v : Word) : (s.writeDsmCtrl i v).fabLog = s.fabLog := by
  simp [State.writeDsmCtrl]

@[simp] theorem State.dsmPstart_fabLog (s : State) (g : Fin 32) : (s.dsmPstart g).fabLog = s.fabLog := by simp [State.dsmPstart]
@[simp] theorem State.senseResume_fabLog (s : State) : s.senseResume.fabLog = s.fabLog := rfl
@[simp] theorem State.pstart_fabLog (s : State) (g : Fin 32) (t : Nat) : (s.pstart g t).fabLog = s.fabLog := by simp [State.pstart]

/-! ### Position -/

@[simp] theorem State.posHealth_fabLog (s : State) (k : Fin 16) : (s.posHealth k).fabLog = s.fabLog := rfl

@[simp] theorem State.posFault_fabLog (s : State) (k : Fin 16) (cause : Nat) (loss : Bool) :
    (s.posFault k cause loss).fabLog = s.fabLog := by
  simp [State.posFault]

@[simp] theorem State.posClear_fabLog (s : State) (k : Fin 16) (cause : Nat) : (s.posClear k cause).fabLog = s.fabLog := rfl

@[simp] theorem State.cmpOut_fabLog (s : State) (k : Fin 16) (one tog : Bool) : (s.cmpOut k one tog).fabLog = s.fabLog := by
  simp [State.cmpOut]

@[simp] theorem State.cmpEffect_fabLog (s : State) (k : Fin 16) (i : Nat) : (s.cmpEffect k i).fabLog = s.fabLog := by
  unfold State.cmpEffect
  dsimp only
  split
  · split
    · next h => exact (State.pushFifo_fabLog h).trans (by simp)
    · simp
  · simp

@[simp] theorem State.cmpNext_fabLog (s : State) (k : Fin 16) : (s.cmpNext k).fabLog = s.fabLog := by simp [State.cmpNext]

@[simp] theorem State.cmpRun_fabLog (s : State) (k : Fin 16) (c0 c1 n : Nat) : (s.cmpRun k c0 c1 n).fabLog = s.fabLog := by
  induction n generalizing s with
  | zero => rfl
  | succ n ih =>
    unfold State.cmpRun
    extract_lets i pos back reached s1 s2
    split
    · rfl
    · split
      · rfl
      · rw [ih]; simp [s2, s1]

@[simp] theorem State.cmpFire_fabLog (s : State) (k : Fin 16) (c0 : Nat) : (s.cmpFire k c0).fabLog = s.fabLog := by simp [State.cmpFire]
@[simp] theorem State.divStep_fabLog (s : State) (k : Fin 16) (d : Int) : (s.divStep k d).fabLog = s.fabLog := by simp [State.divStep]
@[simp] theorem State.cntBy_fabLog (s : State) (k : Fin 16) (d : Int) : (s.cntBy k d).fabLog = s.fabLog := by simp [State.cntBy]
@[simp] theorem State.posStep_fabLog (s : State) (k : Fin 16) (d0 : Int) : (s.posStep k d0).fabLog = s.fabLog := by simp [State.posStep]
@[simp] theorem State.freshen_fabLog (s : State) (k : Fin 16) (v t : Nat) : (s.freshen k v t).fabLog = s.fabLog := rfl

@[simp] theorem State.sinCosStep_fabLog (s : State) (k : Fin 16) (a t : Nat) : (s.sinCosStep k a t).fabLog = s.fabLog := by
  unfold State.sinCosStep
  split <;> simp

@[simp] theorem State.sinCos_fabLog (s : State) (k : Fin 16) (sn cs : Int) (t : Nat) : (s.sinCos k sn cs t).fabLog = s.fabLog := by
  simp [State.sinCos]

@[simp] theorem State.excCheck_fabLog (s : State) (k : Fin 16) : (s.excCheck k).fabLog = s.fabLog := by simp [State.excCheck]

@[simp] theorem State.hallSector_fabLog (s : State) (k : Fin 16) (c : Nat) : (s.hallSector k c).fabLog = s.fabLog := by
  unfold State.hallSector
  split <;> simp

@[simp] theorem State.posArm_fabLog (s : State) (k : Fin 16) : (s.posArm k).fabLog = s.fabLog := by simp [State.posArm]
@[simp] theorem State.posSet_fabLog (s : State) (k : Fin 16) : (s.posSet k).fabLog = s.fabLog := by simp [State.posSet]

@[simp] theorem State.writePosCmd_fabLog (s : State) (k : Fin 16) (v : Word) : (s.writePosCmd k v).fabLog = s.fabLog := by
  simp [State.writePosCmd]

@[simp] theorem State.posAbort_fabLog (s : State) (k : Fin 16) : (s.posAbort k).fabLog = s.fabLog := rfl
@[simp] theorem State.posResume_fabLog (s : State) (k : Fin 16) : (s.posResume k).fabLog = s.fabLog := by simp [State.posResume]

/-! ### SafetySet -/

@[simp] theorem State.tryInit_fabLog (s : State) : s.tryInit.fabLog = s.fabLog := by simp [State.tryInit]
@[simp] theorem State.pairsRestart_fabLog (s : State) : s.pairsRestart.fabLog = s.fabLog := by simp [State.pairsRestart]

@[simp] theorem State.takeSet_fabLog (s : State) : s.takeSet.fabLog = s.fabLog := by
  unfold State.takeSet
  extract_lets s0 s1 s2 s3
  have h1 : s1.fabLog = s.fabLog := foldl_fabLog (fun s k => State.orderBr_fabLog ..) _ _
  have h3 : s3.fabLog = s2.fabLog := foldl_fabLog (fun s k => State.setBit_fabLog ..) _ _
  rw [State.tryInit_fabLog, State.allDemands_fabLog, State.setFld_fabLog, h3, State.pairsRestart_fabLog, h1]

@[simp] theorem State.ccvFault_fabLog (s : State) : s.ccvFault.fabLog = s.fabLog := by simp [State.ccvFault]

/-! ### SafeInputs -/

@[simp] theorem State.modPair_fabLog (s : State) (k : Nat) (f : Pair → Pair) : (s.modPair k f).fabLog = s.fabLog := rfl
@[simp] theorem State.pairEnter_fabLog (s : State) (k v : Nat) : (s.pairEnter k v).fabLog = s.fabLog := by simp [State.pairEnter]
@[simp] theorem State.pairFault_fabLog (s : State) (k detail : Nat) : (s.pairFault k detail).fabLog = s.fabLog := by simp [State.pairFault]
@[simp] theorem State.twoHand_fabLog (s : State) (k : Nat) : (s.twoHand k).fabLog = s.fabLog := by simp [State.twoHand]

@[simp] theorem State.pairEval_fabLog (s : State) (k : Nat) : (s.pairEval k).fabLog = s.fabLog := by
  unfold State.pairEval
  split
  · rfl
  · extract_lets p a b s1 late s2
    have h1 : s1.fabLog = s.fabLog := State.modPair_fabLog ..
    have h2 : s2.fabLog = s.fabLog := by
      unfold s2
      split_ifs
      · rw [State.pairFault_fabLog, h1]
      · rw [State.pairFault_fabLog, h1]
      · rw [State.pairEnter_fabLog, h1]
      · rw [State.pairEnter_fabLog, h1]
      · split
        · split
          · rw [State.pairEnter_fabLog, h1]
          · exact h1
        · exact h1
      · exact h1
    rw [State.twoHand_fabLog, h2]

@[simp] theorem State.pairsEval_fabLog (s : State) : s.pairsEval.fabLog = s.fabLog := by simp [State.pairsEval]

/-! ### ColumnHalt -/

@[simp] theorem State.columnDown_fabLog (s : State) (i : Fin 6) : (s.columnDown i).fabLog = s.fabLog := by simp [State.columnDown]

@[simp] theorem State.columnHalt_fabLog (s : State) (i : Fin 6) (cause : Nat) : (s.columnHalt i cause).fabLog = s.fabLog := by
  simp [State.columnHalt]

@[simp] theorem State.columnStop_fabLog (s : State) (i : Fin 6) : (s.columnStop i).fabLog = s.fabLog := by simp [State.columnStop]

/-! ### Cells -/

@[simp] theorem State.groupsPattern_fabLog (s : State) (c : Fin 128) (hold : Bool) : (s.groupsPattern c hold).fabLog = s.fabLog := by
  simp [State.groupsPattern]

@[simp] theorem State.holdCycle_fabLog (s : State) (c : Fin 128) : (s.holdCycle c).fabLog = s.fabLog := rfl

@[simp] theorem State.copyImage_fabLog (s : State) (b : Nat) (im : Nat × Nat) (dst : Nat) : (s.copyImage b im dst).fabLog = s.fabLog := by
  simp [State.copyImage]

@[simp] theorem State.loadCell_fabLog (s : State) (c p : Fin 128) : (s.loadCell c p).2.fabLog = s.fabLog := by
  simp only [State.loadCell]
  repeat' split
  all_goals simp

@[simp] theorem State.setFlow_fabLog (s : State) (c : Fin 128) (r i : Nat) (v : Half) : (s.setFlow c r i v).fabLog = s.fabLog := rfl
@[simp] theorem State.setGen_fabLog (s : State) (c : Fin 128) (g : Nat) : (s.setGen c g).fabLog = s.fabLog := rfl

@[simp] theorem State.stopNow_fabLog (s : State) (c : Fin 128) : (s.stopNow c).fabLog = s.fabLog := by
  unfold State.stopNow
  repeat' split
  all_goals simp

@[simp] theorem State.stopCell_fabLog (s : State) (c : Fin 128) : (s.stopCell c).fabLog = s.fabLog := by
  unfold State.stopCell
  split <;> simp

@[simp] theorem State.recordFault_fabLog (s : State) (c : Fin 128) (cause : Nat) : (s.recordFault c cause).fabLog = s.fabLog := by
  simp [State.recordFault]

@[simp] theorem State.startFails_logFits (s : State) (c p : Fin 128) (q : Option (Fin 128)) (a : Nat) :
    LogFits (s.startFails c p q a).fabLog ↔ LogFits s.fabLog := by
  unfold State.startFails
  split <;> simp

@[simp] theorem State.startRuns_fabLog (s : State) (c p : Fin 128) (entry : Nat) (stop : Bool) :
    (s.startRuns c p entry stop).fabLog = s.fabLog := by
  simp only [State.startRuns]
  repeat' split
  all_goals simp

@[simp] theorem State.startRest_logFits (s : State) (ag : Agent) (c p : Fin 128) (load : Bool) (entry : Nat) (stop : Bool) :
    LogFits (s.startRest ag c p load entry stop).fabLog ↔ LogFits s.fabLog := by
  simp only [State.startRest]
  repeat' split
  all_goals simp

@[simp] theorem State.startCell_logFits (s : State) (ag : Agent) (c : Fin 128) (load : Bool) (entry : Nat) :
    LogFits (s.startCell ag c load entry).fabLog ↔ LogFits s.fabLog := by
  simp only [State.startCell]
  repeat' split
  all_goals simp

@[simp] theorem State.writeCellCtrl_logFits (s : State) (ag : Agent) (c : Fin 128) (v : Word) :
    LogFits (s.writeCellCtrl ag c v).fabLog ↔ LogFits s.fabLog := by
  unfold State.writeCellCtrl
  split <;> simp

@[simp] theorem State.writeCellBind_logFits (s : State) (ag : Agent) (c : Fin 128) (v : Word) :
    LogFits (s.writeCellBind ag c v).fabLog ↔ LogFits s.fabLog := by
  simp [State.writeCellBind]

@[simp] theorem State.isolate_fabLog (s : State) (c p : Fin 128) : (s.isolate c p).fabLog = s.fabLog := rfl
@[simp] theorem State.takeSpare_fabLog (s : State) (p l : Fin 128) : (s.takeSpare p l).fabLog = s.fabLog := rfl

@[simp] theorem State.migEnds_fabLog (s : State) (c : Fin 128) (status cause failed : Nat) (spare gen : Option Nat) (cold : Bool)
    (since : Nat) (ns : Word) :
    (s.migEnds c status cause failed spare gen cold since ns).fabLog = s.fabLog := by
  simp [State.migEnds]

@[simp] theorem State.migFails_fabLog (s : State) (c : Fin 128) (status cause failed : Nat) (spare : Option Nat) (since : Nat) (ns : Word) :
    (s.migFails c status cause failed spare since ns).fabLog = s.fabLog := by
  simp [State.migFails]

@[simp] theorem State.rebound_fabLog (s : State) (c : Fin 128) : (s.rebound c).fabLog = s.fabLog := rfl

@[simp] theorem State.migChoose_fabLog (s : State) (c : Fin 128) (twin : Bool) (failed cause since : Nat) (ns : Word) (again stop : Bool) :
    (s.migChoose c twin failed cause since ns again stop).fabLog = s.fabLog := by
  unfold State.migChoose
  repeat' split
  all_goals simp

@[simp] theorem State.migStart_fabLog (s : State) (c : Fin 128) (cause : Nat) : (s.migStart c cause).fabLog = s.fabLog := by
  simp only [State.migStart]
  repeat' split
  all_goals simp

@[simp] theorem State.faultStop_fabLog (s : State) (c : Fin 128) : (s.faultStop c).fabLog = s.fabLog := by
  unfold State.faultStop
  repeat' split
  all_goals simp

@[simp] theorem State.cellFault_fabLog (s : State) (c : Fin 128) (cause : Nat) : (s.cellFault c cause).fabLog = s.fabLog := by
  unfold State.cellFault
  repeat' split
  all_goals simp

@[simp] theorem State.cellMask_fabLog (s : State) (c q : Fin 128) (cause : Nat) : (s.cellMask c q cause).fabLog = s.fabLog := by
  unfold State.cellMask
  split <;> simp

@[simp] theorem State.cellEcc_fabLog (s : State) (q : Fin 128) : (s.cellEcc q).fabLog = s.fabLog := by
  unfold State.cellEcc
  split <;> simp

@[simp] theorem State.restoreData_fabLog (s : State) (c p : Fin 128) (r : Nat) : (s.restoreData c p r).fabLog = s.fabLog := by
  simp [State.restoreData]

@[simp] theorem State.resumeOn_fabLog (s : State) (c p : Fin 128) (r : Option Nat) : (s.resumeOn c p r).fabLog = s.fabLog := by
  unfold State.resumeOn
  split <;> simp

@[simp] theorem State.writeRelease_fabLog (s : State) (b : Fin 16) (mask : Nat) : (s.writeRelease b mask).fabLog = s.fabLog := by
  unfold State.writeRelease
  refine foldl_fabLog (fun s p => ?_) _ _
  dsimp only
  split
  · split <;> simp
  · rfl

@[simp] theorem State.kick_fabLog (s : State) (c : Fin 128) : (s.kick c).fabLog = s.fabLog := rfl

@[simp] theorem State.abortCell_fabLog (s : State) (c : Fin 128) : (s.abortCell c).fabLog = s.fabLog := by
  simp only [State.abortCell]
  repeat' split
  all_goals simp

/-! ### Thermal -/

@[simp] theorem State.judgeSensors_fabLog (s0 s : State) (t : Nat → Int) : (s0.judgeSensors s t).fabLog = s.fabLog := by
  unfold State.judgeSensors
  refine foldl_fabLog (fun s k => ?_) _ _
  split
  · rfl
  · extract_lets off n s1
    rw [State.sameLog_iff]
    split
    · rw [State.flag_fabLog]
    · rfl

@[simp] theorem State.thermHalt_fabLog (s : State) : s.thermHalt.fabLog = s.fabLog := by simp [State.thermHalt]

@[simp] theorem State.dieDecision_fabLog (s : State) (unit : Nat) : (s.dieDecision unit).fabLog = s.fabLog := by
  unfold State.dieDecision
  rw [State.setBit_fabLog, State.groupOrder_fabLog, State.gCause_fabLog]

@[simp] theorem State.dieSs1_fabLog (s : State) (unit : Nat) : (s.dieSs1 unit).fabLog = s.fabLog := by simp [State.dieSs1]
@[simp] theorem State.dieSto_fabLog (s : State) (unit : Nat) : (s.dieSto unit).fabLog = s.fabLog := by simp [State.dieSto]

@[simp] theorem State.dieReact_fabLog (s : State) (was155 : Bool) (hot : Nat) : (s.dieReact was155 hot).fabLog = s.fabLog := by
  simp [State.dieReact]

@[simp] theorem State.dieStep_fabLog (s : State) : s.dieStep.fabLog = s.fabLog := by simp [State.dieStep]

@[simp] theorem State.writeService_logFits (s : State) (ag : Agent) (v : Word) :
    LogFits (s.writeService ag v).fabLog ↔ LogFits s.fabLog := by
  simp [State.writeService]

@[simp] theorem State.grottoTemp_fabLog (s : State) (t0 t1 : Half) : (s.grottoTemp t0 t1).fabLog = s.fabLog := by simp [State.grottoTemp]
@[simp] theorem State.modLan_fabLog (s : State) (r : Fin 4) (f : Lantern → Lantern) : (s.modLan r f).fabLog = s.fabLog := rfl

@[simp] theorem State.lanTerm_fabLog (s : State) (r : Fin 4) (l dev : Nat) (p : Int) (k : Nat) :
    (s.lanTerm r l dev p k).1.fabLog = s.fabLog := by
  simp only [State.lanTerm]
  repeat' split
  all_goals simp

@[simp] theorem State.lanDevice_fabLog (s : State) (r : Fin 4) (l dev : Nat) (p tref : Int) :
    (s.lanDevice r l dev p tref).1.fabLog = s.fabLog := by
  unfold State.lanDevice
  extract_lets step
  have hstep (acc : State × Int) (k : Nat) : (step acc k).1.fabLog = acc.1.fabLog := by simp [step]
  have hfold (ks : List Nat) (acc : State × Int) : (ks.foldl step acc).1.fabLog = acc.1.fabLog := by
    induction ks generalizing acc with
    | nil => rfl
    | cons k ks ih => rw [List.foldl_cons, ih, hstep]
  dsimp only
  split
  · rw [State.used_fabLog, hfold]
  · rw [hfold]

@[simp] theorem State.lanEvent_fabLog (s : State) (r : Fin 4) (q code t : Nat) : (s.lanEvent r q code t).fabLog = s.fabLog := by
  simp [State.lanEvent]

@[simp] theorem State.lanLeg_fabLog (s : State) (r : Fin 4) (base l : Nat) : (s.lanLeg r base l).fabLog = s.fabLog := by simp [State.lanLeg]
@[simp] theorem State.lanLimit_fabLog (s : State) (r : Fin 4) (q n : Nat) : (s.lanLimit r q n).fabLog = s.fabLog := rfl

@[simp] theorem State.lanBridge_fabLog (s : State) (r : Fin 4) (q : Nat) : (s.lanBridge r q).fabLog = s.fabLog := by
  unfold State.lanBridge
  split <;> simp

@[simp] theorem State.lanFresh_fabLog (s : State) (r : Fin 4) : (s.lanFresh r).fabLog = s.fabLog := rfl
@[simp] theorem State.lanTick_fabLog (s : State) (r : Fin 4) : (s.lanTick r).fabLog = s.fabLog := by simp [State.lanTick]
@[simp] theorem State.lanAbort_fabLog (s : State) (r : Nat) : (s.lanAbort r).fabLog = s.fabLog := rfl

/-! ### Grotto -/

@[simp] theorem State.beatFault_fabLog (s : State) (c : Nat) : (s.beatFault c).fabLog = s.fabLog := by
  unfold State.beatFault
  split <;> simp

@[simp] theorem State.heartbeat_fabLog (s : State) (c token ns : Nat) : (s.heartbeat c token ns).fabLog = s.fabLog := by
  unfold State.heartbeat
  repeat' split
  all_goals simp

@[simp] theorem State.modTap_fabLog (s : State) (k : Fin 16) (f : Tap → Tap) : (s.modTap k f).fabLog = s.fabLog := rfl
@[simp] theorem State.tmFall_fabLog (s : State) (x : Nat) : (s.tmFall x).fabLog = s.fabLog := by simp [State.tmFall]
@[simp] theorem State.tapFault_fabLog (s : State) (k : Fin 16) : (s.tapFault k).fabLog = s.fabLog := by simp [State.tapFault]

@[simp] theorem State.tapAxis_fabLog (s : State) (k : Fin 16) (x : Nat) : (s.tapAxis k x).fabLog = s.fabLog := by
  simp only [State.tapAxis]
  repeat' split
  all_goals simp

@[simp] theorem State.tapMove_fabLog (s : State) (k : Fin 16) (a : Nat) (pz both : Bool) : (s.tapMove k a pz both).fabLog = s.fabLog := by
  simp [State.tapMove]

@[simp] theorem State.showEnv_fabLog (s : State) (x : Nat) : (s.showEnv x).fabLog = s.fabLog := rfl

@[simp] theorem State.torqueCheck_fabLog (s : State) (x : Nat) (ia ib : Int) : (s.torqueCheck x ia ib).fabLog = s.fabLog := by
  simp [State.torqueCheck]

@[simp] theorem State.agreement_fabLog (s : State) (x : Nat) (ar br ap bp : Int) : (s.agreement x ar br ap bp).fabLog = s.fabLog := by
  simp [State.agreement]

@[simp] theorem State.ov2Confirm_fabLog (s : State) (x : Nat) (vdc : Int) : (s.ov2Confirm x vdc).fabLog = s.fabLog := by
  unfold State.ov2Confirm
  extract_lets s1
  have hs1 : s1.fabLog = s.fabLog := by simp [s1]
  split
  · rfl
  · split
    · rw [State.used_fabLog, hs1]
    · rw [State.gLog_fabLog, State.used_fabLog, hs1]

@[simp] theorem State.ss1Frame_fabLog (s : State) (x : Nat) : (s.ss1Frame x).fabLog = s.fabLog := by
  unfold State.ss1Frame
  split <;> simp

@[simp] theorem State.sdiMove_fabLog (s : State) (x : Nat) : (s.sdiMove x).fabLog = s.fabLog := by simp [State.sdiMove]
@[simp] theorem State.monitorFrame_fabLog (s : State) (x : Nat) : (s.monitorFrame x).fabLog = s.fabLog := by simp [State.monitorFrame]
@[simp] theorem State.ascFrame_fabLog (s : State) (x : Nat) : (s.ascFrame x).fabLog = s.fabLog := by simp [State.ascFrame]
@[simp] theorem State.askDischarge_fabLog (s : State) (r : Fin 4) : (s.askDischarge r).fabLog = s.fabLog := by simp [State.askDischarge]

/-! ### XLinks -/

@[simp] theorem State.modXl_fabLog (s : State) (k : Fin 4) (f : XLink → XLink) : (s.modXl k f).fabLog = s.fabLog := rfl
@[simp] theorem State.xlEnv_fabLog (s : State) (k : Fin 4) (f : List Byte) : (s.xlEnv k f).fabLog = s.fabLog := by simp [State.xlEnv]
@[simp] theorem State.xlPeer_fabLog (s : State) (k : Fin 4) (f : List Byte) : (s.xlPeer k f).fabLog = s.fabLog := by simp [State.xlPeer]

/-! ### Echo -/

@[simp] theorem State.modEp_fabLog (s : State) (k : Nat) (f : EPort → EPort) : (s.modEp k f).fabLog = s.fabLog := rfl

@[simp] theorem State.setSeg_fabLog (s : State) (m i : Nat) (broken : Bool) : (s.setSeg m i broken).fabLog = s.fabLog := by
  simp [State.setSeg]

@[simp] theorem State.modSend_fabLog (s : State) (b eseq : Nat) (f : ESend → ESend) : (s.modSend b eseq f).fabLog = s.fabLog := rfl

@[simp] theorem State.echoOutcome_fabLog (s : State) (b eseq status mask : Nat) :
    (s.echoOutcome b eseq status mask).fabLog = s.fabLog := by
  unfold State.echoOutcome
  dsimp only
  split
  · rfl
  · split
    · rfl
    · split
      · next h => exact State.ringPush_fabLog h
      · simp

@[simp] theorem State.echoRetire_fabLog (s : State) (b fuel : Nat) : (s.echoRetire b fuel).fabLog = s.fabLog := by
  induction fuel generalizing s with
  | zero => rfl
  | succ fuel ih =>
    unfold State.echoRetire
    split
    · split
      · rw [ih]; simp
      · rfl
    · rfl

@[simp] theorem State.echoReport_fabLog (s : State) (b eseq : Nat) (event : Option (Nat × Nat)) (status mask : Nat) :
    (s.echoReport b eseq event status mask).fabLog = s.fabLog := by
  unfold State.echoReport
  repeat' split
  all_goals simp

@[simp] theorem State.echoFinish_fabLog (s : State) (x : ESend) : (s.echoFinish x).fabLog = s.fabLog := by simp [State.echoFinish]

@[simp] theorem State.echoDecide_fabLog (s : State) (b eseq u status : Nat) : (s.echoDecide b eseq u status).fabLog = s.fabLog := by
  unfold State.echoDecide
  split <;> simp

@[simp] theorem State.echoAwait_fabLog (s : State) (b eseq u k : Nat) : (s.echoAwait b eseq u k).fabLog = s.fabLog := rfl

theorem State.place_queued_fabLog {s t : State} {k k' : Nat} {f : EFrame} (h : s.place k f = .queued t k') : t.fabLog = s.fabLog := by
  unfold State.place at h
  dsimp only at h
  split at h
  · split at h <;> cases h; simp
  · split at h
    · split at h <;> cases h; simp
    · cases h

theorem State.place_full_fabLog {s t : State} {k : Nat} {f : EFrame} (h : s.place k f = .full t) : t.fabLog = s.fabLog := by
  unfold State.place at h
  dsimp only at h
  split at h
  · split at h <;> cases h; simp
  · split at h
    · split at h <;> cases h; simp
    · cases h

@[simp] theorem State.sendAck_fabLog (s : State) (m : Nat) (f : EFrame) (status : Nat) :
    (s.sendAck m f status).fabLog = s.fabLog := by
  unfold State.sendAck
  dsimp only
  split
  · rfl
  · split
    · next h => exact State.place_queued_fabLog h
    · next h => exact State.place_full_fabLog h
    · simp

@[simp] theorem State.noRoute_fabLog (s : State) (k : Nat) (f : EFrame) : (s.noRoute k f).fabLog = s.fabLog := by simp [State.noRoute]

@[simp] theorem State.onward_fabLog (s : State) (k : Nat) (f : EFrame) : (s.onward k f).fabLog = s.fabLog := by
  unfold State.onward
  split
  · next h => exact State.place_queued_fabLog h
  · next h => exact State.place_full_fabLog h
  · simp

@[simp] theorem State.forward_fabLog (s : State) (k : Nat) (f : EFrame) : (s.forward k f).fabLog = s.fabLog := by
  simp only [State.forward]
  repeat' split
  all_goals simp

@[simp] theorem State.sendOwn_fabLog (s : State) (m : Nat) (f : EFrame) (b eseq u : Nat) :
    (s.sendOwn m f b eseq u).fabLog = s.fabLog := by
  unfold State.sendOwn
  split
  · simp
  · split
    · next h => exact State.place_queued_fabLog h
    · next h => simpa using State.place_full_fabLog h
    · simp

@[simp] theorem State.echoEndNow_fabLog (s : State) (b n idx : Nat) (event : Option (Nat × Nat)) (status : Nat) :
    (s.echoEndNow b n idx event status).fabLog = s.fabLog := by
  simp [State.echoEndNow]

@[simp] theorem State.echoEntry_logFits (s : State) (b : Nat) (event : Option (Nat × Nat)) :
    LogFits (s.echoEntry b event).fabLog ↔ LogFits s.fabLog := by
  simp [State.echoEntry]

@[simp] theorem State.echoDrain_logFits (s : State) (b fuel : Nat) : LogFits (s.echoDrain b fuel).fabLog ↔ LogFits s.fabLog := by
  induction fuel generalizing s with
  | zero => rfl
  | succ fuel ih =>
    unfold State.echoDrain
    dsimp only
    split
    · rfl
    · split
      · simp
      · rw [ih]; simp

@[simp] theorem State.echoAuto_logFits (s : State) (n : Nat) : LogFits (s.echoAuto n).fabLog ↔ LogFits s.fabLog := by
  unfold State.echoAuto
  split <;> simp

@[simp] theorem State.writeRingIdxTx_logFits (s : State) (n : Nat) (v : Word) :
    LogFits (s.writeRingIdxTx n v).fabLog ↔ LogFits s.fabLog := by
  simp [State.writeRingIdxTx]

theorem State.echoSend_logFits {s t : State} {n : Nat} {event : Nat × Nat} {st : Option Nat} (h : s.echoSend n event = some (t, st)) :
    LogFits t.fabLog ↔ LogFits s.fabLog := by
  unfold State.echoSend at h
  split at h
  · cases h; rfl
  · split at h <;> cases h
    simp

@[simp] theorem State.rxFrame_fabLog (s : State) (k : Nat) (l : List Byte) (bad : Bool) : (s.rxFrame k l bad).1.fabLog = s.fabLog := by
  simp only [State.rxFrame]
  repeat' split
  all_goals simp

@[simp] theorem State.consume_fabLog (s : State) (m : Nat) (f : EFrame) (ns : Word) (eccBad : Bool) :
    (s.consume m f ns eccBad).1.fabLog = s.fabLog := by
  unfold State.consume
  extract_lets n body
  split_ifs
  · rfl
  · rfl
  · rfl
  · rfl
  · split
    · next h => exact State.ringPush_fabLog h
    · rfl

@[simp] theorem State.takeAck_fabLog (s : State) (f : EFrame) : (s.takeAck f).fabLog = s.fabLog := by
  unfold State.takeAck
  repeat' split
  all_goals simp

@[simp] theorem State.putLine_fabLog (s : State) (k : Nat) (f : ELine) : (s.putLine k f).fabLog = s.fabLog := rfl

@[simp] theorem State.frameLeft_fabLog (s : State) (k : Nat) (f : EFrame) : (s.frameLeft k f).fabLog = s.fabLog := by
  unfold State.frameLeft
  split <;> simp

@[simp] theorem State.turnBack_fabLog (s : State) (k : Nat) : (s.turnBack k).fabLog = s.fabLog := by
  unfold State.turnBack
  refine (foldl_fabLog (fun s f => ?_) _ _).trans (State.modEp_fabLog ..)
  rw [State.sameLog_iff]
  split
  · next h => exact State.place_queued_fabLog h
  · next h =>
    split
    · simpa using State.place_full_fabLog h
    · exact State.place_full_fabLog h
  · split <;> simp

@[simp] theorem State.portDown_fabLog (s : State) (k : Nat) : (s.portDown k).fabLog = s.fabLog := by simp [State.portDown]

@[simp] theorem State.writeEchoCfg_fabLog (s : State) (k : Nat) (v : Word) : (s.writeEchoCfg k v).fabLog = s.fabLog := by
  simp [State.writeEchoCfg]

@[simp] theorem State.ringNews_fabLog (s : State) (k : Nat) (l : List Byte) (seg : Nat) (broken : Bool) :
    (s.ringNews k l seg broken).fabLog = s.fabLog := by
  simp [State.ringNews]

@[simp] theorem State.ttResult_fabLog (s : State) (k : Nat) (t1 t2 t3 t4 : Int) : (s.ttResult k t1 t2 t3 t4).fabLog = s.fabLog := by
  simp [State.ttResult]

@[simp] theorem State.echoAbort_fabLog (s : State) (k : Nat) (mine : Nat → Bool) : (s.echoAbort k mine).fabLog = s.fabLog := by
  simp [State.echoAbort]

@[simp] theorem State.echoPark_fabLog (s : State) : s.echoPark.fabLog = s.fabLog := by simp [State.echoPark]
@[simp] theorem State.echoUnpark_fabLog (s : State) : s.echoUnpark.fabLog = s.fabLog := rfl

/-! ### Ethernet -/

@[simp] theorem State.modMac_fabLog (s : State) (k : Fin 4) (f : EMac → EMac) : (s.modMac k f).fabLog = s.fabLog := rfl

/-- An entry that may not find room leaves the log in either case. -/
@[simp] theorem State.ringPush_getD_fabLog (s : State) (n : Nat) (body : List Word) (status kind info : Nat) :
    ((s.ringPush n body status kind info).getD s).fabLog = s.fabLog := by
  cases h : s.ringPush n body status kind info with
  | none => rfl
  | some t => exact State.ringPush_fabLog h

@[simp] theorem State.putPieces_fabLog (s : State) (n : Nat) (head : List Word) (l : List (List Byte)) :
    (s.putPieces n head l).fabLog = s.fabLog := by
  induction l generalizing s head with
  | nil => rfl
  | cons p rest ih => rw [State.putPieces, ih, State.ringPush_getD_fabLog]

@[simp] theorem State.ethStore_fabLog (s : State) (k : Fin 4) (l : List Byte) (t : Nat) : (s.ethStore k l t).fabLog = s.fabLog := by
  simp [State.ethStore]

@[simp] theorem State.ethOutcome_fabLog (s : State) (k : Fin 4) (q idx status t : Nat) :
    (s.ethOutcome k q idx status t).fabLog = s.fabLog := by
  unfold State.ethOutcome
  extract_lets c
  split
  · exact State.ringPush_getD_fabLog ..
  · rfl

@[simp] theorem State.ethPass_fabLog (s : State) (n count : Nat) : (s.ethPass n count).fabLog = s.fabLog := by simp [State.ethPass]

@[simp] theorem State.ethSend_fabLog (s : State) (k : Fin 4) (q lead : Nat) : (s.ethSend k q lead).fabLog = s.fabLog := by
  unfold State.ethSend
  split <;> simp

@[simp] theorem State.writeMdio_fabLog (s : State) (v : Word) : (s.writeMdio v).fabLog = s.fabLog := by simp [State.writeMdio]

@[simp] theorem State.writeEthCfg_fabLog (s : State) (k : Nat) (v : Word) : (s.writeEthCfg k v).fabLog = s.fabLog := by
  simp [State.writeEthCfg]

@[simp] theorem State.ethPark_fabLog (s : State) : s.ethPark.fabLog = s.fabLog := by simp [State.ethPark]

/-! ### Can -/

@[simp] theorem State.modCan_fabLog (s : State) (k : Fin 8) (f : CanCtl → CanCtl) : (s.modCan k f).fabLog = s.fabLog := rfl
@[simp] theorem State.canLost_fabLog (s : State) (k : Fin 8) : (s.canLost k).fabLog = s.fabLog := rfl

@[simp] theorem State.canReceive_fabLog (s : State) (k : Fin 8) (f : CanFrame) (sof : Word) :
    (s.canReceive k f sof).fabLog = s.fabLog := by
  unfold State.canReceive
  split
  · simp
  · extract_lets n len data w0 w1
    split
    · simp
    · split
      · next h => simpa using State.ringPush_fabLog h
      · simp

@[simp] theorem State.txbEnd_fabLog (s : State) (k : Fin 8) (b status : Nat) : (s.txbEnd k b status).fabLog = s.fabLog := rfl

@[simp] theorem State.canEndAll_fabLog (s : State) (k : Fin 8) (status : Nat) : (s.canEndAll k status).fabLog = s.fabLog := by
  simp [State.canEndAll]

@[simp] theorem State.canConfine_fabLog (s : State) (k : Fin 8) (tec : Nat) : (s.canConfine k tec).fabLog = s.fabLog := by
  simp [State.canConfine]

@[simp] theorem State.canGood_fabLog (s : State) (k : Fin 8) : (s.canGood k).fabLog = s.fabLog := by simp [State.canGood]

@[simp] theorem State.writeTxbCtl_logFits (s : State) (ag : Agent) (k : Fin 8) (b : Nat) (v : Word) :
    LogFits (s.writeTxbCtl ag k b v).fabLog ↔ LogFits s.fabLog := by
  simp only [State.writeTxbCtl]
  repeat' split
  all_goals simp

@[simp] theorem State.writeCanCtrl_fabLog (s : State) (k : Fin 8) (v : Word) : (s.writeCanCtrl k v).fabLog = s.fabLog := by
  simp [State.writeCanCtrl]

@[simp] theorem State.canClear_fabLog (s : State) (k : Fin 8) : (s.canClear k).fabLog = s.fabLog := rfl
@[simp] theorem State.canPark_fabLog (s : State) : s.canPark.fabLog = s.fabLog := by simp [State.canPark]
@[simp] theorem State.canUnpark_fabLog (s : State) : s.canUnpark.fabLog = s.fabLog := by simp [State.canUnpark]

/-! ### Serial -/

@[simp] theorem State.modSpi_fabLog (s : State) (k : Fin 4) (f : SpiCtl → SpiCtl) : (s.modSpi k f).fabLog = s.fabLog := rfl
@[simp] theorem State.spiCs_fabLog (s : State) (k : Fin 4) : (s.spiCs k).fabLog = s.fabLog := by simp [State.spiCs]

@[simp] theorem State.writeSpiTxd_fabLog (s : State) (k : Fin 4) (v : Word) : (s.writeSpiTxd k v).fabLog = s.fabLog := by
  simp [State.writeSpiTxd]

@[simp] theorem State.readSpiRxd_fabLog (s : State) (k : Fin 4) : (s.readSpiRxd k).1.fabLog = s.fabLog := by
  unfold State.readSpiRxd
  split <;> simp

@[simp] theorem State.spiTerr_fabLog (s : State) : s.spiTerr.fabLog = s.fabLog := rfl

@[simp] theorem State.spiWriteWords_fabLog (s : State) (off : Nat) (l : List Word) : (s.spiWriteWords off l).fabLog = s.fabLog := by
  induction l generalizing s off with
  | nil => rfl
  | cons w l ih =>
    rw [State.spiWriteWords, ih]
    split <;> simp

@[simp] theorem State.spiReadWords_logFits (s : State) (off n : Nat) : LogFits (s.spiReadWords off n).1.fabLog ↔ LogFits s.fabLog := by
  induction n generalizing s off with
  | zero => rfl
  | succ n ih =>
    unfold State.spiReadWords
    dsimp only
    rw [ih]
    split
    · split <;> simp
    · simp

@[simp] theorem State.writeXspiCmd_fabLog (s : State) (v : Word) : (s.writeXspiCmd v).fabLog = s.fabLog := by simp [State.writeXspiCmd]
@[simp] theorem State.xspiEnd_fabLog (s : State) (status : Nat) : (s.xspiEnd status).fabLog = s.fabLog := rfl
@[simp] theorem State.readXspiData_fabLog (s : State) : s.readXspiData.1.fabLog = s.fabLog := rfl
@[simp] theorem State.modUart_fabLog (s : State) (k : Fin 2) (f : UartCtl → UartCtl) : (s.modUart k f).fabLog = s.fabLog := rfl

@[simp] theorem State.writeUartTxd_fabLog (s : State) (k : Fin 2) (v : Word) : (s.writeUartTxd k v).fabLog = s.fabLog := by
  simp [State.writeUartTxd]

@[simp] theorem State.readUartRxd_fabLog (s : State) (k : Fin 2) : (s.readUartRxd k).1.fabLog = s.fabLog := by
  unfold State.readUartRxd
  split <;> simp

@[simp] theorem State.modI2c_fabLog (s : State) (k : Fin 2) (f : I2cCtl → I2cCtl) : (s.modI2c k f).fabLog = s.fabLog := rfl

@[simp] theorem State.writeI2cCmd_logFits (s : State) (ag : Agent) (k : Fin 2) (v : Word) :
    LogFits (s.writeI2cCmd ag k v).fabLog ↔ LogFits s.fabLog := by
  simp [State.writeI2cCmd]

@[simp] theorem State.i2cEnd_fabLog (s : State) (k : Fin 2) (F : Fld) (held : Bool) : (s.i2cEnd k F held).fabLog = s.fabLog := rfl

@[simp] theorem State.gpioWrite_logFits {s : State} {act : State → Word → Word → State} (hact : ∀ a b, s.SameFit (act s a b)) (ag : Agent)
    (f : RegFam) (two : Bool) (v : Word) : LogFits (s.gpioWrite ag f two v act).fabLog ↔ LogFits s.fabLog := by
  simp only [State.sameFit_iff] at hact
  simp [State.gpioWrite, hact]

@[simp] theorem State.cancelPulse_fabLog (s : State) (mask : Word) : (s.cancelPulse mask).fabLog = s.fabLog := rfl
@[simp] theorem State.setPins_fabLog (s : State) (mask v : Word) : (s.setPins mask v).fabLog = s.fabLog := rfl

@[simp] theorem State.pinAction_fabLog (s : State) (n op width : Nat) : (s.pinAction n op width).fabLog = s.fabLog := by
  unfold State.pinAction
  split <;> simp

@[simp] theorem State.gpioUnpark_fabLog (s : State) (levels : BitVec 16) : (s.gpioUnpark levels).fabLog = s.fabLog := rfl
@[simp] theorem State.spiAbort_fabLog (s : State) (k : Fin 4) : (s.spiAbort k).fabLog = s.fabLog := rfl
@[simp] theorem State.xspiAbort_fabLog (s : State) : s.xspiAbort.fabLog = s.fabLog := by simp [State.xspiAbort]
@[simp] theorem State.uartAbort_fabLog (s : State) (k : Fin 2) : (s.uartAbort k).fabLog = s.fabLog := rfl
@[simp] theorem State.i2cAbort_fabLog (s : State) (k : Fin 2) : (s.i2cAbort k).fabLog = s.fabLog := rfl
@[simp] theorem State.serialPark_fabLog (s : State) : s.serialPark.fabLog = s.fabLog := by simp [State.serialPark]

/-! ### Avs -/

@[simp] theorem State.modAvs_fabLog (s : State) (k : Fin 2) (f : AvsCtl → AvsCtl) : (s.modAvs k f).fabLog = s.fabLog := rfl

@[simp] theorem State.coreWindow_fabLog (s : State) (k : Fin 2) (mv : Option Nat) : (s.coreWindow k mv).fabLog = s.fabLog := by
  simp [State.coreWindow]

@[simp] theorem State.avsEnd_fabLog (s : State) (k : Fin 2) (status data : Nat) : (s.avsEnd k status data).fabLog = s.fabLog := by
  unfold State.avsEnd
  split <;> simp

@[simp] theorem State.avsStart_fabLog (s : State) (k : Fin 2) (op mv : Nat) (seq : Bool) : (s.avsStart k op mv seq).fabLog = s.fabLog := by
  simp [State.avsStart]

@[simp] theorem State.writeAvsReq_logFits (s : State) (ag : Agent) (k : Fin 2) (v : Word) :
    LogFits (s.writeAvsReq ag k v).fabLog ↔ LogFits s.fabLog := by
  simp [State.writeAvsReq]

@[simp] theorem State.avsStage_fabLog (s : State) (k : Fin 2) (f : AvsReq → AvsReq) : (s.avsStage k f).fabLog = s.fabLog := rfl

@[simp] theorem State.avsAbort_fabLog (s : State) (k : Fin 2) : (s.avsAbort k).fabLog = s.fabLog := by
  unfold State.avsAbort
  split <;> simp

/-! ### Mailbox -/

@[simp] theorem State.modMail_fabLog (s : State) (k : Fin 5) (f : Mail → Mail) : (s.modMail k f).fabLog = s.fabLog := rfl
@[simp] theorem State.ring_fabLog (s : State) (k : Fin 5) : (s.ring k).fabLog = s.fabLog := by simp [State.ring]
@[simp] theorem State.answer_fabLog (s : State) (k : Fin 5) (st : Nat) (body : List Word) : (s.answer k st body).fabLog = s.fabLog := rfl
@[simp] theorem State.setLock_fabLog (s : State) (v : Nat) : (s.setLock v).fabLog = s.fabLog := rfl

/-! ### Debug -/

@[simp] theorem State.writeDbgCtrl_logFits (s : State) (ag : Agent) (v : Word) :
    LogFits (s.writeDbgCtrl ag v).fabLog ↔ LogFits s.fabLog := by
  simp [State.writeDbgCtrl]

/-! ### SornasRun -/

@[simp] theorem State.modCores_fabLog (s : State) (p : Proc) (f : Core → Core) : (s.modCores p f).fabLog = s.fabLog := by
  unfold State.modCores
  split <;> simp

@[simp] theorem State.setWait_fabLog (s : State) (p : Proc) (w : WaitState) : (s.setWait p w).fabLog = s.fabLog := by
  unfold State.setWait
  split <;> simp

@[simp] theorem State.twinCheck_fabLog (s s0 : State) (p : Proc) (f : Core → List Nat) : (s.twinCheck s0 p f).fabLog = s.fabLog := by
  unfold State.twinCheck
  repeat' split
  all_goals simp

@[simp] theorem State.pmc_fabLog (s : State) (p : Proc) (e es : Nat) : (s.pmc p e es).fabLog = s.fabLog := by
  unfold State.pmc
  split <;> simp

@[simp] theorem State.enterTrap_fabLog (s : State) (c : Fin 128) (w : Word) (t : Trap) : (s.enterTrap c w t).fabLog = s.fabLog := by
  simp [State.enterTrap]

@[simp] theorem State.trap_fabLog (s : State) (p : Proc) (w : Word) (t : Trap) : (s.trap p w t).fabLog = s.fabLog := by
  unfold State.trap
  repeat' split
  all_goals simp

@[simp] theorem State.runInstr_fabLog (s : State) (p : Proc) (w : Word) (gd : BitVec 3) (legal : Bool) (prods : Nat)
    (body : Core → BodyRes) :
    (s.runInstr p w gd legal prods body).fabLog = s.fabLog := by
  simp only [State.runInstr]
  repeat' split
  all_goals simp

@[simp] theorem State.runSat_fabLog (s : State) (p : Proc) (w : Word) (gd : BitVec 3) (legal : Bool) (prods : Nat) (body : Core → BodyRes) :
    (s.runSat p w gd legal prods body).fabLog = s.fabLog := by
  simp [State.runSat]

/-! ### GalleryFire -/

@[simp] theorem State.modEngine_fabLog (s : State) (e : Fin 4) (f : Engine → Engine) : (s.modEngine e f).fabLog = s.fabLog := rfl

@[simp] theorem State.issue_fabLog (s : State) (e : Fin 4) (v : GEvent) (due : Int) (ph l : Nat) :
    (s.issue e v due ph l).fabLog = s.fabLog := by
  simp only [State.issue]
  repeat' split
  all_goals simp

@[simp] theorem State.issueSome_logFits (s : State) (e : Fin 4) (fuel : Nat) : LogFits (s.issueSome e fuel).fabLog ↔ LogFits s.fabLog := by
  induction fuel generalizing s with
  | zero => rfl
  | succ fuel ih =>
    unfold State.issueSome
    split
    · rfl
    · split
      · next h => rw [ih]; exact State.slotFault_logFits h
      · extract_lets s1
        split
        · simp [s1]
        · extract_lets l
          split
          · rw [ih]; simp [s1]
          · simp [s1]

@[simp] theorem State.latchDue_fabLog (s : State) : s.latchDue.fabLog = s.fabLog := rfl

/-- What an action that was taken leaves has a log that fits where that of `s` does. -/
def Taken.SameFit (s : State) : Taken → Prop
  | .done t _ | .open_ t => s.SameFit t
  | .unable => True

theorem State.applyTaken_logFits {s : State} {x : Taken} (hx : x.SameFit s) (v : GEvent) (quiet : Bool) :
    LogFits (s.applyTaken v quiet x).fabLog ↔ LogFits s.fabLog := by
  unfold State.applyTaken
  split
  · rw [State.endEvent_fabLog]; exact hx
  · exact hx
  · split <;> simp

theorem State.fire_logFits {s : State} {f : State → GEvent → Issue → Taken} (hf : ∀ v i, (f s v i).SameFit s) (e : Fin 4) (act : Nat)
    (quiet : Bool) : LogFits (s.fire e act quiet f).fabLog ↔ LogFits s.fabLog := by
  unfold State.fire
  split
  · rfl
  · exact State.applyTaken_logFits (hf _ _) _ _

@[simp] theorem State.decisionIn_fabLog (s : State) (c : Fin 128) (status : Nat) (tag : BitVec 8) (slot : Nat) :
    (s.decisionIn c status tag slot).fabLog = s.fabLog := by
  simp [State.decisionIn]

@[simp] theorem State.postRefusal_fabLog (s : State) (c : Fin 128) (status word : Nat) :
    (s.postRefusal c status word).fabLog = s.fabLog := by
  simp [State.postRefusal]

/-! ### Fabric -/

@[simp] theorem State.setOwner_fabLog (s : State) (kind i c : Nat) : (s.setOwner kind i c).fabLog = s.fabLog := by simp [State.setOwner]

@[simp] theorem State.writeAsn_logFits (s : State) (ag : Agent) (v : Word) : LogFits (s.writeAsn ag v).fabLog ↔ LogFits s.fabLog := by
  simp [State.writeAsn]

@[simp] theorem State.writeQuery_logFits (s : State) (ag : Agent) (v : Word) : LogFits (s.writeQuery ag v).fabLog ↔ LogFits s.fabLog := by
  simp [State.writeQuery]

@[simp] theorem State.writeChCfg_logFits (s : State) (ag : Agent) (c : Nat) (v : Word) :
    LogFits (s.writeChCfg ag c v).fabLog ↔ LogFits s.fabLog := by
  simp [State.writeChCfg]

@[simp] theorem State.abortEvents_fabLog (s : State) (hit : GEvent → Bool) : (s.abortEvents hit).fabLog = s.fabLog := by
  simp [State.abortEvents]

@[simp] theorem State.abortOneCell_fabLog (s : State) (c : Fin 128) : (s.abortOneCell c).fabLog = s.fabLog := by simp [State.abortOneCell]
@[simp] theorem State.abortBlock_fabLog (s : State) (b : Nat) : (s.abortBlock b).fabLog = s.fabLog := by simp [State.abortBlock]

@[simp] theorem State.abortLink_fabLog (s : State) (t : Nat) (mine : Nat → Bool) : (s.abortLink t mine).fabLog = s.fabLog := by
  simp [State.abortLink]

@[simp] theorem State.abortPeriph_fabLog (s : State) (r : Nat) (mine : Nat → Nat → Bool) : (s.abortPeriph r mine).fabLog = s.fabLog := by
  simp [State.abortPeriph]

@[simp] theorem State.abortGroups_fabLog (s : State) (mine : Nat → Bool) : (s.abortGroups mine).fabLog = s.fabLog := by
  simp [State.abortGroups]

@[simp] theorem State.abortPins_fabLog (s : State) (c : Nat) : (s.abortPins c).fabLog = s.fabLog := rfl
@[simp] theorem State.abortChamber_fabLog (s : State) (c : Nat) : (s.abortChamber c).fabLog = s.fabLog := by simp [State.abortChamber]

@[simp] theorem State.abortEffect_fabLog (s : State) (kind t : Nat) : (s.abortEffect kind t).fabLog = s.fabLog := by
  unfold State.abortEffect
  split <;> simp

@[simp] theorem State.writeAbort_logFits (s : State) (ag : Agent) (v : Word) : LogFits (s.writeAbort ag v).fabLog ↔ LogFits s.fabLog := by
  simp [State.writeAbort]

@[simp] theorem State.forceCell_fabLog (s : State) (c : Fin 128) : (s.forceCell c).fabLog = s.fabLog := by
  unfold State.forceCell
  split <;> simp

@[simp] theorem State.forceLink_fabLog (s : State) (t : Nat) : (s.forceLink t).fabLog = s.fabLog := by simp [State.forceLink]

@[simp] theorem State.forcePeriph_fabLog (s : State) (r : Nat) (mine : Nat → Nat → Bool) : (s.forcePeriph r mine).fabLog = s.fabLog := by
  simp [State.forcePeriph]

@[simp] theorem State.forceUnit_fabLog (s : State) (kind t i : Nat) : (s.forceUnit kind t i).fabLog = s.fabLog := by
  unfold State.forceUnit
  split <;> simp

@[simp] theorem State.columnReset_fabLog (s : State) (c : Fin 4) : (s.columnReset c).fabLog = s.fabLog := rfl

@[simp] theorem State.writeColctl_fabLog (s : State) (ag : Agent) (c : Fin 5) (v : Word) : (s.writeColctl ag c v).fabLog = s.fabLog := by
  unfold State.writeColctl
  repeat' split
  all_goals simp

@[simp] theorem State.writeColkick_logFits (s : State) (ag : Agent) (c : Fin 5) (v : Word) :
    LogFits (s.writeColkick ag c v).fabLog ↔ LogFits s.fabLog := by
  simp [State.writeColkick]

/-! ### Reset -/

theorem State.resetBase_fabLog (s : State) (scope : Nat) : (s.resetBase scope).fabLog = [] := rfl

theorem State.resetTo_fabLog (s : State) (scope : Nat) : (s.resetTo scope).fabLog = [] := by
  unfold State.resetTo
  extract_lets copy s2 s3
  have h2 : s2.fabLog = [] := by simp [s2, copy, State.resetBase_fabLog]
  have h3 : s3.fabLog = [] := by
    unfold s3
    split
    · simpa [copy] using h2
    · exact h2
  split
  · exact h3
  · rw [State.pairsRestart_fabLog, h3]

@[simp] theorem State.rstCause_fabLog (s : State) (l : List Fld) : (s.rstCause l).fabLog = s.fabLog := by simp [State.rstCause]
@[simp] theorem State.setStart_fabLog (s : State) (x : StartUp) : (s.setStart x).fabLog = s.fabLog := rfl
@[simp] theorem State.grottoTold_fabLog (s : State) : s.grottoTold.fabLog = s.fabLog := by simp [State.grottoTold]

@[simp] theorem State.beginReset_keeps {s : State} (h : LogFits s.fabLog) (scope : Nat) (causes : List Fld) :
    LogFits (s.beginReset scope causes).fabLog := by
  unfold State.beginReset
  split
  · simpa using h
  · simp [State.resetTo_fabLog, LogFits]

@[simp] theorem State.writeRstctl_keeps {s : State} (h : LogFits s.fabLog) (ag : Agent) (v : Word) : LogFits
    (s.writeRstctl ag v).fabLog := by
  unfold State.writeRstctl
  extract_lets more
  split_ifs <;> simp [h]

@[simp] theorem State.asWrite_keeps {s : State} {ag : Agent} {f : RegFam} {i : Nat} {act : State → State} (h : LogFits s.fabLog)
    (hact : LogFits (act s).fabLog) : LogFits (s.asWrite ag f i act).fabLog := by
  by_cases hst : s.accessStatus ag true (f.addr i) = stOK
  · rw [asWrite_ok hst]; exact hact
  · rw [asWrite_refused hst]; simpa using h

@[simp] theorem State.askReset_keeps {s : State} (h : LogFits s.fabLog) (ag : Agent) (v : Word) : LogFits (s.askReset ag v).fabLog := by
  unfold State.askReset
  split_ifs <;> simp [h]

@[simp] theorem State.rebase_fabLog (s : State) : s.rebase.fabLog = s.fabLog := rfl
@[simp] theorem State.imgWipe_fabLog (s : State) (l : List Byte) : (s.imgWipe l).fabLog = s.fabLog := rfl

@[simp] theorem State.imgXspi_fabLog (s : State) (mode : Nat) (l : Option (List Byte)) : (s.imgXspi mode l).fabLog = s.fabLog := by
  unfold State.imgXspi
  split <;> simp

@[simp] theorem State.colhStart_fabLog (s : State) (entry : Option Nat) : (s.colhStart entry).fabLog = s.fabLog := rfl
@[simp] theorem State.imgRun_fabLog (s : State) (l : List Byte) (alt : Bool) : (s.imgRun l alt).fabLog = s.fabLog := by simp [State.imgRun]

/-! ### Tracker -/

@[simp] theorem State.modTrk_fabLog (s : State) (x : Fin 8) (f : Tracker → Tracker) : (s.modTrk x f).fabLog = s.fabLog := rfl

@[simp] theorem State.modSrc_fabLog (s : State) (x : Fin 8) (i : Fin 2) (f : SrcState → SrcState) : (s.modSrc x i f).fabLog = s.fabLog :=
  rfl

@[simp] theorem State.trkEntry_fabLog (s : State) (x : Fin 8) (old : Word) : (s.trkEntry x old).fabLog = s.fabLog := by
  simp [State.trkEntry]

@[simp] theorem State.judgeFeed_fabLog (s : State) (x : Fin 8) (i : Fin 2) (age : Nat) : (s.judgeFeed x i age).fabLog = s.fabLog := by
  unfold State.judgeFeed
  split <;> simp

@[simp] theorem State.judgeErr_fabLog (s : State) (x : Fin 8) (i : Fin 2) (overs : Bool) : (s.judgeErr x i overs).fabLog = s.fabLog := by
  simp [State.judgeErr]

@[simp] theorem State.judgeSrc_fabLog (s : State) (x : Fin 8) (i : Fin 2) : (s.judgeSrc x i).1.fabLog = s.fabLog := by
  unfold State.judgeSrc
  repeat' split
  all_goals simp

@[simp] theorem State.substitute_fabLog (s : State) (x : Fin 8) : (s.substitute x).fabLog = s.fabLog := by simp [State.substitute]
@[simp] theorem State.angOut_fabLog (s : State) (x : Fin 8) : (s.angOut x).fabLog = s.fabLog := rfl
@[simp] theorem State.trkOut_fabLog (s : State) (x : Fin 8) : (s.trkOut x).fabLog = s.fabLog := by simp [State.trkOut]
@[simp] theorem State.invalidate_fabLog (s : State) (x : Fin 8) : (s.invalidate x).fabLog = s.fabLog := by simp [State.invalidate]
@[simp] theorem State.trkFault_fabLog (s : State) (x : Fin 8) : (s.trkFault x).fabLog = s.fabLog := by simp [State.trkFault]
@[simp] theorem State.coast_fabLog (s : State) (x : Fin 8) : (s.coast x).fabLog = s.fabLog := by simp [State.coast]

@[simp] theorem State.correct_fabLog (s : State) (x : Fin 8) (e : Int) (good : Bool) : (s.correct x e good).fabLog = s.fabLog := by
  simp [State.correct]

@[simp] theorem State.trkUpdate_fabLog (s : State) (x : Fin 8) : (s.trkUpdate x).fabLog = s.fabLog := by simp [State.trkUpdate]

@[simp] theorem State.setSched_fabLog (s : State) (c : Fin 128) (bank : Nat) : (s.setSched c bank).fabLog = s.fabLog := by
  unfold State.setSched
  repeat' split
  all_goals simp

@[simp] theorem State.gainStep_fabLog (s : State) (c : Fin 128) : (s.gainStep c).fabLog = s.fabLog := by simp [State.gainStep]

@[simp] theorem State.writeAngCfg_fabLog (s : State) (x : Fin 8) (v : Word) : (s.writeAngCfg x v).fabLog = s.fabLog := by
  simp [State.writeAngCfg]

@[simp] theorem State.angSet_fabLog (s : State) (x : Fin 8) (rev : Nat) : (s.angSet x rev).fabLog = s.fabLog := by simp [State.angSet]
@[simp] theorem State.angPri_fabLog (s : State) (x : Fin 8) : (s.angPri x).fabLog = s.fabLog := by simp [State.angPri]

@[simp] theorem State.writeAngCmd_fabLog (s : State) (x : Fin 8) (v : Word) : (s.writeAngCmd x v).fabLog = s.fabLog := by
  simp [State.writeAngCmd]

@[simp] theorem State.writeAngObs_fabLog (s : State) (x : Fin 8) (v : Word) : (s.writeAngObs x v).fabLog = s.fabLog := rfl
@[simp] theorem State.trkResume_fabLog (s : State) (x : Fin 8) : (s.trkResume x).fabLog = s.fabLog := by simp [State.trkResume]

/-! ### Power -/

@[simp] theorem State.setPhase_fabLog (s : State) (p : PwrPhase) : (s.setPhase p).fabLog = s.fabLog := rfl
@[simp] theorem State.colhResume_fabLog (s : State) : s.colhResume.fabLog = s.fabLog := by simp [State.colhResume]

@[simp] theorem State.endRequest_fabLog (s : State) (status abpt reason : Nat) : (s.endRequest status abpt reason).fabLog = s.fabLog := by
  simp [State.endRequest]

@[simp] theorem State.entryAbandon_fabLog (s : State) (k reason : Nat) : (s.entryAbandon k reason).fabLog = s.fabLog := by
  simp [State.entryAbandon]

@[simp] theorem State.abortPoint_fabLog {s : State} {act : State → State} (hact : s.SameLog (act s)) (target k : Nat) (quiet : Bool) :
    (s.abortPoint target k quiet act).fabLog = s.fabLog := by
  unfold State.abortPoint
  split
  · simp
  · exact hact

@[simp] theorem State.writePwrCtrl_logFits (s : State) (ag : Agent) (v : Word) :
    LogFits (s.writePwrCtrl ag v).fabLog ↔ LogFits s.fabLog := by
  simp [State.writePwrCtrl]

@[simp] theorem State.commitPark_fabLog (s : State) : s.commitPark.fabLog = s.fabLog := by simp [State.commitPark]
@[simp] theorem State.resume_fabLog (s : State) (levels : BitVec 16) : (s.resume levels).fabLog = s.fabLog := by simp [State.resume]

@[simp] theorem State.wakeFails_keeps {s : State} (h : LogFits s.fabLog) (t c : Nat) : LogFits (s.wakeFails t c).fabLog := by
  unfold State.wakeFails
  extract_lets tries w s1
  have h1 : LogFits s1.fabLog := by simpa [s1] using h
  split
  · simp [h1]
  · exact h1

/-! ### Regs -/

theorem State.popErr_logFits {s : State} (h : LogFits s.fabLog) : LogFits s.popErr.fabLog := by
  unfold State.popErr
  split
  · exact h
  · next heq => rw [heq] at h; exact Nat.le_of_succ_le h

@[simp] theorem State.clearRc_fabLog (s : State) (ag : Agent) (f : RegFam) (i : Nat) : (s.clearRc ag f i).fabLog = s.fabLog := by
  simp [State.clearRc]

@[simp] theorem State.regRead_fabLog (s : State) (ag : Agent) (f : RegFam) (i : Nat) : (s.regRead ag f i).1.fabLog = s.fabLog := by
  unfold State.regRead
  repeat' split
  all_goals simp

/-! ### SornasCtl -/

@[simp] theorem xform_fabLog (s : State) (p : Proc) (gd : BitVec 3) (rd ra rb : BitVec 5) (fn : Nat) (legal : Bool) (prods : Nat)
    (f : Core → Int × Int → Int × Nat → Int × Int) :
    (xform s p gd rd ra rb fn legal prods f).fabLog = s.fabLog := by
  simp [xform]

@[simp] theorem svm_fabLog (s : State) (p : Proc) (gd : BitVec 3) (rd ra rb : BitVec 5) (fn : Nat) (z : Int → Int → Int) :
    (svm s p gd rd ra rb fn z).fabLog = s.fabLog := by
  simp [svm]

@[simp] theorem State.setGain_fabLog (s : State) (b : Fin 16) (bank i : Nat) (v : Half) : (s.setGain b bank i v).fabLog = s.fabLog := rfl

@[simp] theorem pictl_fabLog (s : State) (p : Proc) (gd : BitVec 3) (rd ra rb fn : BitVec 5) (pid : Bool) :
    (pictl s p gd rd ra rb fn pid).fabLog = s.fabLog := by
  simp [pictl]

/-! ### Bus -/

@[simp] theorem State.ramRead_logFits (s : State) (ag : Agent) (n kind a key : Nat) :
    LogFits (s.ramRead ag n kind a key).1.fabLog ↔ LogFits s.fabLog := by
  simp only [State.ramRead]
  repeat' split
  all_goals simp

@[simp] theorem State.ramWrite_logFits (s : State) (ag : Agent) (n kind a key : Nat) (v : Word) :
    LogFits (s.ramWrite ag n kind a key v).1.fabLog ↔ LogFits s.fabLog := by
  simp only [State.ramWrite]
  repeat' split
  all_goals simp

/-- The first hook of all is that of FAB_ERR_POP. -/
theorem regHooks_fabErrPop : regHooks.find? (fun e => e.1.base == FAB_ERR_POP.base) =
    some (FAB_ERR_POP, fun s _ _ v => if FAB_ERR_POP_POP.get v = 1 then s.popErr else s) := by
  rfl

theorem State.regWrite_fabErrPop_keeps {s : State} {f : RegFam} (hf : f.base = FAB_ERR_POP.base) (h : LogFits s.fabLog) (ag : Agent)
    (i : Nat) (v : Word) : LogFits (s.regWrite ag f i v).fabLog := by
  unfold State.regWrite
  rw [hf, regHooks_fabErrPop]
  split
  · simpa using h
  · dsimp only
    split
    · exact State.popErr_logFits h
    · exact h

@[simp] theorem State.regWriteSt_keeps {s : State} (h : LogFits s.fabLog) (ag : Agent) (f : RegFam) (i : Nat) (v : Word) :
    LogFits (s.regWriteSt ag f i v).1.fabLog := by
  unfold State.regWriteSt
  split
  · next hf => exact State.regWrite_fabErrPop_keeps hf h ag i v
  · extract_lets s1 others fab s2
    split
    · exact h
    · exact (foldl_logFits (fun s e => s.logErr_logFits e) _ _).2 h

@[simp] theorem State.readAt_logFits (s : State) (ag : Agent) (n kind a : Nat) :
    LogFits (s.readAt ag n kind a).1.fabLog ↔ LogFits s.fabLog := by
  simp only [State.readAt]
  repeat' split
  all_goals simp

@[simp] theorem State.writeAt_keeps {s : State} (h : LogFits s.fabLog) (ag : Agent) (n kind a : Nat) (v : Word) :
    LogFits (s.writeAt ag n kind a v).1.fabLog := by
  unfold State.writeAt
  extract_lets no word st
  split
  · simpa using h
  · split <;> simp [no, h]
  · split_ifs <;> simp [no, h]
  · split <;> simp [no, h]
  · split <;> simp [no, h]
  · split <;> simp [no, h]
  · simp [no, h]
  · split <;> simp [no, h]
  · exact h

@[simp] theorem State.busRead_logFits (s : State) (ag : Agent) (n kind a : Nat) :
    LogFits (s.busRead ag n kind a).1.fabLog ↔ LogFits s.fabLog := by
  simp only [State.busRead]
  repeat' split
  all_goals simp

@[simp] theorem State.busWrite_keeps {s : State} (h : LogFits s.fabLog) (ag : Agent) (n kind a : Nat) (v : Word) :
    LogFits (s.busWrite ag n kind a v).1.fabLog := by
  unfold State.busWrite
  extract_lets st
  split <;> simp [h]

@[simp] theorem State.postBack_fabLog (s : State) (ag : Agent) (status addr : Nat) : (s.postBack ag status addr).fabLog = s.fabLog := by
  unfold State.postBack
  split <;> simp

@[simp] theorem State.logTimeout_logFits (s : State) (ag : Agent) (write : Bool) (addr : Nat) :
    LogFits (s.logTimeout ag write addr).fabLog ↔ LogFits s.fabLog := by
  simp [State.logTimeout]

@[simp] theorem State.escalated_fabLog (s : State) (level unit : Nat) : (s.escalated level unit).fabLog = s.fabLog := by
  simp [State.escalated]

@[simp] theorem State.scrubFinds_fabLog (s : State) (key : Nat) (found : Ecc) : (s.scrubFinds key found).fabLog = s.fabLog := by
  unfold State.scrubFinds
  repeat' split
  all_goals simp

@[simp] theorem State.scrub_logFits (s : State) (ag : Option Agent) (key a : Nat) (found : Ecc) :
    LogFits (s.scrub ag key a found).fabLog ↔ LogFits s.fabLog := by
  unfold State.scrub
  split <;> simp

/-! ### SornasFlow -/

@[simp] theorem State.countBranch_fabLog (s t : State) (p : Proc) (gd : BitVec 3) : (s.countBranch t p gd).fabLog = t.fabLog := by
  unfold State.countBranch
  split
  · exact State.pmc_fabLog ..
  · rfl

/-! ### SornasMem -/

@[simp] theorem State.retire_fabLog (s : State) (p : Proc) : (s.retire p).fabLog = s.fabLog := by simp [State.retire]

/-- What an effect leaves has a log that fits. -/
def MemRes.Fits : MemRes → Prop
  | .done s | .stay s | .trap s _ => LogFits s.fabLog

@[simp] theorem MemRes.fits_done (s : State) : (MemRes.done s).Fits ↔ LogFits s.fabLog := ⟨id, id⟩
@[simp] theorem MemRes.fits_stay (s : State) : (MemRes.stay s).Fits ↔ LogFits s.fabLog := ⟨id, id⟩
@[simp] theorem MemRes.fits_trap (s : State) (t : Trap) : (MemRes.trap s t).Fits ↔ LogFits s.fabLog := ⟨id, id⟩

/-- What an access leaves has a log that fits. -/
def Load.Fits : Load → Prop
  | .val s _ | .stay s | .bad s _ => LogFits s.fabLog

@[simp] theorem Load.fits_val (s : State) (v : Nat) : (Load.val s v).Fits ↔ LogFits s.fabLog := ⟨id, id⟩
@[simp] theorem Load.fits_stay (s : State) : (Load.stay s).Fits ↔ LogFits s.fabLog := ⟨id, id⟩
@[simp] theorem Load.fits_bad (s : State) (st : Nat) : (Load.bad s st).Fits ↔ LogFits s.fabLog := ⟨id, id⟩

@[simp] theorem State.runMem_keeps {s : State} {act : State → MemRes} (h : LogFits s.fabLog) (hact : (act s).Fits) (p : Proc) (w : Word)
    (gd : BitVec 3) (legal resume : Bool) : LogFits (s.runMem p w gd legal resume act).fabLog := by
  unfold State.runMem
  split
  · exact h
  · split
    · simpa using h
    · split
      · simpa using h
      · split
        · simpa using h
        · split <;> next heq => rw [heq] at hact; simpa using hact

@[simp] theorem State.cellBad_logFits (s : State) (c : Fin 128) (kind w : Nat) :
    LogFits (s.cellBad c kind w).fabLog ↔ LogFits s.fabLog := by
  simp [State.cellBad]

@[simp] theorem State.modCopies_fabLog (s : State) (c : Fin 128) (f : Phys → Phys) : (s.modCopies c f).fabLog = s.fabLog := by
  simp [State.modCopies]

@[simp] theorem State.perform_keeps {s : State} (h : LogFits s.fabLog) (c : Fin 128) (e : WbufEntry) : LogFits (s.perform c e).fabLog := by
  unfold State.perform
  extract_lets back
  have hback (r : State × Nat) (w : Nat) (hr : LogFits r.1.fabLog) : LogFits (back r w).fabLog := by
    unfold back
    split
    · exact hr
    · simpa using hr
  split
  · split
    · exact hback _ _ (by simpa using h)
    · exact hback _ _ (by simpa using h)
  · extract_lets st
    split
    · exact hback _ _ (State.writeAt_keeps h ..)
    · exact hback _ _ (by simpa using h)
  · simpa using h

@[simp] theorem State.drain_keeps {s : State} (h : LogFits s.fabLog) (c : Fin 128) : LogFits (s.drain c).fabLog := by
  unfold State.drain
  split
  · simp [h]
  · exact h

@[simp] theorem State.drainFor_keeps {s : State} (h : LogFits s.fabLog) (c : Fin 128) (rel : WbufEntry → Bool) (fuel : Nat) :
    LogFits (s.drainFor c rel fuel).fabLog := by
  induction fuel generalizing s with
  | zero => exact h
  | succ fuel ih =>
    unfold State.drainFor
    split
    · exact ih (State.drain_keeps h c)
    · exact h

@[simp] theorem State.post_keeps {s : State} (h : LogFits s.fabLog) (c : Fin 128) (e : WbufEntry) : LogFits (s.post c e).fabLog := by
  unfold State.post
  extract_lets s1
  have h1 : LogFits s1.fabLog := by
    unfold s1
    split
    · exact h
    · exact State.drain_keeps h c
  simpa using h1

@[simp] theorem State.pageWrite_fabLog (s : State) (c : Fin 128) (o : Nat) (v : Word) : (s.pageWrite c o v).fabLog = s.fabLog := by
  simp [State.pageWrite]

@[simp] theorem State.blockLoad_logFits (s : State) (c : Fin 128) (a : Nat) : LogFits (s.blockLoad c a).1.fabLog ↔ LogFits s.fabLog := by
  unfold State.blockLoad
  repeat' split
  all_goals simp

@[simp] theorem State.ramStop_logFits (s : State) (c : Fin 128) (a : Nat) : LogFits (s.ramStop c a).fabLog ↔ LogFits s.fabLog := by
  simp [State.ramStop]

@[simp] theorem State.setStage_fabLog (s : State) (c : Fin 128) (x : Option (Nat × Half)) : (s.setStage c x).fabLog = s.fabLog := by
  simp [State.setStage]

@[simp] theorem State.unmark_fabLog (s : State) (p : Proc) (a : Nat) : (s.unmark p a).fabLog = s.fabLog := by
  unfold State.unmark
  split <;> simp

@[simp] theorem State.modDcache_fabLog (s : State) (c : Fin 5) (f : SMap CacheLine → SMap CacheLine) :
    (s.modDcache c f).fabLog = s.fabLog := rfl

/-- A fold over steps that keep a log within its bound. -/
theorem foldl_keeps {α : Type} {f : State → α → State} (hf : ∀ (s : State) x, LogFits s.fabLog → LogFits (f s x).fabLog) (l : List α)
    {s : State} (h : LogFits s.fabLog) : LogFits (l.foldl f s).fabLog := by
  induction l generalizing s with
  | nil => exact h
  | cons x l ih => exact ih (hf s x h)

@[simp] theorem State.writeBack_keeps {s : State} (h : LogFits s.fabLog) (c : Fin 5) (n : Nat) (l : CacheLine) :
    LogFits (s.writeBack c n l).fabLog := by
  unfold State.writeBack
  split
  · exact h
  · refine foldl_keeps (fun s i h => ?_) _ (by simpa using h)
    extract_lets a r
    have hr : LogFits r.1.fabLog := State.busWrite_keeps h ..
    split
    · exact hr
    · simpa using hr

@[simp] theorem State.evictLine_keeps {s : State} (h : LogFits s.fabLog) (c : Fin 5) (n : Nat) : LogFits (s.evictLine c n).fabLog := by
  unfold State.evictLine
  split <;> simp [h]

@[simp] theorem State.cacheRoom_keeps {s : State} (h : LogFits s.fabLog) (c : Fin 5) : LogFits (s.cacheRoom c).fabLog := by
  unfold State.cacheRoom
  extract_lets m v
  split
  · exact State.evictLine_keeps (by simpa using h) ..
  · simpa using h

@[simp] theorem State.fetchLine_logFits (s : State) (c : Fin 5) (n : Nat) : LogFits (s.fetchLine c n).1.fabLog ↔ LogFits s.fabLog := by
  unfold State.fetchLine
  suffices hfold : ∀ (l : List Nat) (x : State × Nat × List Byte), LogFits (l.foldl _ x).1.fabLog ↔ LogFits x.1.fabLog from hfold _ _
  intro l x
  induction l generalizing x with
  | nil => rfl
  | cons i l ih =>
    rw [List.foldl_cons, ih]
    split <;> simp

@[simp] theorem State.touchLine_keeps {s : State} (h : LogFits s.fabLog) (c : Fin 5) (n : Nat) : LogFits (s.touchLine c n).1.fabLog := by
  unfold State.touchLine
  split
  · exact h
  · have hr : LogFits ((s.pmc (.col c) 0 4).fetchLine c n).1.fabLog := by
      rw [State.fetchLine_logFits, State.pmc_fabLog]
      exact h
    generalize (s.pmc (.col c) 0 4).fetchLine c n = r at hr
    dsimp only
    split
    · exact hr
    · rw [State.modDcache_fabLog]
      exact State.cacheRoom_keeps hr c

theorem State.latched_keeps {s : State} {rd : State → State × Nat × Word} (h : LogFits s.fabLog) (hrd : LogFits (rd s).1.fabLog)
    (c : Fin 128) (tag : Nat) (odd two : Bool) : (s.latched c tag odd two rd).Fits := by
  unfold State.latched
  extract_lets r own
  have hown : own.Fits := by
    unfold own
    split_ifs <;> simpa [r] using hrd
  split
  · split
    · exact h
    · exact hown
  · exact hown

theorem State.cellLoad_keeps {s : State} (h : LogFits s.fabLog) (c : Fin 128) (w : Nat) (two : Bool) : (s.cellLoad c w two).Fits := by
  unfold State.cellLoad
  split
  · simpa using h
  · split
    · extract_lets a
      split_ifs <;> simpa using h
    · extract_lets r q
      have hr : LogFits r.1.fabLog := by simpa [r] using h
      have hq : LogFits q.1.fabLog := by simpa [q] using hr
      split_ifs
      · exact hr
      · exact hr
      · exact hq
      · exact hq
    · extract_lets s1
      have h1 : LogFits s1.fabLog := State.drainFor_keeps h ..
      split
      · exact h1
      · refine State.latched_keeps h1 ?_ ..
        extract_lets st
        split <;> simpa using h1
    · split
      · simpa using h
      · exact State.latched_keeps h h ..
    · simpa using h

theorem State.cellStore_keeps {s : State} (h : LogFits s.fabLog) (c : Fin 128) (w : Nat) (two : Bool) (v : Nat) :
    (s.cellStore c w two v).Fits := by
  unfold State.cellStore
  extract_lets lo hi
  split
  · simpa using h
  · split
    · rw [Load.fits_val, foldl_fabLog]
      · exact h
      · intro s q
        extract_lets a s1
        rw [State.sameLog_iff]
        split <;> simp [s1]
    · extract_lets s1
      have h1 : LogFits s1.fabLog := State.post_keeps h ..
      split <;> simp [h1]
    · split_ifs <;> simp [h]
    · extract_lets tag
      split_ifs <;> simpa using h
    · simpa using h

theorem State.grottoLoad_keeps {s : State} (h : LogFits s.fabLog) (a n : Nat) : (s.grottoLoad a n).Fits := by
  unfold State.grottoLoad
  extract_lets r
  have hr : LogFits r.1.fabLog := by
    unfold r
    split_ifs <;> simpa using h
  split
  · exact hr
  · rw [Load.fits_bad]
    split
    · simpa using hr
    · exact hr

theorem State.sLoad_keeps {s : State} (h : LogFits s.fabLog) (p : Proc) (a n : Nat) : (s.sLoad p a n).Fits := by
  unfold State.sLoad
  extract_lets no
  split
  · exact h
  · split
    · simpa [no] using h
    · split
      · exact h
      · exact State.grottoLoad_keeps h ..
  · split
    · simpa [no] using h
    · split
      · exact h
      · extract_lets r
        have hr : LogFits r.1.fabLog := State.touchLine_keeps h ..
        split <;> exact hr
      · split
        · exact h
        · extract_lets r
          have hr : LogFits r.1.fabLog := by simpa [r] using h
          split <;> exact hr

theorem State.grottoStore_keeps {s : State} (h : LogFits s.fabLog) (a n : Nat) (v : Word) : (s.grottoStore a n v).Fits := by
  unfold State.grottoStore
  split
  · extract_lets r
    have hr : LogFits r.1.fabLog := by simpa [r] using h
    rw [Load.fits_val]
    split
    · exact hr
    · simpa using hr
  · split_ifs <;> simpa using h

theorem State.sStore_keeps {s : State} (h : LogFits s.fabLog) (p : Proc) (a n : Nat) (v : Word) : (s.sStore p a n v).Fits := by
  unfold State.sStore
  extract_lets no
  split
  · exact h
  · split
    · simpa [no] using h
    · split
      · exact h
      · exact State.grottoStore_keeps h ..
  · split
    · simpa [no] using h
    · split
      · exact h
      · extract_lets r
        have hr : LogFits r.1.fabLog := State.touchLine_keeps h ..
        split <;> simpa using hr
      · split
        · simpa [no] using h
        · extract_lets r s1
          have hr : LogFits s1.fabLog := by simp [s1, r, h]
          rw [Load.fits_val]
          split
          · exact hr
          · simpa using hr

theorem State.load_keeps {s : State} (h : LogFits s.fabLog) (p : Proc) (a : Nat) (wd : BitVec 2) : (s.load p a wd).Fits := by
  unfold State.load
  split
  · exact State.cellLoad_keeps h ..
  · exact State.sLoad_keeps h ..
  · exact State.sLoad_keeps h ..

theorem State.store_keeps {s : State} (h : LogFits s.fabLog) (p : Proc) (a : Nat) (wd : BitVec 2) (v : Nat) : (s.store p a wd v).Fits := by
  unfold State.store
  split
  · exact State.cellStore_keeps h ..
  · exact State.sStore_keeps h ..
  · exact State.sStore_keeps h ..

/-- The state that each outcome of an access carries fits. -/
theorem Load.Fits.val {x : Load} {s : State} {v : Nat} (hx : x.Fits) (h : x = .val s v) : LogFits s.fabLog := by
  rw [h] at hx; exact hx

theorem Load.Fits.stay {x : Load} {s : State} (hx : x.Fits) (h : x = .stay s) : LogFits s.fabLog := by
  rw [h] at hx; exact hx

theorem Load.Fits.bad {x : Load} {s : State} {st : Nat} (hx : x.Fits) (h : x = .bad s st) : LogFits s.fabLog := by
  rw [h] at hx; exact hx

@[simp] theorem State.runLoad_keeps {s : State} (h : LogFits s.fabLog) (p : Proc) (w : Word) (gd : BitVec 3) (rd ra : BitVec 5)
    (wd : BitVec 2) (zero legal : Bool) (ea : Core → Nat) (upd : Option Int) :
    LogFits (s.runLoad p w gd rd ra wd zero legal ea upd).fabLog := by
  unfold State.runLoad
  extract_lets pf
  refine State.runMem_keeps h ?_ ..
  extract_lets a
  have hload := s.load_keeps h p a wd
  split
  · next heq => simpa using hload.val heq
  · next heq => exact hload.stay heq
  · next heq => exact hload.bad heq

@[simp] theorem State.runStore_keeps {s : State} (h : LogFits s.fabLog) (p : Proc) (w : Word) (gd : BitVec 3) (rd ra : BitVec 5)
    (wd : BitVec 2) (legal : Bool) (ea : Core → Nat) (upd : Option Int) : LogFits (s.runStore p w gd rd ra wd legal ea upd).fabLog := by
  unfold State.runStore
  extract_lets pf s1
  have h1 : LogFits s1.fabLog := by
    refine State.runMem_keeps h ?_ ..
    extract_lets a
    have hstore := s.store_keeps h p a wd ((s.coreOf p).getStore pf rd wd)
    split
    · next heq =>
      rw [MemRes.fits_done]
      split
      · simpa using hstore.val heq
      · exact hstore.val heq
    · next heq => exact hstore.stay heq
    · next heq => exact hstore.bad heq
  simpa using h1

/-! ### SornasLong -/

@[simp] theorem State.setIx_fabLog (s : State) (c : Fin 128) (i : Nat) : (s.setIx c i).fabLog = s.fabLog := by simp [State.setIx]

theorem State.longLoad_keeps {s : State} (h : LogFits s.fabLog) (c : Fin 128) (w : Nat) : (s.longLoad c w).Fits := by
  unfold State.longLoad
  split
  · exact State.cellLoad_keeps h ..
  · simpa using h

theorem State.longStore_keeps {s : State} (h : LogFits s.fabLog) (c : Fin 128) (w v : Nat) : (s.longStore c w v).Fits := by
  unfold State.longStore
  split
  · exact State.cellStore_keeps h ..
  · simpa using h

theorem State.blkmac_keeps {s : State} (h : LogFits s.fabLog) (c : Fin 128) (aa : BitVec 2) (ax ay n : Nat) (ydir : Bool) (most : Nat) :
    (s.blkmac c aa ax ay n ydir most).Fits := by
  induction most generalizing s with
  | zero =>
    unfold State.blkmac
    split <;> simpa using h
  | succ most ih =>
    unfold State.blkmac
    extract_lets i wx wy
    have hx := s.longLoad_keeps h c wx
    split
    · simpa using h
    · split
      · next heq => exact hx.stay heq
      · next heq => exact hx.bad heq
      · next s1 x heq =>
        have hy := s1.longLoad_keeps (hx.val heq) c wy
        split
        · next heq => exact hy.stay heq
        · next heq => exact hy.bad heq
        · next heq => exact ih (by simpa using hy.val heq)

theorem State.movb_keeps {s : State} (h : LogFits s.fabLog) (c : Fin 128) (ad as_ n : Nat) (fill : Bool) (most : Nat) :
    (s.movb c ad as_ n fill most).Fits := by
  induction most generalizing s with
  | zero =>
    unfold State.movb
    split <;> simpa using h
  | succ most ih =>
    unfold State.movb
    extract_lets i ws wd
    have hx := s.longLoad_keeps h c ws
    split
    · simpa using h
    · split
      · next heq => exact hx.stay heq
      · next heq => exact hx.bad heq
      · next s1 v heq =>
        have hy := s1.longStore_keeps (hx.val heq) c wd v
        split
        · next heq => exact hy.stay heq
        · next heq => exact hy.bad heq
        · next heq => exact ih (by simpa using hy.val heq)

@[simp] theorem State.runMovb_keeps {s : State} (h : LogFits s.fabLog) (p : Proc) (gd : BitVec 3) (rd ra rb : BitVec 5) (fill : Bool)
    (most : BitVec 16) : LogFits (s.runMovb p gd rd ra rb fill most).fabLog := by
  unfold State.runMovb
  dsimp only
  split
  · rw [State.twinCheck_fabLog]
    exact State.runMem_keeps h (State.movb_keeps h ..) ..
  · exact State.runMem_keeps h ((MemRes.fits_done s).2 h) ..
  · exact State.runMem_keeps h ((MemRes.fits_done s).2 h) ..

@[simp] theorem State.ckptWord_fabLog (s : State) (c : Fin 128) (r i : Nat) (v : Half) : (s.ckptWord c r i v).fabLog = s.fabLog := by
  simp [State.ckptWord]

@[simp] theorem State.checkpoint_fabLog (s : State) (c : Fin 128) (k : Core) (pc as_ n : Nat) (data : List Half) :
    (s.checkpoint c k pc as_ n data).1.fabLog = s.fabLog := by
  simp only [State.checkpoint]
  repeat' split
  all_goals simp

@[simp] theorem State.runWait_keeps {s : State} (h : LogFits s.fabLog) (p : Proc) (gd : BitVec 3) (rd ra rb : BitVec 5) (fn : BitVec 7)
    (pop : Bool) : LogFits (s.runWait p gd rd ra rb fn pop).fabLog := by
  unfold State.runWait
  extract_lets w timed legal
  split
  · extract_lets s1
    refine (congrArg LogFits (State.twinCheck_fabLog ..)).mpr (State.runMem_keeps h ?_ ..)
    extract_lets ph limit
    split
    · split <;> simpa using h
    · split
      · rw [MemRes.fits_done]
        split
        · simpa using h
        · exact h
      · simpa using h
  · exact State.runMem_keeps h ((MemRes.fits_done s).2 h) ..
  · exact State.runMem_keeps h ((MemRes.fits_done s).2 h) ..

@[simp] theorem State.runFence_keeps {s : State} (h : LogFits s.fabLog) (p : Proc) (gd : BitVec 3) (rd ra rb : BitVec 5) (scope : Nat) :
    LogFits (s.runFence p gd rd ra rb scope).fabLog := by
  unfold State.runFence
  refine State.runMem_keeps h ?_ ..
  split
  · split <;> simpa using h
  · exact h
  · exact h

/-! ### Columns -/

@[simp] theorem State.runSup_keeps {s : State} {act : State → MemRes} (h : LogFits s.fabLog) (hact : (act s).Fits) (p : Proc) (w : Word)
    (gd : BitVec 3) (legal resume user : Bool) : LogFits (s.runSup p w gd legal resume user act).fabLog := by
  unfold State.runSup
  refine State.runMem_keeps h ?_ ..
  split
  · exact hact
  · exact h

@[simp] theorem State.raiseSwi_fabLog (s : State) (i : Fin 6) (v : Word) : (s.raiseSwi i v).fabLog = s.fabLog := by simp [State.raiseSwi]

@[simp] theorem State.csrWrite_fabLog (s : State) (i : Fin 6) (n : Nat) (v : Word) : (s.csrWrite i n v).fabLog = s.fabLog := by
  simp [State.csrWrite]

@[simp] theorem State.runCsr_keeps {s : State} (h : LogFits s.fabLog) (p : Proc) (op : Nat) (gd : BitVec 3) (rd ra : BitVec 5)
    (imm : BitVec 13) (legal : Bool) (upd : Option (Word → Word → Word)) : LogFits (s.runCsr p op gd rd ra imm legal upd).fabLog := by
  unfold State.runCsr
  extract_lets i n user
  refine State.runSup_keeps h ?_ ..
  extract_lets old src s1
  have h1 : LogFits s1.fabLog := by simpa [s1] using h
  split
  · exact h1
  · extract_lets v
    split
    · exact h
    · simpa using h1

@[simp] theorem State.enterSource_fabLog (s : State) (i : Fin 6) (j : Nat) : (s.enterSource i j).fabLog = s.fabLog := by
  simp [State.enterSource]

@[simp] theorem State.runCache_keeps {s : State} {act : Fin 5 → Nat → State → MemRes} (h : LogFits s.fabLog)
    (hact : ∀ c a, (act c a s).Fits) (p : Proc) (gd : BitVec 3) (rd ra rb : BitVec 5) (fn : Nat) (whole : Bool) :
    LogFits (s.runCache p gd rd ra rb fn whole act).fabLog := by
  unfold State.runCache
  refine State.runSup_keeps h ?_ ..
  split
  · exact hact ..
  · exact h
  · exact h

@[simp] theorem State.setXprog_fabLog (s : State) (p : Proc) (i : Nat) : (s.setXprog p i).fabLog = s.fabLog := by simp [State.setXprog]

theorem State.flushAll_keeps {s : State} (h : LogFits s.fabLog) (c : Fin 5) (most : Nat) : (s.flushAll c most).Fits := by
  induction most generalizing s with
  | zero =>
    unfold State.flushAll
    split <;> simpa using h
  | succ most ih =>
    unfold State.flushAll
    split
    · simpa using h
    · exact ih (by simp [h])

theorem State.longRun_keeps {s : State} {elem : Nat → State → MemRes} (h : LogFits s.fabLog)
    (helem : ∀ i (s : State), LogFits s.fabLog → (elem i s).Fits) (p : Proc) (n most : Nat) : (s.longRun p n elem most).Fits := by
  induction most generalizing s with
  | zero =>
    unfold State.longRun
    split <;> simpa using h
  | succ most ih =>
    unfold State.longRun
    have hi := helem (s.xprog p) s h
    split
    · simpa using h
    · split
      · next heq => rw [heq] at hi; exact ih (by simpa using hi)
      · exact hi

theorem State.moveWord_keeps {s : State} (h : LogFits s.fabLog) (p : Proc) (a b : Nat) : (s.moveWord p a b).Fits := by
  unfold State.moveWord
  have hx := s.sLoad_keeps h p a 4
  split
  · next heq => exact hx.stay heq
  · next heq => exact hx.bad heq
  · next s1 v heq =>
    have hy := s1.sStore_keeps (hx.val heq) p b 4 (BitVec.ofNat 32 v)
    split
    · next heq => exact hy.val heq
    · next heq => exact hy.stay heq
    · next heq => exact hy.bad heq

@[simp] theorem State.runBmov_keeps {s : State} (h : LogFits s.fabLog) (p : Proc) (gd : BitVec 3) (rd ra rb : BitVec 5) (fill : Bool)
    (most : BitVec 16) : LogFits (s.runBmov p gd rd ra rb fill most).fabLog := by
  unfold State.runBmov
  exact State.runSup_keeps h (State.longRun_keeps h (fun i s h => State.moveWord_keeps h ..) ..) ..

/-! ### Drip -/

@[simp] theorem State.dripAdvance_fabLog (s : State) (k : Fin 6) : (s.dripAdvance k).fabLog = s.fabLog := by
  simp only [State.dripAdvance]
  repeat' split
  all_goals simp

@[simp] theorem State.dripOwner_fabLog (s : State) (code : Nat) : (s.dripOwner code).fabLog = s.fabLog := by simp [State.dripOwner]

@[simp] theorem State.dripFail_logFits (s : State) (k : Fin 6) (code a : Nat) :
    LogFits (s.dripFail k code a).fabLog ↔ LogFits s.fabLog := by
  simp [State.dripFail]

@[simp] theorem State.dripRead_logFits (s : State) (code a : Nat) : LogFits (s.dripRead code a).fabLog ↔ LogFits s.fabLog := by
  simp [State.dripRead]

/-! ### SornasAlu -/

@[simp] theorem aluData_fabLog (s : State) (p : Proc) (gd : BitVec 3) (rd ra rb : BitVec 5) (fn : Nat) (used : Bool)
    (f : Nat → Core → Int → Int → Core × Int) :
    (aluData s p gd rd ra rb fn used f).fabLog = s.fabLog := by
  simp [aluData]

@[simp] theorem aluAddr_fabLog (s : State) (p : Proc) (gd : BitVec 3) (rd ra rb : BitVec 5) (fn : Nat) (used : Bool)
    (adr : Int → Int → Int) (f : Nat → Core → Int → Int → Core × Int) :
    (aluAddr s p gd rd ra rb fn used adr f).fabLog = s.fabLog := by
  simp [aluAddr]

@[simp] theorem logicImm_fabLog (s : State) (p : Proc) (gd : BitVec 3) (rd ra : BitVec 5) (imm : BitVec 13) (op : Nat)
    (g : Nat → Nat → Nat) :
    (logicImm s p gd rd ra imm op g).fabLog = s.fabLog := by
  simp [logicImm]

@[simp] theorem shiftImm_fabLog (s : State) (p : Proc) (gd : BitVec 3) (rd ra : BitVec 5) (imm : BitVec 10) (kind : Nat)
    (f : Core → Nat → Int → Nat → Core × Int) :
    (shiftImm s p gd rd ra imm kind f).fabLog = s.fabLog := by
  simp [shiftImm]

@[simp] theorem bfx_fabLog (s : State) (p : Proc) (gd : BitVec 3) (rd ra pos len1 : BitVec 5) (kind : Nat)
    (f : Nat → Nat → Nat → Nat → Nat → Int) :
    (bfx s p gd rd ra pos len1 kind f).fabLog = s.fabLog := by
  simp [bfx]

/-! ### SornasMul -/

@[simp] theorem mulOp_fabLog (s : State) (p : Proc) (gd : BitVec 3) (rd ra rb : BitVec 5) (fn : Nat)
    (f : Nat → Core → Int → Int → Core × Int) :
    (mulOp s p gd rd ra rb fn f).fabLog = s.fabLog := by
  simp [mulOp]

@[simp] theorem macOne_fabLog (s : State) (p : Proc) (gd : BitVec 3) (aa ab : BitVec 2) (ra rb : BitVec 5) (fn : Nat) (sat : Bool)
    (f : Int → Int → Int → Int) :
    (macOne s p gd aa ab ra rb fn sat f).fabLog = s.fabLog := by
  simp [macOne]

@[simp] theorem macTwo_fabLog (s : State) (p : Proc) (gd : BitVec 3) (aa ab : BitVec 2) (ra rb : BitVec 5) (fn : Nat) (sat : Bool)
    (f : Int → Int × Int → Int × Int → Int) :
    (macTwo s p gd aa ab ra rb fn sat f).fabLog = s.fabLog := by
  simp [macTwo]

@[simp] theorem accOp_fabLog (s : State) (p : Proc) (gd : BitVec 3) (aa ab : BitVec 2) (ra rb : BitVec 5) (fn : Nat) (legal : Bool)
    (f : Core → Core) :
    (accOp s p gd aa ab ra rb fn legal f).fabLog = s.fabLog := by
  simp [accOp]

@[simp] theorem divOp_fabLog (s : State) (p : Proc) (gd : BitVec 3) (rd ra rb : BitVec 5) (fn : Nat) (z0 : Nat → Int → Int)
    (f : Nat → Core → Int → Int → Core × Int) :
    (divOp s p gd rd ra rb fn z0 f).fabLog = s.fabLog := by
  simp [divOp]

/-! ### Tap -/

@[simp] theorem State.modJtag_fabLog (s : State) (f : Tap1149 → Tap1149) : (s.modJtag f).fabLog = s.fabLog := rfl

@[simp] theorem State.tapLoad_fabLog (s : State) (ir : TapIr) (d : BitVec 1254) : (s.tapLoad ir d).fabLog = s.fabLog := by
  simp [State.tapLoad]

@[simp] theorem State.tapTest_fabLog {s : State} {go : State → State} (hgo : s.SameLog (go s)) : (s.tapTest go).fabLog = s.fabLog := by
  unfold State.tapTest
  split
  · exact hgo
  · simp

@[simp] theorem State.scan_fabLog (s : State) (ir : TapIr) (balls : BitVec 418) (cells : BitVec 1254) :
    (s.scan ir balls cells).fabLog = s.fabLog := by
  simp [State.scan]

/-! ### Tick -/

@[simp] theorem State.clocks_fabLog (s : State) (d g : Nat) : (s.clocks d g).fabLog = s.fabLog := by simp [State.clocks]

@[simp] theorem State.countCycles_fabLog (s : State) (p : Proc) (n : Nat) : (s.countCycles p n).fabLog = s.fabLog := by
  unfold State.countCycles
  split
  · rfl
  · extract_lets user
    refine forN_fabLog (fun s i => ?_) _ _
    extract_lets s1
    have h1 : s1.fabLog = s.fabLog := by
      unfold s1
      split <;> simp
    rw [State.sameLog_iff]
    split
    · rw [State.pmc_fabLog, h1]
    · exact h1

@[simp] theorem State.countAll_fabLog (s : State) : s.countAll.fabLog = s.fabLog := by simp [State.countAll]
@[simp] theorem State.fabricTick_fabLog (s : State) : s.fabricTick.fabLog = s.fabLog := by simp [State.fabricTick]

/-! ### The commands -/

/-- A command's effect keeps the error log within its bound. -/
def KeepsLog (s : State) (o : Host.Outcome State Fault Refusal) : Prop :=
  ∀ t, o = .next t → LogFits s.fabLog → LogFits t.fabLog

theorem keepsLog_ok {s t : State} (h : LogFits s.fabLog → LogFits t.fabLog) : KeepsLog s (ok t) := by
  rintro _ ⟨⟩
  exact h

/-! ### Rings -/

@[simp] theorem ringEnable_keepsLog (ag : Agent) (n : Fin 16384) (v : Word) (s : State) : KeepsLog s (exec (.ringEnable ag n v) s) :=
  keepsLog_ok fun h => by simpa using h

@[simp] theorem ringDisable_keepsLog (ag : Agent) (n : Fin 16384) (v : Word) (s : State) : KeepsLog s (exec (.ringDisable ag n v) s) :=
  keepsLog_ok fun h => by simpa using h

@[simp] theorem ringConsWrite_keepsLog (ag : Agent) (n : Fin 16384) (cons : Half) (s : State) :
    KeepsLog s (exec (.ringConsWrite ag n cons) s) := keepsLog_ok fun h => by simpa using h

/-! ### Time -/

@[simp] theorem timeOfsInWrite_keepsLog (ag : Agent) (v : Word) (s : State) : KeepsLog s (exec (.timeOfsInWrite ag v) s) :=
  keepsLog_ok fun h => by simpa using h

@[simp] theorem ppsEdge_keepsLog (pin : Fin 16) (rising : Bool) (s : State) : KeepsLog s (exec (.ppsEdge pin rising) s) :=
  keepsLog_ok fun h => by simpa using h

@[simp] theorem timeIncIntWrite_keepsLog (ag : Agent) (v : Word) (s : State) : KeepsLog s (exec (.timeIncIntWrite ag v) s) :=
  keepsLog_ok fun h => by simpa using h

@[simp] theorem timeIncFracWrite_keepsLog (ag : Agent) (v : Word) (s : State) : KeepsLog s (exec (.timeIncFracWrite ag v) s) :=
  keepsLog_ok fun h => by simpa using h

@[simp] theorem timeSlewWrite_keepsLog (ag : Agent) (v : Word) (s : State) : KeepsLog s (exec (.timeSlewWrite ag v) s) :=
  keepsLog_ok fun h => by simpa using h

@[simp] theorem step_keepsLog (ag : Agent) (v : Word) (s : State) : KeepsLog s (exec (.step ag v) s) :=
  keepsLog_ok fun h => by simpa using h

@[simp] theorem srcChange_keepsLog (ag : Agent) (v : Word) (s : State) : KeepsLog s (exec (.srcChange ag v) s) :=
  keepsLog_ok fun h => by simpa using h

@[simp] theorem timeNsLoRead_keepsLog (ag : Agent) (s : State) : KeepsLog s (exec (.timeNsLoRead ag) s) :=
  keepsLog_ok fun h => by simpa using h

@[simp] theorem sourceLost_keepsLog (s : State) : KeepsLog s (exec (.sourceLost) s) := by
  refine keepsLog_ok fun h => ?_
  dsimp only
  repeat' split
  all_goals simp [h]

@[simp] theorem holdoverErrbUpdate_keepsLog (s : State) : KeepsLog s (exec (.holdoverErrbUpdate) s) := keepsLog_ok fun h => by simpa using h

/-! ### GalleryCore -/

@[simp] theorem galQuotaWrite_keepsLog (ag : Agent) (c : Fin 16) (v : Word) (s : State) : KeepsLog s (exec (.galQuotaWrite ag c v) s) :=
  keepsLog_ok fun h => by simpa using h

@[simp] theorem submission_keepsLog (ag : Agent) (v : Word) (s : State) : KeepsLog s (exec (.submission ag v) s) :=
  keepsLog_ok fun h => by split <;> simp [h]

@[simp] theorem galCancel_keepsLog (ag : Agent) (v : Word) (s : State) : KeepsLog s (exec (.galCancel ag v) s) :=
  keepsLog_ok fun h => by simpa using h

@[simp] theorem timeEventCommit_keepsLog (n : Fin 49152) (s : State) : KeepsLog s (exec (.timeEventCommit n) s) := by
  refine keepsLog_ok fun h => ?_
  split
  · exact h
  · split
    · split
      · next hf => exact (State.slotFault_logFits hf).2 h
      · simpa using h
    · exact h

/-! ### Pwm -/

@[simp] theorem groupEnable_keepsLog (ag : Agent) (g : Fin 32) (v : Word) (s : State) : KeepsLog s (exec (.groupEnable ag g v) s) :=
  keepsLog_ok fun h => by simpa using h

@[simp] theorem groupDisable_keepsLog (ag : Agent) (g : Fin 32) (v : Word) (s : State) : KeepsLog s (exec (.groupDisable ag g v) s) :=
  keepsLog_ok fun h => by simpa using h

@[simp] theorem shadowSnapshot_keepsLog (g : Fin 32) (s : State) : KeepsLog s (exec (.shadowSnapshot g) s) :=
  keepsLog_ok fun h => by simpa using h

@[simp] theorem pwmLoadallWrite_keepsLog (ag : Agent) (r : Fin 4) (v : Word) (s : State) : KeepsLog s (exec (.pwmLoadallWrite ag r v) s) :=
  keepsLog_ok fun h => by simpa using h

@[simp] theorem carrierEdge_keepsLog (k : Fin 16) (p : Fin 3) (s : State) : KeepsLog s (exec (.carrierEdge k p) s) :=
  keepsLog_ok fun h => by simpa using h

@[simp] theorem tableEdge_keepsLog (k : Fin 16) (p : Fin 3) (s : State) : KeepsLog s (exec (.tableEdge k p) s) := by
  refine keepsLog_ok fun h => ?_
  dsimp only
  split <;> simp [h]

@[simp] theorem listEdge_keepsLog (k : Fin 16) (ix : Fin 6) (s : State) : KeepsLog s (exec (.listEdge k ix) s) :=
  keepsLog_ok fun h => by split <;> simp [h]

@[simp] theorem minPulseRelease_keepsLog (k : Fin 16) (ix : Fin 6) (s : State) : KeepsLog s (exec (.minPulseRelease k ix) s) :=
  keepsLog_ok fun h => by split <;> simp [h]

@[simp] theorem deadTimeExpiry_keepsLog (k : Fin 16) (ix : Fin 6) (s : State) : KeepsLog s (exec (.deadTimeExpiry k ix) s) :=
  keepsLog_ok fun h => by split <;> simp [h]

@[simp] theorem maskIndexSet_keepsLog (ag : Agent) (k : Fin 16) (v : Word) (s : State) : KeepsLog s (exec (.maskIndexSet ag k v) s) :=
  keepsLog_ok fun h => by simpa using h

@[simp] theorem ascDeadTimeExpiry_keepsLog (k : Fin 16) (s : State) : KeepsLog s (exec (.ascDeadTimeExpiry k) s) :=
  keepsLog_ok fun h => by simpa using h

/-! ### Gdl -/

@[simp] theorem gdlEnable_keepsLog (ag : Agent) (j : Fin 48) (v : Word) (s : State) : KeepsLog s (exec (.gdlEnable ag j v) s) :=
  keepsLog_ok fun h => by simpa using h

@[simp] theorem gdlInitRetry_keepsLog (j : Fin 48) (s : State) : KeepsLog s (exec (.gdlInitRetry j) s) :=
  keepsLog_ok fun h => by simpa using h

@[simp] theorem gdlRead_keepsLog (ag : Agent) (j : Fin 48) (sel : BitVec 2) (addr : BitVec 7) (s : State) :
    KeepsLog s (exec (.gdlRead ag j sel addr) s) := keepsLog_ok fun h => by simpa using h

@[simp] theorem gdlWrite_keepsLog (ag : Agent) (j : Fin 48) (sel : BitVec 2) (addr : BitVec 7) (data : Half) (s : State) :
    KeepsLog s (exec (.gdlWrite ag j sel addr data) s) := keepsLog_ok fun h => by simpa using h

@[simp] theorem clrf_keepsLog (ag : Agent) (j : Fin 48) (sel : BitVec 2) (s : State) : KeepsLog s (exec (.clrf ag j sel) s) :=
  keepsLog_ok fun h => by simpa using h

@[simp] theorem gdlNop_keepsLog (ag : Agent) (j : Fin 48) (sel : BitVec 2) (s : State) : KeepsLog s (exec (.gdlNop ag j sel) s) :=
  keepsLog_ok fun h => by simpa using h

@[simp] theorem replyFrame_keepsLog (j : Fin 48) (w : Word) (coded : Bool) (s : State) : KeepsLog s (exec (.replyFrame j w coded) s) :=
  keepsLog_ok fun h => by split <;> simp [h]

@[simp] theorem gdlReplyTimeout_keepsLog (j : Fin 48) (s : State) : KeepsLog s (exec (.gdlReplyTimeout j) s) :=
  keepsLog_ok fun h => by split <;> simp [h]

@[simp] theorem gdlSilenceTimeout_keepsLog (j : Fin 48) (s : State) : KeepsLog s (exec (.gdlSilenceTimeout j) s) :=
  keepsLog_ok fun h => by simpa using h

@[simp] theorem stuckLine_keepsLog (j : Fin 48) (s : State) : KeepsLog s (exec (.stuckLine j) s) := keepsLog_ok fun h => by simpa using h

@[simp] theorem faultFrame_keepsLog (j : Fin 48) (code : Option (Bool × Bool)) (s : State) : KeepsLog s (exec (.faultFrame j code) s) := by
  refine keepsLog_ok fun h => ?_
  dsimp only
  repeat' split
  all_goals simp [h]

@[simp] theorem pollRound_keepsLog (j : Fin 48) (s : State) : KeepsLog s (exec (.pollRound j) s) := keepsLog_ok fun h => by simpa using h

/-! ### Protect -/

@[simp] theorem comparatorOutputChange_keepsLog (c : Fin 64) (v vref vrefl vrefh : Int) (held : Nat) (s : State) :
    KeepsLog s (exec (.comparatorOutputChange c v vref vrefl vrefh held) s) := keepsLog_ok fun h => by simpa using h

@[simp] theorem settleEnd_keepsLog (c : Fin 64) (v vref vrefl vrefh : Int) (s : State) :
    KeepsLog s (exec (.settleEnd c v vref vrefl vrefh) s) := by
  refine keepsLog_ok fun h => ?_
  dsimp only
  repeat' split
  all_goals simp [h]

@[simp] theorem sampledEvaluation_keepsLog (c : Fin 64) (v vref vrefl vrefh : Int) (s : State) :
    KeepsLog s (exec (.sampledEvaluation c v vref vrefl vrefh) s) := keepsLog_ok fun h => by simpa using h

@[simp] theorem chopperTimer_keepsLog (r : Fin 4) (s : State) : KeepsLog s (exec (.chopperTimer r) s) :=
  keepsLog_ok fun h => by simpa using h

@[simp] theorem energyModelUpdate_keepsLog (r : Fin 4) (s : State) : KeepsLog s (exec (.energyModelUpdate r) s) :=
  keepsLog_ok fun h => by simpa using h

@[simp] theorem episodeEnd_keepsLog (r : Fin 4) (s : State) : KeepsLog s (exec (.episodeEnd r) s) :=
  keepsLog_ok fun h => by split <;> simp [h]

@[simp] theorem rampLimitExpiry_keepsLog (r : Fin 4) (s : State) : KeepsLog s (exec (.rampLimitExpiry r) s) :=
  keepsLog_ok fun h => by simpa using h

@[simp] theorem sumpDisch_keepsLog (ag : Agent) (r : Fin 4) (v : Word) (s : State) : KeepsLog s (exec (.sumpDisch ag r v) s) :=
  keepsLog_ok fun h => by simpa using h

@[simp] theorem dstop_keepsLog (ag : Agent) (r : Fin 4) (s : State) : KeepsLog s (exec (.dstop ag r) s) :=
  keepsLog_ok fun h => by simpa using h

@[simp] theorem dischargePulseTimer_keepsLog (r : Fin 4) (s : State) : KeepsLog s (exec (.dischargePulseTimer r) s) :=
  keepsLog_ok fun h => by simpa using h

@[simp] theorem dischargeTimeout_keepsLog (r : Fin 4) (s : State) : KeepsLog s (exec (.dischargeTimeout r) s) :=
  keepsLog_ok fun h => by simpa using h

/-! ### MachineCtl -/

@[simp] theorem axVdqWrite_keepsLog (ag : Agent) (x : Fin 8) (v : Word) (s : State) : KeepsLog s (exec (.axVdqWrite ag x v) s) :=
  keepsLog_ok fun h => by simpa using h

@[simp] theorem apply_keepsLog (ag : Agent) (x : Fin 8) (s : State) : KeepsLog s (exec (.apply ag x) s) :=
  keepsLog_ok fun h => by simpa using h

@[simp] theorem excl_keepsLog (ag : Agent) (x : Fin 8) (m : BitVec 4) (s : State) : KeepsLog s (exec (.excl ag x m) s) :=
  keepsLog_ok fun h => by simpa using h

@[simp] theorem readmit_keepsLog (ag : Agent) (x : Fin 8) (m : BitVec 4) (s : State) : KeepsLog s (exec (.readmit ag x m) s) :=
  keepsLog_ok fun h => by simpa using h

@[simp] theorem oppStart_keepsLog (ag : Agent) (x : Fin 8) (angle : Half) (p : BitVec 6) (s : State) :
    KeepsLog s (exec (.oppStart ag x angle p) s) := keepsLog_ok fun h => by simpa using h

@[simp] theorem oppSwitch_keepsLog (ag : Agent) (x : Fin 8) (angle : Half) (p : BitVec 6) (s : State) :
    KeepsLog s (exec (.oppSwitch ag x angle p) s) := keepsLog_ok fun h => by simpa using h

@[simp] theorem oppStop_keepsLog (ag : Agent) (x : Fin 8) (angle : Half) (s : State) : KeepsLog s (exec (.oppStop ag x angle) s) :=
  keepsLog_ok fun h => by simpa using h

@[simp] theorem zeroCrossing_keepsLog (x : Fin 8) (ph : Fin 3) (held : Nat) (s : State) : KeepsLog s (exec (.zeroCrossing x ph held) s) :=
  keepsLog_ok fun h => by simpa using h

@[simp] theorem commutation_keepsLog (x : Fin 8) (s : State) : KeepsLog s (exec (.commutation x) s) :=
  keepsLog_ok fun h => by split <;> simp [h]

@[simp] theorem forcedCommutation_keepsLog (x : Fin 8) (s : State) : KeepsLog s (exec (.forcedCommutation x) s) :=
  keepsLog_ok fun h => by simpa using h

@[simp] theorem rampCommutation_keepsLog (x : Fin 8) (s : State) : KeepsLog s (exec (.rampCommutation x) s) :=
  keepsLog_ok fun h => by simpa using h

@[simp] theorem ssxPhaseTimer_keepsLog (x : Fin 8) (s : State) : KeepsLog s (exec (.ssxPhaseTimer x) s) := by
  refine keepsLog_ok fun h => ?_
  split
  · exact h
  · split
    · exact h
    · split <;> simpa using h

@[simp] theorem ssxCtrlStart_keepsLog (ag : Agent) (x : Fin 8) (s : State) : KeepsLog s (exec (.ssxCtrlStart ag x) s) :=
  keepsLog_ok fun h => by simpa using h

@[simp] theorem ssxCtrlStop_keepsLog (ag : Agent) (x : Fin 8) (s : State) : KeepsLog s (exec (.ssxCtrlStop ag x) s) :=
  keepsLog_ok fun h => by simpa using h

/-! ### Sensing -/

@[simp] theorem scanStart_keepsLog (j : Fin 16) (s : State) : KeepsLog s (exec (.scanStart j) s) :=
  keepsLog_ok fun h => by split <;> simp [h]

@[simp] theorem adcResult_keepsLog (j : Fin 16) (raw : BitVec 14) (above below : Bool) (s : State) :
    KeepsLog s (exec (.adcResult j raw above below) s) := keepsLog_ok fun h => by split <;> simp [h]

@[simp] theorem refrdy_keepsLog (j : Fin 16) (s : State) : KeepsLog s (exec (.refrdy j) s) := keepsLog_ok fun h => by simpa using h

@[simp] theorem dsmOutput_keepsLog (ix : Fin 32) (bits : List Bool) (s : State) : KeepsLog s (exec (.dsmOutput ix bits) s) :=
  keepsLog_ok fun h => by simpa using h

@[simp] theorem stuckRun_keepsLog (ix : Fin 32) (bits : List Bool) (s : State) : KeepsLog s (exec (.stuckRun ix bits) s) :=
  keepsLog_ok fun h => by simpa using h

@[simp] theorem dsmSync_keepsLog (ag : Agent) (ix : Fin 32) (s : State) : KeepsLog s (exec (.dsmSync ag ix) s) :=
  keepsLog_ok fun h => by simpa using h

@[simp] theorem dsmArm_keepsLog (ag : Agent) (ix : Fin 32) (s : State) : KeepsLog s (exec (.dsmArm ag ix) s) :=
  keepsLog_ok fun h => by simpa using h

@[simp] theorem periodBoundary_keepsLog (g : Fin 32) (s : State) : KeepsLog s (exec (.periodBoundary g) s) :=
  keepsLog_ok fun h => by simpa using h

@[simp] theorem pmid_keepsLog (g : Fin 32) (s : State) : KeepsLog s (exec (.pmid g) s) := keepsLog_ok fun h => by simpa using h

@[simp] theorem groupStart_keepsLog (g : Fin 32) (s : State) : KeepsLog s (exec (.groupStart g) s) :=
  keepsLog_ok fun h => by split <;> simp [h]

/-! ### Position -/

@[simp] theorem posSample_keepsLog (k : Fin 16) (sn cs : BitVec 12) (neg : Bool) (s : State) :
    KeepsLog s (exec (.posSample k sn cs neg) s) := keepsLog_ok fun h => by simpa using h

@[simp] theorem excitationCheck_keepsLog (k : Fin 16) (amp : Nat) (s : State) : KeepsLog s (exec (.excitationCheck k amp) s) :=
  keepsLog_ok fun h => by simpa using h

@[simp] theorem quadEdge_keepsLog (k : Fin 16) (a b : Bool) (held : Nat) (s : State) : KeepsLog s (exec (.quadEdge k a b held) s) := by
  refine keepsLog_ok fun h => ?_
  dsimp only
  repeat' split
  all_goals simp [h]

@[simp] theorem referenceMark_keepsLog (k : Fin 16) (held : Nat) (s : State) : KeepsLog s (exec (.referenceMark k held) s) :=
  keepsLog_ok fun h => by simpa using h

@[simp] theorem hallEdge_keepsLog (k : Fin 16) (h : BitVec 3) (held : Nat) (s : State) : KeepsLog s (exec (.hallEdge k h held) s) := by
  refine keepsLog_ok fun h => ?_
  dsimp only
  repeat' split
  all_goals simp [h]

@[simp] theorem ssiFrameStart_keepsLog (k : Fin 16) (s : State) : KeepsLog s (exec (.ssiFrameStart k) s) :=
  keepsLog_ok fun h => by simpa using h

@[simp] theorem ssiFrameEnd_keepsLog (k : Fin 16) (first : Bool) (value again : Word) (check : Bool) (s : State) :
    KeepsLog s (exec (.ssiFrameEnd k first value again check) s) := keepsLog_ok fun h => by split <;> simp [h]

@[simp] theorem posSet_keepsLog (ag : Agent) (k : Fin 16) (s : State) : KeepsLog s (exec (.posSet ag k) s) :=
  keepsLog_ok fun h => by simpa using h

@[simp] theorem zarm_keepsLog (ag : Agent) (k : Fin 16) (s : State) : KeepsLog s (exec (.zarm ag k) s) :=
  keepsLog_ok fun h => by simpa using h

@[simp] theorem posArm_keepsLog (ag : Agent) (k : Fin 16) (s : State) : KeepsLog s (exec (.posArm ag k) s) :=
  keepsLog_ok fun h => by simpa using h

@[simp] theorem comparePulseEnd_keepsLog (k : Fin 16) (one : Bool) (s : State) : KeepsLog s (exec (.comparePulseEnd k one) s) :=
  keepsLog_ok fun h => by split <;> simp [h]

@[simp] theorem dividerStep_keepsLog (k : Fin 16) (s : State) : KeepsLog s (exec (.dividerStep k) s) :=
  keepsLog_ok fun h => by simpa using h

/-! ### SafetySet -/

@[simp] theorem ccvCheck_keepsLog (hit : Option (Fin 16384 × Word)) (s : State) : KeepsLog s (exec (.ccvCheck hit) s) := by
  refine keepsLog_ok fun h => ?_
  dsimp only
  repeat' split
  all_goals simp [h]

@[simp] theorem grottoInitComplete_keepsLog (inj sram : Bool) (s : State) : KeepsLog s (exec (.grottoInitComplete inj sram) s) :=
  keepsLog_ok fun h => by simpa using h

/-! ### SafeInputs -/

@[simp] theorem safeInputChange_keepsLog (ix : Fin 32) (lvl : Bool) (held : Nat) (s : State) :
    KeepsLog s (exec (.safeInputChange ix lvl held) s) := keepsLog_ok fun h => by simpa using h

@[simp] theorem testPulse_keepsLog (t : Fin 8) (lows : Word) (s : State) : KeepsLog s (exec (.testPulse t lows) s) :=
  keepsLog_ok fun h => by simpa using h

@[simp] theorem discrepancyTimeout_keepsLog (k : Fin 16) (s : State) : KeepsLog s (exec (.discrepancyTimeout k) s) :=
  keepsLog_ok fun h => by simpa using h

/-! ### Cells -/

@[simp] theorem start_keepsLog (ag : Agent) (c : Fin 128) (load : Bool) (entry : BitVec 12) (s : State) :
    KeepsLog s (exec (.start ag c load entry) s) := keepsLog_ok fun h => by simpa using h

@[simp] theorem imageCopyDone_keepsLog (c : Fin 128) (s : State) : KeepsLog s (exec (.imageCopyDone c) s) := by
  refine keepsLog_ok fun h => ?_
  split
  · next p _ _ =>
    have ht : LogFits (s.loadCell c p).2.fabLog := by simpa using h
    split
    · next heq => rw [heq] at ht; simpa using ht
    · next heq => rw [heq] at ht; simpa using ht
  · exact h

@[simp] theorem stop_keepsLog (ag : Agent) (c : Fin 128) (s : State) : KeepsLog s (exec (.stop ag c) s) :=
  keepsLog_ok fun h => by simpa using h

@[simp] theorem cellBindWrite_keepsLog (ag : Agent) (c : Fin 128) (v : Word) (s : State) : KeepsLog s (exec (.cellBindWrite ag c v) s) :=
  keepsLog_ok fun h => by simpa using h

@[simp] theorem migrationComplete_keepsLog (c : Fin 128) (s : State) : KeepsLog s (exec (.migrationComplete c) s) := by
  refine keepsLog_ok fun h => ?_
  split
  · extract_lets p r1 r2 back s0 rec_ s1 d s2 gen cold s3 s4 s5
    have hr1 : r1.2.fabLog = s.fabLog := by simp [r1]
    have hr2 : r2.2.fabLog = s.fabLog := by
      unfold r2
      split
      · split
        · simp [hr1]
        · exact hr1
      · exact hr1
    split
    · dsimp only
      split <;> simp [back, hr2, h]
    · have h1 : s1.fabLog = s.fabLog := by simp [s1, s0, hr2]
      have h2 : s2.fabLog = s.fabLog := by
        unfold s2
        split <;> simp [h1]
      have h3 : s3.fabLog = s.fabLog := by
        unfold s3
        rw [State.modCell_fabLog]
        cases gen <;> simp [h2]
      have h4 : s4.fabLog = s.fabLog := by
        unfold s4
        split <;> simp [h3]
      have h5 : s5.fabLog = s.fabLog := by simp [s5, h4]
      split <;> simp [h5, h]
  · exact h

@[simp] theorem migrationHoldTimeout_keepsLog (g : Fin 32) (s : State) : KeepsLog s (exec (.migrationHoldTimeout g) s) :=
  keepsLog_ok fun h => by split <;> simp [h]

@[simp] theorem releasePhysical_keepsLog (ag : Agent) (b : Fin 16) (mask : Byte) (s : State) :
    KeepsLog s (exec (.releasePhysical ag b mask) s) := keepsLog_ok fun h => by simpa using h

@[simp] theorem kick_keepsLog (c : Fin 128) (s : State) : KeepsLog s (exec (.kick c) s) := keepsLog_ok fun h => by simpa using h

@[simp] theorem trapesc_keepsLog (c : Fin 128) (s : State) : KeepsLog s (exec (.trapesc c) s) := by
  refine keepsLog_ok fun h => ?_
  split
  · split
    · split
      · simpa using h
      · exact h
    · exact h
  · exact h

@[simp] theorem wdt_keepsLog (c : Fin 128) (s : State) : KeepsLog s (exec (.wdt c) s) := keepsLog_ok fun h => by simpa using h
@[simp] theorem ckage_keepsLog (c : Fin 128) (s : State) : KeepsLog s (exec (.ckage c) s) := keepsLog_ok fun h => by simpa using h

@[simp] theorem pmcOverflowEntry_keepsLog (c : Fin 128) (s : State) : KeepsLog s (exec (.pmcOverflowEntry c) s) := by
  refine keepsLog_ok fun h => ?_
  dsimp only
  split
  · exact h
  · split
    · next heq => rw [State.modCell_fabLog, State.pushFifo_fabLog heq]; exact h
    · exact h

/-! ### Thermal -/

@[simp] theorem sensorRound_keepsLog (t : Vector Half 24) (s : State) : KeepsLog s (exec (.sensorRound t) s) := by
  refine keepsLog_ok fun h => ?_
  dsimp only
  repeat' split
  all_goals simp [h]

@[simp] theorem halt_keepsLog (s : State) : KeepsLog s (exec (.halt) s) := keepsLog_ok fun h => by simpa using h

@[simp] theorem serviceWrite_keepsLog (ag : Agent) (v : Word) (s : State) : KeepsLog s (exec (.serviceWrite ag v) s) :=
  keepsLog_ok fun h => by simpa using h

@[simp] theorem currentEstimate_keepsLog (c q d : Nat) (s : State) : KeepsLog s (exec (.currentEstimate c q d) s) := by
  refine keepsLog_ok fun h => ?_
  split
  · exact h
  · extract_lets k i bud l under
    split
    extract_lets overs
    have hest (x : State × Nat) (hx : x = if i < 65536 then (s, i.toNat) else (s.used, s.free.toNat)) : LogFits x.1.fabLog := by
      rw [hx]
      split
      · exact h
      · simpa using h
    split
    next heq =>
    have h0 := hest _ heq.symm
    dsimp only
    split
    · simpa using h0
    · simpa using h0

@[simp] theorem lanternStep_keepsLog (r : Fin 4) (s : State) : KeepsLog s (exec (.lanternStep r) s) := by
  refine keepsLog_ok fun h => ?_
  dsimp only
  repeat' split
  all_goals simp [h]

/-! ### Grotto -/

@[simp] theorem heartbeatTimeout_keepsLog (c : Fin 256) (s : State) : KeepsLog s (exec (.heartbeatTimeout c) s) :=
  keepsLog_ok fun h => by split <;> simp [h]

@[simp] theorem orderRefreshTimeout_keepsLog (s : State) : KeepsLog s (exec (.orderRefreshTimeout) s) :=
  keepsLog_ok fun h => by simpa using h

@[simp] theorem clockMonitor_keepsLog (ref : Nat) (fab : Option Nat) (genA genB : BitVec 4) (s : State) :
    KeepsLog s (exec (.clockMonitor ref fab genA genB) s) := by
  refine keepsLog_ok fun h => ?_
  dsimp only
  repeat' split
  all_goals simp [h]

@[simp] theorem supplyFault_keepsLog (rail : Fin 8) (mv : Int) (held : Nat) (s : State) : KeepsLog s (exec (.supplyFault rail mv held) s) :=
  keepsLog_ok fun h => by simpa using h

@[simp] theorem tapSample_keepsLog (k : Fin 16) (sn cs : BitVec 12) (pz : Bool) (s : State) : KeepsLog s (exec (.tapSample k sn cs pz) s) :=
  keepsLog_ok fun h => by simpa using h

@[simp] theorem torqueMonitorSlice_keepsLog (x : Fin 8) (iar ibr iap ibp vdc : BitVec 12) (t0 t1 : Half) (s : State) :
    KeepsLog s (exec (.torqueMonitorSlice x iar ibr iap ibp vdc t0 t1) s) := keepsLog_ok fun h => by simpa using h

@[simp] theorem ascExit_keepsLog (x : Fin 8) (s : State) : KeepsLog s (exec (.ascExit x) s) := keepsLog_ok fun h => by split <;> simp [h]

@[simp] theorem dischargeRequest_keepsLog (l : Fin 8) (s : State) : KeepsLog s (exec (.dischargeRequest l) s) :=
  keepsLog_ok fun h => by simpa using h

@[simp] theorem envelopeTimeout_keepsLog (x : Fin 8) (s : State) : KeepsLog s (exec (.envelopeTimeout x) s) :=
  keepsLog_ok fun h => by split <;> simp [h]

/-! ### XLinks -/

@[simp] theorem xlFrameReceived_keepsLog (k : Fin 4) (f : List Byte) (bad : Bool) (s : State) :
    KeepsLog s (exec (.xlFrameReceived k f bad) s) := keepsLog_ok fun h => by simpa using h

@[simp] theorem xlStatusSend_keepsLog (k : Fin 4) (s : State) : KeepsLog s (exec (.xlStatusSend k) s) :=
  keepsLog_ok fun h => by simpa using h

@[simp] theorem xlTimeout_keepsLog (k : Fin 4) (s : State) : KeepsLog s (exec (.xlTimeout k) s) := by
  refine keepsLog_ok fun h => ?_
  dsimp only
  repeat' split
  all_goals simp [h]

/-! ### Echo -/

@[simp] theorem ringProdWrite_keepsLog (ag : Agent) (n : Fin 16384) (prod : Half) (s : State) :
    KeepsLog s (exec (.ringProdWrite ag n prod) s) := keepsLog_ok fun h => by simpa using h

@[simp] theorem echoData_keepsLog (k : Fin 4) (l : List Byte) (ago : Nat) (bad eccBad : Bool) (s : State) :
    KeepsLog s (exec (.echoData k l ago bad eccBad) s) := keepsLog_ok fun h => by simpa using h

@[simp] theorem echoAck_keepsLog (k : Fin 4) (l : List Byte) (bad : Bool) (s : State) : KeepsLog s (exec (.echoAck k l bad) s) :=
  keepsLog_ok fun h => by simpa using h

@[simp] theorem ackTimeout_keepsLog (s : State) : KeepsLog s (exec (.ackTimeout) s) := by
  refine keepsLog_ok fun h => ?_
  split
  · exact h
  · rw [foldl_fabLog]
    · exact h
    · refine fun s x => foldl_fabLog (fun s u => ?_) _ _
      rw [State.sameLog_iff]
      split
      · split
        · simp
        · rfl
      · rfl

@[simp] theorem echoSlotTransmit_keepsLog (k : Fin 4) (s : State) : KeepsLog s (exec (.echoSlotTransmit k) s) := by
  refine keepsLog_ok fun h => ?_
  dsimp only
  repeat' split
  all_goals simp [h]

@[simp] theorem portDown_keepsLog (k : Fin 4) (s : State) : KeepsLog s (exec (.portDown k) s) := keepsLog_ok fun h => by simpa using h

@[simp] theorem portUp_keepsLog (k : Fin 4) (held : Bool) (s : State) : KeepsLog s (exec (.portUp k held) s) :=
  keepsLog_ok fun h => by simpa using h

@[simp] theorem echoBreak_keepsLog (k : Fin 4) (l : List Byte) (bad : Bool) (seg : Fin 64) (s : State) :
    KeepsLog s (exec (.echoBreak k l bad seg) s) := keepsLog_ok fun h => by simpa using h

@[simp] theorem mend_keepsLog (k : Fin 4) (l : List Byte) (bad : Bool) (seg : Fin 64) (s : State) :
    KeepsLog s (exec (.mend k l bad seg) s) := keepsLog_ok fun h => by simpa using h

@[simp] theorem ttSync_keepsLog (k : Fin 4) (l : List Byte) (bad : Bool) (ago lead : Nat) (s : State) :
    KeepsLog s (exec (.ttSync k l bad ago lead) s) := keepsLog_ok fun h => by simpa using h

@[simp] theorem ttResp_keepsLog (k : Fin 4) (l : List Byte) (bad : Bool) (ago : Nat) (s : State) :
    KeepsLog s (exec (.ttResp k l bad ago) s) := by
  refine keepsLog_ok fun h => ?_
  dsimp only
  repeat' split
  all_goals simp [h]

@[simp] theorem ttSyncSend_keepsLog (k : Fin 4) (lead : Nat) (s : State) : KeepsLog s (exec (.ttSyncSend k lead) s) :=
  keepsLog_ok fun h => by simpa using h

@[simp] theorem ttTimeout_keepsLog (k : Fin 4) (s : State) : KeepsLog s (exec (.ttTimeout k) s) :=
  keepsLog_ok fun h => by split <;> simp [h]

/-! ### Ethernet -/

@[simp] theorem ethFrameReceived_keepsLog (k : Fin 4) (l : List Byte) (ago : Nat) (s : State) :
    KeepsLog s (exec (.ethFrameReceived k l ago) s) := keepsLog_ok fun h => by simpa using h

@[simp] theorem ethTransmit_keepsLog (k : Fin 4) (lead : Nat) (s : State) : KeepsLog s (exec (.ethTransmit k lead) s) := by
  refine keepsLog_ok fun h => ?_
  dsimp only
  repeat' split
  all_goals simp [h]

@[simp] theorem ethLinkChange_keepsLog (k : Fin 4) (up : Bool) (speed : BitVec 2) (s : State) :
    KeepsLog s (exec (.ethLinkChange k up speed) s) := keepsLog_ok fun h => by simpa using h

@[simp] theorem mdioTransaction_keepsLog (ag : Agent) (v : Word) (s : State) : KeepsLog s (exec (.mdioTransaction ag v) s) :=
  keepsLog_ok fun h => by simpa using h

@[simp] theorem mdioDone_keepsLog (data : Half) (s : State) : KeepsLog s (exec (.mdioDone data) s) := keepsLog_ok fun h => by simpa using h

/-! ### Can -/

@[simp] theorem canFrameReceived_keepsLog (k : Fin 8) (f : CanFrame) (ago : Nat) (s : State) :
    KeepsLog s (exec (.canFrameReceived k f ago) s) := keepsLog_ok fun h => by simpa using h

@[simp] theorem canReceiveError_keepsLog (k : Fin 8) (code : Fin 7) (eight : Bool) (s : State) :
    KeepsLog s (exec (.canReceiveError k code eight) s) := keepsLog_ok fun h => by simpa using h

@[simp] theorem canReq_keepsLog (ag : Agent) (k : Fin 8) (b : Fin 3) (v : Word) (s : State) : KeepsLog s (exec (.canReq ag k b v) s) :=
  keepsLog_ok fun h => by simpa using h

@[simp] theorem canAbort_keepsLog (ag : Agent) (k : Fin 8) (b : Fin 3) (v : Word) (s : State) : KeepsLog s (exec (.canAbort ag k b v) s) :=
  keepsLog_ok fun h => by simpa using h

@[simp] theorem txSelection_keepsLog (k : Fin 8) (s : State) : KeepsLog s (exec (.txSelection k) s) := by
  refine keepsLog_ok fun h => ?_
  split
  · exact h
  · split
    · simpa using h
    · exact h

@[simp] theorem canTxEnd_keepsLog (k : Fin 8) (how : CanEnd) (s : State) : KeepsLog s (exec (.canTxEnd k how) s) := by
  refine keepsLog_ok fun h => ?_
  dsimp only
  repeat' split
  all_goals simp [h]

@[simp] theorem recover_keepsLog (ag : Agent) (k : Fin 8) (v : Word) (s : State) : KeepsLog s (exec (.recover ag k v) s) :=
  keepsLog_ok fun h => by simpa using h

@[simp] theorem busOffRecovery_keepsLog (k : Fin 8) (s : State) : KeepsLog s (exec (.busOffRecovery k) s) :=
  keepsLog_ok fun h => by simpa using h

/-! ### Serial -/

@[simp] theorem spiTxdWrite_keepsLog (ag : Agent) (k : Fin 4) (v : Word) (s : State) : KeepsLog s (exec (.spiTxdWrite ag k v) s) :=
  keepsLog_ok fun h => by simpa using h

@[simp] theorem spiWordDone_keepsLog (k : Fin 4) (miso : Word) (s : State) : KeepsLog s (exec (.spiWordDone k miso) s) :=
  keepsLog_ok fun h => by split <;> simp [h]

@[simp] theorem spiTargetWrite_keepsLog (off : BitVec 24) (data : List Byte) (s : State) : KeepsLog s (exec (.spiTargetWrite off data) s) :=
  keepsLog_ok fun h => by simpa using h

@[simp] theorem spiTargetRead_keepsLog (off : BitVec 24) (n : Nat) (s : State) : KeepsLog s (exec (.spiTargetRead off n) s) :=
  keepsLog_ok fun h => by simpa using h

@[simp] theorem spiTargetStatus_keepsLog (s : State) : KeepsLog s (exec (.spiTargetStatus) s) := keepsLog_ok fun h => by simpa using h

@[simp] theorem spiCsRise_keepsLog (unknown : Bool) (s : State) : KeepsLog s (exec (.spiCsRise unknown) s) :=
  keepsLog_ok fun h => by simpa using h

@[simp] theorem xspiCmd_keepsLog (ag : Agent) (v : Word) (s : State) : KeepsLog s (exec (.xspiCmd ag v) s) :=
  keepsLog_ok fun h => by simpa using h

@[simp] theorem xspiDone_keepsLog (data : List Byte) (timeout : Bool) (s : State) : KeepsLog s (exec (.xspiDone data timeout) s) :=
  keepsLog_ok fun h => by split <;> simp [h]

@[simp] theorem uartTxdWrite_keepsLog (ag : Agent) (k : Fin 2) (v : Word) (s : State) : KeepsLog s (exec (.uartTxdWrite ag k v) s) :=
  keepsLog_ok fun h => by simpa using h

@[simp] theorem uartRxByte_keepsLog (k : Fin 2) (b : Byte) (fe pe brk : Bool) (s : State) :
    KeepsLog s (exec (.uartRxByte k b fe pe brk) s) := keepsLog_ok fun h => by simpa using h

@[simp] theorem uartTxByteDone_keepsLog (k : Fin 2) (s : State) : KeepsLog s (exec (.uartTxByteDone k) s) :=
  keepsLog_ok fun h => by split <;> simp [h]

@[simp] theorem i2cCmd_keepsLog (ag : Agent) (k : Fin 2) (v : Word) (s : State) : KeepsLog s (exec (.i2cCmd ag k v) s) :=
  keepsLog_ok fun h => by simpa using h

@[simp] theorem i2cDone_keepsLog (k : Fin 2) (how : I2cEnd) (s : State) : KeepsLog s (exec (.i2cDone k how) s) := by
  refine keepsLog_ok fun h => ?_
  dsimp only
  repeat' split
  all_goals simp [h]

@[simp] theorem i2cTimeout_keepsLog (k : Fin 2) (s : State) : KeepsLog s (exec (.i2cTimeout k) s) := keepsLog_ok fun h => by simpa using h

@[simp] theorem gpioSet_keepsLog (ag : Agent) (v : Word) (s : State) : KeepsLog s (exec (.gpioSet ag v) s) :=
  keepsLog_ok fun h => by simpa using h

@[simp] theorem gpioClr_keepsLog (ag : Agent) (v : Word) (s : State) : KeepsLog s (exec (.gpioClr ag v) s) :=
  keepsLog_ok fun h => by simpa using h

@[simp] theorem gpioInputChange_keepsLog (n : Fin 16) (level : Bool) (held : Nat) (s : State) :
    KeepsLog s (exec (.gpioInputChange n level held) s) := keepsLog_ok fun h => by simpa using h

@[simp] theorem pinPulseEnd_keepsLog (n : Fin 16) (s : State) : KeepsLog s (exec (.pinPulseEnd n) s) :=
  keepsLog_ok fun h => by split <;> simp [h]

/-! ### Avs -/

@[simp] theorem avsWriteVoltage_keepsLog (ag : Agent) (k : Fin 2) (v : Word) (s : State) : KeepsLog s (exec (.avsWriteVoltage ag k v) s) :=
  keepsLog_ok fun h => by simpa using h

@[simp] theorem avsReadVoltage_keepsLog (ag : Agent) (k : Fin 2) (v : Word) (s : State) : KeepsLog s (exec (.avsReadVoltage ag k v) s) :=
  keepsLog_ok fun h => by simpa using h

@[simp] theorem avsReadStatus_keepsLog (ag : Agent) (k : Fin 2) (v : Word) (s : State) : KeepsLog s (exec (.avsReadStatus ag k v) s) :=
  keepsLog_ok fun h => by simpa using h

@[simp] theorem avsFrameEnd_keepsLog (k : Fin 2) (ack : BitVec 2) (data : Half) (vdone : Bool) (s : State) :
    KeepsLog s (exec (.avsFrameEnd k ack data vdone) s) := by
  refine keepsLog_ok fun h => ?_
  split
  · exact h
  · split
    · split
      · split <;> simpa using h
      · split
        · split <;> simpa using h
        · split <;> simpa using h
        · split <;> simpa using h
        · simpa using h
    · exact h

@[simp] theorem avsResend_keepsLog (k : Fin 2) (s : State) : KeepsLog s (exec (.avsResend k) s) :=
  keepsLog_ok fun h => by split <;> simp [h]

@[simp] theorem avsStatusPoll_keepsLog (k : Fin 2) (s : State) : KeepsLog s (exec (.avsStatusPoll k) s) :=
  keepsLog_ok fun h => by split <;> simp [h]

@[simp] theorem avsTimeout_keepsLog (k : Fin 2) (s : State) : KeepsLog s (exec (.avsTimeout k) s) :=
  keepsLog_ok fun h => by split <;> simp [h]

/-! ### Mailbox -/

@[simp] theorem doorbell_keepsLog (ag : Agent) (k : Fin 5) (s : State) : KeepsLog s (exec (.doorbell ag k) s) :=
  keepsLog_ok fun h => by simpa using h

@[simp] theorem mailboxReply_keepsLog (k : Fin 5) (s : State) : KeepsLog s (exec (.mailboxReply k) s) := by
  refine keepsLog_ok fun h => ?_
  dsimp only
  repeat' split
  all_goals simp [h]

@[simp] theorem ss1_keepsLog (k : Fin 5) (s : State) : KeepsLog s (exec (.ss1 k) s) := keepsLog_ok fun h => by split <;> simp [h]
@[simp] theorem sto_keepsLog (k : Fin 5) (s : State) : KeepsLog s (exec (.sto k) s) := keepsLog_ok fun h => by split <;> simp [h]
@[simp] theorem release_keepsLog (k : Fin 5) (s : State) : KeepsLog s (exec (.release k) s) := keepsLog_ok fun h => by split <;> simp [h]
@[simp] theorem clrflt_keepsLog (k : Fin 5) (s : State) : KeepsLog s (exec (.clrflt k) s) := keepsLog_ok fun h => by split <;> simp [h]
@[simp] theorem disch_keepsLog (k : Fin 5) (s : State) : KeepsLog s (exec (.disch k) s) := keepsLog_ok fun h => by split <;> simp [h]
@[simp] theorem pwrreq_keepsLog (k : Fin 5) (s : State) : KeepsLog s (exec (.pwrreq k) s) := keepsLog_ok fun h => by split <;> simp [h]

@[simp] theorem openSession_keepsLog (k : Fin 5) (s : State) : KeepsLog s (exec (.openSession k) s) :=
  keepsLog_ok fun h => by split <;> simp [h]

@[simp] theorem paramWrite_keepsLog (k : Fin 5) (s : State) : KeepsLog s (exec (.paramWrite k) s) :=
  keepsLog_ok fun h => by split <;> simp [h]

@[simp] theorem check_keepsLog (k : Fin 5) (s : State) : KeepsLog s (exec (.check k) s) := keepsLog_ok fun h => by split <;> simp [h]
@[simp] theorem confirm_keepsLog (k : Fin 5) (s : State) : KeepsLog s (exec (.confirm k) s) := keepsLog_ok fun h => by split <;> simp [h]
@[simp] theorem loadconf_keepsLog (k : Fin 5) (s : State) : KeepsLog s (exec (.loadconf k) s) := keepsLog_ok fun h => by split <;> simp [h]
@[simp] theorem close_keepsLog (k : Fin 5) (s : State) : KeepsLog s (exec (.close k) s) := keepsLog_ok fun h => by split <;> simp [h]

@[simp] theorem paramRead_keepsLog (k : Fin 5) (s : State) : KeepsLog s (exec (.paramRead k) s) :=
  keepsLog_ok fun h => by split <;> simp [h]

/-! ### Debug -/

@[simp] theorem newchal_keepsLog (ag : Agent) (s : State) : KeepsLog s (exec (.newchal ag) s) := keepsLog_ok fun h => by simpa using h

@[simp] theorem nonceReady_keepsLog (nonce : BitVec 256) (s : State) : KeepsLog s (exec (.nonceReady nonce) s) :=
  keepsLog_ok fun h => by simpa using h

@[simp] theorem dbgSubmit_keepsLog (ag : Agent) (level : BitVec 2) (kslot : Bool) (s : State) :
    KeepsLog s (exec (.dbgSubmit ag level kslot) s) := keepsLog_ok fun h => by simpa using h

@[simp] theorem dbgDecision_keepsLog (s : State) : KeepsLog s (exec (.dbgDecision) s) := keepsLog_ok fun h => by split <;> simp [h]

/-! ### GalleryFire -/

@[simp] theorem eventIssue_keepsLog (e : Fin 4) (s : State) : KeepsLog s (exec (.eventIssue e) s) := keepsLog_ok fun h => by simpa using h

theorem State.takeCell_sameFit (s : State) (v : GEvent) : (s.takeCell v).SameFit s := by
  unfold State.takeCell
  split
  · next h => exact iff_of_eq (congrArg LogFits (State.pushFifo_fabLog h))
  · trivial

theorem State.takeEdge_sameFit (s : State) (v : GEvent) (i : Issue) : (s.takeEdge v i).SameFit s := by
  unfold State.takeEdge
  dsimp only
  split
  · next h => exact iff_of_eq (congrArg LogFits (State.pwmEdge_fabLog h))
  · trivial

theorem State.takePush_sameFit (s : State) (v : GEvent) : (s.takePush v).SameFit s := by
  unfold State.takePush
  split
  · next h => exact iff_of_eq (congrArg LogFits (State.ringPush_fabLog h))
  · trivial

theorem State.takeSend_sameFit (s : State) (v : GEvent) : (s.takeSend v).SameFit s := by
  unfold State.takeSend
  dsimp only
  split
  · trivial
  · next h => exact (State.echoSend_logFits h).trans (iff_of_eq (congrArg LogFits (State.modEvent_fabLog ..)))
  · next h => exact (State.echoSend_logFits h).trans (iff_of_eq (congrArg LogFits (State.modEvent_fabLog ..)))

theorem State.takeIrq_sameFit (s : State) (v : GEvent) : (s.takeIrq v).SameFit s := by
  unfold State.takeIrq
  split
  · dsimp only
    split
    · trivial
    · split
      · next h => exact iff_of_eq (congrArg LogFits (State.raiseLine_fabLog h))
      · trivial
  · trivial

theorem State.offerAgain_sameFit (s : State) (v : GEvent) (i : Issue) : (s.offerAgain v i).SameFit s := by
  unfold State.offerAgain
  split
  · exact s.takeCell_sameFit v
  · exact s.takeEdge_sameFit v i
  · exact s.takePush_sameFit v
  · exact s.takeSend_sameFit v
  · exact s.takeIrq_sameFit v
  · trivial

/-- A due slot served by an action whose outcomes keep the log's fit. -/
theorem fire_keepsLog {s : State} {f : State → GEvent → Issue → Taken} (hf : ∀ v i, (f s v i).SameFit s) (e : Fin 4) (act : Nat)
    (quiet : Bool) : KeepsLog s (ok (s.fire e act quiet f)) := keepsLog_ok (State.fire_logFits hf e act quiet).2

@[simp] theorem nopAction_keepsLog (e : Fin 4) (s : State) : KeepsLog s (exec (.nopAction e) s) := by
  refine fire_keepsLog (fun _ _ => ?_) _ _ _
  exact Iff.rfl

@[simp] theorem cellEvent_keepsLog (e : Fin 4) (s : State) : KeepsLog s (exec (.cellEvent e) s) :=
  fire_keepsLog (fun v _ => s.takeCell_sameFit v) _ _ _

@[simp] theorem pwmEdge_keepsLog (e : Fin 4) (s : State) : KeepsLog s (exec (.pwmEdge e) s) :=
  fire_keepsLog (fun v i => s.takeEdge_sameFit v i) _ _ _

@[simp] theorem pwmLoadall_keepsLog (e : Fin 4) (s : State) : KeepsLog s (exec (.pwmLoadall e) s) := by
  refine fire_keepsLog (fun v _ => ?_) _ _ _
  dsimp only
  split
  · exact Iff.rfl
  · exact iff_of_eq (congrArg LogFits (by simp))

@[simp] theorem adcTrigger_keepsLog (e : Fin 4) (s : State) : KeepsLog s (exec (.adcTrigger e) s) := by
  refine fire_keepsLog (fun _ _ => ?_) _ _ _
  exact iff_of_eq (congrArg LogFits (State.adcGallery_fabLog ..))

@[simp] theorem pin_keepsLog (e : Fin 4) (s : State) : KeepsLog s (exec (.pin e) s) := by
  refine fire_keepsLog (fun _ _ => ?_) _ _ _
  exact iff_of_eq (congrArg LogFits (State.pinAction_fabLog ..))

@[simp] theorem ringPush_keepsLog (e : Fin 4) (s : State) : KeepsLog s (exec (.ringPush e) s) :=
  fire_keepsLog (fun v _ => s.takePush_sameFit v) _ _ _

@[simp] theorem echoSend_keepsLog (e : Fin 4) (s : State) : KeepsLog s (exec (.echoSend e) s) :=
  fire_keepsLog (fun v _ => s.takeSend_sameFit v) _ _ _

@[simp] theorem columnIrq_keepsLog (e : Fin 4) (s : State) : KeepsLog s (exec (.columnIrq e) s) :=
  fire_keepsLog (fun v _ => s.takeIrq_sameFit v) _ _ _

@[simp] theorem safeCheck_keepsLog (e : Fin 4) (s : State) : KeepsLog s (exec (.safeCheck e) s) := by
  refine fire_keepsLog (fun _ _ => ?_) _ _ _
  exact iff_of_eq (congrArg LogFits (State.heartbeat_fabLog ..))

@[simp] theorem holdRetry_keepsLog (e : Fin 4) (s : State) : KeepsLog s (exec (.holdRetry e) s) := by
  refine keepsLog_ok fun h => ?_
  split
  · split
    · exact h
    · split
      · exact h
      · split
        · exact h
        · dsimp only
          split
          · simpa using h
          · refine (State.applyTaken_logFits ?_ ..).2 (by simpa using h)
            exact State.offerAgain_sameFit ..
  · exact h

@[simp] theorem holdTimeout_keepsLog (e : Fin 4) (s : State) : KeepsLog s (exec (.holdTimeout e) s) := by
  refine keepsLog_ok fun h => ?_
  dsimp only
  repeat' split
  all_goals simp [h]

@[simp] theorem submissionDecision_keepsLog (s : State) : KeepsLog s (exec (.submissionDecision) s) := by
  refine keepsLog_ok fun h => ?_
  split
  · exact h
  · split
    · exact h
    · next s1 u st tag slot htake =>
      have h1 : LogFits s1.fabLog := by rw [State.takeSub_fabLog htake]; exact h
      extract_lets res s2 s3
      have h2 : LogFits s2.fabLog := by
        unfold s2
        split
        · exact h1
        · simpa using h1
        · simpa using h1
      have h3 : LogFits s3.fabLog := by
        unfold s3
        split
        · split
          · exact h2
          · simpa using h2
        · simpa using h2
        · split
          · exact h2
          · simpa using h2
        · exact h2
      split
      · split
        · exact h3
        · simpa using h3
      · exact h3

/-! ### Fabric -/

@[simp] theorem assign_keepsLog (ag : Agent) (kind : BitVec 5) (c : Fin 16) (s : State) : KeepsLog s (exec (.assign ag kind c) s) :=
  keepsLog_ok fun h => by simpa using h

@[simp] theorem assignFree_keepsLog (ag : Agent) (kind : BitVec 5) (s : State) : KeepsLog s (exec (.assignFree ag kind) s) :=
  keepsLog_ok fun h => by simpa using h

@[simp] theorem fabQuery_keepsLog (ag : Agent) (kind : BitVec 5) (ix : Half) (s : State) : KeepsLog s (exec (.fabQuery ag kind ix) s) :=
  keepsLog_ok fun h => by simpa using h

@[simp] theorem chamberCreate_keepsLog (ag : Agent) (c : Fin 16) (v : Word) (s : State) : KeepsLog s (exec (.chamberCreate ag c v) s) :=
  keepsLog_ok fun h => by simpa using h

@[simp] theorem chamberDelete_keepsLog (ag : Agent) (c : Fin 16) (v : Word) (s : State) : KeepsLog s (exec (.chamberDelete ag c v) s) :=
  keepsLog_ok fun h => by simpa using h

@[simp] theorem abortCell_keepsLog (ag : Agent) (t : Half) (s : State) : KeepsLog s (exec (.abortCell ag t) s) :=
  keepsLog_ok fun h => by simpa using h

@[simp] theorem abortBlock_keepsLog (ag : Agent) (t : Half) (s : State) : KeepsLog s (exec (.abortBlock ag t) s) :=
  keepsLog_ok fun h => by simpa using h

@[simp] theorem abortLink_keepsLog (ag : Agent) (t : Half) (s : State) : KeepsLog s (exec (.abortLink ag t) s) :=
  keepsLog_ok fun h => by simpa using h

@[simp] theorem abortRegion_keepsLog (ag : Agent) (t : Half) (s : State) : KeepsLog s (exec (.abortRegion ag t) s) :=
  keepsLog_ok fun h => by simpa using h

@[simp] theorem abortChamber_keepsLog (ag : Agent) (t : Half) (s : State) : KeepsLog s (exec (.abortChamber ag t) s) :=
  keepsLog_ok fun h => by simpa using h

@[simp] theorem abortComplete_keepsLog (late : Byte) (s : State) : KeepsLog s (exec (.abortComplete late) s) :=
  keepsLog_ok fun h => by split <;> simp [h]

@[simp] theorem columnReset_keepsLog (ag : Agent) (c : Fin 5) (s : State) : KeepsLog s (exec (.columnReset ag c) s) :=
  keepsLog_ok fun h => by simpa using h

@[simp] theorem colkick_keepsLog (ag : Agent) (c : Fin 5) (v : Word) (s : State) : KeepsLog s (exec (.colkick ag c v) s) :=
  keepsLog_ok fun h => by simpa using h

/-! ### Reset -/

@[simp] theorem powerOnReset_keepsLog (s : State) : KeepsLog s (exec (.powerOnReset) s) :=
  keepsLog_ok fun _ => by simp [State.reset, LogFits]

@[simp] theorem supplyMonitorReset_keepsLog (rail : Fin 3) (mv : Nat) (s : State) : KeepsLog s (exec (.supplyMonitorReset rail mv) s) :=
  keepsLog_ok fun h => by simp [h]

@[simp] theorem grottoReset_keepsLog (mv : Nat) (s : State) : KeepsLog s (exec (.grottoReset mv) s) := keepsLog_ok fun h => by simpa using h
@[simp] theorem coldReset_keepsLog (ag : Agent) (s : State) : KeepsLog s (exec (.coldReset ag) s) := keepsLog_ok fun h => by simp [h]
@[simp] theorem warmReset_keepsLog (ag : Agent) (s : State) : KeepsLog s (exec (.warmReset ag) s) := keepsLog_ok fun h => by simp [h]
@[simp] theorem wrst_keepsLog (low : Nat) (s : State) : KeepsLog s (exec (.wrst low) s) := keepsLog_ok fun h => by simp [h]
@[simp] theorem colhHaltReset_keepsLog (s : State) : KeepsLog s (exec (.colhHaltReset) s) := keepsLog_ok fun h => by split <;> simp [h]

@[simp] theorem resetRelease_keepsLog (mode : BitVec 2) (testen : Bool) (s : State) : KeepsLog s (exec (.resetRelease mode testen) s) :=
  keepsLog_ok fun h => by split <;> simp [h]

@[simp] theorem selfTestWave_keepsLog (bad : Option (Byte × Bool × Byte)) (s : State) : KeepsLog s (exec (.selfTestWave bad) s) := by
  refine keepsLog_ok fun h => ?_
  dsimp only
  repeat' split
  all_goals simp [h]

@[simp] theorem boot_keepsLog (prim sec : Option (List Byte)) (s : State) : KeepsLog s (exec (.boot prim sec) s) :=
  keepsLog_ok fun h => by simpa using h

/-! ### Tracker -/

@[simp] theorem trackerUpdate_keepsLog (s : State) : KeepsLog s (exec (.trackerUpdate) s) := keepsLog_ok fun h => by simpa using h

@[simp] theorem sourceFault_keepsLog (x : Fin 8) (src : Fin 2) (s : State) : KeepsLog s (exec (.sourceFault x src) s) :=
  keepsLog_ok fun h => by simpa using h

@[simp] theorem trackerFault_keepsLog (x : Fin 8) (s : State) : KeepsLog s (exec (.trackerFault x) s) :=
  keepsLog_ok fun h => by simpa using h

@[simp] theorem trackerEnable_keepsLog (ag : Agent) (x : Fin 8) (v : Word) (s : State) : KeepsLog s (exec (.trackerEnable ag x v) s) :=
  keepsLog_ok fun h => by simpa using h

@[simp] theorem modeChange_keepsLog (ag : Agent) (x : Fin 8) (mode : BitVec 2) (s : State) : KeepsLog s (exec (.modeChange ag x mode) s) :=
  keepsLog_ok fun h => by simpa using h

@[simp] theorem angleSet_keepsLog (ag : Agent) (x : Fin 8) (rev : Half) (s : State) : KeepsLog s (exec (.angleSet ag x rev) s) :=
  keepsLog_ok fun h => by simpa using h

@[simp] theorem angCmdPri_keepsLog (ag : Agent) (x : Fin 8) (s : State) : KeepsLog s (exec (.angCmdPri ag x) s) :=
  keepsLog_ok fun h => by simpa using h

@[simp] theorem angObsWrite_keepsLog (ag : Agent) (x : Fin 8) (v : Word) (s : State) : KeepsLog s (exec (.angObsWrite ag x v) s) :=
  keepsLog_ok fun h => by simpa using h

/-! ### Power -/

@[simp] theorem doze_keepsLog (ag : Agent) (s : State) : KeepsLog s (exec (.doze ag) s) := keepsLog_ok fun h => by simpa using h
@[simp] theorem keep_keepsLog (ag : Agent) (s : State) : KeepsLog s (exec (.keep ag) s) := keepsLog_ok fun h => by simpa using h
@[simp] theorem quiescence_keepsLog (s : State) : KeepsLog s (exec (.quiescence) s) := keepsLog_ok fun h => by split <;> simp [h]

@[simp] theorem quiescenceTimeout_keepsLog (s : State) : KeepsLog s (exec (.quiescenceTimeout) s) :=
  keepsLog_ok fun h => by split <;> simp [h]

@[simp] theorem entryDrain_keepsLog (s : State) : KeepsLog s (exec (.entryDrain) s) := keepsLog_ok fun h => by split <;> simp [h]
@[simp] theorem entryCommit_keepsLog (s : State) : KeepsLog s (exec (.entryCommit) s) := keepsLog_ok fun h => by split <;> simp [h]
@[simp] theorem entryComplete_keepsLog (s : State) : KeepsLog s (exec (.entryComplete) s) := keepsLog_ok fun h => by split <;> simp [h]
@[simp] theorem dozeExit_keepsLog (s : State) : KeepsLog s (exec (.dozeExit) s) := keepsLog_ok fun h => by split <;> simp [h]
@[simp] theorem consentExpiry_keepsLog (s : State) : KeepsLog s (exec (.consentExpiry) s) := keepsLog_ok fun h => by simpa using h

@[simp] theorem wakeSample_keepsLog (k : Fin 8) (v : Int) (s : State) : KeepsLog s (exec (.wakeSample k v) s) :=
  keepsLog_ok fun h => by simpa using h

@[simp] theorem wake_keepsLog (s : State) : KeepsLog s (exec (.wake) s) := keepsLog_ok fun h => by split <;> simp [h]
@[simp] theorem wakePowerUp_keepsLog (s : State) : KeepsLog s (exec (.wakePowerUp) s) := keepsLog_ok fun h => by split <;> simp [h]

@[simp] theorem wakePllLock_keepsLog (levels : BitVec 16) (s : State) : KeepsLog s (exec (.wakePllLock levels) s) :=
  keepsLog_ok fun h => by split <;> simp [h]

@[simp] theorem wakeFailure_keepsLog (s : State) : KeepsLog s (exec (.wakeFailure) s) := keepsLog_ok fun h => by split <;> simp [h]
@[simp] theorem wakeRetry_keepsLog (s : State) : KeepsLog s (exec (.wakeRetry) s) := keepsLog_ok fun h => by split <;> simp [h]

/-! ### SornasCtl -/

@[simp] theorem clarke_keepsLog (p : Proc) (gd : BitVec 3) (rd ra rb : BitVec 5) (s : State) :
    KeepsLog s (exec (.clarke p gd rd ra rb) s) := keepsLog_ok fun h => by simpa using h

@[simp] theorem clarke3_keepsLog (p : Proc) (gd : BitVec 3) (rd ra rb : BitVec 5) (s : State) :
    KeepsLog s (exec (.clarke3 p gd rd ra rb) s) := keepsLog_ok fun h => by simpa using h

@[simp] theorem park_keepsLog (p : Proc) (gd : BitVec 3) (rd ra rb : BitVec 5) (s : State) : KeepsLog s (exec (.park p gd rd ra rb) s) :=
  keepsLog_ok fun h => by simpa using h

@[simp] theorem ipark_keepsLog (p : Proc) (gd : BitVec 3) (rd ra rb : BitVec 5) (s : State) : KeepsLog s (exec (.ipark p gd rd ra rb) s) :=
  keepsLog_ok fun h => by simpa using h

@[simp] theorem sincos_keepsLog (p : Proc) (gd : BitVec 3) (rd ra rb : BitVec 5) (s : State) :
    KeepsLog s (exec (.sincos p gd rd ra rb) s) := keepsLog_ok fun h => by simpa using h

@[simp] theorem sv_keepsLog (p : Proc) (gd : BitVec 3) (rd ra rb : BitVec 5) (s : State) : KeepsLog s (exec (.sv p gd rd ra rb) s) :=
  keepsLog_ok fun h => by simpa using h

@[simp] theorem sin_keepsLog (p : Proc) (gd : BitVec 3) (rd ra rb : BitVec 5) (s : State) : KeepsLog s (exec (.sin p gd rd ra rb) s) :=
  keepsLog_ok fun h => by simpa using h

@[simp] theorem dmin_keepsLog (p : Proc) (gd : BitVec 3) (rd ra rb : BitVec 5) (s : State) : KeepsLog s (exec (.dmin p gd rd ra rb) s) :=
  keepsLog_ok fun h => by simpa using h

@[simp] theorem vec_keepsLog (p : Proc) (gd : BitVec 3) (rd ra rb : BitVec 5) (s : State) : KeepsLog s (exec (.vec p gd rd ra rb) s) :=
  keepsLog_ok fun h => by simpa using h

@[simp] theorem rot_keepsLog (p : Proc) (gd : BitVec 3) (rd ra rb : BitVec 5) (s : State) : KeepsLog s (exec (.rot p gd rd ra rb) s) :=
  keepsLog_ok fun h => by simpa using h

@[simp] theorem gbrd_keepsLog (p : Proc) (gd : BitVec 3) (rd : BitVec 5) (spn : BitVec 10) (s : State) :
    KeepsLog s (exec (.gbrd p gd rd spn) s) := keepsLog_ok fun h => by simpa using h

@[simp] theorem gbrda_keepsLog (p : Proc) (gd : BitVec 3) (rd : BitVec 5) (spn : BitVec 10) (s : State) :
    KeepsLog s (exec (.gbrda p gd rd spn) s) := keepsLog_ok fun h => by simpa using h

@[simp] theorem gbwr_keepsLog (p : Proc) (gd : BitVec 3) (rd : BitVec 5) (spn : BitVec 10) (s : State) :
    KeepsLog s (exec (.gbwr p gd rd spn) s) := keepsLog_ok fun h => by simpa using h

@[simp] theorem lutg_keepsLog (p : Proc) (gd : BitVec 3) (rd ra rb : BitVec 5) (fn : BitVec 8) (s : State) :
    KeepsLog s (exec (.lutg p gd rd ra rb fn) s) := keepsLog_ok fun h => by simpa using h

@[simp] theorem pi_keepsLog (p : Proc) (gd : BitVec 3) (rd ra rb fn : BitVec 5) (s : State) : KeepsLog s (exec (.pi p gd rd ra rb fn) s) :=
  keepsLog_ok fun h => by simpa using h

@[simp] theorem pid_keepsLog (p : Proc) (gd : BitVec 3) (rd ra rb fn : BitVec 5) (s : State) :
    KeepsLog s (exec (.pid p gd rd ra rb fn) s) := keepsLog_ok fun h => by simpa using h

/-! ### Bus -/

@[simp] theorem registerWrite_keepsLog (ag : Agent) (addr v : Word) (s : State) : KeepsLog s (exec (.registerWrite ag addr v) s) :=
  keepsLog_ok fun h => by simp [h]

@[simp] theorem rcRead_keepsLog (ag : Agent) (addr : Word) (s : State) : KeepsLog s (exec (.rcRead ag addr) s) :=
  keepsLog_ok fun h => by simpa using h

@[simp] theorem fabErrPop_keepsLog (ag : Agent) (v : Word) (s : State) : KeepsLog s (exec (.fabErrPop ag v) s) := by
  refine keepsLog_ok fun h => State.asWrite_keeps h ?_
  split
  · exact State.popErr_logFits h
  · exact h

@[simp] theorem transactionTimeout_keepsLog (ag : Agent) (write : Bool) (addr : Word) (s : State) :
    KeepsLog s (exec (.transactionTimeout ag write addr) s) := by
  refine keepsLog_ok fun h => ?_
  dsimp only
  repeat' split
  all_goals simp [h]

@[simp] theorem errorEscalation_keepsLog (unit : Nat) (s : State) : KeepsLog s (exec (.errorEscalation unit) s) :=
  keepsLog_ok fun h => by split <;> simp [h]

@[simp] theorem bankScrub_keepsLog (b : Fin 16) (bank : Fin 8) (line : BitVec 13) (found : Ecc) (s : State) :
    KeepsLog s (exec (.bankScrub b bank line found) s) := keepsLog_ok fun h => by simpa using h

@[simp] theorem arrayScrub_keepsLog (arr : ScrubArray) (word : BitVec 21) (found : Ecc) (s : State) :
    KeepsLog s (exec (.arrayScrub arr word found) s) := keepsLog_ok fun h => by simpa using h

/-! ### SornasFlow -/

@[simp] theorem br_keepsLog (p : Proc) (gd : BitVec 3) (off : BitVec 23) (s : State) : KeepsLog s (exec (.br p gd off) s) :=
  keepsLog_ok fun h => by simpa using h

@[simp] theorem call_keepsLog (p : Proc) (gd : BitVec 3) (off : BitVec 23) (s : State) : KeepsLog s (exec (.call p gd off) s) :=
  keepsLog_ok fun h => by simpa using h

@[simp] theorem jr_keepsLog (p : Proc) (gd : BitVec 3) (rd ra rb : BitVec 5) (s : State) : KeepsLog s (exec (.jr p gd rd ra rb) s) :=
  keepsLog_ok fun h => by simpa using h

@[simp] theorem jrLink_keepsLog (p : Proc) (gd : BitVec 3) (rd ra rb : BitVec 5) (s : State) :
    KeepsLog s (exec (.jrLink p gd rd ra rb) s) := keepsLog_ok fun h => by simpa using h

@[simp] theorem loop_keepsLog (p : Proc) (gd : BitVec 3) (n ci : BitVec 1) (cnt : BitVec 12) (ra : BitVec 5) (len : BitVec 9) (s : State) :
    KeepsLog s (exec (.loop p gd n ci cnt ra len) s) := keepsLog_ok fun h => by simpa using h

@[simp] theorem nop_keepsLog (p : Proc) (gd : BitVec 3) (rd : BitVec 5) (spn : BitVec 10) (s : State) :
    KeepsLog s (exec (.nop p gd rd spn) s) := keepsLog_ok fun h => by simpa using h

@[simp] theorem trap_keepsLog (p : Proc) (gd : BitVec 3) (rd : BitVec 5) (spn : BitVec 10) (s : State) :
    KeepsLog s (exec (.trap p gd rd spn) s) := keepsLog_ok fun h => by simpa using h

@[simp] theorem eret_keepsLog (p : Proc) (gd : BitVec 3) (rd : BitVec 5) (spn : BitVec 10) (s : State) :
    KeepsLog s (exec (.eret p gd rd spn) s) := keepsLog_ok fun h => by split <;> simp [h]

@[simp] theorem brk_keepsLog (p : Proc) (gd : BitVec 3) (rd : BitVec 5) (spn : BitVec 10) (s : State) :
    KeepsLog s (exec (.brk p gd rd spn) s) := keepsLog_ok fun h => by simpa using h

@[simp] theorem mfs_keepsLog (p : Proc) (gd : BitVec 3) (rd : BitVec 5) (spn : BitVec 10) (s : State) :
    KeepsLog s (exec (.mfs p gd rd spn) s) := keepsLog_ok fun h => by simpa using h

@[simp] theorem mts_keepsLog (p : Proc) (gd : BitVec 3) (rd : BitVec 5) (spn : BitVec 10) (s : State) :
    KeepsLog s (exec (.mts p gd rd spn) s) := keepsLog_ok fun h => by split <;> simp [h]

@[simp] theorem eventEntry_keepsLog (c : Fin 128) (s : State) : KeepsLog s (exec (.eventEntry c) s) := by
  refine keepsLog_ok fun h => ?_
  dsimp only
  split <;> simp [h]

@[simp] theorem accessPostedTrap_keepsLog (p : Proc) (s : State) : KeepsLog s (exec (.accessPostedTrap p) s) := by
  refine keepsLog_ok fun h => ?_
  dsimp only
  repeat' split
  all_goals simp [h]

@[simp] theorem waitTimeout_keepsLog (c : Fin 128) (s : State) : KeepsLog s (exec (.waitTimeout c) s) :=
  keepsLog_ok fun h => by split <;> simp [h]

/-! ### SornasMem -/

@[simp] theorem writeBufferDrain_keepsLog (c : Fin 128) (s : State) : KeepsLog s (exec (.writeBufferDrain c) s) :=
  keepsLog_ok fun h => by simp [h]

@[simp] theorem ld_keepsLog (p : Proc) (gd : BitVec 3) (rd ra : BitVec 5) (wd : BitVec 2) (imm : BitVec 11) (s : State) :
    KeepsLog s (exec (.ld p gd rd ra wd imm) s) := keepsLog_ok fun h => by simp [h]

@[simp] theorem ldu_keepsLog (p : Proc) (gd : BitVec 3) (rd ra : BitVec 5) (wd : BitVec 2) (imm : BitVec 11) (s : State) :
    KeepsLog s (exec (.ldu p gd rd ra wd imm) s) := keepsLog_ok fun h => by simp [h]

@[simp] theorem st_keepsLog (p : Proc) (gd : BitVec 3) (rd ra : BitVec 5) (wd : BitVec 2) (imm : BitVec 11) (s : State) :
    KeepsLog s (exec (.st p gd rd ra wd imm) s) := keepsLog_ok fun h => by simp [h]

@[simp] theorem ldstxLoad_keepsLog (p : Proc) (gd : BitVec 3) (rd ra : BitVec 5) (wd md : BitVec 2) (imm : BitVec 8) (s : State) :
    KeepsLog s (exec (.ldstxLoad p gd rd ra wd md imm) s) := keepsLog_ok fun h => by simp [h]

@[simp] theorem ldstxStore_keepsLog (p : Proc) (gd : BitVec 3) (rd ra : BitVec 5) (wd md : BitVec 2) (imm : BitVec 8) (s : State) :
    KeepsLog s (exec (.ldstxStore p gd rd ra wd md imm) s) := keepsLog_ok fun h => by simp [h]

/-! ### SornasLong -/

@[simp] theorem blkmac_keepsLog (p : Proc) (gd : BitVec 3) (aa ab : BitVec 2) (ra rb : BitVec 5) (fn : BitVec 8) (most : BitVec 16)
    (s : State) :
    KeepsLog s (exec (.blkmac p gd aa ab ra rb fn most) s) := by
  refine keepsLog_ok fun h => ?_
  split
  · next c =>
    refine State.runMem_keeps h ?_ ..
    extract_lets k n
    have hb := s.blkmac_keeps h c aa (k.u .c ra.toNat) (k.u .c rb.toNat) n (fn.getLsbD 0) most.toNat
    split
    · next heq =>
      rw [heq, MemRes.fits_done] at hb
      extract_lets s2
      have h2 : LogFits s2.fabLog := by
        unfold s2
        split
        · simpa using hb
        · exact hb
      rw [MemRes.fits_done]
      split
      · simpa using h2
      · exact h2
    · exact hb
  · exact State.runMem_keeps h ((MemRes.fits_done s).2 h) ..
  · exact State.runMem_keeps h ((MemRes.fits_done s).2 h) ..

@[simp] theorem movb_keepsLog (p : Proc) (gd : BitVec 3) (rd ra rb : BitVec 5) (most : BitVec 16) (s : State) :
    KeepsLog s (exec (.movb p gd rd ra rb most) s) := keepsLog_ok fun h => by simp [h]

@[simp] theorem fillb_keepsLog (p : Proc) (gd : BitVec 3) (rd ra rb : BitVec 5) (most : BitVec 16) (s : State) :
    KeepsLog s (exec (.fillb p gd rd ra rb most) s) := keepsLog_ok fun h => by simp [h]

@[simp] theorem ckpt_keepsLog (p : Proc) (gd : BitVec 3) (rd ra rb : BitVec 5) (fn : BitVec 8) (s : State) :
    KeepsLog s (exec (.ckpt p gd rd ra rb fn) s) := by
  refine keepsLog_ok fun h => ?_
  dsimp only
  split
  · refine (congrArg LogFits (State.twinCheck_fabLog ..)).mpr (State.runMem_keeps h ?_ ..)
    split
    · simpa using h
    · split
      · simpa using h
      · split
        · simpa using h
        · split <;> simpa using h
  · exact State.runMem_keeps h ((MemRes.fits_done s).2 h) ..
  · exact State.runMem_keeps h ((MemRes.fits_done s).2 h) ..

@[simp] theorem submit_keepsLog (p : Proc) (gd : BitVec 3) (rd ra rb : BitVec 5) (fn : BitVec 8) (s : State) :
    KeepsLog s (exec (.submit p gd rd ra rb fn) s) := by
  refine keepsLog_ok fun h => ?_
  extract_lets w wait
  split
  · extract_lets legal
    refine (congrArg LogFits (State.twinCheck_fabLog ..)).mpr (State.runMem_keeps h ?_ ..)
    extract_lets a base word s0 s1
    have h1 : LogFits s1.fabLog := by simp [s1, s0, h]
    split
    · simpa using h
    · split
      · simpa using h
      · split
        · simpa using h1
        · exact h1
  · exact State.runMem_keeps h ((MemRes.fits_done s).2 h) ..
  · exact State.runMem_keeps h ((MemRes.fits_done s).2 h) ..

@[simp] theorem wait_keepsLog (p : Proc) (gd : BitVec 3) (rd ra rb : BitVec 5) (fn : BitVec 7) (s : State) :
    KeepsLog s (exec (.wait p gd rd ra rb fn) s) := keepsLog_ok fun h => by simp [h]

@[simp] theorem waitp_keepsLog (p : Proc) (gd : BitVec 3) (rd ra rb : BitVec 5) (fn : BitVec 7) (s : State) :
    KeepsLog s (exec (.waitp p gd rd ra rb fn) s) := keepsLog_ok fun h => by simp [h]

@[simp] theorem fenceB_keepsLog (p : Proc) (gd : BitVec 3) (rd ra rb : BitVec 5) (s : State) :
    KeepsLog s (exec (.fenceB p gd rd ra rb) s) := keepsLog_ok fun h => by simp [h]

@[simp] theorem fenceR_keepsLog (p : Proc) (gd : BitVec 3) (rd ra rb : BitVec 5) (s : State) :
    KeepsLog s (exec (.fenceR p gd rd ra rb) s) := keepsLog_ok fun h => by simp [h]

@[simp] theorem fenceC_keepsLog (p : Proc) (gd : BitVec 3) (rd ra rb : BitVec 5) (s : State) :
    KeepsLog s (exec (.fenceC p gd rd ra rb) s) := keepsLog_ok fun h => by simp [h]

@[simp] theorem fenceE_keepsLog (p : Proc) (gd : BitVec 3) (rd ra rb : BitVec 5) (s : State) :
    KeepsLog s (exec (.fenceE p gd rd ra rb) s) := keepsLog_ok fun h => by split <;> simp [h]

@[simp] theorem fenceComplete_keepsLog (p : Proc) (s : State) : KeepsLog s (exec (.fenceComplete p) s) :=
  keepsLog_ok fun h => by split <;> simp [h]

/-! ### Columns -/

@[simp] theorem csrr_keepsLog (p : Proc) (gd : BitVec 3) (rd ra : BitVec 5) (imm : BitVec 13) (s : State) :
    KeepsLog s (exec (.csrr p gd rd ra imm) s) := keepsLog_ok fun h => by simp [h]

@[simp] theorem csrw_keepsLog (p : Proc) (gd : BitVec 3) (rd ra : BitVec 5) (imm : BitVec 13) (s : State) :
    KeepsLog s (exec (.csrw p gd rd ra imm) s) := keepsLog_ok fun h => by simp [h]

@[simp] theorem csrs_keepsLog (p : Proc) (gd : BitVec 3) (rd ra : BitVec 5) (imm : BitVec 13) (s : State) :
    KeepsLog s (exec (.csrs p gd rd ra imm) s) := keepsLog_ok fun h => by simp [h]

@[simp] theorem csrc_keepsLog (p : Proc) (gd : BitVec 3) (rd ra : BitVec 5) (imm : BitVec 13) (s : State) :
    KeepsLog s (exec (.csrc p gd rd ra imm) s) := keepsLog_ok fun h => by simp [h]

@[simp] theorem curchWrite_keepsLog (p : Proc) (gd : BitVec 3) (rd ra : BitVec 5) (s : State) :
    KeepsLog s (exec (.curchWrite p gd rd ra) s) := keepsLog_ok fun h => by simp [h]

@[simp] theorem swi_keepsLog (p : Proc) (gd : BitVec 3) (rd ra : BitVec 5) (s : State) : KeepsLog s (exec (.swi p gd rd ra) s) :=
  keepsLog_ok fun h => by simp [h]

@[simp] theorem interruptEntry_keepsLog (p : Proc) (s : State) : KeepsLog s (exec (.interruptEntry p) s) := by
  refine keepsLog_ok fun h => ?_
  dsimp only
  repeat' split
  all_goals simp [h]

@[simp] theorem wfi_keepsLog (p : Proc) (gd : BitVec 3) (rd ra rb : BitVec 5) (fn : Byte) (s : State) :
    KeepsLog s (exec (.wfi p gd rd ra rb fn) s) := by
  refine keepsLog_ok fun h => State.runSup_keeps h ?_ ..
  split
  · exact h
  · simpa using h

@[simp] theorem timerCompare_keepsLog (ix : Fin 6) (s : State) : KeepsLog s (exec (.timerCompare ix) s) := by
  refine keepsLog_ok fun h => ?_
  dsimp only
  repeat' split
  all_goals simp [h]

@[simp] theorem cacheInvalidateLine_keepsLog (p : Proc) (gd : BitVec 3) (rd ra rb : BitVec 5) (s : State) :
    KeepsLog s (exec (.cacheInvalidateLine p gd rd ra rb) s) := keepsLog_ok fun h => by simp [h]

@[simp] theorem cacheWritebackLine_keepsLog (p : Proc) (gd : BitVec 3) (rd ra rb : BitVec 5) (s : State) :
    KeepsLog s (exec (.cacheWritebackLine p gd rd ra rb) s) := by
  refine keepsLog_ok fun h => State.runCache_keeps h (fun c a => ?_) ..
  rw [MemRes.fits_done]
  split
  · exact State.writeBack_keeps h ..
  · exact h

@[simp] theorem cacheFlushLine_keepsLog (p : Proc) (gd : BitVec 3) (rd ra rb : BitVec 5) (s : State) :
    KeepsLog s (exec (.cacheFlushLine p gd rd ra rb) s) := keepsLog_ok fun h => by simp [h]

@[simp] theorem cacheInvalidateIline_keepsLog (p : Proc) (gd : BitVec 3) (rd ra rb : BitVec 5) (s : State) :
    KeepsLog s (exec (.cacheInvalidateIline p gd rd ra rb) s) := keepsLog_ok fun h => by simp [h]

@[simp] theorem cacheFlushData_keepsLog (p : Proc) (gd : BitVec 3) (rd ra rb : BitVec 5) (most : BitVec 10) (s : State) :
    KeepsLog s (exec (.cacheFlushData p gd rd ra rb most) s) :=
  keepsLog_ok fun h => State.runCache_keeps h (fun c _ => State.flushAll_keeps h c most.toNat) ..

@[simp] theorem cacheInvalidateInstr_keepsLog (p : Proc) (gd : BitVec 3) (rd ra rb : BitVec 5) (s : State) :
    KeepsLog s (exec (.cacheInvalidateInstr p gd rd ra rb) s) := keepsLog_ok fun h => by simp [h]

@[simp] theorem bmov_keepsLog (p : Proc) (gd : BitVec 3) (rd ra rb : BitVec 5) (most : BitVec 16) (s : State) :
    KeepsLog s (exec (.bmov p gd rd ra rb most) s) := keepsLog_ok fun h => by simp [h]

@[simp] theorem bmovFill_keepsLog (p : Proc) (gd : BitVec 3) (rd ra rb : BitVec 5) (most : BitVec 16) (s : State) :
    KeepsLog s (exec (.bmovFill p gd rd ra rb most) s) := keepsLog_ok fun h => by simp [h]

@[simp] theorem savem_keepsLog (p : Proc) (gd : BitVec 3) (rd ra rb : BitVec 5) (fn : Byte) (most : BitVec 6) (s : State) :
    KeepsLog s (exec (.savem p gd rd ra rb fn most) s) := by
  refine keepsLog_ok fun h => State.runSup_keeps h (State.longRun_keeps h (fun i s h => ?_) ..) ..
  extract_lets a k v
  have hx := s.sStore_keeps h p a 4 v
  split
  · next heq => exact hx.val heq
  · next heq => exact hx.stay heq
  · next heq => exact hx.bad heq

@[simp] theorem restm_keepsLog (p : Proc) (gd : BitVec 3) (rd ra rb : BitVec 5) (fn : Byte) (most : BitVec 6) (s : State) :
    KeepsLog s (exec (.restm p gd rd ra rb fn most) s) := by
  refine keepsLog_ok fun h => State.runSup_keeps h (State.longRun_keeps h (fun i s h => ?_) ..) ..
  extract_lets a
  have hx := s.sLoad_keeps h p a 4
  split
  · next heq => simpa using hx.val heq
  · next heq => exact hx.stay heq
  · next heq => exact hx.bad heq

@[simp] theorem lockstepMismatch_keepsLog (ix : Fin 6) (cause : Fin 3) (s : State) : KeepsLog s (exec (.lockstepMismatch ix cause) s) :=
  keepsLog_ok fun h => by simpa using h

@[simp] theorem asyncMismatch_keepsLog (ix : Fin 6) (persists : Bool) (s : State) : KeepsLog s (exec (.asyncMismatch ix persists) s) :=
  keepsLog_ok fun h => by simpa using h

@[simp] theorem injectionPass_keepsLog (ix : Fin 6) (reported : Word) (s : State) : KeepsLog s (exec (.injectionPass ix reported) s) :=
  keepsLog_ok fun h => by simpa using h

@[simp] theorem confirmedAliasRead_keepsLog (c : Fin 5) (rd : BitVec 5) (wake agreed : Bool) (s : State) :
    KeepsLog s (exec (.confirmedAliasRead c rd wake agreed) s) := by
  refine keepsLog_ok fun h => State.runMem_keeps h ?_ ..
  extract_lets a
  have hx := s.sLoad_keeps h (.col c) a 4
  split
  · next heq =>
    have h1 := hx.val heq
    dsimp only
    rw [MemRes.fits_done]
    split
    · simpa using h1
    · simpa using h1
  · next heq => exact hx.stay heq
  · next heq => exact hx.bad heq

@[simp] theorem columnWatchdogExpiry_keepsLog (c : Fin 5) (s : State) : KeepsLog s (exec (.columnWatchdogExpiry c) s) := by
  refine keepsLog_ok fun h => ?_
  extract_lets n i s1
  have h1 : LogFits s1.fabLog := by simpa [s1] using h
  split
  · exact h
  · split
    · simp [h1]
    · exact h1

@[simp] theorem columnRestart_keepsLog (c : Fin 4) (s : State) : KeepsLog s (exec (.columnRestart c) s) :=
  keepsLog_ok fun h => by simpa using h

/-! ### Drip -/

@[simp] theorem dripSlice_keepsLog (k : Fin 6) (fails : List Nat) (s : State) : KeepsLog s (exec (.dripSlice k fails) s) := by
  refine keepsLog_ok fun h => ?_
  dsimp only
  repeat' split
  all_goals simp [h]

/-! ### SornasAlu -/

@[simp] theorem add_keepsLog (p : Proc) (gd : BitVec 3) (rd ra rb : BitVec 5) (s : State) : KeepsLog s (exec (.add p gd rd ra rb) s) :=
  keepsLog_ok fun h => by simpa using h

@[simp] theorem sub_keepsLog (p : Proc) (gd : BitVec 3) (rd ra rb : BitVec 5) (s : State) : KeepsLog s (exec (.sub p gd rd ra rb) s) :=
  keepsLog_ok fun h => by simpa using h

@[simp] theorem addw_keepsLog (p : Proc) (gd : BitVec 3) (rd ra rb : BitVec 5) (s : State) : KeepsLog s (exec (.addw p gd rd ra rb) s) :=
  keepsLog_ok fun h => by simpa using h

@[simp] theorem subw_keepsLog (p : Proc) (gd : BitVec 3) (rd ra rb : BitVec 5) (s : State) : KeepsLog s (exec (.subw p gd rd ra rb) s) :=
  keepsLog_ok fun h => by simpa using h

@[simp] theorem and_keepsLog (p : Proc) (gd : BitVec 3) (rd ra rb : BitVec 5) (s : State) : KeepsLog s (exec (.and p gd rd ra rb) s) :=
  keepsLog_ok fun h => by simpa using h

@[simp] theorem or_keepsLog (p : Proc) (gd : BitVec 3) (rd ra rb : BitVec 5) (s : State) : KeepsLog s (exec (.or p gd rd ra rb) s) :=
  keepsLog_ok fun h => by simpa using h

@[simp] theorem xor_keepsLog (p : Proc) (gd : BitVec 3) (rd ra rb : BitVec 5) (s : State) : KeepsLog s (exec (.xor p gd rd ra rb) s) :=
  keepsLog_ok fun h => by simpa using h

@[simp] theorem andn_keepsLog (p : Proc) (gd : BitVec 3) (rd ra rb : BitVec 5) (s : State) : KeepsLog s (exec (.andn p gd rd ra rb) s) :=
  keepsLog_ok fun h => by simpa using h

@[simp] theorem shl_keepsLog (p : Proc) (gd : BitVec 3) (rd ra rb : BitVec 5) (s : State) : KeepsLog s (exec (.shl p gd rd ra rb) s) :=
  keepsLog_ok fun h => by simpa using h

@[simp] theorem shr_keepsLog (p : Proc) (gd : BitVec 3) (rd ra rb : BitVec 5) (s : State) : KeepsLog s (exec (.shr p gd rd ra rb) s) :=
  keepsLog_ok fun h => by simpa using h

@[simp] theorem sra_keepsLog (p : Proc) (gd : BitVec 3) (rd ra rb : BitVec 5) (s : State) : KeepsLog s (exec (.sra p gd rd ra rb) s) :=
  keepsLog_ok fun h => by simpa using h

@[simp] theorem shls_keepsLog (p : Proc) (gd : BitVec 3) (rd ra rb : BitVec 5) (s : State) : KeepsLog s (exec (.shls p gd rd ra rb) s) :=
  keepsLog_ok fun h => by simpa using h

@[simp] theorem min_keepsLog (p : Proc) (gd : BitVec 3) (rd ra rb : BitVec 5) (s : State) : KeepsLog s (exec (.min p gd rd ra rb) s) :=
  keepsLog_ok fun h => by simpa using h

@[simp] theorem max_keepsLog (p : Proc) (gd : BitVec 3) (rd ra rb : BitVec 5) (s : State) : KeepsLog s (exec (.max p gd rd ra rb) s) :=
  keepsLog_ok fun h => by simpa using h

@[simp] theorem minu_keepsLog (p : Proc) (gd : BitVec 3) (rd ra rb : BitVec 5) (s : State) : KeepsLog s (exec (.minu p gd rd ra rb) s) :=
  keepsLog_ok fun h => by simpa using h

@[simp] theorem maxu_keepsLog (p : Proc) (gd : BitVec 3) (rd ra rb : BitVec 5) (s : State) : KeepsLog s (exec (.maxu p gd rd ra rb) s) :=
  keepsLog_ok fun h => by simpa using h

@[simp] theorem neg_keepsLog (p : Proc) (gd : BitVec 3) (rd ra rb : BitVec 5) (s : State) : KeepsLog s (exec (.neg p gd rd ra rb) s) :=
  keepsLog_ok fun h => by simpa using h

@[simp] theorem abs_keepsLog (p : Proc) (gd : BitVec 3) (rd ra rb : BitVec 5) (s : State) : KeepsLog s (exec (.abs p gd rd ra rb) s) :=
  keepsLog_ok fun h => by simpa using h

@[simp] theorem clip_keepsLog (p : Proc) (gd : BitVec 3) (rd ra rb : BitVec 5) (s : State) : KeepsLog s (exec (.clip p gd rd ra rb) s) :=
  keepsLog_ok fun h => by simpa using h

@[simp] theorem cls_keepsLog (p : Proc) (gd : BitVec 3) (rd ra rb : BitVec 5) (s : State) : KeepsLog s (exec (.cls p gd rd ra rb) s) :=
  keepsLog_ok fun h => by simpa using h

@[simp] theorem clz_keepsLog (p : Proc) (gd : BitVec 3) (rd ra rb : BitVec 5) (s : State) : KeepsLog s (exec (.clz p gd rd ra rb) s) :=
  keepsLog_ok fun h => by simpa using h

@[simp] theorem mov_keepsLog (p : Proc) (gd : BitVec 3) (rd ra rb : BitVec 5) (s : State) : KeepsLog s (exec (.mov p gd rd ra rb) s) :=
  keepsLog_ok fun h => by simpa using h

@[simp] theorem avg_keepsLog (p : Proc) (gd : BitVec 3) (rd ra rb : BitVec 5) (s : State) : KeepsLog s (exec (.avg p gd rd ra rb) s) :=
  keepsLog_ok fun h => by simpa using h

@[simp] theorem ror_keepsLog (p : Proc) (gd : BitVec 3) (rd ra rb : BitVec 5) (s : State) : KeepsLog s (exec (.ror p gd rd ra rb) s) :=
  keepsLog_ok fun h => by simpa using h

@[simp] theorem addi_keepsLog (p : Proc) (gd : BitVec 3) (rd ra : BitVec 5) (imm : BitVec 13) (s : State) :
    KeepsLog s (exec (.addi p gd rd ra imm) s) := keepsLog_ok fun h => by simpa using h

@[simp] theorem andi_keepsLog (p : Proc) (gd : BitVec 3) (rd ra : BitVec 5) (imm : BitVec 13) (s : State) :
    KeepsLog s (exec (.andi p gd rd ra imm) s) := keepsLog_ok fun h => by simpa using h

@[simp] theorem ori_keepsLog (p : Proc) (gd : BitVec 3) (rd ra : BitVec 5) (imm : BitVec 13) (s : State) :
    KeepsLog s (exec (.ori p gd rd ra imm) s) := keepsLog_ok fun h => by simpa using h

@[simp] theorem xori_keepsLog (p : Proc) (gd : BitVec 3) (rd ra : BitVec 5) (imm : BitVec 13) (s : State) :
    KeepsLog s (exec (.xori p gd rd ra imm) s) := keepsLog_ok fun h => by simpa using h

@[simp] theorem shiShl_keepsLog (p : Proc) (gd : BitVec 3) (rd ra : BitVec 5) (imm : BitVec 10) (s : State) :
    KeepsLog s (exec (.shiShl p gd rd ra imm) s) := keepsLog_ok fun h => by simpa using h

@[simp] theorem shiShr_keepsLog (p : Proc) (gd : BitVec 3) (rd ra : BitVec 5) (imm : BitVec 10) (s : State) :
    KeepsLog s (exec (.shiShr p gd rd ra imm) s) := keepsLog_ok fun h => by simpa using h

@[simp] theorem shiSra_keepsLog (p : Proc) (gd : BitVec 3) (rd ra : BitVec 5) (imm : BitVec 10) (s : State) :
    KeepsLog s (exec (.shiSra p gd rd ra imm) s) := keepsLog_ok fun h => by simpa using h

@[simp] theorem shiShls_keepsLog (p : Proc) (gd : BitVec 3) (rd ra : BitVec 5) (imm : BitVec 10) (s : State) :
    KeepsLog s (exec (.shiShls p gd rd ra imm) s) := keepsLog_ok fun h => by simpa using h

@[simp] theorem shiRor_keepsLog (p : Proc) (gd : BitVec 3) (rd ra : BitVec 5) (imm : BitVec 10) (s : State) :
    KeepsLog s (exec (.shiRor p gd rd ra imm) s) := keepsLog_ok fun h => by simpa using h

@[simp] theorem li_keepsLog (p : Proc) (gd : BitVec 3) (rd : BitVec 5) (imm : BitVec 18) (s : State) :
    KeepsLog s (exec (.li p gd rd imm) s) := keepsLog_ok fun h => by simpa using h

@[simp] theorem lih_keepsLog (p : Proc) (gd : BitVec 3) (rd : BitVec 5) (imm : BitVec 18) (s : State) :
    KeepsLog s (exec (.lih p gd rd imm) s) := keepsLog_ok fun h => by simpa using h

@[simp] theorem extu_keepsLog (p : Proc) (gd : BitVec 3) (rd ra pos len1 : BitVec 5) (s : State) :
    KeepsLog s (exec (.extu p gd rd ra pos len1) s) := keepsLog_ok fun h => by simpa using h

@[simp] theorem exts_keepsLog (p : Proc) (gd : BitVec 3) (rd ra pos len1 : BitVec 5) (s : State) :
    KeepsLog s (exec (.exts p gd rd ra pos len1) s) := keepsLog_ok fun h => by simpa using h

@[simp] theorem ins_keepsLog (p : Proc) (gd : BitVec 3) (rd ra pos len1 : BitVec 5) (s : State) :
    KeepsLog s (exec (.ins p gd rd ra pos len1) s) := keepsLog_ok fun h => by simpa using h

@[simp] theorem cmp_keepsLog (p : Proc) (gd : BitVec 3) (pd : BitVec 2) (cond : BitVec 3) (ra rb : BitVec 5) (fn : BitVec 8) (s : State) :
    KeepsLog s (exec (.cmp p gd pd cond ra rb fn) s) := keepsLog_ok fun h => by simpa using h

@[simp] theorem cmpi_keepsLog (p : Proc) (gd : BitVec 3) (pd : BitVec 2) (cond : BitVec 3) (ra : BitVec 5) (imm : BitVec 13) (s : State) :
    KeepsLog s (exec (.cmpi p gd pd cond ra imm) s) := keepsLog_ok fun h => by simpa using h

@[simp] theorem plog_keepsLog (p : Proc) (gd : BitVec 3) (pd pa pb : BitVec 2) (op2 : BitVec 3) (s : State) :
    KeepsLog s (exec (.plog p gd pd pa pb op2) s) := keepsLog_ok fun h => by simpa using h

/-! ### SornasMul -/

@[simp] theorem mull_keepsLog (p : Proc) (gd : BitVec 3) (rd ra rb : BitVec 5) (s : State) : KeepsLog s (exec (.mull p gd rd ra rb) s) :=
  keepsLog_ok fun h => by simpa using h

@[simp] theorem mulh_keepsLog (p : Proc) (gd : BitVec 3) (rd ra rb : BitVec 5) (s : State) : KeepsLog s (exec (.mulh p gd rd ra rb) s) :=
  keepsLog_ok fun h => by simpa using h

@[simp] theorem mulhu_keepsLog (p : Proc) (gd : BitVec 3) (rd ra rb : BitVec 5) (s : State) : KeepsLog s (exec (.mulhu p gd rd ra rb) s) :=
  keepsLog_ok fun h => by simpa using h

@[simp] theorem mulf_keepsLog (p : Proc) (gd : BitVec 3) (rd ra rb : BitVec 5) (s : State) : KeepsLog s (exec (.mulf p gd rd ra rb) s) :=
  keepsLog_ok fun h => by simpa using h

@[simp] theorem mulw_keepsLog (p : Proc) (gd : BitVec 3) (rd ra rb : BitVec 5) (s : State) : KeepsLog s (exec (.mulw p gd rd ra rb) s) :=
  keepsLog_ok fun h => by simpa using h

@[simp] theorem mac_keepsLog (p : Proc) (gd : BitVec 3) (aa ab : BitVec 2) (ra rb : BitVec 5) (s : State) :
    KeepsLog s (exec (.mac p gd aa ab ra rb) s) := keepsLog_ok fun h => by simpa using h

@[simp] theorem msu_keepsLog (p : Proc) (gd : BitVec 3) (aa ab : BitVec 2) (ra rb : BitVec 5) (s : State) :
    KeepsLog s (exec (.msu p gd aa ab ra rb) s) := keepsLog_ok fun h => by simpa using h

@[simp] theorem mpy_keepsLog (p : Proc) (gd : BitVec 3) (aa ab : BitVec 2) (ra rb : BitVec 5) (s : State) :
    KeepsLog s (exec (.mpy p gd aa ab ra rb) s) := keepsLog_ok fun h => by simpa using h

@[simp] theorem maci_keepsLog (p : Proc) (gd : BitVec 3) (aa ab : BitVec 2) (ra rb : BitVec 5) (s : State) :
    KeepsLog s (exec (.maci p gd aa ab ra rb) s) := keepsLog_ok fun h => by simpa using h

@[simp] theorem mac2_keepsLog (p : Proc) (gd : BitVec 3) (aa ab : BitVec 2) (ra rb : BitVec 5) (s : State) :
    KeepsLog s (exec (.mac2 p gd aa ab ra rb) s) := keepsLog_ok fun h => by simpa using h

@[simp] theorem macd_keepsLog (p : Proc) (gd : BitVec 3) (aa ab : BitVec 2) (ra rb : BitVec 5) (s : State) :
    KeepsLog s (exec (.macd p gd aa ab ra rb) s) := keepsLog_ok fun h => by simpa using h

@[simp] theorem macx_keepsLog (p : Proc) (gd : BitVec 3) (aa ab : BitVec 2) (ra rb : BitVec 5) (s : State) :
    KeepsLog s (exec (.macx p gd aa ab ra rb) s) := keepsLog_ok fun h => by simpa using h

@[simp] theorem mpyd_keepsLog (p : Proc) (gd : BitVec 3) (aa ab : BitVec 2) (ra rb : BitVec 5) (s : State) :
    KeepsLog s (exec (.mpyd p gd aa ab ra rb) s) := keepsLog_ok fun h => by simpa using h

@[simp] theorem mpyx_keepsLog (p : Proc) (gd : BitVec 3) (aa ab : BitVec 2) (ra rb : BitVec 5) (s : State) :
    KeepsLog s (exec (.mpyx p gd aa ab ra rb) s) := keepsLog_ok fun h => by simpa using h

@[simp] theorem clra_keepsLog (p : Proc) (gd : BitVec 3) (aa ab : BitVec 2) (ra rb : BitVec 5) (s : State) :
    KeepsLog s (exec (.clra p gd aa ab ra rb) s) := keepsLog_ok fun h => by simpa using h

@[simp] theorem ldah_keepsLog (p : Proc) (gd : BitVec 3) (aa ab : BitVec 2) (ra rb : BitVec 5) (s : State) :
    KeepsLog s (exec (.ldah p gd aa ab ra rb) s) := keepsLog_ok fun h => by simpa using h

@[simp] theorem ldaw_keepsLog (p : Proc) (gd : BitVec 3) (aa ab : BitVec 2) (ra rb : BitVec 5) (s : State) :
    KeepsLog s (exec (.ldaw p gd aa ab ra rb) s) := keepsLog_ok fun h => by simpa using h

@[simp] theorem rdah_keepsLog (p : Proc) (gd : BitVec 3) (aa ab : BitVec 2) (ra rb : BitVec 5) (s : State) :
    KeepsLog s (exec (.rdah p gd aa ab ra rb) s) := keepsLog_ok fun h => by simpa using h

@[simp] theorem rdaw_keepsLog (p : Proc) (gd : BitVec 3) (aa ab : BitVec 2) (ra rb : BitVec 5) (s : State) :
    KeepsLog s (exec (.rdaw p gd aa ab ra rb) s) := keepsLog_ok fun h => by simpa using h

@[simp] theorem sha_keepsLog (p : Proc) (gd : BitVec 3) (aa ab : BitVec 2) (ra rb : BitVec 5) (s : State) :
    KeepsLog s (exec (.sha p gd aa ab ra rb) s) := keepsLog_ok fun h => by simpa using h

@[simp] theorem adda_keepsLog (p : Proc) (gd : BitVec 3) (aa ab : BitVec 2) (ra rb : BitVec 5) (s : State) :
    KeepsLog s (exec (.adda p gd aa ab ra rb) s) := keepsLog_ok fun h => by simpa using h

@[simp] theorem suba_keepsLog (p : Proc) (gd : BitVec 3) (aa ab : BitVec 2) (ra rb : BitVec 5) (s : State) :
    KeepsLog s (exec (.suba p gd aa ab ra rb) s) := keepsLog_ok fun h => by simpa using h

@[simp] theorem nega_keepsLog (p : Proc) (gd : BitVec 3) (aa ab : BitVec 2) (ra rb : BitVec 5) (s : State) :
    KeepsLog s (exec (.nega p gd aa ab ra rb) s) := keepsLog_ok fun h => by simpa using h

@[simp] theorem mova_keepsLog (p : Proc) (gd : BitVec 3) (aa ab : BitVec 2) (ra rb : BitVec 5) (s : State) :
    KeepsLog s (exec (.mova p gd aa ab ra rb) s) := keepsLog_ok fun h => by simpa using h

@[simp] theorem div_keepsLog (p : Proc) (gd : BitVec 3) (rd ra rb : BitVec 5) (s : State) : KeepsLog s (exec (.div p gd rd ra rb) s) :=
  keepsLog_ok fun h => by simpa using h

@[simp] theorem divu_keepsLog (p : Proc) (gd : BitVec 3) (rd ra rb : BitVec 5) (s : State) : KeepsLog s (exec (.divu p gd rd ra rb) s) :=
  keepsLog_ok fun h => by simpa using h

@[simp] theorem rem_keepsLog (p : Proc) (gd : BitVec 3) (rd ra rb : BitVec 5) (s : State) : KeepsLog s (exec (.rem p gd rd ra rb) s) :=
  keepsLog_ok fun h => by simpa using h

@[simp] theorem remu_keepsLog (p : Proc) (gd : BitVec 3) (rd ra rb : BitVec 5) (s : State) : KeepsLog s (exec (.remu p gd rd ra rb) s) :=
  keepsLog_ok fun h => by simpa using h

@[simp] theorem divf_keepsLog (p : Proc) (gd : BitVec 3) (rd ra rb : BitVec 5) (s : State) : KeepsLog s (exec (.divf p gd rd ra rb) s) :=
  keepsLog_ok fun h => by simpa using h

/-! ### Tap -/

@[simp] theorem tapReset_keepsLog (s : State) : KeepsLog s (exec (.tapReset) s) := keepsLog_ok id

@[simp] theorem extest_keepsLog (balls : BitVec 418) (cells : BitVec 1254) (s : State) : KeepsLog s (exec (.extest balls cells) s) :=
  keepsLog_ok fun h => by simpa using h

@[simp] theorem idcode_keepsLog (s : State) : KeepsLog s (exec (.idcode) s) := keepsLog_ok fun h => by simpa using h

@[simp] theorem samplePreload_keepsLog (balls : BitVec 418) (cells : BitVec 1254) (s : State) :
    KeepsLog s (exec (.samplePreload balls cells) s) := keepsLog_ok fun h => by simpa using h

@[simp] theorem clamp_keepsLog (s : State) : KeepsLog s (exec (.clamp) s) := keepsLog_ok fun h => by simpa using h
@[simp] theorem highz_keepsLog (s : State) : KeepsLog s (exec (.highz) s) := keepsLog_ok fun h => by simpa using h

@[simp] theorem extestPulse_keepsLog (balls : BitVec 418) (cells : BitVec 1254) (s : State) :
    KeepsLog s (exec (.extestPulse balls cells) s) := keepsLog_ok fun h => by simpa using h

@[simp] theorem extestTrain_keepsLog (balls : BitVec 418) (cells : BitVec 1254) (s : State) :
    KeepsLog s (exec (.extestTrain balls cells) s) := keepsLog_ok fun h => by simpa using h

@[simp] theorem debug_keepsLog (s : State) : KeepsLog s (exec (.debug) s) := keepsLog_ok fun h => by simpa using h
@[simp] theorem bypass_keepsLog (s : State) : KeepsLog s (exec (.bypass) s) := keepsLog_ok fun h => by simpa using h

@[simp] theorem dbgaccAccess_keepsLog (rnw : Bool) (addr data : Word) (s : State) : KeepsLog s (exec (.dbgaccAccess rnw addr data) s) :=
  keepsLog_ok fun h => by simp [h]

/-! ### Tick -/

@[simp] theorem timeAdvance_keepsLog (s : State) : KeepsLog s (exec (.timeAdvance) s) := keepsLog_ok fun h => by simpa using h

@[simp] theorem rateCheck_keepsLog (refCycles : Nat) (s : State) : KeepsLog s (exec (.rateCheck refCycles) s) :=
  keepsLog_ok fun h => by simpa using h

/-! ### The step -/

theorem exec_keepsLog (i : Instr) (s : State) : KeepsLog s (exec i s) := by
  cases i <;> simp

/-- Settles O5: every command keeps the log within its bound, and a step is one command or nothing. -/
theorem stepKeepsErrorLogBound : Obligations.StepKeepsErrorLogBound := by
  unfold Obligations.StepKeepsErrorLogBound
  intro s t hs hstep
  unfold step at hstep
  split at hstep
  · cases hstep
    exact hs
  · exact exec_keepsLog _ _ t hstep hs

end Sys2Proof.Machine

namespace Sys2Proof.Machine

/-! ## Processors: their copies, their cores, and what running an instruction changes -/

theorem vget_vset {α : Type} {n : Nat} (v : Vector α n) (i j : Fin n) (x : α) :
    vget (vset v i x) j = if j = i then x else vget v j := by
  split
  · next h => rw [h, vget_vset_same]
  · next h => rw [vget_vset_other _ _ h]

theorem vector_ext_vget {α : Type} {n : Nat} {v w : Vector α n} (h : ∀ i, vget v i = vget w i) : v = w :=
  Vector.ext fun i hi => h ⟨i, hi⟩

theorem foldl_modPhys_frame (f : Phys → Phys) (l : List (Fin 128)) (s : State) :
    l.foldl (fun s q => s.modPhys q f) s = { s with phys := (l.foldl (fun s q => s.modPhys q f) s).phys } := by
  induction l generalizing s with
  | nil => rfl
  | cons q l ih => rw [List.foldl_cons, ih]; rfl

theorem vget_foldl_modPhys (f : Phys → Phys) {l : List (Fin 128)} (hl : l.Nodup) (s : State) (q : Fin 128) :
    vget (l.foldl (fun s q => s.modPhys q f) s).phys q = if q ∈ l then f (vget s.phys q) else vget s.phys q := by
  induction l generalizing s with
  | nil => rfl
  | cons p l ih =>
    obtain ⟨hp, hl⟩ := List.nodup_cons.1 hl
    rw [List.foldl_cons, ih hl, State.modPhys_phys, vget_vset]
    by_cases hq : q = p
    · subst hq; simp [hp]
    · simp [hq]

/-- What a change of the copies leaves: everything but the physical cells. -/
theorem State.modCopies_frame (s : State) (c : Fin 128) (f : Phys → Phys) :
    s.modCopies c f = { s with phys := (s.modCopies c f).phys } := foldl_modPhys_frame f _ s

theorem State.modCopies_eq (s : State) (c : Fin 128) (f : Phys → Phys) : ∃ ph, s.modCopies c f = { s with phys := ph } :=
  ⟨_, s.modCopies_frame c f⟩

theorem State.modCopies_vget {s : State} {c : Fin 128} (hc : (s.cellCores c).Nodup) (f : Phys → Phys) (q : Fin 128) :
    vget (s.modCopies c f).phys q = if q ∈ s.cellCores c then f (vget s.phys q) else vget s.phys q :=
  vget_foldl_modPhys f hc s q

theorem State.modCores_cell (s : State) (c : Fin 128) (f : Core → Core) :
    s.modCores (.cell c) f = s.modCopies c fun ph => { ph with core := f ph.core } := rfl

theorem State.setWait_cell (s : State) (c : Fin 128) (w : WaitState) :
    s.setWait (.cell c) w = s.modCopies c fun ph => { ph with wait := w } := rfl

@[simp] theorem State.modCopies_cellCores (s : State) (c d : Fin 128) (f : Phys → Phys) :
    (s.modCopies c f).cellCores d = s.cellCores d := by rw [s.modCopies_frame]; rfl
@[simp] theorem State.modCopies_physIx (s : State) (c d : Fin 128) (f : Phys → Phys) :
    (s.modCopies c f).physIx d = s.physIx d := by rw [s.modCopies_frame]; rfl
@[simp] theorem State.modCopies_physOf (s : State) (c d : Fin 128) (f : Phys → Phys) :
    (s.modCopies c f).physOf d = s.physOf d := by rw [s.modCopies_frame]; rfl
@[simp] theorem State.modCopies_mem (s : State) (c : Fin 128) (f : Phys → Phys) : (s.modCopies c f).mem = s.mem := by
  rw [s.modCopies_frame]
@[simp] theorem State.modCopies_ecc (s : State) (c : Fin 128) (f : Phys → Phys) : (s.modCopies c f).ecc = s.ecc := by
  rw [s.modCopies_frame]
@[simp] theorem State.modCopies_regs (s : State) (c : Fin 128) (f : Phys → Phys) : (s.modCopies c f).regs = s.regs := by
  rw [s.modCopies_frame]
@[simp] theorem State.modCopies_lcell (s : State) (c : Fin 128) (f : Phys → Phys) : (s.modCopies c f).lcell = s.lcell := by
  rw [s.modCopies_frame]

theorem State.modCopies_modCopies {s : State} {c : Fin 128} (hc : (s.cellCores c).Nodup) (f g : Phys → Phys) :
    (s.modCopies c f).modCopies c g = s.modCopies c fun ph => g (f ph) := by
  have hphys : ((s.modCopies c f).modCopies c g).phys = (s.modCopies c fun ph => g (f ph)).phys := by
    refine vector_ext_vget fun q => ?_
    rw [State.modCopies_vget (by simpa using hc), State.modCopies_vget hc, State.modCopies_vget hc, State.modCopies_cellCores]
    split <;> rfl
  rw [State.modCopies_frame, hphys, s.modCopies_frame c f, ← s.modCopies_frame]

/-- The physical cell of a running logical cell is one of its copies. -/
theorem State.physIx_mem {s : State} {c : Fin 128} (h : s.physOf c ≠ none) : s.physIx c ∈ s.cellCores c := by
  unfold State.physIx State.cellCores
  split
  · next hn => exact absurd hn h
  · next p hp =>
    rw [hp]
    split <;> simp

theorem State.cellCores_single {s : State} {c : Fin 128} (h : s.physOf c ≠ none) (htwin : (vget s.lcell c).twin = none) :
    s.cellCores c = [s.physIx c] := by
  unfold State.physIx State.cellCores
  split
  · next hn => exact absurd hn h
  · next p hp => rw [htwin, hp]; rfl

theorem State.coreOf_cell (s : State) (c : Fin 128) : s.coreOf (.cell c) = (vget s.phys (s.physIx c)).core := rfl

theorem State.modCopies_physIx_vget {s : State} {c : Fin 128} (hc : (s.cellCores c).Nodup) (h : s.physOf c ≠ none) (f : Phys → Phys) :
    vget (s.modCopies c f).phys (s.physIx c) = f (vget s.phys (s.physIx c)) := by
  rw [State.modCopies_vget hc, if_pos (State.physIx_mem h)]

/-! ### The performance counters -/

theorem State.pmcCount_vget_other (s : State) {c d : Fin 128} (e : Nat) (h : d ≠ c) :
    vget (s.pmcCount c e).lcell d = vget s.lcell d := vget_vset_other _ _ h

/-- What counting leaves in a CSR file: every CSR below the counters. -/
def SProc.SameCsrs (q r : SProc) : Prop := r = { q with csr := r.csr } ∧ ∀ n, n < 0xC10 → smGet 0 r.csr n = smGet 0 q.csr n

theorem SProc.SameCsrs.refl (q : SProc) : q.SameCsrs q := ⟨rfl, fun _ _ => rfl⟩

theorem SProc.SameCsrs.trans {q r u : SProc} (h : q.SameCsrs r) (k : r.SameCsrs u) : q.SameCsrs u := by
  obtain ⟨hr, hn⟩ := h
  obtain ⟨hu, km⟩ := k
  exact ⟨by rw [hu, hr], fun n hlt => (km n hlt).trans (hn n hlt)⟩

theorem SProc.sameCsrs_foldl {f : SProc → Nat → SProc} (hf : ∀ (q : SProc) k, q.SameCsrs (f q k)) (l : List Nat) (q : SProc) :
    q.SameCsrs (l.foldl f q) := by
  induction l generalizing q with
  | nil => exact .refl q
  | cons k l ih => exact (hf q k).trans (ih _)

/-- One counter of a Sornas-S processor counts an event. -/
def SProc.countOne (e : Nat) (q : SProc) (k : Nat) : SProc :=
  let sel := (smGet 0 q.csr (0xC20 + k)).toNat
  if sel % 256 == e && e != 0 && (!bitN sel 31 || sel / 2 ^ 16 % 16 == (smGet 0 q.csr 0x21).toNat % 16) then
    let lo := smGet 0 q.csr (0xC10 + 2 * k)
    let hi := smGet 0 q.csr (0xC11 + 2 * k)
    let v := (hi.toNat % 2 ^ 16 * 2 ^ 32 + lo.toNat + 1) % 2 ^ 48
    let csr := smSet (smSet q.csr (0xC10 + 2 * k) (BitVec.ofNat 32 v)) (0xC11 + 2 * k) (BitVec.ofNat 32 (v / 2 ^ 32))
    { q with csr := if v == 0 then smSet csr 0xC28 (smGet 0 csr 0xC28 ||| (1#32 <<< k)) else csr }
  else q

theorem State.pmc_col (s : State) (p : Proc) (hp : profileOf p = .s) (e es : Nat) :
    s.pmc p e es = s.modSproc (sIndex p) fun q => (List.range 8).foldl (SProc.countOne es) q := by
  cases p with
  | cell c => cases hp
  | col c => rfl
  | grotto => rfl

theorem SProc.countOne_sameCsrs (e : Nat) (q : SProc) (k : Nat) : q.SameCsrs (q.countOne e k) := by
  unfold SProc.countOne
  extract_lets sel lo hi v csr
  have hcsr (n : Nat) (hn : n < 0xC10) : smGet 0 csr n = smGet 0 q.csr n := by
    unfold csr
    rw [smGet_smSet_other _ _ _ (by omega), smGet_smSet_other _ _ _ (by omega)]
  split
  · refine ⟨rfl, fun n hn => ?_⟩
    dsimp only
    split
    · rw [smGet_smSet_other _ _ _ (by omega), hcsr n hn]
    · exact hcsr n hn
  · exact .refl q

theorem State.pmc_sameCsrs (s : State) {p : Proc} (hp : profileOf p = .s) (e es : Nat) :
    (vget s.sproc (sIndex p)).SameCsrs (vget (s.pmc p e es).sproc (sIndex p)) := by
  rw [s.pmc_col p hp, State.modSproc_sproc, vget_vset_same]
  exact SProc.sameCsrs_foldl (SProc.countOne_sameCsrs es) _ _

/-! ### How an instruction that reaches beyond the registers runs -/

theorem State.mayRun.alive {s : State} {p : Proc} {gd : BitVec 3} (h : s.mayRun p gd) : s.alive p = true := by
  obtain ⟨hrun, -⟩ := h
  rw [State.canRun, Bool.and_eq_true] at hrun
  exact hrun.1

theorem State.mayRun.wait {s : State} {p : Proc} {gd : BitVec 3} (h : s.mayRun p gd) : s.waitOf p = .run := by
  obtain ⟨hrun, -⟩ := h
  rw [State.canRun, Bool.and_eq_true, beq_iff_eq] at hrun
  exact hrun.2

theorem State.mayRun.nodup {s : State} {c : Fin 128} {gd : BitVec 3} (h : s.mayRun (.cell c) gd) : (s.cellCores c).Nodup :=
  h.2.2 c rfl

theorem State.mayRun.mapped {s : State} {c : Fin 128} {gd : BitVec 3} (h : s.mayRun (.cell c) gd) : s.physOf c ≠ none := by
  have ha := h.alive
  simp only [State.alive, Bool.and_eq_true] at ha
  intro hn
  rw [hn] at ha
  exact absurd ha.2.2 (by decide)

/-- The effect of an instruction that may run decides what becomes of the state. -/
theorem State.runMem_mayRun {s : State} {p : Proc} {gd : BitVec 3} (h : s.mayRun p gd) (w : Word) (resume : Bool) (act : State → MemRes) :
    s.runMem p w gd true resume act = match act s with
      | .done s1 => s1.retire p
      | .stay s1 => s1
      | .trap s1 t => s1.trap p w t := by
  obtain ⟨hrun, hguard, -⟩ := h
  unfold State.runMem
  rw [hrun, hguard]
  rfl

theorem State.runMem_done {s s1 : State} {p : Proc} {gd : BitVec 3} {act : State → MemRes} (h : s.mayRun p gd) (hact : act s = .done s1)
    (w : Word) (resume : Bool) : s.runMem p w gd true resume act = s1.retire p := by
  rw [State.runMem_mayRun h, hact]

theorem State.runMem_stay {s s1 : State} {p : Proc} {gd : BitVec 3} {act : State → MemRes} (h : s.mayRun p gd) (hact : act s = .stay s1)
    (w : Word) (resume : Bool) : s.runMem p w gd true resume act = s1 := by
  rw [State.runMem_mayRun h, hact]

theorem State.runMem_trap {s s1 : State} {p : Proc} {gd : BitVec 3} {act : State → MemRes} {t : Trap} (h : s.mayRun p gd)
    (hact : act s = .trap s1 t) (w : Word) (resume : Bool) : s.runMem p w gd true resume act = s1.trap p w t := by
  rw [State.runMem_mayRun h, hact]

/-- A processor that lives moves on, and the instruction is counted. -/
theorem State.retire_alive {s : State} {p : Proc} (h : s.alive p = true) :
    s.retire p = (s.modCores p (·.advance (profileOf p))).pmc p 1 1 := if_pos h

/-- The core of a Sornas-S processor changed, and an event counted. -/
theorem State.modSproc_pmc_ranAs (s : State) {p : Proc} (hp : profileOf p = .s) (f : Core → Core) (e es : Nat) :
    s.ranAs ((s.modSproc (sIndex p) fun q => { q with core := f q.core }).pmc p e es) p f := by
  have hcsr := (s.modSproc (sIndex p) fun q => { q with core := f q.core }).pmc_sameCsrs hp e es
  rw [State.modSproc_sproc, vget_vset_same] at hcsr
  obtain ⟨hq, hn⟩ := hcsr
  have hother (i : Fin 6) (hi : i ≠ sIndex p) :
      vget ((s.modSproc (sIndex p) fun q => { q with core := f q.core }).pmc p e es).sproc i = vget s.sproc i := by
    rw [State.pmc_col _ p hp, State.modSproc_sproc, vget_vset_other _ _ hi, State.modSproc_sproc, vget_vset_other _ _ hi]
  have hframe : (s.modSproc (sIndex p) fun q => { q with core := f q.core }).pmc p e es =
      { s with sproc := ((s.modSproc (sIndex p) fun q => { q with core := f q.core }).pmc p e es).sproc } := by
    rw [State.pmc_col _ p hp]
    rfl
  cases p with
  | cell c => cases hp
  | col c => exact ⟨hq, hn, hother, hframe⟩
  | grotto => exact ⟨hq, hn, hother, hframe⟩

/-- Every copy of a processor has changed its core, and an event has been counted. -/
theorem State.modCores_pmc_ranAs {s : State} {p : Proc} {gd : BitVec 3} (h : s.mayRun p gd) (f : Core → Core) (e es : Nat) :
    s.ranAs ((s.modCores p f).pmc p e es) p f := by
  cases p with
  | cell c =>
    refine ⟨fun q => ?_, fun d hd => ?_, ?_⟩
    · exact State.modCopies_vget h.nodup _ q
    · exact (State.pmcCount_vget_other _ _ hd).trans (by rw [State.modCores_cell, State.modCopies_lcell])
    · obtain ⟨ph, hph⟩ := s.modCopies_eq c fun ph => { ph with core := f ph.core }
      rw [State.modCores_cell, hph]
      rfl
  | col c => exact State.modSproc_pmc_ranAs s rfl f e es
  | grotto => exact State.modSproc_pmc_ranAs s rfl f e es


/-! ### Lives on, whatever happens to cores, counters and memory -/

theorem State.alive_modCores (s : State) (p : Proc) (f : Core → Core) : (s.modCores p f).alive p = s.alive p := by
  cases p with
  | cell c =>
    obtain ⟨ph, hph⟩ := s.modCopies_eq c fun ph => { ph with core := f ph.core }
    rw [State.modCores_cell, hph]
    rfl
  | col c =>
    unfold State.alive State.colAlive State.modCores
    dsimp only
    rw [State.modSproc_sproc, vget_vset_same]
    rfl
  | grotto =>
    unfold State.alive State.colAlive State.modCores
    dsimp only
    rw [State.modSproc_sproc, vget_vset_same]
    rfl

theorem State.modSproc_modSproc (s : State) (i : Fin 6) (f g : SProc → SProc) :
    (s.modSproc i f).modSproc i g = s.modSproc i fun q => g (f q) := by
  have hv : vset (vset s.sproc i (f (vget s.sproc i))) i (g (vget (vset s.sproc i (f (vget s.sproc i))) i)) =
      vset s.sproc i (g (f (vget s.sproc i))) := by
    refine vector_ext_vget fun j => ?_
    simp only [vget_vset]
    split <;> simp
  exact congrArg (fun v => { s with sproc := v }) hv

theorem State.modCores_modCores {s : State} {p : Proc} {gd : BitVec 3} (h : s.mayRun p gd) (f g : Core → Core) :
    (s.modCores p f).modCores p g = s.modCores p fun k => g (f k) := by
  cases p with
  | cell c => exact State.modCopies_modCopies h.nodup _ _
  | col c => exact s.modSproc_modSproc _ (fun q => { q with core := f q.core }) fun q => { q with core := g q.core }
  | grotto => exact s.modSproc_modSproc _ (fun q => { q with core := f q.core }) fun q => { q with core := g q.core }

/-- An instruction that only changes registers, and completes. -/
theorem State.retire_modCores_ranAs {s : State} {p : Proc} {gd : BitVec 3} (h : s.mayRun p gd) (f : Core → Core) :
    s.ranAs ((s.modCores p f).retire p) p fun k => (f k).advance (profileOf p) := by
  rw [State.retire_alive ((s.alive_modCores p f).trans h.alive), State.modCores_modCores h]
  exact State.modCores_pmc_ranAs h _ _ _

/-- An instruction that only moves on. -/
theorem State.retire_ranAs {s : State} {p : Proc} {gd : BitVec 3} (h : s.mayRun p gd) :
    s.ranAs (s.retire p) p fun k => k.advance (profileOf p) := by
  rw [State.retire_alive h.alive]
  exact State.modCores_pmc_ranAs h _ _ _

theorem State.modSproc_id (s : State) (i : Fin 6) : (s.modSproc i fun q => q) = s := by
  have hv : vset s.sproc i (vget s.sproc i) = s.sproc := by
    refine vector_ext_vget fun j => ?_
    rw [vget_vset]
    split
    · next h => rw [h]
    · rfl
  exact congrArg (fun v => { s with sproc := v }) hv

theorem State.modCores_id {s : State} {p : Proc} {gd : BitVec 3} (h : s.mayRun p gd) : (s.modCores p fun k => k) = s := by
  cases p with
  | cell c =>
    obtain ⟨ph, hph⟩ := s.modCopies_eq c fun ph => { ph with core := ph.core }
    have hv : ph = s.phys := by
      refine vector_ext_vget fun q => ?_
      have hq := State.modCopies_vget h.nodup (fun ph => { ph with core := ph.core }) q
      rw [hph, ite_self] at hq
      exact hq
    rw [State.modCores_cell, hph, hv]
  | col c => exact s.modSproc_id _
  | grotto => exact s.modSproc_id _

/-! ### What `ranAs` says of the state -/

section
variable {s t : State} {p : Proc} {f : Core → Core}

theorem State.ranAs.frame (h : s.ranAs t p f) : t = { s with phys := t.phys, lcell := t.lcell, sproc := t.sproc } := by
  cases p with
  | cell c =>
    obtain ⟨-, -, ht⟩ := h
    rw [ht]
  | col c =>
    obtain ⟨-, -, -, ht⟩ := h
    rw [ht]
  | grotto =>
    obtain ⟨-, -, -, ht⟩ := h
    rw [ht]

theorem State.ranAs.mem (h : s.ranAs t p f) : t.mem = s.mem := by rw [h.frame]
theorem State.ranAs.ecc (h : s.ranAs t p f) : t.ecc = s.ecc := by rw [h.frame]
theorem State.ranAs.regs (h : s.ranAs t p f) : t.regs = s.regs := by rw [h.frame]

theorem State.ranAs.coreOf_cell {c : Fin 128} (h : s.ranAs t (.cell c) f) (hm : s.physOf c ≠ none) :
    t.coreOf (.cell c) = f (s.coreOf (.cell c)) := by
  obtain ⟨hphys, -, ht⟩ := h
  have hix : t.physIx c = s.physIx c := by rw [ht]; rfl
  rw [State.coreOf_cell, hix, hphys, if_pos (State.physIx_mem hm)]
  rfl

theorem State.ranAs.coreOf_col (h : s.ranAs t p f) (hp : profileOf p = .s) : t.coreOf p = f (s.coreOf p) := by
  cases p with
  | cell c => cases hp
  | col c =>
    obtain ⟨hq, -⟩ := h
    exact congrArg SProc.core hq
  | grotto =>
    obtain ⟨hq, -⟩ := h
    exact congrArg SProc.core hq

end

/-! ### The compare of a twin -/

theorem State.twinCheck_single (s : State) {s0 : State} {c : Fin 128} {p : Fin 128} (h : s0.cellCores c = [p]) (f : Core → List Nat) :
    s.twinCheck s0 (.cell c) f = s := by
  simp [State.twinCheck, State.twinDiffers, h]

theorem State.twinCheck_col (s s0 : State) {p : Proc} (hp : profileOf p = .s) (f : Core → List Nat) : s.twinCheck s0 p f = s := by
  cases p with
  | cell c => cases hp
  | col c => simp [State.twinCheck, State.twinDiffers]
  | grotto => simp [State.twinCheck, State.twinDiffers]

/-! ## Clean words of memory (R36) -/

theorem State.eccCorrect_clean {s : State} {a : Nat} (h : s.eccOf a = 0) : s.eccCorrect a = s := by
  rw [State.eccCorrect, h]; rfl

theorem State.eccClear_clean {s : State} {a : Nat} (h : s.eccOf a = 0) : s.eccClear a = s := by
  rw [State.eccClear, h]; rfl

theorem immS_eq_toInt {n : Nat} (x : BitVec (n + 1)) : immS x = x.toInt := by
  have hx := x.isLt
  rw [immS, sx, BitVec.toInt_eq_toNat_cond, Nat.mod_eq_of_lt hx, Nat.add_sub_cancel]
  have hp : 2 ^ (n + 1) = 2 * 2 ^ n := by rw [Nat.pow_succ, Nat.mul_comm]
  split <;> split
  · rfl
  · omega
  · omega
  · push_cast; rfl

/-! ## Loads and stores (R149 to R151) -/

/-- The base register as an access leaves it: at base + `d` for one that modifies it. -/
def Core.based (k : Core) (pf : Profile) (ra : BitVec 5) (upd : Option Int) : Core :=
  match upd with
  | some d => k.wr pf ra.toNat (effAddr pf k ra d : Nat)
  | none => k

section
variable {s : State} {p : Proc} {gd : BitVec 3} {rd ra : BitVec 5} {wd : BitVec 2} {zero legal : Bool} {ea : Core → Nat} {a : Nat}

/-- A load that obtains a value and changes nothing. -/
theorem State.runLoad_ranAs (h : s.mayRun p gd) (hlegal : (memLegal (profileOf p) rd ra wd zero && legal) = true)
    (hea : ea (s.coreOf p) = a) {v : Nat} (hload : s.load p a wd = .val s v) (w : Word) (upd : Option Int) :
    s.ranAs (s.runLoad p w gd rd ra wd zero legal ea upd) p fun k =>
      ((k.based (profileOf p) ra upd).putLoad (profileOf p) rd wd zero v).advance (profileOf p) := by
  have hact : s.runLoad p w gd rd ra wd zero legal ea upd =
      (s.modCores p fun k => (k.based (profileOf p) ra upd).putLoad (profileOf p) rd wd zero v).retire p := by
    unfold State.runLoad
    dsimp only
    rw [hlegal]
    refine State.runMem_done h ?_ w false
    rw [hea, hload]
    rfl
  rw [hact]
  exact State.retire_modCores_ranAs h _

/-- A load that is refused traps. -/
theorem State.runLoad_bad (h : s.mayRun p gd) (hlegal : (memLegal (profileOf p) rd ra wd zero && legal) = true)
    (hea : ea (s.coreOf p) = a) {s1 : State} {st : Nat} (hload : s.load p a wd = .bad s1 st) (w : Word) (upd : Option Int) :
    s.runLoad p w gd rd ra wd zero legal ea upd = s1.trap p w (.access st a) := by
  unfold State.runLoad
  dsimp only
  rw [hlegal]
  refine State.runMem_trap h ?_ w false
  rw [hea, hload]

/-- A store that is done at once and changes memory alone, by a processor that is no twin. -/
theorem State.runStore_ranAs (h : s.mayRun p gd) (hlegal : (memLegal (profileOf p) rd ra wd false && legal) = true)
    (hea : ea (s.coreOf p) = a) {m : List Host.Cell} {v : Nat}
    (hstore : s.store p a wd ((s.coreOf p).getStore (profileOf p) rd wd) = .val { s with mem := m } v)
    (htwin : ∀ (t : State) f, t.twinCheck s p f = t) (w : Word) (upd : Option Int) :
    State.ranAs { s with mem := m } (s.runStore p w gd rd ra wd legal ea upd) p fun k =>
      (k.based (profileOf p) ra upd).advance (profileOf p) := by
  have h1 : State.mayRun { s with mem := m } p gd := h
  have hact : s.runStore p w gd rd ra wd legal ea upd =
      (State.modCores { s with mem := m } p fun k => k.based (profileOf p) ra upd).retire p := by
    unfold State.runStore
    dsimp only
    rw [hlegal, htwin]
    refine State.runMem_done h ?_ w false
    rw [hea, hstore]
    cases upd with
    | none => exact congrArg MemRes.done (State.modCores_id h1).symm
    | some d => rfl
  rw [hact]
  exact State.retire_modCores_ranAs h1 _

end

/-! ### A cell's operand RAM (R152) -/

section
variable {s : State} {c : Fin 128} {w : Nat}

/-- The fabric address of word `w` of the operand RAM of the cell that runs `c`. -/
def State.ramAt (s : State) (c : Fin 128) (w : Nat) : Nat := cellWin (s.physIx c).val + 0x4000 + 2 * w

theorem cellPlace_ram (b : Nat) (hw : w < 0x1000) : cellPlace b w = .ram w := if_pos hw

theorem State.cellLoad_ram (hw : w < 0x1000) (hecc : s.eccOf (s.ramAt c w) = 0) :
    s.cellLoad c w false = .val s (memHalf s.mem (s.ramAt c w)).toNat := by
  unfold State.cellLoad
  rw [cellPlace_ram _ hw]
  simp only [Bool.false_and, Bool.false_eq_true, if_false]
  change (if s.eccOf (s.ramAt c w) == 2 then _ else Load.val (s.eccCorrect (s.ramAt c w)) _) = _
  rw [hecc, State.eccCorrect_clean hecc]
  rfl

theorem State.cellStore_ram (hc : s.cellCores c = [s.physIx c]) (hw : w < 0x1000) (hecc : s.eccOf (s.ramAt c w) = 0) (v : Nat) :
    s.cellStore c w false v = .val { s with mem := memPutHalf s.mem (s.ramAt c w) (BitVec.ofNat 16 v) } 0 := by
  unfold State.cellStore
  rw [cellPlace_ram _ hw]
  simp only [Bool.false_and, Bool.false_eq_true, if_false, hc, List.foldl_cons, List.foldl_nil]
  change Load.val ((s.eccClear (s.ramAt c w)).poke16 (s.ramAt c w) _) 0 = _
  rw [State.eccClear_clean hecc]
  rfl

theorem memLegal_half {rd ra : BitVec 5} (hd : isData .c rd.toNat = true) (ha : isAddr .c ra.toNat = true) (zero : Bool) :
    memLegal .c rd ra 0 zero = true := by
  change (isAddr .c ra.toNat && isData .c rd.toNat) = true
  rw [hd, ha]; rfl

variable {gd : BitVec 3} {rd ra : BitVec 5} {ea : Core → Nat} {legal : Bool}

theorem data_ne_addr {rd ra : BitVec 5} (hd : isData .c rd.toNat = true) (ha : isAddr .c ra.toNat = true) : rd ≠ ra := by
  rintro rfl
  simp only [isData, isAddr, decide_eq_true_eq, Bool.and_eq_true] at hd ha
  omega

/-- An address register plus 0 is itself. -/
theorem effAddr_zero {ra : BitVec 5} (ha : isAddr .c ra.toNat = true) (k : Core) : effAddr .c k ra 0 = k.u .c ra.toNat := by
  simp only [isAddr, decide_eq_true_eq, Bool.and_eq_true] at ha
  have hu : k.u .c ra.toNat < 2 ^ 20 := by
    have hbits : regBits .c ra.toNat = 20 := if_neg (by omega)
    rw [Core.u, hbits]
    exact Nat.mod_lt _ (by decide)
  change (((k.u .c ra.toNat : Int) + 0) % 2 ^ 20).toNat = _
  rw [Int.add_zero, Int.emod_eq_of_lt (by omega) (by exact_mod_cast hu), Int.toNat_natCast]

/-- A load from operand RAM: the word goes to the register, and the base register to where the instruction puts it. -/
theorem State.runLoad_ram (h : s.mayRun (.cell c) gd) (hd : isData .c rd.toNat = true) (ha : isAddr .c ra.toNat = true)
    (hlegal : legal = true) (hea : ea (s.coreOf (.cell c)) = w) (hw : w < 0x1000) (hecc : s.eccOf (s.ramAt c w) = 0) (x : Word)
    (zero : Bool) (upd : Option Int) :
    s.ranAs (s.runLoad (.cell c) x gd rd ra 0 zero legal ea upd) (.cell c) fun k =>
      ((k.based .c ra upd).wr .c rd.toNat (memHalf s.mem (s.ramAt c w)).toNat).advance .c := by
  have hload : s.load (.cell c) w 0 = .val s (memHalf s.mem (s.ramAt c w)).toNat := State.cellLoad_ram hw hecc
  have hml : (memLegal .c rd ra 0 zero && legal) = true := by rw [memLegal_half hd ha, hlegal]; rfl
  exact State.runLoad_ranAs h hml hea hload x upd

/-- A store to operand RAM: the low half of the register at its word, the base register where the instruction puts it, nothing else. -/
theorem State.runStore_ram (h : s.mayRun (.cell c) gd) (hd : isData .c rd.toNat = true) (ha : isAddr .c ra.toNat = true)
    (hlegal : legal = true) (hea : ea (s.coreOf (.cell c)) = w) (hw : w < 0x1000) (hecc : s.eccOf (s.ramAt c w) = 0)
    (htwin : (vget s.lcell c).twin = none) (hmem : s.memOk) (x : Word) (upd : Option Int) {t : State}
    (ht : s.runStore (.cell c) x gd rd ra 0 legal ea upd = t) :
    memHalf t.mem (s.ramAt c w) = BitVec.ofNat 16 ((s.coreOf (.cell c)).u .c rd.toNat) ∧ s.memSame t (s.ramAt c w) 2 ∧
      t.coreOf (.cell c) = ((s.coreOf (.cell c)).based .c ra upd).advance .c ∧ t.regs = s.regs ∧ t.ecc = s.ecc := by
  have hc := State.cellCores_single h.mapped htwin
  have hstore : s.store (.cell c) w 0 ((s.coreOf (.cell c)).getStore .c rd 0) = .val _ 0 := State.cellStore_ram hc hw hecc _
  have hml : (memLegal .c rd ra 0 false && legal) = true := by rw [memLegal_half hd ha, hlegal]; rfl
  have hran := State.runStore_ranAs h hml hea hstore (fun t f => t.twinCheck_single hc f) x upd
  rw [ht] at hran
  refine ⟨?_, fun b hb => ?_, hran.coreOf_cell h.mapped, hran.regs, hran.ecc⟩
  · rw [hran.mem]
    exact memHalf_memPutHalf hmem _ _
  · rw [hran.mem]
    exact memGet_memPutHalf_other hmem _ hb

end
/-! ### A column's uncached system SRAM (R152, R463) -/

theorem eccWord_sram {a : Nat} (hlo : 0x10000000 ≤ a) (hhi : a < 0x10800000) : eccWord a = a / 4 * 4 := by
  unfold eccWord
  rw [if_neg]
  simp only [Bool.and_eq_true, decide_eq_true_eq, not_and]
  omega

/-- The one ECC word of an aligned word of system SRAM, which a word write covers whole. -/
theorem eccWords_sram {a : Nat} (hal : a % 4 = 0) (hlo : 0x10000000 ≤ a) (hhi : a < 0x10800000) : eccWords a 4 = [a] ∧ eccSize a = 4 := by
  have hend : a + 4 - 1 < 0x10800000 := by omega
  constructor
  · rw [eccWords, eccWord_sram hlo hhi, eccWord_sram (by omega) hend, if_pos (by omega)]
    congr 1
    omega
  · rw [eccSize, eccWord_sram (by omega) (by omega), if_neg (by omega)]

theorem targetAt_sram {a : Nat} (ag : Agent) (hlo : 0x10000000 ≤ a) (hhi : a < 0x10800000) : targetAt ag a = .ram a := by
  unfold targetAt
  rw [if_neg (by omega), if_pos (by simp [hlo, hhi])]

theorem memLegal_word (rd ra : BitVec 5) (zero : Bool) : (memLegal .s rd ra 2 zero && true) = true := by
  have hd : isData .s rd.toNat = true := decide_eq_true rd.isLt
  have ha : isBase .s ra.toNat = true := decide_eq_true ra.isLt
  change ((isBase .s ra.toNat && isData .s rd.toNat) && true) = true
  rw [hd, ha]; rfl

section
variable {s : State} {a : Nat}

/-- A read of one clean ECC word. -/
theorem State.ramRead_clean (ag : Agent) (n kind a : Nat) {key x : Nat} (hw : eccWords key n = [x]) (hecc : s.eccOf x = 0) :
    s.ramRead ag n kind a key = (s, stOK, memRead s.mem key n) := by
  simp [State.ramRead, hw, hecc, State.eccCorrect_clean hecc]

/-- A write within one clean ECC word. -/
theorem State.ramWrite_clean (ag : Agent) (n kind a : Nat) (v : Word) {key x : Nat} (hw : eccWords key n = [x]) (hecc : s.eccOf x = 0) :
    s.ramWrite ag n kind a key v = ({ s with mem := memWrite s.mem key n v }, stOK) := by
  simp [State.ramWrite, hw, hecc, State.eccCorrect_clean hecc, State.eccClear_clean hecc]

theorem State.busRead_sram {ag : Agent} (hal : a % 4 = 0) (hlo : 0x10000000 ≤ a) (hhi : a < 0x10800000) (hecc : s.eccOf a = 0)
    (hst : s.accessStatus ag false a = stOK) (kind : Nat) : s.busRead ag 4 kind a = (s, stOK, memWord s.mem a) := by
  simp only [State.busRead, hst, State.readAt, targetAt_sram ag hlo hhi]
  exact State.ramRead_clean ag 4 kind a (eccWords_sram hal hlo hhi).1 hecc

theorem State.busWrite_sram {ag : Agent} (hal : a % 4 = 0) (hlo : 0x10000000 ≤ a) (hhi : a < 0x10800000) (hecc : s.eccOf a = 0)
    (hst : s.accessStatus ag true a = stOK) (kind : Nat) (v : Word) :
    s.busWrite ag 4 kind a v = ({ s with mem := memPutWord s.mem a v }, stOK) := by
  simp only [State.busWrite, hst, State.writeAt, targetAt_sram ag hlo hhi]
  exact State.ramWrite_clean ag 4 kind a v (eccWords_sram hal hlo hhi).1 hecc

theorem State.unmark_sram (p : Proc) (hlo : 0x10000000 ≤ a) (hhi : a < 0x10800000) : s.unmark p a = s := by
  have hring : ¬ GAL_RING_IDX.base ≤ a := by
    have : 0x10800000 ≤ GAL_RING_IDX.base := by decide
    omega
  have hsub : a ≠ 0x30000020 := by omega
  simp [State.unmark, hring, hsub]

variable {c : Fin 5}

/-- A word that a column loads uncached from clean system SRAM. -/
theorem State.sLoad_sram (hal : a % 4 = 0) (hlo : 0x10000000 ≤ a) (hhi : a < 0x10800000) (hecc : s.eccOf a = 0)
    (hmpu : s.mpu (sIndex (.col c)) a 0 = some false) (hst : s.accessStatus (.col c) false a = stOK) :
    s.sLoad (.col c) a 4 = .val s (memWord s.mem a).toNat := by
  have hsub : ¬ a = 0x30000024 := by omega
  change s.mpu (c.castLE (by decide)) a 0 = some false at hmpu
  simp [State.sLoad, hal, hmpu, hsub, State.busRead_sram hal hlo hhi hecc hst]

/-- A word that a column stores uncached to clean system SRAM. -/
theorem State.sStore_sram (hal : a % 4 = 0) (hlo : 0x10000000 ≤ a) (hhi : a < 0x10800000) (hecc : s.eccOf a = 0)
    (hmpu : s.mpu (sIndex (.col c)) a 1 = some false) (hst : s.accessStatus (.col c) true a = stOK) (v : Word) :
    s.sStore (.col c) a 4 v = .val { s with mem := memPutWord s.mem a v } 0 := by
  change s.mpu (c.castLE (by decide)) a 1 = some false at hmpu
  have hbad : ¬ stOK = stBAD_TARGET := by decide
  simp [State.sStore, hal, hmpu, hst, hbad, State.busWrite_sram hal hlo hhi hecc hst, State.unmark_sram _ hlo hhi]

theorem State.sLoad_misaligned {n : Nat} (hal : a % n ≠ 0) :
    s.sLoad (.col c) a n = .bad (s.refuse (.col c) stBAD_TARGET 0 a) stBAD_TARGET := by
  simp [State.sLoad, hal]

end
/-! ### The write buffer (R153) -/

theorem eccWord_eccWord {a : Nat} : eccWord (eccWord a) = eccWord a := by
  unfold eccWord
  simp only [Bool.and_eq_true, decide_eq_true_eq]
  split
  · next h => rw [if_pos (by omega)]; omega
  · next h => rw [if_neg (by omega)]; omega

theorem memWrite_half (m : List Host.Cell) (a : Nat) (v : Half) : memWrite m a 2 (v.zeroExtend 32) = memPutHalf m a v := by
  have hv : (v.zeroExtend 32).extractLsb' 0 16 = v := by
    apply BitVec.eq_of_toNat_eq
    simp
    omega
  exact congrArg (memPutHalf m a) hv

/-- Both bytes of an aligned half word stand in one ECC word. -/
theorem eccWords_half {a : Nat} (hal : a % 2 = 0) : eccWords a 2 = [eccWord a] := by
  have h : eccWord (a + 2 - 1) = eccWord a := by
    unfold eccWord
    simp only [Bool.and_eq_true, decide_eq_true_eq]
    split
    · rw [if_pos (by omega)]; omega
    · rw [if_neg (by omega)]; omega
  rw [eccWords, h, if_pos rfl]

section
variable {s : State} {c : Fin 128}

theorem writeBufferDrain_idle (h : s.treesOn = false ∨ s.physOf c = none ∨ s.wbufOf c = []) :
    exec (.writeBufferDrain c) s = .next s := by
  rw [exec_writeBufferDrain]
  unfold execWriteBufferDrain State.drain
  rcases h with h | h | h
  · rw [h]; rfl
  · rw [h, ite_self]; rfl
  · rw [h]
    cases s.physOf c <;> rw [ite_self] <;> rfl

/-- The oldest buffered store goes to a clean word of block memory that the cell may use. -/
theorem writeBufferDrain_mem {a w : Nat} {v : Half} {rest : List WbufEntry} (hon : s.treesOn = true) (hm : s.physOf c ≠ none)
    (hbuf : s.wbufOf c = .mem a v w :: rest) (hal : a % 2 = 0) (hecc : s.eccOf a = 0) (hmay : s.mayGranule c a = true) :
    exec (.writeBufferDrain c) s =
      .next { s.modCopies c fun ph => { ph with wbuf := ph.wbuf.drop 1 } with mem := memPutHalf s.mem a v } := by
  have hwhole : s.eccOf (eccWord a) = 0 := by rw [State.eccOf, eccWord_eccWord]; exact hecc
  have hdrain : s.drain c = (s.modCopies c fun ph => { ph with wbuf := ph.wbuf.drop 1 }).perform c (.mem a v w) := by
    unfold State.drain
    rw [hbuf]
    cases hp : s.physOf c with
    | none => exact absurd hp hm
    | some p => rfl
  obtain ⟨ph, hph⟩ := s.modCopies_eq c fun ph => { ph with wbuf := ph.wbuf.drop 1 }
  have hmay' : State.mayGranule { s with phys := ph } c a = true := hmay
  have hwrite := State.ramWrite_clean (s := { s with phys := ph }) (.cell c) 2 1 a (v.zeroExtend 32) (eccWords_half hal) hwhole
  rw [exec_writeBufferDrain]
  unfold execWriteBufferDrain
  rw [hon, if_pos rfl, hdrain, hph]
  unfold State.perform
  dsimp only
  rw [hmay', if_pos rfl, hwrite]
  exact congrArg (fun m => ok { s with phys := ph, mem := m }) (memWrite_half s.mem a v)

end
/-- Settles O30: the loads and stores of a cell in its operand RAM, those of a column in system SRAM, and the write buffer. -/
theorem sornasLoadsStores : Obligations.SornasLoadsStores := by
  unfold Obligations.SornasLoadsStores
  refine ⟨fun c gd rd ra s h hd ha hmem => ⟨fun imm => ?_, fun md imm hmd => ?_⟩, fun c gd rd ra imm s h hmem => ⟨fun hal => ?_,
    fun hal hlo hhi hecc => ⟨fun hmpu hst => ?_, fun hmpu hst => ?_⟩⟩, fun c s hc hmem => ⟨writeBufferDrain_idle,
    fun a v w rest hon hm hbuf hal hecc hmay => ?_⟩⟩
  · intro w hw hecc
    have hea : effAddr .c (s.coreOf (.cell c)) ra (immS imm) = w := by rw [immS_eq_toInt]; rfl
    exact ⟨⟨_, rfl, State.runLoad_ram h hd ha rfl hea hw hecc _ _ none⟩, ⟨_, rfl, State.runLoad_ram h hd ha rfl hea hw hecc _ _ none⟩,
      fun htwin => ⟨_, rfl, State.runStore_ram h hd ha rfl hea hw hecc htwin hmem _ none rfl⟩⟩
  · rw [← immS_eq_toInt imm]
    intro new w hw hecc
    have hea : stepAddr .c (s.coreOf (.cell c)) ra md imm = w := by
      unfold stepAddr w new
      split
      · rfl
      · exact effAddr_zero ha _
    have hne : (decide (md.toNat < 2) && rd != ra) = true := by
      rw [decide_eq_true hmd, Bool.true_and, bne_iff_ne]
      exact data_ne_addr hd ha
    exact ⟨⟨_, rfl, State.runLoad_ram h hd ha hne hea hw hecc _ _ (some (immS imm))⟩, fun htwin => ⟨_, rfl,
      State.runStore_ram h hd ha (decide_eq_true hmd) hea hw hecc htwin hmem _ (some (immS imm)) rfl⟩⟩
  · have hload : s.load (.col c) (effAddr .s (s.coreOf (.col c)) ra (immS imm)) 2 = .bad _ stBAD_TARGET :=
      State.sLoad_misaligned (by rw [immS_eq_toInt]; exact hal)
    refine (congrArg ok (State.runLoad_bad h (memLegal_word rd ra false) rfl hload _ none)).trans ?_
    rw [immS_eq_toInt]
    rfl
  · have hea : effAddr .s (s.coreOf (.col c)) ra (immS imm) = pat 32 ((s.coreOf (.col c)).u .s ra.toNat + imm.toInt) := by
      rw [immS_eq_toInt]; rfl
    have hload : s.load (.col c) _ 2 = .val s _ := State.sLoad_sram hal hlo hhi hecc hmpu hst
    exact ⟨_, rfl, State.runLoad_ranAs h (memLegal_word rd ra false) hea hload _ none⟩
  · have hea : effAddr .s (s.coreOf (.col c)) ra (immS imm) = pat 32 ((s.coreOf (.col c)).u .s ra.toNat + imm.toInt) := by
      rw [immS_eq_toInt]; rfl
    have hstore : s.store (.col c) _ 2 ((s.coreOf (.col c)).getStore .s rd 2) = .val _ 0 := State.sStore_sram hal hlo hhi hecc hmpu hst _
    have hran := State.runStore_ranAs (ea := fun k => effAddr .s k ra (immS imm)) h (memLegal_word rd ra false) hea hstore
      (fun t f => t.twinCheck_col s rfl f) (encM 0x12 gd rd ra 2 imm) none
    refine ⟨_, rfl, ?_, fun b hb => ?_, hran.coreOf_col rfl, hran.regs, hran.ecc⟩
    · exact (congrArg (memWord · _) hran.mem).trans (memWord_memPutWord hmem _ _)
    · exact (congrArg (memGet · b) hran.mem).trans (memGet_memPutWord_other hmem _ hb)
  · refine ⟨_, writeBufferDrain_mem hon hm hbuf hal hecc hmay, memHalf_memPutHalf hmem _ _, fun b hb => memGet_memPutHalf_other hmem _ hb,
      ?_, ?_, State.modCopies_regs ..⟩
    · change (vget (s.modCopies c _).phys ((s.modCopies c _).physIx c)).wbuf = rest
      rw [State.modCopies_physIx, State.modCopies_physIx_vget hc hm]
      exact congrArg (List.drop 1) hbuf
    · change (vget (s.modCopies c _).phys ((s.modCopies c _).physIx c)).core = _
      rw [State.modCopies_physIx, State.modCopies_physIx_vget hc hm]
      rfl

end Sys2Proof.Machine

namespace Sys2Proof.Machine

/-! ## A cell without a twin -/

section
variable {s : State} {c : Fin 128}

theorem State.mapped_of_alive (h : s.alive (.cell c) = true) : s.physOf c ≠ none := by
  simp only [State.alive, Bool.and_eq_true] at h
  intro hn
  rw [hn] at h
  exact absurd h.2.2 (by decide)

theorem State.cellCores_nodup (htwin : (vget s.lcell c).twin = none) : (s.cellCores c).Nodup := by
  by_cases h : s.physOf c = none
  · rw [State.cellCores, h]; exact .nil
  · rw [State.cellCores_single h htwin]; exact List.nodup_singleton _

theorem State.alive_modCopies (s : State) (c : Fin 128) (p : Proc) (f : Phys → Phys) : (s.modCopies c f).alive p = s.alive p := by
  obtain ⟨ph, hph⟩ := s.modCopies_eq c f
  rw [hph]
  rfl

/-- What counting an event leaves of a logical cell: everything but the counters. -/
theorem State.pmcCount_keeps (s : State) (c : Fin 128) (e : Nat) : ∃ pmc pmstat pend,
    vget (s.pmcCount c e).lcell c = { vget s.lcell c with pmc := pmc, pmstat := pmstat, pmPend := pend } := by
  have hfold (l : List Nat) (q : LCell) : ∃ pmc pmstat pend, l.foldl (fun l k =>
      if l.pmsel[k]!.toNat == e && e != 0 then
        let v := l.pmc[k]! + 1
        let l := { l with pmc := l.pmc.set! k v }
        if v == 0 then
          { l with pmstat := l.pmstat ||| (1#32 <<< k)
                   pmPend := if bitN l.pmstat.toNat (8 + k) then l.pmPend ||| (1#4 <<< k) else l.pmPend }
        else l
      else l) q = { q with pmc := pmc, pmstat := pmstat, pmPend := pend } := by
    induction l generalizing q with
    | nil => exact ⟨_, _, _, rfl⟩
    | cons k l ih =>
      rw [List.foldl_cons]
      dsimp only
      split
      · split
        · exact ih _
        · exact ih _
      · exact ih _
  obtain ⟨pmc, pmstat, pend, hq⟩ := hfold (List.range 4) (vget s.lcell c)
  exact ⟨pmc, pmstat, pend, (vget_vset_same _ _ _).trans hq⟩

theorem State.pmcCount_clGen (s : State) (c : Fin 128) (e : Nat) : (vget (s.pmcCount c e).lcell c).clGen = (vget s.lcell c).clGen := by
  obtain ⟨_, _, _, h⟩ := s.pmcCount_keeps c e
  rw [h]

theorem State.pmcCount_twin (s : State) (c : Fin 128) (e : Nat) : (vget (s.pmcCount c e).lcell c).twin = (vget s.lcell c).twin := by
  obtain ⟨_, _, _, h⟩ := s.pmcCount_keeps c e
  rw [h]

/-- Completing an instruction changes the copies' registers and the counters alone. -/
theorem State.retire_frame (s : State) (c : Fin 128) :
    s.retire (.cell c) = { s with phys := (s.retire (.cell c)).phys, lcell := (s.retire (.cell c)).lcell } := by
  unfold State.retire
  split
  · obtain ⟨ph, hph⟩ := s.modCopies_eq c fun ph => { ph with core := ph.core.advance (profileOf (.cell c)) }
    rw [State.modCores_cell]
    change State.pmcCount _ c 1 = { s with phys := (State.pmcCount _ c 1).phys, lcell := (State.pmcCount _ c 1).lcell }
    rw [hph]
    rfl
  · rfl

@[simp] theorem State.retire_mem (s : State) (c : Fin 128) : (s.retire (.cell c)).mem = s.mem := by rw [s.retire_frame]
@[simp] theorem State.retire_regs (s : State) (c : Fin 128) : (s.retire (.cell c)).regs = s.regs := by rw [s.retire_frame]
@[simp] theorem State.retire_block (s : State) (c : Fin 128) : (s.retire (.cell c)).block = s.block := by rw [s.retire_frame]
@[simp] theorem State.retire_physIx (s : State) (c : Fin 128) : (s.retire (.cell c)).physIx c = s.physIx c := by
  rw [s.retire_frame]; rfl

/-- The physical cell of a cell without a twin that lives, once an instruction has completed. -/
theorem State.retire_vget (ha : s.alive (.cell c) = true) (htwin : (vget s.lcell c).twin = none) :
    vget (s.retire (.cell c)).phys (s.physIx c) =
      { vget s.phys (s.physIx c) with core := (vget s.phys (s.physIx c)).core.advance .c } := by
  rw [State.retire_alive ha]
  change vget (s.modCopies c fun ph => { ph with core := ph.core.advance .c }).phys (s.physIx c) = _
  rw [State.modCopies_physIx_vget (State.cellCores_nodup htwin) (State.mapped_of_alive ha)]

theorem State.retire_clGen (ha : s.alive (.cell c) = true) :
    (vget (s.retire (.cell c)).lcell c).clGen = (vget s.lcell c).clGen := by
  rw [State.retire_alive ha]
  refine (State.pmcCount_clGen _ c 1).trans ?_
  change (vget (s.modCopies c fun ph => { ph with core := ph.core.advance .c }).lcell c).clGen = _
  rw [State.modCopies_lcell]

/-- The physical cell after an instruction that changed its copies by `f` has completed. -/
theorem State.retire_modCopies_vget (ha : s.alive (.cell c) = true) (htwin : (vget s.lcell c).twin = none) (f : Phys → Phys) :
    vget ((s.modCopies c f).retire (.cell c)).phys (((s.modCopies c f).retire (.cell c)).physIx c) =
      { f (vget s.phys (s.physIx c)) with core := (f (vget s.phys (s.physIx c))).core.advance .c } := by
  have hv := State.modCopies_physIx_vget (State.cellCores_nodup htwin) (State.mapped_of_alive ha) f
  have hr := State.retire_vget (s := s.modCopies c f) ((s.alive_modCopies c _ f).trans ha) (by rw [State.modCopies_lcell]; exact htwin)
  rw [State.modCopies_physIx, hv] at hr
  rw [State.retire_physIx, State.modCopies_physIx, hr]

end

/-! ## Fences (R199 to R202) -/

section
variable {s : State} {c : Fin 128} {gd : BitVec 3}

theorem runFence_clear (h : s.mayRun (.cell c) gd) (scope : Nat) (hclear : s.fenceClear c scope = true) :
    s.ranAs (s.runFence (.cell c) gd 0 0 0 scope) (.cell c) (·.advance .c) := by
  have hrun : s.runFence (.cell c) gd 0 0 0 scope = s.retire (.cell c) := State.runMem_done h (if_pos hclear) _ _
  rw [hrun]
  exact State.retire_ranAs h

theorem runFence_waits (h : s.mayRun (.cell c) gd) (scope : Nat) (hclear : s.fenceClear c scope = false) :
    s.runFence (.cell c) gd 0 0 0 scope = s.setWait (.cell c) (.fence scope) :=
  State.runMem_stay h (if_neg (by rw [hclear]; decide)) _ _

theorem runFence_col {i : Fin 5} (h : s.mayRun (.col i) gd) (scope : Nat) :
    s.ranAs (s.runFence (.col i) gd 0 0 0 scope) (.col i) (·.advance .s) := by
  have hrun : s.runFence (.col i) gd 0 0 0 scope = s.retire (.col i) := State.runMem_done h rfl _ _
  rw [hrun]
  exact State.retire_ranAs h

theorem fenceE_marks (h : s.mayRun (.cell c) gd) (htwin : (vget s.lcell c).twin = none) :
    ∃ t, exec (.fenceE (.cell c) gd 0 0 0) s = .next t ∧ (vget t.phys (t.physIx c)).fenceE = true ∧
      t.coreOf (.cell c) = (s.coreOf (.cell c)).advance .c ∧ t.mem = s.mem ∧ t.regs = s.regs := by
  have hv := State.retire_modCopies_vget h.alive htwin fun ph => { ph with fenceE := true }
  refine ⟨(s.modCopies c fun ph => { ph with fenceE := true }).retire (.cell c), ?_, ?_, ?_, ?_, ?_⟩
  · exact congrArg ok (State.runMem_done h (by rfl) _ _)
  · rw [hv]
  · rw [State.coreOf_cell, hv]; rfl
  · rw [State.retire_mem, State.modCopies_mem]
  · rw [State.retire_regs, State.modCopies_regs]

theorem fenceComplete_waits (n : Nat) (hw : s.waitOf (.cell c) = .fence n) (hclear : s.fenceClear c n = false) :
    exec (.fenceComplete (.cell c)) s = .next s := by
  rw [exec_fenceComplete]
  unfold execFenceComplete
  rw [hw]
  dsimp only
  rw [hclear, Bool.and_false]
  rfl

theorem fenceComplete_clear (n : Nat) (hw : s.waitOf (.cell c) = .fence n) (ha : s.alive (.cell c) = true)
    (htwin : (vget s.lcell c).twin = none) (hclear : s.fenceClear c n = true) :
    ∃ t, exec (.fenceComplete (.cell c)) s = .next t ∧ t.waitOf (.cell c) = .run ∧
      t.coreOf (.cell c) = (s.coreOf (.cell c)).advance .c ∧ t.mem = s.mem := by
  have hv := State.retire_modCopies_vget ha htwin fun ph => { ph with wait := .run }
  refine ⟨(s.setWait (.cell c) .run).retire (.cell c), ?_, ?_, ?_, ?_⟩
  · rw [exec_fenceComplete]
    unfold execFenceComplete
    rw [hw]
    dsimp only
    rw [hclear, ha]
    rfl
  · exact congrArg Phys.wait hv
  · exact congrArg Phys.core hv
  · rw [State.retire_mem, State.setWait_cell, State.modCopies_mem]

end

/-! ## WAIT and its timeout (R194) -/

section
variable {s : State} {c : Fin 128}

theorem waitTimeout_early (h : ∀ b r t, s.waitOf (.cell c) = .sleep b r (some t) → s.tick < t) :
    exec (.waitTimeout c) s = .next s := by
  rw [exec_waitTimeout]
  unfold execWaitTimeout
  change ok (match s.waitOf (.cell c) with | .sleep pop rd (some t) => _ | _ => s) = _
  split
  · next b r t hw =>
    have ht : ¬ t ≤ s.tick := Nat.not_le.2 (h b r t hw)
    rw [decide_eq_false ht, Bool.and_false]
    rfl
  · rfl

theorem waitTimeout_due {b : Bool} {r l : Nat} (hw : s.waitOf (.cell c) = .sleep b r (some l)) (hl : l ≤ s.tick)
    (ha : s.alive (.cell c) = true) (htwin : (vget s.lcell c).twin = none) :
    ∃ t, exec (.waitTimeout c) s = .next t ∧ t.waitOf (.cell c) = .run ∧
      t.coreOf (.cell c) = (if b then (s.coreOf (.cell c)).wr .c r 0xFFFF else s.coreOf (.cell c)).advance .c ∧ t.mem = s.mem := by
  have hv := State.modCopies_physIx_vget (State.cellCores_nodup htwin) (State.mapped_of_alive ha)
    fun ph => { ph with wait := .run, core := (if b then ph.core.wr .c r 0xFFFF else ph.core).advance .c }
  refine ⟨s.modCopies c fun ph => { ph with wait := .run, core := (if b then ph.core.wr .c r 0xFFFF else ph.core).advance .c },
    ?_, ?_, ?_, ?_⟩
  · rw [exec_waitTimeout]
    unfold execWaitTimeout
    change ok (match s.waitOf (.cell c) with | .sleep pop rd (some t) => _ | _ => s) = _
    rw [hw]
    dsimp only
    rw [ha, decide_eq_true hl]
    rfl
  · change (vget (s.modCopies c _).phys ((s.modCopies c _).physIx c)).wait = _
    rw [State.modCopies_physIx, hv]
  · rw [State.coreOf_cell, State.modCopies_physIx, hv]
    rfl
  · exact State.modCopies_mem ..

end

section
variable {s : State} {c : Fin 128} {gd : BitVec 3}

/-! ### Notifications that wait are offered again -/

/-- What offering notifications leaves for a cell whose physical cell does not sleep: its registers, a FIFO that only grows, and
memory and registers of the device. -/
def State.Offered (s t : State) (q : Fin 128) : Prop :=
  t.regs = s.regs ∧ t.mem = s.mem ∧ t.lcell = s.lcell ∧ t.power = s.power ∧ t.boot = s.boot ∧
    (vget t.phys q).wait = .run ∧ (vget t.phys q).core = (vget s.phys q).core ∧
    ∃ more, (vget t.phys q).fifo = (vget s.phys q).fifo ++ more

theorem State.Offered.refl {q : Fin 128} (hw : (vget s.phys q).wait = .run) : s.Offered s q :=
  ⟨rfl, rfl, rfl, rfl, rfl, hw, rfl, [], (List.append_nil _).symm⟩

theorem State.Offered.trans {t u : State} {q : Fin 128} (h : s.Offered t q) (k : t.Offered u q) : s.Offered u q := by
  obtain ⟨hr, hm, hl, hp, hb, -, hc, more, hf⟩ := h
  obtain ⟨kr, km, kl, kp, kb, kw, kc, more', kf⟩ := k
  exact ⟨kr.trans hr, km.trans hm, kl.trans hl, kp.trans hp, kb.trans hb, kw, kc.trans hc, more ++ more',
    by rw [kf, hf, List.append_assoc]⟩

theorem State.Offered.wait {t : State} {q : Fin 128} (h : s.Offered t q) : (vget t.phys q).wait = .run := by
  obtain ⟨-, -, -, -, -, hw, -⟩ := h
  exact hw

/-- An entry that arrives at a physical cell that is not asleep is queued. -/
theorem Phys.arrive_awake (ph : Phys) (e : FifoEntry) (h : ph.wait = .run) : ph.arrive e = { ph with fifo := ph.fifo ++ [e] } := by
  cases ph
  cases h
  rfl

/-- An entry arrives at a physical cell. -/
theorem State.offered_arrive (s : State) (p q : Fin 128) (e : FifoEntry) (hw : (vget s.phys q).wait = .run) :
    s.Offered (s.modPhys p (·.arrive e)) q := by
  by_cases h : q = p
  · subst h
    have hv : vget (s.modPhys q (·.arrive e)).phys q = { vget s.phys q with fifo := (vget s.phys q).fifo ++ [e] } := by
      rw [State.modPhys_phys, vget_vset_same, Phys.arrive_awake _ _ hw]
    exact ⟨rfl, rfl, rfl, rfl, rfl, by rw [hv, hw], by rw [hv], [e], by rw [hv]⟩
  · have hv : vget (s.modPhys p (·.arrive e)).phys q = vget s.phys q := by
      rw [State.modPhys_phys, vget_vset_other _ _ h]
    exact ⟨rfl, rfl, rfl, rfl, rfl, by rw [hv, hw], by rw [hv], [], by rw [hv, List.append_nil]⟩

theorem State.pushFifo_offered {t : State} {q : Fin 128} {d : Fin 128} {e : FifoEntry} (hw : (vget s.phys q).wait = .run)
    (h : s.pushFifo d e = some t) : s.Offered t q := by
  unfold State.pushFifo at h
  split at h
  · cases h
  · next p hp =>
    split at h
    · cases h
    · split at h
      · cases h
      · have h1 := s.offered_arrive p q e hw
        dsimp only at h
        split at h
        · next q' _ =>
          cases h
          exact h1.trans (State.offered_arrive _ _ q e h1.wait)
        · cases h
          exact h1

theorem State.raiseLine_offered {t : State} {q : Fin 128} {col : Fin 5} {line : Fin 16} {ch payload : Nat} {ring : Option Nat}
    (hw : (vget s.phys q).wait = .run) (h : s.raiseLine col line ch payload ring = some t) : s.Offered t q := by
  unfold State.raiseLine at h
  dsimp only at h
  split at h
  · cases h
  · cases h
    exact ⟨rfl, rfl, rfl, rfl, rfl, hw, rfl, [], (List.append_nil _).symm⟩

theorem State.notifySend_offered {t : State} {q : Fin 128} (n : Nat) (hw : (vget s.phys q).wait = .run)
    (h : s.notifySend n = some t) : s.Offered t q := by
  unfold State.notifySend at h
  dsimp only at h
  split at h
  · exact State.pushFifo_offered hw h
  · split at h
    · exact State.raiseLine_offered hw h
    · cases h
      exact .refl hw
  · cases h
    exact .refl hw

theorem State.notifyRetry_offered {q : Fin 128} (hw : (vget s.phys q).wait = .run) : s.Offered s.notifyRetry q := by
  have hfold (l : List Nat) (t : State) (ht : s.Offered t q) : s.Offered (l.foldl (fun s n =>
      match s.notifySend n with
      | some s' => { s' with gal := { s'.gal with notify := s'.gal.notify.filter (· != n) } }
      | none => s) t) q := by
    induction l generalizing t with
    | nil => exact ht
    | cons n l ih =>
      rw [List.foldl_cons]
      refine ih _ ?_
      split
      · next t' hsend =>
        have hsent : t.Offered t' q := State.notifySend_offered n ht.wait hsend
        exact ht.trans hsent
      · exact ht
  exact hfold _ s (.refl hw)

theorem State.Offered.alive {t : State} {q : Fin 128} (h : s.Offered t q) (d : Fin 128) : t.alive (.cell d) = s.alive (.cell d) := by
  obtain ⟨hr, -, -, hp, hb, -⟩ := h
  unfold State.alive State.treesOn State.lstate State.physOf State.fld State.reg
  rw [hr, hp, hb]

theorem State.Offered.physIx {t : State} {q : Fin 128} (h : s.Offered t q) (d : Fin 128) : t.physIx d = s.physIx d := by
  obtain ⟨hr, -⟩ := h
  unfold State.physIx State.physOf State.reg
  rw [hr]

/-! ### WAIT (R194) -/

variable {rd ra : BitVec 5}

/-- A physical cell takes the oldest entry of its FIFO, `e`, into a register and ev. -/
def Phys.take (rd : BitVec 5) (e : FifoEntry) (ph : Phys) : Phys :=
  { ph with fifo := ph.fifo.drop 1, core := { ph.core.wr .c rd.toNat e.vec with ev := e.payload } }

/-- The effect of a WAIT of a cell, its fields legal. -/
def State.waitStep (s : State) (c : Fin 128) (rd ra : BitVec 5) (timed pop : Bool) : MemRes :=
  let ph := vget s.phys (s.physIx c)
  let limit := if timed then some (ph.core.u .c ra.toNat) else none
  match ph.fifo with
  | e :: _ =>
    if pop then
      .done ((s.modCopies c (Phys.take rd e)).pmcCount c 7).notifyRetry
    else .done s
  | [] =>
    if limit = some 0 then .done (if pop then s.modCores (.cell c) fun k => k.wr .c rd.toNat 0xFFFF else s)
    else .stay (s.setWait (.cell c) (.sleep pop rd.toNat (limit.map (s.tick + ·))))

/-- The fields a WAIT with RB = 0 admits. -/
def waitLegal (rd ra : BitVec 5) (fn : BitVec 7) (pop : Bool) : Bool :=
  decide (fn.toNat < 2) && (0 : BitVec 5) == 0 && (if fn.getLsbD 0 then isData .c ra.toNat else ra == 0) &&
    (if pop then isData .c rd.toNat else rd == 0)

/-- WAIT of a cell without a twin, its fields legal. -/
theorem runWait_step (h : s.mayRun (.cell c) gd) (htwin : (vget s.lcell c).twin = none) (fn : BitVec 7) (pop : Bool)
    (hlegal : waitLegal rd ra fn pop = true) :
    s.runWait (.cell c) gd rd ra 0 fn pop = s.runMem (.cell c) (encR 0x2A gd rd ra 0 (2 * fn.toNat + b2n pop)) gd true false
      fun s => s.waitStep c rd ra (fn.getLsbD 0) pop := by
  refine (State.twinCheck_single _ (State.cellCores_single h.mapped htwin) _).trans ?_
  unfold waitLegal at hlegal
  rw [hlegal]
  rfl

theorem runWait_done (h : s.mayRun (.cell c) gd) (htwin : (vget s.lcell c).twin = none) (fn : BitVec 7) (pop : Bool)
    (hlegal : waitLegal rd ra fn pop = true) {s1 : State} (hstep : s.waitStep c rd ra (fn.getLsbD 0) pop = .done s1) :
    s.runWait (.cell c) gd rd ra 0 fn pop = s1.retire (.cell c) :=
  (runWait_step h htwin fn pop hlegal).trans (State.runMem_done h hstep _ _)

theorem runWait_stay (h : s.mayRun (.cell c) gd) (htwin : (vget s.lcell c).twin = none) (fn : BitVec 7) (pop : Bool)
    (hlegal : waitLegal rd ra fn pop = true) {s1 : State} (hstep : s.waitStep c rd ra (fn.getLsbD 0) pop = .stay s1) :
    s.runWait (.cell c) gd rd ra 0 fn pop = s1 :=
  (runWait_step h htwin fn pop hlegal).trans (State.runMem_stay h hstep _ _)

theorem State.waitStep_entry {e : FifoEntry} {rest : List FifoEntry} (hf : (vget s.phys (s.physIx c)).fifo = e :: rest)
    (timed : Bool) : s.waitStep c rd ra timed false = .done s := by
  unfold State.waitStep
  dsimp only
  rw [hf]
  rfl

theorem State.waitStep_pop {e : FifoEntry} {rest : List FifoEntry} (hf : (vget s.phys (s.physIx c)).fifo = e :: rest)
    (timed : Bool) : s.waitStep c rd ra timed true = 
      .done ((s.modCopies c (Phys.take rd e)).pmcCount c 7).notifyRetry := by
  unfold State.waitStep
  dsimp only
  rw [hf]
  rfl

theorem State.waitStep_unlimited (hf : (vget s.phys (s.physIx c)).fifo = []) (pop : Bool) :
    s.waitStep c rd ra false pop = .stay (s.setWait (.cell c) (.sleep pop rd.toNat none)) := by
  unfold State.waitStep
  dsimp only
  rw [hf]
  rfl

theorem State.waitStep_zero (hf : (vget s.phys (s.physIx c)).fifo = []) (h0 : (s.coreOf (.cell c)).u .c ra.toNat = 0) (pop : Bool) :
    s.waitStep c rd ra true pop = .done (if pop then s.modCores (.cell c) fun k => k.wr .c rd.toNat 0xFFFF else s) := by
  unfold State.waitStep
  dsimp only
  rw [hf]
  exact if_pos (congrArg some h0)

theorem State.waitStep_limited (hf : (vget s.phys (s.physIx c)).fifo = []) (h0 : (s.coreOf (.cell c)).u .c ra.toNat ≠ 0) (pop : Bool) :
    s.waitStep c rd ra true pop =
      .stay (s.setWait (.cell c) (.sleep pop rd.toNat (some (s.tick + (s.coreOf (.cell c)).u .c ra.toNat)))) := by
  unfold State.waitStep
  dsimp only
  rw [hf]
  exact if_neg fun he => h0 (Option.some.inj he)

/-- WAIT that finds an entry goes on (R194). -/
theorem wait_entry (h : s.mayRun (.cell c) gd) (htwin : (vget s.lcell c).twin = none) {e : FifoEntry} {rest : List FifoEntry}
    (hf : (vget s.phys (s.physIx c)).fifo = e :: rest) :
    ∃ t, exec (.wait (.cell c) gd 0 0 0 0) s = .next t ∧ s.ranAs t (.cell c) (·.advance .c) := by
  exact ⟨_, congrArg ok (runWait_done h htwin 0 false rfl (State.waitStep_entry hf _)), State.retire_ranAs h⟩

/-- WAIT with P = 1 takes the entry (R194). -/
theorem waitp_entry (h : s.mayRun (.cell c) gd) (htwin : (vget s.lcell c).twin = none) {e : FifoEntry} {rest : List FifoEntry}
    (hf : (vget s.phys (s.physIx c)).fifo = e :: rest) (hd : isData .c rd.toNat = true) :
    ∃ t, exec (.waitp (.cell c) gd rd 0 0 0) s = .next t ∧
      t.coreOf (.cell c) = ({ (s.coreOf (.cell c)).wr .c rd.toNat e.vec with ev := e.payload } : Core).advance .c ∧
      (∃ more, (vget t.phys (t.physIx c)).fifo = rest ++ more) ∧ t.mem = s.mem := by
  have hpop : s.runWait (.cell c) gd rd 0 0 0 true = (((s.modCopies c (Phys.take rd e)).pmcCount c 7).notifyRetry).retire (.cell c) :=
    runWait_done h htwin 0 true (by rw [waitLegal, hd]; rfl) (State.waitStep_pop hf _)
  have ha1 : ((s.modCopies c (Phys.take rd e)).pmcCount c 7).alive (.cell c) = true := (s.alive_modCopies c _ _).trans h.alive
  have ht1 : (vget ((s.modCopies c (Phys.take rd e)).pmcCount c 7).lcell c).twin = none := by
    rw [State.pmcCount_twin, State.modCopies_lcell]; exact htwin
  have hx1 : ((s.modCopies c (Phys.take rd e)).pmcCount c 7).physIx c = s.physIx c := State.modCopies_physIx ..
  have hm1 : ((s.modCopies c (Phys.take rd e)).pmcCount c 7).mem = s.mem := State.modCopies_mem ..
  have hv1 : vget ((s.modCopies c (Phys.take rd e)).pmcCount c 7).phys (s.physIx c) = Phys.take rd e (vget s.phys (s.physIx c)) :=
    State.modCopies_physIx_vget h.nodup h.mapped _
  generalize (s.modCopies c (Phys.take rd e)).pmcCount c 7 = t1 at *
  have hw1 : (vget t1.phys (s.physIx c)).wait = .run := by rw [hv1]; exact h.wait
  have hoff := State.notifyRetry_offered hw1
  have ha2 := (hoff.alive c).trans ha1
  have hx2 := (hoff.physIx c).trans hx1
  obtain ⟨-, hm2, hl2, -, -, -, hc2, more, hf2⟩ := hoff
  have hv2 := State.retire_vget ha2 (by rw [hl2]; exact ht1)
  rw [hx2] at hv2
  refine ⟨_, congrArg ok hpop, ?_, ⟨more, ?_⟩, ?_⟩
  · rw [State.coreOf_cell, State.retire_physIx, hx2, hv2]
    dsimp only
    rw [hc2, hv1]
    rfl
  · rw [State.retire_physIx, hx2, hv2]
    dsimp only
    rw [hf2, hv1, Phys.take, hf]
    rfl
  · rw [State.retire_mem, hm2, hm1]

/-- WAIT without a limit sleeps where no entry waits (R194). -/
theorem wait_sleeps (h : s.mayRun (.cell c) gd) (htwin : (vget s.lcell c).twin = none) (hf : (vget s.phys (s.physIx c)).fifo = []) :
    exec (.wait (.cell c) gd 0 0 0 0) s = .next (s.setWait (.cell c) (.sleep false 0 none)) :=
  congrArg ok (runWait_stay h htwin 0 false rfl (State.waitStep_unlimited hf _))

/-- WAIT with the limit 0 ends at once where no entry waits (R194). -/
theorem wait_zero (h : s.mayRun (.cell c) gd) (htwin : (vget s.lcell c).twin = none) (hf : (vget s.phys (s.physIx c)).fifo = [])
    (ha : isData .c ra.toNat = true) (h0 : (s.coreOf (.cell c)).u .c ra.toNat = 0) :
    (∃ t, exec (.wait (.cell c) gd 0 ra 0 1) s = .next t ∧ s.ranAs t (.cell c) (·.advance .c)) ∧
    ∀ rd : BitVec 5, isData .c rd.toNat = true → ∃ t, exec (.waitp (.cell c) gd rd ra 0 1) s = .next t ∧
      s.ranAs t (.cell c) fun k => (k.wr .c rd.toNat 0xFFFF).advance .c := by
  exact ⟨⟨_, congrArg ok (runWait_done h htwin 1 false (by rw [waitLegal, ha]; rfl) (State.waitStep_zero hf h0 _)), State.retire_ranAs h⟩,
    fun rd hd => ⟨_, congrArg ok (runWait_done h htwin 1 true (by rw [waitLegal, ha, hd]; rfl) (State.waitStep_zero hf h0 _)),
      State.retire_modCores_ranAs h fun k => k.wr .c rd.toNat 0xFFFF⟩⟩

/-- WAIT with a limit sleeps until it where no entry waits (R194). -/
theorem wait_limited (h : s.mayRun (.cell c) gd) (htwin : (vget s.lcell c).twin = none) (hf : (vget s.phys (s.physIx c)).fifo = [])
    (ha : isData .c ra.toNat = true) (h0 : (s.coreOf (.cell c)).u .c ra.toNat ≠ 0) :
    exec (.wait (.cell c) gd 0 ra 0 1) s =
        .next (s.setWait (.cell c) (.sleep false 0 (some (s.tick + (s.coreOf (.cell c)).u .c ra.toNat)))) ∧
    ∀ rd : BitVec 5, isData .c rd.toNat = true → exec (.waitp (.cell c) gd rd ra 0 1) s =
        .next (s.setWait (.cell c) (.sleep true rd.toNat (some (s.tick + (s.coreOf (.cell c)).u .c ra.toNat)))) := by
  exact ⟨congrArg ok (runWait_stay h htwin 1 false (by rw [waitLegal, ha]; rfl) (State.waitStep_limited hf h0 _)),
    fun rd hd => congrArg ok (runWait_stay h htwin 1 true (by rw [waitLegal, ha, hd]; rfl) (State.waitStep_limited hf h0 _))⟩

end

/-! ## SUBMIT (R192) -/

section
variable {s : State} {c : Fin 128} {gd : BitVec 3}

theorem foldl_eccCorrect_clean {l : List Nat} (g : Nat → Nat) (h : ∀ i ∈ l, s.eccOf (g i) = 0) :
    l.foldl (fun s i => s.eccCorrect (g i)) s = s := by
  induction l with
  | nil => rfl
  | cons i l ih =>
    rw [List.foldl_cons, State.eccCorrect_clean (h i (List.mem_cons_self ..))]
    exact ih fun j hj => h j (List.mem_cons_of_mem _ hj)

theorem find?_clean {l : List Nat} (g : Nat → Nat) (h : ∀ i ∈ l, s.eccOf (g i) = 0) :
    (l.map g).find? (fun a => s.eccOf a == 2) = none := by
  rw [List.find?_eq_none]
  intro a ha
  obtain ⟨i, hi, rfl⟩ := List.mem_map.1 ha
  rw [h i hi]
  decide

/-- A submission enters the write buffer of a cell. -/
def Phys.submits (e : WbufEntry) (ph : Phys) : Phys := { ph with wbuf := ph.wbuf ++ [e], fenceE := false }

theorem State.post_submit (hn : (s.cellCores c).Nodup) (e : WbufEntry) (hroom : (s.wbufOf c).length < 4) :
    (s.post c e).unmark (.cell c) 0x30000020 = s.modCopies c (Phys.submits e) := by
  have hpost : s.post c e = s.modCopies c fun ph => { ph with wbuf := ph.wbuf ++ [e] } := by
    unfold State.post
    rw [if_pos hroom]
  rw [hpost]
  exact State.modCopies_modCopies hn _ fun ph => { ph with fenceE := false }

/-- The image of 16 bytes that a SUBMIT reads at word `a` of operand RAM. -/
def State.submitImage (s : State) (base : Nat) (ord wait : Bool) : WbufEntry :=
  .submit (memWord s.mem base) (memWord s.mem (base + 4)) (memWord s.mem (base + 8)) (memWord s.mem (base + 12)) ord wait

variable {rd ra : BitVec 5}

/-- SUBMIT of a clean image in operand RAM, of a cell without a twin and with room in its write buffer. -/
theorem execSubmit_step (h : s.mayRun (.cell c) gd) (htwin : (vget s.lcell c).twin = none) (fn : BitVec 8)
    (hlegal : (isAddr .c ra.toNat && (0 : BitVec 5) == 0 && decide (fn.toNat < 4) &&
      (if fn.getLsbD 1 then isPair .c rd else rd == 0)) = true)
    (heven : (s.coreOf (.cell c)).u .c ra.toNat % 2 = 0) (hlast : (s.coreOf (.cell c)).u .c ra.toNat + 8 ≤ 0x1000)
    (hclean : ∀ i, i < 8 → s.eccOf (s.ramAt c ((s.coreOf (.cell c)).u .c ra.toNat) + 2 * i) = 0) (hroom : (s.wbufOf c).length < 4) :
    execSubmit (.cell c) gd rd ra 0 fn s = .next
      (let s1 := s.modCopies c (Phys.submits
        (s.submitImage (s.ramAt c ((s.coreOf (.cell c)).u .c ra.toNat)) (fn.getLsbD 0) (fn.getLsbD 1)))
      if fn.getLsbD 1 then (s1.setWait (.cell c) (.decision rd.toNat)).pmc (.cell c) 1 1 else s1.retire (.cell c)) := by
  have hfind := find?_clean (s := s) (l := List.range 8)
    (fun i => s.ramAt c ((s.coreOf (.cell c)).u .c ra.toNat) + 2 * i) fun i hi => hclean i (List.mem_range.1 hi)
  have hfold := foldl_eccCorrect_clean (s := s) (l := List.range 8)
    (fun i => s.ramAt c ((s.coreOf (.cell c)).u .c ra.toNat) + 2 * i) fun i hi => hclean i (List.mem_range.1 hi)
  have hodd : decide ((s.coreOf (.cell c)).u .c ra.toNat % 2 = 1) = false := decide_eq_false (by omega)
  have hout : decide (0x1000 < (s.coreOf (.cell c)).u .c ra.toNat + 8) = false := decide_eq_false (by omega)
  unfold State.ramAt at hfind hfold
  unfold execSubmit
  dsimp only
  rw [State.twinCheck_single _ (State.cellCores_single h.mapped htwin), hlegal, State.runMem_mayRun h]
  rw [hodd, hout, Bool.or_false, if_neg Bool.false_ne_true, hfind]
  dsimp only
  rw [hfold, State.post_submit h.nodup _ hroom]
  cases fn.getLsbD 1 <;> rfl

/-- A submission without WAIT goes on (R192). -/
theorem submits_goes_on (h : s.mayRun (.cell c) gd) (htwin : (vget s.lcell c).twin = none) (e : WbufEntry) :
    let t := (s.modCopies c (Phys.submits e)).retire (.cell c)
    t.wbufOf c = s.wbufOf c ++ [e] ∧ t.coreOf (.cell c) = (s.coreOf (.cell c)).advance .c ∧ t.mem = s.mem ∧ t.regs = s.regs := by
  have hv := State.retire_modCopies_vget h.alive htwin (Phys.submits e)
  refine ⟨congrArg Phys.wbuf hv, congrArg Phys.core hv, ?_, ?_⟩
  · rw [State.retire_mem, State.modCopies_mem]
  · rw [State.retire_regs, State.modCopies_regs]

/-- A submission with WAIT waits for the decision (R193). -/
theorem submits_waits (h : s.mayRun (.cell c) gd) (e : WbufEntry) :
    let t := ((s.modCopies c (Phys.submits e)).setWait (.cell c) (.decision rd.toNat)).pmc (.cell c) 1 1
    t.wbufOf c = s.wbufOf c ++ [e] ∧ t.waitOf (.cell c) = .decision rd.toNat ∧ t.coreOf (.cell c) = s.coreOf (.cell c) ∧
      t.mem = s.mem ∧ t.regs = s.regs := by
  have hw : (s.modCopies c (Phys.submits e)).setWait (.cell c) (.decision rd.toNat) =
      s.modCopies c fun ph => { Phys.submits e ph with wait := .decision rd.toNat } := State.modCopies_modCopies h.nodup _ _
  rw [hw]
  have hv : vget (State.pmc (s.modCopies c fun ph => { Phys.submits e ph with wait := .decision rd.toNat }) (.cell c) 1 1).phys
      (State.physIx (State.pmc (s.modCopies c fun ph => { Phys.submits e ph with wait := .decision rd.toNat }) (.cell c) 1 1) c) =
        { Phys.submits e (vget s.phys (s.physIx c)) with wait := .decision rd.toNat } := by
    change vget (s.modCopies c _).phys ((s.modCopies c _).physIx c) = _
    rw [State.modCopies_physIx]
    exact State.modCopies_physIx_vget h.nodup h.mapped _
  exact ⟨congrArg Phys.wbuf hv, congrArg Phys.wait hv, (congrArg Phys.core hv).trans rfl, State.modCopies_mem .., State.modCopies_regs ..⟩

theorem submit_image (h : s.mayRun (.cell c) gd) (htwin : (vget s.lcell c).twin = none) (ord : Bool) (ha : isAddr .c ra.toNat = true)
    (heven : (s.coreOf (.cell c)).u .c ra.toNat % 2 = 0) (hlast : (s.coreOf (.cell c)).u .c ra.toNat + 8 ≤ 0x1000)
    (hclean : ∀ i, i < 8 → s.eccOf (s.ramAt c ((s.coreOf (.cell c)).u .c ra.toNat) + 2 * i) = 0) (hroom : (s.wbufOf c).length < 4) :
    let image := s.submitImage (s.ramAt c ((s.coreOf (.cell c)).u .c ra.toNat)) ord
    (∃ t, exec (.submit (.cell c) gd 0 ra 0 (if ord then 1 else 0)) s = .next t ∧ t.wbufOf c = s.wbufOf c ++ [image false] ∧
      t.coreOf (.cell c) = (s.coreOf (.cell c)).advance .c ∧ t.mem = s.mem ∧ t.regs = s.regs) ∧
    ∀ rd : BitVec 5, isPair .c rd = true → ∃ t, exec (.submit (.cell c) gd rd ra 0 (if ord then 3 else 2)) s = .next t ∧
      t.wbufOf c = s.wbufOf c ++ [image true] ∧ t.waitOf (.cell c) = .decision rd.toNat ∧
      t.coreOf (.cell c) = s.coreOf (.cell c) ∧ t.mem = s.mem ∧ t.regs = s.regs := by
  refine ⟨⟨_, ?_, submits_goes_on h htwin _⟩, fun rd hp => ⟨_, ?_, submits_waits h _⟩⟩
  · rw [exec_submit, execSubmit_step h htwin _ (by rw [ha]; cases ord <;> rfl) heven hlast hclean hroom]
    cases ord <;> rfl
  · rw [exec_submit, execSubmit_step h htwin _ (by rw [ha, hp]; cases ord <;> rfl) heven hlast hclean hroom]
    cases ord <;> rfl

end

/-! ## CKPT (R190, R191, R216) -/

section
variable {s : State} {c : Fin 128} {gd : BitVec 3} {rd : BitVec 5}

/-- Word `j` of the two records of a cell. -/
def State.flowAt (s : State) (c : Fin 128) (j : Nat) : Half := smGet 0 (vget s.block (Machine.blockOf c)).flow (256 * (c.val % 8) + j)

/-- Between `s` and `t` only Flowstone records and ECC state differ. -/
def State.FlowFrame (s t : State) : Prop := t = { s with ecc := t.ecc, block := t.block }

theorem State.FlowFrame.refl (s : State) : s.FlowFrame s := rfl

theorem State.FlowFrame.trans {s t u : State} (h : s.FlowFrame t) (k : t.FlowFrame u) : s.FlowFrame u := by
  unfold State.FlowFrame at *
  rw [k, h]

theorem State.ckptWord_frame (s : State) (c : Fin 128) (r i : Nat) (v : Half) : s.FlowFrame (s.ckptWord c r i v) := by
  unfold State.ckptWord State.eccClear State.FlowFrame
  split <;> rfl

theorem State.eccClear_block (s : State) (a : Nat) : (s.eccClear a).block = s.block := by
  unfold State.eccClear
  split <;> rfl

theorem State.ckptWord_flowAt (s : State) (c : Fin 128) (r i j : Nat) (v : Half) :
    (s.ckptWord c r i v).flowAt c j = if j = 128 * r + i then v else s.flowAt c j := by
  have hflow (t : State) : (t.setFlow c r i v).flowAt c j = if j = 128 * r + i then v else t.flowAt c j := by
    change smGet 0 (vget (vset t.block (Machine.blockOf c) _) (Machine.blockOf c)).flow _ = _
    rw [vget_vset_same]
    split
    · next h => rw [h, ← Nat.add_assoc, smGet_smSet_same]
    · next h => exact smGet_smSet_other _ _ _ (by omega)
  rw [State.ckptWord, hflow]
  unfold State.flowAt
  rw [State.eccClear_block]

/-- The words of a record after its header, one after the other. -/
theorem State.foldl_ckptWord (c : Fin 128) (r : Nat) (g : Nat → Half) (l : List Nat) (s : State) :
    s.FlowFrame (l.foldl (fun s i => s.ckptWord c r (i + 1) (g i)) s) ∧
    ∀ j, (∀ i ∈ l, j ≠ 128 * r + (i + 1)) → (l.foldl (fun s i => s.ckptWord c r (i + 1) (g i)) s).flowAt c j = s.flowAt c j := by
  induction l generalizing s with
  | nil => exact ⟨.refl s, fun _ _ => rfl⟩
  | cons i l ih =>
    obtain ⟨hframe, hflow⟩ := ih (s.ckptWord c r (i + 1) (g i))
    refine ⟨(s.ckptWord_frame c r (i + 1) (g i)).trans hframe, fun j hj => ?_⟩
    rw [List.foldl_cons, hflow j fun i' hi' => hj i' (List.mem_cons_of_mem _ hi'), State.ckptWord_flowAt,
      if_neg (hj i (List.mem_cons_self ..))]

theorem State.foldl_ckptWord_first (c : Fin 128) (r : Nat) (g : Nat → Half) (s : State) :
    ((List.range 63).foldl (fun s i => s.ckptWord c r (i + 1) (g i)) s).flowAt c (128 * r + 1) = g 0 := by
  rw [List.range_succ_eq_map, List.foldl_cons, (State.foldl_ckptWord c r g _ _).2 _ fun i hi => ?_, State.ckptWord_flowAt, if_pos rfl]
  obtain ⟨k, -, rfl⟩ := List.mem_map.1 hi
  omega

/-! ### GEN as CELL_STAT shows it -/

theorem State.setGen_lstate (s : State) (c : Fin 128) (g : Nat) : (s.setGen c g).lstate c = s.lstate c := by
  change CELL_STAT_LSTATE.get ((s.setFld CELL_STAT c.val CELL_STAT_GEN g).reg CELL_STAT c.val) = _
  rw [State.setFld, reg_setReg_same, Fld.get_put_apart _ _ _ _ (by decide) (by decide) (by decide)]
  rfl

theorem blk_map_ne_cell_stat : ∀ c : Fin 128, BLK_MAP.addr (c.val / 8) ≠ CELL_STAT.addr c.val := by decide

theorem State.setGen_physOf (s : State) (c : Fin 128) (g : Nat) : (s.setGen c g).physOf c = s.physOf c := by
  unfold State.physOf
  have hreg : (s.setGen c g).reg BLK_MAP (c.val / 8) = s.reg BLK_MAP (c.val / 8) :=
    reg_setFld_other s CELL_STAT BLK_MAP c.val (c.val / 8) _ _ (blk_map_ne_cell_stat c)
  rw [hreg]

theorem State.setGen_alive (s : State) (c : Fin 128) (g : Nat) : (s.setGen c g).alive (.cell c) = s.alive (.cell c) := by
  unfold State.alive
  dsimp only
  rw [State.setGen_lstate, State.setGen_physOf]
  rfl

/-! ### The record that CKPT writes -/

/-- The state once CKPT without data words has written record `r`, header last. -/
def State.recordWritten (s : State) (c : Fin 128) (k : Core) (pc r gen : Nat) : State :=
  ((List.range 63).foldl (fun s i => s.ckptWord c r (i + 1)
    (if i + 1 = 58 then BitVec.ofNat 16 (0 % 0x1000) else if i + 1 < 58 then coreFlow k pc (i + 1) else 0)) s).ckptWord c r 0
      (BitVec.ofNat 16 (gen * 256 + 0 * 4 + 1))

theorem State.recordWritten_frame (s : State) (c : Fin 128) (k : Core) (pc r gen : Nat) :
    s.FlowFrame (s.recordWritten c k pc r gen) :=
  (State.foldl_ckptWord c r _ _ s).1.trans (State.ckptWord_frame ..)

/-- The header. -/
theorem State.recordWritten_header (s : State) (c : Fin 128) (k : Core) (pc r gen : Nat) :
    (s.recordWritten c k pc r gen).flowAt c (128 * r) = BitVec.ofNat 16 (gen * 256 + 1) :=
  (State.ckptWord_flowAt ..).trans (if_pos rfl)

/-- The resume address. -/
theorem State.recordWritten_resume (s : State) (c : Fin 128) (k : Core) (pc r gen : Nat) :
    (s.recordWritten c k pc r gen).flowAt c (128 * r + 1) = BitVec.ofNat 16 (pc % 0x1000) :=
  (State.ckptWord_flowAt ..).trans ((if_neg (by omega)).trans (State.foldl_ckptWord_first c r _ s))

/-- The other record. -/
theorem State.recordWritten_other (s : State) (c : Fin 128) (k : Core) (pc gen : Nat) {r j : Nat} (hr : r < 2) (hj : j < 128) :
    (s.recordWritten c k pc r gen).flowAt c (128 * (1 - r) + j) = s.flowAt c (128 * (1 - r) + j) := by
  refine (State.ckptWord_flowAt ..).trans ((if_neg (by omega)).trans ((State.foldl_ckptWord c r _ _ s).2 _ fun i hi => ?_))
  have hi := List.mem_range.1 hi
  omega

theorem State.checkpoint_writes (s : State) (c : Fin 128) (k : Core) (pc : Nat) {r : Nat}
    (hr : r = if s.activeRecord c = some 0 then 1 else 0) (hok : s.ckptFails c r 0 = false) :
    s.checkpoint c k pc 0 0 [] =
      (((s.recordWritten c k pc r (((vget s.lcell c).clGen.toNat + 1) % 256)).setGen c (((vget s.lcell c).clGen.toNat + 1) % 256)
        |>.modCell c fun l => { l with ckAt := s.tick }).pmcCount c 0x0F, ((vget s.lcell c).clGen.toNat + 1) % 256) := by
  unfold State.checkpoint State.recordWritten
  dsimp only
  split
  · next hrec =>
    obtain rfl : r = 1 := by rw [hr, if_pos hrec]
    rw [if_neg (by rw [hok]; decide), List.range_zero, List.foldl_nil]
  · next hrec =>
    obtain rfl : r = 0 := by rw [hr, if_neg hrec]
    rw [if_neg (by rw [hok]; decide), List.range_zero, List.foldl_nil]

/-- CKPT of a cell without a twin and without data words. -/
def State.ckptStep (s : State) (c : Fin 128) : State × Nat :=
  let k := s.coreOf (.cell c)
  if k.stb 14 || k.stb 13 then (s, 0xFFFD)
  else if !s.bit CELL_CFG c.val CELL_CFG_FLOW then (s, 0xFFFF)
  else s.checkpoint c k (pcAdd .c k.pc 1).toNat 0 0 []

theorem ckpt_step (h : s.mayRun (.cell c) gd) (htwin : (vget s.lcell c).twin = none) (hd : isData .c rd.toNat = true) :
    exec (.ckpt (.cell c) gd rd 0 0 0) s =
      .next (((s.ckptStep c).1.modCores (.cell c) fun k => k.wr .c rd.toNat (s.ckptStep c).2).retire (.cell c)) := by
  have hlegal : (isData .c rd.toNat && !(0 : BitVec 8).getLsbD 1 && (if (0 : BitVec 8).toNat / 4 = 0 then (0 : BitVec 5) == 0 else
      isAddr .c (0 : BitVec 5).toNat) && (if (0 : BitVec 8).getLsbD 0 then isAddr .c (0 : BitVec 5).toNat else (0 : BitVec 5) == 0)) =
      true := by rw [hd]; rfl
  rw [exec_ckpt]
  unfold execCkpt
  dsimp only
  rw [State.twinCheck_single _ (State.cellCores_single h.mapped htwin), hlegal, State.runMem_mayRun h]
  unfold State.ckptStep
  dsimp only
  have hn : (0 : BitVec 8).toNat / 4 = 0 := rfl
  have hsel : (0 : BitVec 8).getLsbD 0 = false := rfl
  rw [hn, hsel]
  cases (s.coreOf (.cell c)).stb 14 || (s.coreOf (.cell c)).stb 13
  · cases s.bit CELL_CFG c.val CELL_CFG_FLOW <;> rfl
  · rfl

end

section
variable {s : State} {c : Fin 128} {gd : BitVec 3} {rd : BitVec 5}

/-- The state once CKPT has written its record and counts a new generation. -/
def State.checkpointed (s w : State) (c : Fin 128) (gen : Nat) : State :=
  ((w.setGen c gen).modCell c fun l => { l with ckAt := s.tick }).pmcCount c 0x0F

theorem State.checkpointed_alive {w : State} (hw : s.FlowFrame w) (gen : Nat) :
    (s.checkpointed w c gen).alive (.cell c) = s.alive (.cell c) := by
  refine (State.setGen_alive w c gen).trans ?_
  rw [hw]
  rfl

theorem State.checkpointed_physIx {w : State} (hw : s.FlowFrame w) (gen : Nat) : (s.checkpointed w c gen).physIx c = s.physIx c := by
  refine (congrArg (·.getD 0) (State.setGen_physOf w c gen)).trans ?_
  rw [hw]
  rfl

theorem State.checkpointed_twin {w : State} (hw : s.FlowFrame w) (gen : Nat) :
    (vget (s.checkpointed w c gen).lcell c).twin = (vget s.lcell c).twin := by
  refine (State.pmcCount_twin _ c _).trans ?_
  refine (congrArg LCell.twin (vget_vset_same _ c _)).trans ((congrArg LCell.twin (vget_vset_same w.lcell c _)).trans ?_)
  rw [hw]
  rfl

theorem State.checkpointed_clGen {w : State} (gen : Nat) : (vget (s.checkpointed w c gen).lcell c).clGen = BitVec.ofNat 8 gen := by
  refine (State.pmcCount_clGen _ c _).trans ?_
  exact (congrArg LCell.clGen (vget_vset_same _ c _)).trans (congrArg LCell.clGen (vget_vset_same w.lcell c _))

theorem State.checkpointed_shows {w : State} {gen : Nat} (hgen : gen < 256) :
    (s.checkpointed w c gen).fld CELL_STAT c.val CELL_STAT_GEN = gen :=
  (fld_setFld_same w CELL_STAT c.val CELL_STAT_GEN gen (by decide)).trans (Nat.mod_eq_of_lt hgen)

theorem ckpt_in_handler (h : s.mayRun (.cell c) gd) (htwin : (vget s.lcell c).twin = none) (hd : isData .c rd.toNat = true)
    (hst : (s.coreOf (.cell c)).stb 13 = true ∨ (s.coreOf (.cell c)).stb 14 = true) :
    ∃ t, exec (.ckpt (.cell c) gd rd 0 0 0) s = .next t ∧ s.ranAs t (.cell c) fun k => (k.wr .c rd.toNat 0xFFFD).advance .c := by
  have hstep : s.ckptStep c = (s, 0xFFFD) := if_pos (by rcases hst with hst | hst <;> simp [hst])
  refine ⟨_, ckpt_step h htwin hd, ?_⟩
  rw [hstep]
  exact State.retire_modCores_ranAs h fun k => k.wr .c rd.toNat 0xFFFD

theorem ckpt_flow_off (h : s.mayRun (.cell c) gd) (htwin : (vget s.lcell c).twin = none) (hd : isData .c rd.toNat = true)
    (h13 : (s.coreOf (.cell c)).stb 13 = false) (h14 : (s.coreOf (.cell c)).stb 14 = false)
    (hflow : s.bit CELL_CFG c.val CELL_CFG_FLOW = false) :
    ∃ t, exec (.ckpt (.cell c) gd rd 0 0 0) s = .next t ∧ s.ranAs t (.cell c) fun k => (k.wr .c rd.toNat 0xFFFF).advance .c := by
  have hstep : s.ckptStep c = (s, 0xFFFF) := by
    unfold State.ckptStep
    dsimp only
    rw [h13, h14, hflow]
    rfl
  refine ⟨_, ckpt_step h htwin hd, ?_⟩
  rw [hstep]
  exact State.retire_modCores_ranAs h fun k => k.wr .c rd.toNat 0xFFFF

theorem ckpt_flow_on (h : s.mayRun (.cell c) gd) (htwin : (vget s.lcell c).twin = none) (hd : isData .c rd.toNat = true)
    (h13 : (s.coreOf (.cell c)).stb 13 = false) (h14 : (s.coreOf (.cell c)).stb 14 = false)
    (hflow : s.bit CELL_CFG c.val CELL_CFG_FLOW = true) {r gen : Nat} (hr : r = if s.activeRecord c = some 0 then 1 else 0)
    (hgen : gen = ((vget s.lcell c).clGen.toNat + 1) % 256) (hok : s.ckptFails c r 0 = false) :
    ∃ t, exec (.ckpt (.cell c) gd rd 0 0 0) s = .next t ∧
      t.coreOf (.cell c) = ((s.coreOf (.cell c)).wr .c rd.toNat gen).advance .c ∧ (vget t.lcell c).clGen.toNat = gen ∧
      t.fld CELL_STAT c.val CELL_STAT_GEN = gen ∧ t.flowAt c (128 * r) = BitVec.ofNat 16 (gen * 256 + 1) ∧
      t.flowAt c (128 * r + 1) = BitVec.ofNat 16 (pcAdd .c (s.coreOf (.cell c)).pc 1).toNat ∧
      (∀ j, j < 128 → t.flowAt c (128 * (1 - r) + j) = s.flowAt c (128 * (1 - r) + j)) ∧ t.mem = s.mem := by
  have hr2 : r < 2 := by rw [hr]; split <;> decide
  have hlt : gen < 256 := by omega
  have hpc : (pcAdd .c (s.coreOf (.cell c)).pc 1).toNat < 0x1000 := by
    unfold pcAdd pat
    rw [BitVec.toNat_ofNat]
    omega
  obtain ⟨w, hw⟩ : ∃ w, w = s.recordWritten c (s.coreOf (.cell c)) (pcAdd .c (s.coreOf (.cell c)).pc 1).toNat r gen := ⟨_, rfl⟩
  have hframe : s.FlowFrame w := by rw [hw]; exact s.recordWritten_frame ..
  have hstep : s.ckptStep c = (s.checkpointed w c gen, gen) := by
    unfold State.ckptStep
    dsimp only
    rw [h13, h14, hflow, hw]
    subst hgen
    exact s.checkpoint_writes c _ _ hr hok
  have ha : (s.checkpointed w c gen).alive (.cell c) = true := (State.checkpointed_alive hframe gen).trans h.alive
  have hv := State.retire_modCopies_vget ha ((State.checkpointed_twin hframe gen).trans htwin)
    fun ph => { ph with core := ph.core.wr .c rd.toNat gen }
  have hphys : (s.checkpointed w c gen).phys = s.phys := by change w.phys = _; rw [hframe]
  rw [hphys, State.checkpointed_physIx hframe] at hv
  obtain ⟨ph, hph⟩ := (s.checkpointed w c gen).modCopies_eq c fun ph => { ph with core := ph.core.wr .c rd.toNat gen }
  have hblock : (((s.checkpointed w c gen).modCores (.cell c) fun k => k.wr .c rd.toNat gen).retire (.cell c)).block = w.block := by
    rw [State.retire_block, State.modCores_cell, hph]
    rfl
  have hflowAt (j : Nat) : (((s.checkpointed w c gen).modCores (.cell c) fun k => k.wr .c rd.toNat gen).retire (.cell c)).flowAt c j =
      (s.recordWritten c (s.coreOf (.cell c)) (pcAdd .c (s.coreOf (.cell c)).pc 1).toNat r gen).flowAt c j := by
    rw [State.flowAt, hblock, hw]
    rfl
  refine ⟨_, ckpt_step h htwin hd, ?_⟩
  rw [hstep]
  dsimp only
  refine ⟨congrArg Phys.core hv, ?_, ?_, ?_, ?_, fun j hj => ?_, ?_⟩
  · rw [State.retire_clGen ((State.alive_modCores ..).trans ha), State.modCores_cell, State.modCopies_lcell,
      State.checkpointed_clGen, BitVec.toNat_ofNat]
    exact Nat.mod_eq_of_lt hlt
  · refine Eq.trans ?_ (State.checkpointed_shows (s := s) (w := w) (c := c) hlt)
    unfold State.fld State.reg
    rw [State.retire_regs, State.modCores_cell, State.modCopies_regs]
  · exact (hflowAt _).trans (s.recordWritten_header ..)
  · exact (hflowAt _).trans ((s.recordWritten_resume ..).trans (congrArg (BitVec.ofNat 16) (Nat.mod_eq_of_lt hpc)))
  · exact (hflowAt _).trans (s.recordWritten_other c _ _ _ hr2 hj)
  · rw [State.retire_mem, State.modCores_cell, State.modCopies_mem]
    change w.mem = _
    rw [hframe]

end

/-- Settles O32: CKPT, SUBMIT, WAIT and the fences of a cell without a twin, its timeouts, and a column's fences. -/
theorem sornasWaits : Obligations.SornasWaits := by
  unfold Obligations.SornasWaits
  refine ⟨fun c gd s h htwin => ⟨fun rd hd => ⟨ckpt_in_handler h htwin hd, fun h13 h14 => ⟨ckpt_flow_off h htwin hd h13 h14,
    fun hflow hok => ckpt_flow_on h htwin hd h13 h14 hflow rfl rfl hok⟩⟩, fun ra ord ha => ?_, fun e rest hf => ?_, fun hf ra ha => ?_,
    fun e he => ?_, fenceE_marks h htwin⟩, fun c s htwin => ⟨waitTimeout_early, fun b r l => (waitTimeout_due · · · htwin),
    fun n hw ha => ⟨fenceComplete_waits n hw, fenceComplete_clear n hw ha htwin⟩⟩, fun c gd s h => ?_⟩
  · exact submit_image h htwin ord ha
  · exact ⟨wait_entry h htwin hf, fun rd hd => waitp_entry h htwin hf hd⟩
  · exact ⟨wait_sleeps h htwin hf, wait_zero h htwin hf ha, wait_limited h htwin hf ha⟩
  · have hscope (n : Nat) : (s.fenceClear c n = true → ∃ t, ok (s.runFence (.cell c) gd 0 0 0 n) = ok t ∧
        s.ranAs t (.cell c) (·.advance .c)) ∧
        (s.fenceClear c n = false → ok (s.runFence (.cell c) gd 0 0 0 n) =
          ok (s.setWait (.cell c) (.fence n))) :=
      ⟨fun hc => ⟨_, rfl, runFence_clear h n hc⟩, fun hc => congrArg _ (runFence_waits h n hc)⟩
    simp only [List.mem_cons, List.not_mem_nil, or_false] at he
    rcases he with rfl | rfl | rfl
    · exact hscope 0
    · exact hscope 1
    · exact hscope 2
  · exact ⟨⟨_, rfl, runFence_col h 0⟩, ⟨_, rfl, runFence_col h 1⟩, ⟨_, rfl, runFence_col h 2⟩⟩

end Sys2Proof.Machine

namespace Sys2Proof.Machine

/-! ## Sornas-S processors -/

@[simp] theorem sIndex_procAt (i : Fin 6) : sIndex (procAt i) = i := by
  unfold procAt
  split
  · rfl
  · next h => exact Fin.ext (by show 5 = i.val; omega)

@[simp] theorem profileOf_procAt (i : Fin 6) : profileOf (procAt i) = .s := by
  unfold procAt
  split <;> rfl

section
variable {s : State} {p : Proc}

theorem State.coreOf_s (s : State) (hp : profileOf p = .s) : s.coreOf p = (vget s.sproc (sIndex p)).core := by
  cases p with
  | cell c => cases hp
  | col c => rfl
  | grotto => rfl

theorem State.waitOf_s (s : State) (hp : profileOf p = .s) : s.waitOf p = (vget s.sproc (sIndex p)).wait := by
  cases p with
  | cell c => cases hp
  | col c => rfl
  | grotto => rfl

theorem State.modCores_s (s : State) (hp : profileOf p = .s) (f : Core → Core) :
    s.modCores p f = s.modSproc (sIndex p) fun q => { q with core := f q.core } := by
  cases p with
  | cell c => cases hp
  | col c => rfl
  | grotto => rfl

theorem State.setWait_s (s : State) (hp : profileOf p = .s) (w : WaitState) :
    s.setWait p w = s.modSproc (sIndex p) fun q => { q with wait := w } := by
  cases p with
  | cell c => cases hp
  | col c => rfl
  | grotto => rfl

/-! ### Completing an instruction of a Sornas-S processor -/

theorem State.retire_s (ha : s.alive p = true) (hp : profileOf p = .s) : s.ranAs (s.retire p) p (·.advance .s) := by
  rw [State.retire_alive ha, State.modCores_s _ hp]
  have h := s.modSproc_pmc_ranAs hp (·.advance (profileOf p)) 1 1
  rw [hp] at h ⊢
  exact h

theorem State.ranAs.sproc {t : State} {f : Core → Core} (h : s.ranAs t p f) (hp : profileOf p = .s) :
    vget t.sproc (sIndex p) = { vget s.sproc (sIndex p) with
      core := f (vget s.sproc (sIndex p)).core, csr := (vget t.sproc (sIndex p)).csr } ∧
    (∀ n, n < 0xC10 → smGet 0 (vget t.sproc (sIndex p)).csr n = smGet 0 (vget s.sproc (sIndex p)).csr n) ∧
    (∀ i, i ≠ sIndex p → vget t.sproc i = vget s.sproc i) ∧ t = { s with sproc := t.sproc } := by
  cases p with
  | cell c => cases hp
  | col c => exact h
  | grotto => exact h

/-! ### Supervisor operations (R450) -/

variable {gd : BitVec 3} {legal resume user : Bool} {act : State → MemRes}

theorem State.runSup_runMem (hp : profileOf p = .s) (hlegal : legal = true) (w : Word) :
    s.runSup p w gd legal resume user act = s.runMem p w gd true resume fun s =>
      if (s.coreOf p).stb 31 || user then act s else .trap s .priv := by
  have hl : (profileOf p == .s && legal) = true := by rw [hp, hlegal]; rfl
  unfold State.runSup
  rw [hl]

theorem State.runSup_priv (h : s.mayRun p gd) (hp : profileOf p = .s) (hlegal : legal = true) (hsup : (s.coreOf p).stb 31 = false)
    (w : Word) : s.runSup p w gd legal resume false act = s.trap p w .priv :=
  (State.runSup_runMem hp hlegal w).trans (State.runMem_trap h (if_neg (by rw [hsup]; decide)) _ _)

theorem State.runSup_done {s1 : State} (h : s.mayRun p gd) (hp : profileOf p = .s) (hlegal : legal = true)
    (hsup : (s.coreOf p).stb 31 = true) (hact : act s = .done s1) (w : Word) : s.runSup p w gd legal resume user act = s1.retire p :=
  (State.runSup_runMem hp hlegal w).trans (State.runMem_done h ((if_pos (by rw [hsup]; rfl)).trans hact) _ _)

theorem State.runSup_stay {s1 : State} (h : s.mayRun p gd) (hp : profileOf p = .s) (hlegal : legal = true)
    (hsup : (s.coreOf p).stb 31 = true) (hact : act s = .stay s1) (w : Word) : s.runSup p w gd legal resume user act = s1 :=
  (State.runSup_runMem hp hlegal w).trans (State.runMem_stay h ((if_pos (by rw [hsup]; rfl)).trans hact) _ _)

theorem State.runSup_trap {s1 : State} {t : Trap} (h : s.mayRun p gd) (hp : profileOf p = .s) (hlegal : legal = true)
    (hsup : (s.coreOf p).stb 31 = true) (hact : act s = .trap s1 t) (w : Word) :
    s.runSup p w gd legal resume user act = s1.trap p w t :=
  (State.runSup_runMem hp hlegal w).trans (State.runMem_trap h ((if_pos (by rw [hsup]; rfl)).trans hact) _ _)

/-! ## CSR accesses (R452, R453) -/

variable {rd ra : BitVec 5} {imm : BitVec 13}

theorem csrNumber (h12 : imm.getLsbD 12 = false) : imm.toNat % 2 ^ 12 = imm.toNat := by
  have hlt := imm.isLt
  rw [BitVec.getLsbD, Nat.testBit_eq_decide_div_mod_eq, decide_eq_false_iff_not] at h12
  omega

/-- Between `s` and `t` only register files of Sornas-S processors differ, and the same ones are in reset. -/
def State.SprocFrame (s t : State) : Prop :=
  t = { s with sproc := t.sproc } ∧ ∀ j, (vget t.sproc j).inReset = (vget s.sproc j).inReset

theorem State.SprocFrame.refl (s : State) : s.SprocFrame s := ⟨rfl, fun _ => rfl⟩

theorem State.SprocFrame.trans {t u : State} (h : s.SprocFrame t) (k : t.SprocFrame u) : s.SprocFrame u := by
  obtain ⟨ht, hr⟩ := h
  obtain ⟨ku, kr⟩ := k
  exact ⟨by rw [ku, ht], fun j => (kr j).trans (hr j)⟩

theorem State.SprocFrame.alive {t : State} (h : s.SprocFrame t) (q : Proc) : t.alive q = s.alive q := by
  obtain ⟨ht, hr⟩ := h
  have hcol (j : Fin 6) : t.colAlive j = s.colAlive j := by
    unfold State.colAlive
    rw [hr, ht]
    rfl
  cases q with
  | cell c => rw [ht]; rfl
  | col c =>
    unfold State.alive
    dsimp only
    rw [hcol, ht]
    rfl
  | grotto =>
    unfold State.alive
    dsimp only
    rw [hcol, ht]
    rfl

theorem State.modSproc_sprocFrame (s : State) (i : Fin 6) {f : SProc → SProc} (hf : ∀ q, (f q).inReset = q.inReset) :
    s.SprocFrame (s.modSproc i f) := by
  refine ⟨rfl, fun j => ?_⟩
  rw [State.modSproc_sproc, vget_vset]
  split
  · next h => rw [hf, h]
  · rfl

/-! ### SWI -/

/-- The columns below `m` named in `v` have been raised. -/
theorem State.raiseSwi_foldl (s : State) (i : Fin 6) (v : Word) (m : Nat) (hm : m ≤ 5) :
    let t := (List.range m).foldl (fun s n =>
      if v.getLsbD n then s.modSproc (Fin.ofNat 6 n) fun q => { q with swi := q.swi ||| (1#5 <<< i.val) } else s) s
    s.SprocFrame t ∧ ∀ j : Fin 6, vget t.sproc j = { vget s.sproc j with
      swi := (vget s.sproc j).swi ||| if j.val < m ∧ v.getLsbD j.val = true then 1#5 <<< i.val else 0 } := by
  induction m with
  | zero => exact ⟨.refl s, fun j => by simp⟩
  | succ m ih =>
    obtain ⟨hframe, hv⟩ := ih (by omega)
    rw [List.range_succ, List.foldl_append, List.foldl_cons, List.foldl_nil]
    generalize (List.range m).foldl _ s = t at *
    dsimp only at *
    have hof : (Fin.ofNat 6 m).val = m := Nat.mod_eq_of_lt (by omega)
    by_cases hb : v.getLsbD m = true
    · rw [if_pos hb]
      refine ⟨hframe.trans (State.modSproc_sprocFrame _ _ fun _ => rfl), fun j => ?_⟩
      rw [State.modSproc_sproc, vget_vset]
      by_cases hj : j = Fin.ofNat 6 m
      · have hjm : j.val = m := by rw [hj, hof]
        rw [if_pos hj, ← hj, hv j, if_neg (by omega), if_pos ⟨by omega, by rw [hjm]; exact hb⟩]
        simp
      · have hjm : j.val ≠ m := fun e => hj (Fin.ext (by rw [hof, e]))
        rw [if_neg hj, hv j]
        congr 3
        exact propext ⟨fun ⟨h1, h2⟩ => ⟨by omega, h2⟩, fun ⟨h1, h2⟩ => ⟨by omega, h2⟩⟩
    · rw [if_neg hb]
      refine ⟨hframe, fun j => ?_⟩
      rw [hv j]
      congr 3
      refine propext ⟨fun ⟨h1, h2⟩ => ⟨by omega, h2⟩, fun ⟨h1, h2⟩ => ⟨?_, h2⟩⟩
      have : j.val ≠ m := fun e => hb (e ▸ h2)
      omega

theorem State.raiseSwi_spec (s : State) (i : Fin 6) (v : Word) :
    s.SprocFrame (s.raiseSwi i v) ∧ ∀ j : Fin 6, vget (s.raiseSwi i v).sproc j = { vget s.sproc j with
      swi := (vget s.sproc j).swi ||| if i.val < 5 ∧ j.val < 5 ∧ v.getLsbD j.val = true then 1#5 <<< i.val else 0 } := by
  unfold State.raiseSwi
  split
  · next h => exact ⟨.refl s, fun j => by rw [if_neg (by omega)]; simp⟩
  · next h =>
    obtain ⟨hframe, hv⟩ := s.raiseSwi_foldl i v 5 (Nat.le_refl 5)
    refine ⟨hframe, fun j => (hv j).trans ?_⟩
    by_cases hj : j.val < 5 ∧ v.getLsbD j.val = true
    · rw [if_pos hj, if_pos ⟨by omega, hj⟩]
    · rw [if_neg hj, if_neg fun hi => hj hi.2]

/-! ### What a CSR write leaves -/

theorem State.csrWrite_spr {i : Fin 6} {n : Nat} (hn : n < 0x014) (v : Word) :
    s.csrWrite i n v = s.modSproc i fun q => { q with core := q.core.setSpr .s n v.toNat } := if_pos hn

theorem State.csrWrite_swi (i : Fin 6) (v : Word) : s.csrWrite i 0x02C v = s.raiseSwi i v := rfl

theorem State.csrWrite_frame (s : State) (i : Fin 6) (n : Nat) (v : Word) : s.SprocFrame (s.csrWrite i n v) := by
  unfold State.csrWrite
  split
  · exact State.modSproc_sprocFrame _ _ fun _ => rfl
  · split
    · exact (s.raiseSwi_spec i v).1
    · refine State.modSproc_sprocFrame _ _ fun q => ?_
      dsimp only
      split <;> rfl

/-- A CSR that is no special register, written: the core stays, and every CSR below the counters but that one. -/
theorem State.csrWrite_csr (s : State) (i : Fin 6) {n : Nat} (hn : 0x014 ≤ n) (v : Word) :
    (vget (s.csrWrite i n v).sproc i).core = (vget s.sproc i).core ∧ ∀ m, m < 0xC10 →
      smGet 0 (vget (s.csrWrite i n v).sproc i).csr m =
        if m = n ∧ csrMask n ≠ 0 then v &&& csrMask n else smGet 0 (vget s.sproc i).csr m := by
  by_cases h2C : n = 0x02C
  · subst h2C
    rw [State.csrWrite_swi, (s.raiseSwi_spec i v).2 i]
    exact ⟨rfl, fun m _ => (if_neg fun h => h.2 rfl).symm⟩
  · have hw : s.csrWrite i n v = s.modSproc i fun q =>
        let w := if n = 0xC28 then (smGet 0 q.csr n &&& ~~~v &&& 0xFF) ||| (v &&& csrMask n) else v &&& csrMask n
        if csrMask n = 0 then q else { q with csr := smSet q.csr n w } := by
      unfold State.csrWrite
      rw [if_neg (by omega), if_neg h2C]
    rw [hw, State.modSproc_sproc, vget_vset_same]
    dsimp only
    by_cases hmask : csrMask n = 0
    · rw [if_pos hmask]
      exact ⟨rfl, fun m _ => by rw [if_neg fun h => h.2 hmask]⟩
    · rw [if_neg hmask]
      refine ⟨rfl, fun m hm => ?_⟩
      dsimp only
      by_cases hmn : m = n
      · subst hmn
        rw [smGet_smSet_same, if_neg (by omega), if_pos ⟨rfl, hmask⟩]
      · rw [smGet_smSet_other _ _ _ hmn, if_neg fun h => hmn h.1]

/-! ### The accesses -/

/-- CSRR in supervisor mode. -/
theorem csrr_runs (h : s.mayRun p gd) (hp : profileOf p = .s) (hsup : (s.coreOf p).stb 31 = true) (h12 : imm.getLsbD 12 = false)
    (hknown : csrKnown imm.toNat = true) : ∃ t, exec (.csrr p gd rd 0 imm) s = .next t ∧
      s.ranAs t p fun k => (k.wr .s rd.toNat (s.csrRead (sIndex p) imm.toNat).toNat).advance .s := by
  refine ⟨(s.modCores p fun k => k.wr .s rd.toNat (s.csrRead (sIndex p) imm.toNat).toNat).retire p, congrArg ok ?_, ?_⟩
  · unfold State.runCsr
    dsimp only
    rw [csrNumber h12]
    refine State.runSup_done h hp ?_ hsup (by rfl) _
    rw [h12, hknown]
    rfl
  · have hran := State.retire_modCores_ranAs h fun k => k.wr .s rd.toNat (s.csrRead (sIndex p) imm.toNat).toNat
    rw [hp] at hran
    exact hran

/-- RA as a CSR access takes it. -/
def State.csrSource (s : State) (p : Proc) (ra : BitVec 5) : Word := BitVec.ofNat 32 ((s.coreOf p).u .s ra.toNat)

/-- The state in which a CSR access has put the old value into RD and `v` into the CSR. -/
def State.csrAccessed (s : State) (p : Proc) (rd : BitVec 5) (n : Nat) (v : Word) : State :=
  (s.modCores p fun k => k.wr .s rd.toNat (s.csrRead (sIndex p) n).toNat).csrWrite (sIndex p) n v

/-- An access that writes a CSR, in supervisor mode. -/
theorem runCsr_writes (h : s.mayRun p gd) (hp : profileOf p = .s) (hsup : (s.coreOf p).stb 31 = true) (h12 : imm.getLsbD 12 = false)
    (hknown : csrKnown imm.toNat = true) (op : Nat) (f : Word → Word → Word)
    (hadmit : imm.toNat = 0x021 →
      s.maySelect (sIndex p) ((f (s.csrRead (sIndex p) imm.toNat) (s.csrSource p ra)).toNat % 16) = true) :
    s.runCsr p op gd rd ra imm true (some f) =
      (s.csrAccessed p rd imm.toNat (f (s.csrRead (sIndex p) imm.toNat) (s.csrSource p ra))).retire p := by
  have hadm : (decide (imm.toNat = 0x021) &&
      !s.maySelect (sIndex p) ((f (s.csrRead (sIndex p) imm.toNat) (s.csrSource p ra)).toNat % 16)) = false := by
    by_cases hn : imm.toNat = 0x021
    · rw [hadmit hn]; exact Bool.and_false _
    · rw [decide_eq_false hn]; rfl
  unfold State.runCsr
  dsimp only
  rw [csrNumber h12]
  refine State.runSup_done h hp (by rw [h12, hknown]; rfl) hsup ?_ _
  exact if_neg (by rw [← State.csrSource, hadm]; decide)

/-- A write of CURCH of a chamber the column may not select (R466). -/
theorem runCsr_refused (h : s.mayRun p gd) (hp : profileOf p = .s) (hsup : (s.coreOf p).stb 31 = true) (op : Nat)
    (f : Word → Word → Word)
    (hno : s.maySelect (sIndex p) ((f (s.csrRead (sIndex p) 0x021) (s.csrSource p ra)).toNat % 16) = false) :
    s.runCsr p op gd rd ra 0x021 true (some f) = s.trap p (encI op gd rd ra 0x021) (.access stPERM 0x021) := by
  refine State.runSup_trap h hp rfl hsup ?_ _
  exact if_pos (by rw [← State.csrSource]; exact (congrArg (true && !·) hno))

theorem State.csrAccessed_frame (s : State) (hp : profileOf p = .s) (n : Nat) (v : Word) :
    s.SprocFrame (s.csrAccessed p rd n v) := by
  have hcore := s.modSproc_sprocFrame (sIndex p)
    (f := fun q => { q with core := q.core.wr .s rd.toNat (s.csrRead (sIndex p) n).toNat }) fun _ => rfl
  rw [← State.modCores_s s hp fun k => k.wr .s rd.toNat (s.csrRead (sIndex p) n).toNat] at hcore
  exact hcore.trans (State.csrWrite_frame ..)

/-- What a completed access that writes a CSR leaves. -/
theorem State.csrAccessed_retire (h : s.mayRun p gd) (hp : profileOf p = .s) (n : Nat) (v : Word) :
    (s.csrAccessed p rd n v).ranAs ((s.csrAccessed p rd n v).retire p) p (·.advance .s) :=
  State.retire_s (((s.csrAccessed_frame hp n v).alive p).trans h.alive) hp

theorem State.csrAccessed_retire_frame (h : s.mayRun p gd) (hp : profileOf p = .s) (n : Nat) (v : Word) :
    (s.csrAccessed p rd n v).retire p = { s with sproc := ((s.csrAccessed p rd n v).retire p).sproc } := by
  obtain ⟨-, -, -, ht⟩ := (State.csrAccessed_retire (rd := rd) h hp n v).sproc hp
  obtain ⟨hu, -⟩ := s.csrAccessed_frame (rd := rd) hp n v
  rw [ht, hu]

theorem State.csrAccessed_spr (h : s.mayRun p gd) (hp : profileOf p = .s) {n : Nat} (hn : n < 0x014) (v : Word) :
    ((s.csrAccessed p rd n v).retire p).coreOf p =
      (((s.coreOf p).wr .s rd.toNat (s.csrRead (sIndex p) n).toNat).setSpr .s n v.toNat).advance .s := by
  rw [(State.csrAccessed_retire h hp n v).coreOf_col hp, State.coreOf_s _ hp, State.coreOf_s s hp, State.csrAccessed,
    State.csrWrite_spr hn, State.modCores_s s hp, State.modSproc_modSproc, State.modSproc_sproc, vget_vset_same]

theorem State.csrAccessed_csr (h : s.mayRun p gd) (hp : profileOf p = .s) {n : Nat} (hn : 0x014 ≤ n) (v : Word) :
    ((s.csrAccessed p rd n v).retire p).coreOf p = ((s.coreOf p).wr .s rd.toNat (s.csrRead (sIndex p) n).toNat).advance .s ∧
    ∀ m, m < 0xC10 → smGet 0 (vget ((s.csrAccessed p rd n v).retire p).sproc (sIndex p)).csr m =
      if m = n ∧ csrMask n ≠ 0 then v &&& csrMask n else smGet 0 (vget s.sproc (sIndex p)).csr m := by
  have hran := State.csrAccessed_retire (rd := rd) h hp n v
  obtain ⟨-, hcsr, -⟩ := hran.sproc hp
  obtain ⟨hcore, hw⟩ := State.csrWrite_csr (s.modCores p fun k => k.wr .s rd.toNat (s.csrRead (sIndex p) n).toNat) (sIndex p) hn v
  rw [State.modCores_s s hp, State.modSproc_sproc, vget_vset_same] at hcore hw
  refine ⟨?_, fun m hm => (hcsr m hm).trans ?_⟩
  · rw [hran.coreOf_col hp, State.coreOf_s _ hp, State.coreOf_s s hp, State.csrAccessed, State.modCores_s s hp, hcore]
  · rw [State.csrAccessed, State.modCores_s s hp, hw m hm]

end

theorem procAt_sIndex {p : Proc} (hp : profileOf p = .s) : procAt (sIndex p) = p := by
  cases p with
  | cell c => cases hp
  | col c => exact dif_pos c.isLt
  | grotto => rfl

section
variable {s : State} {p : Proc} {gd : BitVec 3} {rd ra : BitVec 5}

/-- SWI raises the software interrupt in each column named (R452). -/
theorem State.csrAccessed_swi (h : s.mayRun p gd) (hp : profileOf p = .s) (v : Word) (j : Fin 6) :
    (vget ((s.csrAccessed p rd 0x02C v).retire p).sproc j).swi = (vget s.sproc j).swi |||
      if (sIndex p).val < 5 ∧ j.val < 5 ∧ v.getLsbD j.val = true then 1#5 <<< (sIndex p).val else 0 := by
  obtain ⟨hself, -, hother, -⟩ := (State.csrAccessed_retire (rd := rd) h hp 0x02C v).sproc hp
  have hretire : (vget ((s.csrAccessed p rd 0x02C v).retire p).sproc j).swi = (vget (s.csrAccessed p rd 0x02C v).sproc j).swi := by
    by_cases hj : j = sIndex p
    · rw [hj, hself]
    · rw [hother j hj]
  have hcore : (vget (s.modCores p fun k => k.wr .s rd.toNat (s.csrRead (sIndex p) 0x02C).toNat).sproc j).swi = (vget s.sproc j).swi := by
    rw [State.modCores_s s hp, State.modSproc_sproc, vget_vset]
    split
    · next hj => rw [hj]
    · rfl
  rw [hretire, State.csrAccessed, State.csrWrite_swi, (State.raiseSwi_spec _ _ _).2 j]
  dsimp only
  rw [hcore]

/-! ## WFI (R459) -/

theorem wfi_goes_on (h : s.mayRun p gd) (hp : profileOf p = .s) (hsup : (s.coreOf p).stb 31 = true)
    (hirq : (s.irqNext (sIndex p)).isSome = true) :
    ∃ t, exec (.wfi p gd 0 0 0 0) s = .next t ∧ s.ranAs t p fun k => k.advance .s :=
  ⟨_, congrArg ok (State.runSup_done h hp rfl hsup (if_pos hirq) _), State.retire_s h.alive hp⟩

theorem wfi_sleeps (h : s.mayRun p gd) (hp : profileOf p = .s) (hsup : (s.coreOf p).stb 31 = true)
    (hirq : s.irqNext (sIndex p) = none) :
    ∃ t, exec (.wfi p gd 0 0 0 0) s = .next t ∧ t.waitOf p = .wfi ∧ t.coreOf p = (s.coreOf p).advance .s ∧
      t = { s with sproc := t.sproc } := by
  have hran := State.retire_s h.alive hp
  obtain ⟨hself, -, -, ht⟩ := hran.sproc hp
  have hact : (if (s.irqNext (sIndex p)).isSome then MemRes.done s else .stay ((s.retire p).setWait p .wfi)) =
      .stay ((s.retire p).setWait p .wfi) := if_neg (by rw [hirq]; decide)
  refine ⟨(s.retire p).setWait p .wfi, congrArg ok (State.runSup_stay h hp rfl hsup hact _), ?_, ?_, ?_⟩
  · rw [State.waitOf_s _ hp, State.setWait_s _ hp, State.modSproc_sproc, vget_vset_same]
  · rw [State.coreOf_s _ hp, State.setWait_s _ hp, State.modSproc_sproc, vget_vset_same, hself, State.coreOf_s s hp]
  · rw [State.setWait_s _ hp]
    conv_lhs => rw [ht]
    rfl

/-! ## Interrupt entry (R455, R456) -/

theorem interruptEntry_none (hp : profileOf p = .s) (hirq : s.irqNext (sIndex p) = none) : exec (.interruptEntry p) s = .next s := by
  rw [exec_interruptEntry]
  cases p with
  | cell c => cases hp
  | col c => unfold execInterruptEntry; dsimp only; rw [hirq]; rfl
  | grotto => unfold execInterruptEntry; dsimp only; rw [hirq]; rfl

theorem interruptEntry_some (hp : profileOf p = .s) {j : Nat} (hirq : s.irqNext (sIndex p) = some j) :
    exec (.interruptEntry p) s = .next (
      if !s.alive p || !((vget s.sproc (sIndex p)).wait == .run || (vget s.sproc (sIndex p)).wait == .wfi) ||
        (vget s.sproc (sIndex p)).refusal.isSome then s
      else if (vget s.sproc (sIndex p)).core.stb 15 then s.enterSource (sIndex p) j
      else s.setWait p .run) := by
  rw [exec_interruptEntry]
  cases p with
  | cell c => cases hp
  | col c => unfold execInterruptEntry; dsimp only; rw [hirq]; rfl
  | grotto => unfold execInterruptEntry; dsimp only; rw [hirq]; rfl

/-- Nothing qualifies, the processor does not live or waits for something else, or a refusal comes first. -/
theorem interruptEntry_nothing (hp : profileOf p = .s) (h : s.irqNext (sIndex p) = none ∨ s.alive p = false ∨
    ¬ ((vget s.sproc (sIndex p)).wait = .run ∨ (vget s.sproc (sIndex p)).wait = .wfi) ∨ (vget s.sproc (sIndex p)).refusal ≠ none) :
    exec (.interruptEntry p) s = .next s := by
  cases hirq : s.irqNext (sIndex p) with
  | none => exact interruptEntry_none hp hirq
  | some j =>
    rw [interruptEntry_some hp hirq, if_pos]
    rcases h with h | h | h | h
    · rw [hirq] at h; cases h
    · rw [h]; rfl
    · have hw : ((vget s.sproc (sIndex p)).wait == .run || (vget s.sproc (sIndex p)).wait == .wfi) = false := by simpa using h
      rw [hw, Bool.not_false, Bool.or_true, Bool.true_or]
    · rw [Option.isSome_iff_ne_none.2 h, Bool.or_true]

theorem interruptEntry_awake (hp : profileOf p = .s) {j : Nat} (hirq : s.irqNext (sIndex p) = some j) (ha : s.alive p = true)
    (hw : (vget s.sproc (sIndex p)).wait = .run ∨ (vget s.sproc (sIndex p)).wait = .wfi)
    (hr : (vget s.sproc (sIndex p)).refusal = none) :
    exec (.interruptEntry p) s = .next (
      if (vget s.sproc (sIndex p)).core.stb 15 then s.enterSource (sIndex p) j else s.setWait p .run) := by
  have hw : ((vget s.sproc (sIndex p)).wait == .run || (vget s.sproc (sIndex p)).wait == .wfi) = true := by simpa using hw
  rw [interruptEntry_some hp hirq, if_neg]
  rw [ha, hw, hr]
  decide

/-! ### The entry -/

/-- What offering notifications leaves for the Sornas-S processors: everything but the lines of Gallery. -/
def State.LinesOffered (s t : State) : Prop :=
  t.regs = s.regs ∧ t.mem = s.mem ∧ ∀ i, ∃ lines, vget t.sproc i = { vget s.sproc i with lines := lines }

theorem State.LinesOffered.refl (s : State) : s.LinesOffered s := ⟨rfl, rfl, fun _ => ⟨_, rfl⟩⟩

theorem State.LinesOffered.trans {t u : State} (h : s.LinesOffered t) (k : t.LinesOffered u) : s.LinesOffered u := by
  obtain ⟨hr, hm, hv⟩ := h
  obtain ⟨kr, km, kv⟩ := k
  refine ⟨kr.trans hr, km.trans hm, fun i => ?_⟩
  obtain ⟨l, hl⟩ := hv i
  obtain ⟨l', hl'⟩ := kv i
  exact ⟨l', by rw [hl', hl]⟩

theorem State.notifySend_lines {t : State} (n : Nat) (h : s.notifySend n = some t) : s.LinesOffered t := by
  have hpush {c : Fin 128} {e : FifoEntry} (h : s.pushFifo c e = some t) : s.LinesOffered t := by
    unfold State.pushFifo at h
    split at h
    · cases h
    · split at h
      · cases h
      · split at h
        · cases h
        · dsimp only at h
          split at h <;> cases h <;> exact ⟨rfl, rfl, fun _ => ⟨_, rfl⟩⟩
  have hraise {col : Fin 5} {line : Fin 16} {ch payload : Nat} {ring : Option Nat} (h : s.raiseLine col line ch payload ring = some t) :
      s.LinesOffered t := by
    unfold State.raiseLine at h
    dsimp only at h
    split at h
    · cases h
    · cases h
      refine ⟨rfl, rfl, fun i => ?_⟩
      rw [State.modSproc_sproc, vget_vset]
      split
      · next hi => exact ⟨_, by rw [hi]⟩
      · exact ⟨_, rfl⟩
  unfold State.notifySend at h
  dsimp only at h
  split at h
  · exact hpush h
  · split at h
    · exact hraise h
    · cases h
      exact .refl s
  · cases h
    exact .refl s

theorem State.notifyRetry_lines (s : State) : s.LinesOffered s.notifyRetry := by
  have hfold (l : List Nat) (t : State) (ht : s.LinesOffered t) : s.LinesOffered (l.foldl (fun s n =>
      match s.notifySend n with
      | some s' => { s' with gal := { s'.gal with notify := s'.gal.notify.filter (· != n) } }
      | none => s) t) := by
    induction l generalizing t with
    | nil => exact ht
    | cons n l ih =>
      rw [List.foldl_cons]
      refine ih _ ?_
      split
      · next t' hsend =>
        have hsent : t.LinesOffered t' := State.notifySend_lines n hsend
        exact ht.trans hsent
      · exact ht
  exact hfold _ s (.refl s)

theorem State.notifyRetry_empty (h : s.gal.notify = []) : s.notifyRetry = s := by
  unfold State.notifyRetry
  rw [h]
  rfl

/-- A processor that enters the handler of source 0x20 + `j`. -/
def SProc.enter (j : Nat) (cv tval : Word) (lvl : Nat) (q : SProc) : SProc :=
  { q with core := q.core.takeInterrupt cv (0x20 + j) tval lvl, wait := .run
           lines := if j < 16 then q.lines.set! j none else q.lines
           swi := if j = 31 then 0 else q.swi }

/-- The state of `p` once it has entered the handler of source 0x20 + `j`. -/
def State.entered (s : State) (p : Proc) (j : Nat) : State :=
  s.modSproc (sIndex p) (SProc.enter j (s.cvec (sIndex p)) (BitVec.ofNat 32 ((s.irqPending (sIndex p) j).getD 0)) (s.irqLevel (sIndex p) j))

theorem State.enterSource_line (hp : profileOf p = .s) {j : Nat} (hj : j < 16) :
    s.enterSource (sIndex p) j = (s.entered p j).notifyRetry.pmc p 0 8 := by
  have h : s.enterSource (sIndex p) j = (s.entered p j).notifyRetry.pmc (procAt (sIndex p)) 0 8 :=
    congrArg (fun t : State => t.pmc (procAt (sIndex p)) 0 8) (if_pos hj)
  rw [h, procAt_sIndex hp]

theorem State.enterSource_other (hp : profileOf p = .s) {j : Nat} (hj : ¬ j < 16) :
    s.enterSource (sIndex p) j = (s.entered p j).pmc p 0 8 := by
  have h : s.enterSource (sIndex p) j = (s.entered p j).pmc (procAt (sIndex p)) 0 8 :=
    congrArg (fun t : State => t.pmc (procAt (sIndex p)) 0 8) (if_neg hj)
  rw [h, procAt_sIndex hp]

/-- Counting an event changes CSRs of the processor alone. -/
theorem State.pmc_sproc (s : State) (hp : profileOf p = .s) (e es : Nat) :
    s.pmc p e es = { s with sproc := (s.pmc p e es).sproc } ∧
    ∃ csr, vget (s.pmc p e es).sproc (sIndex p) = { vget s.sproc (sIndex p) with csr := csr } := by
  obtain ⟨hq, -⟩ := s.pmc_sameCsrs hp e es
  exact ⟨by rw [s.pmc_col p hp]; rfl, _, hq⟩

theorem State.enterSource_spec (hp : profileOf p = .s) (j : Nat) :
    let t := s.enterSource (sIndex p) j
    t.waitOf p = .run ∧
      t.coreOf p = (s.coreOf p).takeInterrupt (s.cvec (sIndex p)) (0x20 + j) (BitVec.ofNat 32 ((s.irqPending (sIndex p) j).getD 0))
        (s.irqLevel (sIndex p) j) ∧
      (j = 31 → (vget t.sproc (sIndex p)).swi = 0) ∧ t.regs = s.regs ∧ t.mem = s.mem ∧
      (16 ≤ j → t = { s with sproc := t.sproc }) ∧
      (∀ h : j < 16, s.gal.notify = [] → vget (vget t.sproc (sIndex p)).lines ⟨j, h⟩ = none) := by
  have hself : vget (s.entered p j).sproc (sIndex p) = SProc.enter j (s.cvec (sIndex p))
      (BitVec.ofNat 32 ((s.irqPending (sIndex p) j).getD 0)) (s.irqLevel (sIndex p) j) (vget s.sproc (sIndex p)) := by
    rw [State.entered, State.modSproc_sproc, vget_vset_same]
  by_cases hj : j < 16
  · obtain ⟨hr, hm, hv⟩ := (s.entered p j).notifyRetry_lines
    obtain ⟨lines, hl⟩ := hv (sIndex p)
    obtain ⟨hframe, csr, hq⟩ := (s.entered p j).notifyRetry.pmc_sproc hp 0 8
    rw [hl, hself] at hq
    rw [State.enterSource_line hp hj]
    refine ⟨?_, ?_, fun h31 => by omega, ?_, ?_, fun h16 => by omega, fun _ hn => ?_⟩
    · rw [State.waitOf_s _ hp, hq]; rfl
    · rw [State.coreOf_s _ hp, hq, State.coreOf_s s hp]; rfl
    · rw [hframe]; exact hr
    · rw [hframe]; exact hm
    · obtain ⟨-, csr', hq'⟩ := (s.entered p j).pmc_sproc hp 0 8
      rw [State.notifyRetry_empty (s := s.entered p j) hn, hq', hself]
      dsimp only [SProc.enter]
      rw [if_pos hj]
      simp [vget, Vector.set!]
  · obtain ⟨hframe, csr, hq⟩ := (s.entered p j).pmc_sproc hp 0 8
    rw [hself] at hq
    rw [State.enterSource_other hp hj]
    refine ⟨?_, ?_, fun h31 => ?_, ?_, ?_, fun _ => ?_, fun h16 => absurd h16 hj⟩
    · rw [State.waitOf_s _ hp, hq]; rfl
    · rw [State.coreOf_s _ hp, hq, State.coreOf_s s hp]; rfl
    · rw [hq]; exact if_pos h31
    · rw [hframe]; rfl
    · rw [hframe]; rfl
    · rw [hframe]; rfl

end

section
variable {s : State} {p : Proc} {gd : BitVec 3} {rd ra : BitVec 5}

/-- In user mode each of the operations traps (R450, R459). -/
theorem supervisorOps_priv (h : s.mayRun p gd) (hp : profileOf p = .s) (hsup : (s.coreOf p).stb 31 = false) :
    ∀ e ∈ [(Instr.curchWrite p gd rd ra, encI 0x31 gd rd ra 0x021), (Instr.swi p gd rd ra, encI 0x31 gd rd ra 0x02C),
        (Instr.csrw p gd rd ra 0x020, encI 0x31 gd rd ra 0x020), (Instr.csrs p gd rd ra 0x020, encI 0x32 gd rd ra 0x020),
        (Instr.csrc p gd rd ra 0x020, encI 0x33 gd rd ra 0x020), (Instr.wfi p gd 0 0 0 0, encR 0x38 gd 0 0 0 0)],
      exec e.1 s = .next (s.trap p e.2 .priv) := by
  intro e he
  simp only [List.mem_cons, List.not_mem_nil, or_false] at he
  rcases he with rfl | rfl | rfl | rfl | rfl | rfl <;> exact congrArg ok (State.runSup_priv h hp rfl hsup _)

/-- What a completed write of CSR `n` leaves. -/
theorem csr_written (h : s.mayRun p gd) (hp : profileOf p = .s) (n : Nat) (v : Word) :
    let t := (s.csrAccessed p rd n v).retire p
    let old := s.csrRead (sIndex p) n
    t.mem = s.mem ∧ t.regs = s.regs ∧
      (n < 0x014 → t.coreOf p = (((s.coreOf p).wr .s rd.toNat old.toNat).setSpr .s n v.toNat).advance .s) ∧
      (0x014 ≤ n → t.coreOf p = ((s.coreOf p).wr .s rd.toNat old.toNat).advance .s ∧
        ∀ m, m < 0xC10 → smGet 0 (vget t.sproc (sIndex p)).csr m =
          if m = n ∧ csrMask n ≠ 0 then v &&& csrMask n else smGet 0 (vget s.sproc (sIndex p)).csr m) := by
  have hframe := State.csrAccessed_retire_frame (rd := rd) h hp n v
  refine ⟨?_, ?_, fun hn => State.csrAccessed_spr h hp hn v, fun hn => State.csrAccessed_csr h hp hn v⟩
  · rw [hframe]
  · rw [hframe]

/-- A CSR access that writes, in supervisor mode, of any CSR but CURCH. -/
theorem csr_access (h : s.mayRun p gd) (hp : profileOf p = .s) (hsup : (s.coreOf p).stb 31 = true) {imm : BitVec 13}
    (h12 : imm.getLsbD 12 = false) (hknown : csrKnown imm.toNat = true) (hn : imm.toNat ≠ 0x021) (op : Nat) (f : Word → Word → Word) :
    s.runCsr p op gd rd ra imm true (some f) =
      (s.csrAccessed p rd imm.toNat (f (s.csrRead (sIndex p) imm.toNat) (s.csrSource p ra))).retire p :=
  runCsr_writes h hp hsup h12 hknown op f fun he => absurd he hn

/-- A write of CURCH that the column may make (R466). -/
theorem curch_written (h : s.mayRun p gd) (hp : profileOf p = .s) (hsup : (s.coreOf p).stb 31 = true)
    (hsel : s.maySelect (sIndex p) ((s.csrSource p ra).toNat % 16) = true) :
    ∃ t, exec (.curchWrite p gd rd ra) s = .next t ∧
      (∀ m, m < 0xC10 → smGet 0 (vget t.sproc (sIndex p)).csr m =
        if m = 0x021 then s.csrSource p ra &&& 0xF else smGet 0 (vget s.sproc (sIndex p)).csr m) ∧
      t.coreOf p = ((s.coreOf p).wr .s rd.toNat (s.csrRead (sIndex p) 0x021).toNat).advance .s ∧ t = { s with sproc := t.sproc } := by
  obtain ⟨hcore, hcsr⟩ := State.csrAccessed_csr (rd := rd) h hp (n := 0x021) (by decide) (s.csrSource p ra)
  refine ⟨_, congrArg ok (runCsr_writes h hp hsup (imm := 0x021) rfl rfl _ _ fun _ => hsel), fun m hm => (hcsr m hm).trans ?_, hcore,
    State.csrAccessed_retire_frame h hp _ _⟩
  by_cases h21 : m = 0x021
  · rw [if_pos h21, if_pos ⟨h21, by decide⟩]
    rfl
  · rw [if_neg h21, if_neg fun hc => h21 hc.1]

/-- SWI in supervisor mode (R452). -/
theorem swi_raises (h : s.mayRun p gd) (hp : profileOf p = .s) (hsup : (s.coreOf p).stb 31 = true) :
    ∃ t, exec (.swi p gd rd ra) s = .next t ∧ t.coreOf p = ((s.coreOf p).wr .s rd.toNat 0).advance .s ∧
      t = { s with sproc := t.sproc } ∧
      ∀ c : Fin 5, (vget t.sproc (Fin.ofNat 6 c.val)).swi = (vget s.sproc (Fin.ofNat 6 c.val)).swi |||
        (if (sIndex p).val < 5 ∧ (s.csrSource p ra).getLsbD c.val = true then 1#5 <<< (sIndex p).val else 0) := by
  obtain ⟨hcore, -⟩ := State.csrAccessed_csr (rd := rd) h hp (n := 0x02C) (by decide) (s.csrSource p ra)
  refine ⟨_, congrArg ok (runCsr_writes h hp hsup (imm := 0x02C) rfl rfl _ _ fun he => absurd he (by decide)), hcore,
    State.csrAccessed_retire_frame h hp _ _, fun c => (State.csrAccessed_swi h hp _ _).trans ?_⟩
  have hc : (Fin.ofNat 6 c.val).val = c.val := Nat.mod_eq_of_lt (by omega)
  rw [hc]
  by_cases hb : (sIndex p).val < 5 ∧ (s.csrSource p ra).getLsbD c.val = true
  · rw [if_pos hb, if_pos ⟨hb.1, c.isLt, hb.2⟩]
  · rw [if_neg hb, if_neg fun hi => hb ⟨hi.1, hi.2.2⟩]

end

/-- Settles O50: the system operations of a Sornas-S processor, and its interrupt entry. -/
theorem columnSystemOps : Obligations.ColumnSystemOps := by
  unfold Obligations.ColumnSystemOps
  intro i s
  have hp := profileOf_procAt i
  have hi := sIndex_procAt i
  generalize procAt i = p at *
  subst hi
  have hcore := State.coreOf_s s hp
  refine ⟨fun gd rd ra h => ⟨supervisorOps_priv h hp, fun hsup => ⟨fun imm h12 hknown => ⟨csrr_runs h hp hsup h12 hknown,
    fun hn => ⟨⟨_, ?_, csr_written h hp _ _⟩, ⟨_, ?_, csr_written h hp _ _⟩, ⟨_, ?_, csr_written h hp _ _⟩⟩⟩,
    curch_written h hp hsup, fun hno => ?_, swi_raises h hp hsup, wfi_goes_on h hp hsup, wfi_sleeps h hp hsup⟩⟩,
    interruptEntry_nothing hp, fun j hirq ha hw hr => ⟨fun hie => ?_, fun hie => ?_⟩⟩
  · exact congrArg ok (csr_access h hp hsup h12 hknown hn _ _)
  · exact congrArg ok (csr_access h hp hsup h12 hknown hn _ _)
  · exact congrArg ok (csr_access h hp hsup h12 hknown hn _ _)
  · exact congrArg ok (runCsr_refused h hp hsup _ _ hno)
  · rw [interruptEntry_awake hp hirq ha hw hr, ← hcore, if_neg (by rw [hie]; decide)]
  · exact ⟨_, by rw [interruptEntry_awake hp hirq ha hw hr, ← hcore, if_pos hie], State.enterSource_spec hp j⟩

end Sys2Proof.Machine

namespace Sys2Proof.Machine

/-! ## Lines by number -/

theorem find?_smSet {α : Type} (m : SMap α) (k n : Nat) (v : α) :
    (smSet m k v).find? (fun e => e.1 == n) = if n = k then some (k, v) else m.find? fun e => e.1 == n := by
  induction m with
  | nil =>
    by_cases h : n = k
    · simp [smSet, h]
    · rw [if_neg h]
      exact List.find?_eq_none.2 (by simp [smSet, Ne.symm h])
  | cons e m ih =>
    obtain ⟨j, w⟩ := e
    unfold smSet
    by_cases h : n = k
    · subst h
      split
      · simp
      · split
        · simp
        · next hj => simp [hj, ih]
    · split
      · simp [Ne.symm h]
      · split
        · next hj => subst hj; simp [Ne.symm h]
        · next hj => simp only [List.find?_cons, ih, if_neg h]

theorem find?_smDrop {α : Type} (m : SMap α) (k n : Nat) :
    (smDrop (· == k) m).find? (fun e => e.1 == n) = if n = k then none else m.find? fun e => e.1 == n := by
  unfold smDrop
  rw [List.find?_filter]
  by_cases h : n = k
  · subst h
    rw [if_pos rfl, List.find?_eq_none]
    intro e _
    by_cases he : e.1 = n <;> simp [he]
  · rw [if_neg h]
    refine List.find?_congr fun e _ => ?_
    by_cases he : e.1 = n
    · simp [he, h]
    · simp [he]

theorem smDrop_smSet {α : Type} (m : SMap α) (k : Nat) (v : α) : smDrop (· == k) (smSet m k v) = smDrop (· == k) m := by
  unfold smDrop
  induction m with
  | nil => simp [smSet]
  | cons e m ih =>
    obtain ⟨j, w⟩ := e
    unfold smSet
    split
    · simp
    · split
      · next hj => subst hj; simp
      · next hj => simp [hj, ih]

/-! ## What the memory operations of a column leave -/

section
variable {s t u : State} {c : Fin 5}

/-- The Sornas-S processor of a column. -/
def State.colS (s : State) (c : Fin 5) : SProc := vget s.sproc (sIndex (.col c))

/-- Between `s` and `t` memory and ECC state may differ, and of column `c` its core, its counters and its caches. -/
structure State.ColFrame (s t : State) (c : Fin 5) : Prop where
  frame : t = { s with mem := t.mem, ecc := t.ecc, sproc := t.sproc }
  self : t.colS c = { s.colS c with
    core := (t.colS c).core, csr := (t.colS c).csr, dcache := (t.colS c).dcache, icache := (t.colS c).icache }
  csr : ∀ n, n < 0xC10 → smGet 0 (t.colS c).csr n = smGet 0 (s.colS c).csr n

theorem State.ColFrame.refl (s : State) (c : Fin 5) : s.ColFrame s c := ⟨rfl, rfl, fun _ _ => rfl⟩

theorem State.ColFrame.trans (h : s.ColFrame t c) (k : t.ColFrame u c) : s.ColFrame u c :=
  ⟨by rw [k.frame, h.frame], by rw [k.self, h.self], fun n hn => (k.csr n hn).trans (h.csr n hn)⟩

theorem State.ColFrame.regs (h : s.ColFrame t c) : t.regs = s.regs := by rw [h.frame]
theorem State.ColFrame.gal (h : s.ColFrame t c) : t.gal = s.gal := by rw [h.frame]
theorem State.ColFrame.fabLog (h : s.ColFrame t c) : t.fabLog = s.fabLog := by rw [h.frame]

theorem State.ColFrame.alive (h : s.ColFrame t c) : t.alive (.col c) = s.alive (.col c) := by
  have hr : (t.colS c).inReset = (s.colS c).inReset := by rw [h.self]
  have hcol : t.colAlive (sIndex (.col c)) = s.colAlive (sIndex (.col c)) := by
    unfold State.colAlive
    unfold State.colS at hr
    rw [hr, h.frame]
    rfl
  unfold State.alive
  dsimp only
  rw [hcol, h.frame]
  rfl

/-- The chamber a column works in is a CSR below the counters, and nothing else that the access rules read has changed. -/
theorem State.ColFrame.accessStatus (h : s.ColFrame t c) (wr : Bool) (a : Nat) :
    t.accessStatus (.col c) wr a = s.accessStatus (.col c) wr a := by
  have hch : chamberOf t (.col c) = chamberOf s (.col c) :=
    congrArg (fun w : Word => w.toNat % 16) (h.csr 0x21 (by decide))
  unfold State.accessStatus
  rw [hch, h.frame]
  rfl

theorem State.ColFrame.mpu (h : s.ColFrame t c) (hst : (t.colS c).core.st = (s.colS c).core.st) (a kind : Nat) :
    t.mpu (sIndex (.col c)) a kind = s.mpu (sIndex (.col c)) a kind := by
  have hsup : (t.colS c).core.stb 31 = (s.colS c).core.stb 31 := by unfold Core.stb; rw [hst]
  have hfind := List.find?_congr (l := List.range 16)
    (p₁ := fun k => bitN (smGet 0 (t.colS c).csr (0x300 + 2 * k)).toNat 11 &&
      (smGet 0 (t.colS c).csr (0x300 + 2 * k)).toNat / 2 ^ 12 ≤ a / 2 ^ 12 &&
      a / 2 ^ 12 ≤ (smGet 0 (t.colS c).csr (0x301 + 2 * k)).toNat / 2 ^ 12)
    (p₂ := fun k => bitN (smGet 0 (s.colS c).csr (0x300 + 2 * k)).toNat 11 &&
      (smGet 0 (s.colS c).csr (0x300 + 2 * k)).toNat / 2 ^ 12 ≤ a / 2 ^ 12 &&
      a / 2 ^ 12 ≤ (smGet 0 (s.colS c).csr (0x301 + 2 * k)).toNat / 2 ^ 12) fun k hk => by
        have hk := List.mem_range.1 hk
        rw [h.csr _ (by omega), h.csr _ (by omega)]
  have h320 := h.csr 0x320 (by decide)
  have h301 (k : Nat) (hk : k < 16) := h.csr (0x301 + 2 * k) (by omega)
  unfold State.mpu
  unfold State.colS at *
  dsimp only
  by_cases h0 : (smGet 0 (vget s.sproc (sIndex (.col c))).csr 0x320).toNat % 2 = 0
  · rw [if_pos h0, if_pos (by rw [h320]; exact h0)]
  · rw [if_neg h0, if_neg (by rw [h320]; exact h0), hfind, hsup]
    cases hk : List.find? _ (List.range 16) with
    | none => rfl
    | some k =>
      simp only [h301 k (List.mem_range.1 (List.mem_of_find?_eq_some hk))]

/-! ### One step at a time -/

@[simp] theorem State.colS_modSproc (s : State) (c : Fin 5) (f : SProc → SProc) :
    (s.modSproc (sIndex (.col c)) f).colS c = f (s.colS c) := vget_vset_same _ _ _

theorem State.colFrame_modSproc (s : State) (c : Fin 5) {f : SProc → SProc} {core : Core} {dcache icache : SMap CacheLine}
    (hf : f (s.colS c) = { s.colS c with core := core, dcache := dcache, icache := icache }) :
    s.ColFrame (s.modSproc (sIndex (.col c)) f) c :=
  ⟨rfl, by rw [State.colS_modSproc, hf], fun _ _ => by rw [State.colS_modSproc, hf]⟩

theorem State.colFrame_modCores (s : State) (c : Fin 5) (f : Core → Core) : s.ColFrame (s.modCores (.col c) f) c :=
  s.colFrame_modSproc c (f := fun q => { q with core := f q.core }) rfl

theorem State.colFrame_modDcache (s : State) (c : Fin 5) (f : SMap CacheLine → SMap CacheLine) : s.ColFrame (s.modDcache c f) c :=
  s.colFrame_modSproc c (f := fun q => { q with dcache := f q.dcache }) rfl

theorem State.colFrame_mem (s : State) (c : Fin 5) (m : List Host.Cell) (e : SMap (BitVec 2)) :
    s.ColFrame { s with mem := m, ecc := e } c := ⟨rfl, rfl, fun _ _ => rfl⟩

theorem State.colS_pmc (s : State) (c : Fin 5) (e es : Nat) :
    (s.pmc (.col c) e es).colS c = { s.colS c with csr := ((s.pmc (.col c) e es).colS c).csr } :=
  (s.pmc_sameCsrs (p := .col c) rfl e es).1

theorem State.colFrame_pmc (s : State) (c : Fin 5) (e es : Nat) : s.ColFrame (s.pmc (.col c) e es) c :=
  ⟨rfl, by rw [s.colS_pmc c e es], (s.pmc_sameCsrs (p := .col c) rfl e es).2⟩

/-- A column's instruction completes. -/
theorem State.retire_colS (ha : s.alive (.col c) = true) :
    s.ColFrame (s.retire (.col c)) c ∧ (s.retire (.col c)).mem = s.mem ∧
      ((s.retire (.col c)).colS c).core = (s.colS c).core.advance .s ∧
      ((s.retire (.col c)).colS c).dcache = (s.colS c).dcache ∧ ((s.retire (.col c)).colS c).icache = (s.colS c).icache := by
  obtain ⟨hself, hcsr, -, ht⟩ := (State.retire_s ha (p := .col c) rfl).sproc rfl
  have hself' : (s.retire (.col c)).colS c = { s.colS c with
      core := (s.colS c).core.advance .s, csr := ((s.retire (.col c)).colS c).csr } := hself
  refine ⟨⟨by rw [ht], by rw [hself'], hcsr⟩, by rw [ht], ?_, ?_, ?_⟩
  · rw [hself']
  · rw [hself']
  · rw [hself']

/-! ### Writing a line back (R462) -/

/-- Word `i` of a line. -/
def CacheLine.word (l : CacheLine) (i : Nat) : Word :=
  (l.data[4 * i + 3]?.getD 0) ++ (l.data[4 * i + 2]?.getD 0) ++ (l.data[4 * i + 1]?.getD 0) ++ (l.data[4 * i]?.getD 0)

/-- `n` aligned words of system SRAM from `a` on that column `c` may access. -/
def State.Sram (s : State) (c : Fin 5) (a n : Nat) (wr : Bool) : Prop :=
  a % 4 = 0 ∧ 0x10000000 ≤ a ∧ a + 4 * n ≤ 0x10800000 ∧ ∀ i, i < n → s.accessStatus (.col c) wr (a + 4 * i) = stOK

/-- Column `c` may write the line with number `n`, in system SRAM. -/
abbrev State.LineOpen (s : State) (c : Fin 5) (n : Nat) : Prop := s.Sram c (64 * n) 16 true

/-- A word write to system SRAM, whatever the ECC state of the word. -/
theorem State.busWrite_sram_any {ag : Agent} {a : Nat} (hal : a % 4 = 0) (hlo : 0x10000000 ≤ a) (hhi : a < 0x10800000)
    (hst : s.accessStatus ag true a = stOK) (kind : Nat) (v : Word) :
    ∃ e, s.busWrite ag 4 kind a v = ({ s with mem := memPutWord s.mem a v, ecc := e }, stOK) := by
  obtain ⟨hws, hsize⟩ := eccWords_sram hal hlo hhi
  have hwhole : (decide (a ≤ a) && decide (a + eccSize a ≤ a + 4)) = true := by rw [hsize]; simp
  have hclear : ∃ e, s.eccClear a = { s with ecc := e } := by
    unfold State.eccClear
    split
    · exact ⟨_, rfl⟩
    · exact ⟨_, rfl⟩
  obtain ⟨e, he⟩ := hclear
  refine ⟨e, ?_⟩
  simp only [State.busWrite, hst, State.writeAt, targetAt_sram ag hlo hhi, State.ramWrite, hws, List.any_cons, List.any_nil,
    List.foldl_cons, List.foldl_nil, hwhole, he]
  rfl

/-- A word that shares no byte with the one written. -/
theorem memWord_memPutWord_other {m : List Host.Cell} (h : memWf m = true) {a b : Nat} (v : Word) (hb : b + 4 ≤ a ∨ a + 4 ≤ b) :
    memWord (memPutWord m a v) b = memWord m b := by
  unfold memWord memHalf
  rw [memGet_memPutWord_other h v (by omega), memGet_memPutWord_other h v (by omega), memGet_memPutWord_other h v (by omega),
    memGet_memPutWord_other h v (by omega)]

/-- The first `m` words of a line written to memory. -/
theorem State.writeWords (hn : s.LineOpen c n) (hmem : s.memOk) (l : CacheLine) (m : Nat) (hm : m ≤ 16) :
    ∃ mem e, (List.range m).foldl (fun s i =>
        let r := s.busWrite (.col c) 4 1 (64 * n + 4 * i) (l.word i)
        if r.2 = stOK then r.1 else r.1.postBack (.col c) r.2 (64 * n + 4 * i)) s = { s with mem := mem, ecc := e } ∧
      memWf mem = true ∧ (∀ j, j < m → memWord mem (64 * n + 4 * j) = l.word j) ∧
      ∀ b, ¬ (64 * n ≤ b ∧ b < 64 * n + 4 * m) → memGet mem b = memGet s.mem b := by
  induction m with
  | zero => exact ⟨s.mem, s.ecc, rfl, hmem, fun j hj => absurd hj (by omega), fun _ _ => rfl⟩
  | succ m ih =>
    obtain ⟨mem, e, hfold, hwf, hwords, hother⟩ := ih (by omega)
    obtain ⟨-, hlo, hhi, hst⟩ := hn
    obtain ⟨e', hw⟩ := State.busWrite_sram_any (s := { s with mem := mem, ecc := e }) (ag := .col c) (a := 64 * n + 4 * m) (by omega)
      (by omega) (by omega) (((s.colFrame_mem c mem e).accessStatus _ _).trans (hst m (by omega))) 1 (l.word m)
    rw [List.range_succ, List.foldl_append, hfold, List.foldl_cons, List.foldl_nil, hw]
    refine ⟨memPutWord mem (64 * n + 4 * m) (l.word m), e', if_pos rfl, memPutWord_wf hwf _ _, fun j hj => ?_, fun b hb => ?_⟩
    · by_cases hjm : j = m
      · subst hjm
        exact memWord_memPutWord hwf _ _
      · rw [memWord_memPutWord_other hwf _ (by omega)]
        exact hwords j (by omega)
    · rw [memGet_memPutWord_other hwf _ (by omega)]
      exact hother b (by omega)

end

section
variable {s t : State} {c : Fin 5} {n : Nat} {l : CacheLine}

theorem State.dline_colS (s : State) (c : Fin 5) (n : Nat) :
    s.dline c n = ((s.colS c).dcache.find? fun e => e.1 == n).map (·.2) := rfl

theorem State.colS_modDcache (s : State) (c : Fin 5) (f : SMap CacheLine → SMap CacheLine) :
    (s.modDcache c f).colS c = { s.colS c with dcache := f (s.colS c).dcache } :=
  s.colS_modSproc c fun q => { q with dcache := f q.dcache }

theorem State.writeBack_clean (h : l.dirty = false) : s.writeBack c n l = s := by
  unfold State.writeBack
  rw [h]
  rfl

/-- A dirty line written back (R462): its words stand in memory, and the line is clean. -/
theorem State.writeBack_dirty (hdirty : l.dirty = true) (hn : s.LineOpen c n) (hmem : s.memOk) :
    s.ColFrame (s.writeBack c n l) c ∧ ((s.writeBack c n l).colS c).core = (s.colS c).core ∧
      ((s.writeBack c n l).colS c).icache = (s.colS c).icache ∧
      ((s.writeBack c n l).colS c).dcache = smSet (s.colS c).dcache n { l with dirty := false } ∧
      (s.writeBack c n l).memOk ∧ (∀ j, j < 16 → memWord (s.writeBack c n l).mem (64 * n + 4 * j) = l.word j) ∧
      s.memSame (s.writeBack c n l) (64 * n) 64 := by
  have hframe := (s.colFrame_modDcache c fun m => smSet m n { l with dirty := false }).trans (State.colFrame_pmc _ c 0 5)
  have hcol := State.colS_pmc (s.modDcache c fun m => smSet m n { l with dirty := false }) c 0 5
  rw [State.colS_modDcache] at hcol
  have hmem1 : ((s.modDcache c fun m => smSet m n { l with dirty := false }).pmc (.col c) 0 5).mem = s.mem := rfl
  have hback : s.writeBack c n l = (List.range 16).foldl (fun s i =>
      let r := s.busWrite (.col c) 4 1 (64 * n + 4 * i) (l.word i)
      if r.2 = stOK then r.1 else r.1.postBack (.col c) r.2 (64 * n + 4 * i))
      ((s.modDcache c fun m => smSet m n { l with dirty := false }).pmc (.col c) 0 5) := by
    unfold State.writeBack
    rw [hdirty]
    rfl
  generalize (s.modDcache c fun m => smSet m n { l with dirty := false }).pmc (.col c) 0 5 = u at *
  obtain ⟨hal, hlo, hhi, hst⟩ := hn
  obtain ⟨mem, e, hfold, hwf, hwords, hother⟩ := State.writeWords (s := u) (c := c) (n := n)
    ⟨hal, hlo, hhi, fun i hi => (hframe.accessStatus _ _).trans (hst i hi)⟩ (by rw [State.memOk, hmem1]; exact hmem) l 16 (Nat.le_refl 16)
  rw [hback, hfold]
  have hu : State.colS { u with mem := mem, ecc := e } c = u.colS c := rfl
  refine ⟨hframe.trans (u.colFrame_mem c mem e), ?_, ?_, ?_, hwf, hwords, fun b hb => (hother b hb).trans (by rw [hmem1])⟩
  · rw [hu, hcol]
  · rw [hu, hcol]
  · rw [hu, hcol]

/-- A line leaves the cache (R462). -/
theorem State.evictLine_spec (hl : s.dline c n = some l) (hn : l.dirty = true → s.LineOpen c n) (hmem : s.memOk) :
    s.ColFrame (s.evictLine c n) c ∧ ((s.evictLine c n).colS c).core = (s.colS c).core ∧
      ((s.evictLine c n).colS c).dcache = smDrop (· == n) (s.colS c).dcache ∧ (s.evictLine c n).memOk ∧
      (l.dirty = true → ∀ j, j < 16 → memWord (s.evictLine c n).mem (64 * n + 4 * j) = l.word j) ∧
      (l.dirty = false → (s.evictLine c n).mem = s.mem) ∧ s.memSame (s.evictLine c n) (64 * n) 64 := by
  have hevict : s.evictLine c n = (s.writeBack c n l).modDcache c (smDrop (· == n)) := by
    unfold State.evictLine
    rw [hl]
  have hmemEq : (s.evictLine c n).mem = (s.writeBack c n l).mem := by rw [hevict]; rfl
  cases hd : l.dirty with
  | false =>
    rw [State.writeBack_clean hd] at hevict hmemEq
    have hok : (s.evictLine c n).memOk := by rw [State.memOk, hmemEq]; exact hmem
    rw [hevict] at hok ⊢
    rw [State.colS_modDcache]
    exact ⟨s.colFrame_modDcache c _, rfl, rfl, hok, fun hc => (by cases hc), fun _ => rfl, fun _ _ => rfl⟩
  | true =>
    obtain ⟨hframe, hcore, -, hdc, hok, hwords, hsame⟩ := State.writeBack_dirty hd (hn hd) hmem
    have hok' : (s.evictLine c n).memOk := by rw [State.memOk, hmemEq]; exact hok
    have hcol := State.colS_modDcache (s.writeBack c n l) c (smDrop (· == n))
    rw [← hevict] at hcol
    refine ⟨?_, ?_, ?_, hok', fun _ j hj => ?_, fun hc => (by cases hc), fun b hb => ?_⟩
    · rw [hevict]
      exact hframe.trans (State.colFrame_modDcache _ c _)
    · rw [hcol]; exact hcore
    · rw [hcol]
      dsimp only
      rw [hdc, smDrop_smSet]
    · rw [hmemEq]; exact hwords j hj
    · rw [hmemEq]; exact hsame b hb

/-! ### The operations on one line -/

variable {gd : BitVec 3} {ra : BitVec 5}

/-- What is said of the state a column's memory operation leaves. -/
def State.ColSame (s t : State) (c : Fin 5) (k : Core) : Prop :=
  t.coreOf (.col c) = k ∧ t.regs = s.regs ∧ t.gal = s.gal ∧ t.fabLog = s.fabLog

/-- A column's operation has had its effect and completes. -/
theorem State.ColFrame.retire (h : s.ColFrame t c) (ha : s.alive (.col c) = true) :
    s.ColSame (t.retire (.col c)) c ((t.colS c).core.advance .s) ∧ (t.retire (.col c)).mem = t.mem ∧
      ((t.retire (.col c)).colS c).dcache = (t.colS c).dcache ∧ ((t.retire (.col c)).colS c).icache = (t.colS c).icache := by
  obtain ⟨hframe, hm, hcore, hd, hi⟩ := State.retire_colS (h.alive.trans ha)
  have hall := h.trans hframe
  exact ⟨⟨hcore, hall.regs, hall.gal, hall.fabLog⟩, hm, hd, hi⟩

/-- A CACHE function of a column in supervisor mode. -/
theorem runCache_done (h : s.mayRun (.col c) gd) (hsup : (s.coreOf (.col c)).stb 31 = true) {fn : Nat} {whole : Bool}
    (hra : (!whole || ra == 0) = true) {act : Fin 5 → Nat → State → MemRes}
    (hact : act c ((s.coreOf (.col c)).u .s ra.toNat) s = .done t) :
    s.runCache (.col c) gd 0 ra 0 fn whole act = t.retire (.col c) :=
  State.runSup_done h rfl (by rw [hra]; rfl) hsup hact _

theorem cacheInvalidateLine_loses (h : s.mayRun (.col c) gd) (hsup : (s.coreOf (.col c)).stb 31 = true) :
    ∃ t, exec (.cacheInvalidateLine (.col c) gd 0 ra 0) s = .next t ∧ t.dline c ((s.coreOf (.col c)).u .s ra.toNat / 64) = none ∧
      (∀ m, m ≠ (s.coreOf (.col c)).u .s ra.toNat / 64 → t.dline c m = s.dline c m) ∧ t.mem = s.mem ∧
      s.ColSame t c ((s.coreOf (.col c)).advance .s) := by
  have hcol := s.colS_modDcache c (smDrop (· == (s.coreOf (.col c)).u .s ra.toNat / 64))
  obtain ⟨hsame, hm, hd, -⟩ := (s.colFrame_modDcache c (smDrop (· == (s.coreOf (.col c)).u .s ra.toNat / 64))).retire h.alive
  rw [hcol] at hsame hd
  refine ⟨_, congrArg ok (runCache_done h hsup rfl rfl), ?_, fun m hne => ?_, hm, hsame⟩
  · rw [State.dline_colS, hd, find?_smDrop, if_pos rfl]
    rfl
  · rw [State.dline_colS, hd, find?_smDrop, if_neg hne]
    rfl

theorem cacheLine_absent (h : s.mayRun (.col c) gd) (hsup : (s.coreOf (.col c)).stb 31 = true)
    (habsent : s.dline c ((s.coreOf (.col c)).u .s ra.toNat / 64) = none) (i : Instr)
    (hi : i = .cacheWritebackLine (.col c) gd 0 ra 0 ∨ i = .cacheFlushLine (.col c) gd 0 ra 0) :
    ∃ t, exec i s = .next t ∧ s.ranAs t (.col c) fun k => k.advance .s := by
  rcases hi with rfl | rfl
  · exact ⟨_, congrArg ok (runCache_done h hsup rfl (by rw [habsent])), State.retire_s h.alive rfl⟩
  · have hevict : s.evictLine c ((s.coreOf (.col c)).u .s ra.toNat / 64) = s := by
      unfold State.evictLine
      rw [habsent]
    exact ⟨_, congrArg ok (runCache_done h hsup rfl (congrArg MemRes.done hevict)), State.retire_s h.alive rfl⟩

theorem cacheWritebackLine_writes (h : s.mayRun (.col c) gd) (hsup : (s.coreOf (.col c)).stb 31 = true) (hmem : s.memOk)
    (hn : n = (s.coreOf (.col c)).u .s ra.toNat / 64) (hl : s.dline c n = some l) (hopen : l.dirty = true → s.LineOpen c n) :
    ∃ t, exec (.cacheWritebackLine (.col c) gd 0 ra 0) s = .next t ∧ (l.dirty = false → t.mem = s.mem) ∧
      (l.dirty = true → ∀ j, j < 16 → memWord t.mem (64 * n + 4 * j) = l.word j) ∧ s.memSame t (64 * n) 64 ∧
      (∀ m, m ≠ n → t.dline c m = s.dline c m) ∧ s.ColSame t c ((s.coreOf (.col c)).advance .s) ∧
      t.dline c n = some { l with dirty := false } := by
  have hexec : exec (.cacheWritebackLine (.col c) gd 0 ra 0) s = .next ((s.writeBack c n l).retire (.col c)) :=
    congrArg ok (runCache_done h hsup rfl (by rw [← hn, hl]))
  refine ⟨_, hexec, ?_⟩
  cases hd : l.dirty with
  | false =>
    rw [State.writeBack_clean hd]
    obtain ⟨hsame, hm, hdc, -⟩ := (State.ColFrame.refl s c).retire h.alive
    refine ⟨fun _ => hm, fun hc => (by cases hc), fun b _ => by rw [hm], fun m _ => ?_, hsame, ?_⟩
    · rw [State.dline_colS, hdc]; rfl
    · rw [State.dline_colS, hdc, ← State.dline_colS, hl, ← hd]
  | true =>
    obtain ⟨hframe, hcore, -, hdcache, -, hwords, hmsame⟩ := State.writeBack_dirty hd (hopen hd) hmem
    obtain ⟨hsame, hm, hdc, -⟩ := hframe.retire h.alive
    rw [hcore] at hsame
    rw [hdcache] at hdc
    refine ⟨fun hc => (by cases hc), fun _ j hj => by rw [hm]; exact hwords j hj, fun b hb => by rw [hm]; exact hmsame b hb,
      fun m hne => ?_, hsame, ?_⟩
    · rw [State.dline_colS, hdc, find?_smSet, if_neg hne]; rfl
    · rw [State.dline_colS, hdc, find?_smSet, if_pos rfl]; rfl

theorem cacheFlushLine_writes (h : s.mayRun (.col c) gd) (hsup : (s.coreOf (.col c)).stb 31 = true) (hmem : s.memOk)
    (hn : n = (s.coreOf (.col c)).u .s ra.toNat / 64) (hl : s.dline c n = some l) (hopen : l.dirty = true → s.LineOpen c n) :
    ∃ t, exec (.cacheFlushLine (.col c) gd 0 ra 0) s = .next t ∧ (l.dirty = false → t.mem = s.mem) ∧
      (l.dirty = true → ∀ j, j < 16 → memWord t.mem (64 * n + 4 * j) = l.word j) ∧ s.memSame t (64 * n) 64 ∧
      (∀ m, m ≠ n → t.dline c m = s.dline c m) ∧ s.ColSame t c ((s.coreOf (.col c)).advance .s) ∧ t.dline c n = none := by
  obtain ⟨hframe, hcore, hdcache, -, hwords, hclean, hmsame⟩ := State.evictLine_spec hl hopen hmem
  obtain ⟨hsame, hm, hdc, -⟩ := hframe.retire h.alive
  rw [hcore] at hsame
  rw [hdcache] at hdc
  refine ⟨_, congrArg ok (runCache_done h hsup rfl (by rw [← hn])), fun hd => hm.trans (hclean hd),
    fun hd j hj => by rw [hm]; exact hwords hd j hj, fun b hb => by rw [hm]; exact hmsame b hb, fun m hne => ?_, hsame, ?_⟩
  · rw [State.dline_colS, hdc, find?_smDrop, if_neg hne]; rfl
  · rw [State.dline_colS, hdc, find?_smDrop, if_pos rfl]; rfl

/-- The instruction cache, one line of it or the whole, is lost. -/
theorem cacheInstr_loses (h : s.mayRun (.col c) gd) (f : SMap CacheLine → SMap CacheLine) :
    let t := (s.modSproc (sIndex (.col c)) fun q => { q with icache := f q.icache }).retire (.col c)
    t.mem = s.mem ∧ s.ColSame t c ((s.coreOf (.col c)).advance .s) ∧ (t.colS c).icache = f (s.colS c).icache := by
  have hcol := s.colS_modSproc c fun q => { q with icache := f q.icache }
  obtain ⟨hsame, hm, -, hic⟩ := (s.colFrame_modSproc c (f := fun q => { q with icache := f q.icache }) rfl).retire h.alive
  rw [hcol] at hsame hic
  exact ⟨hm, hsame, hic⟩

/-! ### The whole data cache, line by line -/

theorem memWord_congr {m m' : List Host.Cell} {a : Nat} (h : ∀ b, a ≤ b ∧ b < a + 4 → memGet m b = memGet m' b) :
    memWord m a = memWord m' a := by
  unfold memWord memHalf
  rw [h _ (by omega), h _ (by omega), h _ (by omega), h _ (by omega)]

theorem State.LineOpen.of_frame (hn : s.LineOpen c n) (h : s.ColFrame t c) : t.LineOpen c n := by
  obtain ⟨hal, hlo, hhi, hst⟩ := hn
  exact ⟨hal, hlo, hhi, fun i hi => (h.accessStatus _ _).trans (hst i hi)⟩

/-- The state in which the line at the head of the data cache has left, and one more element is counted. -/
def State.lineFlushed (s : State) (c : Fin 5) (n : Nat) : State :=
  ((s.evictLine c n).modCores (.col c) fun k => { k with prog := k.prog + 1 }).pmc (.col c) 0 0x0C

theorem State.lineFlushed_spec (hl : s.dline c n = some l) (hopen : l.dirty = true → s.LineOpen c n) (hmem : s.memOk) :
    s.ColFrame (s.lineFlushed c n) c ∧ ((s.lineFlushed c n).colS c).core = { (s.colS c).core with prog := (s.colS c).core.prog + 1 } ∧
      ((s.lineFlushed c n).colS c).dcache = smDrop (· == n) (s.colS c).dcache ∧
      (s.lineFlushed c n).mem = (s.evictLine c n).mem := by
  obtain ⟨hframe, hcore, hdc, -⟩ := State.evictLine_spec hl hopen hmem
  have hmod := (s.evictLine c n).colS_modSproc c fun q => { q with core := { q.core with prog := q.core.prog + 1 } }
  have hcol : (s.lineFlushed c n).colS c = _ := State.colS_pmc _ c 0 0x0C
  refine ⟨(hframe.trans (State.colFrame_modCores _ c _)).trans (State.colFrame_pmc _ c 0 0x0C), ?_, ?_, rfl⟩
  · rw [hcol]
    change ((State.modSproc _ _ _).colS c).core = _
    rw [hmod]
    dsimp only
    rw [hcore]
  · rw [hcol]
    change ((State.modSproc _ _ _).colS c).dcache = _
    rw [hmod]
    exact hdc

/-- With room for as many lines as the cache holds, every line leaves, the dirty ones written back. -/
theorem State.flushAll_spec (most : Nat) (s : State) (hlen : (s.colS c).dcache.length ≤ most)
    (hopen : ∀ n l, s.dline c n = some l → l.dirty = true → s.LineOpen c n) (hmem : s.memOk) :
    ∃ t, s.flushAll c most = .done t ∧ s.ColFrame t c ∧ (t.colS c).core = { (s.colS c).core with prog := 0 } ∧
      (t.colS c).dcache = [] ∧
      (∀ n l, s.dline c n = some l → l.dirty = true → ∀ j, j < 16 → memWord t.mem (64 * n + 4 * j) = l.word j) ∧
      ∀ b, (∀ n l, s.dline c n = some l → l.dirty = true → ¬ (64 * n ≤ b ∧ b < 64 * n + 64)) → memGet t.mem b = memGet s.mem b := by
  have hempty (s : State) (he : (s.colS c).dcache = []) :
      let t := s.modCores (.col c) fun k => { k with prog := 0 }
      s.ColFrame t c ∧ (t.colS c).core = { (s.colS c).core with prog := 0 } ∧ (t.colS c).dcache = [] ∧
        (∀ n l, s.dline c n = some l → l.dirty = true → ∀ j, j < 16 → memWord t.mem (64 * n + 4 * j) = l.word j) ∧
        ∀ b, (∀ n l, s.dline c n = some l → l.dirty = true → ¬ (64 * n ≤ b ∧ b < 64 * n + 64)) → memGet t.mem b = memGet s.mem b := by
    have hcol := s.colS_modSproc c fun q => { q with core := { q.core with prog := 0 } }
    refine ⟨s.colFrame_modCores c _, (congrArg SProc.core hcol).trans rfl, (congrArg SProc.dcache hcol).trans he,
      fun n l hl => ?_, fun _ _ => rfl⟩
    rw [State.dline_colS, he] at hl
    cases hl
  induction most generalizing s with
  | zero =>
    have he : (s.colS c).dcache = [] := List.eq_nil_of_length_eq_zero (by omega)
    refine ⟨_, ?_, hempty s he⟩
    exact if_pos (by rw [show (vget s.sproc (c.castLE (by decide))).dcache = [] from he]; rfl)
  | succ most ih =>
    cases he : (s.colS c).dcache with
    | nil =>
      refine ⟨_, ?_, hempty s he⟩
      unfold State.flushAll
      rw [show (vget s.sproc (c.castLE (by decide))).dcache = [] from he]
    | cons e rest =>
      have hstep : s.flushAll c (most + 1) = (s.lineFlushed c e.1).flushAll c most := by
        rw [State.flushAll, show (vget s.sproc (c.castLE (by decide))).dcache = e :: rest from he]
        rfl
      have hl : s.dline c e.1 = some e.2 := by
        rw [State.dline_colS, he]
        simp
      obtain ⟨-, -, -, hok, hwords, hclean, hmsame⟩ := State.evictLine_spec hl (hopen _ _ hl) hmem
      obtain ⟨hframe, hcore, hdc, hm⟩ := State.lineFlushed_spec hl (hopen _ _ hl) hmem
      have hdline (n : Nat) : (s.lineFlushed c e.1).dline c n = if n = e.1 then none else s.dline c n := by
        rw [State.dline_colS, hdc, find?_smDrop]
        split <;> rfl
      have hline {n : Nat} {l : CacheLine} (h : (s.lineFlushed c e.1).dline c n = some l) : n ≠ e.1 ∧ s.dline c n = some l := by
        rw [hdline] at h
        split at h
        · cases h
        · next hne => exact ⟨hne, h⟩
      have hlen' : ((s.lineFlushed c e.1).colS c).dcache.length ≤ most := by
        rw [hdc, he, smDrop, List.filter_cons_of_neg (by simp)]
        rw [he, List.length_cons] at hlen
        exact (List.length_filter_le _ _).trans (by omega)
      obtain ⟨t, hdone, htframe, htcore, htdc, htwords, htother⟩ := ih (s.lineFlushed c e.1) hlen'
        (fun n l h hd => (hopen n l (hline h).2 hd).of_frame hframe) (by rw [State.memOk, hm]; exact hok)
      refine ⟨t, hstep.trans hdone, hframe.trans htframe, by rw [htcore, hcore], htdc, fun n l h hd j hj => ?_, fun b hb => ?_⟩
      · by_cases hn : n = e.1
        · subst hn
          obtain rfl : e.2 = l := Option.some.inj (hl.symm.trans h)
          rw [← hwords hd j hj, ← hm]
          refine memWord_congr fun b hb => htother b fun m l' h' _ hin => ?_
          exact (hline h').1 (by omega)
        · exact htwords n l (by rw [hdline, if_neg hn]; exact h) hd j hj
      · rw [htother b fun m l' h' hd => hb m l' (hline h').2 hd, hm]
        cases hd : e.2.dirty with
        | false => rw [hclean hd]
        | true => exact hmsame b (hb _ _ hl hd)

/-- The registers and the progress register of a core replaced. -/
def Core.withFiles (k : Core) (r : Vector Word 32) (fr : Vector Word 16) (x : Word) : Core := { k with r := r, fr := fr, prog := x }

theorem Core.loopEnd_withFiles (k : Core) (n : Nat) (r : Vector Word 32) (fr : Vector Word 16) (x : Word) :
    (k.withFiles r fr x).loopEnd n = ((k.loopEnd n).1.withFiles r fr x, (k.loopEnd n).2) := by
  unfold Core.loopEnd Core.withFiles
  dsimp only
  split
  · split <;> rfl
  · rfl

/-- The program counter moves past an instruction whatever the registers and the progress register hold. -/
theorem Core.advance_withFiles (k : Core) (pf : Profile) (r : Vector Word 32) (fr : Vector Word 16) (x : Word) :
    (k.withFiles r fr x).advance pf = (k.advance pf).withFiles r fr x := by
  have hlord : (k.withFiles r fr x).lord = k.lord := rfl
  unfold Core.advance
  dsimp only
  rw [hlord, Core.loopEnd_withFiles]
  dsimp only
  rcases k.loopEnd (if k.lord then 1 else 0) with ⟨k1, b1⟩
  cases b1 with
  | true => rfl
  | false =>
    rw [Core.loopEnd_withFiles]
    rcases k1.loopEnd (1 - if k.lord then 1 else 0) with ⟨k2, b2⟩
    cases b2 <;> rfl

theorem Core.advance_files (k : Core) (pf : Profile) :
    (k.advance pf).r = k.r ∧ (k.advance pf).fr = k.fr ∧ (k.advance pf).prog = k.prog := by
  have h : k.advance pf = (k.advance pf).withFiles k.r k.fr k.prog := k.advance_withFiles pf k.r k.fr k.prog
  exact ⟨(congrArg Core.r h).trans rfl, (congrArg Core.fr h).trans rfl, (congrArg Core.prog h).trans rfl⟩

theorem Core.advance_prog (k : Core) (pf : Profile) (x : Word) :
    ({ k with prog := x } : Core).advance pf = { k.advance pf with prog := x } := by
  obtain ⟨hr, hfr, -⟩ := k.advance_files pf
  have h := k.advance_withFiles pf k.r k.fr x
  rw [← hr, ← hfr] at h
  rw [← show k.withFiles (k.advance pf).r (k.advance pf).fr x = { k with prog := x } by rw [hr, hfr]; rfl]
  exact h

theorem cacheFlushData_empties (h : s.mayRun (.col c) gd) (hsup : (s.coreOf (.col c)).stb 31 = true) (hmem : s.memOk)
    (most : BitVec 10) (hlen : (s.colS c).dcache.length ≤ most.toNat)
    (hopen : ∀ n l, s.dline c n = some l → l.dirty = true → s.LineOpen c n) :
    ∃ t, exec (.cacheFlushData (.col c) gd 0 0 0 most) s = .next t ∧ (t.colS c).dcache = [] ∧
      s.ColSame t c { (s.coreOf (.col c)).advance .s with prog := 0 } ∧
      ∀ n l, s.dline c n = some l → l.dirty = true → ∀ j, j < 16 → memWord t.mem (64 * n + 4 * j) = l.word j := by
  obtain ⟨t, hdone, hframe, hcore, hdc, hwords, -⟩ := State.flushAll_spec most.toNat s hlen hopen hmem
  obtain ⟨hsame, hm, hd, -⟩ := hframe.retire h.alive
  rw [hcore, Core.advance_prog] at hsame
  exact ⟨_, congrArg ok (runCache_done h hsup rfl hdone), hd.trans hdc, hsame, fun n l hl hdirty j hj => by
    rw [hm]; exact hwords n l hl hdirty j hj⟩

end

/-! ## Long instructions (R461) -/

/-- A long instruction that may run all its elements at once: an invariant of the elements done holds at the end. -/
theorem State.longRun_invariant {p : Proc} {n : Nat} {elem : Nat → State → MemRes} (Inv : Nat → State → Prop)
    (hx : ∀ i t, i ≤ n → Inv i t → t.xprog p = i)
    (hstep : ∀ i t, i < n → Inv i t → ∃ t', elem i t = .done t' ∧ Inv (i + 1) ((t'.setXprog p (i + 1)).pmc p 0 0x0C)) :
    ∀ most i t, n ≤ i + most → i ≤ n → Inv i t → ∃ u, State.longRun p n elem most t = .done (u.setXprog p 0) ∧ Inv n u := by
  intro most
  induction most with
  | zero =>
    intro i t hfuel hi hinv
    obtain rfl : i = n := by omega
    exact ⟨t, if_pos (Nat.le_of_eq (hx i t hi hinv).symm), hinv⟩
  | succ most ih =>
    intro i t hfuel hi hinv
    have hxi := hx i t hi hinv
    by_cases hend : n ≤ i
    · obtain rfl : i = n := by omega
      exact ⟨t, if_pos (Nat.le_of_eq hxi.symm), hinv⟩
    · obtain ⟨t', helem, hinv'⟩ := hstep i t (by omega) hinv
      obtain ⟨u, hu, hun⟩ := ih (i + 1) _ (by omega) (by omega) hinv'
      refine ⟨u, ?_, hun⟩
      rw [State.longRun, if_neg (by rw [hxi]; exact hend), hxi, helem]
      exact hu

section
variable {s t u : State} {c : Fin 5}

/-- `n` aligned words of system SRAM from `a` on, clean, which the column may access and does not cache. -/
def State.Plain (s : State) (c : Fin 5) (a n : Nat) (wr : Bool) : Prop :=
  s.Sram c a n wr ∧ a + 4 * n ≤ 2 ^ 32 ∧
    ∀ i, i < n → s.eccOf (a + 4 * i) = 0 ∧ s.mpu (sIndex (.col c)) (a + 4 * i) (if wr then 1 else 0) = some false

/-- What the elements of a long instruction leave beside memory and registers. -/
structure State.LongFrame (s t : State) (c : Fin 5) (i : Nat) : Prop where
  frame : s.ColFrame t c
  ecc : t.ecc = s.ecc
  st : (t.colS c).core.st = (s.colS c).core.st
  prog : (t.colS c).core.prog = BitVec.ofNat 32 i

theorem State.LongFrame.xprog {i : Nat} (h : s.LongFrame t c i) (hi : i < 2 ^ 32) : t.xprog (.col c) = i := by
  have hp : (t.coreOf (.col c)).prog = BitVec.ofNat 32 i := h.prog
  rw [State.xprog, hp, BitVec.toNat_ofNat]
  exact Nat.mod_eq_of_lt hi

/-- A word of such a range is loaded as it stands in memory. -/
theorem State.Plain.load {a n i : Nat} (h : s.Plain c a n false) {j : Nat} (hf : s.LongFrame t c j) (hi : i < n) :
    t.sLoad (.col c) (a + 4 * i) 4 = .val t (memWord t.mem (a + 4 * i)).toNat := by
  obtain ⟨⟨hal, hlo, hhi, hst⟩, -, hclean⟩ := h
  obtain ⟨hecc, hmpu⟩ := hclean i hi
  exact State.sLoad_sram (by omega) (by omega) (by omega) (by rw [State.eccOf, hf.ecc]; exact hecc)
    ((hf.frame.mpu hf.st _ _).trans hmpu) ((hf.frame.accessStatus _ _).trans (hst i hi))

/-- A word of such a range is stored. -/
theorem State.Plain.store {a n i : Nat} (h : s.Plain c a n true) {j : Nat} (hf : s.LongFrame t c j) (hi : i < n) (v : Word) :
    t.sStore (.col c) (a + 4 * i) 4 v = .val { t with mem := memPutWord t.mem (a + 4 * i) v } 0 := by
  obtain ⟨⟨hal, hlo, hhi, hst⟩, -, hclean⟩ := h
  obtain ⟨hecc, hmpu⟩ := hclean i hi
  exact State.sStore_sram (by omega) (by omega) (by omega) (by rw [State.eccOf, hf.ecc]; exact hecc)
    ((hf.frame.mpu hf.st _ _).trans hmpu) ((hf.frame.accessStatus _ _).trans (hst i hi)) v

/-- The address of an element does not wrap. -/
theorem State.Plain.addr {a n i : Nat} {wr : Bool} (h : s.Plain c a n wr) (hi : i < n) : (a + 4 * i) % 2 ^ 32 = a + 4 * i := by
  obtain ⟨-, hlast, -⟩ := h
  exact Nat.mod_eq_of_lt (by omega)

/-- An element done is counted in xprog. -/
theorem State.elementDone_colS (t : State) (c : Fin 5) (i : Nat) :
    t.ColFrame ((t.setXprog (.col c) i).pmc (.col c) 0 0x0C) c ∧
      (((t.setXprog (.col c) i).pmc (.col c) 0 0x0C).colS c).core = { (t.colS c).core with prog := BitVec.ofNat 32 i } := by
  have hcol := t.colS_modSproc c fun q => { q with core := { q.core with prog := BitVec.ofNat 32 i } }
  have hpmc := (t.setXprog (.col c) i).colS_pmc c 0 0x0C
  refine ⟨(t.colFrame_modCores c _).trans (State.colFrame_pmc _ c 0 0x0C), ?_⟩
  rw [hpmc]
  exact (congrArg SProc.core hcol).trans rfl

/-! ### Stores one after the other -/

/-- Between `s` and `t` the words `f 0` to `f (i - 1)` have been stored from `dst` on. -/
structure State.Stored (s t : State) (c : Fin 5) (dst : Nat) (f : Nat → Word) (i : Nat) : Prop where
  frame : s.ColFrame t c
  ecc : t.ecc = s.ecc
  core : (t.colS c).core = { (s.colS c).core with prog := BitVec.ofNat 32 i }
  memOk : t.memOk
  words : ∀ j, j < i → memWord t.mem (dst + 4 * j) = f j
  other : s.memSame t dst (4 * i)

theorem State.Stored.longFrame {dst i : Nat} {f : Nat → Word} (h : s.Stored t c dst f i) : s.LongFrame t c i :=
  ⟨h.frame, h.ecc, by rw [h.core], by rw [h.core]⟩

theorem State.Stored.next {dst i : Nat} {f : Nat → Word} (h : s.Stored t c dst f i) :
    s.Stored ((State.setXprog { t with mem := memPutWord t.mem (dst + 4 * i) (f i) } (.col c) (i + 1)).pmc (.col c) 0 0x0C)
      c dst f (i + 1) := by
  obtain ⟨hframe, hcore⟩ := State.elementDone_colS { t with mem := memPutWord t.mem (dst + 4 * i) (f i) } c (i + 1)
  have hcol : State.colS { t with mem := memPutWord t.mem (dst + 4 * i) (f i) } c = t.colS c := rfl
  refine ⟨(h.frame.trans (t.colFrame_mem c _ t.ecc)).trans hframe, h.ecc, ?_, memPutWord_wf h.memOk _ _, fun j hj => ?_, fun b hb => ?_⟩
  · rw [hcore, hcol, h.core]
  · change memWord (memPutWord t.mem (dst + 4 * i) (f i)) (dst + 4 * j) = f j
    by_cases hji : j = i
    · subst hji
      exact memWord_memPutWord h.memOk _ _
    · rw [memWord_memPutWord_other h.memOk _ (by omega)]
      exact h.words j (by omega)
  · exact (memGet_memPutWord_other h.memOk _ (by omega)).trans (h.other b (by omega))

/-- A long instruction whose elements store one word each, from rest, with room for all of them. -/
theorem State.longRun_stores {dst n : Nat} {f : Nat → Word} {elem : Nat → State → MemRes} (hn : n < 2 ^ 32) (hmem : s.memOk)
    (hrest : (s.coreOf (.col c)).prog = 0)
    (helem : ∀ i t, i < n → s.Stored t c dst f i → elem i t = .done { t with mem := memPutWord t.mem (dst + 4 * i) (f i) })
    {most : Nat} (hmost : n ≤ most) (ha : s.alive (.col c) = true) :
    ∃ u, State.longRun (.col c) n elem most s = .done u ∧
      (∀ i, i < n → memWord (u.retire (.col c)).mem (dst + 4 * i) = f i) ∧ s.memSame (u.retire (.col c)) dst (4 * n) ∧
      s.ColSame (u.retire (.col c)) c ((s.coreOf (.col c)).advance .s) := by
  have hcore0 : (s.colS c).core = { (s.colS c).core with prog := BitVec.ofNat 32 0 } := by
    have h0 : BitVec.ofNat 32 0 = (s.colS c).core.prog := hrest.symm
    rw [h0]
  have hstart : s.Stored s c dst f 0 := ⟨.refl s c, rfl, hcore0, hmem, fun j hj => absurd hj (by omega), fun _ _ => rfl⟩
  obtain ⟨u, hrun, hu⟩ := State.longRun_invariant (p := .col c) (elem := elem) (fun i t => s.Stored t c dst f i)
    (fun i t hi h => h.longFrame.xprog (by omega)) (fun i t hi h => ⟨_, helem i t hi h, h.next⟩) most 0 s (by omega) (by omega) hstart
  have hcol := u.colS_modSproc c fun q => { q with core := { q.core with prog := BitVec.ofNat 32 0 } }
  have hcore : ((u.setXprog (.col c) 0).colS c).core = (s.colS c).core := by
    refine (congrArg SProc.core hcol).trans ?_
    rw [hcore0]
    dsimp only
    rw [hu.core]
  obtain ⟨hsame, hm, -⟩ := (hu.frame.trans (u.colFrame_modCores c _)).retire (t := u.setXprog (.col c) 0) ha
  rw [hcore] at hsame
  exact ⟨_, hrun, fun i hi => by rw [hm]; exact hu.words i hi, fun b hb => by rw [hm]; exact hu.other b hb, hsame⟩

variable {gd : BitVec 3} {rd ra rb : BitVec 5}

theorem Core.u_lt (k : Core) (n : Nat) : k.u .s n < 2 ^ 32 := Nat.mod_lt _ (Nat.two_pow_pos 32)

/-- A word moved from one range to another. -/
theorem State.moveWord_plain {a b n m i j k : Nat} (hsrc : s.Plain c a n false) (hdst : s.Plain c b m true) (hf : s.LongFrame t c k)
    (hi : i < n) (hj : j < m) :
    t.moveWord (.col c) (a + 4 * i) (b + 4 * j) =
      .done { t with mem := memPutWord t.mem (b + 4 * j) (memWord t.mem (a + 4 * i)) } := by
  unfold State.moveWord
  rw [hsrc.load hf hi]
  dsimp only
  rw [hdst.store hf hj, BitVec.ofNat_toNat, BitVec.setWidth_eq]

theorem bmov_copies (h : s.mayRun (.col c) gd) (hsup : (s.coreOf (.col c)).stb 31 = true) (hmem : s.memOk)
    (hrest : (s.coreOf (.col c)).prog = 0) {n dst base : Nat} (hn : n = (s.coreOf (.col c)).u .s rb.toNat)
    (hd : dst = (s.coreOf (.col c)).u .s rd.toNat) (hb : base = (s.coreOf (.col c)).u .s ra.toNat) (most : BitVec 16)
    (hmost : n ≤ most.toNat) (hdst : s.Plain c dst n true) (hsrc : s.Plain c base n false)
    (happart : base + 4 * n ≤ dst ∨ dst + 4 * n ≤ base) :
    ∃ t, exec (.bmov (.col c) gd rd ra rb most) s = .next t ∧
      (∀ i, i < n → memWord t.mem (dst + 4 * i) = memWord s.mem (base + 4 * i)) ∧ s.memSame t dst (4 * n) ∧
      s.ColSame t c ((s.coreOf (.col c)).advance .s) := by
  obtain ⟨u, hrun, hu⟩ := State.longRun_stores (dst := dst) (f := fun i => memWord s.mem (base + 4 * i))
    (elem := fun i s => s.moveWord (.col c) (if false then base else (base + 4 * i) % 2 ^ 32) ((dst + 4 * i) % 2 ^ 32))
    (hn ▸ Core.u_lt _ _) hmem hrest (fun i t hi ht => by
      have hval : memWord t.mem (base + 4 * i) = memWord s.mem (base + 4 * i) :=
        memWord_congr fun b hb => ht.other b (by omega)
      rw [if_neg (by decide), hsrc.addr hi, hdst.addr hi, State.moveWord_plain hsrc hdst ht.longFrame hi hi, hval])
    hmost h.alive
  subst hn hd hb
  exact ⟨_, congrArg ok (State.runSup_done h rfl rfl hsup hrun _), hu⟩

theorem bmovFill_fills (h : s.mayRun (.col c) gd) (hsup : (s.coreOf (.col c)).stb 31 = true) (hmem : s.memOk)
    (hrest : (s.coreOf (.col c)).prog = 0) {n dst base : Nat} (hn : n = (s.coreOf (.col c)).u .s rb.toNat)
    (hd : dst = (s.coreOf (.col c)).u .s rd.toNat) (hb : base = (s.coreOf (.col c)).u .s ra.toNat) (most : BitVec 16)
    (hmost : n ≤ most.toNat) (hdst : s.Plain c dst n true) (hsrc : s.Plain c base 1 false)
    (happart : base + 4 ≤ dst ∨ dst + 4 * n ≤ base) :
    ∃ t, exec (.bmovFill (.col c) gd rd ra rb most) s = .next t ∧
      (∀ i, i < n → memWord t.mem (dst + 4 * i) = memWord s.mem base) ∧ s.memSame t dst (4 * n) ∧
      s.ColSame t c ((s.coreOf (.col c)).advance .s) := by
  obtain ⟨u, hrun, hu⟩ := State.longRun_stores (dst := dst) (f := fun _ => memWord s.mem base)
    (elem := fun i s => s.moveWord (.col c) (if true then base else (base + 4 * i) % 2 ^ 32) ((dst + 4 * i) % 2 ^ 32))
    (hn ▸ Core.u_lt _ _) hmem hrest (fun i t hi ht => by
      have hval : memWord t.mem base = memWord s.mem base := memWord_congr fun b hb => ht.other b (by omega)
      have hmove := State.moveWord_plain hsrc hdst ht.longFrame (i := 0) (by decide) hi
      rw [if_pos rfl, hdst.addr hi, ← hval]
      exact hmove)
    hmost h.alive
  subst hn hd hb
  exact ⟨_, congrArg ok (State.runSup_done h rfl rfl hsup hrun _), hu⟩

/-! ### SAVEM and RESTM (R460) -/

/-- Register `i` of the file that SAVEM and RESTM name. -/
def Core.file (k : Core) (fr : Bool) (i : Nat) : Word := if fr then k.fr[i]! else k.r[i]!

/-- The fields with which SAVEM and RESTM are legal. -/
theorem fileLegal {fr : Bool} (hle : rd.toNat ≤ rb.toNat) (hfr : fr = true → rb.toNat < 16) :
    (decide (rd.toNat ≤ rb.toNat) && decide ((if fr then 1 else 0 : Byte).toNat < 2) &&
      ((if fr then 1 else 0 : Byte) == 0 || decide (rb.toNat < 16))) = true := by
  rw [decide_eq_true hle]
  cases fr with
  | false => rfl
  | true => rw [decide_eq_true (hfr rfl)]; rfl

/-- Element `i` of a SAVEM. -/
def saveElem (c : Fin 5) (base rd : Nat) (fr : Bool) (i : Nat) (s : State) : MemRes :=
  match s.sStore (.col c) ((base + 4 * i) % 2 ^ 32) 4 ((s.coreOf (.col c)).file fr (rd + i)) with
  | .val s1 _ => .done s1
  | .stay s1 => .stay s1
  | .bad s1 st => .trap s1 (.access st ((base + 4 * i) % 2 ^ 32))

theorem savem_stores (h : s.mayRun (.col c) gd) (hsup : (s.coreOf (.col c)).stb 31 = true) (hmem : s.memOk)
    (hrest : (s.coreOf (.col c)).prog = 0) {base : Nat} (hb : base = (s.coreOf (.col c)).u .s ra.toNat) (most : BitVec 6) (fr : Bool)
    (hle : rd.toNat ≤ rb.toNat) (hfr : fr = true → rb.toNat < 16) (hmost : rb.toNat - rd.toNat + 1 ≤ most.toNat)
    (hdst : s.Plain c base (rb.toNat - rd.toNat + 1) true) :
    ∃ t, exec (.savem (.col c) gd rd ra rb (if fr then 1 else 0) most) s = .next t ∧
      (∀ i, i < rb.toNat - rd.toNat + 1 → memWord t.mem (base + 4 * i) = (s.coreOf (.col c)).file fr (rd.toNat + i)) ∧
      s.memSame t base (4 * (rb.toNat - rd.toNat + 1)) ∧ s.ColSame t c ((s.coreOf (.col c)).advance .s) := by
  have hlt := rb.isLt
  obtain ⟨u, hrun, hu⟩ := State.longRun_stores (c := c) (dst := base) (n := rb.toNat - rd.toNat + 1)
    (f := fun i => (s.coreOf (.col c)).file fr (rd.toNat + i))
    (elem := saveElem c base rd.toNat fr) (by omega) hmem hrest (fun i t hi ht => by
      have hc : t.coreOf (.col c) = { s.coreOf (.col c) with prog := BitVec.ofNat 32 i } := ht.core
      have hv : (t.coreOf (.col c)).file fr (rd.toNat + i) = (s.coreOf (.col c)).file fr (rd.toNat + i) := by
        rw [hc]
        cases fr <;> rfl
      rw [saveElem, hv, hdst.addr hi, hdst.store ht.longFrame hi])
    hmost h.alive
  subst hb
  cases fr <;> exact ⟨_, congrArg ok (State.runSup_done h rfl (fileLegal hle hfr) hsup hrun _), hu⟩

end

theorem vector_set!_get! {m : Nat} (v : Vector Word m) (i j : Nat) (x : Word) :
    (v.set! i x)[j]! = if i = j ∧ i < m then x else v[j]! := by
  by_cases hj : j < m
  · by_cases hij : i = j
    · subst hij
      simp [Vector.set!, hj]
    · simp [Vector.set!, hj, hij]
  · have hno : ¬ (i = j ∧ i < m) := by omega
    rw [if_neg hno]
    simp [Vector.set!, hj]

section
variable {s t u : State} {c : Fin 5} {gd : BitVec 3} {rd ra rb : BitVec 5}

/-- A core with register `i` of a file replaced. -/
def Core.setFile (k : Core) (fr : Bool) (i : Nat) (w : Word) : Core :=
  if fr then { k with fr := k.fr.set! i w } else { k with r := k.r.set! i w }

theorem Core.file_setFile (k : Core) (fr : Bool) (i j : Nat) (w : Word) :
    (k.setFile fr i w).file fr j = if i = j ∧ i < (if fr then 16 else 32) then w else k.file fr j := by
  cases fr with
  | false => exact vector_set!_get! k.r i j w
  | true => exact vector_set!_get! k.fr i j w

/-- Registers `rd` to `rd + i - 1` of a file have been loaded with the words `f`. -/
structure State.Restored (s t : State) (c : Fin 5) (fr : Bool) (rd : Nat) (f : Nat → Word) (i : Nat) : Prop where
  frame : s.ColFrame t c
  ecc : t.ecc = s.ecc
  mem : t.mem = s.mem
  core : (t.colS c).core = (s.colS c).core.withFiles (t.colS c).core.r (t.colS c).core.fr (BitVec.ofNat 32 i)
  other : if fr then (t.colS c).core.r = (s.colS c).core.r else (t.colS c).core.fr = (s.colS c).core.fr
  loaded : ∀ j, j < i → (t.colS c).core.file fr (rd + j) = f j
  kept : ∀ j, (j < rd ∨ rd + i ≤ j) → (t.colS c).core.file fr j = (s.colS c).core.file fr j

theorem State.Restored.longFrame {fr : Bool} {r i : Nat} {f : Nat → Word} (h : s.Restored t c fr r f i) : s.LongFrame t c i :=
  ⟨h.frame, h.ecc, by rw [h.core]; rfl, by rw [h.core]; rfl⟩

theorem State.Restored.next {fr : Bool} {r i : Nat} {f : Nat → Word} (h : s.Restored t c fr r f i)
    (hr : r + i < if fr then 16 else 32) :
    s.Restored ((State.setXprog (t.modCores (.col c) fun k => k.setFile fr (r + i) (f i)) (.col c) (i + 1)).pmc (.col c) 0 0x0C)
      c fr r f (i + 1) := by
  obtain ⟨hframe, hcore⟩ := State.elementDone_colS (t.modCores (.col c) fun k => k.setFile fr (r + i) (f i)) c (i + 1)
  have hcol : (State.colS (t.modCores (.col c) fun k => k.setFile fr (r + i) (f i)) c).core = (t.colS c).core.setFile fr (r + i) (f i) :=
    congrArg SProc.core (t.colS_modSproc c fun q => { q with core := q.core.setFile fr (r + i) (f i) })
  rw [hcol] at hcore
  have hfile (j : Nat) : ((t.colS c).core.setFile fr (r + i) (f i)).file fr j = if r + i = j then f i else (t.colS c).core.file fr j := by
    have hset := Core.file_setFile (t.colS c).core fr (r + i) j (f i)
    rw [hset]
    by_cases hij : r + i = j
    · rw [if_pos ⟨hij, hr⟩, if_pos hij]
    · rw [if_neg fun h => hij h.1, if_neg hij]
  refine ⟨(h.frame.trans (t.colFrame_modCores c _)).trans hframe, h.ecc, h.mem, ?_, ?_, fun j hj => ?_, fun j hj => ?_⟩
  · rw [hcore, h.core]
    cases fr <;> rfl
  · rw [hcore]
    have hother := h.other
    cases fr <;> exact hother
  · rw [hcore]
    refine (hfile (r + j)).trans ?_
    by_cases hji : j = i
    · rw [if_pos (by omega), hji]
    · rw [if_neg (by omega)]
      exact h.loaded j (by omega)
  · rw [hcore]
    exact (hfile j).trans ((if_neg (by omega)).trans (h.kept j (by omega)))

/-- Element `i` of a RESTM. -/
def restoreElem (c : Fin 5) (base rd : Nat) (fr : Bool) (i : Nat) (s : State) : MemRes :=
  match s.sLoad (.col c) ((base + 4 * i) % 2 ^ 32) 4 with
  | .val s1 v => .done (s1.modCores (.col c) fun k => k.setFile fr (rd + i) (BitVec.ofNat 32 v))
  | .stay s1 => .stay s1
  | .bad s1 st => .trap s1 (.access st ((base + 4 * i) % 2 ^ 32))

theorem restm_loads (h : s.mayRun (.col c) gd) (hsup : (s.coreOf (.col c)).stb 31 = true)
    (hrest : (s.coreOf (.col c)).prog = 0) {base : Nat} (hb : base = (s.coreOf (.col c)).u .s ra.toNat) (most : BitVec 6) (fr : Bool)
    (hle : rd.toNat ≤ rb.toNat) (hfr : fr = true → rb.toNat < 16) (hmost : rb.toNat - rd.toNat + 1 ≤ most.toNat)
    (hsrc : s.Plain c base (rb.toNat - rd.toNat + 1) false) (hra : ¬ (rd.toNat ≤ ra.toNat ∧ ra.toNat ≤ rb.toNat)) :
    ∃ t, exec (.restm (.col c) gd rd ra rb (if fr then 1 else 0) most) s = .next t ∧ t.mem = s.mem ∧ t.regs = s.regs ∧
      (∀ i, i < rb.toNat - rd.toNat + 1 → (t.coreOf (.col c)).file fr (rd.toNat + i) = memWord s.mem (base + 4 * i)) ∧
      (∀ i, i < 32 → (i < rd.toNat ∨ rb.toNat < i) → (t.coreOf (.col c)).file fr i = (s.coreOf (.col c)).file fr i) ∧
      t.coreOf (.col c) = { (s.coreOf (.col c)).advance .s with r := (t.coreOf (.col c)).r, fr := (t.coreOf (.col c)).fr } ∧
      (if fr then (t.coreOf (.col c)).r = (s.coreOf (.col c)).r else (t.coreOf (.col c)).fr = (s.coreOf (.col c)).fr) := by
  have hlt := rb.isLt
  have hsize : rb.toNat < if fr then 16 else 32 := by
    cases fr with
    | false => exact hlt
    | true => exact hfr rfl
  have hlegal : (decide (rd.toNat ≤ rb.toNat) && decide ((if fr then 1 else 0 : Byte).toNat < 2) &&
      ((if fr then 1 else 0 : Byte) == 0 || decide (rb.toNat < 16)) &&
      !(decide (rd.toNat ≤ ra.toNat) && decide (ra.toNat ≤ rb.toNat))) = true := by
    rw [fileLegal hle hfr, ← Bool.decide_and, decide_eq_false hra]
    rfl
  have hcore0 : (s.colS c).core = (s.colS c).core.withFiles (s.colS c).core.r (s.colS c).core.fr (BitVec.ofNat 32 0) := by
    have h0 : BitVec.ofNat 32 0 = (s.colS c).core.prog := hrest.symm
    rw [h0]
    rfl
  have hstart : s.Restored s c fr rd.toNat (fun i => memWord s.mem (base + 4 * i)) 0 :=
    ⟨.refl s c, rfl, rfl, hcore0, by cases fr <;> rfl, fun j hj => absurd hj (by omega), fun _ _ => rfl⟩
  obtain ⟨u, hrun, hu⟩ := State.longRun_invariant (p := .col c) (n := rb.toNat - rd.toNat + 1)
    (elem := restoreElem c base rd.toNat fr) (fun i t => s.Restored t c fr rd.toNat (fun i => memWord s.mem (base + 4 * i)) i)
    (fun i t hi h => h.longFrame.xprog (by omega)) (fun i t hi ht => ⟨_, by
      rw [restoreElem, hsrc.addr hi, hsrc.load ht.longFrame hi]
      dsimp only
      rw [BitVec.ofNat_toNat, BitVec.setWidth_eq, ht.mem], ht.next (by omega)⟩)
    most.toNat 0 s (by omega) (by omega) hstart
  have hcol := u.colS_modSproc c fun q => { q with core := { q.core with prog := BitVec.ofNat 32 0 } }
  have hcore : ((u.setXprog (.col c) 0).colS c).core = (s.colS c).core.withFiles (u.colS c).core.r (u.colS c).core.fr 0 := by
    refine (congrArg SProc.core hcol).trans ?_
    dsimp only
    rw [hu.core]
    rfl
  obtain ⟨⟨hk, hregs, -⟩, hm, -⟩ := (hu.frame.trans (u.colFrame_modCores c _)).retire (t := u.setXprog (.col c) 0) h.alive
  rw [hcore, Core.advance_withFiles] at hk
  obtain ⟨-, -, hkept⟩ := (s.colS c).core.advance_files .s
  have hprog : ((s.colS c).core.advance .s).prog = 0 := hkept.trans hrest
  have hfile (j : Nat) : (((u.setXprog (.col c) 0).retire (.col c)).coreOf (.col c)).file fr j = (u.colS c).core.file fr j := by
    rw [hk]
    cases fr <;> rfl
  have hexec : exec (.restm (.col c) gd rd ra rb (if fr then 1 else 0) most) s = .next ((u.setXprog (.col c) 0).retire (.col c)) := by
    subst hb
    cases fr <;> exact congrArg ok (State.runSup_done h rfl hlegal hsup hrun _)
  refine ⟨_, hexec, hm.trans hu.mem, hregs,
    fun i hi => (hfile _).trans (hu.loaded i hi), fun i _ hi => (hfile _).trans (hu.kept i (by omega)), ?_, ?_⟩
  · rw [hk, ← hprog]
    rfl
  · rw [hk]
    exact hu.other

end

/-- Settles O51: the cache functions and the block moves of a column. -/
theorem columnMemoryOps : Obligations.ColumnMemoryOps := by
  unfold Obligations.ColumnMemoryOps
  refine ⟨fun c gd rd ra rb s h hmem => ⟨fun hsup most e he => ?_, fun hsup => ⟨⟨cacheInvalidateLine_loses h hsup, fun i hi =>
    ⟨fun habsent => cacheLine_absent h hsup habsent i hi, fun l hl hopen => ?_⟩, ?_⟩, ?_, fun most hlen hopen => ?_, fun hrest =>
    ⟨fun most hmost hdst => ⟨bmov_copies h hsup hmem hrest rfl rfl rfl most hmost hdst,
      bmovFill_fills h hsup hmem hrest rfl rfl rfl most hmost hdst⟩,
    fun most fr hle hfr hmost => ⟨savem_stores h hsup hmem hrest rfl most fr hle hfr hmost,
      restm_loads h hsup hrest rfl most fr hle hfr hmost⟩⟩⟩⟩, fun gd ra s h hsup i hi => ?_⟩
  · simp only [List.mem_cons, List.not_mem_nil, or_false] at he
    rcases he with rfl | rfl | rfl | rfl | rfl | rfl | rfl | rfl <;> exact congrArg ok (State.runSup_priv h rfl rfl hsup _)
  · rcases hi with rfl | rfl
    · rw [if_neg (by simp)]
      exact cacheWritebackLine_writes h hsup hmem rfl hl hopen
    · rw [if_pos rfl]
      exact cacheFlushLine_writes h hsup hmem rfl hl hopen
  · obtain ⟨hm, hsame, hic⟩ := cacheInstr_loses h (smDrop (· == (s.coreOf (.col c)).u .s ra.toNat / 64))
    exact ⟨_, congrArg ok (runCache_done h hsup rfl rfl), hm, hsame, hic⟩
  · obtain ⟨hm, hsame, hic⟩ := cacheInstr_loses h fun _ => []
    exact ⟨_, congrArg ok (runCache_done h hsup rfl rfl), hm, hsame, hic⟩
  · exact cacheFlushData_empties h hsup hmem most hlen hopen
  · simp only [List.mem_cons, List.not_mem_nil, or_false] at hi
    rcases hi with rfl | rfl | rfl | rfl | rfl | rfl <;>
      exact ⟨_, congrArg ok (State.runSup_done h rfl rfl hsup rfl _), State.retire_s h.alive rfl⟩

end Sys2Proof.Machine

/-! ## TIME goes on (O4, O6)

What each operation of the model does to the TIME unit: most leave it as it is; the writes of its registers and the servo keep TIME and
keep the increment in the range of R57; TIME_ADVANCE moves TIME forward, and a power-on reset alone clears it. -/

namespace Sys2Proof.Machine

/-- The increment in force lies in the range of R57. -/
def TimeUnit.IncOk (t : TimeUnit) : Prop := incNom - incLim ≤ (t.inc.toNat : Int) ∧ (t.inc.toNat : Int) ≤ incNom + incLim

/-- TIME stands at `now`, with an increment in the range of R57. -/
def TimeAt (now : BitVec 96) (t : TimeUnit) : Prop := t.now = now ∧ t.IncOk

/-- The TIME unit of `t` is that of `s`. -/
def State.SameTime (s t : State) : Prop := t.time = s.time

@[simp] theorem State.sameTime_iff (s t : State) : s.SameTime t ↔ t.time = s.time := ⟨id, id⟩

@[simp] theorem State.time_ite (c : Prop) [Decidable c] (a b : State) :
    (if c then a else b).time = if c then a.time else b.time := apply_ite ..

@[simp] theorem timeAt_ite (now : BitVec 96) (c : Prop) [Decidable c] (a b : TimeUnit) :
    TimeAt now (if c then a else b) ↔ if c then TimeAt now a else TimeAt now b := by split <;> rfl

@[simp] theorem foldl_time {α : Type} {f : State → α → State} (hf : ∀ (s : State) x, s.SameTime (f s x)) (l : List α) (s : State) :
    (l.foldl f s).time = s.time := by
  induction l generalizing s with
  | nil => rfl
  | cons x l ih => rw [List.foldl_cons, ih, hf]

@[simp] theorem forN_time {f : Nat → State → State} (hf : ∀ (s : State) i, s.SameTime (f i s)) (n : Nat) (s : State) :
    (forN n s f).time = s.time := foldl_time (fun s i => hf s i) _ s

@[simp] theorem State.logErr_time (s : State) (e : ErrEntry) : (s.logErr e).time = s.time := by
  unfold State.logErr
  split
  · simp
  · dsimp only
    split <;> simp [State.report35]

/-- Neither TIME nor the increment tells two TIME units apart: they stand alike. -/
theorem TimeAt.congr {now : BitVec 96} {t u : TimeUnit} (h : TimeAt now t) (hnow : u.now = t.now) (hinc : u.inc = t.inc) :
    TimeAt now u := by
  unfold TimeAt TimeUnit.IncOk at h ⊢
  rw [hnow, hinc]
  exact h

section
variable {now : BitVec 96}

/-! ### Ops -/

@[simp] theorem State.setLstate_time (s : State) (c : Fin 128) (v : Nat) : (s.setLstate c v).time = s.time := rfl
@[simp] theorem State.setPstate_time (s : State) (p : Fin 128) (v : Nat) : (s.setPstate p v).time = s.time := rfl
@[simp] theorem State.mapCell_time (s : State) (c : Fin 128) (p : Option (Fin 128)) : (s.mapCell c p).time = s.time := rfl
@[simp] theorem State.pmcCount_time (s : State) (c : Fin 128) (e : Nat) : (s.pmcCount c e).time = s.time := rfl
@[simp] theorem State.evDrop_time (s : State) (c : Fin 128) (n : Nat) : (s.evDrop c n).time = s.time := rfl

theorem State.pushFifo_time {s t : State} {c : Fin 128} {e : FifoEntry} (h : s.pushFifo c e = some t) :
    t.time = s.time := by
  unfold State.pushFifo at h
  split at h
  · cases h
  · split at h
    · cases h
    · split at h
      · cases h
      · cases h; split <;> rfl

@[simp] theorem State.notifyCell_time (s : State) (c : Fin 128) (vec payload : Nat) :
    (s.notifyCell c vec payload).time = s.time := by
  unfold State.notifyCell
  split
  · next h => exact State.pushFifo_time h
  · simp

@[simp] theorem State.report35_time (s : State) (level unit : Nat) (acked : Bool) : (s.report35 level unit acked).time = s.time := by
  simp [State.report35]

@[simp] theorem State.appendErr_time (s : State) (status chamber level kind source addr : Nat) :
    (s.appendErr status chamber level kind source addr).time = s.time := by
  simp [State.appendErr]

@[simp] theorem State.refuse_time (s : State) (ag : Agent) (status kind addr : Nat) :
    (s.refuse ag status kind addr).time = s.time := by
  simp [State.refuse]

@[simp] theorem State.asWrite_time {s : State} {ag : Agent} {f : RegFam} {i : Nat} {act : State → State}
    (hact : s.SameTime (act s)) : (s.asWrite ag f i act).time = s.time := by
  by_cases h : s.accessStatus ag true (f.addr i) = stOK
  · rw [asWrite_ok h]; exact hact
  · rw [asWrite_refused h]; simp

@[simp] theorem State.discard_time (s : State) (ag : Agent) (f : RegFam) (i status : Nat) :
    (s.discard ag f i status).time = s.time := by
  simp [State.discard]

@[simp] theorem State.eccCorrect_time (s : State) (a : Nat) : (s.eccCorrect a).time = s.time := by simp [State.eccCorrect]
@[simp] theorem State.eccClear_time (s : State) (a : Nat) : (s.eccClear a).time = s.time := by simp [State.eccClear]
@[simp] theorem State.poke16_time (s : State) (a : Nat) (v : Half) : (s.poke16 a v).time = s.time := rfl
@[simp] theorem State.poke32_time (s : State) (a : Nat) (v : Word) : (s.poke32 a v).time = s.time := rfl
@[simp] theorem State.countWrap_time (s : State) (f : RegFam) (i : Nat) (F : Fld) : (s.countWrap f i F).time = s.time := rfl

/-! ### Rings -/

theorem State.raiseLine_time {s t : State} {c : Fin 5} {line : Fin 16} {chamber payload : Nat} {ring : Option Nat}
    (h : s.raiseLine c line chamber payload ring = some t) : t.time = s.time := by
  unfold State.raiseLine at h
  dsimp only at h
  split at h
  · cases h
  · cases h; rfl

@[simp] theorem State.pokeWords_time (s : State) (a : Nat) (l : List Word) : (s.pokeWords a l).time = s.time := by
  induction l generalizing s a with
  | nil => rfl
  | cons w l ih => rw [State.pokeWords, ih]; simp

@[simp] theorem State.ringPut_time (s : State) (n : Nat) (body : List Word) (status kind info : Nat) :
    (s.ringPut n body status kind info).time = s.time := by
  simp [State.ringPut]

theorem State.notifySend_time {s t : State} {n : Nat} (h : s.notifySend n = some t) : t.time = s.time := by
  unfold State.notifySend at h
  dsimp only at h
  split at h
  · exact State.pushFifo_time h
  · split at h
    · exact State.raiseLine_time h
    · cases h; rfl
  · cases h; rfl

@[simp] theorem State.notifyRing_time (s : State) (n : Nat) : (s.notifyRing n).time = s.time := by
  unfold State.notifyRing
  split
  · rfl
  · split
    · next h => exact State.notifySend_time h
    · rfl

@[simp] theorem State.notifyRetry_time (s : State) : s.notifyRetry.time = s.time := by
  unfold State.notifyRetry
  refine foldl_time (fun s n => ?_) _ _
  rw [State.sameTime_iff]
  split
  · next t h => exact (show t.time = _ from State.notifySend_time h)
  · rfl

@[simp] theorem State.modTxRing_time (s : State) (n : Nat) (f : TxRing → TxRing) : (s.modTxRing n f).time = s.time := rfl
@[simp] theorem State.txPass_time (s : State) (n : Nat) : (s.txPass n).time = s.time := rfl
@[simp] theorem State.ringCorrect_time (s : State) (n idx : Nat) : (s.ringCorrect n idx).time = s.time := by simp [State.ringCorrect]

theorem State.ringPush_time {s t : State} {n : Nat} {body : List Word} {status kind info : Nat}
    (h : s.ringPush n body status kind info = some t) : t.time = s.time := by
  unfold State.ringPush at h
  split at h
  · cases h
  · cases h; simp

@[simp] theorem State.writeRingCfg_time (s : State) (ag : Agent) (n : Nat) (v : Word) :
    (s.writeRingCfg ag n v).time = s.time := by
  simp only [State.writeRingCfg]
  repeat' split
  all_goals simp

@[simp] theorem State.writeRingIdx_time (s : State) (n : Nat) (v : Word) : (s.writeRingIdx n v).time = s.time := by
  simp [State.writeRingIdx]

/-! ### Time -/

theorem State.setInc_time (s : State) (x : Int) : (s.setInc x).time =
    { s.time with inc := BitVec.ofNat 34 (clampI x (incNom - incLim) (incNom + incLim)).toNat } := by
  unfold State.setInc
  dsimp only
  split <;> rfl

/-- An increment put in force lies in the range of R57, whatever was asked for. -/
theorem State.setInc_incOk (s : State) (x : Int) : (s.setInc x).time.IncOk := by
  obtain ⟨hlo, hhi⟩ := clamp_range x
  have hpos : 0 ≤ clampI x (incNom - incLim) (incNom + incLim) := le_trans (by decide) hlo
  unfold TimeUnit.IncOk
  rw [setInc_inc, clamp_toNat, Int.toNat_of_nonneg hpos]
  exact ⟨hlo, hhi⟩

@[simp] theorem State.setInc_timeAt {s : State} (h : TimeAt now s.time) (x : Int) : TimeAt now (s.setInc x).time :=
  ⟨by rw [s.setInc_time]; exact h.1, s.setInc_incOk x⟩

@[simp] theorem State.setLevel_time (s : State) (l : Nat) : (s.setLevel l).time = s.time := rfl

@[simp] theorem State.enterHoldover_timeAt {s : State} (h : TimeAt now s.time) : TimeAt now s.enterHoldover.time := by
  unfold State.enterHoldover
  split <;> exact h

theorem State.counted_timeAt {s : State} (h : TimeAt now s.time) (o : Int) : TimeAt now (s.counted o) := h

@[simp] theorem State.judgeSample_timeAt {s : State} (h : TimeAt now s.time) (o : Int) : TimeAt now (s.judgeSample o).time := by
  unfold State.judgeSample
  extract_lets t s1 s2 src s3
  have ht : TimeAt now t := State.counted_timeAt h o
  have h2 : TimeAt now s2.time := by
    unfold s2
    split <;> exact ht
  have h3 : TimeAt now s3.time := by
    unfold s3
    split
    · exact ht
    · split <;> exact h2
  exact h3

@[simp] theorem State.servoSample_timeAt {s : State} (h : TimeAt now s.time) (o : Int) : TimeAt now (s.servoSample o).time := by
  unfold State.servoSample
  extract_lets d n s1 s2 s3
  refine State.judgeSample_timeAt ?_ o
  have h1 : TimeAt now s1.time := by
    unfold s1
    split
    · exact h
    · exact State.setInc_timeAt h _
  exact h1

@[simp] theorem State.offerSample_timeAt {s : State} (h : TimeAt now s.time) (o : Int) : TimeAt now (s.offerSample o).time := by
  unfold State.offerSample
  split_ifs <;> simp [h]

@[simp] theorem State.writeOfsIn_timeAt {s : State} (h : TimeAt now s.time) (v : Word) : TimeAt now (s.writeOfsIn v).time := by
  unfold State.writeOfsIn
  split <;> simp [h]

@[simp] theorem State.writeIncInt_time (s : State) (v : Word) : (s.writeIncInt v).time = s.time := by simp [State.writeIncInt]

@[simp] theorem State.writeIncFrac_timeAt {s : State} (h : TimeAt now s.time) (v : Word) : TimeAt now (s.writeIncFrac v).time := by
  unfold State.writeIncFrac
  split
  · exact h
  · exact State.setInc_timeAt h _

@[simp] theorem State.writeSlew_timeAt {s : State} (h : TimeAt now s.time) (v : Word) : TimeAt now (s.writeSlew v).time := by
  unfold State.writeSlew
  split <;> exact h

@[simp] theorem State.writeTimeCtrl_timeAt {s : State} (h : TimeAt now s.time) (v : Word) : TimeAt now (s.writeTimeCtrl v).time := by
  unfold State.writeTimeCtrl
  extract_lets old s1 rise change src s2 s3
  have h2 : TimeAt now s2.time := by
    unfold s2
    split <;> exact h
  have h3 : TimeAt now s3.time := by
    unfold s3
    split <;> exact h2
  split <;> exact h3

@[simp] theorem State.latchTime_time (s : State) (ag : Agent) : (s.latchTime ag).time = s.time := rfl

/-! ### GalleryCore -/

@[simp] theorem State.modEvent_time (s : State) (n : Nat) (f : GEvent → GEvent) : (s.modEvent n f).time = s.time := rfl
@[simp] theorem State.bumpTag_time (s : State) (n : Nat) : (s.bumpTag n).time = s.time := rfl

@[simp] theorem State.writeQuota_time (s : State) (ag : Agent) (c : Nat) (v : Word) :
    (s.writeQuota ag c v).time = s.time := by
  simp [State.writeQuota]

@[simp] theorem State.countSlot_time (s : State) (ch ring : Nat) (axis : Option Nat) (up : Bool) :
    (s.countSlot ch ring axis up).time = s.time := by
  unfold State.countSlot
  repeat' split
  all_goals simp

@[simp] theorem State.report_time (s : State) (e : GEvent) (status mask : Nat) :
    (s.report e status mask).time = s.time := by
  unfold State.report
  dsimp only
  split
  · rfl
  · split
    · next h => exact State.ringPush_time h
    · simp

@[simp] theorem State.freeSlot_time (s : State) (e : GEvent) : (s.freeSlot e).time = s.time := by simp [State.freeSlot]

@[simp] theorem State.endEvent_time (s : State) (e : GEvent) (status mask : Nat) (quiet : Bool) :
    (s.endEvent e status mask quiet).time = s.time := by
  simp [State.endEvent]

theorem State.slotFault_time {s t : State} {e : GEvent} (h : s.slotFault e = some t) : t.time = s.time := by
  unfold State.slotFault at h
  dsimp only at h
  split at h
  · cases h; simp
  · cases h

@[simp] theorem State.slotCorrect_time (s : State) (e : GEvent) : (s.slotCorrect e).time = s.time := by simp [State.slotCorrect]

@[simp] theorem State.eachEvent_time {f : GEvent → State → State} (hf : ∀ e (s : State), s.SameTime (f e s)) (s : State)
    (l : List GEvent) :
    (s.eachEvent l f).time = s.time := by
  unfold State.eachEvent
  refine foldl_time (fun s e => ?_) _ _
  split
  · split
    · exact hf _ s
    · rfl
  · rfl

@[simp] theorem State.commitEvent_time (s : State) (e : GEvent) (f : GEvent → GEvent) : (s.commitEvent e f).time = s.time := rfl
@[simp] theorem State.dueNow_time (s : State) (e : GEvent) (lc : Nat) (exempt : Bool) : (s.dueNow e lc exempt).time = s.time := rfl

@[simp] theorem State.predictEvent_time (s : State) (e : GEvent) : (s.predictEvent e).time = s.time := by
  unfold State.predictEvent
  split
  · next h => exact State.slotFault_time h
  · extract_lets s1 d dir s2 sg t w c ds ws wmin t1 corr t2
    have h1 : s1.time = s.time := State.slotCorrect_time ..
    have h2 : s2.time = s.time := (State.modEvent_time ..).trans h1
    split
    · rw [State.endEvent_time, State.flag_time, h1]
    split
    · rw [h1]
    split
    · rw [State.dueNow_time, h1]
    split
    · split
      · rw [State.dueNow_time, h2]
      · rw [State.dueNow_time, h2]
    split
    · rw [h2]
    split
    · split
      · rw [State.commitEvent_time, h2]
      · rw [h2]
    · rw [h2]
@[simp] theorem State.predictAxis_time (s : State) (x : Fin 8) : (s.predictAxis x).time = s.time := by
  simp [State.predictAxis]

@[simp] theorem State.angleHold_time (s : State) (x : Fin 8) : (s.angleHold x).time = s.time := by simp [State.angleHold]
@[simp] theorem State.acceptNow_time (s : State) (e : GEvent) : (s.acceptNow e).time = s.time := by simp [State.acceptNow]
@[simp] theorem State.acceptSub_time (s : State) (u : Sub) (n : Nat) : (s.acceptSub u n).time = s.time := by simp [State.acceptSub]
@[simp] theorem State.submit_time (s : State) (u : Sub) : (s.submit u).time = s.time := rfl
@[simp] theorem State.writeGo_time (s : State) (ag : Agent) (v : Word) : (s.writeGo ag v).time = s.time := by simp [State.writeGo]

theorem State.takeSub_time {s t : State} {u : Sub} {n slot : Nat} {tag : BitVec 8} (h : s.takeSub = some (t, u, n, tag, slot)) :
    t.time = s.time := by
  unfold State.takeSub at h
  split at h
  · cases h
  · split at h
    · cases h
    · dsimp only at h
      split at h <;> cases h <;> simp

@[simp] theorem State.cancel_time (s : State) (ag : Agent) (v : Word) : (s.cancel ag v).time = s.time := by
  simp only [State.cancel]
  repeat' split
  all_goals simp

/-! ### Param -/

@[simp] theorem State.modAx_time (s : State) (x : Nat) (f : GAxis → GAxis) : (s.modAx x f).time = s.time := rfl

/-! ### Pwm -/

@[simp] theorem State.modOut_time (s : State) (k : Fin 16) (i : Fin 6) (f : POut → POut) : (s.modOut k i f).time = s.time := rfl
@[simp] theorem State.modPg_time (s : State) (g : Fin 32) (f : PGroup → PGroup) : (s.modPg g f).time = s.time := rfl

@[simp] theorem State.askReq_time (s : State) (k : Fin 16) (i : Fin 6) (t : Nat) (v : Bool) : (s.askReq k i t v).time = s.time := by
  simp [State.askReq]

@[simp] theorem State.askAll_time (s : State) (k : Fin 16) (t : Nat) : (s.askAll k t).time = s.time := by simp [State.askAll]

@[simp] theorem State.settleLeg_time (s : State) (k : Fin 16) (t : Nat) (p : Fin 3) : (s.settleLeg k t p).time = s.time := by
  simp [State.settleLeg]

@[simp] theorem State.settleBr_time (s : State) (k : Fin 16) (t : Nat) : (s.settleBr k t).time = s.time := by simp [State.settleBr]
@[simp] theorem State.refreshBr_time (s : State) (k : Fin 16) (t : Nat) : (s.refreshBr k t).time = s.time := by simp [State.refreshBr]
@[simp] theorem State.dropQueues_time (s : State) (k : Fin 16) : (s.dropQueues k).time = s.time := rfl

theorem State.pwmEdge_time {s t : State} {k : Fin 16} {i : Fin 6} {level : Bool} {at_ : Nat}
    (h : s.pwmEdge k i level at_ = some t) : t.time = s.time := by
  unfold State.pwmEdge at h
  split at h
  · cases h
  · cases h; simp

@[simp] theorem State.tripBr_time (s : State) (k : Fin 16) (cause : Nat) : (s.tripBr k cause).time = s.time := by simp [State.tripBr]
@[simp] theorem State.patternSet_time (s : State) (g : Fin 32) : (s.patternSet g).time = s.time := by simp [State.patternSet]
@[simp] theorem State.abortGroup_time (s : State) (g : Fin 32) : (s.abortGroup g).time = s.time := by simp [State.abortGroup]

@[simp] theorem State.migGroup_time (s : State) (g : Fin 32) (c : Nat) (hold : Bool) : (s.migGroup g c hold).time = s.time := by
  simp [State.migGroup]

@[simp] theorem State.orderBr_time (s : State) (k : Fin 16) (pat : Option (BitVec 6)) : (s.orderBr k pat).time = s.time := by
  simp [State.orderBr]

@[simp] theorem State.showLares_time (s : State) (r id : Nat) (m : Multi) : (s.showLares r id m).time = s.time := rfl

@[simp] theorem State.decideFor_time (s : State) (g : Fin 32) (status : Nat) (q : Requester) :
    (s.decideFor g status q).time = s.time := by
  simp only [State.decideFor]
  repeat' split
  all_goals simp

@[simp] theorem State.showPend_time (s : State) (g : Fin 32) : (s.showPend g).time = s.time := rfl

@[simp] theorem State.requestCommit_time (s : State) (g : Fin 32) (q : Requester) : (s.requestCommit g q).time = s.time := by
  simp [State.requestCommit]

@[simp] theorem State.writeLoadall_time (s : State) (r : Fin 4) (id mask : Nat) : (s.writeLoadall r id mask).time = s.time := by
  simp [State.writeLoadall]

@[simp] theorem State.endRelease_time (s : State) (k : Fin 16) : (s.endRelease k).time = s.time := by simp [State.endRelease]

@[simp] theorem State.commitBr_time (s : State) (k : Fin 16) (a : BAct) (per : Nat) (first : Bool) :
    (s.commitBr k a per first).time = s.time := by
  simp [State.commitBr]

@[simp] theorem State.liftPatterns_time (s : State) (g : Fin 32) : (s.liftPatterns g).time = s.time := by
  simp only [State.liftPatterns]
  repeat' split
  all_goals simp

@[simp] theorem State.commitGrp_time (s : State) (g : Fin 32) (first : Bool) : (s.commitGrp g first).time = s.time := by
  simp [State.commitGrp]

@[simp] theorem State.beginBr_time (s : State) (k : Fin 16) (t : Nat) : (s.beginBr k t).time = s.time := by simp [State.beginBr]

@[simp] theorem State.beginPeriod_time (s : State) (g : Fin 32) (t : Nat) : (s.beginPeriod g t).time = s.time := by
  simp [State.beginPeriod]

@[simp] theorem State.boundaryCommit_time (s : State) (g : Fin 32) : (s.boundaryCommit g).time = s.time := by
  simp [State.boundaryCommit]

@[simp] theorem State.disableGrp_time (s : State) (g : Fin 32) : (s.disableGrp g).time = s.time := by simp [State.disableGrp]

@[simp] theorem State.writeGctl_time (s : State) (g : Fin 32) (v : Word) : (s.writeGctl g v).time = s.time := by
  simp [State.writeGctl]

@[simp] theorem State.startGrp_time (s : State) (g : Fin 32) (t : Nat) : (s.startGrp g t).time = s.time := by simp [State.startGrp]

@[simp] theorem State.writeMctl_time (s : State) (k : Fin 16) (v : Word) : (s.writeMctl k v).time = s.time := by
  simp [State.writeMctl]

@[simp] theorem State.setMidx_time (s : State) (k : Fin 16) (m : Nat) : (s.setMidx k m).time = s.time := by simp [State.setMidx]

@[simp] theorem State.softOff_time (s : State) : s.softOff.time = s.time := by
  unfold State.softOff
  refine foldl_time (fun s k => ?_) _ _
  split <;> simp

/-! ### Gdl -/

@[simp] theorem State.gdlStart_time (s : State) (j : Fin 48) (src : GdlFrom) (sel cmd addr data : Nat) :
    (s.gdlStart j src sel cmd addr data).time = s.time := rfl

@[simp] theorem State.gdlInitStep_time (s : State) (j : Fin 48) (n : Nat) : (s.gdlInitStep j n).time = s.time := rfl

@[simp] theorem State.gdlNext_time (s : State) (j : Fin 48) : (s.gdlNext j).time = s.time := by
  simp only [State.gdlNext]
  repeat' split
  all_goals simp

@[simp] theorem State.gdlReport_time (s : State) (j : Fin 48) (status mask data : Nat) :
    (s.gdlReport j status mask data).time = s.time := rfl

@[simp] theorem State.gdlReqTrip_time (s : State) (j : Fin 48) : (s.gdlReqTrip j).time = s.time := by simp [State.gdlReqTrip]

@[simp] theorem State.gdlLeave_time (s : State) (j : Fin 48) (st at_ : Nat) : (s.gdlLeave j st at_).time = s.time := by
  simp [State.gdlLeave]

@[simp] theorem State.gdlDown_time (s : State) (j : Fin 48) : (s.gdlDown j).time = s.time := by simp [State.gdlDown]
@[simp] theorem State.gdlInitFail_time (s : State) (j : Fin 48) : (s.gdlInitFail j).time = s.time := rfl

@[simp] theorem State.gdlDeliver_time (s : State) (j : Fin 48) (x : GdlTx) : (s.gdlDeliver j x).time = s.time := by
  unfold State.gdlDeliver
  split <;> simp

@[simp] theorem State.gdlFinish_time (s : State) (j : Fin 48) (x : GdlTx) : (s.gdlFinish j x).time = s.time := by
  simp [State.gdlFinish]

@[simp] theorem State.gdlSide_time (s : State) (j : Fin 48) (x : GdlTx) (status reply : Nat) :
    (s.gdlSide j x status reply).time = s.time := by
  simp [State.gdlSide]

@[simp] theorem State.gdlBreak_time (s : State) (j : Fin 48) : (s.gdlBreak j).time = s.time := by
  unfold State.gdlBreak
  split <;> simp

@[simp] theorem State.writeGdlCfg_time (s : State) (j : Fin 48) (v : Word) : (s.writeGdlCfg j v).time = s.time := by
  simp [State.writeGdlCfg]

@[simp] theorem State.writeGdlCmd_time (s : State) (j : Fin 48) (v : Word) : (s.writeGdlCmd j v).time = s.time := by
  simp [State.writeGdlCmd]

@[simp] theorem State.masterBreak_time (s : State) (k : Fin 16) : (s.masterBreak k).time = s.time := by
  unfold State.masterBreak
  dsimp only
  rw [State.modBr_time, State.setFld_time, State.flag_time]
  exact foldl_time (fun s j => by simp) _ _

@[simp] theorem State.cmpTripBr_time (s : State) (k : Fin 16) : (s.cmpTripBr k).time = s.time := by simp [State.cmpTripBr]

/-! ### GrottoCore -/

@[simp] theorem State.gCause_time (s : State) (entry unit : Nat) (on : Bool) : (s.gCause entry unit on).time = s.time := rfl
@[simp] theorem State.dropConsent_time (s : State) : s.dropConsent.time = s.time := rfl
@[simp] theorem State.gensFollow_time (s : State) : s.gensFollow.time = s.time := by simp [State.gensFollow]

@[simp] theorem State.setOut_time (s : State) (x out : Nat) (able : Fin 16 → Bool) : (s.setOut x out able).time = s.time := by
  simp [State.setOut]

@[simp] theorem State.orderSto_time (s : State) (x : Nat) : (s.orderSto x).time = s.time := by simp [State.orderSto]

@[simp] theorem State.hardSto_time (s : State) (unit : Nat) : (s.hardSto unit).time = s.time := by
  rw [s.hardSto_stoFrame unit]

@[simp] theorem State.orderAsc_time (s : State) (x : Nat) : (s.orderAsc x).time = s.time := by
  unfold State.orderAsc
  split <;> simp

@[simp] theorem State.safeDecision_time (s : State) (x : Nat) : (s.safeDecision x).time = s.time := by simp [State.safeDecision]

@[simp] theorem State.safeOrder_time (s : State) (x entry : Nat) (detail : Option Nat) :
    (s.safeOrder x entry detail).time = s.time := by
  simp [State.safeOrder]

@[simp] theorem State.axFault_time (s : State) (x entry : Nat) (present : Bool) : (s.axFault x entry present).time = s.time := by
  simp [State.axFault]

@[simp] theorem State.startSs1_time (s : State) (x : Nat) : (s.startSs1 x).time = s.time := by simp [State.startSs1]
@[simp] theorem State.slsFollow_time (s : State) (x : Nat) : (s.slsFollow x).time = s.time := by simp [State.slsFollow]
@[simp] theorem State.sdiFollow_time (s : State) (x : Nat) : (s.sdiFollow x).time = s.time := rfl
@[simp] theorem State.demands_time (s : State) (x : Nat) : (s.demands x).time = s.time := by simp [State.demands]
@[simp] theorem State.allDemands_time (s : State) : s.allDemands.time = s.time := by simp [State.allDemands]

@[simp] theorem State.react_time (s : State) (x code : Nat) (detail : Option Nat) : (s.react x code detail).time = s.time := by
  unfold State.react
  split <;> simp

@[simp] theorem State.groupOrder_time (s : State) (xs : List Nat) (entry unit : Nat) (detail : Option Nat) :
    (s.groupOrder xs entry unit detail).time = s.time := by
  simp [State.groupOrder]

@[simp] theorem State.monitor_time (s : State) (xs : List Nat) (entry unit : Nat) (bad : Bool) :
    (s.monitor xs entry unit bad).time = s.time := by
  simp [State.monitor]

@[simp] theorem State.ov2Line_time (s : State) (r : Nat) : (s.ov2Line r).time = s.time := by simp [State.ov2Line]
@[simp] theorem State.dtoLine_time (s : State) (r : Nat) : (s.dtoLine r).time = s.time := rfl

/-! ### Protect -/

@[simp] theorem State.sumpEntry_time (s : State) (r : Fin 4) (on cell : Fld) (code : Nat) :
    (s.sumpEntry r on cell code).time = s.time := by
  unfold State.sumpEntry
  dsimp only
  split
  · split
    · next h => exact State.pushFifo_time h
    · simp
  · rfl

@[simp] theorem State.sumpReport_time (s : State) (r : Fin 4) (code : Nat) : (s.sumpReport r code).time = s.time := by
  simp [State.sumpReport]

@[simp] theorem State.sumpLegs_time (s : State) (r : Fin 4) : (s.sumpLegs r).time = s.time := by simp [State.sumpLegs]
@[simp] theorem State.setChop_time (s : State) (r : Fin 4) (b : Bool) : (s.setChop r b).time = s.time := by simp [State.setChop]
@[simp] theorem State.setDis_time (s : State) (r : Fin 4) (b : Bool) : (s.setDis r b).time = s.time := by simp [State.setDis]
@[simp] theorem State.sumpChop_time (s : State) (r : Fin 4) : (s.sumpChop r).time = s.time := by simp [State.sumpChop]
@[simp] theorem State.rampCheck_time (s : State) (r : Fin 4) : (s.rampCheck r).time = s.time := by simp [State.rampCheck]
@[simp] theorem State.endDis_time (s : State) (r : Fin 4) (st : Nat) : (s.endDis r st).time = s.time := by simp [State.endDis]
@[simp] theorem State.disDone_time (s : State) (r : Fin 4) : (s.disDone r).time = s.time := by simp [State.disDone]
@[simp] theorem State.startDis_time (s : State) (r : Fin 4) (src : Nat) : (s.startDis r src).time = s.time := by simp [State.startDis]

@[simp] theorem State.grottoDis_time (s : State) (r : Fin 4) : (s.grottoDis r).1.time = s.time := by
  unfold State.grottoDis
  split <;> simp

@[simp] theorem State.cmpCapture_time (s : State) (c : Fin 64) (rise : Bool) : (s.cmpCapture c rise).time = s.time := rfl

@[simp] theorem State.dozeExit_time (s : State) : s.dozeExit.time = s.time := by
  unfold State.dozeExit
  split <;> simp

@[simp] theorem State.latchRise_time (s : State) (c : Fin 64) (hil lol : Bool) : (s.latchRise c hil lol).time = s.time := by
  unfold State.latchRise
  extract_lets h l s1 s2 rt cell pay s3
  have hs2 : s2.time = s.time := by simp [s2, s1]
  have hs3 : s3.time = s.time := by
    unfold s3
    split
    · split
      · next h => exact (State.pushFifo_time h).trans hs2
      · simpa using hs2
    · exact hs2
  split
  · rfl
  · split
    · simpa using hs3
    · exact hs3

@[simp] theorem State.cmpTrip_time (s old : State) (c : Fin 64) : (s.cmpTrip old c).time = s.time := by simp [State.cmpTrip]

@[simp] theorem State.sumpEdges_time (s : State) (r : Fin 4) (ah al bh : Bool) : (s.sumpEdges r ah al bh).time = s.time := by
  simp [State.sumpEdges]

@[simp] theorem State.withSump_time {s : State} {f : State → State} (hf : s.SameTime (f s)) (r : Fin 4) :
    (s.withSump r f).time = s.time := by
  rw [State.sameTime_iff] at hf
  simp [State.withSump, hf]

@[simp] theorem State.cmpAccept_time (s : State) (c : Fin 64) (hi lo : Bool) : (s.cmpAccept c hi lo).time = s.time := by
  simp [State.cmpAccept]

@[simp] theorem State.cmpSettle_time (s : State) (c : Fin 64) : (s.cmpSettle c).time = s.time := rfl

@[simp] theorem State.writeCmpStat_time (s : State) (c : Fin 64) (v : Word) : (s.writeCmpStat c v).time = s.time := by
  simp [State.writeCmpStat]

@[simp] theorem State.cmpPstart_time (s : State) (g : Fin 32) : (s.cmpPstart g).time = s.time := by simp [State.cmpPstart]

@[simp] theorem State.firmDisch_time (s : State) (ag : Agent) (r : Fin 4) : (s.firmDisch ag r).time = s.time := by
  simp [State.firmDisch]

@[simp] theorem State.firmDstop_time (s : State) (ag : Agent) (r : Fin 4) : (s.firmDstop ag r).time = s.time := by
  simp [State.firmDstop]

@[simp] theorem State.writeSumpCtrl_time (s : State) (ag : Agent) (r : Fin 4) (v : Word) :
    (s.writeSumpCtrl ag r v).time = s.time := by
  simp [State.writeSumpCtrl]

/-! ### MachineCtl -/

@[simp] theorem State.spfAnalog_time (s : State) (x : Fin 8) (adc ch code : Nat) (overs : Bool) :
    (s.spfAnalog x adc ch code overs).time = s.time := by
  simp [State.spfAnalog]

@[simp] theorem State.spfInput_time (s : State) (x : Fin 8) : (s.spfInput x).time = s.time := by
  unfold State.spfInput
  split <;> simp

@[simp] theorem State.spfEval_time (s : State) (x : Fin 8) : (s.spfEval x).time = s.time := by simp [State.spfEval]
@[simp] theorem State.follower_time (s : State) (x : Fin 8) : (s.follower x).time = s.time := by simp [State.follower]
@[simp] theorem State.axSat_time (s : State) (x : Fin 8) (v : Int) : (s.axSat x v).time = s.time := by simp [State.axSat]

@[simp] theorem State.axCopy_time (s : State) (x : Fin 8) (adc ch code : Nat) : (s.axCopy x adc ch code).time = s.time := by
  simp [State.axCopy]

@[simp] theorem State.axLink_time (s : State) (x : Fin 8) : (s.axLink x).time = s.time := by simp [State.axLink]
@[simp] theorem State.feedForward_time (s : State) (x : Fin 8) : (s.feedForward x).time = s.time := by simp [State.feedForward]
@[simp] theorem State.shaper_time (s : State) (x : Fin 8) : (s.shaper x).time = s.time := by simp [State.shaper]
@[simp] theorem State.writeVdq_time (s : State) (x : Fin 8) (v : Word) : (s.writeVdq x v).time = s.time := rfl

@[simp] theorem State.shSplit_time (s : State) (x : Fin 8) : (s.shSplit x).time = s.time := by
  unfold State.shSplit
  dsimp only
  rw [State.setBit_time, State.setReg_time]
  exact foldl_time (fun s q => State.setReg_time ..) _ _

@[simp] theorem State.shStatus_time (s : State) (x : Fin 8) : (s.shStatus x).time = s.time := rfl
@[simp] theorem State.share_time (s : State) (x : Fin 8) : (s.share x).time = s.time := by simp [State.share]
@[simp] theorem State.writeShCmd_time (s : State) (x : Fin 8) (v : Word) : (s.writeShCmd x v).time = s.time := rfl
@[simp] theorem State.setOpp_time (s : State) (x : Fin 8) (v : Nat) : (s.setOpp x v).time = s.time := rfl
@[simp] theorem State.modOpp_time (s : State) (x : Fin 8) (f : Opp → Opp) : (s.modOpp x f).time = s.time := rfl
@[simp] theorem State.oppEmit_time (s : State) (x : Fin 8) (back : Bool) (e : OppEdge) : (s.oppEmit x back e).time = s.time := rfl

@[simp] theorem State.oppRun_time (s : State) (x : Fin 8) (back : Bool) (n left : Nat) :
    (s.oppRun x back n left).time = s.time := by
  induction n generalizing s left with
  | zero => rfl
  | succ n ih =>
    unfold State.oppRun
    split
    · rfl
    · split
      · simp
      · rw [ih]; simp
    · rw [ih]; simp
    · simp

@[simp] theorem State.player_time (s : State) (x : Fin 8) : (s.player x).time = s.time := by simp [State.player]
@[simp] theorem State.oppFault_time (s : State) (x : Fin 8) (F : Fld) : (s.oppFault x F).time = s.time := by simp [State.oppFault]

@[simp] theorem State.oppRefused_time (s : State) (x : Fin 8) (status : Nat) : (s.oppRefused x status).time = s.time := by
  simp [State.oppRefused]

@[simp] theorem State.oppDrop_time (s : State) (x : Fin 8) : (s.oppDrop x).time = s.time := rfl

@[simp] theorem State.oppArm_time (s : State) (x : Fin 8) (start : Bool) (a p : Nat) : (s.oppArm x start a p).time = s.time := by
  unfold State.oppArm
  split <;> simp

@[simp] theorem State.writeOppCtrl_time (s : State) (x : Fin 8) (v : Word) : (s.writeOppCtrl x v).time = s.time := by
  unfold State.writeOppCtrl
  split <;> simp

@[simp] theorem State.axisUpdate_time (s : State) (x : Fin 8) : (s.axisUpdate x).time = s.time := by simp [State.axisUpdate]
@[simp] theorem State.modSsx_time (s : State) (x : Fin 8) (f : Ssx → Ssx) : (s.modSsx x f).time = s.time := rfl

@[simp] theorem State.ssxEntry_time (s : State) (x : Fin 8) : (s.ssxEntry x).time = s.time := by
  unfold State.ssxEntry
  dsimp only
  split
  · next h => exact State.pushFifo_time h
  · simp

@[simp] theorem State.ssxMaskTo_time (s : State) (x : Fin 8) (m : Nat) : (s.ssxMaskTo x m).time = s.time := by simp [State.ssxMaskTo]
@[simp] theorem State.ssxGo_time (s : State) (x : Fin 8) (ph m : Nat) : (s.ssxGo x ph m).time = s.time := by simp [State.ssxGo]
@[simp] theorem State.ssxCatch_time (s : State) (x : Fin 8) : (s.ssxCatch x).time = s.time := by simp [State.ssxCatch]
@[simp] theorem State.ssxRamp_time (s : State) (x : Fin 8) : (s.ssxRamp x).time = s.time := by simp [State.ssxRamp]

@[simp] theorem State.ssxLose_time (s : State) (x : Fin 8) (cause : Nat) : (s.ssxLose x cause).time = s.time := by
  simp [State.ssxLose]

@[simp] theorem State.ssxCommute_time (s : State) (x : Fin 8) : (s.ssxCommute x).time = s.time := by simp [State.ssxCommute]

@[simp] theorem State.ssxEnterRun_time (s : State) (x : Fin 8) (m t60 zc com : Nat) :
    (s.ssxEnterRun x m t60 zc com).time = s.time := by
  simp [State.ssxEnterRun]

@[simp] theorem State.ssxCaught_time (s : State) (x : Fin 8) (k t : Nat) : (s.ssxCaught x k t).time = s.time := by
  simp only [State.ssxCaught]
  repeat' split
  all_goals simp

@[simp] theorem State.ssxCross_time (s : State) (x : Fin 8) (t : Nat) : (s.ssxCross x t).time = s.time := by
  unfold State.ssxCross
  extract_lets u t60 ratio lo hi raw new out watch zcAngle off ratioN obsN los s1
  have h1 : s1.time = s.time := by rw [State.modSsx_time, State.setReg_time]
  split
  · rw [State.ssxLose_time, h1]
  · split
    · rw [State.ssxLose_time, h1]
    · rw [State.modSsx_time, h1]

@[simp] theorem State.ssxStop_time (s : State) (x : Fin 8) : (s.ssxStop x).time = s.time := by simp [State.ssxStop]

@[simp] theorem State.writeSsxCtrl_time (s : State) (x : Fin 8) (v : Word) : (s.writeSsxCtrl x v).time = s.time := by
  simp [State.writeSsxCtrl]

@[simp] theorem State.angFall_time (s : State) (x : Fin 8) : (s.angFall x).time = s.time := by simp [State.angFall]
@[simp] theorem State.axisAbort_time (s : State) (x : Fin 8) : (s.axisAbort x).time = s.time := by simp [State.axisAbort]
@[simp] theorem State.axisResume_time (s : State) (x : Fin 8) : (s.axisResume x).time = s.time := by simp [State.axisResume]

/-! ### Sensing -/

@[simp] theorem State.modAdc_time (s : State) (j : Fin 16) (f : Adc → Adc) : (s.modAdc j f).time = s.time := rfl

@[simp] theorem State.adcDrop_time (s : State) (j : Fin 16) (notReady : Bool) : (s.adcDrop j notReady).time = s.time := by
  simp [State.adcDrop]

@[simp] theorem State.adcTrigger_time (s : State) (j : Fin 16) (at_ cls delay mask : Nat) :
    (s.adcTrigger j at_ cls delay mask).1.time = s.time := by
  simp only [State.adcTrigger]
  repeat' split
  all_goals simp

@[simp] theorem State.adcGallery_time (s : State) (j : Fin 16) (mask : Nat) : (s.adcGallery j mask).1.time = s.time := by
  simp [State.adcGallery]

@[simp] theorem State.adcPeriod_time (s : State) (g : Fin 32) (mid : Bool) (t : Nat) : (s.adcPeriod g mid t).time = s.time := by
  simp [State.adcPeriod]

@[simp] theorem State.adcStop_time (s : State) (j : Fin 16) : (s.adcStop j).time = s.time := rfl

@[simp] theorem State.adcNotify_time (s : State) (j : Fin 16) (w : Slot) : (s.adcNotify j w).time = s.time := by
  unfold State.adcNotify
  split <;> simp

@[simp] theorem State.adcLand_time (s : State) (j : Fin 16) (w : Slot) (raw : Nat) (above below : Bool) :
    (s.adcLand j w raw above below).time = s.time := by
  simp [State.adcLand]

@[simp] theorem State.adcPark_time (s : State) (j : Fin 16) : (s.adcPark j).time = s.time := rfl
@[simp] theorem State.modDsm_time (s : State) (i : Fin 32) (f : Dsm → Dsm) : (s.modDsm i f).time = s.time := rfl

@[simp] theorem State.dsmOut_time (s : State) (i : Fin 32) (sum : Int) : (s.dsmOut i sum).time = s.time := by
  unfold State.dsmOut
  dsimp only
  split
  · split
    · next h => exact (State.pushFifo_time h).trans (by simp)
    · simp
  · simp

@[simp] theorem State.dsmBit_time (s : State) (i : Fin 32) (b : Bool) : (s.dsmBit i b).time = s.time := by
  simp only [State.dsmBit]
  repeat' split
  all_goals simp

@[simp] theorem State.dsmBits_time (s : State) (i : Fin 32) (l : List Bool) : (s.dsmBits i l).time = s.time := by simp [State.dsmBits]

@[simp] theorem State.writeDsmCtrl_time (s : State) (i : Fin 32) (v : Word) : (s.writeDsmCtrl i v).time = s.time := by
  simp [State.writeDsmCtrl]

@[simp] theorem State.dsmPstart_time (s : State) (g : Fin 32) : (s.dsmPstart g).time = s.time := by simp [State.dsmPstart]
@[simp] theorem State.senseResume_time (s : State) : s.senseResume.time = s.time := rfl
@[simp] theorem State.pstart_time (s : State) (g : Fin 32) (t : Nat) : (s.pstart g t).time = s.time := by simp [State.pstart]

/-! ### Position -/

@[simp] theorem State.posHealth_time (s : State) (k : Fin 16) : (s.posHealth k).time = s.time := rfl

@[simp] theorem State.posFault_time (s : State) (k : Fin 16) (cause : Nat) (loss : Bool) :
    (s.posFault k cause loss).time = s.time := by
  simp [State.posFault]

@[simp] theorem State.posClear_time (s : State) (k : Fin 16) (cause : Nat) : (s.posClear k cause).time = s.time := rfl

@[simp] theorem State.cmpOut_time (s : State) (k : Fin 16) (one tog : Bool) : (s.cmpOut k one tog).time = s.time := by
  simp [State.cmpOut]

@[simp] theorem State.cmpEffect_time (s : State) (k : Fin 16) (i : Nat) : (s.cmpEffect k i).time = s.time := by
  unfold State.cmpEffect
  dsimp only
  split
  · split
    · next h => exact (State.pushFifo_time h).trans (by simp)
    · simp
  · simp

@[simp] theorem State.cmpNext_time (s : State) (k : Fin 16) : (s.cmpNext k).time = s.time := by simp [State.cmpNext]

@[simp] theorem State.cmpRun_time (s : State) (k : Fin 16) (c0 c1 n : Nat) : (s.cmpRun k c0 c1 n).time = s.time := by
  induction n generalizing s with
  | zero => rfl
  | succ n ih =>
    unfold State.cmpRun
    extract_lets i pos back reached s1 s2
    split
    · rfl
    · split
      · rfl
      · rw [ih]; simp [s2, s1]

@[simp] theorem State.cmpFire_time (s : State) (k : Fin 16) (c0 : Nat) : (s.cmpFire k c0).time = s.time := by simp [State.cmpFire]
@[simp] theorem State.divStep_time (s : State) (k : Fin 16) (d : Int) : (s.divStep k d).time = s.time := by simp [State.divStep]
@[simp] theorem State.cntBy_time (s : State) (k : Fin 16) (d : Int) : (s.cntBy k d).time = s.time := by simp [State.cntBy]
@[simp] theorem State.posStep_time (s : State) (k : Fin 16) (d0 : Int) : (s.posStep k d0).time = s.time := by simp [State.posStep]
@[simp] theorem State.freshen_time (s : State) (k : Fin 16) (v t : Nat) : (s.freshen k v t).time = s.time := rfl

@[simp] theorem State.sinCosStep_time (s : State) (k : Fin 16) (a t : Nat) : (s.sinCosStep k a t).time = s.time := by
  unfold State.sinCosStep
  split <;> simp

@[simp] theorem State.sinCos_time (s : State) (k : Fin 16) (sn cs : Int) (t : Nat) : (s.sinCos k sn cs t).time = s.time := by
  simp [State.sinCos]

@[simp] theorem State.excCheck_time (s : State) (k : Fin 16) : (s.excCheck k).time = s.time := by simp [State.excCheck]

@[simp] theorem State.hallSector_time (s : State) (k : Fin 16) (c : Nat) : (s.hallSector k c).time = s.time := by
  unfold State.hallSector
  split <;> simp

@[simp] theorem State.posArm_time (s : State) (k : Fin 16) : (s.posArm k).time = s.time := by simp [State.posArm]
@[simp] theorem State.posSet_time (s : State) (k : Fin 16) : (s.posSet k).time = s.time := by simp [State.posSet]

@[simp] theorem State.writePosCmd_time (s : State) (k : Fin 16) (v : Word) : (s.writePosCmd k v).time = s.time := by
  simp [State.writePosCmd]

@[simp] theorem State.posAbort_time (s : State) (k : Fin 16) : (s.posAbort k).time = s.time := rfl
@[simp] theorem State.posResume_time (s : State) (k : Fin 16) : (s.posResume k).time = s.time := by simp [State.posResume]

/-! ### SafetySet -/

@[simp] theorem State.tryInit_time (s : State) : s.tryInit.time = s.time := by simp [State.tryInit]
@[simp] theorem State.pairsRestart_time (s : State) : s.pairsRestart.time = s.time := by simp [State.pairsRestart]

@[simp] theorem State.takeSet_time (s : State) : s.takeSet.time = s.time := by
  unfold State.takeSet
  extract_lets s0 s1 s2 s3
  have h1 : s1.time = s.time := foldl_time (fun s k => State.orderBr_time ..) _ _
  have h3 : s3.time = s2.time := foldl_time (fun s k => State.setBit_time ..) _ _
  rw [State.tryInit_time, State.allDemands_time, State.setFld_time, h3, State.pairsRestart_time, h1]

@[simp] theorem State.ccvFault_time (s : State) : s.ccvFault.time = s.time := by simp [State.ccvFault]

/-! ### SafeInputs -/

@[simp] theorem State.modPair_time (s : State) (k : Nat) (f : Pair → Pair) : (s.modPair k f).time = s.time := rfl
@[simp] theorem State.pairEnter_time (s : State) (k v : Nat) : (s.pairEnter k v).time = s.time := by simp [State.pairEnter]
@[simp] theorem State.pairFault_time (s : State) (k detail : Nat) : (s.pairFault k detail).time = s.time := by simp [State.pairFault]
@[simp] theorem State.twoHand_time (s : State) (k : Nat) : (s.twoHand k).time = s.time := by simp [State.twoHand]

@[simp] theorem State.pairEval_time (s : State) (k : Nat) : (s.pairEval k).time = s.time := by
  unfold State.pairEval
  split
  · rfl
  · extract_lets p a b s1 late s2
    have h1 : s1.time = s.time := State.modPair_time ..
    have h2 : s2.time = s.time := by
      unfold s2
      split_ifs
      · rw [State.pairFault_time, h1]
      · rw [State.pairFault_time, h1]
      · rw [State.pairEnter_time, h1]
      · rw [State.pairEnter_time, h1]
      · split
        · split
          · rw [State.pairEnter_time, h1]
          · exact h1
        · exact h1
      · exact h1
    rw [State.twoHand_time, h2]

@[simp] theorem State.pairsEval_time (s : State) : s.pairsEval.time = s.time := by simp [State.pairsEval]

/-! ### ColumnHalt -/

@[simp] theorem State.columnDown_time (s : State) (i : Fin 6) : (s.columnDown i).time = s.time := by simp [State.columnDown]

@[simp] theorem State.columnHalt_time (s : State) (i : Fin 6) (cause : Nat) : (s.columnHalt i cause).time = s.time := by
  simp [State.columnHalt]

@[simp] theorem State.columnStop_time (s : State) (i : Fin 6) : (s.columnStop i).time = s.time := by simp [State.columnStop]

/-! ### Cells -/

@[simp] theorem State.groupsPattern_time (s : State) (c : Fin 128) (hold : Bool) : (s.groupsPattern c hold).time = s.time := by
  simp [State.groupsPattern]

@[simp] theorem State.holdCycle_time (s : State) (c : Fin 128) : (s.holdCycle c).time = s.time := rfl

@[simp] theorem State.copyImage_time (s : State) (b : Nat) (im : Nat × Nat) (dst : Nat) : (s.copyImage b im dst).time = s.time := by
  simp [State.copyImage]

@[simp] theorem State.loadCell_time (s : State) (c p : Fin 128) : (s.loadCell c p).2.time = s.time := by
  simp only [State.loadCell]
  repeat' split
  all_goals simp

@[simp] theorem State.setFlow_time (s : State) (c : Fin 128) (r i : Nat) (v : Half) : (s.setFlow c r i v).time = s.time := rfl
@[simp] theorem State.setGen_time (s : State) (c : Fin 128) (g : Nat) : (s.setGen c g).time = s.time := rfl

@[simp] theorem State.stopNow_time (s : State) (c : Fin 128) : (s.stopNow c).time = s.time := by
  unfold State.stopNow
  repeat' split
  all_goals simp

@[simp] theorem State.stopCell_time (s : State) (c : Fin 128) : (s.stopCell c).time = s.time := by
  unfold State.stopCell
  split <;> simp

@[simp] theorem State.recordFault_time (s : State) (c : Fin 128) (cause : Nat) : (s.recordFault c cause).time = s.time := by
  simp [State.recordFault]

@[simp] theorem State.startFails_time (s : State) (c p : Fin 128) (q : Option (Fin 128)) (a : Nat) :
    (s.startFails c p q a).time = s.time := by
  unfold State.startFails
  split <;> simp

@[simp] theorem State.startRuns_time (s : State) (c p : Fin 128) (entry : Nat) (stop : Bool) :
    (s.startRuns c p entry stop).time = s.time := by
  simp only [State.startRuns]
  repeat' split
  all_goals simp

@[simp] theorem State.startRest_time (s : State) (ag : Agent) (c p : Fin 128) (load : Bool) (entry : Nat) (stop : Bool) :
    (s.startRest ag c p load entry stop).time = s.time := by
  simp only [State.startRest]
  repeat' split
  all_goals simp

@[simp] theorem State.startCell_time (s : State) (ag : Agent) (c : Fin 128) (load : Bool) (entry : Nat) :
    (s.startCell ag c load entry).time = s.time := by
  simp only [State.startCell]
  repeat' split
  all_goals simp

@[simp] theorem State.writeCellCtrl_time (s : State) (ag : Agent) (c : Fin 128) (v : Word) :
    (s.writeCellCtrl ag c v).time = s.time := by
  unfold State.writeCellCtrl
  split <;> simp

@[simp] theorem State.writeCellBind_time (s : State) (ag : Agent) (c : Fin 128) (v : Word) :
    (s.writeCellBind ag c v).time = s.time := by
  simp [State.writeCellBind]

@[simp] theorem State.isolate_time (s : State) (c p : Fin 128) : (s.isolate c p).time = s.time := rfl
@[simp] theorem State.takeSpare_time (s : State) (p l : Fin 128) : (s.takeSpare p l).time = s.time := rfl

@[simp] theorem State.migEnds_time (s : State) (c : Fin 128) (status cause failed : Nat) (spare gen : Option Nat) (cold : Bool)
    (since : Nat) (ns : Word) :
    (s.migEnds c status cause failed spare gen cold since ns).time = s.time := by
  simp [State.migEnds]

@[simp] theorem State.migFails_time (s : State) (c : Fin 128) (status cause failed : Nat) (spare : Option Nat) (since : Nat) (ns : Word) :
    (s.migFails c status cause failed spare since ns).time = s.time := by
  simp [State.migFails]

@[simp] theorem State.rebound_time (s : State) (c : Fin 128) : (s.rebound c).time = s.time := rfl

@[simp] theorem State.migChoose_time (s : State) (c : Fin 128) (twin : Bool) (failed cause since : Nat) (ns : Word) (again stop : Bool) :
    (s.migChoose c twin failed cause since ns again stop).time = s.time := by
  unfold State.migChoose
  repeat' split
  all_goals simp

@[simp] theorem State.migStart_time (s : State) (c : Fin 128) (cause : Nat) : (s.migStart c cause).time = s.time := by
  simp only [State.migStart]
  repeat' split
  all_goals simp

@[simp] theorem State.faultStop_time (s : State) (c : Fin 128) : (s.faultStop c).time = s.time := by
  unfold State.faultStop
  repeat' split
  all_goals simp

@[simp] theorem State.cellFault_time (s : State) (c : Fin 128) (cause : Nat) : (s.cellFault c cause).time = s.time := by
  unfold State.cellFault
  repeat' split
  all_goals simp

@[simp] theorem State.cellMask_time (s : State) (c q : Fin 128) (cause : Nat) : (s.cellMask c q cause).time = s.time := by
  unfold State.cellMask
  split <;> simp

@[simp] theorem State.cellEcc_time (s : State) (q : Fin 128) : (s.cellEcc q).time = s.time := by
  unfold State.cellEcc
  split <;> simp

@[simp] theorem State.restoreData_time (s : State) (c p : Fin 128) (r : Nat) : (s.restoreData c p r).time = s.time := by
  simp [State.restoreData]

@[simp] theorem State.resumeOn_time (s : State) (c p : Fin 128) (r : Option Nat) : (s.resumeOn c p r).time = s.time := by
  unfold State.resumeOn
  split <;> simp

@[simp] theorem State.writeRelease_time (s : State) (b : Fin 16) (mask : Nat) : (s.writeRelease b mask).time = s.time := by
  unfold State.writeRelease
  refine foldl_time (fun s p => ?_) _ _
  dsimp only
  split
  · split <;> simp
  · rfl

@[simp] theorem State.kick_time (s : State) (c : Fin 128) : (s.kick c).time = s.time := rfl

@[simp] theorem State.abortCell_time (s : State) (c : Fin 128) : (s.abortCell c).time = s.time := by
  simp only [State.abortCell]
  repeat' split
  all_goals simp

/-! ### Thermal -/

@[simp] theorem State.judgeSensors_time (s0 s : State) (t : Nat → Int) : (s0.judgeSensors s t).time = s.time := by
  unfold State.judgeSensors
  refine foldl_time (fun s k => ?_) _ _
  split
  · rfl
  · extract_lets off n s1
    rw [State.sameTime_iff]
    split
    · rw [State.flag_time]
    · rfl

@[simp] theorem State.thermHalt_time (s : State) : s.thermHalt.time = s.time := by simp [State.thermHalt]

@[simp] theorem State.dieDecision_time (s : State) (unit : Nat) : (s.dieDecision unit).time = s.time := by
  unfold State.dieDecision
  rw [State.setBit_time, State.groupOrder_time, State.gCause_time]

@[simp] theorem State.dieSs1_time (s : State) (unit : Nat) : (s.dieSs1 unit).time = s.time := by simp [State.dieSs1]
@[simp] theorem State.dieSto_time (s : State) (unit : Nat) : (s.dieSto unit).time = s.time := by simp [State.dieSto]

@[simp] theorem State.dieReact_time (s : State) (was155 : Bool) (hot : Nat) : (s.dieReact was155 hot).time = s.time := by
  simp [State.dieReact]

@[simp] theorem State.dieStep_time (s : State) : s.dieStep.time = s.time := by simp [State.dieStep]

@[simp] theorem State.writeService_time (s : State) (ag : Agent) (v : Word) :
    (s.writeService ag v).time = s.time := by
  simp [State.writeService]

@[simp] theorem State.grottoTemp_time (s : State) (t0 t1 : Half) : (s.grottoTemp t0 t1).time = s.time := by simp [State.grottoTemp]
@[simp] theorem State.modLan_time (s : State) (r : Fin 4) (f : Lantern → Lantern) : (s.modLan r f).time = s.time := rfl

@[simp] theorem State.lanTerm_time (s : State) (r : Fin 4) (l dev : Nat) (p : Int) (k : Nat) :
    (s.lanTerm r l dev p k).1.time = s.time := by
  simp only [State.lanTerm]
  repeat' split
  all_goals simp

@[simp] theorem State.lanDevice_time (s : State) (r : Fin 4) (l dev : Nat) (p tref : Int) :
    (s.lanDevice r l dev p tref).1.time = s.time := by
  unfold State.lanDevice
  extract_lets step
  have hstep (acc : State × Int) (k : Nat) : (step acc k).1.time = acc.1.time := by simp [step]
  have hfold (ks : List Nat) (acc : State × Int) : (ks.foldl step acc).1.time = acc.1.time := by
    induction ks generalizing acc with
    | nil => rfl
    | cons k ks ih => rw [List.foldl_cons, ih, hstep]
  dsimp only
  split
  · rw [State.used_time, hfold]
  · rw [hfold]

@[simp] theorem State.lanEvent_time (s : State) (r : Fin 4) (q code t : Nat) : (s.lanEvent r q code t).time = s.time := by
  simp [State.lanEvent]

@[simp] theorem State.lanLeg_time (s : State) (r : Fin 4) (base l : Nat) : (s.lanLeg r base l).time = s.time := by simp [State.lanLeg]
@[simp] theorem State.lanLimit_time (s : State) (r : Fin 4) (q n : Nat) : (s.lanLimit r q n).time = s.time := rfl

@[simp] theorem State.lanBridge_time (s : State) (r : Fin 4) (q : Nat) : (s.lanBridge r q).time = s.time := by
  unfold State.lanBridge
  split <;> simp

@[simp] theorem State.lanFresh_time (s : State) (r : Fin 4) : (s.lanFresh r).time = s.time := rfl
@[simp] theorem State.lanTick_time (s : State) (r : Fin 4) : (s.lanTick r).time = s.time := by simp [State.lanTick]
@[simp] theorem State.lanAbort_time (s : State) (r : Nat) : (s.lanAbort r).time = s.time := rfl

/-! ### Grotto -/

@[simp] theorem State.beatFault_time (s : State) (c : Nat) : (s.beatFault c).time = s.time := by
  unfold State.beatFault
  split <;> simp

@[simp] theorem State.heartbeat_time (s : State) (c token ns : Nat) : (s.heartbeat c token ns).time = s.time := by
  unfold State.heartbeat
  repeat' split
  all_goals simp

@[simp] theorem State.modTap_time (s : State) (k : Fin 16) (f : Tap → Tap) : (s.modTap k f).time = s.time := rfl
@[simp] theorem State.tmFall_time (s : State) (x : Nat) : (s.tmFall x).time = s.time := by simp [State.tmFall]
@[simp] theorem State.tapFault_time (s : State) (k : Fin 16) : (s.tapFault k).time = s.time := by simp [State.tapFault]

@[simp] theorem State.tapAxis_time (s : State) (k : Fin 16) (x : Nat) : (s.tapAxis k x).time = s.time := by
  simp only [State.tapAxis]
  repeat' split
  all_goals simp

@[simp] theorem State.tapMove_time (s : State) (k : Fin 16) (a : Nat) (pz both : Bool) : (s.tapMove k a pz both).time = s.time := by
  simp [State.tapMove]

@[simp] theorem State.showEnv_time (s : State) (x : Nat) : (s.showEnv x).time = s.time := rfl

@[simp] theorem State.torqueCheck_time (s : State) (x : Nat) (ia ib : Int) : (s.torqueCheck x ia ib).time = s.time := by
  simp [State.torqueCheck]

@[simp] theorem State.agreement_time (s : State) (x : Nat) (ar br ap bp : Int) : (s.agreement x ar br ap bp).time = s.time := by
  simp [State.agreement]

@[simp] theorem State.ov2Confirm_time (s : State) (x : Nat) (vdc : Int) : (s.ov2Confirm x vdc).time = s.time := by
  unfold State.ov2Confirm
  extract_lets s1
  have hs1 : s1.time = s.time := by simp [s1]
  split
  · rfl
  · split
    · rw [State.used_time, hs1]
    · rw [State.gLog_time, State.used_time, hs1]

@[simp] theorem State.ss1Frame_time (s : State) (x : Nat) : (s.ss1Frame x).time = s.time := by
  unfold State.ss1Frame
  split <;> simp

@[simp] theorem State.sdiMove_time (s : State) (x : Nat) : (s.sdiMove x).time = s.time := by simp [State.sdiMove]
@[simp] theorem State.monitorFrame_time (s : State) (x : Nat) : (s.monitorFrame x).time = s.time := by simp [State.monitorFrame]
@[simp] theorem State.ascFrame_time (s : State) (x : Nat) : (s.ascFrame x).time = s.time := by simp [State.ascFrame]
@[simp] theorem State.askDischarge_time (s : State) (r : Fin 4) : (s.askDischarge r).time = s.time := by simp [State.askDischarge]

/-! ### XLinks -/

@[simp] theorem State.modXl_time (s : State) (k : Fin 4) (f : XLink → XLink) : (s.modXl k f).time = s.time := rfl
@[simp] theorem State.xlEnv_time (s : State) (k : Fin 4) (f : List Byte) : (s.xlEnv k f).time = s.time := by simp [State.xlEnv]
@[simp] theorem State.xlPeer_time (s : State) (k : Fin 4) (f : List Byte) : (s.xlPeer k f).time = s.time := by simp [State.xlPeer]

/-! ### Echo -/

@[simp] theorem State.modEp_time (s : State) (k : Nat) (f : EPort → EPort) : (s.modEp k f).time = s.time := rfl

@[simp] theorem State.setSeg_time (s : State) (m i : Nat) (broken : Bool) : (s.setSeg m i broken).time = s.time := by
  simp [State.setSeg]

@[simp] theorem State.modSend_time (s : State) (b eseq : Nat) (f : ESend → ESend) : (s.modSend b eseq f).time = s.time := rfl

@[simp] theorem State.echoOutcome_time (s : State) (b eseq status mask : Nat) :
    (s.echoOutcome b eseq status mask).time = s.time := by
  unfold State.echoOutcome
  dsimp only
  split
  · rfl
  · split
    · rfl
    · split
      · next h => exact State.ringPush_time h
      · simp

@[simp] theorem State.echoRetire_time (s : State) (b fuel : Nat) : (s.echoRetire b fuel).time = s.time := by
  induction fuel generalizing s with
  | zero => rfl
  | succ fuel ih =>
    unfold State.echoRetire
    split
    · split
      · rw [ih]; simp
      · rfl
    · rfl

@[simp] theorem State.echoReport_time (s : State) (b eseq : Nat) (event : Option (Nat × Nat)) (status mask : Nat) :
    (s.echoReport b eseq event status mask).time = s.time := by
  unfold State.echoReport
  repeat' split
  all_goals simp

@[simp] theorem State.echoFinish_time (s : State) (x : ESend) : (s.echoFinish x).time = s.time := by simp [State.echoFinish]

@[simp] theorem State.echoDecide_time (s : State) (b eseq u status : Nat) : (s.echoDecide b eseq u status).time = s.time := by
  unfold State.echoDecide
  split <;> simp

@[simp] theorem State.echoAwait_time (s : State) (b eseq u k : Nat) : (s.echoAwait b eseq u k).time = s.time := rfl

theorem State.place_queued_time {s t : State} {k k' : Nat} {f : EFrame} (h : s.place k f = .queued t k') : t.time = s.time := by
  unfold State.place at h
  dsimp only at h
  split at h
  · split at h <;> cases h; simp
  · split at h
    · split at h <;> cases h; simp
    · cases h

theorem State.place_full_time {s t : State} {k : Nat} {f : EFrame} (h : s.place k f = .full t) : t.time = s.time := by
  unfold State.place at h
  dsimp only at h
  split at h
  · split at h <;> cases h; simp
  · split at h
    · split at h <;> cases h; simp
    · cases h

@[simp] theorem State.sendAck_time (s : State) (m : Nat) (f : EFrame) (status : Nat) :
    (s.sendAck m f status).time = s.time := by
  unfold State.sendAck
  dsimp only
  split
  · rfl
  · split
    · next h => exact State.place_queued_time h
    · next h => exact State.place_full_time h
    · simp

@[simp] theorem State.noRoute_time (s : State) (k : Nat) (f : EFrame) : (s.noRoute k f).time = s.time := by simp [State.noRoute]

@[simp] theorem State.onward_time (s : State) (k : Nat) (f : EFrame) : (s.onward k f).time = s.time := by
  unfold State.onward
  split
  · next h => exact State.place_queued_time h
  · next h => exact State.place_full_time h
  · simp

@[simp] theorem State.forward_time (s : State) (k : Nat) (f : EFrame) : (s.forward k f).time = s.time := by
  simp only [State.forward]
  repeat' split
  all_goals simp

@[simp] theorem State.sendOwn_time (s : State) (m : Nat) (f : EFrame) (b eseq u : Nat) :
    (s.sendOwn m f b eseq u).time = s.time := by
  unfold State.sendOwn
  split
  · simp
  · split
    · next h => exact State.place_queued_time h
    · next h => simpa using State.place_full_time h
    · simp

@[simp] theorem State.echoEndNow_time (s : State) (b n idx : Nat) (event : Option (Nat × Nat)) (status : Nat) :
    (s.echoEndNow b n idx event status).time = s.time := by
  simp [State.echoEndNow]

@[simp] theorem State.echoEntry_time (s : State) (b : Nat) (event : Option (Nat × Nat)) :
    (s.echoEntry b event).time = s.time := by
  simp [State.echoEntry]

@[simp] theorem State.echoDrain_time (s : State) (b fuel : Nat) : (s.echoDrain b fuel).time = s.time := by
  induction fuel generalizing s with
  | zero => rfl
  | succ fuel ih =>
    unfold State.echoDrain
    dsimp only
    split
    · rfl
    · split
      · simp
      · rw [ih]; simp

@[simp] theorem State.echoAuto_time (s : State) (n : Nat) : (s.echoAuto n).time = s.time := by
  unfold State.echoAuto
  split <;> simp

@[simp] theorem State.writeRingIdxTx_time (s : State) (n : Nat) (v : Word) :
    (s.writeRingIdxTx n v).time = s.time := by
  simp [State.writeRingIdxTx]

theorem State.echoSend_time {s t : State} {n : Nat} {event : Nat × Nat} {st : Option Nat} (h : s.echoSend n event = some (t, st)) :
    t.time = s.time := by
  unfold State.echoSend at h
  split at h
  · cases h; rfl
  · split at h <;> cases h
    simp

@[simp] theorem State.rxFrame_time (s : State) (k : Nat) (l : List Byte) (bad : Bool) : (s.rxFrame k l bad).1.time = s.time := by
  simp only [State.rxFrame]
  repeat' split
  all_goals simp

@[simp] theorem State.consume_time (s : State) (m : Nat) (f : EFrame) (ns : Word) (eccBad : Bool) :
    (s.consume m f ns eccBad).1.time = s.time := by
  unfold State.consume
  extract_lets n body
  split_ifs
  · rfl
  · rfl
  · rfl
  · rfl
  · split
    · next h => exact State.ringPush_time h
    · rfl

@[simp] theorem State.takeAck_time (s : State) (f : EFrame) : (s.takeAck f).time = s.time := by
  unfold State.takeAck
  repeat' split
  all_goals simp

@[simp] theorem State.putLine_time (s : State) (k : Nat) (f : ELine) : (s.putLine k f).time = s.time := rfl

@[simp] theorem State.frameLeft_time (s : State) (k : Nat) (f : EFrame) : (s.frameLeft k f).time = s.time := by
  unfold State.frameLeft
  split <;> simp

@[simp] theorem State.turnBack_time (s : State) (k : Nat) : (s.turnBack k).time = s.time := by
  unfold State.turnBack
  refine (foldl_time (fun s f => ?_) _ _).trans (State.modEp_time ..)
  rw [State.sameTime_iff]
  split
  · next h => exact State.place_queued_time h
  · next h =>
    split
    · simpa using State.place_full_time h
    · exact State.place_full_time h
  · split <;> simp

@[simp] theorem State.portDown_time (s : State) (k : Nat) : (s.portDown k).time = s.time := by simp [State.portDown]

@[simp] theorem State.writeEchoCfg_time (s : State) (k : Nat) (v : Word) : (s.writeEchoCfg k v).time = s.time := by
  simp [State.writeEchoCfg]

@[simp] theorem State.ringNews_time (s : State) (k : Nat) (l : List Byte) (seg : Nat) (broken : Bool) :
    (s.ringNews k l seg broken).time = s.time := by
  simp [State.ringNews]

@[simp] theorem State.ttResult_timeAt {s : State} (h : TimeAt now s.time) (k : Nat) (t1 t2 t3 t4 : Int) :
    TimeAt now (s.ttResult k t1 t2 t3 t4).time := by
  unfold State.ttResult
  extract_lets a o d s1
  have h1 : TimeAt now s1.time := by simpa [s1] using h
  split
  · exact State.offerSample_timeAt h1 o
  · exact h1

@[simp] theorem State.echoAbort_time (s : State) (k : Nat) (mine : Nat → Bool) : (s.echoAbort k mine).time = s.time := by
  simp [State.echoAbort]

@[simp] theorem State.echoPark_time (s : State) : s.echoPark.time = s.time := by simp [State.echoPark]
@[simp] theorem State.echoUnpark_time (s : State) : s.echoUnpark.time = s.time := rfl

/-! ### Ethernet -/

@[simp] theorem State.modMac_time (s : State) (k : Fin 4) (f : EMac → EMac) : (s.modMac k f).time = s.time := rfl

/-- An entry that may not find room leaves TIME in either case. -/
@[simp] theorem State.ringPush_getD_time (s : State) (n : Nat) (body : List Word) (status kind info : Nat) :
    ((s.ringPush n body status kind info).getD s).time = s.time := by
  cases h : s.ringPush n body status kind info with
  | none => rfl
  | some t => exact State.ringPush_time h

@[simp] theorem State.putPieces_time (s : State) (n : Nat) (head : List Word) (l : List (List Byte)) :
    (s.putPieces n head l).time = s.time := by
  induction l generalizing s head with
  | nil => rfl
  | cons p rest ih => rw [State.putPieces, ih, State.ringPush_getD_time]

@[simp] theorem State.ethStore_time (s : State) (k : Fin 4) (l : List Byte) (t : Nat) : (s.ethStore k l t).time = s.time := by
  simp [State.ethStore]

@[simp] theorem State.ethOutcome_time (s : State) (k : Fin 4) (q idx status t : Nat) :
    (s.ethOutcome k q idx status t).time = s.time := by
  unfold State.ethOutcome
  extract_lets c
  split
  · exact State.ringPush_getD_time ..
  · rfl

@[simp] theorem State.ethPass_time (s : State) (n count : Nat) : (s.ethPass n count).time = s.time := by simp [State.ethPass]

@[simp] theorem State.ethSend_time (s : State) (k : Fin 4) (q lead : Nat) : (s.ethSend k q lead).time = s.time := by
  unfold State.ethSend
  split <;> simp

@[simp] theorem State.writeMdio_time (s : State) (v : Word) : (s.writeMdio v).time = s.time := by simp [State.writeMdio]

@[simp] theorem State.writeEthCfg_time (s : State) (k : Nat) (v : Word) : (s.writeEthCfg k v).time = s.time := by
  simp [State.writeEthCfg]

@[simp] theorem State.ethPark_time (s : State) : s.ethPark.time = s.time := by simp [State.ethPark]

/-! ### Can -/

@[simp] theorem State.modCan_time (s : State) (k : Fin 8) (f : CanCtl → CanCtl) : (s.modCan k f).time = s.time := rfl
@[simp] theorem State.canLost_time (s : State) (k : Fin 8) : (s.canLost k).time = s.time := rfl

@[simp] theorem State.canReceive_time (s : State) (k : Fin 8) (f : CanFrame) (sof : Word) :
    (s.canReceive k f sof).time = s.time := by
  unfold State.canReceive
  split
  · simp
  · extract_lets n len data w0 w1
    split
    · simp
    · split
      · next h => simpa using State.ringPush_time h
      · simp

@[simp] theorem State.txbEnd_time (s : State) (k : Fin 8) (b status : Nat) : (s.txbEnd k b status).time = s.time := rfl

@[simp] theorem State.canEndAll_time (s : State) (k : Fin 8) (status : Nat) : (s.canEndAll k status).time = s.time := by
  simp [State.canEndAll]

@[simp] theorem State.canConfine_time (s : State) (k : Fin 8) (tec : Nat) : (s.canConfine k tec).time = s.time := by
  simp [State.canConfine]

@[simp] theorem State.canGood_time (s : State) (k : Fin 8) : (s.canGood k).time = s.time := by simp [State.canGood]

@[simp] theorem State.writeTxbCtl_time (s : State) (ag : Agent) (k : Fin 8) (b : Nat) (v : Word) :
    (s.writeTxbCtl ag k b v).time = s.time := by
  simp only [State.writeTxbCtl]
  repeat' split
  all_goals simp

@[simp] theorem State.writeCanCtrl_time (s : State) (k : Fin 8) (v : Word) : (s.writeCanCtrl k v).time = s.time := by
  simp [State.writeCanCtrl]

@[simp] theorem State.canClear_time (s : State) (k : Fin 8) : (s.canClear k).time = s.time := rfl
@[simp] theorem State.canPark_time (s : State) : s.canPark.time = s.time := by simp [State.canPark]
@[simp] theorem State.canUnpark_time (s : State) : s.canUnpark.time = s.time := by simp [State.canUnpark]

/-! ### Serial -/

@[simp] theorem State.modSpi_time (s : State) (k : Fin 4) (f : SpiCtl → SpiCtl) : (s.modSpi k f).time = s.time := rfl
@[simp] theorem State.spiCs_time (s : State) (k : Fin 4) : (s.spiCs k).time = s.time := by simp [State.spiCs]

@[simp] theorem State.writeSpiTxd_time (s : State) (k : Fin 4) (v : Word) : (s.writeSpiTxd k v).time = s.time := by
  simp [State.writeSpiTxd]

@[simp] theorem State.readSpiRxd_time (s : State) (k : Fin 4) : (s.readSpiRxd k).1.time = s.time := by
  unfold State.readSpiRxd
  split <;> simp

@[simp] theorem State.spiTerr_time (s : State) : s.spiTerr.time = s.time := rfl

@[simp] theorem State.spiWriteWords_time (s : State) (off : Nat) (l : List Word) : (s.spiWriteWords off l).time = s.time := by
  induction l generalizing s off with
  | nil => rfl
  | cons w l ih =>
    rw [State.spiWriteWords, ih]
    split <;> simp

@[simp] theorem State.spiReadWords_time (s : State) (off n : Nat) : (s.spiReadWords off n).1.time = s.time := by
  induction n generalizing s off with
  | zero => rfl
  | succ n ih =>
    unfold State.spiReadWords
    dsimp only
    rw [ih]
    split
    · split <;> simp
    · simp

@[simp] theorem State.writeXspiCmd_time (s : State) (v : Word) : (s.writeXspiCmd v).time = s.time := by simp [State.writeXspiCmd]
@[simp] theorem State.xspiEnd_time (s : State) (status : Nat) : (s.xspiEnd status).time = s.time := rfl
@[simp] theorem State.writeXspiData_time (s : State) (v : Word) : (s.writeXspiData v).time = s.time := by simp [State.writeXspiData]
@[simp] theorem State.readXspiData_time (s : State) : s.readXspiData.1.time = s.time := rfl
@[simp] theorem State.modUart_time (s : State) (k : Fin 2) (f : UartCtl → UartCtl) : (s.modUart k f).time = s.time := rfl

@[simp] theorem State.writeUartTxd_time (s : State) (k : Fin 2) (v : Word) : (s.writeUartTxd k v).time = s.time := by
  simp [State.writeUartTxd]

@[simp] theorem State.readUartRxd_time (s : State) (k : Fin 2) : (s.readUartRxd k).1.time = s.time := by
  unfold State.readUartRxd
  split <;> simp

@[simp] theorem State.modI2c_time (s : State) (k : Fin 2) (f : I2cCtl → I2cCtl) : (s.modI2c k f).time = s.time := rfl

@[simp] theorem State.writeI2cCmd_time (s : State) (ag : Agent) (k : Fin 2) (v : Word) :
    (s.writeI2cCmd ag k v).time = s.time := by
  simp [State.writeI2cCmd]

@[simp] theorem State.i2cEnd_time (s : State) (k : Fin 2) (F : Fld) (held : Bool) : (s.i2cEnd k F held).time = s.time := rfl

@[simp] theorem State.gpioWrite_time {s : State} {act : State → Word → Word → State}
    (hact : ∀ a b, s.SameTime (act s a b)) (ag : Agent)
    (f : RegFam) (two : Bool) (v : Word) : (s.gpioWrite ag f two v act).time = s.time := by
  simp only [State.sameTime_iff] at hact
  simp [State.gpioWrite, hact]

@[simp] theorem State.cancelPulse_time (s : State) (mask : Word) : (s.cancelPulse mask).time = s.time := rfl
@[simp] theorem State.setPins_time (s : State) (mask v : Word) : (s.setPins mask v).time = s.time := rfl

@[simp] theorem State.pinAction_time (s : State) (n op width : Nat) : (s.pinAction n op width).time = s.time := by
  unfold State.pinAction
  split <;> simp

@[simp] theorem State.gpioUnpark_time (s : State) (levels : BitVec 16) : (s.gpioUnpark levels).time = s.time := rfl
@[simp] theorem State.spiAbort_time (s : State) (k : Fin 4) : (s.spiAbort k).time = s.time := rfl
@[simp] theorem State.xspiAbort_time (s : State) : s.xspiAbort.time = s.time := by simp [State.xspiAbort]
@[simp] theorem State.uartAbort_time (s : State) (k : Fin 2) : (s.uartAbort k).time = s.time := rfl
@[simp] theorem State.i2cAbort_time (s : State) (k : Fin 2) : (s.i2cAbort k).time = s.time := rfl
@[simp] theorem State.serialPark_time (s : State) : s.serialPark.time = s.time := by simp [State.serialPark]

/-! ### Avs -/

@[simp] theorem State.modAvs_time (s : State) (k : Fin 2) (f : AvsCtl → AvsCtl) : (s.modAvs k f).time = s.time := rfl

@[simp] theorem State.coreWindow_time (s : State) (k : Fin 2) (mv : Option Nat) : (s.coreWindow k mv).time = s.time := by
  simp [State.coreWindow]

@[simp] theorem State.avsEnd_time (s : State) (k : Fin 2) (status data : Nat) : (s.avsEnd k status data).time = s.time := by
  unfold State.avsEnd
  split <;> simp

@[simp] theorem State.avsStart_time (s : State) (k : Fin 2) (op mv : Nat) (seq : Bool) : (s.avsStart k op mv seq).time = s.time := by
  simp [State.avsStart]

@[simp] theorem State.writeAvsReq_time (s : State) (ag : Agent) (k : Fin 2) (v : Word) :
    (s.writeAvsReq ag k v).time = s.time := by
  simp [State.writeAvsReq]

@[simp] theorem State.avsStage_time (s : State) (k : Fin 2) (f : AvsReq → AvsReq) : (s.avsStage k f).time = s.time := rfl

@[simp] theorem State.avsAbort_time (s : State) (k : Fin 2) : (s.avsAbort k).time = s.time := by
  unfold State.avsAbort
  split <;> simp

/-! ### Mailbox -/

@[simp] theorem State.modMail_time (s : State) (k : Fin 5) (f : Mail → Mail) : (s.modMail k f).time = s.time := rfl
@[simp] theorem State.ring_time (s : State) (k : Fin 5) : (s.ring k).time = s.time := by simp [State.ring]
@[simp] theorem State.answer_time (s : State) (k : Fin 5) (st : Nat) (body : List Word) : (s.answer k st body).time = s.time := rfl
@[simp] theorem State.setLock_time (s : State) (v : Nat) : (s.setLock v).time = s.time := rfl

/-! ### Debug -/

@[simp] theorem State.writeDbgCtrl_time (s : State) (ag : Agent) (v : Word) :
    (s.writeDbgCtrl ag v).time = s.time := by
  simp [State.writeDbgCtrl]

/-! ### SornasRun -/

@[simp] theorem State.modCores_time (s : State) (p : Proc) (f : Core → Core) : (s.modCores p f).time = s.time := by
  unfold State.modCores
  split <;> simp

@[simp] theorem State.setWait_time (s : State) (p : Proc) (w : WaitState) : (s.setWait p w).time = s.time := by
  unfold State.setWait
  split <;> simp

@[simp] theorem State.twinCheck_time (s s0 : State) (p : Proc) (f : Core → List Nat) : (s.twinCheck s0 p f).time = s.time := by
  unfold State.twinCheck
  repeat' split
  all_goals simp

@[simp] theorem State.pmc_time (s : State) (p : Proc) (e es : Nat) : (s.pmc p e es).time = s.time := by
  unfold State.pmc
  split <;> simp

@[simp] theorem State.enterTrap_time (s : State) (c : Fin 128) (w : Word) (t : Trap) : (s.enterTrap c w t).time = s.time := by
  simp [State.enterTrap]

@[simp] theorem State.trap_time (s : State) (p : Proc) (w : Word) (t : Trap) : (s.trap p w t).time = s.time := by
  unfold State.trap
  repeat' split
  all_goals simp

@[simp] theorem State.runInstr_time (s : State) (p : Proc) (w : Word) (gd : BitVec 3) (legal : Bool) (prods : Nat)
    (body : Core → BodyRes) :
    (s.runInstr p w gd legal prods body).time = s.time := by
  simp only [State.runInstr]
  repeat' split
  all_goals simp

@[simp] theorem State.runSat_time (s : State) (p : Proc) (w : Word) (gd : BitVec 3) (legal : Bool) (prods : Nat) (body : Core → BodyRes) :
    (s.runSat p w gd legal prods body).time = s.time := by
  simp [State.runSat]

/-! ### GalleryFire -/

@[simp] theorem State.modEngine_time (s : State) (e : Fin 4) (f : Engine → Engine) : (s.modEngine e f).time = s.time := rfl

@[simp] theorem State.issue_time (s : State) (e : Fin 4) (v : GEvent) (due : Int) (ph l : Nat) :
    (s.issue e v due ph l).time = s.time := by
  simp only [State.issue]
  repeat' split
  all_goals simp

@[simp] theorem State.issueSome_time (s : State) (e : Fin 4) (fuel : Nat) : (s.issueSome e fuel).time = s.time := by
  induction fuel generalizing s with
  | zero => rfl
  | succ fuel ih =>
    unfold State.issueSome
    split
    · rfl
    · split
      · next h => rw [ih]; exact State.slotFault_time h
      · extract_lets s1
        split
        · simp [s1]
        · extract_lets l
          split
          · rw [ih]; simp [s1]
          · simp [s1]

@[simp] theorem State.latchDue_time (s : State) : s.latchDue.time = s.time := rfl

/-- An action that was taken leaves the TIME unit of `s`. -/
def Taken.SameTime (s : State) : Taken → Prop
  | .done t _ | .open_ t => s.SameTime t
  | .unable => True

theorem State.applyTaken_time {s : State} {x : Taken} (hx : x.SameTime s) (v : GEvent) (quiet : Bool) :
    (s.applyTaken v quiet x).time = s.time := by
  unfold State.applyTaken
  split
  · rw [State.endEvent_time]; exact hx
  · exact hx
  · split <;> simp

theorem State.fire_time {s : State} {f : State → GEvent → Issue → Taken} (hf : ∀ v i, (f s v i).SameTime s) (e : Fin 4) (act : Nat)
    (quiet : Bool) : (s.fire e act quiet f).time = s.time := by
  unfold State.fire
  split
  · rfl
  · exact State.applyTaken_time (hf _ _) _ _

@[simp] theorem State.decisionIn_time (s : State) (c : Fin 128) (status : Nat) (tag : BitVec 8) (slot : Nat) :
    (s.decisionIn c status tag slot).time = s.time := by
  simp [State.decisionIn]

@[simp] theorem State.postRefusal_time (s : State) (c : Fin 128) (status word : Nat) :
    (s.postRefusal c status word).time = s.time := by
  simp [State.postRefusal]

/-! ### Fabric -/

@[simp] theorem State.setOwner_time (s : State) (kind i c : Nat) : (s.setOwner kind i c).time = s.time := by simp [State.setOwner]

@[simp] theorem State.writeAsn_time (s : State) (ag : Agent) (v : Word) : (s.writeAsn ag v).time = s.time := by
  simp [State.writeAsn]

@[simp] theorem State.writeQuery_time (s : State) (ag : Agent) (v : Word) : (s.writeQuery ag v).time = s.time := by
  simp [State.writeQuery]

@[simp] theorem State.writeChCfg_time (s : State) (ag : Agent) (c : Nat) (v : Word) :
    (s.writeChCfg ag c v).time = s.time := by
  simp [State.writeChCfg]

@[simp] theorem State.abortEvents_time (s : State) (hit : GEvent → Bool) : (s.abortEvents hit).time = s.time := by
  simp [State.abortEvents]

@[simp] theorem State.abortOneCell_time (s : State) (c : Fin 128) : (s.abortOneCell c).time = s.time := by simp [State.abortOneCell]
@[simp] theorem State.abortBlock_time (s : State) (b : Nat) : (s.abortBlock b).time = s.time := by simp [State.abortBlock]

@[simp] theorem State.abortLink_time (s : State) (t : Nat) (mine : Nat → Bool) : (s.abortLink t mine).time = s.time := by
  simp [State.abortLink]

@[simp] theorem State.abortPeriph_time (s : State) (r : Nat) (mine : Nat → Nat → Bool) : (s.abortPeriph r mine).time = s.time := by
  simp [State.abortPeriph]

@[simp] theorem State.abortGroups_time (s : State) (mine : Nat → Bool) : (s.abortGroups mine).time = s.time := by
  simp [State.abortGroups]

@[simp] theorem State.abortPins_time (s : State) (c : Nat) : (s.abortPins c).time = s.time := rfl
@[simp] theorem State.abortChamber_time (s : State) (c : Nat) : (s.abortChamber c).time = s.time := by simp [State.abortChamber]

@[simp] theorem State.abortEffect_time (s : State) (kind t : Nat) : (s.abortEffect kind t).time = s.time := by
  unfold State.abortEffect
  split <;> simp

@[simp] theorem State.writeAbort_time (s : State) (ag : Agent) (v : Word) : (s.writeAbort ag v).time = s.time := by
  simp [State.writeAbort]

@[simp] theorem State.forceCell_time (s : State) (c : Fin 128) : (s.forceCell c).time = s.time := by
  unfold State.forceCell
  split <;> simp

@[simp] theorem State.forceLink_time (s : State) (t : Nat) : (s.forceLink t).time = s.time := by simp [State.forceLink]

@[simp] theorem State.forcePeriph_time (s : State) (r : Nat) (mine : Nat → Nat → Bool) : (s.forcePeriph r mine).time = s.time := by
  simp [State.forcePeriph]

@[simp] theorem State.forceUnit_time (s : State) (kind t i : Nat) : (s.forceUnit kind t i).time = s.time := by
  unfold State.forceUnit
  split <;> simp

@[simp] theorem State.columnReset_time (s : State) (c : Fin 4) : (s.columnReset c).time = s.time := rfl

@[simp] theorem State.writeColctl_time (s : State) (ag : Agent) (c : Fin 5) (v : Word) : (s.writeColctl ag c v).time = s.time := by
  unfold State.writeColctl
  repeat' split
  all_goals simp

@[simp] theorem State.writeColkick_time (s : State) (ag : Agent) (c : Fin 5) (v : Word) :
    (s.writeColkick ag c v).time = s.time := by
  simp [State.writeColkick]

/-! ### Reset -/

theorem State.resetBase_time (s : State) {scope : Nat} (h : scope < 3) : (s.resetBase scope).time = s.time := by
  simp [State.resetBase, h]

/-- Every reset of the fabric but that of a supply monitor keeps TIME (R577). -/
theorem State.resetTo_time (s : State) {scope : Nat} (h : scope < 3) : (s.resetTo scope).time = s.time := by
  unfold State.resetTo
  extract_lets copy s2 s3
  have h3 : s3.time = s.time := by
    unfold s3
    rw [if_pos h]
    exact s.resetBase_time h
  split
  · exact h3
  · rw [State.pairsRestart_time, h3]

@[simp] theorem State.rstCause_time (s : State) (l : List Fld) : (s.rstCause l).time = s.time := by simp [State.rstCause]
@[simp] theorem State.setStart_time (s : State) (x : StartUp) : (s.setStart x).time = s.time := rfl
@[simp] theorem State.grottoTold_time (s : State) : s.grottoTold.time = s.time := by simp [State.grottoTold]

@[simp] theorem State.beginReset_time (s : State) {scope : Nat} (h : scope < 3) (causes : List Fld) :
    (s.beginReset scope causes).time = s.time := by
  unfold State.beginReset
  split
  · simp
  · simp [s.resetTo_time h]

@[simp] theorem State.writeRstctl_time (s : State) (ag : Agent) (v : Word) : (s.writeRstctl ag v).time = s.time := by
  unfold State.writeRstctl
  extract_lets more
  split_ifs <;> simp

@[simp] theorem State.asWrite_timeAt {s : State} {ag : Agent} {f : RegFam} {i : Nat} {act : State → State} (h : TimeAt now s.time)
    (hact : TimeAt now (act s).time) : TimeAt now (s.asWrite ag f i act).time := by
  by_cases hst : s.accessStatus ag true (f.addr i) = stOK
  · rw [asWrite_ok hst]; exact hact
  · rw [asWrite_refused hst]; simpa using h

@[simp] theorem State.askReset_time (s : State) (ag : Agent) (v : Word) : (s.askReset ag v).time = s.time := by
  unfold State.askReset
  split_ifs <;> simp

@[simp] theorem State.rebase_timeAt {s : State} (h : TimeAt now s.time) : TimeAt now s.rebase.time := h
@[simp] theorem State.imgWipe_time (s : State) (l : List Byte) : (s.imgWipe l).time = s.time := rfl

@[simp] theorem State.imgXspi_time (s : State) (mode : Nat) (l : Option (List Byte)) : (s.imgXspi mode l).time = s.time := by
  unfold State.imgXspi
  split <;> simp

@[simp] theorem State.colhStart_time (s : State) (entry : Option Nat) : (s.colhStart entry).time = s.time := rfl
@[simp] theorem State.imgRun_time (s : State) (l : List Byte) (alt : Bool) : (s.imgRun l alt).time = s.time := by simp [State.imgRun]

/-! ### Tracker -/

@[simp] theorem State.modTrk_time (s : State) (x : Fin 8) (f : Tracker → Tracker) : (s.modTrk x f).time = s.time := rfl

@[simp] theorem State.modSrc_time (s : State) (x : Fin 8) (i : Fin 2) (f : SrcState → SrcState) : (s.modSrc x i f).time = s.time :=
  rfl

@[simp] theorem State.trkEntry_time (s : State) (x : Fin 8) (old : Word) : (s.trkEntry x old).time = s.time := by
  simp [State.trkEntry]

@[simp] theorem State.judgeFeed_time (s : State) (x : Fin 8) (i : Fin 2) (age : Nat) : (s.judgeFeed x i age).time = s.time := by
  unfold State.judgeFeed
  split <;> simp

@[simp] theorem State.judgeErr_time (s : State) (x : Fin 8) (i : Fin 2) (overs : Bool) : (s.judgeErr x i overs).time = s.time := by
  simp [State.judgeErr]

@[simp] theorem State.judgeSrc_time (s : State) (x : Fin 8) (i : Fin 2) : (s.judgeSrc x i).1.time = s.time := by
  unfold State.judgeSrc
  repeat' split
  all_goals simp

@[simp] theorem State.substitute_time (s : State) (x : Fin 8) : (s.substitute x).time = s.time := by simp [State.substitute]
@[simp] theorem State.angOut_time (s : State) (x : Fin 8) : (s.angOut x).time = s.time := rfl
@[simp] theorem State.trkOut_time (s : State) (x : Fin 8) : (s.trkOut x).time = s.time := by simp [State.trkOut]
@[simp] theorem State.invalidate_time (s : State) (x : Fin 8) : (s.invalidate x).time = s.time := by simp [State.invalidate]
@[simp] theorem State.trkFault_time (s : State) (x : Fin 8) : (s.trkFault x).time = s.time := by simp [State.trkFault]
@[simp] theorem State.coast_time (s : State) (x : Fin 8) : (s.coast x).time = s.time := by simp [State.coast]

@[simp] theorem State.correct_time (s : State) (x : Fin 8) (e : Int) (good : Bool) : (s.correct x e good).time = s.time := by
  simp [State.correct]

@[simp] theorem State.trkUpdate_time (s : State) (x : Fin 8) : (s.trkUpdate x).time = s.time := by simp [State.trkUpdate]

@[simp] theorem State.setSched_time (s : State) (c : Fin 128) (bank : Nat) : (s.setSched c bank).time = s.time := by
  unfold State.setSched
  repeat' split
  all_goals simp

@[simp] theorem State.gainStep_time (s : State) (c : Fin 128) : (s.gainStep c).time = s.time := by simp [State.gainStep]

@[simp] theorem State.writeAngCfg_time (s : State) (x : Fin 8) (v : Word) : (s.writeAngCfg x v).time = s.time := by
  simp [State.writeAngCfg]

@[simp] theorem State.angSet_time (s : State) (x : Fin 8) (rev : Nat) : (s.angSet x rev).time = s.time := by simp [State.angSet]
@[simp] theorem State.angPri_time (s : State) (x : Fin 8) : (s.angPri x).time = s.time := by simp [State.angPri]

@[simp] theorem State.writeAngCmd_time (s : State) (x : Fin 8) (v : Word) : (s.writeAngCmd x v).time = s.time := by
  simp [State.writeAngCmd]

@[simp] theorem State.writeAngObs_time (s : State) (x : Fin 8) (v : Word) : (s.writeAngObs x v).time = s.time := rfl
@[simp] theorem State.trkResume_time (s : State) (x : Fin 8) : (s.trkResume x).time = s.time := by simp [State.trkResume]

/-! ### Power -/

@[simp] theorem State.setPhase_time (s : State) (p : PwrPhase) : (s.setPhase p).time = s.time := rfl
@[simp] theorem State.colhResume_time (s : State) : s.colhResume.time = s.time := by simp [State.colhResume]

@[simp] theorem State.endRequest_time (s : State) (status abpt reason : Nat) : (s.endRequest status abpt reason).time = s.time := by
  simp [State.endRequest]

@[simp] theorem State.entryAbandon_time (s : State) (k reason : Nat) : (s.entryAbandon k reason).time = s.time := by
  simp [State.entryAbandon]

@[simp] theorem State.abortPoint_time {s : State} {act : State → State} (hact : s.SameTime (act s)) (target k : Nat) (quiet : Bool) :
    (s.abortPoint target k quiet act).time = s.time := by
  unfold State.abortPoint
  split
  · simp
  · exact hact

@[simp] theorem State.writePwrCtrl_time (s : State) (ag : Agent) (v : Word) :
    (s.writePwrCtrl ag v).time = s.time := by
  simp [State.writePwrCtrl]

@[simp] theorem State.commitPark_timeAt {s : State} (h : TimeAt now s.time) : TimeAt now s.commitPark.time := by
  unfold State.commitPark
  extract_lets s1 s2 s3 s4 s5 s6
  have h1 : TimeAt now s1.time := by
    unfold s1
    split
    · exact State.enterHoldover_timeAt h
    · exact h
  simpa [s6, s5, s4, s3, s2] using h1

@[simp] theorem State.resume_time (s : State) (levels : BitVec 16) : (s.resume levels).time = s.time := by simp [State.resume]

@[simp] theorem State.wakeFails_time (s : State) (t c : Nat) : (s.wakeFails t c).time = s.time := by simp [State.wakeFails]

/-! ### Regs -/

@[simp] theorem State.popErr_time (s : State) : s.popErr.time = s.time := by
  unfold State.popErr
  split <;> rfl

@[simp] theorem State.clearRc_time (s : State) (ag : Agent) (f : RegFam) (i : Nat) : (s.clearRc ag f i).time = s.time := by
  simp [State.clearRc]

@[simp] theorem State.regRead_time (s : State) (ag : Agent) (f : RegFam) (i : Nat) : (s.regRead ag f i).1.time = s.time := by
  unfold State.regRead
  repeat' split
  all_goals simp

/-! ### SornasCtl -/

@[simp] theorem xform_time (s : State) (p : Proc) (gd : BitVec 3) (rd ra rb : BitVec 5) (fn : Nat) (legal : Bool) (prods : Nat)
    (f : Core → Int × Int → Int × Nat → Int × Int) :
    (xform s p gd rd ra rb fn legal prods f).time = s.time := by
  simp [xform]

@[simp] theorem svm_time (s : State) (p : Proc) (gd : BitVec 3) (rd ra rb : BitVec 5) (fn : Nat) (z : Int → Int → Int) :
    (svm s p gd rd ra rb fn z).time = s.time := by
  simp [svm]

@[simp] theorem State.setGain_time (s : State) (b : Fin 16) (bank i : Nat) (v : Half) : (s.setGain b bank i v).time = s.time := rfl

@[simp] theorem pictl_time (s : State) (p : Proc) (gd : BitVec 3) (rd ra rb fn : BitVec 5) (pid : Bool) :
    (pictl s p gd rd ra rb fn pid).time = s.time := by
  simp [pictl]

/-! ### Bus -/

@[simp] theorem State.ramRead_time (s : State) (ag : Agent) (n kind a key : Nat) :
    (s.ramRead ag n kind a key).1.time = s.time := by
  simp only [State.ramRead]
  repeat' split
  all_goals simp

@[simp] theorem State.ramWrite_time (s : State) (ag : Agent) (n kind a key : Nat) (v : Word) :
    (s.ramWrite ag n kind a key v).1.time = s.time := by
  simp only [State.ramWrite]
  repeat' split
  all_goals simp


@[simp] theorem State.putFields_time (s : State) (ag : Agent) (f : RegFam) (i : Nat) (v : Word) : (s.putFields ag f i v).time = s.time := by
  simp [State.putFields]


@[simp] theorem State.writeRingBase_time (s : State) (n : Nat) (v : Word) : (s.writeRingBase n v).time = s.time := by
  simp [State.writeRingBase]

@[simp] theorem State.writeRingTol_time (s : State) (n : Nat) (v : Word) : (s.writeRingTol n v).time = s.time := rfl

@[simp] theorem State.writeBlkStat_time (s : State) (ag : Agent) (b : Nat) (v : Word) : (s.writeBlkStat ag b v).time = s.time := by
  simp [State.writeBlkStat]

@[simp] theorem State.writeGscfg_time (s : State) (c : Fin 128) (v : Word) : (s.writeGscfg c v).time = s.time := by simp [State.writeGscfg]
@[simp] theorem State.writeAxCfg_time (s : State) (x : Fin 8) (v : Word) : (s.writeAxCfg x v).time = s.time := by simp [State.writeAxCfg]
@[simp] theorem State.writeSpfCfg_time (s : State) (x : Fin 8) (v : Word) : (s.writeSpfCfg x v).time = s.time := by simp [State.writeSpfCfg]

@[simp] theorem State.writeShCfg_time (s : State) (ag : Agent) (x : Fin 8) (v : Word) : (s.writeShCfg ag x v).time = s.time := by
  simp [State.writeShCfg]


@[simp] theorem State.writeOppCfg_time (s : State) (ag : Agent) (x : Fin 8) (v : Word) : (s.writeOppCfg ag x v).time = s.time := by
  simp [State.writeOppCfg]


@[simp] theorem State.writeSsxCfg_time (s : State) (ag : Agent) (x : Fin 8) (v : Word) : (s.writeSsxCfg ag x v).time = s.time := by
  simp [State.writeSsxCfg]


@[simp] theorem State.writeBcfg_time (s : State) (k : Fin 16) (v : Word) : (s.writeBcfg k v).time = s.time := by simp [State.writeBcfg]
@[simp] theorem State.writeBcfgBy_time (s : State) (ag : Agent) (k : Fin 16) (v : Word) : (s.writeBcfgBy ag k v).time = s.time := by
  simp [State.writeBcfgBy]


@[simp] theorem State.writeStatic_time (s : State) (ag : Agent) (f : RegFam) (i : Nat) (k : Fin 16) (v : Word) :
    (s.writeStatic ag f i k v).time = s.time := by
  simp [State.writeStatic]


@[simp] theorem State.writeBstat_time (s : State) (ag : Agent) (k : Fin 16) (v : Word) : (s.writeBstat ag k v).time = s.time := by
  simp [State.writeBstat]

@[simp] theorem State.clearNamed_time (s : State) (j : Fin 48) : (s.clearNamed j).time = s.time := by simp [State.clearNamed]
@[simp] theorem State.adcFreeze_time (s : State) (j : Fin 16) : (s.adcFreeze j).time = s.time := by simp [State.adcFreeze]

@[simp] theorem State.writeAdcCfg_time (s : State) (j : Fin 16) (v : Word) : (s.writeAdcCfg j v).time = s.time := by
  simp [State.writeAdcCfg]

@[simp] theorem State.writeAdcOfs_time (s : State) (i : Nat) (v : Word) : (s.writeAdcOfs i v).time = s.time := by simp [State.writeAdcOfs]

@[simp] theorem State.writeAdcPtrg_time (s : State) (ag : Agent) (j : Fin 16) (v : Word) : (s.writeAdcPtrg ag j v).time = s.time := by
  simp [State.writeAdcPtrg]


@[simp] theorem State.writeDsmCfg_time (s : State) (ag : Agent) (i : Fin 32) (v : Word) : (s.writeDsmCfg ag i v).time = s.time := by
  simp [State.writeDsmCfg]

@[simp] theorem State.writeDsmClk_time (s : State) (c : Nat) (v : Word) : (s.writeDsmClk c v).time = s.time := by simp [State.writeDsmClk]

@[simp] theorem State.writeCmpCfg_time (s : State) (ag : Agent) (c : Fin 64) (v : Word) : (s.writeCmpCfg ag c v).time = s.time := by
  simp [State.writeCmpCfg]


@[simp] theorem State.writeCmpLevel_time (s : State) (c : Fin 64) (f : RegFam) (v : Word) : (s.writeCmpLevel c f v).time = s.time := by
  simp [State.writeCmpLevel]


@[simp] theorem State.writeCmpRoute_time (s : State) (ag : Agent) (c : Fin 64) (v : Word) : (s.writeCmpRoute ag c v).time = s.time := by
  simp [State.writeCmpRoute]


@[simp] theorem State.writeSumpCfg_time (s : State) (ag : Agent) (r : Fin 4) (v : Word) : (s.writeSumpCfg ag r v).time = s.time := by
  simp [State.writeSumpCfg]


@[simp] theorem State.writePosCfg_time (s : State) (ag : Agent) (k : Fin 16) (v : Word) : (s.writePosCfg ag k v).time = s.time := by
  simp [State.writePosCfg]


@[simp] theorem State.writePosSpt_time (s : State) (ag : Agent) (k : Fin 16) (v : Word) : (s.writePosSpt ag k v).time = s.time := by
  simp [State.writePosSpt]


@[simp] theorem State.writePosExc_time (s : State) (k : Fin 16) (v : Word) : (s.writePosExc k v).time = s.time := by
  simp [State.writePosExc]


@[simp] theorem State.writePosStat_time (s : State) (k : Fin 16) (v : Word) : (s.writePosStat k v).time = s.time := by
  simp [State.writePosStat]


@[simp] theorem State.writePosDiv_time (s : State) (k : Fin 16) (v : Word) : (s.writePosDiv k v).time = s.time := by
  simp [State.writePosDiv]


@[simp] theorem State.writePosCmpctl_time (s : State) (k : Fin 16) (v : Word) : (s.writePosCmpctl k v).time = s.time := by
  simp [State.writePosCmpctl]


@[simp] theorem State.writeMeshw_time (s : State) (ag : Agent) (k : Nat) (v : Word) : (s.writeMeshw ag k v).time = s.time := by
  simp [State.writeMeshw]


@[simp] theorem State.writeTxb_time (s : State) (ag : Agent) (b : Nat) (v : Word) : (s.writeTxb ag b v).time = s.time := by
  simp [State.writeTxb]

@[simp] theorem State.canEnable_time (s : State) (k : Fin 8) (was : Bool) : (s.canEnable k was).time = s.time := by simp [State.canEnable]

@[simp] theorem State.writeTxbWord_time (s : State) (ag : Agent) (f : RegFam) (j : Nat) (k : Fin 8) (b : Nat) (v : Word) :
    (s.writeTxbWord ag f j k b v).time = s.time := by
  simp [State.writeTxbWord]


@[simp] theorem State.writePins_time (s : State) (ag : Agent) (f : RegFam) (two : Bool) (v : Word) :
    (s.writePins ag f two v).time = s.time := by
  simp [State.writePins]

@[simp] theorem State.writeKey_time (s : State) (f : RegFam) (i : Nat) (v : Word) : (s.writeKey f i v).time = s.time := rfl

/-- What a register's own rule does at a write keeps TIME and the range of the increment. -/
def HookTimeAt (now : BitVec 96) (e : RegFam × WHook) : Prop :=
  ∀ (s : State) (ag : Agent) (i : Nat) (v : Word), TimeAt now s.time → TimeAt now (e.2 s ag i v).time

theorem hooksFabric_timeAt : ∀ e ∈ hooksFabric, HookTimeAt now e := by simp +contextual [hooksFabric, HookTimeAt]
theorem hooksCells_timeAt : ∀ e ∈ hooksCells, HookTimeAt now e := by
  simp only [hooksCells, List.forall_mem_cons]
  refine ⟨?_, ?_, ?_, ?_, ?_, fun s ag i v h => ?_, fun s ag i v h => ?_, by simp⟩
  · simp [HookTimeAt]
  · simp [HookTimeAt]
  · simp [HookTimeAt]
  · simp [HookTimeAt]
  · simp [HookTimeAt]
  · rw [State.modCell_time, State.putFields_time]; exact h
  · rw [State.modCell_time, State.putFields_time]; exact h

theorem hooksAxis_timeAt : ∀ e ∈ hooksAxis, HookTimeAt now e := by
  simp +contextual [hooksAxis, HookTimeAt]

theorem hooksPwm_timeAt : ∀ e ∈ hooksPwm, HookTimeAt now e := by
  simp +contextual [hooksPwm, HookTimeAt]

theorem hooksSense_timeAt : ∀ e ∈ hooksSense, HookTimeAt now e := by
  simp +contextual [hooksSense, HookTimeAt]

theorem hooksLinks_timeAt : ∀ e ∈ hooksLinks, HookTimeAt now e := by
  simp +contextual [hooksLinks, HookTimeAt]

theorem hooksSystem_timeAt : ∀ e ∈ hooksSystem, HookTimeAt now e := by
  simp +contextual [hooksSystem, HookTimeAt]


theorem regHooks_timeAt {e : RegFam × WHook} (he : e ∈ regHooks) : HookTimeAt now e := by
  simp only [regHooks, List.mem_append] at he
  obtain (((((he | he) | he) | he) | he) | he) | he := he
  · exact hooksFabric_timeAt e he
  · exact hooksCells_timeAt e he
  · exact hooksAxis_timeAt e he
  · exact hooksPwm_timeAt e he
  · exact hooksSense_timeAt e he
  · exact hooksLinks_timeAt e he
  · exact hooksSystem_timeAt e he

@[simp] theorem State.regWrite_timeAt {s : State} (h : TimeAt now s.time) (ag : Agent) (f : RegFam) (i : Nat) (v : Word) :
    TimeAt now (s.regWrite ag f i v).time := by
  unfold State.regWrite
  split
  · simpa using h
  · split
    · next e he => exact regHooks_timeAt (List.mem_of_find?_eq_some he) s ag i v h
    · simpa using h

@[simp] theorem State.regWriteSt_timeAt {s : State} (h : TimeAt now s.time) (ag : Agent) (f : RegFam) (i : Nat) (v : Word) :
    TimeAt now (s.regWriteSt ag f i v).1.time := by
  unfold State.regWriteSt
  split
  · exact State.regWrite_timeAt h ..
  · extract_lets s1 others fab s2
    have h1 : TimeAt now s1.time := State.regWrite_timeAt (s := { s with fabLog := [] }) h ..
    split
    · exact h1
    · simpa [s2] using h1

@[simp] theorem State.readAt_time (s : State) (ag : Agent) (n kind a : Nat) :
    (s.readAt ag n kind a).1.time = s.time := by
  simp only [State.readAt]
  repeat' split
  all_goals simp

@[simp] theorem State.writeAt_timeAt {s : State} (h : TimeAt now s.time) (ag : Agent) (n kind a : Nat) (v : Word) :
    TimeAt now (s.writeAt ag n kind a v).1.time := by
  unfold State.writeAt
  extract_lets no word st
  split
  · simpa using h
  · split <;> simp [no, h]
  · split_ifs <;> simp [no, h]
  · split <;> simp [no, h]
  · split <;> simp [no, h]
  · split <;> simp [no, h]
  · simp [no, h]
  · split <;> simp [no, h]
  · exact h

@[simp] theorem State.busRead_time (s : State) (ag : Agent) (n kind a : Nat) :
    (s.busRead ag n kind a).1.time = s.time := by
  simp only [State.busRead]
  repeat' split
  all_goals simp

@[simp] theorem State.busWrite_timeAt {s : State} (h : TimeAt now s.time) (ag : Agent) (n kind a : Nat) (v : Word) :
    TimeAt now (s.busWrite ag n kind a v).1.time := by
  unfold State.busWrite
  extract_lets st
  split <;> simp [h]

@[simp] theorem State.postBack_time (s : State) (ag : Agent) (status addr : Nat) : (s.postBack ag status addr).time = s.time := by
  unfold State.postBack
  split <;> simp

@[simp] theorem State.logTimeout_time (s : State) (ag : Agent) (write : Bool) (addr : Nat) :
    (s.logTimeout ag write addr).time = s.time := by
  simp [State.logTimeout]

@[simp] theorem State.escalated_time (s : State) (level unit : Nat) : (s.escalated level unit).time = s.time := by
  simp [State.escalated]

@[simp] theorem State.scrubFinds_time (s : State) (key : Nat) (found : Ecc) : (s.scrubFinds key found).time = s.time := by
  unfold State.scrubFinds
  repeat' split
  all_goals simp

@[simp] theorem State.scrub_time (s : State) (ag : Option Agent) (key a : Nat) (found : Ecc) :
    (s.scrub ag key a found).time = s.time := by
  unfold State.scrub
  split <;> simp

/-! ### SornasFlow -/

@[simp] theorem State.countBranch_time (s t : State) (p : Proc) (gd : BitVec 3) : (s.countBranch t p gd).time = t.time := by
  unfold State.countBranch
  split
  · exact State.pmc_time ..
  · rfl

/-! ### SornasMem -/

@[simp] theorem State.retire_time (s : State) (p : Proc) : (s.retire p).time = s.time := by simp [State.retire]

/-- The state that an effect leaves has TIME at `now`. -/
def MemRes.Keeps (now : BitVec 96) : MemRes → Prop
  | .done s | .stay s | .trap s _ => TimeAt now s.time

@[simp] theorem MemRes.keeps_done (s : State) : (MemRes.done s).Keeps now ↔ TimeAt now s.time := ⟨id, id⟩
@[simp] theorem MemRes.keeps_stay (s : State) : (MemRes.stay s).Keeps now ↔ TimeAt now s.time := ⟨id, id⟩
@[simp] theorem MemRes.keeps_trap (s : State) (t : Trap) : (MemRes.trap s t).Keeps now ↔ TimeAt now s.time := ⟨id, id⟩

/-- The state that an access leaves has TIME at `now`. -/
def Load.Keeps (now : BitVec 96) : Load → Prop
  | .val s _ | .stay s | .bad s _ => TimeAt now s.time

@[simp] theorem Load.keeps_val (s : State) (v : Nat) : (Load.val s v).Keeps now ↔ TimeAt now s.time := ⟨id, id⟩
@[simp] theorem Load.keeps_stay (s : State) : (Load.stay s).Keeps now ↔ TimeAt now s.time := ⟨id, id⟩
@[simp] theorem Load.keeps_bad (s : State) (st : Nat) : (Load.bad s st).Keeps now ↔ TimeAt now s.time := ⟨id, id⟩

@[simp] theorem State.runMem_timeAt {s : State} {act : State → MemRes} (h :
    TimeAt now s.time) (hact : (act s).Keeps now) (p : Proc) (w : Word)
    (gd : BitVec 3) (legal resume : Bool) : TimeAt now (s.runMem p w gd legal resume act).time := by
  unfold State.runMem
  split
  · exact h
  · split
    · simpa using h
    · split
      · simpa using h
      · split
        · simpa using h
        · split <;> next heq => rw [heq] at hact; simpa using hact

@[simp] theorem State.cellBad_time (s : State) (c : Fin 128) (kind w : Nat) :
    (s.cellBad c kind w).time = s.time := by
  simp [State.cellBad]

@[simp] theorem State.modCopies_time (s : State) (c : Fin 128) (f : Phys → Phys) : (s.modCopies c f).time = s.time := by
  simp [State.modCopies]

@[simp] theorem State.perform_timeAt {s : State} (h : TimeAt now s.time) (c : Fin 128) (e : WbufEntry) :
    TimeAt now (s.perform c e).time := by
  unfold State.perform
  extract_lets back
  have hback (r : State × Nat) (w : Nat) (hr : TimeAt now r.1.time) : TimeAt now (back r w).time := by
    unfold back
    split
    · exact hr
    · simpa using hr
  split
  · split
    · exact hback _ _ (by simpa using h)
    · exact hback _ _ (by simpa using h)
  · extract_lets st
    split
    · exact hback _ _ (State.writeAt_timeAt h ..)
    · exact hback _ _ (by simpa using h)
  · simpa using h

@[simp] theorem State.drain_timeAt {s : State} (h : TimeAt now s.time) (c : Fin 128) : TimeAt now (s.drain c).time := by
  unfold State.drain
  split
  · simp [h]
  · exact h

@[simp] theorem State.drainFor_timeAt {s : State} (h : TimeAt now s.time) (c : Fin 128) (rel : WbufEntry → Bool) (fuel : Nat) :
    TimeAt now (s.drainFor c rel fuel).time := by
  induction fuel generalizing s with
  | zero => exact h
  | succ fuel ih =>
    unfold State.drainFor
    split
    · exact ih (State.drain_timeAt h c)
    · exact h

@[simp] theorem State.post_timeAt {s : State} (h : TimeAt now s.time) (c : Fin 128) (e : WbufEntry) : TimeAt now (s.post c e).time := by
  unfold State.post
  extract_lets s1
  have h1 : TimeAt now s1.time := by
    unfold s1
    split
    · exact h
    · exact State.drain_timeAt h c
  simpa using h1

@[simp] theorem State.pageWrite_time (s : State) (c : Fin 128) (o : Nat) (v : Word) : (s.pageWrite c o v).time = s.time := by
  simp [State.pageWrite]

@[simp] theorem State.blockLoad_time (s : State) (c : Fin 128) (a : Nat) : (s.blockLoad c a).1.time = s.time := by
  unfold State.blockLoad
  repeat' split
  all_goals simp

@[simp] theorem State.ramStop_time (s : State) (c : Fin 128) (a : Nat) : (s.ramStop c a).time = s.time := by
  simp [State.ramStop]

@[simp] theorem State.setStage_time (s : State) (c : Fin 128) (x : Option (Nat × Half)) : (s.setStage c x).time = s.time := by
  simp [State.setStage]

@[simp] theorem State.unmark_time (s : State) (p : Proc) (a : Nat) : (s.unmark p a).time = s.time := by
  unfold State.unmark
  split <;> simp

@[simp] theorem State.modDcache_time (s : State) (c : Fin 5) (f : SMap CacheLine → SMap CacheLine) :
    (s.modDcache c f).time = s.time := rfl

/-- A fold over steps that keep TIME and the range of the increment. -/
theorem foldl_timeAt {α : Type} {f : State → α → State}
    (hf : ∀ (s : State) x, TimeAt now s.time → TimeAt now (f s x).time) (l : List α)
    {s : State} (h : TimeAt now s.time) : TimeAt now (l.foldl f s).time := by
  induction l generalizing s with
  | nil => exact h
  | cons x l ih => exact ih (hf s x h)

@[simp] theorem State.writeBack_timeAt {s : State} (h : TimeAt now s.time) (c : Fin 5) (n : Nat) (l : CacheLine) :
    TimeAt now (s.writeBack c n l).time := by
  unfold State.writeBack
  split
  · exact h
  · refine foldl_timeAt (fun s i h => ?_) _ (by simpa using h)
    extract_lets a r
    have hr : TimeAt now r.1.time := State.busWrite_timeAt h ..
    split
    · exact hr
    · simpa using hr

@[simp] theorem State.evictLine_timeAt {s : State} (h : TimeAt now s.time) (c : Fin 5) (n : Nat) : TimeAt now (s.evictLine c n).time := by
  unfold State.evictLine
  split <;> simp [h]

@[simp] theorem State.cacheRoom_timeAt {s : State} (h : TimeAt now s.time) (c : Fin 5) : TimeAt now (s.cacheRoom c).time := by
  unfold State.cacheRoom
  extract_lets m v
  split
  · exact State.evictLine_timeAt (by simpa using h) ..
  · simpa using h

@[simp] theorem State.fetchLine_time (s : State) (c : Fin 5) (n : Nat) : (s.fetchLine c n).1.time = s.time := by
  unfold State.fetchLine
  suffices hfold : ∀ (l : List Nat) (x : State × Nat × List Byte), (l.foldl _ x).1.time = x.1.time from hfold _ _
  intro l x
  induction l generalizing x with
  | nil => rfl
  | cons i l ih =>
    rw [List.foldl_cons, ih]
    split <;> simp

@[simp] theorem State.touchLine_timeAt {s : State} (h : TimeAt now s.time) (c : Fin 5) (n : Nat) : TimeAt now (s.touchLine c n).1.time := by
  unfold State.touchLine
  split
  · exact h
  · have hr : TimeAt now ((s.pmc (.col c) 0 4).fetchLine c n).1.time := by
      rw [State.fetchLine_time, State.pmc_time]
      exact h
    generalize (s.pmc (.col c) 0 4).fetchLine c n = r at hr
    dsimp only
    split
    · exact hr
    · rw [State.modDcache_time]
      exact State.cacheRoom_timeAt hr c

theorem State.latched_timeAt {s : State} {rd : State → State × Nat × Word} (h : TimeAt now s.time) (hrd : TimeAt now (rd s).1.time)
    (c : Fin 128) (tag : Nat) (odd two : Bool) : (s.latched c tag odd two rd).Keeps now := by
  unfold State.latched
  extract_lets r own
  have hown : own.Keeps now := by
    unfold own
    split_ifs <;> simpa [r] using hrd
  split
  · split
    · exact h
    · exact hown
  · exact hown

theorem State.cellLoad_timeAt {s : State} (h : TimeAt now s.time) (c : Fin 128) (w : Nat) (two : Bool) :
    (s.cellLoad c w two).Keeps now := by
  unfold State.cellLoad
  split
  · simpa using h
  · split
    · extract_lets a
      split_ifs <;> simpa using h
    · extract_lets r q
      have hr : TimeAt now r.1.time := by simpa [r] using h
      have hq : TimeAt now q.1.time := by simpa [q] using hr
      split_ifs
      · exact hr
      · exact hr
      · exact hq
      · exact hq
    · extract_lets s1
      have h1 : TimeAt now s1.time := State.drainFor_timeAt h ..
      split
      · exact h1
      · refine State.latched_timeAt h1 ?_ ..
        extract_lets st
        split <;> simpa using h1
    · split
      · simpa using h
      · exact State.latched_timeAt h h ..
    · simpa using h

theorem State.cellStore_timeAt {s : State} (h : TimeAt now s.time) (c : Fin 128) (w : Nat) (two : Bool) (v : Nat) :
    (s.cellStore c w two v).Keeps now := by
  unfold State.cellStore
  extract_lets lo hi
  split
  · simpa using h
  · split
    · rw [Load.keeps_val, foldl_time]
      · exact h
      · intro s q
        extract_lets a s1
        rw [State.sameTime_iff]
        split <;> simp [s1]
    · extract_lets s1
      have h1 : TimeAt now s1.time := State.post_timeAt h ..
      split <;> simp [h1]
    · split_ifs <;> simp [h]
    · extract_lets tag
      split_ifs <;> simpa using h
    · simpa using h

theorem State.grottoLoad_timeAt {s : State} (h : TimeAt now s.time) (a n : Nat) : (s.grottoLoad a n).Keeps now := by
  unfold State.grottoLoad
  extract_lets r
  have hr : TimeAt now r.1.time := by
    unfold r
    split_ifs <;> simpa using h
  split
  · exact hr
  · rw [Load.keeps_bad]
    split
    · simpa using hr
    · exact hr

theorem State.sLoad_timeAt {s : State} (h : TimeAt now s.time) (p : Proc) (a n : Nat) : (s.sLoad p a n).Keeps now := by
  unfold State.sLoad
  extract_lets no
  split
  · exact h
  · split
    · simpa [no] using h
    · split
      · exact h
      · exact State.grottoLoad_timeAt h ..
  · split
    · simpa [no] using h
    · split
      · exact h
      · extract_lets r
        have hr : TimeAt now r.1.time := State.touchLine_timeAt h ..
        split <;> exact hr
      · split
        · exact h
        · extract_lets r
          have hr : TimeAt now r.1.time := by simpa [r] using h
          split <;> exact hr

theorem State.grottoStore_timeAt {s : State} (h : TimeAt now s.time) (a n : Nat) (v : Word) : (s.grottoStore a n v).Keeps now := by
  unfold State.grottoStore
  split
  · extract_lets r
    have hr : TimeAt now r.1.time := by simpa [r] using h
    rw [Load.keeps_val]
    split
    · exact hr
    · simpa using hr
  · split_ifs <;> simpa using h

theorem State.sStore_timeAt {s : State} (h : TimeAt now s.time) (p : Proc) (a n : Nat) (v : Word) : (s.sStore p a n v).Keeps now := by
  unfold State.sStore
  extract_lets no
  split
  · exact h
  · split
    · simpa [no] using h
    · split
      · exact h
      · exact State.grottoStore_timeAt h ..
  · split
    · simpa [no] using h
    · split
      · exact h
      · extract_lets r
        have hr : TimeAt now r.1.time := State.touchLine_timeAt h ..
        split <;> simpa using hr
      · split
        · simpa [no] using h
        · extract_lets r s1
          have hr : TimeAt now s1.time := by simp [s1, r, h]
          rw [Load.keeps_val]
          split
          · exact hr
          · simpa using hr

theorem State.load_timeAt {s : State} (h : TimeAt now s.time) (p : Proc) (a : Nat) (wd : BitVec 2) : (s.load p a wd).Keeps now := by
  unfold State.load
  split
  · exact State.cellLoad_timeAt h ..
  · exact State.sLoad_timeAt h ..
  · exact State.sLoad_timeAt h ..

theorem State.store_timeAt {s : State} (h : TimeAt now s.time) (p : Proc) (a : Nat) (wd : BitVec 2) (v : Nat) :
    (s.store p a wd v).Keeps now := by
  unfold State.store
  split
  · exact State.cellStore_timeAt h ..
  · exact State.sStore_timeAt h ..
  · exact State.sStore_timeAt h ..

/-- What `Keeps` says of a load holds of the state that its outcome carries. -/
theorem Load.Keeps.val {x : Load} {s : State} {v : Nat} (hx : x.Keeps now) (h : x = .val s v) : TimeAt now s.time := by
  rw [h] at hx; exact hx

theorem Load.Keeps.stay {x : Load} {s : State} (hx : x.Keeps now) (h : x = .stay s) : TimeAt now s.time := by
  rw [h] at hx; exact hx

theorem Load.Keeps.bad {x : Load} {s : State} {st : Nat} (hx : x.Keeps now) (h : x = .bad s st) : TimeAt now s.time := by
  rw [h] at hx; exact hx

@[simp] theorem State.runLoad_timeAt {s : State} (h : TimeAt now s.time) (p : Proc) (w : Word) (gd : BitVec 3) (rd ra : BitVec 5)
    (wd : BitVec 2) (zero legal : Bool) (ea : Core → Nat) (upd : Option Int) :
    TimeAt now (s.runLoad p w gd rd ra wd zero legal ea upd).time := by
  unfold State.runLoad
  extract_lets pf
  refine State.runMem_timeAt h ?_ ..
  extract_lets a
  have hload := s.load_timeAt h p a wd
  split
  · next heq => simpa using hload.val heq
  · next heq => exact hload.stay heq
  · next heq => exact hload.bad heq

@[simp] theorem State.runStore_timeAt {s : State} (h : TimeAt now s.time) (p : Proc) (w : Word) (gd : BitVec 3) (rd ra : BitVec 5)
    (wd : BitVec 2) (legal : Bool) (ea : Core → Nat) (upd : Option Int) : TimeAt now (s.runStore p w gd rd ra wd legal ea upd).time := by
  unfold State.runStore
  extract_lets pf s1
  have h1 : TimeAt now s1.time := by
    refine State.runMem_timeAt h ?_ ..
    extract_lets a
    have hstore := s.store_timeAt h p a wd ((s.coreOf p).getStore pf rd wd)
    split
    · next heq =>
      rw [MemRes.keeps_done]
      split
      · simpa using hstore.val heq
      · exact hstore.val heq
    · next heq => exact hstore.stay heq
    · next heq => exact hstore.bad heq
  simpa using h1

/-! ### SornasLong -/

@[simp] theorem State.setIx_time (s : State) (c : Fin 128) (i : Nat) : (s.setIx c i).time = s.time := by simp [State.setIx]

theorem State.longLoad_timeAt {s : State} (h : TimeAt now s.time) (c : Fin 128) (w : Nat) : (s.longLoad c w).Keeps now := by
  unfold State.longLoad
  split
  · exact State.cellLoad_timeAt h ..
  · simpa using h

theorem State.longStore_timeAt {s : State} (h : TimeAt now s.time) (c : Fin 128) (w v : Nat) : (s.longStore c w v).Keeps now := by
  unfold State.longStore
  split
  · exact State.cellStore_timeAt h ..
  · simpa using h

theorem State.blkmac_timeAt {s : State} (h : TimeAt now s.time) (c : Fin 128) (aa : BitVec 2) (ax ay n : Nat) (ydir : Bool) (most : Nat) :
    (s.blkmac c aa ax ay n ydir most).Keeps now := by
  induction most generalizing s with
  | zero =>
    unfold State.blkmac
    split <;> simpa using h
  | succ most ih =>
    unfold State.blkmac
    extract_lets i wx wy
    have hx := s.longLoad_timeAt h c wx
    split
    · simpa using h
    · split
      · next heq => exact hx.stay heq
      · next heq => exact hx.bad heq
      · next s1 x heq =>
        have hy := s1.longLoad_timeAt (hx.val heq) c wy
        split
        · next heq => exact hy.stay heq
        · next heq => exact hy.bad heq
        · next heq => exact ih (by simpa using hy.val heq)

theorem State.movb_timeAt {s : State} (h : TimeAt now s.time) (c : Fin 128) (ad as_ n : Nat) (fill : Bool) (most : Nat) :
    (s.movb c ad as_ n fill most).Keeps now := by
  induction most generalizing s with
  | zero =>
    unfold State.movb
    split <;> simpa using h
  | succ most ih =>
    unfold State.movb
    extract_lets i ws wd
    have hx := s.longLoad_timeAt h c ws
    split
    · simpa using h
    · split
      · next heq => exact hx.stay heq
      · next heq => exact hx.bad heq
      · next s1 v heq =>
        have hy := s1.longStore_timeAt (hx.val heq) c wd v
        split
        · next heq => exact hy.stay heq
        · next heq => exact hy.bad heq
        · next heq => exact ih (by simpa using hy.val heq)

@[simp] theorem State.runMovb_timeAt {s : State} (h : TimeAt now s.time) (p : Proc) (gd : BitVec 3) (rd ra rb : BitVec 5) (fill : Bool)
    (most : BitVec 16) : TimeAt now (s.runMovb p gd rd ra rb fill most).time := by
  unfold State.runMovb
  dsimp only
  split
  · rw [State.twinCheck_time]
    exact State.runMem_timeAt h (State.movb_timeAt h ..) ..
  · exact State.runMem_timeAt h ((MemRes.keeps_done s).2 h) ..
  · exact State.runMem_timeAt h ((MemRes.keeps_done s).2 h) ..

@[simp] theorem State.ckptWord_time (s : State) (c : Fin 128) (r i : Nat) (v : Half) : (s.ckptWord c r i v).time = s.time := by
  simp [State.ckptWord]

@[simp] theorem State.checkpoint_time (s : State) (c : Fin 128) (k : Core) (pc as_ n : Nat) (data : List Half) :
    (s.checkpoint c k pc as_ n data).1.time = s.time := by
  simp only [State.checkpoint]
  repeat' split
  all_goals simp

@[simp] theorem State.runWait_timeAt {s : State} (h : TimeAt now s.time) (p : Proc) (gd : BitVec 3) (rd ra rb : BitVec 5) (fn : BitVec 7)
    (pop : Bool) : TimeAt now (s.runWait p gd rd ra rb fn pop).time := by
  unfold State.runWait
  extract_lets w timed legal
  split
  · extract_lets s1
    refine (congrArg (TimeAt now) (State.twinCheck_time ..)).mpr (State.runMem_timeAt h ?_ ..)
    extract_lets ph limit
    split
    · split <;> simpa using h
    · split
      · rw [MemRes.keeps_done]
        split
        · simpa using h
        · exact h
      · simpa using h
  · exact State.runMem_timeAt h ((MemRes.keeps_done s).2 h) ..
  · exact State.runMem_timeAt h ((MemRes.keeps_done s).2 h) ..

@[simp] theorem State.runFence_timeAt {s : State} (h : TimeAt now s.time) (p : Proc) (gd : BitVec 3) (rd ra rb : BitVec 5) (scope : Nat) :
    TimeAt now (s.runFence p gd rd ra rb scope).time := by
  unfold State.runFence
  refine State.runMem_timeAt h ?_ ..
  split
  · split <;> simpa using h
  · exact h
  · exact h

/-! ### Columns -/

@[simp] theorem State.runSup_timeAt {s : State} {act : State → MemRes} (h :
    TimeAt now s.time) (hact : (act s).Keeps now) (p : Proc) (w : Word)
    (gd : BitVec 3) (legal resume user : Bool) : TimeAt now (s.runSup p w gd legal resume user act).time := by
  unfold State.runSup
  refine State.runMem_timeAt h ?_ ..
  split
  · exact hact
  · exact h

@[simp] theorem State.raiseSwi_time (s : State) (i : Fin 6) (v : Word) : (s.raiseSwi i v).time = s.time := by simp [State.raiseSwi]

@[simp] theorem State.csrWrite_time (s : State) (i : Fin 6) (n : Nat) (v : Word) : (s.csrWrite i n v).time = s.time := by
  simp [State.csrWrite]

@[simp] theorem State.runCsr_timeAt {s : State} (h : TimeAt now s.time) (p : Proc) (op : Nat) (gd : BitVec 3) (rd ra : BitVec 5)
    (imm : BitVec 13) (legal : Bool) (upd : Option (Word → Word → Word)) : TimeAt now (s.runCsr p op gd rd ra imm legal upd).time := by
  unfold State.runCsr
  extract_lets i n user
  refine State.runSup_timeAt h ?_ ..
  extract_lets old src s1
  have h1 : TimeAt now s1.time := by simpa [s1] using h
  split
  · exact h1
  · extract_lets v
    split
    · exact h
    · simpa using h1

@[simp] theorem State.enterSource_time (s : State) (i : Fin 6) (j : Nat) : (s.enterSource i j).time = s.time := by
  simp [State.enterSource]

@[simp] theorem State.runCache_timeAt {s : State} {act : Fin 5 → Nat → State → MemRes} (h : TimeAt now s.time)
    (hact : ∀ c a, (act c a s).Keeps now) (p : Proc) (gd : BitVec 3) (rd ra rb : BitVec 5) (fn : Nat) (whole : Bool) :
    TimeAt now (s.runCache p gd rd ra rb fn whole act).time := by
  unfold State.runCache
  refine State.runSup_timeAt h ?_ ..
  split
  · exact hact ..
  · exact h
  · exact h

@[simp] theorem State.setXprog_time (s : State) (p : Proc) (i : Nat) : (s.setXprog p i).time = s.time := by simp [State.setXprog]

theorem State.flushAll_timeAt {s : State} (h : TimeAt now s.time) (c : Fin 5) (most : Nat) : (s.flushAll c most).Keeps now := by
  induction most generalizing s with
  | zero =>
    unfold State.flushAll
    split <;> simpa using h
  | succ most ih =>
    unfold State.flushAll
    split
    · simpa using h
    · exact ih (by simp [h])

theorem State.longRun_timeAt {s : State} {elem : Nat → State → MemRes} (h : TimeAt now s.time)
    (helem : ∀ i (s : State), TimeAt now s.time → (elem i s).Keeps now) (p : Proc)
    (n most : Nat) : (s.longRun p n elem most).Keeps now := by
  induction most generalizing s with
  | zero =>
    unfold State.longRun
    split <;> simpa using h
  | succ most ih =>
    unfold State.longRun
    have hi := helem (s.xprog p) s h
    split
    · simpa using h
    · split
      · next heq => rw [heq] at hi; exact ih (by simpa using hi)
      · exact hi

theorem State.moveWord_timeAt {s : State} (h : TimeAt now s.time) (p : Proc) (a b : Nat) : (s.moveWord p a b).Keeps now := by
  unfold State.moveWord
  have hx := s.sLoad_timeAt h p a 4
  split
  · next heq => exact hx.stay heq
  · next heq => exact hx.bad heq
  · next s1 v heq =>
    have hy := s1.sStore_timeAt (hx.val heq) p b 4 (BitVec.ofNat 32 v)
    split
    · next heq => exact hy.val heq
    · next heq => exact hy.stay heq
    · next heq => exact hy.bad heq

@[simp] theorem State.runBmov_timeAt {s : State} (h : TimeAt now s.time) (p : Proc) (gd : BitVec 3) (rd ra rb : BitVec 5) (fill : Bool)
    (most : BitVec 16) : TimeAt now (s.runBmov p gd rd ra rb fill most).time := by
  unfold State.runBmov
  exact State.runSup_timeAt h (State.longRun_timeAt h (fun i s h => State.moveWord_timeAt h ..) ..) ..

/-! ### Drip -/

@[simp] theorem State.dripAdvance_time (s : State) (k : Fin 6) : (s.dripAdvance k).time = s.time := by
  simp only [State.dripAdvance]
  repeat' split
  all_goals simp

@[simp] theorem State.dripOwner_time (s : State) (code : Nat) : (s.dripOwner code).time = s.time := by simp [State.dripOwner]

@[simp] theorem State.dripFail_time (s : State) (k : Fin 6) (code a : Nat) :
    (s.dripFail k code a).time = s.time := by
  simp [State.dripFail]

@[simp] theorem State.dripRead_time (s : State) (code a : Nat) : (s.dripRead code a).time = s.time := by
  simp [State.dripRead]

/-! ### SornasAlu -/

@[simp] theorem aluData_time (s : State) (p : Proc) (gd : BitVec 3) (rd ra rb : BitVec 5) (fn : Nat) (used : Bool)
    (f : Nat → Core → Int → Int → Core × Int) :
    (aluData s p gd rd ra rb fn used f).time = s.time := by
  simp [aluData]

@[simp] theorem aluAddr_time (s : State) (p : Proc) (gd : BitVec 3) (rd ra rb : BitVec 5) (fn : Nat) (used : Bool)
    (adr : Int → Int → Int) (f : Nat → Core → Int → Int → Core × Int) :
    (aluAddr s p gd rd ra rb fn used adr f).time = s.time := by
  simp [aluAddr]

@[simp] theorem logicImm_time (s : State) (p : Proc) (gd : BitVec 3) (rd ra : BitVec 5) (imm : BitVec 13) (op : Nat)
    (g : Nat → Nat → Nat) :
    (logicImm s p gd rd ra imm op g).time = s.time := by
  simp [logicImm]

@[simp] theorem shiftImm_time (s : State) (p : Proc) (gd : BitVec 3) (rd ra : BitVec 5) (imm : BitVec 10) (kind : Nat)
    (f : Core → Nat → Int → Nat → Core × Int) :
    (shiftImm s p gd rd ra imm kind f).time = s.time := by
  simp [shiftImm]

@[simp] theorem bfx_time (s : State) (p : Proc) (gd : BitVec 3) (rd ra pos len1 : BitVec 5) (kind : Nat)
    (f : Nat → Nat → Nat → Nat → Nat → Int) :
    (bfx s p gd rd ra pos len1 kind f).time = s.time := by
  simp [bfx]

/-! ### SornasMul -/

@[simp] theorem mulOp_time (s : State) (p : Proc) (gd : BitVec 3) (rd ra rb : BitVec 5) (fn : Nat)
    (f : Nat → Core → Int → Int → Core × Int) :
    (mulOp s p gd rd ra rb fn f).time = s.time := by
  simp [mulOp]

@[simp] theorem macOne_time (s : State) (p : Proc) (gd : BitVec 3) (aa ab : BitVec 2) (ra rb : BitVec 5) (fn : Nat) (sat : Bool)
    (f : Int → Int → Int → Int) :
    (macOne s p gd aa ab ra rb fn sat f).time = s.time := by
  simp [macOne]

@[simp] theorem macTwo_time (s : State) (p : Proc) (gd : BitVec 3) (aa ab : BitVec 2) (ra rb : BitVec 5) (fn : Nat) (sat : Bool)
    (f : Int → Int × Int → Int × Int → Int) :
    (macTwo s p gd aa ab ra rb fn sat f).time = s.time := by
  simp [macTwo]

@[simp] theorem accOp_time (s : State) (p : Proc) (gd : BitVec 3) (aa ab : BitVec 2) (ra rb : BitVec 5) (fn : Nat) (legal : Bool)
    (f : Core → Core) :
    (accOp s p gd aa ab ra rb fn legal f).time = s.time := by
  simp [accOp]

@[simp] theorem divOp_time (s : State) (p : Proc) (gd : BitVec 3) (rd ra rb : BitVec 5) (fn : Nat) (z0 : Nat → Int → Int)
    (f : Nat → Core → Int → Int → Core × Int) :
    (divOp s p gd rd ra rb fn z0 f).time = s.time := by
  simp [divOp]

/-! ### Tap -/

@[simp] theorem State.modJtag_time (s : State) (f : Tap1149 → Tap1149) : (s.modJtag f).time = s.time := rfl

@[simp] theorem State.tapLoad_time (s : State) (ir : TapIr) (d : BitVec 1254) : (s.tapLoad ir d).time = s.time := by
  simp [State.tapLoad]

@[simp] theorem State.tapTest_time {s : State} {go : State → State} (hgo : s.SameTime (go s)) : (s.tapTest go).time = s.time := by
  unfold State.tapTest
  split
  · exact hgo
  · simp

@[simp] theorem State.scan_time (s : State) (ir : TapIr) (balls : BitVec 418) (cells : BitVec 1254) :
    (s.scan ir balls cells).time = s.time := by
  simp [State.scan]

/-! ### Tick -/

@[simp] theorem State.clocks_time (s : State) (d g : Nat) : (s.clocks d g).time = s.time := by simp [State.clocks]

@[simp] theorem State.countCycles_time (s : State) (p : Proc) (n : Nat) : (s.countCycles p n).time = s.time := by
  unfold State.countCycles
  split
  · rfl
  · extract_lets user
    refine forN_time (fun s i => ?_) _ _
    extract_lets s1
    have h1 : s1.time = s.time := by
      unfold s1
      split <;> simp
    rw [State.sameTime_iff]
    split
    · rw [State.pmc_time, h1]
    · exact h1

@[simp] theorem State.countAll_time (s : State) : s.countAll.time = s.time := by simp [State.countAll]
@[simp] theorem State.fabricTick_time (s : State) : s.fabricTick.time = s.timeTick.time := by simp [State.fabricTick]

/-! ### The commands -/

/-- A command's effect keeps TIME, and the increment in the range of R57. -/
def KeepsTime (s : State) (o : Host.Outcome State Fault Refusal) : Prop :=
  ∀ t, o = .next t → ∀ now, TimeAt now s.time → TimeAt now t.time

theorem keepsTime_ok {s t : State} (h : ∀ {now}, TimeAt now s.time → TimeAt now t.time) : KeepsTime s (ok t) := by
  rintro _ ⟨⟩ now
  exact h

/-! ### Time -/

theorem State.asWriteTimeCtrl_timeAt {s : State} (h : TimeAt now s.time) (ag : Agent) (w : Word) :
    TimeAt now (s.asWrite ag TIME_CTRL 0 fun s => s.writeTimeCtrl w).time :=
  State.asWrite_timeAt h (State.writeTimeCtrl_timeAt h w)

@[simp] theorem step_keepsTime (ag : Agent) (v : Word) (s : State) : KeepsTime s (exec (.step ag v) s) :=
  keepsTime_ok fun h => State.asWriteTimeCtrl_timeAt h ag _

@[simp] theorem srcChange_keepsTime (ag : Agent) (v : Word) (s : State) : KeepsTime s (exec (.srcChange ag v) s) :=
  keepsTime_ok fun h => State.asWriteTimeCtrl_timeAt h ag _

@[simp] theorem sourceLost_keepsTime (s : State) : KeepsTime s (exec (.sourceLost) s) := by
  refine keepsTime_ok fun h => ?_
  dsimp only
  split
  · split
    · exact State.enterHoldover_timeAt (by simpa using h)
    · split <;> simpa using h
  · exact h

/-! ### GalleryCore -/

@[simp] theorem timeEventCommit_keepsTime (n : Fin 49152) (s : State) : KeepsTime s (exec (.timeEventCommit n) s) := by
  refine keepsTime_ok fun h => ?_
  split
  · exact h
  · split
    · split
      · next hf => exact State.slotFault_time hf ▸ h
      · simpa using h
    · exact h

/-! ### Pwm -/

@[simp] theorem tableEdge_keepsTime (k : Fin 16) (p : Fin 3) (s : State) : KeepsTime s (exec (.tableEdge k p) s) := by
  refine keepsTime_ok fun h => ?_
  dsimp only
  split <;> simp [h]

/-! ### Gdl -/

@[simp] theorem faultFrame_keepsTime (j : Fin 48) (code : Option (Bool × Bool)) (s : State) :
    KeepsTime s (exec (.faultFrame j code) s) := by
  refine keepsTime_ok fun h => ?_
  dsimp only
  repeat' split
  all_goals simp [h]

/-! ### Protect -/

@[simp] theorem settleEnd_keepsTime (c : Fin 64) (v vref vrefl vrefh : Int) (s : State) :
    KeepsTime s (exec (.settleEnd c v vref vrefl vrefh) s) := by
  refine keepsTime_ok fun h => ?_
  dsimp only
  repeat' split
  all_goals simp [h]

/-! ### MachineCtl -/

@[simp] theorem ssxPhaseTimer_keepsTime (x : Fin 8) (s : State) : KeepsTime s (exec (.ssxPhaseTimer x) s) := by
  refine keepsTime_ok fun h => ?_
  split
  · exact h
  · split
    · exact h
    · split <;> simpa using h

/-! ### Position -/

@[simp] theorem quadEdge_keepsTime (k : Fin 16) (a b : Bool) (held : Nat) (s : State) : KeepsTime s (exec (.quadEdge k a b held) s) := by
  refine keepsTime_ok fun h => ?_
  dsimp only
  repeat' split
  all_goals simp [h]

@[simp] theorem hallEdge_keepsTime (k : Fin 16) (h : BitVec 3) (held : Nat) (s : State) : KeepsTime s (exec (.hallEdge k h held) s) := by
  refine keepsTime_ok fun h => ?_
  dsimp only
  repeat' split
  all_goals simp [h]

/-! ### SafetySet -/

@[simp] theorem ccvCheck_keepsTime (hit : Option (Fin 16384 × Word)) (s : State) : KeepsTime s (exec (.ccvCheck hit) s) := by
  refine keepsTime_ok fun h => ?_
  dsimp only
  repeat' split
  all_goals simp [h]

/-! ### Cells -/

@[simp] theorem imageCopyDone_keepsTime (c : Fin 128) (s : State) : KeepsTime s (exec (.imageCopyDone c) s) := by
  refine keepsTime_ok fun {now} h => ?_
  split
  · next p _ _ =>
    have ht : TimeAt now (s.loadCell c p).2.time := by simpa using h
    split
    · next heq => rw [heq] at ht; simpa using ht
    · next heq => rw [heq] at ht; simpa using ht
  · exact h

@[simp] theorem migrationComplete_keepsTime (c : Fin 128) (s : State) : KeepsTime s (exec (.migrationComplete c) s) := by
  refine keepsTime_ok fun h => ?_
  split
  · extract_lets p r1 r2 back s0 rec_ s1 d s2 gen cold s3 s4 s5
    have hr1 : r1.2.time = s.time := by simp [r1]
    have hr2 : r2.2.time = s.time := by
      unfold r2
      split
      · split
        · simp [hr1]
        · exact hr1
      · exact hr1
    split
    · dsimp only
      split <;> simp [back, hr2, h]
    · have h1 : s1.time = s.time := by simp [s1, s0, hr2]
      have h2 : s2.time = s.time := by
        unfold s2
        split <;> simp [h1]
      have h3 : s3.time = s.time := by
        unfold s3
        rw [State.modCell_time]
        cases gen <;> simp [h2]
      have h4 : s4.time = s.time := by
        unfold s4
        split <;> simp [h3]
      have h5 : s5.time = s.time := by simp [s5, h4]
      split <;> simp [h5, h]
  · exact h

@[simp] theorem trapesc_keepsTime (c : Fin 128) (s : State) : KeepsTime s (exec (.trapesc c) s) := by
  refine keepsTime_ok fun h => ?_
  split
  · split
    · split
      · simpa using h
      · exact h
    · exact h
  · exact h

@[simp] theorem pmcOverflowEntry_keepsTime (c : Fin 128) (s : State) : KeepsTime s (exec (.pmcOverflowEntry c) s) := by
  refine keepsTime_ok fun h => ?_
  dsimp only
  split
  · exact h
  · split
    · next heq => rw [State.modCell_time, State.pushFifo_time heq]; exact h
    · exact h

/-! ### Thermal -/

@[simp] theorem sensorRound_keepsTime (t : Vector Half 24) (s : State) : KeepsTime s (exec (.sensorRound t) s) := by
  refine keepsTime_ok fun h => ?_
  dsimp only
  repeat' split
  all_goals simp [h]

@[simp] theorem currentEstimate_keepsTime (c q d : Nat) (s : State) : KeepsTime s (exec (.currentEstimate c q d) s) := by
  refine keepsTime_ok fun {now} h => ?_
  split
  · exact h
  · extract_lets k i bud l under
    split
    extract_lets overs
    have hest (x : State × Nat) (hx : x = if i < 65536 then (s, i.toNat) else (s.used, s.free.toNat)) : TimeAt now x.1.time := by
      rw [hx]
      split
      · exact h
      · simpa using h
    split
    next heq =>
    have h0 := hest _ heq.symm
    dsimp only
    split
    · simpa using h0
    · simpa using h0

@[simp] theorem lanternStep_keepsTime (r : Fin 4) (s : State) : KeepsTime s (exec (.lanternStep r) s) := by
  refine keepsTime_ok fun h => ?_
  dsimp only
  repeat' split
  all_goals simp [h]

/-! ### Grotto -/

@[simp] theorem clockMonitor_keepsTime (ref : Nat) (fab : Option Nat) (genA genB : BitVec 4) (s : State) :
    KeepsTime s (exec (.clockMonitor ref fab genA genB) s) := by
  refine keepsTime_ok fun h => ?_
  dsimp only
  repeat' split
  all_goals simp [h]

/-! ### XLinks -/

@[simp] theorem xlTimeout_keepsTime (k : Fin 4) (s : State) : KeepsTime s (exec (.xlTimeout k) s) := by
  refine keepsTime_ok fun h => ?_
  dsimp only
  repeat' split
  all_goals simp [h]

/-! ### Echo -/

@[simp] theorem ackTimeout_keepsTime (s : State) : KeepsTime s (exec (.ackTimeout) s) := by
  refine keepsTime_ok fun h => ?_
  split
  · exact h
  · rw [foldl_time]
    · exact h
    · refine fun s x => foldl_time (fun s u => ?_) _ _
      rw [State.sameTime_iff]
      split
      · split
        · simp
        · rfl
      · rfl

@[simp] theorem echoSlotTransmit_keepsTime (k : Fin 4) (s : State) : KeepsTime s (exec (.echoSlotTransmit k) s) := by
  refine keepsTime_ok fun h => ?_
  dsimp only
  repeat' split
  all_goals simp [h]

@[simp] theorem ttResp_keepsTime (k : Fin 4) (l : List Byte) (bad : Bool) (ago : Nat) (s : State) :
    KeepsTime s (exec (.ttResp k l bad ago) s) := by
  refine keepsTime_ok fun h => ?_
  dsimp only
  repeat' split
  all_goals simp [h]

/-! ### Ethernet -/

@[simp] theorem ethTransmit_keepsTime (k : Fin 4) (lead : Nat) (s : State) : KeepsTime s (exec (.ethTransmit k lead) s) := by
  refine keepsTime_ok fun h => ?_
  dsimp only
  repeat' split
  all_goals simp [h]

/-! ### Can -/

@[simp] theorem txSelection_keepsTime (k : Fin 8) (s : State) : KeepsTime s (exec (.txSelection k) s) := by
  refine keepsTime_ok fun h => ?_
  split
  · exact h
  · split
    · simpa using h
    · exact h

@[simp] theorem canTxEnd_keepsTime (k : Fin 8) (how : CanEnd) (s : State) : KeepsTime s (exec (.canTxEnd k how) s) := by
  refine keepsTime_ok fun h => ?_
  dsimp only
  repeat' split
  all_goals simp [h]

/-! ### Serial -/

@[simp] theorem i2cDone_keepsTime (k : Fin 2) (how : I2cEnd) (s : State) : KeepsTime s (exec (.i2cDone k how) s) := by
  refine keepsTime_ok fun h => ?_
  dsimp only
  repeat' split
  all_goals simp [h]

/-! ### Avs -/

@[simp] theorem avsFrameEnd_keepsTime (k : Fin 2) (ack : BitVec 2) (data : Half) (vdone : Bool) (s : State) :
    KeepsTime s (exec (.avsFrameEnd k ack data vdone) s) := by
  refine keepsTime_ok fun h => ?_
  split
  · exact h
  · split
    · split
      · split <;> simpa using h
      · split
        · split <;> simpa using h
        · split <;> simpa using h
        · split <;> simpa using h
        · simpa using h
    · exact h

/-! ### Mailbox -/

@[simp] theorem mailboxReply_keepsTime (k : Fin 5) (s : State) : KeepsTime s (exec (.mailboxReply k) s) := by
  refine keepsTime_ok fun h => ?_
  dsimp only
  repeat' split
  all_goals simp [h]

/-! ### GalleryFire -/

theorem State.takeCell_sameTime (s : State) (v : GEvent) : (s.takeCell v).SameTime s := by
  unfold State.takeCell
  split
  · next h => exact State.pushFifo_time h
  · trivial

theorem State.takeEdge_sameTime (s : State) (v : GEvent) (i : Issue) : (s.takeEdge v i).SameTime s := by
  unfold State.takeEdge
  dsimp only
  split
  · next h => exact State.pwmEdge_time h
  · trivial

theorem State.takePush_sameTime (s : State) (v : GEvent) : (s.takePush v).SameTime s := by
  unfold State.takePush
  split
  · next h => exact State.ringPush_time h
  · trivial

theorem State.takeSend_sameTime (s : State) (v : GEvent) : (s.takeSend v).SameTime s := by
  unfold State.takeSend
  dsimp only
  split
  · trivial
  · next h => exact (State.echoSend_time h).trans ((State.modEvent_time ..))
  · next h => exact (State.echoSend_time h).trans ((State.modEvent_time ..))

theorem State.takeIrq_sameTime (s : State) (v : GEvent) : (s.takeIrq v).SameTime s := by
  unfold State.takeIrq
  split
  · dsimp only
    split
    · trivial
    · split
      · next h => exact State.raiseLine_time h
      · trivial
  · trivial

theorem State.offerAgain_sameTime (s : State) (v : GEvent) (i : Issue) : (s.offerAgain v i).SameTime s := by
  unfold State.offerAgain
  split
  · exact s.takeCell_sameTime v
  · exact s.takeEdge_sameTime v i
  · exact s.takePush_sameTime v
  · exact s.takeSend_sameTime v
  · exact s.takeIrq_sameTime v
  · trivial

/-- A due slot served by an action whose outcomes keep the TIME unit. -/
theorem fire_keepsTime {s : State} {f : State → GEvent → Issue → Taken} (hf : ∀ v i, (f s v i).SameTime s) (e : Fin 4) (act : Nat)
    (quiet : Bool) : KeepsTime s (ok (s.fire e act quiet f)) := keepsTime_ok fun h => by
  rw [State.fire_time hf]
  exact h

@[simp] theorem nopAction_keepsTime (e : Fin 4) (s : State) : KeepsTime s (exec (.nopAction e) s) := by
  refine fire_keepsTime (fun _ _ => ?_) _ _ _
  rfl

@[simp] theorem cellEvent_keepsTime (e : Fin 4) (s : State) : KeepsTime s (exec (.cellEvent e) s) :=
  fire_keepsTime (fun v _ => s.takeCell_sameTime v) _ _ _

@[simp] theorem pwmEdge_keepsTime (e : Fin 4) (s : State) : KeepsTime s (exec (.pwmEdge e) s) :=
  fire_keepsTime (fun v i => s.takeEdge_sameTime v i) _ _ _

@[simp] theorem pwmLoadall_keepsTime (e : Fin 4) (s : State) : KeepsTime s (exec (.pwmLoadall e) s) := by
  refine fire_keepsTime (fun v _ => ?_) _ _ _
  dsimp only
  split
  · rfl
  · exact (foldl_time (fun s g => State.requestCommit_time ..) _ _).trans (State.modEvent_time ..)

@[simp] theorem adcTrigger_keepsTime (e : Fin 4) (s : State) : KeepsTime s (exec (.adcTrigger e) s) := by
  refine fire_keepsTime (fun _ _ => ?_) _ _ _
  exact State.adcGallery_time ..

@[simp] theorem pin_keepsTime (e : Fin 4) (s : State) : KeepsTime s (exec (.pin e) s) := by
  refine fire_keepsTime (fun _ _ => ?_) _ _ _
  exact State.pinAction_time ..

@[simp] theorem ringPush_keepsTime (e : Fin 4) (s : State) : KeepsTime s (exec (.ringPush e) s) :=
  fire_keepsTime (fun v _ => s.takePush_sameTime v) _ _ _

@[simp] theorem echoSend_keepsTime (e : Fin 4) (s : State) : KeepsTime s (exec (.echoSend e) s) :=
  fire_keepsTime (fun v _ => s.takeSend_sameTime v) _ _ _

@[simp] theorem columnIrq_keepsTime (e : Fin 4) (s : State) : KeepsTime s (exec (.columnIrq e) s) :=
  fire_keepsTime (fun v _ => s.takeIrq_sameTime v) _ _ _

@[simp] theorem safeCheck_keepsTime (e : Fin 4) (s : State) : KeepsTime s (exec (.safeCheck e) s) := by
  refine fire_keepsTime (fun _ _ => ?_) _ _ _
  exact State.heartbeat_time ..

@[simp] theorem holdRetry_keepsTime (e : Fin 4) (s : State) : KeepsTime s (exec (.holdRetry e) s) := by
  refine keepsTime_ok fun h => ?_
  split
  · split
    · exact h
    · split
      · exact h
      · split
        · exact h
        · dsimp only
          split
          · simpa using h
          · rw [State.applyTaken_time (State.offerAgain_sameTime ..)]
            simpa using h
  · exact h

@[simp] theorem holdTimeout_keepsTime (e : Fin 4) (s : State) : KeepsTime s (exec (.holdTimeout e) s) := by
  refine keepsTime_ok fun h => ?_
  dsimp only
  repeat' split
  all_goals simp [h]

@[simp] theorem submissionDecision_keepsTime (s : State) : KeepsTime s (exec (.submissionDecision) s) := by
  refine keepsTime_ok fun {now} h => ?_
  split
  · exact h
  · split
    · exact h
    · next s1 u st tag slot htake =>
      have h1 : TimeAt now s1.time := by rw [State.takeSub_time htake]; exact h
      extract_lets res s2 s3
      have h2 : TimeAt now s2.time := by
        unfold s2
        split
        · exact h1
        · simpa using h1
        · simpa using h1
      have h3 : TimeAt now s3.time := by
        unfold s3
        split
        · split
          · exact h2
          · simpa using h2
        · simpa using h2
        · split
          · exact h2
          · simpa using h2
        · exact h2
      split
      · split
        · exact h3
        · simpa using h3
      · exact h3

/-! ### Reset -/

@[simp] theorem selfTestWave_keepsTime (bad : Option (Byte × Bool × Byte)) (s : State) : KeepsTime s (exec (.selfTestWave bad) s) := by
  refine keepsTime_ok fun h => ?_
  dsimp only
  repeat' split
  all_goals simp [h]

/-! ### Bus -/

@[simp] theorem fabErrPop_keepsTime (ag : Agent) (v : Word) (s : State) : KeepsTime s (exec (.fabErrPop ag v) s) := by
  refine keepsTime_ok fun h => State.asWrite_timeAt h ?_
  split
  · simpa using h
  · exact h

@[simp] theorem transactionTimeout_keepsTime (ag : Agent) (write : Bool) (addr : Word) (s : State) :
    KeepsTime s (exec (.transactionTimeout ag write addr) s) := by
  refine keepsTime_ok fun h => ?_
  dsimp only
  repeat' split
  all_goals simp [h]

/-! ### SornasFlow -/

@[simp] theorem eventEntry_keepsTime (c : Fin 128) (s : State) : KeepsTime s (exec (.eventEntry c) s) := by
  refine keepsTime_ok fun h => ?_
  dsimp only
  split <;> simp [h]

@[simp] theorem accessPostedTrap_keepsTime (p : Proc) (s : State) : KeepsTime s (exec (.accessPostedTrap p) s) := by
  refine keepsTime_ok fun h => ?_
  dsimp only
  repeat' split
  all_goals simp [h]

/-! ### SornasLong -/

@[simp] theorem blkmac_keepsTime (p : Proc) (gd : BitVec 3) (aa ab : BitVec 2) (ra rb : BitVec 5) (fn : BitVec 8) (most : BitVec 16)
    (s : State) :
    KeepsTime s (exec (.blkmac p gd aa ab ra rb fn most) s) := by
  refine keepsTime_ok fun {now} h => ?_
  split
  · next c =>
    refine State.runMem_timeAt h ?_ ..
    extract_lets k n
    have hb := s.blkmac_timeAt h c aa (k.u .c ra.toNat) (k.u .c rb.toNat) n (fn.getLsbD 0) most.toNat
    split
    · next heq =>
      rw [heq, MemRes.keeps_done] at hb
      extract_lets s2
      have h2 : TimeAt now s2.time := by
        unfold s2
        split
        · simpa using hb
        · exact hb
      rw [MemRes.keeps_done]
      split
      · simpa using h2
      · exact h2
    · exact hb
  · exact State.runMem_timeAt h ((MemRes.keeps_done s).2 h) ..
  · exact State.runMem_timeAt h ((MemRes.keeps_done s).2 h) ..

@[simp] theorem ckpt_keepsTime (p : Proc) (gd : BitVec 3) (rd ra rb : BitVec 5) (fn : BitVec 8) (s : State) :
    KeepsTime s (exec (.ckpt p gd rd ra rb fn) s) := by
  refine keepsTime_ok fun {now} h => ?_
  dsimp only
  split
  · refine (congrArg (TimeAt now) (State.twinCheck_time ..)).mpr (State.runMem_timeAt h ?_ ..)
    split
    · simpa using h
    · split
      · simpa using h
      · split
        · simpa using h
        · split <;> simpa using h
  · exact State.runMem_timeAt h ((MemRes.keeps_done s).2 h) ..
  · exact State.runMem_timeAt h ((MemRes.keeps_done s).2 h) ..

@[simp] theorem submit_keepsTime (p : Proc) (gd : BitVec 3) (rd ra rb : BitVec 5) (fn : BitVec 8) (s : State) :
    KeepsTime s (exec (.submit p gd rd ra rb fn) s) := by
  refine keepsTime_ok fun {now} h => ?_
  extract_lets w wait
  split
  · extract_lets legal
    refine (congrArg (TimeAt now) (State.twinCheck_time ..)).mpr (State.runMem_timeAt h ?_ ..)
    extract_lets a base word s0 s1
    have h1 : TimeAt now s1.time := by simp [s1, s0, h]
    split
    · simpa using h
    · split
      · simpa using h
      · split
        · simpa using h1
        · exact h1
  · exact State.runMem_timeAt h ((MemRes.keeps_done s).2 h) ..
  · exact State.runMem_timeAt h ((MemRes.keeps_done s).2 h) ..

/-! ### Columns -/

@[simp] theorem interruptEntry_keepsTime (p : Proc) (s : State) : KeepsTime s (exec (.interruptEntry p) s) := by
  refine keepsTime_ok fun h => ?_
  dsimp only
  repeat' split
  all_goals simp [h]

@[simp] theorem wfi_keepsTime (p : Proc) (gd : BitVec 3) (rd ra rb : BitVec 5) (fn : Byte) (s : State) :
    KeepsTime s (exec (.wfi p gd rd ra rb fn) s) := by
  refine keepsTime_ok fun h => State.runSup_timeAt h ?_ ..
  split
  · exact h
  · simpa using h

@[simp] theorem timerCompare_keepsTime (ix : Fin 6) (s : State) : KeepsTime s (exec (.timerCompare ix) s) := by
  refine keepsTime_ok fun h => ?_
  dsimp only
  repeat' split
  all_goals simp [h]

@[simp] theorem cacheWritebackLine_keepsTime (p : Proc) (gd : BitVec 3) (rd ra rb : BitVec 5) (s : State) :
    KeepsTime s (exec (.cacheWritebackLine p gd rd ra rb) s) := by
  refine keepsTime_ok fun h => State.runCache_timeAt h (fun c a => ?_) ..
  rw [MemRes.keeps_done]
  split
  · exact State.writeBack_timeAt h ..
  · exact h

@[simp] theorem cacheFlushData_keepsTime (p : Proc) (gd : BitVec 3) (rd ra rb : BitVec 5) (most : BitVec 10) (s : State) :
    KeepsTime s (exec (.cacheFlushData p gd rd ra rb most) s) :=
  keepsTime_ok fun h => State.runCache_timeAt h (fun c _ => State.flushAll_timeAt h c most.toNat) ..

@[simp] theorem savem_keepsTime (p : Proc) (gd : BitVec 3) (rd ra rb : BitVec 5) (fn : Byte) (most : BitVec 6) (s : State) :
    KeepsTime s (exec (.savem p gd rd ra rb fn most) s) := by
  refine keepsTime_ok fun h => State.runSup_timeAt h (State.longRun_timeAt h (fun i s h => ?_) ..) ..
  extract_lets a k v
  have hx := s.sStore_timeAt h p a 4 v
  split
  · next heq => exact hx.val heq
  · next heq => exact hx.stay heq
  · next heq => exact hx.bad heq

@[simp] theorem restm_keepsTime (p : Proc) (gd : BitVec 3) (rd ra rb : BitVec 5) (fn : Byte) (most : BitVec 6) (s : State) :
    KeepsTime s (exec (.restm p gd rd ra rb fn most) s) := by
  refine keepsTime_ok fun h => State.runSup_timeAt h (State.longRun_timeAt h (fun i s h => ?_) ..) ..
  extract_lets a
  have hx := s.sLoad_timeAt h p a 4
  split
  · next heq => simpa using hx.val heq
  · next heq => exact hx.stay heq
  · next heq => exact hx.bad heq

@[simp] theorem confirmedAliasRead_keepsTime (c : Fin 5) (rd : BitVec 5) (wake agreed : Bool) (s : State) :
    KeepsTime s (exec (.confirmedAliasRead c rd wake agreed) s) := by
  refine keepsTime_ok fun h => State.runMem_timeAt h ?_ ..
  extract_lets a
  have hx := s.sLoad_timeAt h (.col c) a 4
  split
  · next heq =>
    have h1 := hx.val heq
    dsimp only
    rw [MemRes.keeps_done]
    split
    · simpa using h1
    · simpa using h1
  · next heq => exact hx.stay heq
  · next heq => exact hx.bad heq

@[simp] theorem columnWatchdogExpiry_keepsTime (c : Fin 5) (s : State) : KeepsTime s (exec (.columnWatchdogExpiry c) s) := by
  refine keepsTime_ok fun {now} h => ?_
  extract_lets n i s1
  have h1 : TimeAt now s1.time := by simpa [s1] using h
  split
  · exact h
  · split
    · simp [h1]
    · exact h1

/-! ### Drip -/

@[simp] theorem dripSlice_keepsTime (k : Fin 6) (fails : List Nat) (s : State) : KeepsTime s (exec (.dripSlice k fails) s) := by
  refine keepsTime_ok fun h => ?_
  dsimp only
  repeat' split
  all_goals simp [h]

/-! ### Tap -/

@[simp] theorem tapReset_keepsTime (s : State) : KeepsTime s (exec (.tapReset) s) := keepsTime_ok id

/-! ### Tick -/

@[simp] theorem rateCheck_keepsTime (refCycles : Nat) (s : State) : KeepsTime s (exec (.rateCheck refCycles) s) := by
  refine keepsTime_ok fun {now} h => ?_
  extract_lets adv want src s1 s2
  have h1 : TimeAt now s1.time := h
  split
  · exact h
  · split
    · split <;> simpa [s2] using h1
    · simpa using h1

/-- The commands that move TIME or clear it: its tick, and the resets of the widest scope. -/
def movesTime : Instr → Bool
  | .timeAdvance | .powerOnReset | .supplyMonitorReset _ _ => true
  | _ => false

/-- Every other command keeps TIME and the range of the increment. Those with a lemma above cite it; the second group does something in one
case of the state alone; what the others do is made of the operations above. -/
theorem exec_keepsTime {i : Instr} (hi : movesTime i = false) (s : State) : KeepsTime s (exec i s) := by
  cases i
  case timeAdvance | powerOnReset | supplyMonitorReset => cases hi
  case step | srcChange | sourceLost | timeEventCommit | tableEdge | faultFrame | settleEnd | ssxPhaseTimer | quadEdge |
    hallEdge | ccvCheck | imageCopyDone | migrationComplete | trapesc | pmcOverflowEntry | sensorRound | currentEstimate |
    lanternStep | clockMonitor | xlTimeout | ackTimeout | echoSlotTransmit | ttResp | ethTransmit | txSelection | canTxEnd |
    i2cDone | avsFrameEnd | mailboxReply | nopAction | cellEvent | pwmEdge | pwmLoadall | adcTrigger | pin | ringPush | echoSend |
    columnIrq | safeCheck | holdRetry | holdTimeout | submissionDecision | selfTestWave | fabErrPop | transactionTimeout |
    eventEntry | accessPostedTrap | blkmac | ckpt | submit | interruptEntry | wfi | timerCompare | cacheWritebackLine |
    cacheFlushData | savem | restm | confirmedAliasRead | columnWatchdogExpiry | dripSlice | tapReset | rateCheck => simp
  case submission | listEdge | minPulseRelease | deadTimeExpiry | replyFrame | gdlReplyTimeout | episodeEnd | commutation |
    scanStart | adcResult | groupStart | ssiFrameEnd | comparePulseEnd | migrationHoldTimeout | heartbeatTimeout | ascExit |
    envelopeTimeout | ttTimeout | spiWordDone | xspiDone | uartTxByteDone | pinPulseEnd | avsResend | avsStatusPoll | avsTimeout |
    ss1 | sto | release | clrflt | disch | pwrreq | openSession | paramWrite | check | confirm | loadconf | close | paramRead |
    dbgDecision | abortComplete | colhHaltReset | resetRelease | quiescence | quiescenceTimeout | entryDrain | entryCommit |
    entryComplete | dozeExit | wake | wakePowerUp | wakePllLock | wakeFailure | wakeRetry | errorEscalation | eret | mts |
    waitTimeout | fenceE | fenceComplete =>
    refine keepsTime_ok fun h => ?_
    split <;> simp [h]
  all_goals
    refine keepsTime_ok fun h => ?_
    simp [h]

end

/-! ### The tick -/

/-- TIME after one fabric tick (R56, R64). -/
theorem TimeUnit.after_one (t : TimeUnit) : t.after 1 = t.now.toNat + t.inc.toNat + t.slewSign * 2 ^ 22 := by
  unfold TimeUnit.after TimeUnit.slewSign
  split_ifs <;> omega

/-- With an increment in the range of R57 a tick moves TIME forward, by less than 256 ns. -/
theorem TimeUnit.IncOk.after_one {t : TimeUnit} (h : t.IncOk) :
    (t.now.toNat : Int) ≤ t.after 1 ∧ t.after 1 < t.now.toNat + 2 ^ 40 := by
  unfold TimeUnit.IncOk incNom incLim at h
  rw [t.after_one]
  unfold TimeUnit.slewSign
  split_ifs <;> omega

theorem State.doStep_none {s : State} (h : s.time.stepTarget = none) : s.doStep = s := by
  unfold State.doStep
  rw [h]

/-- The TIME unit that a step to `target` leaves (R62). -/
def TimeUnit.stepped (t : TimeUnit) (tick : Nat) (target : Dword) : TimeUnit :=
  { t with
    now := BitVec.ofNat 96 (target.toNat * 2 ^ 32), slew := 0, first := true, stepTick := some tick, stepTarget := none
    rateFrom := t.rateFrom + (target.toNat * 2 ^ 32 - t.now.toNat) }

theorem State.doStep_forward {s : State} {target : Dword} (h : s.time.stepTarget = some target)
    (hlt : s.time.now.toNat < target.toNat * 2 ^ 32) : s.doStep.time = s.time.stepped s.tick target := by
  unfold State.doStep
  rw [h]
  dsimp only
  rw [if_pos hlt]
  split <;> rfl

theorem State.doStep_refused {s : State} {target : Dword} (h : s.time.stepTarget = some target)
    (hge : target.toNat * 2 ^ 32 ≤ s.time.now.toNat) :
    s.doStep = ({ s with time := { s.time with stepTarget := none } }).flag TIME_STAT 0 TIME_STAT_STEP_REF := by
  unfold State.doStep
  rw [h]
  dsimp only
  rw [if_neg (Nat.not_lt.2 hge)]

/-- A step moves TIME forward or leaves it. -/
theorem State.le_doStep (s : State) : s.time.now.toNat ≤ s.doStep.time.now.toNat := by
  cases h : s.time.stepTarget with
  | none => rw [State.doStep_none h]
  | some target =>
    by_cases hlt : s.time.now.toNat < target.toNat * 2 ^ 32
    · have htarget := target.isLt
      rw [State.doStep_forward h hlt, TimeUnit.stepped, BitVec.toNat_ofNat, Nat.mod_eq_of_lt (by omega)]
      exact hlt.le
    · rw [State.doStep_refused h (Nat.not_lt.1 hlt), State.flag_time]

@[simp] theorem State.doStep_inc (s : State) : s.doStep.time.inc = s.time.inc := by
  cases h : s.time.stepTarget with
  | none => rw [State.doStep_none h]
  | some target =>
    by_cases hlt : s.time.now.toNat < target.toNat * 2 ^ 32
    · rw [State.doStep_forward h hlt, TimeUnit.stepped]
    · rw [State.doStep_refused h (Nat.not_lt.1 hlt), State.flag_time]

@[simp] theorem State.timeTick_inc (s : State) : s.timeTick.time.inc = s.time.inc := State.doStep_inc _

/-- A fabric tick moves TIME forward. -/
theorem State.le_timeTick {s : State} (hinc : s.time.IncOk) (hroom : s.time.now.toNat + 2 ^ 40 < 2 ^ 96) :
    s.time.now.toNat ≤ s.timeTick.time.now.toNat := by
  obtain ⟨hle, hlt⟩ := hinc.after_one
  refine le_trans ?_ (State.le_doStep _)
  rw [BitVec.toNat_ofNat, Nat.mod_eq_of_lt (by omega)]
  omega

theorem State.timeRef_time (s : State) : ∃ up, up ≤ 1 ∧ s.timeRef.time =
    { s.time with now := s.time.now + BitVec.ofNat 96 (s.time.inc.toNat * 128 / 5 + up) } := by
  refine ⟨if s.time.inc.toNat * 128 % 5 = 0 then 0 else s.free.toNat % 2, ?_, ?_⟩
  · split <;> omega
  · unfold State.timeRef
    dsimp only
    split <;> rfl

/-- A reference cycle moves TIME forward. -/
theorem State.le_timeRef {s : State} (hroom : s.time.now.toNat + 2 ^ 40 < 2 ^ 96) :
    s.time.now.toNat ≤ s.timeRef.time.now.toNat := by
  obtain ⟨up, hup, htime⟩ := s.timeRef_time
  have hinc := s.time.inc.isLt
  rw [htime, BitVec.toNat_add, BitVec.toNat_ofNat, Nat.mod_eq_of_lt (a := _ / 5 + up) (by omega), Nat.mod_eq_of_lt (by omega)]
  omega

/-! ### The step -/

/-- TIME goes on from `s` to `t`: the increment stays in the range of R57, and TIME does not run backward while it is short of its end, but
for a power-on reset. -/
def State.GoesOn (s t : State) : Prop :=
  s.time.IncOk → t.time.IncOk ∧
    (s.time.now.toNat + 2 ^ 40 < 2 ^ 96 → s.time.now.toNat ≤ t.time.now.toNat ∨ t.heldScope = 3)

theorem KeepsTime.goesOn {s t : State} {o : Host.Outcome State Fault Refusal} (h : KeepsTime s o) (ht : o = .next t) : s.GoesOn t := by
  intro hinc
  obtain ⟨hnow, hinc'⟩ := h t ht s.time.now ⟨rfl, hinc⟩
  exact ⟨hinc', fun _ => .inl (le_of_eq (congrArg BitVec.toNat hnow.symm))⟩

theorem timeAdvance_goesOn {s t : State} (ht : exec .timeAdvance s = .next t) : s.GoesOn t := by
  rw [exec_timeAdvance, execTimeAdvance, ok, Host.Outcome.next.injEq] at ht
  subst ht
  intro hinc
  split
  · exact ⟨hinc, fun _ => .inl le_rfl⟩
  · split
    · rw [State.fabricTick_time]
      refine ⟨?_, fun hroom => .inl (State.le_timeTick hinc hroom)⟩
      unfold TimeUnit.IncOk
      rw [State.timeTick_inc]
      exact hinc
    · rw [State.clocks_time]
      refine ⟨?_, fun hroom => .inl (State.le_timeRef hroom)⟩
      obtain ⟨up, -, htime⟩ := s.timeRef_time
      rw [htime]
      exact hinc

theorem timeReset_incOk : timeReset.IncOk := ⟨by decide, by decide⟩

theorem powerOnReset_goesOn {s t : State} (ht : exec .powerOnReset s = .next t) : s.GoesOn t := by
  rw [exec_powerOnReset, execPowerOnReset, ok, Host.Outcome.next.injEq] at ht
  subst ht
  exact fun _ => ⟨by simpa [State.reset] using timeReset_incOk, fun _ => .inr rfl⟩

/-! The start-up sequence stands apart from what the Grotto does at a reset. -/

theorem State.orderSto_stoFrame (s : State) (x : Nat) : s.StoFrame (s.orderSto x) := by
  unfold State.orderSto
  split
  · rfl
  · exact s.setOut_stoFrame ..

theorem State.orderAsc_stoFrame (s : State) (x : Nat) : s.StoFrame (s.orderAsc x) := by
  unfold State.orderAsc
  split
  · exact s.setOut_stoFrame ..
  · exact s.orderSto_stoFrame x

theorem State.safeDecision_stoFrame (s : State) (x : Nat) : s.StoFrame (s.safeDecision x) := by
  unfold State.safeDecision
  split
  · rfl
  · split
    · exact s.orderSto_stoFrame x
    · exact s.orderAsc_stoFrame x

theorem State.groupOrder_stoFrame (s : State) (xs : List Nat) (entry unit : Nat) (detail : Option Nat) :
    s.StoFrame (s.groupOrder xs entry unit detail) := by
  refine (State.StoFrame.foldl (fun s x => ?_) xs s).trans (State.gLog_stoFrame ..)
  split
  · exact (s.safeDecision_stoFrame x).trans (State.setFld_stoFrame ..)
  · rfl

theorem State.grottoTold_stoFrame (s : State) : s.StoFrame s.grottoTold :=
  (s.modGrt_stoFrame _).trans (State.groupOrder_stoFrame ..)

@[simp] theorem State.grottoTold_heldScope (s : State) : s.grottoTold.heldScope = s.heldScope := by
  unfold State.heldScope
  rw [s.grottoTold_stoFrame]

theorem State.resetTo_power_time (s : State) : (s.resetTo 3).time = timeReset := by
  unfold State.resetTo
  extract_lets copy s2 s3
  have h3 : s3.time = timeReset := rfl
  split
  · exact h3
  · rw [State.pairsRestart_time, h3]

/-- A reset of the widest scope begins, or joins one of that scope that lasts. -/
theorem State.beginReset_power (s : State) (causes : List Fld) : (s.beginReset 3 causes).time = s.time ∨
    (s.beginReset 3 causes).time = timeReset ∧ (s.beginReset 3 causes).heldScope = 3 := by
  unfold State.beginReset
  split
  · exact .inl (by simp)
  · exact .inr ⟨by simp [s.resetTo_power_time], by rw [State.grottoTold_heldScope]; rfl⟩

theorem State.beginReset_power_goesOn (s : State) (low : Prop) [Decidable low] (causes : List Fld) :
    s.GoesOn (if low then s.beginReset 3 causes else s) := by
  intro hinc
  split
  · obtain htime | ⟨htime, hheld⟩ := s.beginReset_power causes
    · rw [htime]
      exact ⟨hinc, fun _ => .inl le_rfl⟩
    · rw [htime]
      exact ⟨timeReset_incOk, fun _ => .inr hheld⟩
  · exact ⟨hinc, fun _ => .inl le_rfl⟩

theorem supplyMonitorReset_goesOn {s t : State} {rail : Fin 3} {mv : Nat} (ht : exec (.supplyMonitorReset rail mv) s = .next t) :
    s.GoesOn t := by
  rw [exec_supplyMonitorReset, execSupplyMonitorReset, ok, Host.Outcome.next.injEq] at ht
  subst ht
  exact s.beginReset_power_goesOn _ _

/-- TIME goes on through every command. -/
theorem exec_goesOn {i : Instr} {s t : State} (ht : exec i s = .next t) : s.GoesOn t := by
  cases i
  case timeAdvance => exact timeAdvance_goesOn ht
  case powerOnReset => exact powerOnReset_goesOn ht
  case supplyMonitorReset => exact supplyMonitorReset_goesOn ht
  all_goals exact (exec_keepsTime rfl s).goesOn ht

theorem step_goesOn {s t : State} (ht : step s = .next t) : s.GoesOn t := by
  unfold step at ht
  split at ht
  · cases ht
    exact fun hinc => ⟨hinc, fun _ => .inl le_rfl⟩
  · exact (exec_goesOn ht :)

/-- Settles O4: TIME goes on through every step, with its increment in the range of R57. -/
theorem stepKeepsIncrementInRange : Obligations.StepKeepsIncrementInRange := by
  unfold Obligations.StepKeepsIncrementInRange
  intro s t hs ht
  exact (step_goesOn ht hs).1

/-- Settles O6: TIME goes on through every step, and a power-on reset alone takes it back. -/
theorem timeNeverRunsBackward : Obligations.TimeNeverRunsBackward := by
  unfold Obligations.TimeNeverRunsBackward
  intro s t hs hroom ht
  exact (step_goesOn ht hs).2 hroom

end Sys2Proof.Machine


/-! ## TIME: the writes that the increment and the slew take (R56, R57, R64, R65) -/

namespace Sys2Proof.Machine

/-- Settles O7: every clause evaluates, the register store of the reset state being empty. -/
theorem resetMeetsTheInvariants : Obligations.ResetMeetsTheInvariants := by
  unfold Obligations.ResetMeetsTheInvariants
  have hinc : State.reset.incOk := ⟨by decide, by decide⟩
  have hlog : State.reset.logOk := Nat.zero_le _
  exact ⟨rfl, hinc, hlog, rfl, rfl, rfl, rfl, rfl, rfl, fun _ _ => rfl⟩

theorem State.writeIncInt_servo {s : State} (h : s.bit TIME_CTRL 0 TIME_CTRL_SERVO_EN = true) (v : Word) :
    s.writeIncInt v = s := by
  rw [State.writeIncInt, if_pos h]

theorem State.writeIncFrac_servo {s : State} (h : s.bit TIME_CTRL 0 TIME_CTRL_SERVO_EN = true) (v : Word) :
    s.writeIncFrac v = s := by
  rw [State.writeIncFrac, if_pos h]

theorem State.writeSlew_servo {s : State} (h : s.bit TIME_CTRL 0 TIME_CTRL_SERVO_EN = true) (v : Word) :
    s.writeSlew v = s := by
  rw [State.writeSlew, if_pos h]

/-- Settles O8: each of the three writes asks for SERVO_EN first. -/
theorem servoOwnsTheIncrement : Obligations.ServoOwnsTheIncrement := by
  unfold Obligations.ServoOwnsTheIncrement
  intro ag v s hservo
  refine ⟨fun hacc => ?_, fun hacc => ?_, fun hacc => ?_⟩
  · rw [exec_timeIncIntWrite, execTimeIncIntWrite, asWrite_ok hacc, State.writeIncInt_servo hservo, ok]
  · rw [exec_timeIncFracWrite, execTimeIncFracWrite, asWrite_ok hacc, State.writeIncFrac_servo hservo, ok]
  · rw [exec_timeSlewWrite, execTimeSlewWrite, asWrite_ok hacc, State.writeSlew_servo hservo, ok]

/-- The state with the increment `y`, shown in its registers, before the clamp is flagged. -/
def State.withInc (s : State) (y : Nat) : State :=
  (({ s with time := { s.time with inc := BitVec.ofNat 34 y } }).setReg TIME_INC_INT 0 (BitVec.ofNat 32 (y / 2 ^ 32))).setReg
    TIME_INC_FRAC 0 (BitVec.ofNat 32 y)

theorem State.setInc_eq (s : State) (x : Int) : s.setInc x =
    if x = clampI x (incNom - incLim) (incNom + incLim) then
      s.withInc (clampI x (incNom - incLim) (incNom + incLim)).toNat
    else (s.withInc (clampI x (incNom - incLim) (incNom + incLim)).toNat).flag TIME_STAT 0 TIME_STAT_INC_CLAMP := rfl

theorem State.withInc_reg_int (s : State) (y : Nat) : (s.withInc y).reg TIME_INC_INT 0 = BitVec.ofNat 32 (y / 2 ^ 32) := by
  rw [State.withInc, reg_setReg_other _ _ _ _ _ _ (by decide), reg_setReg_same]

theorem State.withInc_reg_frac (s : State) (y : Nat) : (s.withInc y).reg TIME_INC_FRAC 0 = BitVec.ofNat 32 y :=
  reg_setReg_same ..

theorem State.withInc_reg_other {s : State} {y : Nat} {f : RegFam} {i : Nat} (hint : f.addr i ≠ TIME_INC_INT.addr 0)
    (hfrac : f.addr i ≠ TIME_INC_FRAC.addr 0) : (s.withInc y).reg f i = s.reg f i := by
  rw [State.withInc, reg_setReg_other _ _ _ _ _ _ hfrac, reg_setReg_other _ _ _ _ _ _ hint]
  rfl

theorem State.setInc_toNat (s : State) (x : Int) :
    ((s.setInc x).time.inc.toNat : Int) = clampI x (incNom - incLim) (incNom + incLim) := by
  obtain ⟨hlo, -⟩ := clamp_range x
  rw [setInc_inc, clamp_toNat]
  exact Int.toNat_of_nonneg (le_trans (by decide) hlo)

/-- What a write of the increment leaves besides the increment, its two registers and TIME_STAT. -/
theorem State.setInc_frame (s : State) (x : Int) :
    s.regsSame (s.setInc x) [TIME_INC_INT.addr 0, TIME_INC_FRAC.addr 0, TIME_STAT.addr 0] ∧
    s.setInc x = { s with time := { s.time with inc := (s.setInc x).time.inc }, regs := (s.setInc x).regs } := by
  refine ⟨fun f i hf => ?_, ?_⟩
  · simp only [List.mem_cons, List.not_mem_nil, or_false, not_or] at hf
    obtain ⟨hint, hfrac, hstat⟩ := hf
    rw [State.setInc_eq]
    split
    · exact State.withInc_reg_other hint hfrac
    · rw [reg_flag_other _ _ _ _ _ _ hstat, State.withInc_reg_other hint hfrac]
  · rw [State.setInc_eq]
    split <;> rfl

/-- The increment's registers show it, and INC_CLAMP is set exactly where the clamp acted (R56, R57). -/
theorem State.setInc_regs (s : State) (x : Int) :
    (s.setInc x).reg TIME_INC_INT 0 = BitVec.ofNat 32 ((s.setInc x).time.inc.toNat / 2 ^ 32) ∧
    (s.setInc x).reg TIME_INC_FRAC 0 = BitVec.ofNat 32 (s.setInc x).time.inc.toNat ∧
    (x = clampI x (incNom - incLim) (incNom + incLim) → (s.setInc x).reg TIME_STAT 0 = s.reg TIME_STAT 0) ∧
    (x ≠ clampI x (incNom - incLim) (incNom + incLim) → (s.setInc x).bit TIME_STAT 0 TIME_STAT_INC_CLAMP = true) := by
  rw [setInc_inc, clamp_toNat, State.setInc_eq]
  refine ⟨?_, ?_, fun hx => ?_, fun hx => ?_⟩
  · split
    · exact State.withInc_reg_int ..
    · rw [reg_flag_other _ _ _ _ _ _ (by decide), State.withInc_reg_int]
  · split
    · exact State.withInc_reg_frac ..
    · rw [reg_flag_other _ _ _ _ _ _ (by decide), State.withInc_reg_frac]
  · rw [if_pos hx, State.withInc_reg_other (by decide) (by decide)]
  · rw [if_neg hx]
    exact bit_flag_same _ _ _ _ (by decide)

theorem sx_toNat (v : Word) : sx 32 v.toNat = v.toInt := by
  have hlt := v.isLt
  rw [BitVec.toInt_eq_toNat_cond, sx, Nat.mod_eq_of_lt hlt]
  split_ifs <;> omega

/-- Settles O9: the increment goes through the clamp of R57 into force and into its registers. -/
theorem incrementAndSlewWrites : Obligations.IncrementAndSlewWrites := by
  unfold Obligations.IncrementAndSlewWrites
  intro ag v s hservo
  have hoff : ¬ s.bit TIME_CTRL 0 TIME_CTRL_SERVO_EN = true := by rw [hservo]; decide
  refine ⟨fun hacc => ?_, fun hacc => ?_, fun hacc => ?_⟩
  · rw [exec_timeIncIntWrite, execTimeIncIntWrite, asWrite_ok hacc, State.writeIncInt, if_neg hoff, ok]
  · rw [exec_timeIncFracWrite, execTimeIncFracWrite, asWrite_ok hacc, State.writeIncFrac, if_neg hoff, ok]
    generalize ((s.fld TIME_INC_INT 0 TIME_INC_INT_INT * 2 ^ 32 + v.toNat : Nat) : Int) = x
    obtain ⟨hint, hfrac, hkeep, hclamp⟩ := s.setInc_regs x
    obtain ⟨hregs, hrest⟩ := s.setInc_frame x
    exact ⟨_, rfl, s.setInc_toNat x, hint, hfrac, hkeep, hclamp, hregs, hrest⟩
  · rw [exec_timeSlewWrite, execTimeSlewWrite, asWrite_ok hacc, State.writeSlew, if_neg hoff, ok, sx_toNat]

end Sys2Proof.Machine


/-! ## TIME: the tick (R56, R60, R62, R64) -/

namespace Sys2Proof.Machine

/-- What a fabric tick reads back of the state beside TIME. -/
def State.tickView (s : State) : Nat × List Host.Cell × List Instr × Word := (s.tick, s.mem, s.pending, s.reg TIME_STAT 0)

theorem State.tickView_foldl {α : Type} {f : State → α → State} (hf : ∀ (s : State) x, (f s x).tickView = s.tickView)
    (l : List α) (s : State) : (l.foldl f s).tickView = s.tickView := by
  induction l generalizing s with
  | nil => rfl
  | cons x l ih => exact (ih _).trans (hf s x)

theorem State.setReg_tickView {s : State} {f : RegFam} {i : Nat} {v : Word} (h : TIME_STAT.addr 0 ≠ f.addr i) :
    (s.setReg f i v).tickView = s.tickView := by
  rw [State.tickView, reg_setReg_other _ _ _ _ _ _ h]
  rfl

theorem TIME_STAT_ne_PWM_BSTAT : ∀ k : Fin 16, TIME_STAT.addr 0 ≠ PWM_BSTAT.addr k.val := by decide

theorem State.settleLeg_tickView (s : State) (k : Fin 16) (t : Nat) (p : Fin 3) :
    (s.settleLeg k t p).tickView = s.tickView := by
  have hflag (c : Bool) (u : State) (F : Fld) : (if c then u.flag PWM_BSTAT k.val F else u).tickView = u.tickView := by
    split
    · exact State.setReg_tickView (TIME_STAT_ne_PWM_BSTAT k)
    · rfl
  exact (hflag ..).trans (hflag ..)

theorem State.softOff_tickView (s : State) : s.softOff.tickView = s.tickView := by
  refine State.tickView_foldl (fun s k => ?_) _ _
  split
  · split
    · exact State.tickView_foldl (fun s p => s.settleLeg_tickView ..) _ _
    · rfl
  · rfl

theorem State.clocks_tickView (s : State) (d g : Nat) : (s.clocks d g).tickView = s.tickView := by
  rw [State.clocks]
  split <;> rfl

@[simp] theorem State.pmc_tickView (s : State) (p : Proc) (e es : Nat) : (s.pmc p e es).tickView = s.tickView := by
  cases p <;> rfl

theorem State.countCycles_tickView (s : State) (p : Proc) (n : Nat) : (s.countCycles p n).tickView = s.tickView := by
  unfold State.countCycles
  split
  · rfl
  · extract_lets user
    refine State.tickView_foldl (fun s i => ?_) _ _
    beta_reduce
    extract_lets s1
    have h1 : s1.tickView = s.tickView := by
      unfold s1
      split <;> simp
    split
    · rw [State.pmc_tickView, h1]
    · exact h1

theorem State.countAll_tickView (s : State) : s.countAll.tickView = s.tickView :=
  (State.tickView_foldl (fun s _ => s.countCycles_tickView ..) _ _).trans
    (State.tickView_foldl (fun s _ => s.countCycles_tickView ..) _ _)

theorem State.lanTick_tickView (s : State) (r : Fin 4) : (s.lanTick r).tickView = s.tickView := by
  unfold State.lanTick
  split
  · rfl
  · refine State.tickView_foldl (fun s j => ?_) _ _
    dsimp only
    split <;> rfl

/-- Beside TIME, a fabric tick counts itself, and keeps the memory and the commands that wait. -/
theorem State.fabricTick_tickView (s : State) : s.fabricTick.tickView = s.timeTick.tickView := by
  unfold State.fabricTick
  extract_lets s1 src s2 s3
  have h1 : s1.tickView = s.timeTick.tickView := (State.clocks_tickView ..).trans (State.softOff_tickView _)
  have hcycles : ∀ (u : State) (a b : Nat), ({ u with cellTick := a, colTick := b } : State).tickView = u.tickView :=
    fun _ _ _ => rfl
  have h2 : s2.tickView = s1.tickView := by
    unfold s2
    split
    · exact (hcycles src _ _).trans s1.countAll_tickView
    · rfl
  have h3 : s3.tickView = s2.tickView := State.tickView_foldl (fun s r => s.lanTick_tickView r) _ _
  have hslot : ∀ u : State, ({ u with slotOld := [] } : State).tickView = u.tickView := fun _ => rfl
  split
  · rw [hslot, h3, h2, h1]
  · rw [h3, h2, h1]

theorem State.setFld_others (s : State) (f : RegFam) (i : Nat) (F : Fld) (v : Nat) :
    (s.setFld f i F v).tick = s.tick ∧ (s.setFld f i F v).mem = s.mem ∧ (s.setFld f i F v).pending = s.pending :=
  ⟨rfl, rfl, rfl⟩

theorem State.doStep_others (s : State) :
    s.doStep.tick = s.tick ∧ s.doStep.mem = s.mem ∧ s.doStep.pending = s.pending := by
  unfold State.doStep
  split
  · exact ⟨rfl, rfl, rfl⟩
  · extract_lets s1 s2
    split
    · split
      · exact State.setFld_others ..
      · exact ⟨rfl, rfl, rfl⟩
    · exact State.setFld_others ..

/-- A fabric tick counted and TIME advanced, before a requested step takes effect. -/
def State.ticked (s : State) : State :=
  { s with
    tick := s.tick + 1
    time := { s.time with
      now := BitVec.ofNat 96 (s.time.after 1).toNat, slew := s.time.slew - s.time.slewSign
      sinceTicks := s.time.sinceTicks + 1 } }

theorem State.timeTick_eq (s : State) : s.timeTick = s.ticked.doStep := rfl

theorem State.ticked_now (s : State) : s.ticked.time.now =
    BitVec.ofNat 96 (s.time.now.toNat + s.time.inc.toNat + s.time.slewSign * 2 ^ 22).toNat := by
  rw [State.ticked, TimeUnit.after_one]

theorem State.fabricTick_others (s : State) :
    s.fabricTick.tick = s.tick + 1 ∧ s.fabricTick.mem = s.mem ∧ s.fabricTick.pending = s.pending := by
  obtain ⟨htick, hmem, hpending⟩ := s.ticked.doStep_others
  have hview := s.fabricTick_tickView
  rw [State.timeTick_eq] at hview
  simp only [State.tickView, Prod.mk.injEq] at hview
  obtain ⟨vtick, vmem, vpending, -⟩ := hview
  exact ⟨vtick.trans htick, vmem.trans hmem, vpending.trans hpending⟩

theorem State.fabricTick_bit_stat (s : State) (F : Fld) : s.fabricTick.bit TIME_STAT 0 F = s.timeTick.bit TIME_STAT 0 F := by
  have hview := s.fabricTick_tickView
  simp only [State.tickView, Prod.mk.injEq] at hview
  obtain ⟨-, -, -, vstat⟩ := hview
  rw [State.bit, State.fld, vstat, State.bit, State.fld]

/-- Without a request a tick advances TIME by the increment and the slew adjustment. -/
theorem State.fabricTick_noStep {s : State} (h : s.time.stepTarget = none) : s.fabricTick.time = s.ticked.time := by
  rw [State.fabricTick_time, State.timeTick_eq, State.doStep_none (s := s.ticked) h]

/-- A target above TIME becomes TIME (R62). -/
theorem State.fabricTick_forward {s : State} {target : Dword} (h : s.time.stepTarget = some target)
    (hlt : s.ticked.time.now.toNat < target.toNat * 2 ^ 32) :
    s.fabricTick.time = s.ticked.time.stepped s.ticked.tick target := by
  rw [State.fabricTick_time, State.timeTick_eq, State.doStep_forward (s := s.ticked) h hlt]

/-- Another target is refused (R62). -/
theorem State.fabricTick_refused {s : State} {target : Dword} (h : s.time.stepTarget = some target)
    (hge : target.toNat * 2 ^ 32 ≤ s.ticked.time.now.toNat) :
    s.fabricTick.time = { s.ticked.time with stepTarget := none } ∧
      s.fabricTick.bit TIME_STAT 0 TIME_STAT_STEP_REF = true := by
  rw [State.fabricTick_bit_stat, State.fabricTick_time, State.timeTick_eq, State.doStep_refused (s := s.ticked) h hge]
  exact ⟨rfl, bit_flag_same _ _ _ _ (by decide)⟩

theorem State.refTick_others (s : State) :
    (s.timeRef.clocks 640 128).tick = s.tick ∧ (s.timeRef.clocks 640 128).mem = s.mem ∧
      (s.timeRef.clocks 640 128).pending = s.pending := by
  have href : s.timeRef.tickView = s.tickView := by
    unfold State.timeRef
    dsimp only
    split <;> rfl
  have hview := (State.clocks_tickView s.timeRef 640 128).trans href
  simp only [State.tickView, Prod.mk.injEq] at hview
  obtain ⟨vtick, vmem, vpending, -⟩ := hview
  exact ⟨vtick, vmem, vpending⟩

/-- Settles O11: a tick of TIME is the advance, then the step that was requested, performed or refused. -/
theorem timeAdvances : Obligations.TimeAdvances := by
  unfold Obligations.TimeAdvances
  intro s hheld
  refine ⟨fun hon => ?_, fun hoff => ?_⟩
  · obtain ⟨htick, hmem, hpending⟩ := s.fabricTick_others
    have hinc : s.fabricTick.time.inc = s.time.inc := by rw [State.fabricTick_time, State.timeTick_inc]
    have hexec : exec .timeAdvance s = .next s.fabricTick := by
      rw [exec_timeAdvance, execTimeAdvance, if_neg hheld, if_pos hon, ok]
    refine ⟨_, hexec, htick, hinc, hmem, hpending, ?_⟩
    rw [← State.ticked_now]
    intro next
    refine ⟨fun hnone => ?_, fun target hsome => ?_⟩
    · rw [State.fabricTick_noStep hnone]
      exact ⟨rfl, rfl⟩
    · by_cases hlt : next.toNat < target.toNat * 2 ^ 32
      · rw [State.fabricTick_forward hsome hlt, TimeUnit.stepped]
        exact ⟨rfl, fun _ => ⟨rfl, rfl⟩, fun hge => absurd hlt (Nat.not_lt.2 hge)⟩
      · obtain ⟨htime, hflag⟩ := State.fabricTick_refused hsome (Nat.not_lt.1 hlt)
        rw [htime]
        exact ⟨rfl, fun hlt' => absurd hlt' hlt, fun _ => ⟨rfl, hflag⟩⟩
  · obtain ⟨htick, hmem, hpending⟩ := s.refTick_others
    obtain ⟨up, hup, htime⟩ := s.timeRef_time
    have hexec : exec .timeAdvance s = .next (s.timeRef.clocks 640 128) := by
      rw [exec_timeAdvance, execTimeAdvance, if_neg hheld, if_neg (by rw [hoff]; decide), ok]
    refine ⟨_, hexec, htick, ?_, hmem, hpending, up, hup, ?_⟩
    · rw [State.clocks_time, htime]
    · rw [State.clocks_time, htime]

end Sys2Proof.Machine


/-! ## TIME: a lost source, holdover and the rate cross-check (R70 to R73) -/

namespace Sys2Proof.Machine

section

variable (s : State) (f : RegFam) (i : Nat) (F G : Fld)

/-- Writing a field leaves the other fields of its register. -/
theorem fld_setFld_apart (v : Nat) (hF : F.lo ≤ F.hi) (hG : G.lo ≤ G.hi ∧ G.hi < 32) (h : F.hi < G.lo ∨ G.hi < F.lo) :
    (s.setFld f i G v).fld f i F = s.fld f i F := by
  rw [State.fld, State.setFld, reg_setReg_same, Fld.get_put_apart F G _ _ hF hG h, State.fld]

theorem bit_setFld_apart (v : Nat) (hF : F.lo ≤ F.hi) (hG : G.lo ≤ G.hi ∧ G.hi < 32) (h : F.hi < G.lo ∨ G.hi < F.lo) :
    (s.setFld f i G v).bit f i F = s.bit f i F := by
  rw [State.bit, fld_setFld_apart s f i F G v hF hG h, State.bit]

theorem State.setReg_frame (v : Word) {l : List Nat} (h : f.addr i ∈ l) : s.regsSame (s.setReg f i v) l :=
  fun g j hg => reg_setReg_other s f g i j v fun e => hg (e ▸ h)

theorem State.setFld_frame (v : Nat) {l : List Nat} (h : f.addr i ∈ l) : s.regsSame (s.setFld f i F v) l :=
  s.setReg_frame f i _ h

end

theorem State.regsSame.trans {s t u : State} {l : List Nat} (h : s.regsSame t l) (k : t.regsSame u l) : s.regsSame u l :=
  fun f i hf => (k f i hf).trans (h f i hf)

/-- Only registers and the TIME block differ. -/
def State.TimeFrame (s t : State) : Prop := t = { s with time := t.time, regs := t.regs }

theorem State.TimeFrame.trans {s t u : State} (h : s.TimeFrame t) (k : t.TimeFrame u) : s.TimeFrame u := by
  unfold State.TimeFrame at *
  rw [k, h]

theorem State.setReg_timeFrame (s : State) (f : RegFam) (i : Nat) (v : Word) : s.TimeFrame (s.setReg f i v) := rfl

/-- The TIME block replaced. -/
def State.withTime (s : State) (t : TimeUnit) : State := { s with time := t }

theorem State.withTime_time (s : State) (t : TimeUnit) : (s.withTime t).time = t := rfl
theorem State.withTime_reg (s : State) (t : TimeUnit) (f : RegFam) (i : Nat) : (s.withTime t).reg f i = s.reg f i := rfl
theorem State.withTime_bit (s : State) (t : TimeUnit) (f : RegFam) (i : Nat) (F : Fld) :
    (s.withTime t).bit f i F = s.bit f i F := rfl
theorem State.withTime_level (s : State) (t : TimeUnit) : (s.withTime t).level = s.level := rfl
theorem State.withTime_timeFrame (s : State) (t : TimeUnit) : s.TimeFrame (s.withTime t) := rfl
theorem State.regsSame.withTime {s u : State} {l : List Nat} (h : s.regsSame u l) (t : TimeUnit) :
    s.regsSame (u.withTime t) l := h

theorem State.level_flag (s : State) (F : Fld) (hF : F.lo ≤ F.hi ∧ F.hi < 29) : (s.flag TIME_STAT 0 F).level = s.level :=
  fld_setFld_apart s TIME_STAT 0 TIME_STAT_LEVEL F _ (by decide) ⟨hF.1, by omega⟩ (.inr hF.2)

theorem State.level_setLevel (s : State) (l : Nat) : (s.setLevel l).level = l % 8 :=
  fld_setFld_same s TIME_STAT 0 TIME_STAT_LEVEL l (by decide)

theorem State.bit_setLevel (s : State) (l : Nat) (F : Fld) (hF : F.lo ≤ F.hi ∧ F.hi < 29) :
    (s.setLevel l).bit TIME_STAT 0 F = s.bit TIME_STAT 0 F :=
  bit_setFld_apart s TIME_STAT 0 F TIME_STAT_LEVEL l hF.1 (by decide) (.inl hF.2)

/-- The TIME block with the start of HOLDOVER noted (R70). -/
def State.holdTime (s : State) : TimeUnit :=
  { s.time with holdErr := (s.reg TIME_ERRB 0).toNat, holdFrom := s.ns, inLock := 0, outLock := 0 }

theorem State.enterHoldover_locked {s : State} (h : s.level = 4) : s.enterHoldover = (s.setLevel 2).withTime s.holdTime := by
  rw [State.enterHoldover, if_pos h]
  rfl

/-! ### SOURCE_LOST -/

/-- SRC_LOST set, before the level is judged. -/
def State.srcLost (s : State) : State := s.flag TIME_STAT 0 TIME_STAT_SRC_LOST

/-- The state after a lost source (R71). -/
def State.loseSource (s : State) : State :=
  if s.srcLost.level = 4 then s.srcLost.enterHoldover
  else if s.srcLost.time.everLocked then s.srcLost
  else (s.srcLost.setLevel 1).setReg TIME_ERRB 0 0xFFFFFFFF

/-- A selected source is due to be found lost (R71). -/
def State.lossDue (s : State) : Prop :=
  s.fabricOn = true ∧ s.bit TIME_CTRL 0 TIME_CTRL_SERVO_EN = true ∧ srcOf (s.reg TIME_CTRL 0) ≠ 0 ∧
    max 1 (s.fld TIME_SERVO 0 TIME_SERVO_HOLD_TMO) * 64000000 ≤ s.time.sinceTicks

theorem exec_sourceLost_notDue {s : State} (h : ¬ s.lossDue) : exec .sourceLost s = .next s := by
  rw [exec_sourceLost, execSourceLost, ok]
  dsimp only
  rw [if_neg fun hc => h ?_]
  simpa [State.lossDue, and_assoc] using hc

theorem exec_sourceLost_due {s : State} (h : s.lossDue) : exec .sourceLost s = .next s.loseSource := by
  rw [exec_sourceLost, execSourceLost, ok]
  dsimp only
  rw [if_pos (by simpa [State.lossDue, and_assoc] using h)]
  rfl

theorem State.srcLost_level (s : State) : s.srcLost.level = s.level := s.level_flag _ (by decide)

theorem State.srcLost_bit (s : State) : s.srcLost.bit TIME_STAT 0 TIME_STAT_SRC_LOST = true := bit_flag_same _ _ _ _ (by decide)

theorem State.loseSource_locked {s : State} (h : s.level = 4) :
    s.loseSource = (s.srcLost.setLevel 2).withTime s.srcLost.holdTime := by
  rw [← s.srcLost_level] at h
  rw [State.loseSource, if_pos h, State.enterHoldover_locked h]

theorem State.loseSource_kept {s : State} (h : s.level ≠ 4) (hlock : s.time.everLocked = true) : s.loseSource = s.srcLost := by
  rw [← s.srcLost_level] at h
  rw [State.loseSource, if_neg h, if_pos (by rw [State.srcLost, State.flag_time]; exact hlock)]

theorem State.loseSource_free {s : State} (h : s.level ≠ 4) (hlock : s.time.everLocked = false) :
    s.loseSource = (s.srcLost.setLevel 1).setReg TIME_ERRB 0 0xFFFFFFFF := by
  rw [← s.srcLost_level] at h
  rw [State.loseSource, if_neg h, if_neg (by rw [State.srcLost, State.flag_time, hlock]; decide)]

/-- A lost source moves no time. -/
theorem State.loseSource_now (s : State) :
    s.loseSource.time.inc = s.time.inc ∧ s.loseSource.time.now = s.time.now ∧ s.loseSource.time.slew = s.time.slew := by
  have hflag : s.srcLost.time = s.time := s.flag_time ..
  unfold State.loseSource
  split
  · unfold State.enterHoldover
    split
    · rw [hflag]
      exact ⟨rfl, rfl, rfl⟩
    · rw [hflag]
      exact ⟨rfl, rfl, rfl⟩
  · split
    · rw [hflag]
      exact ⟨rfl, rfl, rfl⟩
    · rw [State.setReg_time, State.setLevel_time, hflag]
      exact ⟨rfl, rfl, rfl⟩

/-- What a lost source leaves. -/
theorem State.loseSource_frame (s : State) :
    s.regsSame s.loseSource [TIME_STAT.addr 0, TIME_ERRB.addr 0] ∧ s.TimeFrame s.loseSource := by
  have hstat : TIME_STAT.addr 0 ∈ [TIME_STAT.addr 0, TIME_ERRB.addr 0] := by decide
  have herrb : TIME_ERRB.addr 0 ∈ [TIME_STAT.addr 0, TIME_ERRB.addr 0] := by decide
  have hflag : s.regsSame s.srcLost [TIME_STAT.addr 0, TIME_ERRB.addr 0] := s.setFld_frame _ _ _ _ hstat
  have hlevel (l : Nat) := hflag.trans (s.srcLost.setFld_frame _ _ TIME_STAT_LEVEL l hstat)
  have fflag : s.TimeFrame s.srcLost := s.setReg_timeFrame ..
  have flevel (l : Nat) : s.TimeFrame (s.srcLost.setLevel l) := fflag.trans (s.srcLost.setReg_timeFrame ..)
  by_cases h4 : s.level = 4
  · rw [State.loseSource_locked h4]
    exact ⟨(hlevel 2).withTime _, (flevel 2).trans (State.withTime_timeFrame ..)⟩
  · cases hlock : s.time.everLocked with
    | true =>
      rw [State.loseSource_kept h4 hlock]
      exact ⟨hflag, fflag⟩
    | false =>
      rw [State.loseSource_free h4 hlock]
      exact ⟨(hlevel 1).trans (State.setReg_frame _ _ _ _ herrb), (flevel 1).trans (State.setReg_timeFrame ..)⟩

theorem State.loseSource_flagged (s : State) : s.loseSource.bit TIME_STAT 0 TIME_STAT_SRC_LOST = true := by
  have hlevel (l : Nat) : (s.srcLost.setLevel l).bit TIME_STAT 0 TIME_STAT_SRC_LOST = true := by
    rw [State.bit_setLevel _ _ _ (by decide), State.srcLost_bit]
  by_cases h4 : s.level = 4
  · rw [State.loseSource_locked h4, State.withTime_bit, hlevel]
  · cases hlock : s.time.everLocked with
    | true => rw [State.loseSource_kept h4 hlock, State.srcLost_bit]
    | false =>
      have herrb := reg_setReg_other (s.srcLost.setLevel 1) TIME_ERRB TIME_STAT 0 0 0xFFFFFFFF (by decide)
      rw [State.loseSource_free h4 hlock, State.bit, State.fld, herrb]
      exact hlevel 1

/-- LOCKED becomes HOLDOVER (R70). -/
theorem State.loseSource_holdover {s : State} (h : s.level = 4) :
    s.loseSource.level = 2 ∧ s.loseSource.time.holdErr = (s.reg TIME_ERRB 0).toNat ∧ s.loseSource.time.holdFrom = s.ns := by
  have herrb : s.srcLost.reg TIME_ERRB 0 = s.reg TIME_ERRB 0 := reg_flag_other _ _ _ _ _ _ (by decide)
  have hns : s.srcLost.ns = s.ns := by rw [State.ns, State.srcLost, State.flag_time, State.ns]
  rw [State.loseSource_locked h, State.withTime_time, State.holdTime, herrb, hns, State.withTime_level, State.level_setLevel]
  exact ⟨rfl, rfl, rfl⟩

/-- A source that was never locked leaves FREE (R71). -/
theorem State.loseSource_becomesFree {s : State} (h : s.level ≠ 4) (hlock : s.time.everLocked = false) :
    s.loseSource.level = 1 ∧ s.loseSource.reg TIME_ERRB 0 = 0xFFFFFFFF := by
  have hstat := reg_setReg_other (s.srcLost.setLevel 1) TIME_ERRB TIME_STAT 0 0 0xFFFFFFFF (by decide)
  rw [State.loseSource_free h hlock, State.level, State.fld, hstat]
  exact ⟨s.srcLost.level_setLevel 1, reg_setReg_same ..⟩

/-- After an earlier lock, a level other than LOCKED stays. -/
theorem State.loseSource_keepsLevel {s : State} (h : s.level ≠ 4) (hlock : s.time.everLocked = true) :
    s.loseSource.level = s.level ∧ s.loseSource.reg TIME_ERRB 0 = s.reg TIME_ERRB 0 := by
  rw [State.loseSource_kept h hlock]
  exact ⟨s.srcLost_level, reg_flag_other _ _ _ _ _ _ (by decide)⟩

/-! ### RATE_CHECK -/

theorem TIME_STAT_ne_log {i : Nat} (hi : i < 256) : TIME_STAT.addr 0 ≠ GRT_FLT.addr i ∧ TIME_STAT.addr 0 ≠ GRT_FLTTIME.addr i := by
  simp only [RegFam.addr, TIME_STAT, GRT_FLT, GRT_FLTTIME, dimOff, dimSize]
  omega


theorem State.gLog_reg_stat (s : State) (entry action unit : Nat) (detail : Option Nat) :
    (s.gLog entry action unit detail).reg TIME_STAT 0 = s.reg TIME_STAT 0 := by
  have hi : s.fld GRT_STAT 0 GRT_STAT_FLTIDX < 256 := Nat.mod_lt _ (by decide)
  obtain ⟨hflt, htime⟩ := TIME_STAT_ne_log hi
  have hused (c : Bool) : (if c then s.used else s).reg TIME_STAT 0 = s.reg TIME_STAT 0 := by
    split
    · exact s.used_reg ..
    · rfl
  unfold State.gLog
  dsimp only
  rw [State.modGrt_reg, reg_setFld_other _ _ _ _ _ _ _ (by decide), reg_setReg_other _ _ _ _ _ _ htime,
    reg_setReg_other _ _ _ _ _ _ hflt, hused]

/-- The state after a rate check that took the present TIME as its start (R73). -/
def State.rateChecked (s : State) : State := s.withTime { s.time with rateFrom := s.time.now.toNat }

/-- A rate error is flagged and, where the Grotto runs, logged once (R73). -/
def State.rateErr (s : State) : State :=
  let s2 := s.flag TIME_STAT 0 TIME_STAT_RATE_ERR
  if !s2.grottoOn || s2.gHas 16 2 then s2 else (s2.gCause 16 2 true).gLog 16 actReport 2 none

theorem exec_rateCheck_on {s : State} (hon : s.fabricOn = true) (n : Nat) : exec (.rateCheck n) s = .next (
    if ((n * s.time.inc.toNat * 128 / 5 : Nat) : Int) * 2000 <
        1000000 * (((s.time.now.toNat : Int) - s.time.rateFrom - (n * s.time.inc.toNat * 128 / 5 : Nat)).natAbs : Int) then
      s.rateChecked.rateErr
    else s.rateChecked.gCause 16 2 false) := by
  rw [exec_rateCheck, execRateCheck, ok]
  dsimp only
  rw [if_neg (by rw [hon]; decide)]
  rfl

theorem State.rateErr_stoFrame (s : State) : s.StoFrame s.rateErr := by
  have hflag : s.StoFrame (s.flag TIME_STAT 0 TIME_STAT_RATE_ERR) := s.setFld_stoFrame ..
  unfold State.rateErr
  dsimp only
  split
  · exact hflag
  · exact hflag.trans ((State.gCause_stoFrame ..).trans (State.gLog_stoFrame ..))

theorem State.rateErr_flagged (s : State) : s.rateErr.bit TIME_STAT 0 TIME_STAT_RATE_ERR = true := by
  have hflag : (s.flag TIME_STAT 0 TIME_STAT_RATE_ERR).bit TIME_STAT 0 TIME_STAT_RATE_ERR = true := bit_flag_same _ _ _ _ (by decide)
  unfold State.rateErr
  dsimp only
  split
  · exact hflag
  · rw [State.bit, State.fld, State.gLog_reg_stat, State.gCause, State.modGrt_reg]
    exact hflag

theorem State.StoFrame.time_mem {s t : State} (h : s.StoFrame t) : t.time = s.time ∧ t.mem = s.mem := by
  rw [h]
  exact ⟨rfl, rfl⟩

/-- Settles O13: the three events by the level they find, each with what it leaves. -/
theorem timeQualityEvents : Obligations.TimeQualityEvents := by
  unfold Obligations.TimeQualityEvents
  intro s
  refine ⟨⟨fun h => exec_sourceLost_notDue h, fun h => ?_⟩, fun h => ?_, fun h => ?_, fun hon n => ?_⟩
  · obtain ⟨hinc, hnow, hslew⟩ := s.loseSource_now
    obtain ⟨hregs, hframe⟩ := s.loseSource_frame
    exact ⟨_, exec_sourceLost_due h, s.loseSource_flagged, State.loseSource_holdover, State.loseSource_becomesFree,
      State.loseSource_keepsLevel, hinc, hnow, hslew, hregs, hframe⟩
  · rw [exec_holdoverErrbUpdate, execHoldoverErrbUpdate, if_neg h, ok]
  · rw [exec_holdoverErrbUpdate, execHoldoverErrbUpdate, if_pos h, ok]
  · refine ⟨_, exec_rateCheck_on hon n, ?_⟩
    generalize hw : ((n * s.time.inc.toNat * 128 / 5 : Nat) : Int) = want
    split
    · next hfar =>
      obtain ⟨htime, hmem⟩ := s.rateChecked.rateErr_stoFrame.time_mem
      rw [htime, hmem]
      exact ⟨rfl, rfl, rfl, rfl, fun _ => State.rateErr_flagged _, fun hnear => absurd hfar (not_lt.2 hnear)⟩
    · next hnear =>
      obtain ⟨htime, hmem⟩ := (s.rateChecked.gCause_stoFrame 16 2 false).time_mem
      rw [htime, hmem]
      refine ⟨rfl, rfl, rfl, rfl, fun hfar => absurd hfar hnear, fun _ => ?_⟩
      rw [State.gCause, State.modGrt_reg, State.rateChecked, State.withTime_reg]

end Sys2Proof.Machine


/-! ## The angle of an axis: its tracker and registers, and what leaves them

The registers of a tracker lie in a page of their own (the ANG families). A view of an axis holds that page, the tracker and the
tick of the update; every operation of another unit keeps the view. -/

namespace Sys2Proof.Machine

/-! ### Addresses -/

/-- An address lies in the tracker page of axis `x`. -/
def angReg (x : Fin 8) (a : Nat) : Bool := a / 0x100 == 0x220810 + x.val / 2 * 0x40000 + x.val % 2

/-- A register family in the tracker pages. -/
def RegFam.isAng (f : RegFam) : Bool := f.base / 0x100 == 0x220810 && f.dims == [(4, 0x4000000), (2, 0x100)]

/-- A register family outside the tracker pages: above the regions, or in another page of its region. -/
def RegFam.offAng (f : RegFam) : Bool :=
  decide (0x30000000 ≤ f.base) ||
    match f.dims with
    | (_, 0x4000000) :: l =>
      decide (0 < dimSize l) && (List.range (dimSize l)).all fun j => (f.base + dimOff l j) % 0x4000000 / 0x200 != 0x10408
    | _ => false

theorem angReg_page {x : Fin 8} {a : Nat} (h : angReg x a = true) : a < 0x30000000 ∧ a % 0x4000000 / 0x200 = 0x10408 := by
  have hx := x.isLt
  simp only [angReg, beq_iff_eq] at h
  omega

/-- No register of a family outside the tracker pages lies in one. -/
theorem RegFam.offAng_addr {f : RegFam} (h : f.offAng = true) (x : Fin 8) (i : Nat) : angReg x (f.addr i) = false := by
  by_contra hang
  obtain ⟨hhigh, hpage⟩ := angReg_page (Bool.not_eq_false _ ▸ hang)
  unfold RegFam.addr at hhigh hpage
  simp only [RegFam.offAng, Bool.or_eq_true, decide_eq_true_eq] at h
  rcases h with hbase | hdims
  · omega
  · split at hdims
    · next n l hl =>
      rw [hl] at hpage
      simp only [dimOff] at hpage
      simp only [Bool.and_eq_true, decide_eq_true_eq, List.all_eq_true, List.mem_range, bne_iff_ne] at hdims
      obtain ⟨hpos, hfree⟩ := hdims
      have hj := hfree _ (Nat.mod_lt i hpos)
      generalize i / dimSize l = q at hpage
      generalize dimOff l (i % dimSize l) = o at hpage hj
      omega
    · exact absurd hdims (by decide)

/-- The tracker registers of an axis lie in its page, and in no other. -/
theorem RegFam.isAng_addr {f : RegFam} (h : f.isAng = true) (x y : Fin 8) : angReg x (f.addr y.val) = decide (y = x) := by
  have hx := x.isLt
  have hy := y.isLt
  simp only [RegFam.isAng, Bool.and_eq_true, beq_iff_eq] at h
  obtain ⟨hbase, hdims⟩ := h
  rw [Bool.eq_iff_iff, decide_eq_true_eq, Fin.ext_iff]
  simp only [angReg, RegFam.addr, hdims, dimOff, dimSize, beq_iff_eq]
  omega

/-! ### The view -/

/-- The registers in the tracker page of an axis. -/
def State.angRegs (s : State) (x : Fin 8) : RegFam → Nat → Option Word :=
  fun f i => if angReg x (f.addr i) then some (s.reg f i) else none

/-- What an update of axis `x` turns on: the ticks, the tracker and its registers. -/
def State.angOf (s : State) (x : Fin 8) : Option Nat × Nat × Tracker × (RegFam → Nat → Option Word) :=
  (s.trkAt, s.tick, s.tr x, s.angRegs x)

section

variable {s t : State} {x : Fin 8}

theorem State.reg_of_angOf (h : t.angOf x = s.angOf x) {f : RegFam} (hf : f.isAng = true) : t.reg f x.val = s.reg f x.val := by
  have hpage : t.angRegs x = s.angRegs x := congrArg (·.2.2.2) h
  have hregs := congrFun (congrFun hpage f) x.val
  have hang : angReg x (f.addr x.val) = true := by rw [RegFam.isAng_addr hf]; simp
  simpa [State.angRegs, hang] using hregs

theorem State.tr_of_angOf (h : t.angOf x = s.angOf x) : t.tr x = s.tr x := congrArg (·.2.2.1) h
theorem State.tick_of_angOf (h : t.angOf x = s.angOf x) : t.tick = s.tick := congrArg (·.2.1) h
theorem State.trkAt_of_angOf (h : t.angOf x = s.angOf x) : t.trkAt = s.trkAt := congrArg (·.1) h

end

section

variable (s : State) (x : Fin 8)

theorem State.setReg_angRegs {f : RegFam} {i : Nat} (h : angReg x (f.addr i) = false) (v : Word) :
    (s.setReg f i v).angRegs x = s.angRegs x := by
  funext g j
  unfold State.angRegs
  split
  · next hg => rw [reg_setReg_other _ _ _ _ _ _ fun e => by simp [e, h] at hg]
  · rfl

theorem State.setReg_angOf_of {f : RegFam} {i : Nat} (h : angReg x (f.addr i) = false) (v : Word) :
    (s.setReg f i v).angOf x = s.angOf x := by
  rw [State.angOf, s.setReg_angRegs x h]
  rfl

@[simp] theorem State.setReg_angOf {f : RegFam} (h : f.offAng = true) (i : Nat) (v : Word) :
    (s.setReg f i v).angOf x = s.angOf x := s.setReg_angOf_of x (RegFam.offAng_addr h x i) v
@[simp] theorem State.setFld_angOf {f : RegFam} (h : f.offAng = true) (i : Nat) (F : Fld) (v : Nat) :
    (s.setFld f i F v).angOf x = s.angOf x := s.setReg_angOf x h i _
@[simp] theorem State.setBit_angOf {f : RegFam} (h : f.offAng = true) (i : Nat) (F : Fld) (b : Bool) :
    (s.setBit f i F b).angOf x = s.angOf x := s.setReg_angOf x h i _
@[simp] theorem State.flag_angOf {f : RegFam} (h : f.offAng = true) (i : Nat) (F : Fld) :
    (s.flag f i F).angOf x = s.angOf x := s.setReg_angOf x h i _
@[simp] theorem State.count_angOf {f : RegFam} (h : f.offAng = true) (i : Nat) (F : Fld) :
    (s.count f i F).angOf x = s.angOf x := s.setReg_angOf x h i _

/-- The tracker registers of another axis. -/
@[simp] theorem State.setReg_angOf_other {f : RegFam} {y : Fin 8} (h : f.isAng = true) (hy : y ≠ x) (v : Word) :
    (s.setReg f y.val v).angOf x = s.angOf x :=
  s.setReg_angOf_of x (by rw [RegFam.isAng_addr h, decide_eq_false hy]) v
@[simp] theorem State.setFld_angOf_other {f : RegFam} {y : Fin 8} (h : f.isAng = true) (hy : y ≠ x) (F : Fld) (v : Nat) :
    (s.setFld f y.val F v).angOf x = s.angOf x := s.setReg_angOf_other x h hy _
@[simp] theorem State.setBit_angOf_other {f : RegFam} {y : Fin 8} (h : f.isAng = true) (hy : y ≠ x) (F : Fld) (b : Bool) :
    (s.setBit f y.val F b).angOf x = s.angOf x := s.setReg_angOf_other x h hy _
@[simp] theorem State.flag_angOf_other {f : RegFam} {y : Fin 8} (h : f.isAng = true) (hy : y ≠ x) (F : Fld) :
    (s.flag f y.val F).angOf x = s.angOf x := s.setReg_angOf_other x h hy _
@[simp] theorem State.countWrap_angOf_other {f : RegFam} {y : Fin 8} (h : f.isAng = true) (hy : y ≠ x) (F : Fld) :
    (s.countWrap f y.val F).angOf x = s.angOf x := s.setReg_angOf_other x h hy _

theorem State.tr_modTrk_same (f : Tracker → Tracker) : (s.modTrk x f).tr x = f (s.tr x) := vget_vset_same ..
theorem State.tr_modTrk_other {y : Fin 8} (hy : y ≠ x) (f : Tracker → Tracker) : (s.modTrk y f).tr x = s.tr x :=
  vget_vset_other _ _ hy.symm
theorem State.modTrk_reg (f : Tracker → Tracker) (g : RegFam) (n : Nat) : (s.modTrk x f).reg g n = s.reg g n := rfl

@[simp] theorem State.modTrk_angOf_other {y : Fin 8} (hy : y ≠ x) (f : Tracker → Tracker) :
    (s.modTrk y f).angOf x = s.angOf x := by
  rw [State.angOf, s.tr_modTrk_other x hy]
  rfl

/-! The proofs unfold the update first: so `simp` rewrites by these lemmas, and the kernel has no state to unfold. -/

@[simp] theorem State.modPhys_angOf (p : Fin 128) (f : Phys → Phys) : (s.modPhys p f).angOf x = s.angOf x := by
  unfold State.modPhys
  rfl
@[simp] theorem State.modCell_angOf (c : Fin 128) (f : LCell → LCell) : (s.modCell c f).angOf x = s.angOf x := by
  unfold State.modCell
  rfl
@[simp] theorem State.modU_angOf (y : Fin 8) (f : AxisU → AxisU) : (s.modU y f).angOf x = s.angOf x := by
  unfold State.modU
  rfl
@[simp] theorem State.modOpp_angOf (y : Fin 8) (f : Opp → Opp) : (s.modOpp y f).angOf x = s.angOf x := s.modU_angOf x y _
@[simp] theorem State.modGal_angOf (f : Gallery → Gallery) : (s.modGal f).angOf x = s.angOf x := by
  unfold State.modGal
  rfl
@[simp] theorem State.modEvent_angOf (n : Nat) (f : GEvent → GEvent) : (s.modEvent n f).angOf x = s.angOf x := s.modGal_angOf x _
@[simp] theorem State.bumpTag_angOf (n : Nat) : (s.bumpTag n).angOf x = s.angOf x := s.modGal_angOf x _
@[simp] theorem State.used_angOf : s.used.angOf x = s.angOf x := by
  unfold State.used
  rfl
@[simp] theorem State.poke32_angOf (a : Nat) (v : Word) : (s.poke32 a v).angOf x = s.angOf x := by
  unfold State.poke32
  rfl

end

theorem foldl_angOf {α : Type} {f : State → α → State} {x : Fin 8} {l : List α}
    (hf : ∀ (s : State), ∀ a ∈ l, (f s a).angOf x = s.angOf x) (s : State) : (l.foldl f s).angOf x = s.angOf x := by
  induction l generalizing s with
  | nil => rfl
  | cons a l ih =>
    exact (ih (fun s b hb => hf s b (List.mem_cons_of_mem a hb)) _).trans (hf s a List.mem_cons_self)

end Sys2Proof.Machine


/-! ## What keeps the view of an axis: notifications, ends of events, the error log -/

namespace Sys2Proof.Machine

section

variable (s : State) (x : Fin 8)

/-! ### Cells -/

@[simp] theorem State.pmcCount_angOf (c : Fin 128) (e : Nat) : (s.pmcCount c e).angOf x = s.angOf x := rfl
@[simp] theorem State.evDrop_angOf (c : Fin 128) (n : Nat) : (s.evDrop c n).angOf x = s.angOf x :=
  s.setFld_angOf x (by decide) ..

theorem State.pushFifo_angOf {s t : State} {c : Fin 128} {e : FifoEntry} (h : s.pushFifo c e = some t) (x : Fin 8) :
    t.angOf x = s.angOf x := by
  unfold State.pushFifo at h
  split at h
  · cases h
  · split at h
    · cases h
    · split at h
      · cases h
      · simp only [Option.some.injEq] at h
        subst h
        split <;> rfl

@[simp] theorem State.notifyCell_angOf (c : Fin 128) (vec payload : Nat) :
    (s.notifyCell c vec payload).angOf x = s.angOf x := by
  unfold State.notifyCell
  split
  · next h => exact State.pushFifo_angOf h x
  · split <;> simp

@[simp] theorem State.trkEntry_angOf (y : Fin 8) (old : Word) : (s.trkEntry y old).angOf x = s.angOf x := by
  unfold State.trkEntry
  extract_lets new moved rose
  split
  · refine foldl_angOf (fun s c _ => ?_) _
    dsimp only
    split <;> simp
  · rfl

/-! ### Rings -/

@[simp] theorem State.eccClear_angOf (a : Nat) : (s.eccClear a).angOf x = s.angOf x := by
  unfold State.eccClear
  split <;> rfl

@[simp] theorem State.eccCorrect_angOf (a : Nat) : (s.eccCorrect a).angOf x = s.angOf x := by
  unfold State.eccCorrect
  split <;> rfl

@[simp] theorem State.pokeWords_angOf (a : Nat) (l : List Word) : (s.pokeWords a l).angOf x = s.angOf x := by
  induction l generalizing s a with
  | nil => rfl
  | cons w l ih => simp [State.pokeWords, ih]

@[simp] theorem State.ringPut_angOf (n : Nat) (body : List Word) (status kind info : Nat) :
    (s.ringPut n body status kind info).angOf x = s.angOf x := by
  unfold State.ringPut
  extract_lets prod words a gen trailer s1 s2
  have h2 : s2.angOf x = s.angOf x := (s1.setFld_angOf x (by decide) ..).trans (s.pokeWords_angOf ..)
  split
  · exact (s2.setFld_angOf x (by decide) ..).trans h2
  · exact h2

theorem State.raiseLine_angOf {s t : State} {col : Fin 5} {line : Fin 16} {ch payload : Nat} {ring : Option Nat}
    (h : s.raiseLine col line ch payload ring = some t) (x : Fin 8) : t.angOf x = s.angOf x := by
  unfold State.raiseLine at h
  extract_lets i at h
  split at h
  · cases h
  · cases h
    rfl

theorem State.notifySend_angOf {s t : State} {n : Nat} (h : s.notifySend n = some t) (x : Fin 8) :
    t.angOf x = s.angOf x := by
  unfold State.notifySend at h
  extract_lets u at h
  split at h
  · exact State.pushFifo_angOf h x
  · split at h
    · exact State.raiseLine_angOf h x
    · cases h
      rfl
  · cases h
    rfl

@[simp] theorem State.notifyRing_angOf (n : Nat) : (s.notifyRing n).angOf x = s.angOf x := by
  unfold State.notifyRing
  split
  · rfl
  · split
    · next h => exact State.notifySend_angOf h x
    · rfl

theorem State.ringPush_angOf {s t : State} {n : Nat} {body : List Word} {status kind info : Nat}
    (h : s.ringPush n body status kind info = some t) (x : Fin 8) : t.angOf x = s.angOf x := by
  unfold State.ringPush at h
  split at h
  · cases h
  · cases h
    simp

/-! ### Ends of events -/

@[simp] theorem State.countSlot_angOf (ch ring : Nat) (axis : Option Nat) (up : Bool) :
    (s.countSlot ch ring axis up).angOf x = s.angOf x := by
  unfold State.countSlot
  extract_lets f s1 s2 s3
  have h3 : s3.angOf x = s.angOf x :=
    (s2.setFld_angOf x (by decide) ..).trans ((s1.setFld_angOf x (by decide) ..).trans (s.setFld_angOf x (by decide) ..))
  split
  · exact (s3.setFld_angOf x (by decide) ..).trans h3
  · exact h3

@[simp] theorem State.freeSlot_angOf (e : GEvent) : (s.freeSlot e).angOf x = s.angOf x :=
  State.countSlot_angOf ..

@[simp] theorem State.report_angOf (e : GEvent) (status mask : Nat) : (s.report e status mask).angOf x = s.angOf x := by
  unfold State.report
  extract_lets n w0
  split
  · rfl
  · split
    · next h => exact State.ringPush_angOf h x
    · exact (State.count_angOf _ x (by decide) ..).trans
        ((State.flag_angOf _ x (by decide) ..).trans (s.flag_angOf x (by decide) ..))

@[simp] theorem State.endEvent_angOf (e : GEvent) (status mask : Nat) (quiet : Bool) :
    (s.endEvent e status mask quiet).angOf x = s.angOf x := by
  unfold State.endEvent
  extract_lets s1
  split <;> simp [s1]

theorem State.eachEvent_angOf {f : GEvent → State → State} (hf : ∀ e (s : State), (f e s).angOf x = s.angOf x)
    (l : List GEvent) : (s.eachEvent l f).angOf x = s.angOf x := by
  refine foldl_angOf (fun s e _ => ?_) _
  split
  · split
    · exact hf ..
    · rfl
  · rfl

@[simp] theorem State.angleHold_angOf (y : Fin 8) : (s.angleHold y).angOf x = s.angOf x :=
  s.eachEvent_angOf x (fun e s => s.endEvent_angOf x e stLATE 0 false) _

/-! ### The error log -/

@[simp] theorem State.report35_angOf (level unit : Nat) (acked : Bool) : (s.report35 level unit acked).angOf x = s.angOf x := by
  unfold State.report35
  split <;> rfl

@[simp] theorem State.logErr_angOf (e : ErrEntry) : (s.logErr e).angOf x = s.angOf x := by
  unfold State.logErr
  split
  · exact (State.setFld_angOf _ x (by decide) ..).trans (s.setBit_angOf x (by decide) ..)
  · extract_lets s1
    have h1 : s1.angOf x = s.angOf x := by
      unfold s1
      split <;> simp
    exact h1

@[simp] theorem State.appendErr_angOf (status ch level kind source addr : Nat) :
    (s.appendErr status ch level kind source addr).angOf x = s.angOf x := s.logErr_angOf ..

theorem State.slotFault_angOf {s t : State} {e : GEvent} (h : s.slotFault e = some t) (x : Fin 8) :
    t.angOf x = s.angOf x := by
  unfold State.slotFault at h
  extract_lets a at h
  split at h
  · cases h
    exact (State.endEvent_angOf ..).trans ((State.flag_angOf _ x (by decide) ..).trans (s.appendErr_angOf ..))
  · cases h

@[simp] theorem State.slotCorrect_angOf (e : GEvent) : (s.slotCorrect e).angOf x = s.angOf x :=
  foldl_angOf (fun s _ _ => s.eccCorrect_angOf ..) s

/-! ### Prediction -/

@[simp] theorem State.commitEvent_angOf (e : GEvent) (f : GEvent → GEvent) : (s.commitEvent e f).angOf x = s.angOf x := rfl
@[simp] theorem State.dueNow_angOf (e : GEvent) (lc : Nat) (exempt : Bool) : (s.dueNow e lc exempt).angOf x = s.angOf x := rfl

@[simp] theorem State.predictEvent_angOf (e : GEvent) : (s.predictEvent e).angOf x = s.angOf x := by
  unfold State.predictEvent
  split
  · next h => exact State.slotFault_angOf h x
  · extract_lets s1 d dir s2 sg t w c ds ws wmin t1 corr t2
    have h1 : s1.angOf x = s.angOf x := s.slotCorrect_angOf ..
    split
    · exact (State.endEvent_angOf ..).trans ((s1.flag_angOf x (by decide) ..).trans h1)
    · split
      · exact h1
      · split
        · exact (s1.dueNow_angOf ..).trans h1
        · have h2 : s2.angOf x = s.angOf x := (s1.modEvent_angOf ..).trans h1
          have hdue (a : Nat) (b : Bool) : (s2.dueNow e a b).angOf x = s.angOf x := (s2.dueNow_angOf ..).trans h2
          split
          · split
            · exact hdue ..
            · exact hdue ..
          · split
            · exact h2
            · split
              · split
                · exact (s2.commitEvent_angOf ..).trans h2
                · exact h2
              · exact h2

@[simp] theorem State.predictAxis_angOf (y : Fin 8) : (s.predictAxis y).angOf x = s.angOf x :=
  s.eachEvent_angOf x (fun e s => s.predictEvent_angOf x e) _

end

end Sys2Proof.Machine


/-! ## What keeps the view of an axis: the gain scheduler and the units of the axes -/

namespace Sys2Proof.Machine

@[simp] theorem ite_angOf {c : Prop} [Decidable c] (s t : State) (x : Fin 8) :
    (if c then s else t).angOf x = if c then s.angOf x else t.angOf x := apply_ite (State.angOf · x) c s t

section

variable (s : State) (x y : Fin 8)

/-! ### Gain scheduler -/

@[simp] theorem State.setSched_angOf (c : Fin 128) (bank : Nat) : (s.setSched c bank).angOf x = s.angOf x := by
  unfold State.setSched
  extract_lets f
  split
  · rfl
  · extract_lets s1
    have h1 : s1.angOf x = s.angOf x := by
      unfold s1
      split <;> simp
    simp [h1]

@[simp] theorem State.gainStep_angOf (c : Fin 128) : (s.gainStep c).angOf x = s.angOf x := by
  simp (disch := decide) [State.gainStep]

/-! ### Follower -/

@[simp] theorem State.spfInput_angOf : (s.spfInput y).angOf x = s.angOf x := by
  unfold State.spfInput
  split <;> simp (disch := decide)

@[simp] theorem State.spfEval_angOf : (s.spfEval y).angOf x = s.angOf x := by simp (disch := decide) [State.spfEval]
@[simp] theorem State.follower_angOf : (s.follower y).angOf x = s.angOf x := by simp [State.follower]

/-! ### Shaper and feed-forward -/

@[simp] theorem State.axSat_angOf (v : Int) : (s.axSat y v).angOf x = s.angOf x := by simp (disch := decide) [State.axSat]
@[simp] theorem State.axLink_angOf : (s.axLink y).angOf x = s.angOf x := by simp (disch := decide) [State.axLink]
@[simp] theorem State.feedForward_angOf : (s.feedForward y).angOf x = s.angOf x := by
  simp (disch := decide) [State.feedForward]
@[simp] theorem State.shaper_angOf : (s.shaper y).angOf x = s.angOf x := by simp (disch := decide) [State.shaper]

/-! ### Share unit -/

@[simp] theorem State.shSplit_angOf : (s.shSplit y).angOf x = s.angOf x := by
  have hout (l : List Nat) (out : Nat → Word) :
      (l.foldl (fun s q => s.setReg SH_IREF (4 * y.val + q) (out q)) s).angOf x = s.angOf x :=
    foldl_angOf (fun s q _ => s.setReg_angOf x (by decide) ..) s
  simp (disch := decide) [State.shSplit, hout]

@[simp] theorem State.shStatus_angOf : (s.shStatus y).angOf x = s.angOf x := by simp (disch := decide) [State.shStatus]

@[simp] theorem State.share_angOf : (s.share y).angOf x = s.angOf x := by
  unfold State.share
  split
  · rfl
  · extract_lets memb auto news changed s1 u frozen s2 s3
    have h1 : s1.angOf x = s.angOf x := foldl_angOf (fun s e _ => by simp (disch := decide)) s
    simp (disch := decide) [s3, s2, h1]

/-! ### Pattern player -/

@[simp] theorem State.setOpp_angOf (v : Nat) : (s.setOpp y v).angOf x = s.angOf x := s.setFld_angOf x (by decide) ..

@[simp] theorem State.oppEmit_angOf (back : Bool) (e : OppEdge) : (s.oppEmit y back e).angOf x = s.angOf x :=
  (State.count_angOf _ x (by decide) ..).trans rfl

@[simp] theorem State.oppRun_angOf (back : Bool) (n left : Nat) : (s.oppRun y back n left).angOf x = s.angOf x := by
  induction n generalizing s left with
  | zero => rfl
  | succ n ih =>
    unfold State.oppRun
    split
    · rfl
    · split
      · exact s.flag_angOf x (by decide) ..
      · rw [ih]; simp
    · rw [ih]; simp (disch := decide)
    · simp (disch := decide)

@[simp] theorem State.player_angOf : (s.player y).angOf x = s.angOf x := by simp (disch := decide) [State.player]

@[simp] theorem State.oppFault_angOf (F : Fld) : (s.oppFault y F).angOf x = s.angOf x := by
  simp (disch := decide) [State.oppFault]

@[simp] theorem State.axisUpdate_angOf : (s.axisUpdate y).angOf x = s.angOf x := by simp [State.axisUpdate]

end

end Sys2Proof.Machine


/-! ## What an update of a tracker does to its axis, and keeps of the others (R77 to R85) -/

namespace Sys2Proof.Machine

/-! ### The other axes -/

section

variable (s : State) {x y : Fin 8} (hy : y ≠ x)
include hy

theorem State.modSrc_angOf_other (i : Fin 2) (f : SrcState → SrcState) : (s.modSrc y i f).angOf x = s.angOf x :=
  s.modTrk_angOf_other x hy _

theorem State.angStat_angOf_other (F : Fld) : (s.flag ANG_STAT y.val F).angOf x = s.angOf x :=
  s.flag_angOf_other x (by decide) hy F

theorem State.judgeFeed_angOf_other (i : Fin 2) (age : Nat) : (s.judgeFeed y i age).angOf x = s.angOf x := by
  unfold State.judgeFeed
  split <;> simp [State.modSrc_angOf_other, State.angStat_angOf_other, hy]

theorem State.judgeErr_angOf_other (i : Fin 2) (overs : Bool) : (s.judgeErr y i overs).angOf x = s.angOf x := by
  simp [State.judgeErr, State.modSrc_angOf_other, State.angStat_angOf_other, hy]

theorem State.judgeSrc_angOf_other (i : Fin 2) : (s.judgeSrc y i).1.angOf x = s.angOf x := by
  unfold State.judgeSrc
  split
  · rfl
  · extract_lets age m s1 e overs s2
    have h1 : s1.angOf x = s.angOf x := by
      unfold s1
      split
      · exact s.setReg_angOf x (by decide) ..
      · rfl
    have h2 : s2.angOf x = s1.angOf x := (State.judgeFeed_angOf_other _ hy ..).trans (s1.modSrc_angOf_other hy ..)
    exact (s2.judgeErr_angOf_other hy ..).trans (h2.trans h1)

theorem State.substitute_angOf_other : (s.substitute y).angOf x = s.angOf x := by
  unfold State.substitute
  split
  · exact s.setBit_angOf_other x (by decide) hy ..
  · rfl

theorem State.trkOut_angOf_other : (s.trkOut y).angOf x = s.angOf x := by
  have hset (u : State) {f : RegFam} (h : f.isAng = true) (v : Word) : (u.setReg f y.val v).angOf x = u.angOf x :=
    u.setReg_angOf_other x h hy v
  have hcount (u : State) : (u.countWrap ANG_SEQ y.val ANG_SEQ_SEQ).angOf x = u.angOf x := hset u (by decide) _
  simp (disch := decide) [State.trkOut, State.angOut, hset, hcount]

theorem State.angFall_angOf_other : (s.angFall y).angOf x = s.angOf x := by
  unfold State.angFall
  split
  · exact (State.oppFault_angOf ..).trans ((State.angleHold_angOf ..).trans (s.setBit_angOf_other x (by decide) hy ..))
  · rfl

theorem State.invalidate_angOf_other : (s.invalidate y).angOf x = s.angOf x :=
  (State.modTrk_angOf_other _ x hy _).trans (s.angFall_angOf_other hy)

theorem State.trkFault_angOf_other : (s.trkFault y).angOf x = s.angOf x :=
  (State.invalidate_angOf_other _ hy).trans (s.angStat_angOf_other hy _)

theorem State.coast_angOf_other : (s.coast y).angOf x = s.angOf x := by
  unfold State.coast
  extract_lets n s1
  have h1 : s1.angOf x = s.angOf x := (State.setBit_angOf_other _ x (by decide) hy ..).trans (s.modTrk_angOf_other x hy _)
  split
  · exact (s1.trkFault_angOf_other hy).trans h1
  · exact h1

theorem State.correct_angOf_other (e : Int) (good : Bool) : (s.correct y e good).angOf x = s.angOf x := by
  have htrk (u : State) (f : Tracker → Tracker) : (u.modTrk y f).angOf x = u.angOf x := u.modTrk_angOf_other x hy f
  have hbit (u : State) (F : Fld) (b : Bool) : (u.setBit ANG_STAT y.val F b).angOf x = u.angOf x :=
    u.setBit_angOf_other x (by decide) hy F b
  have hflag (u : State) (F : Fld) : (u.flag ANG_STAT y.val F).angOf x = u.angOf x := u.angStat_angOf_other hy F
  simp [State.correct, htrk, hbit, hflag]

/-- The update of another tracker leaves the axis. -/
theorem State.trkUpdate_angOf_other : (s.trkUpdate y).angOf x = s.angOf x := by
  unfold State.trkUpdate
  extract_lets old j0 j1 es s1 use elim s2
  have hj0 : j0.1.angOf x = s.angOf x := s.judgeSrc_angOf_other hy 0
  have hj1 : j1.1.angOf x = j0.1.angOf x := State.judgeSrc_angOf_other _ hy 1
  have h1 : s1.angOf x = j1.1.angOf x := State.substitute_angOf_other _ hy
  have h2 : s2.angOf x = s1.angOf x := by
    unfold s2
    split
    · exact s1.coast_angOf_other hy
    · exact s1.correct_angOf_other hy ..
  exact (State.trkEntry_angOf ..).trans ((s2.trkOut_angOf_other hy).trans (h2.trans (h1.trans (hj1.trans hj0))))

end

/-! ### The axis itself: the registers that only its outputs change -/

theorem RegFam.addr_ne {f g : RegFam} (hdims : f.dims = g.dims) (hbase : f.base ≠ g.base) (i : Nat) : f.addr i ≠ g.addr i := by
  unfold RegFam.addr
  rw [hdims]
  omega

/-- A tracker family other than ANG_STAT. -/
def RegFam.isAngStill (f : RegFam) : Bool := f.isAng && f.base != ANG_STAT.base

theorem RegFam.isAngStill_ne {f : RegFam} (h : f.isAngStill = true) (i : Nat) : f.addr i ≠ ANG_STAT.addr i := by
  simp only [RegFam.isAngStill, RegFam.isAng, Bool.and_eq_true, beq_iff_eq, bne_iff_ne] at h
  obtain ⟨⟨-, hdims⟩, hbase⟩ := h
  exact RegFam.addr_ne hdims hbase i

theorem RegFam.isAngStill_isAng {f : RegFam} (h : f.isAngStill = true) : f.isAng = true := by
  rw [RegFam.isAngStill, Bool.and_eq_true] at h
  exact h.1

/-- The registers of an axis's tracker but ANG_STAT. -/
structure State.SameStill (s t : State) (x : Fin 8) : Prop where
  reg : ∀ f : RegFam, f.isAngStill = true → t.reg f x.val = s.reg f x.val

section

variable {s t u : State} {x : Fin 8}

theorem State.SameStill.refl (s : State) (x : Fin 8) : s.SameStill s x := ⟨fun _ _ => rfl⟩

theorem State.SameStill.trans (h : s.SameStill t x) (k : t.SameStill u x) : s.SameStill u x :=
  ⟨fun f hf => (k.reg f hf).trans (h.reg f hf)⟩

theorem State.SameStill.of_angOf (h : t.angOf x = s.angOf x) : s.SameStill t x :=
  ⟨fun _ hf => State.reg_of_angOf h (RegFam.isAngStill_isAng hf)⟩

theorem State.SameStill.setStat (s : State) (x : Fin 8) (F : Fld) (v : Nat) : s.SameStill (s.setFld ANG_STAT x.val F v) x :=
  ⟨fun _ hf => reg_setFld_other _ _ _ _ _ _ _ (RegFam.isAngStill_ne hf _)⟩

theorem State.SameStill.modTrk (s : State) (x : Fin 8) (f : Tracker → Tracker) : s.SameStill (s.modTrk x f) x :=
  ⟨fun _ _ => rfl⟩

theorem State.SameStill.flagIf (c : Prop) [Decidable c] (s : State) (x : Fin 8) (F : Fld) :
    s.SameStill (if c then s.flag ANG_STAT x.val F else s) x := by
  split
  · exact .setStat ..
  · exact .refl ..

end

section

variable (s : State) (x : Fin 8)

theorem State.modSrc_still (i : Fin 2) (f : SrcState → SrcState) : s.SameStill (s.modSrc x i f) x := .modTrk ..

theorem State.judgeFeed_still (i : Fin 2) (age : Nat) : s.SameStill (s.judgeFeed x i age) x := by
  unfold State.judgeFeed
  split
  · exact .refl ..
  · exact (State.SameStill.flagIf ..).trans (State.modSrc_still ..)
  · exact (State.SameStill.flagIf ..).trans (State.modSrc_still ..)

theorem State.judgeErr_still (i : Fin 2) (overs : Bool) : s.SameStill (s.judgeErr x i overs) x := by
  unfold State.judgeErr
  extract_lets n c k k'
  split
  · exact s.modSrc_still ..
  · split
    · exact (s.modSrc_still ..).trans ((State.SameStill.setStat ..).trans (.setStat ..))
    · exact s.modSrc_still ..

theorem State.judgeSrc_still (i : Fin 2) : s.SameStill (s.judgeSrc x i).1 x := by
  unfold State.judgeSrc
  split
  · exact .refl ..
  · extract_lets age m s1 e overs s2
    have h1 : s.SameStill s1 x := by
      unfold s1
      split
      · exact .of_angOf (s.setReg_angOf x (by decide) ..)
      · exact .refl ..
    have h2 : s1.SameStill s2 x := (s1.modSrc_still ..).trans (State.judgeFeed_still ..)
    exact h1.trans (h2.trans (s2.judgeErr_still ..))

theorem State.substitute_still : s.SameStill (s.substitute x) x := by
  unfold State.substitute
  split
  · exact .setStat ..
  · exact .refl ..

theorem State.angFall_still : s.SameStill (s.angFall x) x := by
  unfold State.angFall
  split
  · exact (State.SameStill.setStat ..).trans (.of_angOf ((State.oppFault_angOf ..).trans (State.angleHold_angOf ..)))
  · exact .refl ..

theorem State.invalidate_still : s.SameStill (s.invalidate x) x := (s.angFall_still x).trans (.modTrk ..)

theorem State.trkFault_still : s.SameStill (s.trkFault x) x := (State.SameStill.setStat ..).trans (State.invalidate_still ..)

theorem State.coast_still : s.SameStill (s.coast x) x := by
  unfold State.coast
  extract_lets n s1
  have h1 : s.SameStill s1 x := (State.SameStill.modTrk ..).trans (.setStat ..)
  split
  · exact h1.trans (s1.trkFault_still x)
  · exact h1

theorem State.correct_still (e : Int) (good : Bool) : s.SameStill (s.correct x e good) x := by
  unfold State.correct
  extract_lets t w c a1 w1 c1 goods s1 s2
  have h1 : s.SameStill s1 x := (State.SameStill.modTrk ..).trans (.setStat ..)
  have h2 : s.SameStill s2 x := h1.trans (.flagIf ..)
  split
  · exact h2.trans (.setStat ..)
  · exact h2

end

end Sys2Proof.Machine


/-! ## The axis itself: validity, coasting and the outputs (R74, R78, R82, R83, R85) -/

namespace Sys2Proof.Machine

/-! ### VALID falls -/

section

variable (s : State) (x : Fin 8)

theorem State.modTrk_bit (f : Tracker → Tracker) (g : RegFam) (n : Nat) (F : Fld) :
    (s.modTrk x f).bit g n F = s.bit g n F := rfl

theorem State.bit_of_angOf {t : State} (h : t.angOf x = s.angOf x) {f : RegFam} (hf : f.isAng = true) (F : Fld) :
    t.bit f x.val F = s.bit f x.val F := by
  rw [State.bit, State.fld, State.reg_of_angOf h hf, State.bit, State.fld]

/-- What a fall of VALID does to the view of its axis: the bit alone changes. -/
theorem State.angFall_angOf : (s.angFall x).angOf x =
    if s.angValid x then (s.setBit ANG_STAT x.val ANG_STAT_VALID false).angOf x else s.angOf x := by
  rw [State.angFall, ite_angOf, State.oppFault_angOf, State.angleHold_angOf]

theorem State.angFall_valid : (s.angFall x).bit ANG_STAT x.val ANG_STAT_VALID = false := by
  have hview := s.angFall_angOf x
  split at hview
  · rw [State.bit_of_angOf _ x hview (by decide)]
    exact bit_setBit_same _ _ _ _ _ (by decide)
  · next h =>
    rw [State.bit_of_angOf _ x hview (by decide)]
    exact Bool.not_eq_true _ ▸ h

theorem State.angFall_bit (F : Fld) (hF : F.lo ≤ F.hi ∧ F.hi < 31) :
    (s.angFall x).bit ANG_STAT x.val F = s.bit ANG_STAT x.val F := by
  have hview := s.angFall_angOf x
  split at hview
  · rw [State.bit_of_angOf _ x hview (by decide)]
    exact bit_setFld_apart _ _ _ _ _ _ hF.1 (by decide) (.inl hF.2)
  · rw [State.bit_of_angOf _ x hview (by decide)]

theorem State.setBit_tr (f : RegFam) (i : Nat) (F : Fld) (b : Bool) : (s.setBit f i F b).tr x = s.tr x := rfl
theorem State.flag_tr (f : RegFam) (i : Nat) (F : Fld) : (s.flag f i F).tr x = s.tr x := rfl
theorem State.setReg_tr (f : RegFam) (i : Nat) (v : Word) : (s.setReg f i v).tr x = s.tr x := rfl

theorem State.angFall_tr : (s.angFall x).tr x = s.tr x := by
  have hview := s.angFall_angOf x
  split at hview
  · rw [State.tr_of_angOf hview, State.setBit_tr]
  · rw [State.tr_of_angOf hview]

theorem State.invalidate_valid : (s.invalidate x).bit ANG_STAT x.val ANG_STAT_VALID = false := by
  rw [State.invalidate, State.modTrk_bit, State.angFall_valid]

theorem State.invalidate_bit (F : Fld) (hF : F.lo ≤ F.hi ∧ F.hi < 31) :
    (s.invalidate x).bit ANG_STAT x.val F = s.bit ANG_STAT x.val F := by
  rw [State.invalidate, State.modTrk_bit, State.angFall_bit _ _ _ hF]

theorem State.invalidate_tr : (s.invalidate x).tr x = { s.tr x with goods := 0 } := by
  rw [State.invalidate, State.tr_modTrk_same, State.angFall_tr]

/-! ### FAULT -/

theorem State.trkFault_fault : (s.trkFault x).bit ANG_STAT x.val ANG_STAT_FAULT = true := by
  rw [State.trkFault, State.invalidate_bit _ _ _ (by decide)]
  exact bit_flag_same _ _ _ _ (by decide)

theorem State.trkFault_valid : (s.trkFault x).bit ANG_STAT x.val ANG_STAT_VALID = false := State.invalidate_valid ..

theorem State.trkFault_coast : (s.trkFault x).bit ANG_STAT x.val ANG_STAT_COAST = s.bit ANG_STAT x.val ANG_STAT_COAST := by
  rw [State.trkFault, State.invalidate_bit _ _ _ (by decide)]
  exact bit_setFld_apart _ _ _ _ _ _ (by decide) (by decide) (by decide)

theorem State.trkFault_tr : (s.trkFault x).tr x = { s.tr x with goods := 0 } := by
  rw [State.trkFault, State.invalidate_tr, State.flag_tr]

/-! ### COAST -/

/-- The tracker after a coasting update (R82). -/
def Tracker.coasted (t : Tracker) : Tracker :=
  { t with a := BitVec.ofInt 64 ((t.a.toNat : Int) + sx 48 t.w.toNat), c := 0, coasts := t.coasts + 1, goods := 0 }

/-- The state with the tracker coasted, before COAST_MAX is judged. -/
def State.coasting : State := (s.modTrk x Tracker.coasted).setBit ANG_STAT x.val ANG_STAT_COAST true

theorem State.coast_eq : s.coast x =
    if (s.tr x).coasts + 1 = max 1 (s.fld ANG_LIM x.val ANG_LIM_COAST_MAX) then (s.coasting x).trkFault x
    else s.coasting x := rfl

theorem State.coasting_tr : (s.coasting x).tr x = (s.tr x).coasted := by
  rw [State.coasting, State.setBit_tr, State.tr_modTrk_same]

theorem State.coast_tr : (s.coast x).tr x = (s.tr x).coasted := by
  rw [State.coast_eq]
  split
  · rw [State.trkFault_tr, State.coasting_tr]
    rfl
  · exact s.coasting_tr x

theorem State.coasting_coast : (s.coasting x).bit ANG_STAT x.val ANG_STAT_COAST = true :=
  bit_setBit_same _ _ _ _ _ (by decide)

theorem State.coast_coast : (s.coast x).bit ANG_STAT x.val ANG_STAT_COAST = true := by
  rw [State.coast_eq]
  split
  · rw [State.trkFault_coast, State.coasting_coast]
  · exact s.coasting_coast x

/-- The COAST_MAX-th coasting update faults the tracker (R82). -/
theorem State.coast_max (h : (s.tr x).coasts + 1 = max 1 (s.fld ANG_LIM x.val ANG_LIM_COAST_MAX)) :
    (s.coast x).bit ANG_STAT x.val ANG_STAT_FAULT = true ∧ (s.coast x).bit ANG_STAT x.val ANG_STAT_VALID = false := by
  rw [State.coast_eq, if_pos h]
  exact ⟨State.trkFault_fault .., State.trkFault_valid ..⟩

/-! ### The outputs -/

theorem reg_setReg_ang (f g : RegFam) (i : Nat) (v : Word) (hdims : g.dims = f.dims) (hbase : g.base ≠ f.base) :
    (s.setReg f i v).reg g i = s.reg g i := reg_setReg_other _ _ _ _ _ _ (RegFam.addr_ne hdims hbase i)

theorem reg_countWrap_ang (f g : RegFam) (i : Nat) (F : Fld) (hdims : g.dims = f.dims) (hbase : g.base ≠ f.base) :
    (s.countWrap f i F).reg g i = s.reg g i := reg_setReg_ang s f g i _ hdims hbase

theorem State.countWrap_tr (f : RegFam) (i : Nat) (F : Fld) : (s.countWrap f i F).tr x = s.tr x := rfl

theorem State.angOut_tr : (s.angOut x).tr x = s.tr x := by
  unfold State.angOut
  dsimp only
  rw [State.setReg_tr, State.setReg_tr, State.setReg_tr]

theorem State.trkOut_tr : (s.trkOut x).tr x = s.tr x := by
  unfold State.trkOut
  dsimp only
  rw [State.countWrap_tr, State.setReg_tr, State.setReg_tr, State.setReg_tr, State.setReg_tr, State.angOut_tr]

theorem State.angOut_reg {f : RegFam} (hdims : f.dims = ANG_FRAC.dims) (hfrac : f.base ≠ ANG_FRAC.base)
    (hrev : f.base ≠ ANG_REV.base) (helec : f.base ≠ ANG_ELEC.base) : (s.angOut x).reg f x.val = s.reg f x.val := by
  unfold State.angOut
  dsimp only
  rw [reg_setReg_ang _ ANG_ELEC f _ _ hdims helec, reg_setReg_ang _ ANG_REV f _ _ hdims hrev,
    reg_setReg_ang _ ANG_FRAC f _ _ hdims hfrac]

/-- The angle as shown (R75, R78). -/
theorem State.angOut_shown : (s.angOut x).reg ANG_FRAC x.val = BitVec.ofNat 32 ((s.tr x).a.toNat / 2 ^ 16) ∧
    (s.angOut x).reg ANG_REV x.val = BitVec.ofNat 32 ((s.tr x).a.toNat / 2 ^ 48) := by
  have hmod (n : Nat) : BitVec.ofNat 32 (n % 2 ^ 32) = BitVec.ofNat 32 n := BitVec.eq_of_toNat_eq (by simp)
  unfold State.angOut
  dsimp only
  refine ⟨?_, ?_⟩
  · simp (disch := decide) only [reg_setReg_ang, reg_setReg_same, hmod]
  · simp (disch := decide) only [reg_setReg_ang, reg_setReg_same]

theorem State.trkOut_stat : (s.trkOut x).reg ANG_STAT x.val = s.reg ANG_STAT x.val := by
  unfold State.trkOut
  dsimp only
  simp (disch := decide) only [reg_countWrap_ang, reg_setReg_ang, State.angOut_reg]

/-- What the outputs of tracker `x` show after an update: angle, speed, acceleration, and the stamp `ns`. -/
def State.Shows (t : State) (x : Fin 8) (ns : Nat) : Prop :=
  t.reg ANG_TS_LO x.val = BitVec.ofNat 32 ns ∧ t.reg ANG_TS_HI x.val = BitVec.ofNat 32 (ns / 2 ^ 32) ∧
    t.reg ANG_FRAC x.val = BitVec.ofNat 32 ((t.tr x).a.toNat / 2 ^ 16) ∧
    t.reg ANG_REV x.val = BitVec.ofNat 32 ((t.tr x).a.toNat / 2 ^ 48) ∧
    t.reg ANG_SPEED x.val = BitVec.ofNat 32 ((t.tr x).w.toNat / 2 ^ 16) ∧
    t.reg ANG_ACCEL x.val = BitVec.ofNat 32 ((t.tr x).c.toNat / 2 ^ 16)

theorem State.trkOut_shows : (s.trkOut x).Shows x s.ns := by
  obtain ⟨hfrac, hrev⟩ := s.angOut_shown x
  unfold State.Shows
  rw [State.trkOut_tr]
  unfold State.trkOut
  dsimp only
  simp (disch := decide) only [reg_countWrap_ang, reg_setReg_ang, reg_setReg_same, hfrac, hrev, and_true]
  rfl

theorem fld_countWrap_seq : (s.countWrap ANG_SEQ x.val ANG_SEQ_SEQ).fld ANG_SEQ x.val ANG_SEQ_SEQ =
    (s.fld ANG_SEQ x.val ANG_SEQ_SEQ + 1) % 2 ^ 16 := fld_setFld_same _ _ _ _ _ (by decide)

theorem State.trkOut_seq : (s.trkOut x).fld ANG_SEQ x.val ANG_SEQ_SEQ = (s.fld ANG_SEQ x.val ANG_SEQ_SEQ + 1) % 2 ^ 16 := by
  unfold State.trkOut
  dsimp only
  rw [fld_countWrap_seq]
  simp (disch := decide) only [State.fld, reg_setReg_ang, State.angOut_reg]

end

end Sys2Proof.Machine


/-! ## TRACKER_UPDATE (R74 to R85) -/

namespace Sys2Proof.Machine

/-! ### One tracker -/

section

variable (s : State) (x : Fin 8)

/-- The tracker judged, corrected or coasted, before its outputs follow (R77 to R82). -/
def State.trkFused : State :=
  let j0 := s.judgeSrc x 0
  let j1 := j0.1.judgeSrc x 1
  let es (i : Fin 2) : Int := ((if i = 0 then j0.2 else j1.2).getD 0)
  let s1 := j1.1.substitute x
  let use := s1.inUse x
  let elim := s.fld ANG_LIM x.val ANG_LIM_ELIM
  if use.isEmpty then s1.coast x
  else s1.correct x (s1.fuse x es use) (use.all fun i => decide ((es i).natAbs / 2 ^ 16 ≤ elim))

theorem State.trkUpdate_eq : s.trkUpdate x = ((s.trkFused x).trkOut x).trkEntry x (s.reg ANG_STAT x.val) := rfl

theorem State.trkUpdate_angOf : (s.trkUpdate x).angOf x = ((s.trkFused x).trkOut x).angOf x := by
  rw [State.trkUpdate_eq, State.trkEntry_angOf]

theorem State.trkFused_still : s.SameStill (s.trkFused x) x := by
  unfold State.trkFused
  extract_lets j0 j1 es s1 use elim
  have h1 : s.SameStill s1 x :=
    (s.judgeSrc_still x 0).trans ((j0.1.judgeSrc_still x 1).trans (j1.1.substitute_still x))
  split
  · exact h1.trans (s1.coast_still x)
  · exact h1.trans (s1.correct_still x ..)

theorem State.trkFused_time : (s.trkFused x).time = s.time := by simp [State.trkFused]

theorem State.trkFused_ns : (s.trkFused x).ns = s.ns := by rw [State.ns, State.trkFused_time, State.ns]

/-! ### Without a source -/

variable {s x}

theorem State.judgeSrc_none {i : Fin 2} (h : s.trkSel x i = none) : s.judgeSrc x i = (s, none) := by
  unfold State.judgeSrc
  rw [h]

theorem State.trkSel_of_still {t : State} (h : s.SameStill t x) (i : Fin 2) : t.trkSel x i = s.trkSel x i := by
  unfold State.trkSel State.fld
  rw [h.reg ANG_SRC (by decide)]

theorem State.inUse_none (h0 : s.trkSel x 0 = none) (h1 : s.trkSel x 1 = none) : s.inUse x = [] := by
  have g0 : s.srcGood x 0 = false := by rw [State.srcGood, h0]; rfl
  have g1 : s.srcGood x 1 = false := by rw [State.srcGood, h1]; rfl
  unfold State.inUse
  split
  · simp [g0]
  · split <;> simp [g0, g1]
  · simp [g0, g1]

theorem State.trkFused_none (h0 : s.trkSel x 0 = none) (h1 : s.trkSel x 1 = none) :
    s.trkFused x = (s.substitute x).coast x := by
  have hsub (i : Fin 2) := State.trkSel_of_still (s.substitute_still x) i
  have huse : (s.substitute x).inUse x = [] := State.inUse_none ((hsub 0).trans h0) ((hsub 1).trans h1)
  unfold State.trkFused
  simp only [State.judgeSrc_none h0, State.judgeSrc_none h1, huse, List.isEmpty_nil, if_true]

theorem State.substitute_tr : (s.substitute x).tr x = s.tr x := by
  unfold State.substitute
  split
  · exact State.setBit_tr ..
  · rfl

/-- A tracker without a source coasts (R82). -/
theorem State.trkFused_coasts (h0 : s.trkSel x 0 = none) (h1 : s.trkSel x 1 = none) :
    (s.trkFused x).tr x = (s.tr x).coasted ∧ (s.trkFused x).bit ANG_STAT x.val ANG_STAT_COAST = true ∧
      ((s.tr x).coasts + 1 = max 1 (s.fld ANG_LIM x.val ANG_LIM_COAST_MAX) →
        (s.trkFused x).bit ANG_STAT x.val ANG_STAT_FAULT = true ∧ (s.trkFused x).bit ANG_STAT x.val ANG_STAT_VALID = false) := by
  have hlim : (s.substitute x).fld ANG_LIM x.val ANG_LIM_COAST_MAX = s.fld ANG_LIM x.val ANG_LIM_COAST_MAX := by
    rw [State.fld, (s.substitute_still x).reg ANG_LIM (by decide), State.fld]
  rw [State.trkFused_none h0 h1, State.coast_tr, State.coast_coast, State.substitute_tr]
  refine ⟨rfl, rfl, fun hmax => State.coast_max _ _ ?_⟩
  rw [State.substitute_tr, hlim]
  exact hmax

/-! ### The result of one update -/

theorem State.fld_of_angOf {t : State} (h : t.angOf x = s.angOf x) {f : RegFam} (hf : f.isAng = true) (F : Fld) :
    t.fld f x.val F = s.fld f x.val F := by
  rw [State.fld, State.reg_of_angOf h hf, State.fld]

theorem State.Shows.of_angOf {t : State} (h : t.angOf x = s.angOf x) {ns : Nat} (hs : s.Shows x ns) : t.Shows x ns := by
  unfold State.Shows at *
  rw [State.tr_of_angOf h, State.reg_of_angOf h (by decide), State.reg_of_angOf h (by decide), State.reg_of_angOf h (by decide),
    State.reg_of_angOf h (by decide), State.reg_of_angOf h (by decide), State.reg_of_angOf h (by decide)]
  exact hs

theorem State.trkUpdate_shows (s : State) (x : Fin 8) : (s.trkUpdate x).Shows x s.ns := by
  refine .of_angOf (s.trkUpdate_angOf x) ?_
  rw [← s.trkFused_ns x]
  exact State.trkOut_shows ..

theorem State.trkUpdate_seq (s : State) (x : Fin 8) : (s.trkUpdate x).fld ANG_SEQ x.val ANG_SEQ_SEQ =
    (s.fld ANG_SEQ x.val ANG_SEQ_SEQ + 1) % 2 ^ 16 := by
  have hseq : (s.trkFused x).fld ANG_SEQ x.val ANG_SEQ_SEQ = s.fld ANG_SEQ x.val ANG_SEQ_SEQ := by
    rw [State.fld, (s.trkFused_still x).reg ANG_SEQ (by decide), State.fld]
  rw [State.fld_of_angOf (s.trkUpdate_angOf x) (by decide), State.trkOut_seq, hseq]

theorem State.trkUpdate_coasts (h0 : s.trkSel x 0 = none) (h1 : s.trkSel x 1 = none) :
    (s.trkUpdate x).tr x = (s.tr x).coasted ∧ (s.trkUpdate x).bit ANG_STAT x.val ANG_STAT_COAST = true ∧
      ((s.tr x).coasts + 1 = max 1 (s.fld ANG_LIM x.val ANG_LIM_COAST_MAX) →
        (s.trkUpdate x).bit ANG_STAT x.val ANG_STAT_FAULT = true ∧ (s.trkUpdate x).bit ANG_STAT x.val ANG_STAT_VALID = false) := by
  have hview := s.trkUpdate_angOf x
  have hbit (F : Fld) : (s.trkUpdate x).bit ANG_STAT x.val F = (s.trkFused x).bit ANG_STAT x.val F := by
    rw [State.bit_of_angOf _ x hview (by decide), State.bit, State.fld, State.trkOut_stat, State.bit, State.fld]
  rw [State.tr_of_angOf hview, State.trkOut_tr, hbit, hbit, hbit]
  exact State.trkFused_coasts h0 h1

/-! ### All trackers -/

/-- The update of one tracker keeps the ticks, as any other axis sees. -/
theorem State.trkUpdate_ticks (s : State) (y : Fin 8) :
    (s.trkUpdate y).tick = s.tick ∧ (s.trkUpdate y).trkAt = s.trkAt := by
  obtain ⟨x, hx⟩ := exists_ne y
  have hview := s.trkUpdate_angOf_other hx.symm
  exact ⟨State.tick_of_angOf hview, State.trkAt_of_angOf hview⟩

theorem foldl_trkUpdate_ticks (l : List (Fin 8)) (s : State) :
    (l.foldl (fun s x => s.trkUpdate x) s).tick = s.tick ∧ (l.foldl (fun s x => s.trkUpdate x) s).trkAt = s.trkAt := by
  induction l generalizing s with
  | nil => exact ⟨rfl, rfl⟩
  | cons y l ih =>
    obtain ⟨htick, hat⟩ := s.trkUpdate_ticks y
    obtain ⟨itick, iat⟩ := ih (s.trkUpdate y)
    exact ⟨itick.trans htick, iat.trans hat⟩

/-- An axis outside the list keeps its view. -/
theorem foldl_trkUpdate_other {l : List (Fin 8)} {x : Fin 8} (hx : x ∉ l) (s : State) :
    (l.foldl (fun s y => s.trkUpdate y) s).angOf x = s.angOf x :=
  foldl_angOf (fun s y hy => s.trkUpdate_angOf_other fun e : y = x => hx (e ▸ hy)) s

/-- An axis in the list sees one update, of a state that is to it and to the clock as `s`. -/
theorem foldl_trkUpdate_once {l : List (Fin 8)} {x : Fin 8} (hl : l.Nodup) (hx : x ∈ l) (s : State) :
    ∃ u : State, u.angOf x = s.angOf x ∧ u.time = s.time ∧
      (l.foldl (fun s y => s.trkUpdate y) s).angOf x = (u.trkUpdate x).angOf x := by
  induction l generalizing s with
  | nil => cases hx
  | cons y l ih =>
    obtain ⟨hy, hl⟩ := List.nodup_cons.1 hl
    by_cases hxy : y = x
    · subst hxy
      exact ⟨s, rfl, rfl, foldl_trkUpdate_other hy _⟩
    · have hxl : x ∈ l := (List.mem_cons.1 hx).resolve_left (Ne.symm hxy)
      obtain ⟨u, hview, htime, hfold⟩ := ih hl hxl (s.trkUpdate y)
      exact ⟨u, hview.trans (s.trkUpdate_angOf_other hxy), htime.trans (s.trkUpdate_time y), hfold⟩

end

/-! ### The command -/

/-- The enabled trackers. -/
def State.trksOn (s : State) : List (Fin 8) := (List.finRange 8).filter (s.trkOn ·)

/-- The update noted as done at this tick. -/
def State.noteUpdate (s : State) : State := { s with trkAt := some s.tick }

/-- The state after an update that is due. -/
def State.updated (s : State) : State :=
  let s1 := s.trksOn.foldl (fun s x => s.trkUpdate x) s.noteUpdate
  let s2 := s.trksOn.foldl (fun s x => s.predictAxis x) s1
  let s3 := if s2.treesOn then (List.finRange 128).foldl (fun s c => s.gainStep c) s2 else s2
  s.trksOn.foldl (fun s x => s.axisUpdate x) s3

theorem State.mem_trksOn (s : State) (x : Fin 8) : x ∈ s.trksOn ↔ s.trkOn x = true := by simp [State.trksOn]
theorem State.nodup_trksOn (s : State) : s.trksOn.Nodup := (List.nodup_finRange 8).filter _

theorem exec_trackerUpdate_notDue {s : State} (h : ¬ (s.fabricOn = true ∧ s.tick % 640 = 0 ∧ s.trkAt ≠ some s.tick)) :
    exec .trackerUpdate s = .next s := by
  rw [exec_trackerUpdate, execTrackerUpdate, ok, if_pos]
  by_contra hc
  exact h (by simpa [and_assoc] using hc)

theorem exec_trackerUpdate_due {s : State} (h : s.fabricOn = true ∧ s.tick % 640 = 0 ∧ s.trkAt ≠ some s.tick) :
    exec .trackerUpdate s = .next s.updated := by
  rw [exec_trackerUpdate, execTrackerUpdate, ok, if_neg]
  · rfl
  · simpa [and_assoc] using h

/-- After the trackers, the Gallery, the gain scheduler and the units of the axes leave every axis's view. -/
theorem State.updated_angOf (s : State) (x : Fin 8) :
    s.updated.angOf x = (s.trksOn.foldl (fun s x => s.trkUpdate x) s.noteUpdate).angOf x := by
  unfold State.updated
  extract_lets s1 s2 s3
  have h2 : s2.angOf x = s1.angOf x := foldl_angOf (fun s y _ => s.predictAxis_angOf x y) s1
  have h3 : s3.angOf x = s2.angOf x := by
    unfold s3
    split
    · exact foldl_angOf (fun s c _ => s.gainStep_angOf x c) s2
    · rfl
  exact (foldl_angOf (fun s y _ => s.axisUpdate_angOf x y) s3).trans (h3.trans h2)

theorem State.updated_time (s : State) : s.updated.time = s.time := by
  unfold State.updated
  extract_lets s1 s2 s3
  have h1 : s1.time = s.time := foldl_time (fun s x => s.trkUpdate_time x) _ s.noteUpdate
  have h2 : s2.time = s1.time := foldl_time (fun s x => s.predictAxis_time x) _ s1
  have h3 : s3.time = s2.time := by
    unfold s3
    split
    · exact foldl_time (fun s c => s.gainStep_time c) _ s2
    · rfl
  exact (foldl_time (fun s x => s.axisUpdate_time x) _ s3).trans (h3.trans (h2.trans h1))

theorem State.updated_ticks (s : State) : s.updated.tick = s.tick ∧ s.updated.trkAt = some s.tick := by
  obtain ⟨htick, hat⟩ := foldl_trkUpdate_ticks s.trksOn s.noteUpdate
  have hview := s.updated_angOf 0
  exact ⟨(State.tick_of_angOf hview).trans htick, (State.trkAt_of_angOf hview).trans hat⟩

theorem State.noteUpdate_reg (s : State) (f : RegFam) (i : Nat) : s.noteUpdate.reg f i = s.reg f i := rfl
theorem State.noteUpdate_tr (s : State) (x : Fin 8) : s.noteUpdate.tr x = s.tr x := rfl

/-- A tracker that is off keeps its angle, counts and outputs. -/
theorem State.updated_off {s : State} {x : Fin 8} (h : s.trkOn x = false) :
    s.updated.tr x = s.tr x ∧ s.updated.reg ANG_SEQ x.val = s.reg ANG_SEQ x.val := by
  have hx : x ∉ s.trksOn := by rw [State.mem_trksOn, h]; decide
  have hview := (s.updated_angOf x).trans (foldl_trkUpdate_other hx s.noteUpdate)
  exact ⟨(State.tr_of_angOf hview).trans (s.noteUpdate_tr x),
    (State.reg_of_angOf hview (by decide)).trans (s.noteUpdate_reg ..)⟩

/-- A tracker that is on is updated once, of a state that is to it as `s`. -/
theorem State.updated_on {s : State} {x : Fin 8} (h : s.trkOn x = true) :
    ∃ u : State, s.updated.angOf x = (u.trkUpdate x).angOf x ∧ u.time = s.time ∧ u.tr x = s.tr x ∧
      ∀ f : RegFam, f.isAng = true → u.reg f x.val = s.reg f x.val := by
  obtain ⟨u, hview, htime, hfold⟩ := foldl_trkUpdate_once s.nodup_trksOn ((s.mem_trksOn x).2 h) s.noteUpdate
  exact ⟨u, (s.updated_angOf x).trans hfold, htime, (State.tr_of_angOf hview).trans (s.noteUpdate_tr x),
    fun f hf => (State.reg_of_angOf hview hf).trans (s.noteUpdate_reg ..)⟩

theorem State.updated_shows {s : State} {x : Fin 8} (h : s.trkOn x = true) :
    s.updated.fld ANG_SEQ x.val ANG_SEQ_SEQ = (s.fld ANG_SEQ x.val ANG_SEQ_SEQ + 1) % 2 ^ 16 ∧ s.updated.Shows x s.ns := by
  obtain ⟨u, hview, htime, -, hreg⟩ := State.updated_on h
  have hns : u.ns = s.ns := by rw [State.ns, htime, State.ns]
  refine ⟨?_, ?_⟩
  · rw [State.fld_of_angOf hview (by decide), State.trkUpdate_seq, State.fld, hreg ANG_SEQ (by decide), State.fld]
  · rw [← hns]
    exact .of_angOf hview (u.trkUpdate_shows x)

theorem State.updated_coasts {s : State} {x : Fin 8} (h : s.trkOn x = true) (h0 : s.trkSel x 0 = none)
    (h1 : s.trkSel x 1 = none) :
    s.updated.tr x = (s.tr x).coasted ∧ s.updated.bit ANG_STAT x.val ANG_STAT_COAST = true ∧
      ((s.tr x).coasts + 1 = max 1 (s.fld ANG_LIM x.val ANG_LIM_COAST_MAX) →
        s.updated.bit ANG_STAT x.val ANG_STAT_FAULT = true ∧ s.updated.bit ANG_STAT x.val ANG_STAT_VALID = false) := by
  obtain ⟨u, hview, -, htr, hreg⟩ := State.updated_on h
  have hsel (i : Fin 2) : u.trkSel x i = s.trkSel x i :=
    State.trkSel_of_still ⟨fun f hf => hreg f (RegFam.isAngStill_isAng hf)⟩ i
  have hlim : u.fld ANG_LIM x.val ANG_LIM_COAST_MAX = s.fld ANG_LIM x.val ANG_LIM_COAST_MAX := by
    rw [State.fld, hreg ANG_LIM (by decide), State.fld]
  have hcoasts := State.trkUpdate_coasts ((hsel 0).trans h0) ((hsel 1).trans h1)
  rw [htr, hlim] at hcoasts
  have hbit (F : Fld) := State.bit_of_angOf _ x hview (f := ANG_STAT) (by decide) F
  rw [State.tr_of_angOf hview, hbit, hbit, hbit]
  exact hcoasts

/-- Settles O15: each enabled tracker is updated once, and the rest of the update leaves every tracker's view. -/
theorem trackerUpdates : Obligations.TrackerUpdates := by
  unfold Obligations.TrackerUpdates
  intro s
  refine ⟨fun h => exec_trackerUpdate_notDue h, fun h => ?_⟩
  obtain ⟨htick, hat⟩ := s.updated_ticks
  refine ⟨_, exec_trackerUpdate_due h, hat, htick, s.updated_time, fun x => ⟨State.updated_off, State.updated_shows, ?_⟩⟩
  intro hon h0 h1
  obtain ⟨htr, hcoast, hmax⟩ := State.updated_coasts hon h0 h1
  rw [htr]
  exact ⟨rfl, rfl, rfl, rfl, hcoast, hmax⟩

end Sys2Proof.Machine


/-! ## SOURCE_FAULT and TRACKER_FAULT (R79, R80, R82, R83) -/

namespace Sys2Proof.Machine

section

variable {s : State} {x : Fin 8} {i : Fin 2}

/-! ### A source is faulted -/

/-- A source's record changed, with its SF flag set where the fault is `new`. -/
def State.faultSrc (s : State) (x : Fin 8) (i : Fin 2) (new : Bool) (f : SrcState → SrcState) : State :=
  (if new then s.flag ANG_STAT x.val (sfFld i) else s).modSrc x i f

/-- A source whose interface is not HEALTHY. -/
def SrcState.loseIface (c : SrcState) : SrcState := { c with badIface := true, badObs := false }

/-- A source whose observer input went unwritten. -/
def SrcState.loseObs (c : SrcState) : SrcState := { c with badIface := false, badObs := true }

theorem SrcState.loseIface_faulted (c : SrcState) : c.loseIface.faulted = true := rfl

theorem SrcState.loseObs_faulted (c : SrcState) : c.loseObs.faulted = true := rfl

theorem State.judgeFeed_iface {k : Fin 16} (hsel : s.trkSel x i = some (.iface k))
    (hbad : s.bit POS_STAT k.val POS_STAT_HEALTHY = false) (age : Nat) :
    s.judgeFeed x i age = s.faultSrc x i (!(vget (s.tr x).src i).badIface) SrcState.loseIface := by
  unfold State.judgeFeed State.faultSrc
  rw [hsel]
  simp only [hbad, Bool.not_false, Bool.true_and]
  rfl

theorem State.judgeFeed_observer (hsel : s.trkSel x i = some .observer) {age : Nat} (hage : s.obsTmo x ≤ age) :
    s.judgeFeed x i age = s.faultSrc x i (!(vget (s.tr x).src i).badObs) SrcState.loseObs := by
  unfold State.judgeFeed State.faultSrc
  rw [hsel]
  simp only [decide_eq_true hage, Bool.true_and]
  rfl

theorem State.judgeFeed_none (hsel : s.trkSel x i = none) (age : Nat) : s.judgeFeed x i age = s := by
  unfold State.judgeFeed
  rw [hsel]

theorem State.modSrc_src (s : State) (x : Fin 8) (i : Fin 2) (f : SrcState → SrcState) :
    vget ((s.modSrc x i f).tr x).src i = f (vget (s.tr x).src i) := by
  rw [State.modSrc, State.tr_modTrk_same]
  exact vget_vset_same ..

theorem State.modSrc_a (s : State) (x : Fin 8) (i : Fin 2) (f : SrcState → SrcState) :
    ((s.modSrc x i f).tr x).a = (s.tr x).a := by
  rw [State.modSrc, State.tr_modTrk_same]

theorem State.flagIf_tr (s : State) (x : Fin 8) (c : Prop) [Decidable c] (F : Fld) :
    (if c then s.flag ANG_STAT x.val F else s).tr x = s.tr x := by
  split
  · exact s.flag_tr ..
  · rfl

section

variable (new : Bool) (f : SrcState → SrcState)

theorem State.faultSrc_src : vget ((s.faultSrc x i new f).tr x).src i = f (vget (s.tr x).src i) := by
  rw [State.faultSrc, State.modSrc_src, State.flagIf_tr]

theorem State.faultSrc_a : ((s.faultSrc x i new f).tr x).a = (s.tr x).a := by
  rw [State.faultSrc, State.modSrc_a, State.flagIf_tr]

theorem State.faultSrc_still : s.SameStill (s.faultSrc x i new f) x := (State.SameStill.flagIf ..).trans (State.modSrc_still ..)

theorem sfFld_bit (i : Fin 2) : (sfFld i).hi = (sfFld i).lo ∧ (sfFld i).hi < 28 := by
  unfold sfFld
  split <;> decide

theorem State.faultSrc_flagged : (s.faultSrc x i true f).bit ANG_STAT x.val (sfFld i) = true := by
  obtain ⟨hone, hlow⟩ := sfFld_bit i
  rw [State.faultSrc, State.modSrc, State.modTrk_bit, if_pos rfl]
  exact bit_flag_same _ _ _ _ ⟨hone, by omega⟩

/-! ### SUBSTITUTION -/

theorem State.substitute_bit (s : State) (x : Fin 8) (F : Fld) (hF : F.lo ≤ F.hi ∧ F.hi < 28) :
    (s.substitute x).bit ANG_STAT x.val F = s.bit ANG_STAT x.val F := by
  unfold State.substitute
  split
  · exact bit_setFld_apart _ _ _ _ _ _ hF.1 (by decide) (.inl hF.2)
  · rfl

/-- A tracker in SUBSTITUTE mode whose source 0 is not good has SUB after SUBSTITUTION (R80). -/
theorem State.substitute_sub (hmode : s.trkMode x = 1) (hbad : s.srcGood x 0 = false) :
    (s.substitute x).bit ANG_STAT x.val ANG_STAT_SUB = true := by
  unfold State.substitute
  split
  · exact bit_setBit_same _ _ _ _ _ (by decide)
  · next hno =>
    by_contra hsub
    exact hno ⟨hmode, hbad, Bool.not_eq_true _ ▸ hsub⟩

theorem State.trkMode_of_still {t : State} (h : s.SameStill t x) : t.trkMode x = s.trkMode x := by
  unfold State.trkMode State.fld
  rw [h.reg ANG_CFG (by decide)]

/-- The end of SOURCE_FAULT on a faulted source (R79, R80). -/
theorem State.faultSrc_result (hf : (f (vget (s.tr x).src i)).faulted = true) (old : Word) :
    let t := ((s.faultSrc x i new f).substitute x).trkEntry x old
    vget (t.tr x).src i = f (vget (s.tr x).src i) ∧ (new = true → t.bit ANG_STAT x.val (sfFld i) = true) ∧
      (i = 0 → s.trkMode x = 1 → t.bit ANG_STAT x.val ANG_STAT_SUB = true) ∧ (t.tr x).a = (s.tr x).a ∧ t.time = s.time := by
  intro t
  obtain ⟨hone, hlow⟩ := sfFld_bit i
  have hview : t.angOf x = ((s.faultSrc x i new f).substitute x).angOf x := State.trkEntry_angOf ..
  have htr : t.tr x = (s.faultSrc x i new f).tr x := by rw [State.tr_of_angOf hview, State.substitute_tr]
  have hbit (F : Fld) := State.bit_of_angOf _ x hview (f := ANG_STAT) (by decide) F
  rw [htr, hbit, hbit, State.faultSrc_src, State.faultSrc_a]
  refine ⟨rfl, fun hnew => ?_, fun hi hmode => ?_, rfl, ?_⟩
  · rw [State.substitute_bit _ _ _ ⟨hone.ge, hlow⟩, hnew]
    exact State.faultSrc_flagged f
  · subst hi
    have hbad : (s.faultSrc x 0 new f).srcGood x 0 = false := by
      rw [State.srcGood, State.faultSrc_src, hf, Bool.not_true, Bool.and_false]
    exact State.substitute_sub ((State.trkMode_of_still (State.faultSrc_still new f)).trans hmode) hbad
  · simp [t, State.faultSrc]

end

/-- An update is due on tracker `x`. -/
def State.trkDue (s : State) (x : Fin 8) : Prop :=
  s.fabricOn = true ∧ s.tick % 640 = 0 ∧ s.trkAt ≠ some s.tick ∧ s.trkOn x = true

theorem exec_sourceFault_notDue (h : ¬ s.trkDue x) : exec (.sourceFault x i) s = .next s := by
  rw [exec_sourceFault, execSourceFault, ok, if_pos]
  by_contra hc
  exact h (by simpa [State.trkDue, and_assoc] using hc)

theorem exec_sourceFault_due (h : s.trkDue x) : exec (.sourceFault x i) s = .next (
    let s1 := s.judgeFeed x i ((vget (s.tr x).src i).obsAge + 1)
    if (vget (s1.tr x).src i).faulted then (s1.substitute x).trkEntry x (s.reg ANG_STAT x.val) else s) := by
  rw [exec_sourceFault, execSourceFault, ok, if_neg]
  simpa [State.trkDue, and_assoc] using h

theorem exec_sourceFault_sound (hsel : s.trkSel x i = none) (hsound : (vget (s.tr x).src i).faulted = false) :
    exec (.sourceFault x i) s = .next s := by
  by_cases h : s.trkDue x
  · rw [exec_sourceFault_due h, State.judgeFeed_none hsel]
    dsimp only
    rw [hsound, if_neg (by decide)]
  · exact exec_sourceFault_notDue h

theorem exec_sourceFault_faulted (h : s.trkDue x) {new : Bool} {f : SrcState → SrcState}
    (hf : (f (vget (s.tr x).src i)).faulted = true)
    (hjudge : s.judgeFeed x i ((vget (s.tr x).src i).obsAge + 1) = s.faultSrc x i new f) :
    exec (.sourceFault x i) s = .next (((s.faultSrc x i new f).substitute x).trkEntry x (s.reg ANG_STAT x.val)) := by
  rw [exec_sourceFault_due h, hjudge]
  dsimp only
  rw [State.faultSrc_src, hf, if_pos rfl]

/-! ### TRACKER_FAULT -/

theorem exec_trackerFault_notDue (h : ¬ (s.fabricOn = true ∧ s.trkOn x = true ∧
    max 1 (s.fld ANG_LIM x.val ANG_LIM_COAST_MAX) ≤ (s.tr x).coasts)) : exec (.trackerFault x) s = .next s := by
  rw [exec_trackerFault, execTrackerFault, ok, if_neg]
  intro hc
  exact h (by simpa [and_assoc] using hc)

theorem exec_trackerFault_due (h : s.fabricOn = true ∧ s.trkOn x = true ∧
    max 1 (s.fld ANG_LIM x.val ANG_LIM_COAST_MAX) ≤ (s.tr x).coasts) :
    exec (.trackerFault x) s = .next ((s.trkFault x).trkEntry x (s.reg ANG_STAT x.val)) := by
  rw [exec_trackerFault, execTrackerFault, ok, if_pos]
  simpa [and_assoc] using h

theorem State.trkFault_result (s : State) (x : Fin 8) (old : Word) :
    let t := (s.trkFault x).trkEntry x old
    t.bit ANG_STAT x.val ANG_STAT_FAULT = true ∧ t.bit ANG_STAT x.val ANG_STAT_VALID = false ∧
      t.tr x = { s.tr x with goods := 0 } ∧ t.time = s.time := by
  intro t
  have hview : t.angOf x = (s.trkFault x).angOf x := State.trkEntry_angOf ..
  have hbit (F : Fld) := State.bit_of_angOf _ x hview (f := ANG_STAT) (by decide) F
  rw [hbit, hbit, State.tr_of_angOf hview, State.trkFault_tr]
  exact ⟨State.trkFault_fault .., State.trkFault_valid .., rfl, by simp [t]⟩

end

/-- Settles O16: a source judged unsound is faulted and substituted, and COAST_MAX coasting updates fault the tracker. -/
theorem trackerFaults : Obligations.TrackerFaults := by
  unfold Obligations.TrackerFaults
  intro x s
  refine ⟨fun i => ⟨fun h => exec_sourceFault_notDue h, fun hsel hsound => exec_sourceFault_sound hsel hsound, ?_, ?_⟩,
    fun h => exec_trackerFault_notDue h, fun h => ?_⟩
  · intro k hdue hsel hbad
    have hf := SrcState.loseIface_faulted (vget (s.tr x).src i)
    obtain ⟨hsrc, hflag, hsub, ha, htime⟩ := State.faultSrc_result (!(vget (s.tr x).src i).badIface) _ hf (s.reg ANG_STAT x.val)
    refine ⟨_, exec_sourceFault_faulted hdue hf (State.judgeFeed_iface hsel hbad _), ?_, fun hnew => hflag ?_, hsub, ha, htime⟩
    · rw [hsrc]
      rfl
    · rw [hnew]
      rfl
  · intro hdue hsel hage
    have hf := SrcState.loseObs_faulted (vget (s.tr x).src i)
    obtain ⟨hsrc, hflag, hsub, ha, htime⟩ := State.faultSrc_result (!(vget (s.tr x).src i).badObs) _ hf (s.reg ANG_STAT x.val)
    refine ⟨_, exec_sourceFault_faulted hdue hf (State.judgeFeed_observer hsel hage), ?_, fun hnew => hflag ?_, hsub, ha, htime⟩
    · rw [hsrc]
      rfl
    · rw [hnew]
      rfl
  · obtain ⟨hfault, hvalid, htr, htime⟩ := s.trkFault_result x (s.reg ANG_STAT x.val)
    refine ⟨_, exec_trackerFault_due h, hfault, hvalid, ?_⟩
    rw [htr]
    exact ⟨rfl, rfl, rfl, htime⟩

end Sys2Proof.Machine


/-! ## The writes of a tracker's registers (R74, R79, R80, R84) -/

namespace Sys2Proof.Machine

/-! ### Fields under a mask, and of a one-bit field -/

/-- A mask that holds every bit of a field keeps the field. -/
theorem Fld.get_and_full (F : Fld) (w m : Word) (h : F.get m = 2 ^ (F.hi + 1 - F.lo) - 1) : F.get (w &&& m) = F.get w := by
  rw [Fld.get_and, h, Nat.and_two_pow_sub_one_eq_mod, Fld.get, Nat.mod_mod]

theorem Fld.get_bit_lt (F : Fld) (w : Word) (h : F.hi = F.lo) : F.get w < 2 := by
  unfold Fld.get
  rw [h, show F.lo + 1 - F.lo = 1 by omega]
  exact Nat.mod_lt _ (by decide)

/-- The writable bits of ANG_CFG. -/
def angCfgMask : Word := 0xE07FFFFF

section

variable {s : State} {x : Fin 8}

theorem State.trkOn_iff (s : State) (x : Fin 8) : s.trkOn x = true ↔ ANG_CFG_EN.get (s.reg ANG_CFG x.val) = 1 := by
  rw [State.trkOn, State.bit, State.fld, beq_iff_eq]

theorem State.en_of_off (h : s.trkOn x = false) : ANG_CFG_EN.get (s.reg ANG_CFG x.val) = 0 := by
  have hlt := Fld.get_bit_lt ANG_CFG_EN (s.reg ANG_CFG x.val) rfl
  have hne : ¬ ANG_CFG_EN.get (s.reg ANG_CFG x.val) = 1 := fun e => by
    rw [(s.trkOn_iff x).2 e] at h
    cases h
  omega

/-! ### ANG_CFG -/

/-- ANG_CFG written, and SUB cleared where MODE changes (R80). -/
def State.angCfgSet (s : State) (x : Fin 8) (v : Word) : State :=
  if ANG_CFG_MODE.get v ≠ ANG_CFG_MODE.get (s.reg ANG_CFG x.val) then
    (s.setReg ANG_CFG x.val (v &&& angCfgMask)).setBit ANG_STAT x.val ANG_STAT_SUB false
  else s.setReg ANG_CFG x.val (v &&& angCfgMask)

/-- A tracker enabled anew: its counts and its sources restart (R74). -/
def Tracker.restarted (t : Tracker) (bad : Fin 2 → Bool) : Tracker :=
  { t with coasts := 0, goods := 0, src := Vector.ofFn fun i : Fin 2 => { srcReset with badIface := bad i } }

/-- The interface of a source is not HEALTHY. -/
def State.ifaceBad (s : State) (x : Fin 8) (i : Fin 2) : Bool :=
  match s.trkSel x i with
  | some (.iface k) => !s.bit POS_STAT k.val POS_STAT_HEALTHY
  | _ => false

/-- The tracker restarted, with SUB clear, before VALID falls. -/
def State.restart (s : State) (x : Fin 8) : State :=
  (s.setBit ANG_STAT x.val ANG_STAT_SUB false).modTrk x (·.restarted (s.ifaceBad x))

theorem State.writeAngCfg_rise {v : Word} (hv : ANG_CFG_EN.get v = 1) (hoff : s.trkOn x = false) :
    s.writeAngCfg x v = (((s.angCfgSet x v).restart x).invalidate x).trkEntry x (s.reg ANG_STAT x.val) := by
  unfold State.writeAngCfg
  extract_lets old stat s1 s2 bad s3
  rw [if_pos ⟨hv, State.en_of_off hoff⟩]
  rfl

theorem State.writeAngCfg_noRise {v : Word} (h : ¬ (ANG_CFG_EN.get v = 1 ∧ ANG_CFG_EN.get (s.reg ANG_CFG x.val) = 0)) :
    s.writeAngCfg x v = s.angCfgSet x v := by
  unfold State.writeAngCfg
  extract_lets old stat s1 s2 bad s3
  rw [if_neg h]
  rfl

theorem State.angCfgSet_sameMode {v : Word} (h : ANG_CFG_MODE.get v = ANG_CFG_MODE.get (s.reg ANG_CFG x.val)) :
    s.angCfgSet x v = s.setReg ANG_CFG x.val (v &&& angCfgMask) := by
  rw [State.angCfgSet, if_neg (not_not.2 h)]

theorem State.angCfgSet_newMode {v : Word} (h : ANG_CFG_MODE.get v ≠ ANG_CFG_MODE.get (s.reg ANG_CFG x.val)) :
    s.angCfgSet x v = (s.setReg ANG_CFG x.val (v &&& angCfgMask)).setBit ANG_STAT x.val ANG_STAT_SUB false := by
  rw [State.angCfgSet, if_pos h]

theorem reg_setBit_ang (s : State) (f g : RegFam) (i : Nat) (F : Fld) (b : Bool) (hdims : g.dims = f.dims)
    (hbase : g.base ≠ f.base) : (s.setBit f i F b).reg g i = s.reg g i := reg_setReg_ang s f g i _ hdims hbase

theorem State.angCfgSet_cfg (s : State) (x : Fin 8) (v : Word) : (s.angCfgSet x v).reg ANG_CFG x.val = v &&& angCfgMask := by
  unfold State.angCfgSet
  split
  · rw [reg_setBit_ang _ _ _ _ _ _ (by decide) (by decide), reg_setReg_same]
  · exact reg_setReg_same ..

theorem State.angCfgSet_tr (s : State) (x : Fin 8) (v : Word) : (s.angCfgSet x v).tr x = s.tr x := by
  unfold State.angCfgSet
  split
  · rw [State.setBit_tr, State.setReg_tr]
  · exact State.setReg_tr ..

theorem State.angCfgSet_time (s : State) (x : Fin 8) (v : Word) : (s.angCfgSet x v).time = s.time := by
  simp [State.angCfgSet]

theorem State.restart_still (s : State) (x : Fin 8) : s.SameStill (s.restart x) x :=
  (State.SameStill.setStat ..).trans (.modTrk ..)

theorem State.restart_tr (s : State) (x : Fin 8) : (s.restart x).tr x = (s.tr x).restarted (s.ifaceBad x) := by
  rw [State.restart, State.tr_modTrk_same, State.setBit_tr]

theorem State.restart_sub (s : State) (x : Fin 8) : (s.restart x).bit ANG_STAT x.val ANG_STAT_SUB = false := by
  rw [State.restart, State.modTrk_bit]
  exact bit_setBit_same _ _ _ _ _ (by decide)

/-- The sources of a restarted tracker count from 0. -/
theorem Tracker.restarted_src (t : Tracker) (bad : Fin 2 → Bool) (i : Fin 2) :
    (vget (t.restarted bad).src i).overs = 0 ∧ (vget (t.restarted bad).src i).under = 0 ∧
      (vget (t.restarted bad).src i).obsAge = 0 := by
  simp [Tracker.restarted, vget, srcReset]

/-- A rise of EN (R74). -/
theorem State.rise_result (s : State) (x : Fin 8) (v : Word) (hv : ANG_CFG_EN.get v = 1) (old : Word) :
    let t := (((s.angCfgSet x v).restart x).invalidate x).trkEntry x old
    t.trkOn x = true ∧ t.bit ANG_STAT x.val ANG_STAT_VALID = false ∧ t.bit ANG_STAT x.val ANG_STAT_SUB = false ∧
      (∃ bad, t.tr x = (s.tr x).restarted bad) ∧ t.time = s.time := by
  intro t
  have hview : t.angOf x = (((s.angCfgSet x v).restart x).invalidate x).angOf x := State.trkEntry_angOf ..
  have hbit (F : Fld) := State.bit_of_angOf _ x hview (f := ANG_STAT) (by decide) F
  have hstill := (State.restart_still (s.angCfgSet x v) x).trans (State.invalidate_still _ x)
  refine ⟨?_, ?_, ?_, ⟨(s.angCfgSet x v).ifaceBad x, ?_⟩, ?_⟩
  · rw [State.trkOn_iff, State.reg_of_angOf hview (by decide), hstill.reg ANG_CFG (by decide), State.angCfgSet_cfg,
      Fld.get_and_full _ _ _ (by decide), hv]
  · rw [hbit, State.invalidate_valid]
  · rw [hbit, State.invalidate_bit _ _ _ (by decide), State.restart_sub]
  · rw [State.tr_of_angOf hview, State.invalidate_tr, State.restart_tr, State.angCfgSet_tr]
    rfl
  · simp [t, State.restart, State.angCfgSet_time]

/-! ### ANG_CMD -/

/-- SET of a tracker's angle, before VALID falls. -/
def State.angLoad (s : State) (x : Fin 8) (a : BitVec 64) : State :=
  ((s.modTrk x fun t => { t with a := a }).angOut x).countWrap ANG_SEQ x.val ANG_SEQ_SEQ

theorem State.angSet_eq (s : State) (x : Fin 8) (rev : Nat) : s.angSet x rev =
    ((s.angLoad x (BitVec.ofNat 64 (rev * 2 ^ 48 + s.fld ANG_SET_FRAC x.val ANG_SET_FRAC_FRAC * 2 ^ 16))).invalidate x).trkEntry x
      (s.reg ANG_STAT x.val) := rfl

theorem State.angLoad_tr (s : State) (x : Fin 8) (a : BitVec 64) : (s.angLoad x a).tr x = { s.tr x with a := a } := by
  rw [State.angLoad, State.countWrap_tr, State.angOut_tr, State.tr_modTrk_same]

theorem State.angLoad_seq (s : State) (x : Fin 8) (a : BitVec 64) : (s.angLoad x a).fld ANG_SEQ x.val ANG_SEQ_SEQ =
    (s.fld ANG_SEQ x.val ANG_SEQ_SEQ + 1) % 2 ^ 16 := by
  rw [State.angLoad, fld_countWrap_seq, State.fld, State.angOut_reg _ _ (by decide) (by decide) (by decide) (by decide),
    State.modTrk_reg, State.fld]

theorem State.angLoad_shown (s : State) (x : Fin 8) (a : BitVec 64) :
    (s.angLoad x a).reg ANG_FRAC x.val = BitVec.ofNat 32 (a.toNat / 2 ^ 16) ∧
      (s.angLoad x a).reg ANG_REV x.val = BitVec.ofNat 32 (a.toNat / 2 ^ 48) := by
  obtain ⟨hfrac, hrev⟩ := (s.modTrk x fun t => { t with a := a }).angOut_shown x
  rw [State.tr_modTrk_same] at hfrac hrev
  rw [State.angLoad, reg_countWrap_ang _ ANG_SEQ ANG_FRAC _ _ (by decide) (by decide),
    reg_countWrap_ang _ ANG_SEQ ANG_REV _ _ (by decide) (by decide)]
  exact ⟨hfrac, hrev⟩

/-- The outcome of SET (R84). -/
theorem State.angLoad_result (s : State) (x : Fin 8) (a : BitVec 64) (old : Word) :
    let t := ((s.angLoad x a).invalidate x).trkEntry x old
    t.tr x = { s.tr x with a := a, goods := 0 } ∧ t.reg ANG_FRAC x.val = BitVec.ofNat 32 (a.toNat / 2 ^ 16) ∧
      t.reg ANG_REV x.val = BitVec.ofNat 32 (a.toNat / 2 ^ 48) ∧ t.bit ANG_STAT x.val ANG_STAT_VALID = false ∧
      t.fld ANG_SEQ x.val ANG_SEQ_SEQ = (s.fld ANG_SEQ x.val ANG_SEQ_SEQ + 1) % 2 ^ 16 ∧ t.time = s.time := by
  intro t
  have hview : t.angOf x = ((s.angLoad x a).invalidate x).angOf x := State.trkEntry_angOf ..
  have hstill := State.invalidate_still (s.angLoad x a) x
  obtain ⟨hfrac, hrev⟩ := s.angLoad_shown x a
  refine ⟨?_, ?_, ?_, ?_, ?_, ?_⟩
  · rw [State.tr_of_angOf hview, State.invalidate_tr, State.angLoad_tr]
  · rw [State.reg_of_angOf hview (by decide), hstill.reg ANG_FRAC (by decide), hfrac]
  · rw [State.reg_of_angOf hview (by decide), hstill.reg ANG_REV (by decide), hrev]
  · rw [State.bit_of_angOf _ x hview (by decide), State.invalidate_valid]
  · rw [State.fld, State.reg_of_angOf hview (by decide), hstill.reg ANG_SEQ (by decide)]
    exact s.angLoad_seq x a
  · simp [t, State.angLoad]

/-- The angle that SET loads, in its parts. -/
theorem setAngle_parts (rev : Half) (frac : Word) :
    let a := BitVec.ofNat 64 (rev.toNat * 2 ^ 48 + frac.toNat * 2 ^ 16)
    BitVec.ofNat 32 (a.toNat / 2 ^ 16) = frac ∧ a.toNat / 2 ^ 48 = rev.toNat := by
  intro a
  have hrev := rev.isLt
  have hfrac := frac.isLt
  have ha : a.toNat = rev.toNat * 2 ^ 48 + frac.toNat * 2 ^ 16 := by
    rw [BitVec.toNat_ofNat]
    exact Nat.mod_eq_of_lt (by omega)
  rw [ha]
  refine ⟨BitVec.eq_of_toNat_eq ?_, by omega⟩
  rw [BitVec.toNat_ofNat]
  omega

theorem ANG_SET_FRAC_FRAC_get (w : Word) : ANG_SET_FRAC_FRAC.get w = w.toNat := by
  have hw := w.isLt
  simp only [Fld.get]
  omega

theorem State.writeAngCmd_set (s : State) (x : Fin 8) (rev : Half) :
    s.writeAngCmd x (ANG_CMD_SET.put (ANG_CMD_SET_REV.put 0 rev.toNat) 1) = s.angSet x rev.toNat := by
  have hset (w : Word) : ANG_CMD_SET.get (ANG_CMD_SET.put w 1) = 1 := Fld.get_put _ _ _ (by decide)
  have hpri (w : Word) : ANG_CMD_PRI.get (ANG_CMD_SET.put w 1) = ANG_CMD_PRI.get w :=
    Fld.get_put_apart _ _ _ _ (by decide) (by decide) (by decide)
  have hpri' (w : Word) (n : Nat) : ANG_CMD_PRI.get (ANG_CMD_SET_REV.put w n) = ANG_CMD_PRI.get w :=
    Fld.get_put_apart _ _ _ _ (by decide) (by decide) (by decide)
  have hrev (w : Word) : ANG_CMD_SET_REV.get (ANG_CMD_SET.put w 1) = ANG_CMD_SET_REV.get w :=
    Fld.get_put_apart _ _ _ _ (by decide) (by decide) (by decide)
  have hrev' (w : Word) : ANG_CMD_SET_REV.get (ANG_CMD_SET_REV.put w rev.toNat) = rev.toNat :=
    (Fld.get_put _ _ _ (by decide)).trans (Nat.mod_eq_of_lt rev.isLt)
  unfold State.writeAngCmd
  dsimp only
  rw [hset, if_pos rfl, hpri, hpri', Fld.get_zero, if_neg (by decide), hrev, hrev']

theorem State.writeAngCmd_pri (s : State) (x : Fin 8) : s.writeAngCmd x (ANG_CMD_PRI.put 0 1) = s.angPri x := by
  have hpri (w : Word) : ANG_CMD_PRI.get (ANG_CMD_PRI.put w 1) = 1 := Fld.get_put _ _ _ (by decide)
  have hset (w : Word) : ANG_CMD_SET.get (ANG_CMD_PRI.put w 1) = ANG_CMD_SET.get w :=
    Fld.get_put_apart _ _ _ _ (by decide) (by decide) (by decide)
  unfold State.writeAngCmd
  dsimp only
  rw [hpri, if_pos rfl, hset, Fld.get_zero, if_neg (by decide)]

/-! ### ANG_OBS -/

theorem State.writeAngObs_result (s : State) (x : Fin 8) (v : Word) :
    (s.writeAngObs x v).reg ANG_OBS x.val = v &&& 0xFFFF ∧ (∀ i, (vget ((s.writeAngObs x v).tr x).src i).obsAge = 0) ∧
      ((s.writeAngObs x v).tr x).a = (s.tr x).a ∧ (∀ y, y ≠ x → (s.writeAngObs x v).tr y = s.tr y) ∧
      s.regsSame (s.writeAngObs x v) [ANG_OBS.addr x.val] := by
  unfold State.writeAngObs
  rw [State.modTrk_reg, State.tr_modTrk_same, State.setReg_tr]
  refine ⟨reg_setReg_same .., fun i => ?_, rfl, fun y hy => ?_, ?_⟩
  · simp [vget]
  · rw [State.tr_modTrk_other _ _ hy.symm, State.setReg_tr]
  · intro f i hf
    rw [State.modTrk_reg]
    exact s.setReg_frame _ _ _ (List.mem_singleton.2 rfl) f i hf

/-! ### MODE_CHANGE -/

theorem modePut_mode (w : Word) (mode : BitVec 2) : ANG_CFG_MODE.get (ANG_CFG_MODE.put w mode.toNat) = mode.toNat :=
  (Fld.get_put _ _ _ (by decide)).trans (Nat.mod_eq_of_lt mode.isLt)

/-- ANG_CFG with MODE replaced keeps EN. -/
theorem modePut_get (w : Word) (mode : BitVec 2) :
    ANG_CFG_MODE.get (ANG_CFG_MODE.put w mode.toNat &&& angCfgMask) = mode.toNat ∧
      ANG_CFG_EN.get (ANG_CFG_MODE.put w mode.toNat &&& angCfgMask) = ANG_CFG_EN.get w := by
  have hen : ANG_CFG_EN.get (ANG_CFG_MODE.put w mode.toNat) = ANG_CFG_EN.get w :=
    Fld.get_put_apart _ _ _ _ (by decide) (by decide) (by decide)
  exact ⟨(Fld.get_and_full _ _ _ (by decide)).trans (modePut_mode w mode), (Fld.get_and_full _ _ _ (by decide)).trans hen⟩

/-- ANG_CFG and ANG_STAT alone change. -/
theorem State.angCfgSet_frame (s : State) (x : Fin 8) (v : Word) :
    s.regsSame (s.angCfgSet x v) [ANG_CFG.addr x.val, ANG_STAT.addr x.val] ∧
      s.angCfgSet x v = { s with regs := (s.angCfgSet x v).regs } := by
  have hcfg := s.setReg_frame ANG_CFG x.val (v &&& angCfgMask) (l := [ANG_CFG.addr x.val, ANG_STAT.addr x.val]) (by simp)
  unfold State.angCfgSet
  split
  · exact ⟨hcfg.trans (State.setFld_frame _ _ _ _ _ (by simp)), rfl⟩
  · exact ⟨hcfg, rfl⟩

theorem State.angCfgSet_sub {v : Word} (h : ANG_CFG_MODE.get v ≠ ANG_CFG_MODE.get (s.reg ANG_CFG x.val)) :
    (s.angCfgSet x v).bit ANG_STAT x.val ANG_STAT_SUB = false := by
  rw [State.angCfgSet_newMode h]
  exact bit_setBit_same _ _ _ _ _ (by decide)

theorem State.angCfgSet_stat {v : Word} (h : ANG_CFG_MODE.get v = ANG_CFG_MODE.get (s.reg ANG_CFG x.val)) :
    (s.angCfgSet x v).reg ANG_STAT x.val = s.reg ANG_STAT x.val := by
  rw [State.angCfgSet_sameMode h]
  exact reg_setReg_ang _ _ _ _ _ (by decide) (by decide)

end

/-! ### The commands -/

section

variable {s : State} {x : Fin 8} {ag : Agent}

theorem exec_trackerEnable_ok (h : s.accessStatus ag true (ANG_CFG.addr x.val) = stOK) (v : Word) :
    exec (.trackerEnable ag x v) s = .next (s.writeAngCfg x (ANG_CFG_EN.put v 1)) := by
  rw [exec_trackerEnable, execTrackerEnable, asWrite_ok h, ok]

theorem exec_modeChange_ok (h : s.accessStatus ag true (ANG_CFG.addr x.val) = stOK) (mode : BitVec 2) :
    exec (.modeChange ag x mode) s = .next (s.writeAngCfg x (ANG_CFG_MODE.put (s.reg ANG_CFG x.val) mode.toNat)) := by
  rw [exec_modeChange, execModeChange, asWrite_ok h, ok]

theorem exec_angleSet_ok (h : s.accessStatus ag true (ANG_CMD.addr x.val) = stOK) (rev : Half) :
    exec (.angleSet ag x rev) s = .next (s.angSet x rev.toNat) := by
  rw [exec_angleSet, execAngleSet, asWrite_ok h, State.writeAngCmd_set, ok]

theorem exec_angCmdPri_ok (h : s.accessStatus ag true (ANG_CMD.addr x.val) = stOK) :
    exec (.angCmdPri ag x) s = .next (s.angPri x) := by
  rw [exec_angCmdPri, execAngCmdPri, asWrite_ok h, State.writeAngCmd_pri, ok]

theorem enPut_get (v : Word) : ANG_CFG_EN.get (ANG_CFG_EN.put v 1) = 1 ∧
    ANG_CFG_MODE.get (ANG_CFG_EN.put v 1) = ANG_CFG_MODE.get v :=
  ⟨Fld.get_put _ _ _ (by decide), Fld.get_put_apart _ _ _ _ (by decide) (by decide) (by decide)⟩

/-- A write that leaves EN set writes ANG_CFG alone, where MODE stays. -/
theorem State.writeAngCfg_on (hon : s.trkOn x = true) {v : Word}
    (hmode : ANG_CFG_MODE.get v = s.fld ANG_CFG x.val ANG_CFG_MODE) :
    s.writeAngCfg x (ANG_CFG_EN.put v 1) = s.setReg ANG_CFG x.val (ANG_CFG_EN.put v 1 &&& angCfgMask) := by
  have hen := (s.trkOn_iff x).1 hon
  rw [State.writeAngCfg_noRise fun h => by omega, State.angCfgSet_sameMode ((enPut_get v).2.trans hmode)]

theorem State.writeAngCfg_mode (s : State) (x : Fin 8) (mode : BitVec 2) :
    s.writeAngCfg x (ANG_CFG_MODE.put (s.reg ANG_CFG x.val) mode.toNat) =
      s.angCfgSet x (ANG_CFG_MODE.put (s.reg ANG_CFG x.val) mode.toNat) := by
  have hen : ANG_CFG_EN.get (ANG_CFG_MODE.put (s.reg ANG_CFG x.val) mode.toNat) = ANG_CFG_EN.get (s.reg ANG_CFG x.val) :=
    Fld.get_put_apart _ _ _ _ (by decide) (by decide) (by decide)
  exact State.writeAngCfg_noRise fun h => by omega

end

/-- Settles O14: each write by what it leaves of the tracker's registers, its record and TIME. -/
theorem trackerWrites : Obligations.TrackerWrites := by
  unfold Obligations.TrackerWrites
  intro ag x s
  refine ⟨fun hacc => ⟨fun v hoff => ?_, fun v hon hmode => ?_, fun mode => ?_⟩,
    fun hacc => ⟨fun rev => ?_, fun hgood => ?_, fun hbad => ?_⟩, fun hacc v => ?_⟩
  · obtain ⟨hon, hvalid, hsub, ⟨bad, htr⟩, htime⟩ := s.rise_result x (ANG_CFG_EN.put v 1) (enPut_get v).1 (s.reg ANG_STAT x.val)
    refine ⟨_, (exec_trackerEnable_ok hacc v).trans (congrArg _ (State.writeAngCfg_rise (enPut_get v).1 hoff)), hon, hvalid,
      hsub, ?_⟩
    rw [htr]
    exact ⟨rfl, rfl, Tracker.restarted_src _ bad, rfl, rfl, rfl, htime⟩
  · rw [exec_trackerEnable_ok hacc, State.writeAngCfg_on hon hmode]
    rfl
  · obtain ⟨hmode, hen⟩ := modePut_get (s.reg ANG_CFG x.val) mode
    have hput := modePut_mode (s.reg ANG_CFG x.val) mode
    have hexec := (exec_modeChange_ok hacc mode).trans (congrArg _ (s.writeAngCfg_mode x mode))
    generalize ANG_CFG_MODE.put (s.reg ANG_CFG x.val) mode.toNat = v at *
    obtain ⟨hregs, hrest⟩ := s.angCfgSet_frame x v
    refine ⟨_, hexec, ?_, ?_, fun hne => ?_, fun heq => ?_, hregs, hrest⟩
    · rw [State.fld, State.angCfgSet_cfg, hmode]
    · rw [Bool.eq_iff_iff, State.trkOn_iff, State.trkOn_iff, State.angCfgSet_cfg, hen]
    · exact State.angCfgSet_sub (by rw [hput]; exact hne)
    · exact State.angCfgSet_stat (by rw [hput]; exact heq)
  · obtain ⟨htr, hfrac, hrev, hvalid, hseq, htime⟩ := s.angLoad_result x
      (BitVec.ofNat 64 (rev.toNat * 2 ^ 48 + (s.reg ANG_SET_FRAC x.val).toNat * 2 ^ 16)) (s.reg ANG_STAT x.val)
    obtain ⟨pfrac, prev⟩ := setAngle_parts rev (s.reg ANG_SET_FRAC x.val)
    have hexec := (exec_angleSet_ok hacc rev).trans (congrArg _ (s.angSet_eq x rev.toNat))
    rw [State.fld, ANG_SET_FRAC_FRAC_get] at hexec
    refine ⟨_, hexec, ?_, hfrac.trans pfrac, hrev.trans (congrArg _ prev), hvalid, hseq, ?_⟩
    · rw [htr]
    · rw [htr]
      exact ⟨rfl, rfl, htime⟩
  · rw [exec_angCmdPri_ok hacc, State.angPri, if_pos hgood]
  · rw [exec_angCmdPri_ok hacc, State.angPri, if_neg (by rw [hbad]; decide)]
  · obtain ⟨hobs, hage, ha, hothers, hregs⟩ := s.writeAngObs_result x v
    have hexec : exec (.angObsWrite ag x v) s = .next (s.writeAngObs x v) := by
      rw [exec_angObsWrite, execAngObsWrite, asWrite_ok hacc, ok]
    exact ⟨_, hexec, hobs, hage, ha, hothers, hregs, rfl⟩

end Sys2Proof.Machine


/-! ## Rings and the ends of events: what they change and what they write (R113 to R121)

A notification changes FIFOs and lines; a ring write adds memory and registers; the end of an event adds the slot. -/

namespace Sys2Proof.Machine

/-! ### Registers outside a set of addresses -/

/-- Every register outside the addresses `A` is in `t` as in `s`. -/
def State.regsBut (s t : State) (A : Nat → Prop) : Prop :=
  ∀ (f : RegFam) (i : Nat), ¬ A (f.addr i) → t.reg f i = s.reg f i

section

variable {s t u : State} {A B : Nat → Prop} {f : RegFam} {i : Nat} {F : Fld}

theorem State.regsBut.refl (s : State) (A : Nat → Prop) : s.regsBut s A := fun _ _ _ => rfl

theorem State.regsBut.trans (h : s.regsBut t A) (k : t.regsBut u A) : s.regsBut u A :=
  fun f i hf => (k f i hf).trans (h f i hf)

theorem State.regsBut.mono (h : s.regsBut t A) (hAB : ∀ a, A a → B a) : s.regsBut t B :=
  fun f i hf => h f i fun ha => hf (hAB _ ha)

theorem State.regsBut.of_regs (h : t.regs = s.regs) (A : Nat → Prop) : s.regsBut t A := by
  intro f i _
  rw [State.reg, h, State.reg]

theorem State.regsBut.fld (h : s.regsBut t A) (hf : ¬ A (f.addr i)) : t.fld f i F = s.fld f i F := by
  rw [State.fld, h f i hf, State.fld]

theorem State.regsBut.bit (h : s.regsBut t A) (hf : ¬ A (f.addr i)) : t.bit f i F = s.bit f i F := by
  rw [State.bit, h.fld hf, State.bit]

theorem State.setReg_regsBut (s : State) (v : Word) (h : A (f.addr i)) : s.regsBut (s.setReg f i v) A :=
  fun g j hg => reg_setReg_other s f g i j v fun e => hg (e ▸ h)

theorem State.setFld_regsBut (s : State) (F : Fld) (v : Nat) (h : A (f.addr i)) : s.regsBut (s.setFld f i F v) A :=
  s.setReg_regsBut _ h

theorem State.regsBut.setFld (h : s.regsBut t A) (F : Fld) (v : Nat) (hf : A (f.addr i)) : s.regsBut (t.setFld f i F v) A :=
  h.trans (t.setFld_regsBut F v hf)

theorem State.regsBut.setReg (h : s.regsBut t A) (v : Word) (hf : A (f.addr i)) : s.regsBut (t.setReg f i v) A :=
  h.trans (t.setReg_regsBut v hf)

/-- Registers at the addresses of a list. -/
theorem State.regsBut.regsSame {l : List Nat} (h : s.regsBut t (· ∈ l)) : s.regsSame t l := h

end

theorem foldl_regsBut {α : Type} {f : State → α → State} {A : Nat → Prop} {l : List α}
    (hf : ∀ (s : State), ∀ a ∈ l, s.regsBut (f s a) A) (s : State) : s.regsBut (l.foldl f s) A := by
  induction l generalizing s with
  | nil => exact .refl s A
  | cons a l ih =>
    exact (hf s a List.mem_cons_self).trans (ih (fun s b hb => hf s b (List.mem_cons_of_mem a hb)) _)

/-! ### Addresses of the Gallery's registers -/

section

variable (n : Nat)

theorem GAL_STAT_addr : GAL_STAT.addr 0 = 0x30000004 := by decide
theorem GAL_RPTDROP_addr : GAL_RPTDROP.addr 0 = 0x30000008 := by decide
theorem GAL_USE_addr : GAL_USE.addr n = 0x30000140 + n * 4 := by simp [RegFam.addr, GAL_USE, dimOff, dimSize]
theorem GAL_ENG_LATECNT_addr : GAL_ENG_LATECNT.addr n = 0x30000300 + n * 16 := by
  simp [RegFam.addr, GAL_ENG_LATECNT, dimOff, dimSize]
theorem GAL_ENG_LMAX_addr : GAL_ENG_LMAX.addr n = 0x30000304 + n * 16 := by
  simp [RegFam.addr, GAL_ENG_LMAX, dimOff, dimSize]
theorem GAL_ENG_CANCNT_addr : GAL_ENG_CANCNT.addr n = 0x30000308 + n * 16 := by
  simp [RegFam.addr, GAL_ENG_CANCNT, dimOff, dimSize]
theorem GAL_ENG_TMOCNT_addr : GAL_ENG_TMOCNT.addr n = 0x3000030C + n * 16 := by
  simp [RegFam.addr, GAL_ENG_TMOCNT, dimOff, dimSize]
theorem GAL_AX_STAT_addr : GAL_AX_STAT.addr n = 0x30000404 + n * 8 := by simp [RegFam.addr, GAL_AX_STAT, dimOff, dimSize]
theorem GAL_RING_BASE_addr : GAL_RING_BASE.addr n = 0x31000000 + n * 16 := by
  simp [RegFam.addr, GAL_RING_BASE, dimOff, dimSize]
theorem GAL_RING_IDX_addr : GAL_RING_IDX.addr n = 0x31000004 + n * 16 := by simp [RegFam.addr, GAL_RING_IDX, dimOff, dimSize]
theorem GAL_RING_CFG_addr : GAL_RING_CFG.addr n = 0x31000008 + n * 16 := by simp [RegFam.addr, GAL_RING_CFG, dimOff, dimSize]
theorem GAL_RING_TOL_addr : GAL_RING_TOL.addr n = 0x3100000C + n * 16 := by simp [RegFam.addr, GAL_RING_TOL, dimOff, dimSize]

end

/-- A home ring is one of the 16,384. -/
theorem GEvent.hring_lt (e : GEvent) : e.hring < 16384 := Nat.mod_lt _ (by decide)

/-! ### Notifications -/

/-- What a notification may change: FIFOs of cells, lines of columns and the list of those that wait. -/
def State.NotifyFrame (s t : State) : Prop :=
  t = { s with phys := t.phys, sproc := t.sproc, gal := { s.gal with notify := t.gal.notify } }

theorem State.pushFifo_phys {s t : State} {c : Fin 128} {e : FifoEntry} (h : s.pushFifo c e = some t) :
    t = { s with phys := t.phys } := by
  unfold State.pushFifo at h
  split at h
  · cases h
  · split at h
    · cases h
    · split at h
      · cases h
      · simp only [Option.some.injEq] at h
        subst h
        split <;> rfl

theorem State.raiseLine_sproc {s t : State} {col : Fin 5} {line : Fin 16} {ch payload : Nat} {ring : Option Nat}
    (h : s.raiseLine col line ch payload ring = some t) : t = { s with sproc := t.sproc } := by
  unfold State.raiseLine at h
  extract_lets i at h
  split at h
  · cases h
  · cases h
    rfl

theorem State.notifySend_frame {s t : State} {n : Nat} (h : s.notifySend n = some t) :
    t = { s with phys := t.phys, sproc := t.sproc } := by
  unfold State.notifySend at h
  extract_lets u at h
  split at h
  · rw [State.pushFifo_phys h]
  · split at h
    · rw [State.raiseLine_sproc h]
    · cases h
      rfl
  · cases h
    rfl

theorem State.notifyRing_frame (s : State) (n : Nat) : s.NotifyFrame (s.notifyRing n) := by
  unfold State.NotifyFrame State.notifyRing
  split
  · rfl
  · split
    · next h =>
      rw [State.notifySend_frame h]
    · rfl

@[simp] theorem State.notifyRing_mem (s : State) (n : Nat) : (s.notifyRing n).mem = s.mem := by rw [s.notifyRing_frame n]
@[simp] theorem State.notifyRing_regs (s : State) (n : Nat) : (s.notifyRing n).regs = s.regs := by rw [s.notifyRing_frame n]
@[simp] theorem State.notifyRing_reg (s : State) (n : Nat) (f : RegFam) (i : Nat) : (s.notifyRing n).reg f i = s.reg f i := by
  rw [State.reg, s.notifyRing_regs, State.reg]
@[simp] theorem State.notifyRing_fld (s : State) (n : Nat) (f : RegFam) (i : Nat) (F : Fld) :
    (s.notifyRing n).fld f i F = s.fld f i F := by
  rw [State.fld, s.notifyRing_reg, State.fld]

/-! ### Ring entries -/

/-- What a write into a ring may change: memory, registers, and what a notification may. -/
def State.RingFrame (s t : State) : Prop :=
  t = { s with mem := t.mem, ecc := t.ecc, regs := t.regs, phys := t.phys, sproc := t.sproc,
               gal := { s.gal with notify := t.gal.notify } }

theorem State.RingFrame.trans {s t u : State} (h : s.RingFrame t) (k : t.RingFrame u) : s.RingFrame u := by
  unfold State.RingFrame at *
  rw [k, h]

theorem State.NotifyFrame.ring {s t : State} (h : s.NotifyFrame t) : s.RingFrame t := by
  unfold State.NotifyFrame at h
  unfold State.RingFrame
  rw [h]

theorem State.setReg_ringFrame (s : State) (f : RegFam) (i : Nat) (v : Word) : s.RingFrame (s.setReg f i v) := rfl
theorem State.setFld_ringFrame (s : State) (f : RegFam) (i : Nat) (F : Fld) (v : Nat) : s.RingFrame (s.setFld f i F v) := rfl
theorem State.poke32_ringFrame (s : State) (a : Nat) (v : Word) : s.RingFrame (s.poke32 a v) := rfl

theorem State.eccClear_ringFrame (s : State) (a : Nat) : s.RingFrame (s.eccClear a) := by
  unfold State.eccClear
  split <;> rfl

/-- Words written to memory leave everything but memory and its ECC. -/
theorem State.pokeWords_frame (s : State) (a : Nat) (l : List Word) :
    s.pokeWords a l = { s with mem := (s.pokeWords a l).mem, ecc := (s.pokeWords a l).ecc } := by
  induction l generalizing s a with
  | nil => rfl
  | cons w l ih =>
    rw [State.pokeWords, ih]
    unfold State.eccClear
    split <;> rfl

@[simp] theorem State.pokeWords_regs (s : State) (a : Nat) (l : List Word) : (s.pokeWords a l).regs = s.regs := by
  rw [s.pokeWords_frame]

@[simp] theorem State.pokeWords_reg (s : State) (a : Nat) (l : List Word) (f : RegFam) (i : Nat) :
    (s.pokeWords a l).reg f i = s.reg f i := by
  rw [State.reg, s.pokeWords_regs, State.reg]

@[simp] theorem State.eccClear_mem (s : State) (a : Nat) : (s.eccClear a).mem = s.mem := by
  unfold State.eccClear
  split <;> rfl

/-- The words of a list stand in memory one after the other, and no other byte has changed. -/
theorem State.pokeWords_spec {s : State} (h : s.memOk) (a : Nat) (l : List Word) :
    (∀ i (hi : i < l.length), memWord (s.pokeWords a l).mem (a + 4 * i) = l[i]) ∧ s.memSame (s.pokeWords a l) a (4 * l.length) := by
  induction l generalizing s a with
  | nil => exact ⟨fun i hi => absurd hi (Nat.not_lt_zero i), fun b _ => rfl⟩
  | cons w l ih =>
    have hmem : ((s.poke32 a w).eccClear a).mem = memPutWord s.mem a w := State.eccClear_mem ..
    obtain ⟨hin, hout⟩ := ih (s := (s.poke32 a w).eccClear a) (by rw [State.memOk, hmem]; exact memPutWord_wf h a w) (a + 4)
    refine ⟨fun i hi => ?_, fun b hb => ?_⟩
    · cases i with
      | zero =>
        rw [State.pokeWords, memWord_congr fun b hb => hout b (by omega), hmem]
        exact memWord_memPutWord h a w
      | succ i =>
        rw [show a + 4 * (i + 1) = a + 4 + 4 * i by omega]
        exact hin i (Nat.lt_of_succ_lt_succ hi)
    · rw [List.length_cons] at hb
      rw [State.pokeWords, hout b (by omega), hmem, memGet_memPutWord_other h w (by omega)]

/-- The trailer of an entry that is written at PROD (R115). -/
def State.ringTrailer (s : State) (n status kind info : Nat) : Word :=
  BitVec.ofNat 32 (s.fld GAL_RING_CFG n GAL_RING_CFG_PGEN * 2 ^ 24 + status % 256 * 2 ^ 16 + kind % 16 * 2 ^ 12 + info % 2 ^ 12)

/-- The words of an entry: the body filled with zeros, then the trailer (R117). -/
def State.ringWords (s : State) (n : Nat) (body : List Word) (status kind info : Nat) : List Word :=
  (body ++ List.replicate (s.ringEntry n / 4 - 1) 0).take (s.ringEntry n / 4 - 1) ++ [s.ringTrailer n status kind info]

section

variable (s : State) (n : Nat) (body : List Word) (status kind info : Nat)

/-- An entry is at least four words. -/
theorem State.ringEntry_words : ∃ k, s.ringEntry n = 4 * (k + 4) := by
  obtain ⟨k, hk⟩ : ∃ k, 2 ^ s.fld GAL_RING_CFG n GAL_RING_CFG_ESZ = k + 1 := ⟨_, (Nat.sub_add_cancel (Nat.two_pow_pos _)).symm⟩
  exact ⟨4 * k, by rw [State.ringEntry, hk]; omega⟩

theorem State.ringWords_length : 4 * (s.ringWords n body status kind info).length = s.ringEntry n := by
  obtain ⟨k, hk⟩ := s.ringEntry_words n
  simp only [State.ringWords, List.length_append, List.length_take, List.length_replicate, List.length_singleton, hk]
  omega

theorem State.ringWords_body {i : Nat} (hi : i < body.length) (he : 4 * i + 4 < s.ringEntry n)
    (hl : i < (s.ringWords n body status kind info).length) : (s.ringWords n body status kind info)[i] = body[i] := by
  obtain ⟨k, hk⟩ := s.ringEntry_words n
  have hw : i < s.ringEntry n / 4 - 1 := by omega
  simp only [State.ringWords]
  rw [List.getElem_append_left (by simp; omega), List.getElem_take, List.getElem_append_left hi]

theorem State.ringWords_trailer {i : Nat} (hi : i + 1 = s.ringEntry n / 4)
    (hl : i < (s.ringWords n body status kind info).length) :
    (s.ringWords n body status kind info)[i] = s.ringTrailer n status kind info := by
  have hlen : ((body ++ List.replicate (s.ringEntry n / 4 - 1) (0 : Word)).take (s.ringEntry n / 4 - 1)).length = i := by
    simp only [List.length_take, List.length_append, List.length_replicate]
    omega
  simp only [State.ringWords]
  rw [List.getElem_append_right (by omega)]
  simp

/-- The ring after the entry's words, before its indexes. -/
theorem State.ringPut_eq : s.ringPut n body status kind info =
    let t := (s.pokeWords (s.ringAddr n (s.fld GAL_RING_IDX n GAL_RING_IDX_PROD)) (s.ringWords n body status kind info)).setFld
      GAL_RING_IDX n GAL_RING_IDX_PROD (s.fld GAL_RING_IDX n GAL_RING_IDX_PROD + 1)
    if s.fld GAL_RING_IDX n GAL_RING_IDX_PROD % t.ringDepth n + 1 = t.ringDepth n
    then t.setFld GAL_RING_CFG n GAL_RING_CFG_PGEN (lapNext (s.fld GAL_RING_CFG n GAL_RING_CFG_PGEN)) else t := rfl

theorem State.ringPut_frame : s.RingFrame (s.ringPut n body status kind info) := by
  have hpoke : s.RingFrame (s.pokeWords (s.ringAddr n (s.fld GAL_RING_IDX n GAL_RING_IDX_PROD))
      (s.ringWords n body status kind info)) := by
    rw [s.pokeWords_frame]
    rfl
  rw [State.ringPut_eq]
  extract_lets t
  have ht : s.RingFrame t := hpoke.trans rfl
  split
  · exact ht.trans rfl
  · exact ht

theorem State.ringPut_mem : (s.ringPut n body status kind info).mem =
    (s.pokeWords (s.ringAddr n (s.fld GAL_RING_IDX n GAL_RING_IDX_PROD)) (s.ringWords n body status kind info)).mem := by
  rw [State.ringPut_eq]
  extract_lets t
  split <;> rfl

/-- A ring write changes the ring's index and lap alone among the registers. -/
theorem State.ringPut_regsBut : s.regsBut (s.ringPut n body status kind info)
    (· ∈ [GAL_RING_IDX.addr n, GAL_RING_CFG.addr n]) := by
  rw [State.ringPut_eq]
  extract_lets t
  have ht : s.regsBut t (· ∈ [GAL_RING_IDX.addr n, GAL_RING_CFG.addr n]) :=
    (State.regsBut.of_regs (s.pokeWords_regs ..) _).setFld _ _ (by simp)
  split
  · exact ht.setFld _ _ (by simp)
  · exact ht

/-- PROD advances by one entry. -/
theorem State.ringPut_prod : (s.ringPut n body status kind info).fld GAL_RING_IDX n GAL_RING_IDX_PROD =
    (s.fld GAL_RING_IDX n GAL_RING_IDX_PROD + 1) % 2 ^ 16 := by
  rw [State.ringPut_eq]
  extract_lets t
  have ht : t.fld GAL_RING_IDX n GAL_RING_IDX_PROD = (s.fld GAL_RING_IDX n GAL_RING_IDX_PROD + 1) % 2 ^ 16 :=
    fld_setFld_same _ _ _ _ _ (by decide)
  split
  · rw [State.fld, reg_setFld_other _ _ _ _ _ _ _ (by rw [GAL_RING_IDX_addr, GAL_RING_CFG_addr]; omega)]
    exact ht
  · exact ht

/-- CONS stays. -/
theorem State.ringPut_cons : (s.ringPut n body status kind info).fld GAL_RING_IDX n GAL_RING_IDX_CONS =
    s.fld GAL_RING_IDX n GAL_RING_IDX_CONS := by
  rw [State.ringPut_eq]
  extract_lets t
  have ht : t.fld GAL_RING_IDX n GAL_RING_IDX_CONS = s.fld GAL_RING_IDX n GAL_RING_IDX_CONS := by
    refine (fld_setFld_apart _ _ _ _ _ _ (by decide) (by decide) (by decide)).trans ?_
    rw [State.fld, s.pokeWords_reg, State.fld]
  split
  · rw [State.fld, reg_setFld_other _ _ _ _ _ _ _ (by rw [GAL_RING_IDX_addr, GAL_RING_CFG_addr]; omega)]
    exact ht
  · exact ht

variable {s n body status kind info}

theorem State.ringPush_eq {t : State} (h : s.ringPush n body status kind info = some t) :
    t = (s.ringPut n body status kind info).notifyRing n := by
  unfold State.ringPush at h
  split at h
  · cases h
  · exact (Option.some.inj h).symm

theorem State.ringPush_notFull (h : s.ringFull n = false) :
    s.ringPush n body status kind info = some ((s.ringPut n body status kind info).notifyRing n) := by
  rw [State.ringPush, h]
  rfl

theorem State.ringPush_frame {t : State} (h : s.ringPush n body status kind info = some t) : s.RingFrame t := by
  rw [State.ringPush_eq h]
  exact (s.ringPut_frame ..).trans (State.notifyRing_frame _ n).ring

theorem State.ringPush_regsBut {t : State} (h : s.ringPush n body status kind info = some t) :
    s.regsBut t (· ∈ [GAL_RING_IDX.addr n, GAL_RING_CFG.addr n]) := by
  rw [State.ringPush_eq h]
  exact (s.ringPut_regsBut n body status kind info).trans (State.regsBut.of_regs (State.notifyRing_regs _ n) _)

/-- An entry written at PROD: PROD is one further, the body and the trailer stand in memory, and no byte outside the entry has
changed (R115, R117). -/
theorem State.ringPush_spec {t : State} (h : s.ringPush n body status kind info = some t) (hmem : s.memOk) :
    let prod := s.fld GAL_RING_IDX n GAL_RING_IDX_PROD
    let a := s.ringAddr n prod
    t.fld GAL_RING_IDX n GAL_RING_IDX_PROD = (prod + 1) % 2 ^ 16 ∧
    (∀ i (hi : i < body.length), 4 * i + 4 < s.ringEntry n → memWord t.mem (a + 4 * i) = body[i]) ∧
    memWord t.mem (a + s.ringEntry n - 4) = s.ringTrailer n status kind info ∧ s.memSame t a (s.ringEntry n) := by
  intro prod a
  rw [State.ringPush_eq h]
  obtain ⟨k, hk⟩ := s.ringEntry_words n
  have hlen := s.ringWords_length n body status kind info
  obtain ⟨hin, hout⟩ := State.pokeWords_spec hmem a (s.ringWords n body status kind info)
  have htmem : ((s.ringPut n body status kind info).notifyRing n).mem = (s.pokeWords a (s.ringWords n body status kind info)).mem := by
    rw [State.notifyRing_mem, State.ringPut_mem]
  refine ⟨?_, fun i hi he => ?_, ?_, ?_⟩
  · rw [State.notifyRing_fld, State.ringPut_prod]
  · rw [htmem, hin i (by omega), State.ringWords_body _ _ _ _ _ _ hi he]
  · rw [htmem, show a + s.ringEntry n - 4 = a + 4 * (k + 3) by omega, hin (k + 3) (by omega),
      State.ringWords_trailer _ _ _ _ _ _ (by omega)]
  · intro b hb
    rw [htmem, hout b (by omega)]

end

/-! ### The end of an event -/

section

variable (s : State) (e : GEvent) (status mask : Nat) (quiet : Bool)

/-- The counts of a slot lie in registers alone. -/
theorem State.countSlot_frame (ch ring : Nat) (axis : Option Nat) (up : Bool) :
    s.countSlot ch ring axis up = { s with regs := (s.countSlot ch ring axis up).regs } := by
  unfold State.countSlot
  extract_lets f s1 s2 s3
  split <;> rfl

/-- The registers that count a slot. -/
theorem State.countSlot_regsBut {A : Nat → Prop} (ch ring : Nat) (axis : Option Nat) (up : Bool) (hstat : A (GAL_STAT.addr 0))
    (huse : A (GAL_USE.addr ch)) (htol : A (GAL_RING_TOL.addr ring)) (hax : ∀ x ∈ axis, A (GAL_AX_STAT.addr x)) :
    s.regsBut (s.countSlot ch ring axis up) A := by
  unfold State.countSlot
  extract_lets f s1 s2 s3
  have h3 : s.regsBut s3 A := (((State.regsBut.refl s A).setFld _ _ hstat).setFld _ _ huse).setFld _ _ htol
  split
  · exact h3.setFld _ _ (hax _ rfl)
  · exact h3

/-- The slot freed: the event gone, the tag one further, and registers that count. -/
theorem State.freeSlot_frame : s.freeSlot e = { s with
    regs := (s.freeSlot e).regs
    gal := { s.gal with events := s.gal.events.filter (·.slot != e.slot)
                        tags := smSet s.gal.tags e.slot (s.slotTag e.slot + 1) } } := by
  rw [State.freeSlot, State.countSlot_frame]
  rfl

/-- Addresses at which the end of an event may write registers. -/
def GEvent.endAddr (e : GEvent) (a : Nat) : Prop :=
  a = GAL_USE.addr e.chamber ∨ (0x30000000 ≤ a ∧ a < 0x30000140) ∨ (0x30000404 ≤ a ∧ a < 0x31040000)

theorem GEvent.endAddr_high {e : GEvent} {a : Nat} (h : e.endAddr a) : 0x30000000 ≤ a := by
  unfold GEvent.endAddr at h
  rw [GAL_USE_addr] at h
  omega

theorem GEvent.endAddr_range {e : GEvent} {a : Nat} (hch : e.chamber < 16) (h : e.endAddr a) :
    0x30000000 ≤ a ∧ a < 0x31040000 := by
  unfold GEvent.endAddr at h
  rw [GAL_USE_addr] at h
  omega

/-- The registers that count the slot of an event (R121). -/
def GEvent.counts (e : GEvent) : List Nat :=
  [GAL_STAT.addr 0, GAL_USE.addr e.chamber, GAL_RING_TOL.addr e.hring, GAL_AX_STAT.addr e.axis.val]

theorem State.freeSlot_counts : s.regsBut (s.freeSlot e) (· ∈ e.counts) := by
  unfold State.freeSlot
  extract_lets s1
  have h1 : s.regsBut s1 (· ∈ e.counts) := .of_regs rfl _
  refine h1.trans (s1.countSlot_regsBut _ _ _ _ ?_ ?_ ?_ fun x hax => ?_)
  · simp [GEvent.counts]
  · simp [GEvent.counts]
  · simp [GEvent.counts]
  · split at hax
    · cases hax
      simp [GEvent.counts]
    · cases hax

theorem GEvent.counts_endAddr {e : GEvent} {a : Nat} (h : a ∈ e.counts) : e.endAddr a := by
  have hr := e.hring_lt
  have hx := e.axis.isLt
  simp only [GEvent.counts, List.mem_cons, List.not_mem_nil, or_false] at h
  rcases h with rfl | rfl | rfl | rfl
  · exact .inr (.inl (by rw [GAL_STAT_addr]; omega))
  · exact .inl rfl
  · exact .inr (.inr (by rw [GAL_RING_TOL_addr]; omega))
  · exact .inr (.inr (by rw [GAL_AX_STAT_addr]; omega))

theorem State.freeSlot_regsBut : s.regsBut (s.freeSlot e) e.endAddr :=
  (s.freeSlot_counts e).mono fun _ => GEvent.counts_endAddr

/-- The placement, the indexes and the configuration of a ring do not count slots. -/
theorem GEvent.ring_notMem_counts {e : GEvent} (hch : e.chamber < 16) (n : Nat) {a : Nat}
    (h : a ∈ [GAL_RING_BASE.addr n, GAL_RING_IDX.addr n, GAL_RING_CFG.addr n]) : a ∉ e.counts := by
  have hx := e.axis.isLt
  simp only [GEvent.counts, List.mem_cons, List.not_mem_nil, or_false, GAL_STAT_addr, GAL_USE_addr, GAL_RING_TOL_addr,
    GAL_AX_STAT_addr, GAL_RING_BASE_addr, GAL_RING_IDX_addr, GAL_RING_CFG_addr] at h ⊢
  omega

theorem State.report_frame : s.RingFrame (s.report e status mask) := by
  unfold State.report
  extract_lets n w0
  split
  · rfl
  · split
    · next h => exact State.ringPush_frame h
    · exact (s.setFld_ringFrame ..).trans ((State.setFld_ringFrame ..).trans (State.setFld_ringFrame ..))

theorem State.report_regsBut : s.regsBut (s.report e status mask) e.endAddr := by
  have hr := e.hring_lt
  have hcfg : e.endAddr (GAL_RING_CFG.addr e.hring) := .inr (.inr (by rw [GAL_RING_CFG_addr]; omega))
  unfold State.report
  extract_lets n w0
  split
  · exact .refl s _
  · split
    · next h =>
      refine (State.ringPush_regsBut h).mono fun a ha => ?_
      simp only [List.mem_cons, List.not_mem_nil, or_false] at ha
      rcases ha with rfl | rfl
      · exact .inr (.inr (by rw [GAL_RING_IDX_addr]; omega))
      · exact hcfg
    · refine (((State.regsBut.refl s _).setFld _ _ hcfg).setFld _ _ ?_).setFld _ _ ?_
      · exact .inr (.inl (by rw [GAL_STAT_addr]; omega))
      · exact .inr (.inl (by rw [GAL_RPTDROP_addr]; omega))

/-- After its slot an event that ends changes what a ring write may. -/
theorem State.endEvent_frame : (s.freeSlot e).RingFrame (s.endEvent e status mask quiet) := by
  unfold State.endEvent
  extract_lets s1
  split
  · exact s1.report_frame e status mask
  · rfl

/-- The end of an event writes its slot's counts and its ring's registers. -/
theorem State.endEvent_regsBut : s.regsBut (s.endEvent e status mask quiet) e.endAddr := by
  unfold State.endEvent
  extract_lets s1
  split
  · exact (s.freeSlot_regsBut e).trans (s1.report_regsBut e status mask)
  · exact s.freeSlot_regsBut e

@[simp] theorem State.endEvent_events : (s.endEvent e status mask quiet).gal.events = s.gal.events.filter (·.slot != e.slot) := by
  rw [s.endEvent_frame e status mask quiet, s.freeSlot_frame e]

theorem State.endEvent_tags : (s.endEvent e status mask quiet).gal.tags = smSet s.gal.tags e.slot (s.slotTag e.slot + 1) := by
  rw [s.endEvent_frame e status mask quiet, s.freeSlot_frame e]

@[simp] theorem State.endEvent_eng : (s.endEvent e status mask quiet).gal.eng = s.gal.eng := by
  rw [s.endEvent_frame e status mask quiet, s.freeSlot_frame e]

theorem State.endEvent_slotTag_same : (s.endEvent e status mask quiet).slotTag e.slot = s.slotTag e.slot + 1 := by
  rw [State.slotTag, s.endEvent_tags, smGet_smSet_same]

theorem State.endEvent_slotTag_other {n : Nat} (h : n ≠ e.slot) :
    (s.endEvent e status mask quiet).slotTag n = s.slotTag n := by
  rw [State.slotTag, s.endEvent_tags, smGet_smSet_other _ _ _ h, State.slotTag]

@[simp] theorem State.endEvent_eventAt : (s.endEvent e status mask quiet).eventAt e.slot = none := by
  rw [State.eventAt, s.endEvent_events, List.find?_eq_none]
  intro w hw
  simpa using (List.mem_filter.1 hw).2

end

end Sys2Proof.Machine


/-! ## The report of a NOP (R117, R119, R121) -/

namespace Sys2Proof.Machine

section

variable {s : State} {e : Fin 4} {act : Nat} {v : GEvent} {i : Issue}

/-- The event that fires is one of the pending ones, is issued, and is not held. -/
theorem State.firedEvent_issued (h : s.firedEvent e act = some (v, i)) : v ∈ s.gal.events ∧ v.issued = some i := by
  unfold State.firedEvent at h
  split at h
  · cases h
  · split at h
    · next w hw =>
      rw [Option.map_eq_some_iff] at h
      obtain ⟨j, hj, hvi⟩ := h
      cases hvi
      exact ⟨List.mem_of_find?_eq_some hw, hj⟩
    · cases h

theorem State.fire_some (h : s.firedEvent e act = some (v, i)) (quiet : Bool) (f : State → GEvent → Issue → Taken) :
    s.fire e act quiet f = s.applyTaken v quiet (f s v i) := by
  rw [State.fire, h]

theorem State.fire_none (h : s.firedEvent e act = none) (quiet : Bool) (f : State → GEvent → Issue → Taken) :
    s.fire e act quiet f = s := by
  rw [State.fire, h]

/-- A NOP that fires ends with OK. -/
theorem nopAction_fired (h : s.firedEvent e 0 = some (v, i)) : exec (.nopAction e) s = .next (s.endEvent v stOK 0 false) := by
  rw [exec_nopAction, execNopAction, State.fire_some h]
  rfl

/-- With REPORT = 1 a success is reported too (R119). -/
theorem State.endEvent_reported (s : State) (v : GEvent) (hrep : GAL_SUB_W2_REPORT.get v.w2 = 1) (status mask : Nat) :
    s.endEvent v status mask false = (s.freeSlot v).report v status mask := by
  rw [State.endEvent, hrep]
  simp

end

/-- The view of a ring by which an entry is written: its placement, indexes and configuration. -/
structure State.sameRing (s t : State) (n : Nat) : Prop where
  base : t.reg GAL_RING_BASE n = s.reg GAL_RING_BASE n
  idx : t.reg GAL_RING_IDX n = s.reg GAL_RING_IDX n
  cfg : t.reg GAL_RING_CFG n = s.reg GAL_RING_CFG n

namespace State.sameRing

variable {s t : State} {n : Nat} (h : s.sameRing t n)
include h

theorem depth : t.ringDepth n = s.ringDepth n := by simp only [State.ringDepth, State.fld, h.cfg]
theorem entry : t.ringEntry n = s.ringEntry n := by simp only [State.ringEntry, State.fld, h.cfg]
theorem count : t.ringCount n = s.ringCount n := by simp only [State.ringCount, State.fld, h.idx]
theorem full : t.ringFull n = s.ringFull n := by rw [State.ringFull, h.depth, h.count, State.ringFull]
theorem rx : t.ringRx n = s.ringRx n := by simp only [State.ringRx, State.bit, State.fld, h.cfg, h.base]
theorem addr (idx : Nat) : t.ringAddr n idx = s.ringAddr n idx := by
  simp only [State.ringAddr, h.depth, h.entry, State.fld, h.base]
theorem prod : t.fld GAL_RING_IDX n GAL_RING_IDX_PROD = s.fld GAL_RING_IDX n GAL_RING_IDX_PROD := by
  rw [State.fld, h.idx, State.fld]
theorem trailer (status kind info : Nat) : t.ringTrailer n status kind info = s.ringTrailer n status kind info := by
  simp only [State.ringTrailer, State.fld, h.cfg]

end State.sameRing

/-- A slot freed leaves every ring as it was. -/
theorem State.freeSlot_sameRing (s : State) {v : GEvent} (hch : v.chamber < 16) (n : Nat) : s.sameRing (s.freeSlot v) n where
  base := s.freeSlot_counts v _ _ (GEvent.ring_notMem_counts hch n (by simp))
  idx := s.freeSlot_counts v _ _ (GEvent.ring_notMem_counts hch n (by simp))
  cfg := s.freeSlot_counts v _ _ (GEvent.ring_notMem_counts hch n (by simp))

/-- The report of a success into a ring with room (R117, R119). -/
theorem State.report_ok {s : State} {v : GEvent} (hrx : s.ringRx v.hring = true) (hfull : s.ringFull v.hring = false) :
    s.ringPush v.hring (s.entryBody v v.w3) stOK 2 v.action = some (s.report v stOK 0) := by
  simp [State.report, hrx, State.ringPush_notFull hfull, stOK, stPARTIAL]

/-- Settles O21: the NOP ends its event, and the end is the freed slot followed by the ring's new entry. -/
theorem nopReports : Obligations.NopReports := by
  unfold Obligations.NopReports
  intro e s v i hfired hrep hrx hfull hch hmem
  obtain ⟨-, hissued⟩ := State.firedEvent_issued hfired
  have hsame := s.freeSlot_sameRing hch v.hring
  have hpush := State.report_ok (hsame.rx.trans hrx) (hsame.full.trans hfull)
  have hbody : (s.freeSlot v).entryBody v v.w3 = [v.w3, i.ns, BitVec.ofNat 32 (v.slot * 2 ^ 16 + min 0xFFFF i.late)] := by
    rw [State.entryBody, hissued]
  rw [hbody] at hpush
  have hfree : (s.freeSlot v).mem = s.mem := by rw [s.freeSlot_frame]
  obtain ⟨hprod, hwords, htrailer, hrest⟩ := State.ringPush_spec hpush (by rw [State.memOk, hfree]; exact hmem)
  rw [hsame.prod, hsame.addr, hsame.entry] at *
  rw [hsame.trailer] at htrailer
  obtain ⟨k, hk⟩ := s.ringEntry_words v.hring
  refine ⟨_, nopAction_fired hfired, s.endEvent_events .., s.endEvent_slotTag_same .., ?_⟩
  rw [s.endEvent_reported v hrep]
  refine ⟨hprod, hwords 0 (by simp) (by omega), hwords 1 (by simp) (by omega), hwords 2 (by simp) (by omega), ?_, ?_, ?_⟩
  · rw [htrailer]
    simp [State.ringTrailer, stOK]
  · intro b hb
    rw [hrest b hb, hfree]
  · rw [State.report_time, State.freeSlot_time]

end Sys2Proof.Machine


/-! ## Submissions, their decision and the quotas (R92, R97 to R99, R101) -/

namespace Sys2Proof.Machine

/-! ### SUBMISSION (R97) -/

/-- The submission that GO = 1 makes of the staged words of an agent. -/
def State.stagedSub (s : State) (ag : Agent) : Sub :=
  { agent := ag, chamber := chamberOf s ag, w0 := s.regA GAL_SUB_W0 (agentId ag) 0, w1 := s.regA GAL_SUB_W1 (agentId ag) 0
    w2 := s.regA GAL_SUB_W2 (agentId ag) 0, w3 := s.regA GAL_SUB_W3 (agentId ag) 0, src := .reg }

/-- A cell writes GAL_SUB_GO through its submit port; another agent where the access rules allow it (R159). -/
theorem submission_admitted {s : State} {ag : Agent} (v : Word)
    (h : (∃ c, ag = .cell c) ∨ s.accessStatus ag true (GAL_SUB_GO.addr 0) = stOK) :
    exec (.submission ag v) s = .next (s.writeGo ag v) := by
  rw [exec_submission]
  unfold execSubmission
  rcases h with ⟨c, rfl⟩ | hst
  · rfl
  · cases ag with
    | cell c => rfl
    | _ => exact congrArg ok (asWrite_ok hst)

theorem State.writeGo_idle (s : State) (ag : Agent) {v : Word} (h : GAL_SUB_GO_GO.get v ≠ 1) : s.writeGo ag v = s := if_neg h

theorem State.writeGo_go (s : State) (ag : Agent) {v : Word} (h : GAL_SUB_GO_GO.get v = 1) :
    s.writeGo ag v = s.submit (s.stagedSub ag) := if_pos h

theorem State.submit_frame (s : State) (u : Sub) :
    s.submit u = { s with regs := (s.submit u).regs, gal := { s.gal with waiting := s.gal.waiting ++ [u] } } := rfl

/-! ### The choice of the submission unit (R99) -/

theorem nextChamber_some {c k : Nat} {p : Nat → Bool} (h : nextChamber c p = some k) : k < 16 ∧ p k = true := by
  have hmem := List.mem_of_find?_eq_some h
  rw [List.mem_map] at hmem
  obtain ⟨i, -, rfl⟩ := hmem
  exact ⟨Nat.mod_lt _ (by decide), List.find?_some h⟩

/-- The round robin passes every chamber. -/
theorem nextChamber_none {c : Nat} {p : Nat → Bool} (h : nextChamber c p = none) {k : Nat} (hk : k < 16) : p k = false := by
  have hall := List.find?_eq_none.1 h k (List.mem_map.2 ⟨(k + 15 - c % 16) % 16, List.mem_range.2 (Nat.mod_lt _ (by decide)), by omega⟩)
  simpa using hall

theorem nextChamber_eq_none {c : Nat} {p : Nat → Bool} (h : ∀ k, k < 16 → p k = false) : nextChamber c p = none := by
  cases hn : nextChamber c p with
  | none => rfl
  | some k => exact absurd (nextChamber_some hn).2 (by simp [h k (nextChamber_some hn).1])

/-- The state once submission `u` has left the queue. -/
def State.takenSub (s : State) (u : Sub) : State :=
  s.modGal fun g => { g with waiting := g.waiting.erase u, served := u.chamber }

theorem State.takenSub_checkSub (s : State) (u : Sub) : (s.takenSub u).checkSub u = s.checkSub u := rfl

/-- The slot that the submission unit gives (R90). -/
def State.slotFor (s : State) : Nat :=
  freeSlotFrom (s.gal.events.map (·.slot)) (s.gal.events.map (·.slot)).length (s.free.toNat % slotCount)

theorem State.takeSub_none (s : State) (h : s.gal.waiting.all (fun u => decide (16 ≤ u.chamber)) = true) : s.takeSub = none := by
  have hnone : nextChamber s.gal.served (fun c => s.gal.waiting.any (·.chamber == c)) = none := by
    refine nextChamber_eq_none fun k hk => ?_
    rw [List.any_eq_false]
    intro u hu
    have := List.all_eq_true.1 h u hu
    simp only [decide_eq_true_eq] at this
    simp only [beq_iff_eq]
    omega
  rw [State.takeSub, hnone]

/-- Where a submission waits the unit takes one, and decides it by the checks (R98, R99). -/
theorem State.takeSub_some {s : State} (h : ∃ u ∈ s.gal.waiting, u.chamber < 16) :
    ∃ u ∈ s.gal.waiting, s.takeSub = some (if s.checkSub u = stOK
      then ((s.takenSub u).used.acceptSub u s.slotFor, u, stOK, s.slotTag s.slotFor, s.slotFor)
      else (s.takenSub u, u, s.checkSub u, 0, 0)) := by
  obtain ⟨w, hw, hch⟩ := h
  cases hnext : nextChamber s.gal.served (fun c => s.gal.waiting.any (·.chamber == c)) with
  | none =>
    have := nextChamber_none hnext hch
    rw [List.any_eq_false] at this
    exact absurd (beq_self_eq_true w.chamber) (this w hw)
  | some c =>
    have hany := (nextChamber_some hnext).2
    cases hfind : s.gal.waiting.find? (·.chamber == c) with
    | none =>
      obtain ⟨x, hx, hxc⟩ := List.any_eq_true.1 hany
      exact absurd hxc (List.find?_eq_none.1 hfind x hx)
    | some u =>
      have huc : u.chamber = c := by simpa using List.find?_some hfind
      refine ⟨u, List.mem_of_find?_eq_some hfind, ?_⟩
      have htake : s.takeSub = if s.checkSub u == stOK
          then some ((s.takenSub u).used.acceptSub u s.slotFor, u, stOK, s.slotTag s.slotFor, s.slotFor)
          else some (s.takenSub u, u, s.checkSub u, 0, 0) := by
        subst huc
        rw [State.takeSub, hnext]
        simp only [hfind]
        rfl
      by_cases hst : s.checkSub u = stOK
      · rw [htake, if_pos hst, if_pos (beq_iff_eq.2 hst)]
      · rw [htake, if_neg hst, if_neg (by simpa using hst)]

/-! ### A free slot (R90) -/

/-- Where the search ends at a used slot, so are the slots it has passed. -/
theorem freeSlotFrom_used {used : List Nat} {k n : Nat} (h : freeSlotFrom used k n ∈ used) (hn : n < slotCount) :
    ∀ j, j ≤ k → (n + j) % slotCount ∈ used := by
  induction k generalizing n with
  | zero =>
    intro j hj
    rw [Nat.le_zero.1 hj, Nat.add_zero, Nat.mod_eq_of_lt hn]
    exact h
  | succ k ih =>
    unfold freeSlotFrom at h
    split at h
    · next hused =>
      intro j hj
      cases j with
      | zero => rw [Nat.add_zero, Nat.mod_eq_of_lt hn]; simpa using hused
      | succ j =>
        have := ih h (Nat.mod_lt _ (by decide)) j (Nat.le_of_succ_le_succ hj)
        rwa [Nat.mod_add_mod, Nat.add_assoc, Nat.add_comm 1 j] at this
    · next hfree => exact absurd h (by simpa using hfree)

/-- With fewer events than slots the search finds a free one. -/
theorem freeSlotFrom_free {used : List Nat} {n : Nat} (hn : n < slotCount) (hlen : used.length < slotCount) :
    freeSlotFrom used used.length n ∉ used := by
  intro hused
  have hpass := freeSlotFrom_used hused hn
  have hnodup : ((List.range (used.length + 1)).map fun j => (n + j) % slotCount).Nodup := by
    refine List.Nodup.map_on (fun i hi j hj h => ?_) List.nodup_range
    rw [List.mem_range] at hi hj
    unfold slotCount at h hlen
    omega
  have hsub := hnodup.subperm (l₂ := used) fun x hx => by
    obtain ⟨j, hj, rfl⟩ := List.mem_map.1 hx
    exact hpass j (by rw [List.mem_range] at hj; omega)
  have := hsub.length_le
  rw [List.length_map, List.length_range] at this
  omega

theorem State.slotFor_free {s : State} (h : s.gal.events.length < 49152) : s.slotFor ∉ s.gal.events.map (·.slot) :=
  freeSlotFrom_free (Nat.mod_lt s.free.toNat (by decide : 0 < slotCount)) (by rw [List.length_map]; exact h)

/-! ### Acceptance (R90, R92) -/

/-- An event keeps its slot, its words and its chamber. -/
def GEvent.sameSub (e w : GEvent) : Prop :=
  e.slot = w.slot ∧ e.w0 = w.w0 ∧ e.w1 = w.w1 ∧ e.w2 = w.w2 ∧ e.w3 = w.w3 ∧ e.chamber = w.chamber

/-- The events changed one by one, nothing else of the queues. -/
def State.EventsAs (s t : State) (f : GEvent → GEvent) : Prop :=
  t.gal.events = s.gal.events.map f ∧ t.gal.waiting = s.gal.waiting ∧ t.gal.served = s.gal.served

/-- An event changed by what keeps its words is one changed that keeps its words. -/
theorem State.modEvent_eventsAs (s : State) (n : Nat) {f : GEvent → GEvent} (hf : ∀ w, (f w).sameSub w) :
    ∃ g, (∀ w, GEvent.sameSub (g w) w) ∧ s.EventsAs (s.modEvent n f) g := by
  refine ⟨fun w => if w.slot == n then f w else w, fun w => ?_, rfl, rfl, rfl⟩
  dsimp only
  split
  · exact hf w
  · exact ⟨rfl, rfl, rfl, rfl, rfl, rfl⟩

theorem State.commitEvent_eventsAs (s : State) (e : GEvent) {f : GEvent → GEvent} (hf : ∀ w, (f w).sameSub w) :
    ∃ g, (∀ w, GEvent.sameSub (g w) w) ∧ s.EventsAs (s.commitEvent e f) g :=
  s.modEvent_eventsAs e.slot fun w => hf { w with committed := true }

theorem State.eventsAs_id (s : State) : ∃ g, (∀ w, GEvent.sameSub (g w) w) ∧ s.EventsAs s g :=
  ⟨fun w => w, fun _ => ⟨rfl, rfl, rfl, rfl, rfl, rfl⟩, (List.map_id' _).symm, rfl, rfl⟩

/-- What an event is found at its acceptance changes no words. -/
theorem State.acceptNow_eventsAs (s : State) (e : GEvent) : ∃ g, (∀ w, GEvent.sameSub (g w) w) ∧ s.EventsAs (s.acceptNow e) g := by
  have hsame (w : GEvent) : w.sameSub w := ⟨rfl, rfl, rfl, rfl, rfl, rfl⟩
  have hdue (lc : Nat) (exempt : Bool) : ∃ g, (∀ w, GEvent.sameSub (g w) w) ∧ s.EventsAs (s.dueNow e lc exempt) g :=
    s.commitEvent_eventsAs e fun w => hsame w
  unfold State.acceptNow
  split
  · split
    · exact s.commitEvent_eventsAs e hsame
    · exact State.eventsAs_id s
  · split
    · exact State.eventsAs_id s
    · extract_lets d
      generalize (if e.dir = 0 then d else -d) = ahead
      split
      · split
        · exact hdue ..
        · exact s.modEvent_eventsAs e.slot fun w => hsame w
      · split
        · exact hdue ..
        · exact State.eventsAs_id s

/-- The event that a submission becomes in slot `n` (R90, R92). -/
def State.subEvent (s : State) (u : Sub) (n : Nat) : GEvent :=
  { slot := n, w0 := u.w0, w1 := u.w1, w2 := u.w2, w3 := u.w3, chamber := s.ringOwner (GAL_SUB_W2_HRING.get u.w2)
    engine := Fin.ofNat 4 (s.engineOf (GAL_SUB_W2_ACTION.get u.w2) u.w3 (GAL_SUB_W2_HRING.get u.w2)), order := s.gal.order
    dir := (⟨17, 16⟩ : Fld).get u.w1, committed := false, instant := none, due := none, lc := 0, exempt := false
    issued := none, held := false, span := none, doomed := false }

/-- The slot written and counted, and the event pending, before it is looked at. -/
def State.subPlaced (s : State) (u : Sub) (n : Nat) : State :=
  ((s.pokeWords (slotAddr n) [u.w0, u.w1, u.w2, u.w3]).modGal fun g =>
    { g with events := g.events ++ [s.subEvent u n], order := g.order + 1 }).countSlot (s.subEvent u n).chamber
      (GAL_SUB_W2_HRING.get u.w2) (if (s.subEvent u n).angle then some (s.subEvent u n).axis.val else none) true

theorem State.acceptSub_eq (s : State) (u : Sub) (n : Nat) :
    s.acceptSub u n = (s.subPlaced u n).acceptNow (s.subEvent u n) := rfl

theorem State.subPlaced_gal (s : State) (u : Sub) (n : Nat) : (s.subPlaced u n).gal =
    { s.gal with events := s.gal.events ++ [s.subEvent u n], order := s.gal.order + 1 } := by
  rw [State.subPlaced, State.countSlot_frame, State.pokeWords_frame]
  rfl

/-- An accepted submission is the last pending event, with its words (R92). -/
theorem State.acceptSub_events (s : State) (u : Sub) (n : Nat) : ∃ e : GEvent,
    e.sameSub (s.subEvent u n) ∧ (s.acceptSub u n).gal.events.getLast? = some e ∧
    (s.acceptSub u n).gal.events.map (·.slot) = s.gal.events.map (·.slot) ++ [n] ∧
    (s.acceptSub u n).gal.waiting = s.gal.waiting ∧ (s.acceptSub u n).gal.served = s.gal.served := by
  obtain ⟨g, hg, hevents, hwaiting, hserved⟩ := (s.subPlaced u n).acceptNow_eventsAs (s.subEvent u n)
  rw [State.subPlaced_gal] at hevents hwaiting hserved
  rw [State.acceptSub_eq]
  refine ⟨g (s.subEvent u n), hg _, by rw [hevents]; simp, ?_, hwaiting, hserved⟩
  have hslots : GEvent.slot ∘ g = GEvent.slot := funext fun w => (hg w).1
  rw [hevents, List.map_map, hslots, List.map_append]
  rfl

/-! ### The outcome on its way to the submitter (R193) -/

/-- The Gallery and the memory are in `t` as in `s`. -/
def State.sameGal (s t : State) : Prop := t.gal = s.gal ∧ t.mem = s.mem

theorem State.sameGal.trans {s t u : State} (h : s.sameGal t) (k : t.sameGal u) : s.sameGal u :=
  ⟨k.1.trans h.1, k.2.trans h.2⟩

theorem foldl_sameGal {α : Type} {f : State → α → State} (hf : ∀ (s : State) a, s.sameGal (f s a)) (l : List α) (s : State) :
    s.sameGal (l.foldl f s) := by
  induction l generalizing s with
  | nil => exact ⟨rfl, rfl⟩
  | cons a l ih => exact (hf s a).trans (ih _)

theorem State.oppFault_sameGal (s : State) (x : Fin 8) (F : Fld) : s.sameGal (s.oppFault x F) := by
  unfold State.oppFault
  split <;> exact ⟨rfl, rfl⟩

theorem State.oppRefused_sameGal (s : State) (x : Fin 8) (status : Nat) : s.sameGal (s.oppRefused x status) :=
  State.oppFault_sameGal _ x _

theorem State.decisionIn_sameGal (s : State) (c : Fin 128) (status : Nat) (tag : BitVec 8) (slot : Nat) :
    s.sameGal (s.decisionIn c status tag slot) := by
  unfold State.decisionIn
  refine foldl_sameGal (fun t q => ?_) _ _
  exact ⟨rfl, rfl⟩

theorem State.postRefusal_sameGal (s : State) (c : Fin 128) (status word : Nat) :
    s.sameGal (s.postRefusal c status word) := by
  unfold State.postRefusal
  refine foldl_sameGal (fun t q => ?_) _ _
  exact ⟨rfl, rfl⟩

/-- Taking a submission decides the Gallery: its outcome goes to registers and processors alone. -/
theorem submissionDecision_taken {s s1 : State} {u : Sub} {st slot : Nat} {tag : BitVec 8} (hon : s.fabricOn = true)
    (h : s.takeSub = some (s1, u, st, tag, slot)) : ∃ t, exec .submissionDecision s = .next t ∧ s1.sameGal t := by
  rw [exec_submissionDecision]
  unfold execSubmissionDecision
  simp -zeta only [hon, h, Bool.not_true, Bool.false_eq_true, if_false]
  extract_lets res s2 s3
  have h2 : s1.sameGal s2 := by
    unfold s2
    split <;> exact ⟨rfl, rfl⟩
  have h3 : s2.sameGal s3 := by
    unfold s3
    split
    · split
      · exact ⟨rfl, rfl⟩
      · exact s2.oppRefused_sameGal ..
    · exact s2.decisionIn_sameGal ..
    · split
      · exact ⟨rfl, rfl⟩
      · exact s2.postRefusal_sameGal ..
    · exact ⟨rfl, rfl⟩
  refine ⟨_, rfl, (h2.trans h3).trans ?_⟩
  split
  · split <;> exact ⟨rfl, rfl⟩
  · exact ⟨rfl, rfl⟩

/-! ### The quotas (R101) -/

theorem galQuotaWrite_admitted {s : State} {ag : Agent} {c : Fin 16} (v : Word)
    (h : s.accessStatus ag true (GAL_QUOTA.addr c.val) = stOK) : exec (.galQuotaWrite ag c v) s = .next (s.writeQuota ag c.val v) := by
  rw [exec_galQuotaWrite, execGalQuotaWrite, asWrite_ok h]
  rfl

/-- The reservations with that of `c` as `v` would have it. -/
def State.rsvSum (s : State) (c : Nat) (v : Word) : Nat :=
  ((List.range 16).map fun i => if i = c then GAL_QUOTA_RSV.get v else s.fld GAL_QUOTA i GAL_QUOTA_RSV).sum

theorem State.writeQuota_eq (s : State) (ag : Agent) (c : Nat) (v : Word) : s.writeQuota ag c v =
    if chamberOf s ag ≠ 0 ∨ 49152 < s.rsvSum c v then s.refuse ag stPERM 1 (GAL_QUOTA.addr c) else s.setReg GAL_QUOTA c v := by
  rw [State.rsvSum, List.sum_eq_foldl, List.foldl_map]
  rfl

/-- Settles O17: the queue, the decision of the submission that the round robin takes, and the quotas. -/
theorem gallerySubmissions : Obligations.GallerySubmissions := by
  unfold Obligations.GallerySubmissions
  intro s
  refine ⟨fun ag v hacc => ?_, fun hidle => ?_, fun hon hwait => ?_, fun ag c v hacc => ?_⟩
  · rw [submission_admitted v hacc]
    refine ⟨fun hgo => by rw [s.writeGo_idle ag hgo], fun hgo => ⟨_, rfl, ?_⟩⟩
    rw [s.writeGo_go ag hgo, s.submit_frame]
    exact ⟨rfl, rfl⟩
  · rw [exec_submissionDecision]
    unfold execSubmissionDecision
    rcases hidle with hoff | hnone
    · rw [hoff]
      rfl
    · rw [s.takeSub_none hnone, ite_self]
      rfl
  · obtain ⟨u, hu, htake⟩ := State.takeSub_some hwait
    by_cases hst : s.checkSub u = stOK
    · rw [if_pos hst] at htake
      obtain ⟨t, hexec, hgal, hmem⟩ := submissionDecision_taken hon htake
      obtain ⟨e, ⟨hslot, h0, h1, h2, h3, hch⟩, hlast, hslots, hwaiting, hserved⟩ :=
        (s.takenSub u).used.acceptSub_events u s.slotFor
      rw [← hgal] at hlast hslots hwaiting hserved
      refine ⟨t, u, hexec, hu, hwaiting, hserved, fun hno => absurd hst hno, fun _ => ⟨e, hlast, ?_, h0, h1, h2, h3, hch,
        fun hlen => ?_⟩⟩
      · rw [hslots, hslot]
        rfl
      · rw [hslot]
        exact State.slotFor_free hlen
    · rw [if_neg hst] at htake
      obtain ⟨t, hexec, hgal, hmem⟩ := submissionDecision_taken hon htake
      refine ⟨t, u, hexec, hu, ?_, ?_, fun _ => ⟨?_, hmem⟩, fun hok => absurd hok hst⟩
      · rw [hgal]
        rfl
      · rw [hgal]
        rfl
      · rw [hgal]
        rfl
  · rw [galQuotaWrite_admitted v hacc, State.writeQuota_eq]
    refine ⟨fun hch hsum => congrArg _ (if_neg ?_), fun hno => congrArg _ (if_pos hno)⟩
    rintro (hne | hlt)
    · exact hne hch
    · exact absurd hsum (Nat.not_le.2 hlt)

end Sys2Proof.Machine


/-! ## Cancellation and commitment (R100, R103, R121) -/

namespace Sys2Proof.Machine

/-- An event found by its slot stands in that slot. -/
theorem State.eventAt_some {s : State} {n : Nat} {e : GEvent} (h : s.eventAt n = some e) : e ∈ s.gal.events ∧ e.slot = n :=
  ⟨List.mem_of_find?_eq_some h, by simpa using List.find?_some h⟩

/-! ### GAL_CANCEL (R100) -/

section

variable {s : State} {ag : Agent} {v : Word} {e : GEvent}

theorem galCancel_admitted (v : Word) (h : s.accessStatus ag true (GAL_CANCEL.addr 0) = stOK) :
    exec (.galCancel ag v) s = .next (s.cancel ag v) := by
  rw [exec_galCancel, execGalCancel, asWrite_ok h]
  rfl

/-- GAL_CANCEL_RES of an agent answers with a status. -/
def State.cancelAnswer (s : State) (ag : Agent) (st : Nat) : State :=
  s.setRegA GAL_CANCEL_RES (agentId ag) 0 (GAL_CANCEL_RES_STATUS.put 0 st)

theorem State.cancel_empty (ag : Agent) (h : s.eventAt (GAL_CANCEL_SLOT.get v) = none) :
    s.cancel ag v = s.cancelAnswer ag stSTALE_GEN := by
  rw [State.cancel, h]
  rfl

/-- A pending event: the tag and the commitment are judged first, then the chamber. -/
theorem State.cancel_pending (ag : Agent) (h : s.eventAt (GAL_CANCEL_SLOT.get v) = some e) : s.cancel ag v =
    if (s.slotTag (GAL_CANCEL_SLOT.get v)).toNat ≠ GAL_CANCEL_TAG.get v ∨ e.committed = true then s.cancelAnswer ag stSTALE_GEN
    else if chamberOf s ag ≠ 0 ∧ chamberOf s ag ≠ e.chamber then s.cancelAnswer ag stPERM
    else (s.endEvent e stABORTED 0 false).cancelAnswer ag stOK := by
  rw [State.cancel, h]
  simp only [Bool.or_eq_true, Bool.and_eq_true, bne_iff_ne]
  rfl

/-- A copy of a register written for an agent reads back. -/
theorem State.regA_setRegA_same (s : State) (f : RegFam) (g i : Nat) (w : Word) : (s.setRegA f g i w).regA f g i = w :=
  smGet_smSet_same ..

end

/-! ### TIME_EVENT_COMMIT (R103) -/

/-- Correcting a slot's words changes the ECC and its count alone. -/
theorem State.slotCorrect_frame (s : State) (e : GEvent) :
    s.slotCorrect e = { s with ecc := (s.slotCorrect e).ecc, eccCount := (s.slotCorrect e).eccCount } := by
  have hone (s : State) (a : Nat) : ∃ ecc n, s.eccCorrect a = { s with ecc := ecc, eccCount := n } := by
    unfold State.eccCorrect
    split
    · exact ⟨_, _, rfl⟩
    · exact ⟨s.ecc, s.eccCount, rfl⟩
  have hall (l : List Nat) (s : State) :
      ∃ ecc n, l.foldl (fun s o => s.eccCorrect (slotAddr e.slot + o)) s = { s with ecc := ecc, eccCount := n } := by
    induction l generalizing s with
    | nil => exact ⟨s.ecc, s.eccCount, rfl⟩
    | cons o l ih =>
      obtain ⟨ecc, n, h⟩ := hone s (slotAddr e.slot + o)
      obtain ⟨ecc', n', h'⟩ := ih (s.eccCorrect (slotAddr e.slot + o))
      exact ⟨ecc', n', by rw [List.foldl_cons, h', h]⟩
  obtain ⟨ecc, n, h⟩ := hall [0, 4, 8, 12] s
  rw [State.slotCorrect, h]

@[simp] theorem State.slotCorrect_gal (s : State) (e : GEvent) : (s.slotCorrect e).gal = s.gal := by rw [s.slotCorrect_frame]
@[simp] theorem State.slotCorrect_mem (s : State) (e : GEvent) : (s.slotCorrect e).mem = s.mem := by rw [s.slotCorrect_frame]
@[simp] theorem State.slotCorrect_regs (s : State) (e : GEvent) : (s.slotCorrect e).regs = s.regs := by rw [s.slotCorrect_frame]

/-- A commitment changes the Gallery alone: its event and the slot's tag. -/
theorem State.commitEvent_frame (s : State) (e : GEvent) (f : GEvent → GEvent) : s.commitEvent e f = { s with
    gal := { s.gal with events := s.gal.events.map fun w => if w.slot == e.slot then f { w with committed := true } else w
                        tags := smSet s.gal.tags e.slot (s.slotTag e.slot + 1) } } := rfl

section

variable {s : State} {n : Fin 49152} {e : GEvent}

theorem timeEventCommit_none (h : s.eventAt n.val = none) : exec (.timeEventCommit n) s = .next s := by
  rw [exec_timeEventCommit, execTimeEventCommit, h]
  rfl

/-- A slot that holds no event to commit now. -/
theorem timeEventCommit_rest (h : s.eventAt n.val = some e)
    (hrest : s.fabricOn = false ∨ e.angle = true ∨ e.committed = true ∨ s.isNear e.timeStamp = false) :
    exec (.timeEventCommit n) s = .next s := by
  rw [exec_timeEventCommit, execTimeEventCommit, h]
  rcases hrest with h | h | h | h <;> simp [h, ok]

theorem timeEventCommit_due (h : s.eventAt n.val = some e) (hon : s.fabricOn = true) (htime : e.angle = false)
    (hopen : e.committed = false) (hnear : s.isNear e.timeStamp = true) (hsound : s.slotFault e = none) :
    exec (.timeEventCommit n) s = .next ((s.slotCorrect e).commitEvent e id) := by
  simp [exec_timeEventCommit, execTimeEventCommit, h, hon, htime, hopen, hnear, hsound, ok]

end

/-- Settles O18: the cases of the cancellation by what its handle names, and the commitment of an event that is near. -/
theorem galleryCancelAndCommit : Obligations.GalleryCancelAndCommit := by
  unfold Obligations.GalleryCancelAndCommit
  intro s
  refine ⟨fun ag v hacc => ?_, fun n => ⟨fun hidle => ?_, fun e he => ⟨fun hrest => ?_, fun hon htime hopen hnear hsound => ?_⟩⟩⟩
  · rw [galCancel_admitted v hacc]
    refine ⟨fun hnone => congrArg _ (State.cancel_empty ag hnone), fun e he => ?_⟩
    rw [State.cancel_pending ag he]
    refine ⟨fun hstale => congrArg _ (if_pos hstale), fun htag hopen => ?_⟩
    rw [if_neg (by simp [htag, hopen])]
    refine ⟨fun h0 hch => congrArg _ (if_pos ⟨h0, hch⟩), fun hmay => ?_⟩
    rw [if_neg (by tauto)]
    obtain ⟨-, hslot⟩ := State.eventAt_some he
    rw [← hslot]
    exact ⟨_, rfl, s.endEvent_events .., s.endEvent_slotTag_same .., fun m hm => s.endEvent_slotTag_other _ _ _ _ hm,
      State.regA_setRegA_same .., s.endEvent_time ..⟩
  · rcases hidle with hoff | hnone
    · cases he : s.eventAt n.val with
      | none => exact timeEventCommit_none he
      | some e => exact timeEventCommit_rest he (.inl hoff)
    · exact timeEventCommit_none hnone
  · exact timeEventCommit_rest he (.inr hrest)
  · obtain ⟨-, hslot⟩ := State.eventAt_some he
    refine ⟨_, timeEventCommit_due he hon htime hopen hnear hsound, ?_⟩
    rw [State.commitEvent_frame, ← hslot]
    simp only [State.slotTag, State.slotCorrect_gal, State.slotCorrect_mem, State.slotCorrect_regs, State.slotCorrect_time,
      smGet_smSet_same, beq_iff_eq, id, true_and, and_true]
    exact fun m hm => smGet_smSet_other _ _ _ hm

end Sys2Proof.Machine


/-! ## Enabling, disabling and indexing a ring (R113, R114, R116, R489) -/

namespace Sys2Proof.Machine

/-! ### A word with several fields replaced by those of another -/

/-- The fields of `l` from word `v`, the others as they were. -/
def putFrom (l : List Fld) (w v : Word) : Word := l.foldl (fun w F => F.put w (F.get v)) w

theorem putFrom_apart {F : Fld} (hF : F.lo ≤ F.hi) {l : List Fld}
    (hl : ∀ G ∈ l, (G.lo ≤ G.hi ∧ G.hi < 32) ∧ (F.hi < G.lo ∨ G.hi < F.lo)) (w v : Word) : F.get (putFrom l w v) = F.get w := by
  induction l generalizing w with
  | nil => rfl
  | cons G l ih =>
    obtain ⟨hG, hap⟩ := hl G (.head _)
    exact (ih (fun G hG => hl G (.tail _ hG)) _).trans (Fld.get_put_apart F G w _ hF hG hap)

theorem putFrom_mem {F : Fld} {l : List Fld} (hl : ∀ G ∈ l, G.lo ≤ G.hi ∧ G.hi < 32)
    (hap : l.Pairwise fun F G => F.hi < G.lo ∨ G.hi < F.lo) (hF : F ∈ l) (w v : Word) : F.get (putFrom l w v) = F.get v := by
  induction l generalizing w with
  | nil => cases hF
  | cons G l ih =>
    obtain ⟨hhead, htail⟩ := List.pairwise_cons.1 hap
    have hrest : ∀ G ∈ l, G.lo ≤ G.hi ∧ G.hi < 32 := fun G hG => hl G (.tail _ hG)
    rcases List.mem_cons.1 hF with rfl | hF
    · exact (putFrom_apart (hl F (.head _)).1 (fun G hG => ⟨hrest G hG, hhead G hG⟩) _ v).trans (Fld.get_put_get F w v (hl F (.head _)))
    · exact ih hrest htail hF _

/-! ### GAL_RING_CFG (R114) -/

/-- The fields of GAL_RING_CFG that a write of a disabled ring takes. -/
def ringCfgFlds : List Fld :=
  [GAL_RING_CFG_LDEPTH, GAL_RING_CFG_ESZ, GAL_RING_CFG_ENG, GAL_RING_CFG_NTYPE, GAL_RING_CFG_NTGT, GAL_RING_CFG_AUTO]

/-- GAL_RING_CFG with a 1 to ROVF taken. -/
def ringRovf (old v : Word) : Word := if GAL_RING_CFG_ROVF.get v = 1 then GAL_RING_CFG_ROVF.put old 0 else old

theorem ringRovf_get {F : Fld} (hF : F.lo ≤ F.hi) (h : F.hi < 2 ∨ 2 < F.lo) (old v : Word) :
    F.get (ringRovf old v) = F.get old := by
  unfold ringRovf
  split
  · exact Fld.get_put_apart F _ _ _ hF (by decide) h
  · rfl

section

variable {s : State} {n : Nat}

/-- A ring's placement turns on its base, its depth and its entry size. -/
theorem State.ringPlaced_congr {t : State} (hbase : t.reg GAL_RING_BASE n = s.reg GAL_RING_BASE n)
    (hdepth : t.fld GAL_RING_CFG n GAL_RING_CFG_LDEPTH = s.fld GAL_RING_CFG n GAL_RING_CFG_LDEPTH)
    (hesz : t.fld GAL_RING_CFG n GAL_RING_CFG_ESZ = s.fld GAL_RING_CFG n GAL_RING_CFG_ESZ) : t.ringPlaced n = s.ringPlaced n := by
  have hb : t.fld GAL_RING_BASE n GAL_RING_BASE_BASE = s.fld GAL_RING_BASE n GAL_RING_BASE_BASE := by rw [State.fld, hbase, State.fld]
  have hd : t.ringDepth n = s.ringDepth n := by rw [State.ringDepth, hdepth, State.ringDepth]
  have he : t.ringEntry n = s.ringEntry n := by rw [State.ringEntry, hesz, State.ringEntry]
  unfold State.ringPlaced
  rw [hb, hd, he]

/-- A ring that starts: lap 1, enabled, with empty indexes and a reader at the start (R114). -/
def State.ringStarted (s : State) (n : Nat) : State :=
  let s2 := ((s.setFld GAL_RING_CFG n GAL_RING_CFG_PGEN 1).setBit GAL_RING_CFG n GAL_RING_CFG_EN true).setReg GAL_RING_IDX n 0
  { s2 with txr := smDrop (· == n) s2.txr }

theorem State.ringStarted_mem : (s.ringStarted n).mem = s.mem := rfl
theorem State.ringStarted_fabLog : (s.ringStarted n).fabLog = s.fabLog := rfl

theorem State.ringStarted_reg (f : RegFam) (i : Nat) : (s.ringStarted n).reg f i =
    (((s.setFld GAL_RING_CFG n GAL_RING_CFG_PGEN 1).setBit GAL_RING_CFG n GAL_RING_CFG_EN true).setReg GAL_RING_IDX n 0).reg f i := by
  simp only [State.reg, State.ringStarted]

/-- The configuration register of a disabled ring after a write. -/
def State.ringConfigured (s : State) (n : Nat) (v : Word) : State :=
  s.setReg GAL_RING_CFG n (putFrom ringCfgFlds (ringRovf (s.reg GAL_RING_CFG n) v) v)

theorem State.writeRingCfg_enable (ag : Agent) (v : Word) (hoff : s.bit GAL_RING_CFG n GAL_RING_CFG_EN = false) :
    s.writeRingCfg ag n (GAL_RING_CFG_EN.put v 1) =
      if (s.ringConfigured n (GAL_RING_CFG_EN.put v 1)).ringPlaced n
      then (s.ringConfigured n (GAL_RING_CFG_EN.put v 1)).ringStarted n
      else (s.ringConfigured n (GAL_RING_CFG_EN.put v 1)).refuse ag stBAD_TARGET 1 (GAL_RING_BASE.addr n) := by
  have hold : ¬ GAL_RING_CFG_EN.get (s.reg GAL_RING_CFG n) = 1 := by simpa [State.bit, State.fld] using hoff
  have hen : GAL_RING_CFG_EN.get (GAL_RING_CFG_EN.put v 1) = 1 := Fld.get_put _ _ _ (by decide)
  rw [State.writeRingCfg, if_neg hold, if_pos hen, State.ringConfigured, putFrom, ringCfgFlds, ringRovf]
  simp only [State.ringStarted, State.discard]

/-- An enabled ring after a write: ROVF alone. -/
def State.ringRovfTaken (s : State) (n : Nat) (v : Word) : State :=
  s.setReg GAL_RING_CFG n (ringRovf (s.reg GAL_RING_CFG n) v)

/-- A disable: with no event pending EN falls, else it stays and the write is refused. -/
theorem State.writeRingCfg_disable (ag : Agent) (v : Word) (hon : s.bit GAL_RING_CFG n GAL_RING_CFG_EN = true) :
    s.writeRingCfg ag n (GAL_RING_CFG_EN.put v 0) =
      let s1 := s.ringRovfTaken n (GAL_RING_CFG_EN.put v 0)
      if s.fld GAL_RING_TOL n GAL_RING_TOL_PEND = 0 then s1.setBit GAL_RING_CFG n GAL_RING_CFG_EN false
      else s1.refuse ag stPERM 1 (GAL_RING_CFG.addr n) := by
  have hold : GAL_RING_CFG_EN.get (s.reg GAL_RING_CFG n) = 1 := by simpa [State.bit, State.fld] using hon
  have hen : GAL_RING_CFG_EN.get (GAL_RING_CFG_EN.put v 0) = 0 := Fld.get_put _ _ _ (by decide)
  rw [State.writeRingCfg, if_pos hold, if_pos hen]
  rfl

/-- What a write of a disabled ring leaves of its configuration: the fields it takes, and EN and OWNER as they were. -/
theorem State.ringConfigured_fld (v : Word) {F : Fld} (hF : F ∈ ringCfgFlds) :
    (s.ringConfigured n v).fld GAL_RING_CFG n F = F.get v := by
  rw [State.fld, State.ringConfigured, reg_setReg_same]
  exact putFrom_mem (by decide) (by decide) hF _ _

theorem State.ringConfigured_kept (v : Word) {F : Fld} (hF : F = GAL_RING_CFG_OWNER ∨ F = GAL_RING_CFG_EN) :
    (s.ringConfigured n v).fld GAL_RING_CFG n F = s.fld GAL_RING_CFG n F := by
  rw [State.fld, State.ringConfigured, reg_setReg_same, State.fld]
  rcases hF with rfl | rfl
  · exact (putFrom_apart (by decide) (by decide) _ _).trans (ringRovf_get (by decide) (by decide) _ _)
  · exact (putFrom_apart (by decide) (by decide) _ _).trans (ringRovf_get (by decide) (by decide) _ _)

/-- The fields of a ring that starts, beside PGEN and EN. -/
theorem State.ringStarted_fld {F : Fld} (hF : F.lo ≤ F.hi)
    (hpgen : F.hi < 12 ∨ 19 < F.lo) (hen : F.hi < 1 ∨ 1 < F.lo) :
    (s.ringStarted n).fld GAL_RING_CFG n F = s.fld GAL_RING_CFG n F := by
  have hne : GAL_RING_CFG.addr n ≠ GAL_RING_IDX.addr n := by rw [GAL_RING_CFG_addr, GAL_RING_IDX_addr]; omega
  rw [State.fld, State.ringStarted_reg, reg_setReg_other _ _ _ _ _ _ hne]
  exact (fld_setFld_apart _ _ _ _ _ _ hF (by decide) hen).trans (fld_setFld_apart _ _ _ _ _ _ hF (by decide) hpgen)

end

/-! ### The error log -/

/-- The registers of the error log. -/
theorem State.refuse_regsBut (s : State) (ag : Agent) (status kind addr : Nat) :
    s.regsBut (s.refuse ag status kind addr) (· ∈ [FAB_ERR_STAT.addr 0, FAB_ERR_DROP.addr 0]) := by
  intro f i hf
  simp only [List.mem_cons, List.not_mem_nil, or_false, not_or] at hf
  exact s.logErr_reg _ f i hf.1 hf.2

theorem FAB_ERR_addr : FAB_ERR_STAT.addr 0 = 0x40050000 ∧ FAB_ERR_DROP.addr 0 = 0x40050014 := by decide

/-- No register of a ring belongs to the error log. -/
theorem ring_notMem_errLog {n : Nat} (hn : n < 16384) {a : Nat}
    (h : a ∈ [GAL_RING_BASE.addr n, GAL_RING_IDX.addr n, GAL_RING_CFG.addr n]) :
    a ∉ [FAB_ERR_STAT.addr 0, FAB_ERR_DROP.addr 0] := by
  simp only [List.mem_cons, List.not_mem_nil, or_false, FAB_ERR_addr, GAL_RING_BASE_addr, GAL_RING_IDX_addr,
    GAL_RING_CFG_addr] at h ⊢
  omega

/-- A refusal at an address of the chip level leaves its entry last in a log with room. -/
theorem State.refuse_chip_fabLog (s : State) (ag : Agent) (status addr : Nat) (haddr : 0x30000000 ≤ addr) (hlen : s.fabLog.length < 16) :
    (s.refuse ag status 1 addr).fabLog = s.fabLog ++ [errEntry s status (chamberOf s ag) 3 1 (agentId ag) addr] := by
  have hlevel : levelOf addr = 3 := by
    rw [levelOf, if_neg (by simp; omega)]
  rw [State.refuse, State.appendErr, State.logErr_fabLog, if_neg (by omega), hlevel]

/-! ### GAL_RING_IDX (R113, R116, R489) -/

section

variable {s : State} {n : Nat}

/-- A write of CONS: taken by a receive ring (R113). -/
theorem State.writeRingIdx_cons (cons : Half) :
    let t := s.writeRingIdx n (GAL_RING_IDX_CONS.put (s.reg GAL_RING_IDX n) cons.toNat)
    t.fld GAL_RING_IDX n GAL_RING_IDX_PROD = s.fld GAL_RING_IDX n GAL_RING_IDX_PROD ∧
    t.fld GAL_RING_IDX n GAL_RING_IDX_CONS =
      if s.bit GAL_RING_BASE n GAL_RING_BASE_TXR then s.fld GAL_RING_IDX n GAL_RING_IDX_CONS else cons.toNat := by
  intro t
  have hprod : GAL_RING_IDX_PROD.get (GAL_RING_IDX_CONS.put (s.reg GAL_RING_IDX n) cons.toNat) =
      s.fld GAL_RING_IDX n GAL_RING_IDX_PROD := Fld.get_put_apart _ _ _ _ (by decide) (by decide) (by decide)
  have hcons : GAL_RING_IDX_CONS.get (GAL_RING_IDX_CONS.put (s.reg GAL_RING_IDX n) cons.toNat) = cons.toNat :=
    (Fld.get_put _ _ _ (by decide)).trans (Nat.mod_eq_of_lt cons.isLt)
  unfold t State.writeRingIdx
  rw [hprod, hcons]
  split
  · exact ⟨(fld_setFld_same _ _ _ _ _ (by decide)).trans (Nat.mod_eq_of_lt (Nat.mod_lt _ (by decide))),
      fld_setFld_apart _ _ _ _ _ _ (by decide) (by decide) (by decide)⟩
  · exact ⟨fld_setFld_apart _ _ _ _ _ _ (by decide) (by decide) (by decide),
      (fld_setFld_same _ _ _ _ _ (by decide)).trans (Nat.mod_eq_of_lt cons.isLt)⟩

/-- A write of PROD: taken by a transmit ring (R116). -/
theorem State.writeRingIdx_prod (prod : Half) :
    let t := s.writeRingIdx n (GAL_RING_IDX_PROD.put (s.reg GAL_RING_IDX n) prod.toNat)
    t.fld GAL_RING_IDX n GAL_RING_IDX_CONS = s.fld GAL_RING_IDX n GAL_RING_IDX_CONS ∧
    t.fld GAL_RING_IDX n GAL_RING_IDX_PROD =
      if s.bit GAL_RING_BASE n GAL_RING_BASE_TXR then prod.toNat else s.fld GAL_RING_IDX n GAL_RING_IDX_PROD := by
  intro t
  have hcons : GAL_RING_IDX_CONS.get (GAL_RING_IDX_PROD.put (s.reg GAL_RING_IDX n) prod.toNat) =
      s.fld GAL_RING_IDX n GAL_RING_IDX_CONS := Fld.get_put_apart _ _ _ _ (by decide) (by decide) (by decide)
  have hprod : GAL_RING_IDX_PROD.get (GAL_RING_IDX_PROD.put (s.reg GAL_RING_IDX n) prod.toNat) = prod.toNat :=
    (Fld.get_put _ _ _ (by decide)).trans (Nat.mod_eq_of_lt prod.isLt)
  unfold t State.writeRingIdx
  rw [hprod, hcons]
  split
  · exact ⟨fld_setFld_apart _ _ _ _ _ _ (by decide) (by decide) (by decide),
      (fld_setFld_same _ _ _ _ _ (by decide)).trans (Nat.mod_eq_of_lt prod.isLt)⟩
  · exact ⟨(fld_setFld_same _ _ _ _ _ (by decide)).trans (Nat.mod_eq_of_lt (Nat.mod_lt _ (by decide))),
      fld_setFld_apart _ _ _ _ _ _ (by decide) (by decide) (by decide)⟩

theorem State.writeRingIdx_frame (v : Word) : s.regsSame (s.writeRingIdx n v) [GAL_RING_IDX.addr n] ∧
    s.writeRingIdx n v = { s with regs := (s.writeRingIdx n v).regs } := by
  unfold State.writeRingIdx
  split
  · exact ⟨s.setFld_frame _ _ _ _ (by simp), rfl⟩
  · exact ⟨s.setFld_frame _ _ _ _ (by simp), rfl⟩

/-- The bindings of the Echo ports do not turn on ring indexes. -/
theorem State.echoBind_congr {t : State} (h : s.regsSame t [GAL_RING_IDX.addr n]) (hn : n < 16384) (m : Nat) :
    t.echoBind m = s.echoBind m := by
  have hreg (b : Nat) : t.reg ECHO_TXB b = s.reg ECHO_TXB b := by
    refine h _ _ ?_
    rw [List.mem_singleton, GAL_RING_IDX_addr, RegFam.addr]
    have : 0x31040000 ≤ ECHO_TXB.base := by decide
    omega
  simp only [State.echoBind, State.bit, State.fld, hreg]

/-- Without a binding a new PROD has no further effect. -/
theorem State.writeRingIdxTx_unbound (v : Word) (hn : n < 16384)
    (h : (s.writeRingIdx n v).fld GAL_RING_IDX n GAL_RING_IDX_PROD = s.fld GAL_RING_IDX n GAL_RING_IDX_PROD ∨ s.echoBind n = none) :
    s.writeRingIdxTx n v = s.writeRingIdx n v := by
  rw [State.writeRingIdxTx]
  split
  · rfl
  · next hne =>
    rcases h with h | h
    · exact absurd h hne
    · rw [State.echoAuto, State.echoBind_congr (s.writeRingIdx_frame v).1 hn, h]

end

/-! ### The four writes -/

section

variable {s : State} {ag : Agent} {n : Fin 16384}

/-- RING_ENABLE of a disabled ring: configured, and started where its entries are placed as R114 asks. -/
theorem ringEnable_off (hacc : s.accessStatus ag true (GAL_RING_CFG.addr n.val) = stOK) (v : Word)
    (hoff : s.bit GAL_RING_CFG n.val GAL_RING_CFG_EN = false) :
    let s1 := s.ringConfigured n.val (GAL_RING_CFG_EN.put v 1)
    exec (.ringEnable ag n v) s = .next (if s1.ringPlaced n.val then s1.ringStarted n.val
      else s1.refuse ag stBAD_TARGET 1 (GAL_RING_BASE.addr n.val)) := by
  rw [exec_ringEnable, execRingEnable, asWrite_ok hacc, State.writeRingCfg_enable ag v hoff]
  rfl

theorem ringDisable_on (hacc : s.accessStatus ag true (GAL_RING_CFG.addr n.val) = stOK) (v : Word)
    (hon : s.bit GAL_RING_CFG n.val GAL_RING_CFG_EN = true) :
    let s1 := s.ringRovfTaken n.val (GAL_RING_CFG_EN.put v 0)
    exec (.ringDisable ag n v) s = .next (if s.fld GAL_RING_TOL n.val GAL_RING_TOL_PEND = 0
      then s1.setBit GAL_RING_CFG n.val GAL_RING_CFG_EN false else s1.refuse ag stPERM 1 (GAL_RING_CFG.addr n.val)) := by
  rw [exec_ringDisable, execRingDisable, asWrite_ok hacc, State.writeRingCfg_disable ag v hon]
  rfl

/-- What RING_ENABLE leaves. -/
theorem ringEnable_result (v : Word) :
    let s1 := s.ringConfigured n.val (GAL_RING_CFG_EN.put v 1)
    let t := if s1.ringPlaced n.val then s1.ringStarted n.val else s1.refuse ag stBAD_TARGET 1 (GAL_RING_BASE.addr n.val)
    t.fld GAL_RING_CFG n.val GAL_RING_CFG_LDEPTH = GAL_RING_CFG_LDEPTH.get v ∧
    t.fld GAL_RING_CFG n.val GAL_RING_CFG_ESZ = GAL_RING_CFG_ESZ.get v ∧
    t.fld GAL_RING_CFG n.val GAL_RING_CFG_OWNER = s.fld GAL_RING_CFG n.val GAL_RING_CFG_OWNER ∧ t.mem = s.mem ∧
    t.ringPlaced n.val = s1.ringPlaced n.val := by
  intro s1 t
  have hapart (F : Fld) (hF : F.lo ≤ F.hi) (h : F.hi < 1 ∨ 1 < F.lo) : F.get (GAL_RING_CFG_EN.put v 1) = F.get v :=
    Fld.get_put_apart F _ _ _ hF (by decide) h
  have hdepth : s1.fld GAL_RING_CFG n.val GAL_RING_CFG_LDEPTH = GAL_RING_CFG_LDEPTH.get v :=
    (State.ringConfigured_fld _ (by decide)).trans (hapart _ (by decide) (by decide))
  have hesz : s1.fld GAL_RING_CFG n.val GAL_RING_CFG_ESZ = GAL_RING_CFG_ESZ.get v :=
    (State.ringConfigured_fld _ (by decide)).trans (hapart _ (by decide) (by decide))
  have howner := State.ringConfigured_kept (s := s) (n := n.val) (GAL_RING_CFG_EN.put v 1) (.inl rfl)
  have hbase : GAL_RING_BASE.addr n.val ≠ GAL_RING_CFG.addr n.val ∧ GAL_RING_BASE.addr n.val ≠ GAL_RING_IDX.addr n.val := by
    rw [GAL_RING_BASE_addr, GAL_RING_CFG_addr, GAL_RING_IDX_addr]
    omega
  have hlog := s1.refuse_regsBut ag stBAD_TARGET 1 (GAL_RING_BASE.addr n.val)
  unfold t
  split
  · have hfld (F : Fld) (h : F = GAL_RING_CFG_LDEPTH ∨ F = GAL_RING_CFG_ESZ ∨ F = GAL_RING_CFG_OWNER) :
        (s1.ringStarted n.val).fld GAL_RING_CFG n.val F = s1.fld GAL_RING_CFG n.val F := by
      rcases h with rfl | rfl | rfl <;> exact State.ringStarted_fld (by decide) (by decide) (by decide)
    refine ⟨(hfld _ (.inl rfl)).trans hdepth, (hfld _ (.inr (.inl rfl))).trans hesz, (hfld _ (.inr (.inr rfl))).trans howner,
      State.ringStarted_mem,
      State.ringPlaced_congr ?_ (hfld _ (.inl rfl)) (hfld _ (.inr (.inl rfl)))⟩
    rw [State.ringStarted_reg, reg_setReg_other _ _ _ _ _ _ hbase.2, reg_setBit_other _ _ _ _ _ _ _ hbase.1,
      reg_setFld_other _ _ _ _ _ _ _ hbase.1]
  · have hcfg (F : Fld) := hlog.fld (F := F) (ring_notMem_errLog n.isLt (a := GAL_RING_CFG.addr n.val) (by simp))
    refine ⟨(hcfg _).trans hdepth, (hcfg _).trans hesz, (hcfg _).trans howner, State.logErr_mem .., ?_⟩
    exact State.ringPlaced_congr (hlog _ _ (ring_notMem_errLog n.isLt (by simp))) (hcfg _) (hcfg _)

end

/-- Settles O22: an enable by where the entries lie, a disable by PEND, and the two index writes by the direction of the ring. -/
theorem ringSetup : Obligations.RingSetup := by
  unfold Obligations.RingSetup
  intro ag n s
  refine ⟨fun hacc => ⟨fun v hoff => ?_, fun v hon => ⟨fun hpend => ?_, fun hpend => ?_⟩⟩, fun hacc => ⟨fun cons => ?_, fun prod hpb => ?_⟩⟩
  · obtain ⟨hdepth, hesz, howner, hmem, hplaced⟩ := ringEnable_result (s := s) (ag := ag) (n := n) v
    refine ⟨_, ringEnable_off hacc v hoff, hdepth, hesz, howner, hmem, ?_⟩
    rw [hplaced]
    have hen := State.ringConfigured_kept (s := s) (n := n.val) (GAL_RING_CFG_EN.put v 1) (.inr rfl)
    have hidx : (s.ringConfigured n.val (GAL_RING_CFG_EN.put v 1)).reg GAL_RING_IDX n.val = s.reg GAL_RING_IDX n.val :=
      reg_setReg_other _ _ _ _ _ _ (by rw [GAL_RING_IDX_addr, GAL_RING_CFG_addr]; omega)
    have hfab : (s.ringConfigured n.val (GAL_RING_CFG_EN.put v 1)).fabLog = s.fabLog := rfl
    have hentry : errEntry (s.ringConfigured n.val (GAL_RING_CFG_EN.put v 1)) stBAD_TARGET
        (chamberOf (s.ringConfigured n.val (GAL_RING_CFG_EN.put v 1)) ag) 3 1 (agentId ag) (GAL_RING_BASE.addr n.val) =
        errEntry s stBAD_TARGET (chamberOf s ag) 3 1 (agentId ag) (GAL_RING_BASE.addr n.val) := by cases ag <;> rfl
    generalize s.ringConfigured n.val (GAL_RING_CFG_EN.put v 1) = s1 at *
    refine ⟨fun hp => ?_, fun hp => ?_⟩
    · rw [if_pos hp]
      have hne : GAL_RING_CFG.addr n.val ≠ GAL_RING_IDX.addr n.val := by rw [GAL_RING_CFG_addr, GAL_RING_IDX_addr]; omega
      have hcfg : (s1.ringStarted n.val).reg GAL_RING_CFG n.val =
          ((s1.setFld GAL_RING_CFG n.val GAL_RING_CFG_PGEN 1).setBit GAL_RING_CFG n.val GAL_RING_CFG_EN true).reg GAL_RING_CFG n.val :=
        (State.ringStarted_reg ..).trans (reg_setReg_other _ _ _ _ _ _ hne)
      refine ⟨?_, ?_, (State.ringStarted_reg ..).trans (reg_setReg_same ..), State.ringStarted_fabLog.trans hfab⟩
      · rw [State.bit, State.fld, hcfg]
        exact bit_setBit_same _ _ _ _ _ (by decide)
      · rw [State.fld, hcfg]
        exact (fld_setFld_apart _ _ _ _ _ _ (by decide) (by decide) (by decide)).trans (fld_setFld_same _ _ _ _ _ (by decide))
    · rw [if_neg (by simp [hp])]
      have hlog := s1.refuse_regsBut ag stBAD_TARGET 1 (GAL_RING_BASE.addr n.val)
      refine ⟨?_, ?_, fun hlen => ?_⟩
      · rw [hlog.bit (ring_notMem_errLog n.isLt (by simp)), State.bit, hen]
        exact hoff
      · rw [hlog _ _ (ring_notMem_errLog n.isLt (by simp)), hidx]
      · rw [s1.refuse_chip_fabLog _ _ _ (by rw [GAL_RING_BASE_addr]; omega) (by rw [hfab]; exact hlen), hentry, hfab]
  · refine ⟨_, ringDisable_on hacc v hon, ?_⟩
    rw [if_pos hpend]
    have hkept (F : Fld) (hF : F.lo ≤ F.hi) (h : 2 < F.lo) (t : State)
        (ht : t.reg GAL_RING_CFG n.val = ringRovf (s.reg GAL_RING_CFG n.val) (GAL_RING_CFG_EN.put v 0)) :
        (t.setBit GAL_RING_CFG n.val GAL_RING_CFG_EN false).fld GAL_RING_CFG n.val F = s.fld GAL_RING_CFG n.val F := by
      refine (fld_setFld_apart _ _ _ _ _ _ hF (by decide) (.inr (Nat.lt_of_succ_lt h))).trans ?_
      rw [State.fld, ht]
      exact ringRovf_get hF (.inr h) _ _
    refine ⟨bit_setBit_same _ _ _ _ _ (by decide), hkept _ (by decide) (by decide) _ (reg_setReg_same ..),
      hkept _ (by decide) (by decide) _ (reg_setReg_same ..), ?_, rfl⟩
    exact (s.setReg_frame _ _ _ (by simp)).trans (State.setFld_frame _ _ _ _ _ (by simp))
  · refine ⟨_, ringDisable_on hacc v hon, ?_⟩
    rw [if_neg hpend]
    have hlog := (s.ringRovfTaken n.val (GAL_RING_CFG_EN.put v 0)).refuse_regsBut ag stPERM 1 (GAL_RING_CFG.addr n.val)
    refine ⟨?_, fun hlen => ?_⟩
    · rw [hlog.bit (ring_notMem_errLog n.isLt (by simp)), State.bit, State.fld,
        State.ringRovfTaken, reg_setReg_same, ringRovf_get (by decide) (by decide)]
      exact hon
    · refine ((s.ringRovfTaken n.val (GAL_RING_CFG_EN.put v 0)).refuse_chip_fabLog ag stPERM (GAL_RING_CFG.addr n.val)
        (by rw [GAL_RING_CFG_addr]; omega) hlen).trans ?_
      cases ag <;> rfl
  · obtain ⟨hregs, hframe⟩ := s.writeRingIdx_frame (n := n.val) (GAL_RING_IDX_CONS.put (s.reg GAL_RING_IDX n.val) cons.toNat)
    obtain ⟨hprod, hcons⟩ := s.writeRingIdx_cons (n := n.val) cons
    exact ⟨_, congrArg ok (asWrite_ok hacc), hregs, hframe, hprod, hcons⟩
  · obtain ⟨hregs, hframe⟩ := s.writeRingIdx_frame (n := n.val) (GAL_RING_IDX_PROD.put (s.reg GAL_RING_IDX n.val) prod.toNat)
    obtain ⟨hcons, hprod⟩ := s.writeRingIdx_prod (n := n.val) prod
    have hunbound := State.writeRingIdxTx_unbound (s := s) (GAL_RING_IDX_PROD.put (s.reg GAL_RING_IDX n.val) prod.toNat) n.isLt
      (hpb.imp (fun h => by rw [hprod, h]; rfl) id)
    refine ⟨_, (congrArg ok (asWrite_ok hacc)).trans (congrArg ok hunbound), hregs, hframe, hcons, hprod⟩

end Sys2Proof.Machine


/-! ## Issue slots and held actions (R94, R95, R108 to R111) -/

namespace Sys2Proof.Machine

/-! ### The event that goes first (R108) -/

/-- Of a list of events the earliest is one of them. -/
theorem foldl_before_mem (s : State) (l : List GEvent) (b : Option GEvent) {v : GEvent}
    (h : l.foldl (fun (b : Option GEvent) v => match b with
      | none => some v
      | some w => if s.before v w then some v else some w) b = some v) : v ∈ l ∨ b = some v := by
  induction l generalizing b with
  | nil => exact .inr h
  | cons w l ih =>
    rcases ih _ h with hl | hb
    · exact .inl (.tail _ hl)
    · cases b with
      | none =>
        cases hb
        exact .inl (.head _)
      | some x =>
        dsimp only at hb
        split at hb
        · cases hb
          exact .inl (.head _)
        · exact .inr hb

theorem State.earliest_mem {s : State} {e : Fin 4} {c : Nat} {v : GEvent} (h : s.earliest e c = some v) : v ∈ s.gal.events := by
  rcases foldl_before_mem s _ none h with hl | hb
  · exact (List.mem_filter.1 hl).1
  · cases hb

theorem State.nextIssue_mem {s : State} {e : Fin 4} {v : GEvent} (h : s.nextIssue e = some v) : v ∈ s.gal.events := by
  unfold State.nextIssue at h
  split at h
  · next hown => cases h; exact State.earliest_mem hown
  · split at h
    · cases h
    · exact State.earliest_mem h

/-! ### The due ticks kept -/

/-- The due tick of an event latched. -/
def State.withDue (s : State) (v : GEvent) : GEvent := if v.committed && v.issued.isNone then { v with due := s.dueOf v } else v

theorem State.latchDue_frame (s : State) : s.latchDue = { s with gal := { s.gal with events := s.gal.events.map s.withDue } } := rfl

theorem State.latchDue_slots (s : State) : s.latchDue.gal.events.map (·.slot) = s.gal.events.map (·.slot) := by
  rw [s.latchDue_frame, List.map_map]
  refine List.map_congr_left fun v _ => ?_
  simp only [Function.comp, State.withDue]
  split <;> rfl

/-! ### No event comes anew -/

/-- Every event that is pending in `t` stands in the slot of one that was pending in `s`. -/
def State.slotsFrom (s t : State) : Prop := ∀ w ∈ t.gal.events, ∃ v ∈ s.gal.events, v.slot = w.slot

section

variable {s t u : State}

theorem State.slotsFrom.trans (h : s.slotsFrom t) (k : t.slotsFrom u) : s.slotsFrom u := fun w hw => by
  obtain ⟨v, hv, hvw⟩ := k w hw
  obtain ⟨x, hx, hxv⟩ := h v hv
  exact ⟨x, hx, hxv.trans hvw⟩

theorem State.slotsFrom.of_gal (h : t.gal = s.gal) : s.slotsFrom t := fun w hw => ⟨w, h ▸ hw, rfl⟩

theorem State.slotsFrom.eventAt (h : s.slotsFrom t) {n : Nat} (hn : s.eventAt n = none) : t.eventAt n = none := by
  rw [State.eventAt, List.find?_eq_none] at hn ⊢
  intro w hw
  obtain ⟨v, hv, hvw⟩ := h w hw
  have := hn v hv
  rwa [hvw] at this

theorem State.endEvent_slotsFrom (s : State) (e : GEvent) (st m : Nat) (quiet : Bool) : s.slotsFrom (s.endEvent e st m quiet) := by
  intro w hw
  rw [State.endEvent_events] at hw
  exact ⟨w, (List.mem_filter.1 hw).1, rfl⟩

theorem State.modEvent_slotsFrom (s : State) (n : Nat) {f : GEvent → GEvent} (hf : ∀ w, (f w).slot = w.slot) :
    s.slotsFrom (s.modEvent n f) := by
  intro w hw
  obtain ⟨v, hv, rfl⟩ := List.mem_map.1 hw
  refine ⟨v, hv, ?_⟩
  split
  · exact (hf v).symm
  · rfl

theorem State.slotFault_slotsFrom {e : GEvent} (h : s.slotFault e = some t) : s.slotsFrom t := by
  unfold State.slotFault at h
  extract_lets a at h
  split at h
  · cases h
    have hlog : ((s.appendErr stECC e.chamber 3 0 (0x88 + e.engine.val) a).flag GAL_STAT 0 GAL_STAT_ECC).gal = s.gal := by
      show (s.logErr _).gal = s.gal
      rw [s.logErr_logFrame]
    exact (State.slotsFrom.of_gal hlog).trans (State.endEvent_slotsFrom _ _ _ _ _)
  · cases h

end

/-! ### Issue (R108, R111) -/

theorem State.slotCorrect_issueSlot (s : State) (v : GEvent) : (s.slotCorrect v).issueSlot = s.issueSlot := by
  rw [State.issueSlot, s.slotCorrect_frame, State.issueSlot]

theorem State.slotCorrect_nsLo (s : State) (v : GEvent) : (s.slotCorrect v).nsLo = s.nsLo := by
  rw [State.nsLo, State.ns, State.slotCorrect_time, State.nsLo, State.ns]

section

variable (s : State) (e : Fin 4) (v : GEvent) (due : Int) (ph l : Nat)

/-- What the engine notes of an event it issues. -/
def State.issueOf : Issue :=
  { tick := if due < (s.firing : Int) then s.issueSlot else (2 * due).toNat, phase := ph, first := s.issueSlot, late := l, ns := s.nsLo }

/-- The event issued and the slot used. -/
def State.issued (s : State) (e : Fin 4) (v : GEvent) (due : Int) (ph l : Nat) : State :=
  (s.modEvent v.slot fun w => { w with issued := some (s.issueOf due ph l) }).modEngine e fun g =>
    { g with slotUsed := some s.issueSlot, lend := if v.chamber = s.slotOwner e then g.lend else v.chamber }

/-- The counts of a late event. -/
def State.lateCounted (s t : State) (e : Fin 4) (l : Nat) : State :=
  if 0 < l then (t.count GAL_ENG_LATECNT e.val GAL_ENG_LATECNT_COUNT).setFld GAL_ENG_LMAX e.val GAL_ENG_LMAX_LMAX
    (max l (s.fld GAL_ENG_LMAX e.val GAL_ENG_LMAX_LMAX)) else t

theorem State.lateCounted_frame (t : State) : s.lateCounted t e l = { t with regs := (s.lateCounted t e l).regs } := by
  unfold State.lateCounted
  split <;> rfl

theorem State.issue_eq : s.issue e v due ph l =
    let s2 := s.lateCounted (s.issued e v due ph l) e l
    if v.doomed then match s2.eventAt v.slot with
      | some w => s2.endEvent w stABORTED 0 false
      | none => s2
    else s2 := rfl

theorem State.issue_slotsFrom : s.slotsFrom (s.issue e v due ph l) := by
  have hissued : s.slotsFrom (s.issued e v due ph l) := s.modEvent_slotsFrom v.slot fun _ => rfl
  have hcounted : s.slotsFrom (s.lateCounted (s.issued e v due ph l) e l) :=
    hissued.trans (.of_gal (by rw [State.lateCounted_frame]))
  rw [State.issue_eq]
  extract_lets s2
  split
  · split
    · exact hcounted.trans (State.endEvent_slotsFrom _ _ _ _ _)
    · exact hcounted
  · exact hcounted

variable {s v}

/-- A pending event that no abort has hit is issued: its slot holds it with its phase, lateness and TIME, and the engine's issue slot
is used. -/
theorem State.issue_result (hv : v ∈ s.gal.events) (hdoomed : v.doomed = false) :
    let t := s.issue e v due ph l
    (∃ w, t.eventAt v.slot = some w ∧ w.issued = some (s.issueOf due ph l)) ∧ (t.engine e).slotUsed = some s.issueSlot ∧
      t.gal.events.map (·.slot) = s.gal.events.map (·.slot) ∧ t.mem = s.mem ∧ t.time = s.time := by
  intro t
  have ht : t = { s.issued e v due ph l with regs := t.regs } := by
    unfold t
    rw [State.issue_eq, hdoomed]
    exact State.lateCounted_frame ..
  have hevents : t.gal.events = s.gal.events.map fun w =>
      if w.slot == v.slot then { w with issued := some (s.issueOf due ph l) } else w := by rw [ht]; rfl
  refine ⟨?_, ?_, ?_, by rw [ht]; rfl, by rw [ht]; rfl⟩
  · cases hfind : t.eventAt v.slot with
    | none =>
      have hno := List.find?_eq_none.1 hfind { v with issued := some (s.issueOf due ph l) }
        (by rw [hevents]; exact List.mem_map.2 ⟨v, hv, by simp⟩)
      exact absurd (beq_self_eq_true v.slot) hno
    | some w =>
      obtain ⟨hw, hslot⟩ := State.eventAt_some hfind
      rw [hevents] at hw
      obtain ⟨x, hx, rfl⟩ := List.mem_map.1 hw
      refine ⟨_, rfl, ?_⟩
      split
      · rfl
      · next hne =>
        rw [if_neg hne] at hslot
        exact absurd (beq_iff_eq.2 hslot) hne
  · rw [ht, State.engine]
    exact congrArg Engine.slotUsed (vget_vset_same ..)
  · rw [hevents, List.map_map]
    refine List.map_congr_left fun w _ => ?_
    simp only [Function.comp]
    split <;> rfl

end

/-! ### The use of an issue slot (R108, R110, R122) -/

section

variable {s : State} {e : Fin 4} {v : GEvent} {d : Int} {ph : Nat}

theorem State.issueSome_slotsFrom (s : State) (e : Fin 4) (fuel : Nat) : s.slotsFrom (s.issueSome e fuel) := by
  induction fuel generalizing s with
  | zero => exact .of_gal rfl
  | succ fuel ih =>
    unfold State.issueSome
    split
    · exact .of_gal rfl
    · split
      · next h => exact (State.slotFault_slotsFrom h).trans (ih _)
      · extract_lets s1
        have h1 : s.slotsFrom s1 := .of_gal (s.slotCorrect_gal _)
        split
        · exact h1
        · extract_lets l
          split
          · refine (h1.trans ?_).trans (ih _)
            exact (State.slotsFrom.of_gal (State.count_gal ..)).trans (State.endEvent_slotsFrom _ _ _ _ _)
          · exact h1.trans (s1.issue_slotsFrom _ _ _ _ _)

/-- The lateness of an event due at firing tick `d` (R94). -/
def State.lateness (s : State) (v : GEvent) (d : Int) : Nat := min 0xFFFF (((s.issueSlot / 2 : Nat) - d).toNat + v.lc)

/-- An event later than its ring's tolerance that must not be late (R110). -/
def State.tooLate (s : State) (v : GEvent) (d : Int) : Prop :=
  v.mustNotLate = true ∧ v.exempt = false ∧ s.fld GAL_RING_TOL v.hring GAL_RING_TOL_TOL < s.lateness v d

/-- The first event, in a sound slot and in time, is issued. -/
theorem State.issueSome_issues (fuel : Nat) (hnext : s.nextIssue e = some v) (hsound : s.slotFault v = none)
    (hdue : s.dueOf v = some (d, ph)) (hlate : ¬ s.tooLate v d) :
    s.issueSome e (fuel + 1) = (s.slotCorrect v).issue e v d ph (s.lateness v d) := by
  rw [State.issueSome, hnext]
  simp only [hsound, hdue]
  refine if_neg fun h => hlate ?_
  simpa [State.tooLate, State.lateness, and_assoc] using h

/-- One that is too late ends, and the slot goes to the next. -/
theorem State.issueSome_cancels (fuel : Nat) (hnext : s.nextIssue e = some v) (hsound : s.slotFault v = none)
    (hdue : s.dueOf v = some (d, ph)) (hlate : s.tooLate v d) :
    s.issueSome e (fuel + 1) =
      (((s.slotCorrect v).count GAL_ENG_CANCNT e.val GAL_ENG_CANCNT_COUNT).endEvent v stLATE 0 false).issueSome e fuel := by
  rw [State.issueSome, hnext]
  simp only [hsound, hdue]
  refine if_pos ?_
  simpa [State.tooLate, State.lateness, and_assoc] using hlate

/-- The engine `e` issues in this tick: the first of an issue slot that it has not used. -/
def State.issueDue (s : State) (e : Fin 4) : Prop :=
  s.fabricOn = true ∧ s.tick % 4 = 0 ∧ (s.engine e).slotUsed ≠ some s.tick ∧ (s.engine e).retryUsed ≠ some s.tick

theorem eventIssue_rest (h : ¬ s.issueDue e) : exec (.eventIssue e) s = .next s := by
  rw [exec_eventIssue, execEventIssue, if_neg]
  · rfl
  · simpa [State.issueDue, and_assoc] using h

theorem eventIssue_due (h : s.issueDue e) :
    exec (.eventIssue e) s = .next (s.latchDue.issueSome e (s.gal.events.length + 1)) := by
  rw [exec_eventIssue, execEventIssue, if_pos]
  · rfl
  · simpa [State.issueDue, and_assoc] using h

end

/-! ### Held actions (R95) -/

section

variable {s : State} {e : Fin 4}

/-- An engine offers no held action: it has used the slot, may still fire in it, or holds none. -/
def State.retryRests (s : State) (e : Fin 4) : Prop :=
  s.fabricOn = false ∨ (s.engine e).slotUsed = some s.issueSlot ∨ (s.engine e).retryUsed = some s.issueSlot ∨
    (∃ v, s.nextIssue e = some v) ∨ s.gal.events.any (fun v => v.held && v.engine == e) = false

/-- A chamber has a held action of the engine. -/
def State.heldIn (s : State) (e : Fin 4) (c : Nat) : Bool := s.gal.events.any fun v => v.held && v.engine == e && v.chamber == c

theorem holdRetry_rests (h : s.retryRests e) : exec (.holdRetry e) s = .next s := by
  rw [exec_holdRetry, execHoldRetry]
  split
  · next hmay =>
    simp only [Bool.and_eq_true, bne_iff_ne] at hmay
    obtain ⟨⟨⟨hon, hslot⟩, hretry⟩, hnext⟩ := hmay
    rcases h with h | h | h | ⟨v, h⟩ | h
    · rw [h] at hon; cases hon
    · exact absurd h hslot
    · exact absurd h hretry
    · rw [h] at hnext; cases hnext
    · have hnone : nextChamber (s.engine e).retry (fun c => s.gal.events.any fun v => v.held && v.engine == e && v.chamber == c) = none := by
        refine nextChamber_eq_none fun k _ => ?_
        rw [List.any_eq_false] at h ⊢
        intro v hv hk
        rw [Bool.and_eq_true] at hk
        exact h v hv hk.1
      rw [hnone]
      rfl
  · rfl

/-- A held action is offered to its target once more. -/
theorem holdRetry_offers {c : Nat} {v : GEvent} {i : Issue} (h : ¬ s.retryRests e)
    (hnext : nextChamber (s.engine e).retry (fun c => s.gal.events.any fun v => v.held && v.engine == e && v.chamber == c) = some c)
    (hfind : s.gal.events.find? (fun v => v.held && v.engine == e && v.chamber == c) = some v) (hissued : v.issued = some i) :
    exec (.holdRetry e) s =
      let s1 := s.modEngine e fun g => { g with retry := c, retryUsed := some s.issueSlot }
      .next (match s1.offerAgain v i with
        | .unable => s1
        | t => s1.applyTaken v (v.action == 6) t) := by
  have hmay : (s.fabricOn && (s.engine e).slotUsed != some s.issueSlot && (s.engine e).retryUsed != some s.issueSlot &&
      (s.nextIssue e).isNone) = true := by
    simp only [State.retryRests, not_or, not_exists] at h
    obtain ⟨hon, hslot, hretry, hnext, -⟩ := h
    have hnone : s.nextIssue e = none := Option.eq_none_iff_forall_ne_some.2 hnext
    simp [hslot, hretry, hnone, hon]
  rw [exec_holdRetry, execHoldRetry, if_pos hmay, hnext]
  simp only [hfind, hissued]
  rfl

/-- A held action that was issued 640 firing ticks ago (R95). -/
def State.heldOut (s : State) (e : Fin 4) (v : GEvent) : Bool := v.held && v.engine == e &&
  (match v.issued with | some i => decide (i.first + 1280 ≤ s.tick) | none => false)

theorem holdTimeout_eq : exec (.holdTimeout e) s = ok (if !s.fabricOn then s else match s.gal.events.find? (s.heldOut e) with
    | none => s
    | some v =>
      let s1 := (s.count GAL_ENG_TMOCNT e.val GAL_ENG_TMOCNT_COUNT).endEvent v stTIMEOUT 0 false
      if v.action = 1 then s1.pmcCount (Fin.ofNat 128 (v.arg 30 24)) 0x0E else s1) := rfl

theorem holdTimeout_rests (h : s.fabricOn = false ∨ s.gal.events.find? (s.heldOut e) = none) :
    exec (.holdTimeout e) s = .next s := by
  rw [holdTimeout_eq]
  rcases h with h | h
  · rw [h]
    rfl
  · rw [h, ite_self]
    rfl

/-- A held action timed out ends its event; a cell counts the overflow beside (R228). -/
theorem holdTimeout_ends {v : GEvent} (hon : s.fabricOn = true) (h : s.gal.events.find? (s.heldOut e) = some v) :
    ∃ t, exec (.holdTimeout e) s = .next t ∧
      t.gal = ((s.count GAL_ENG_TMOCNT e.val GAL_ENG_TMOCNT_COUNT).endEvent v stTIMEOUT 0 false).gal ∧
      t.time = ((s.count GAL_ENG_TMOCNT e.val GAL_ENG_TMOCNT_COUNT).endEvent v stTIMEOUT 0 false).time := by
  rw [holdTimeout_eq, hon, h]
  by_cases hcell : v.action = 1
  · exact ⟨_, congrArg _ (if_pos hcell), rfl, State.pmcCount_time ..⟩
  · exact ⟨_, congrArg _ (if_neg hcell), rfl, rfl⟩

end

/-- Settles O19: the issue slot by the event that goes first, the retry by the chamber whose turn it is, and the timeout. -/
theorem eventIssue : Obligations.EventIssue := by
  unfold Obligations.EventIssue
  intro e s
  refine ⟨eventIssue_rest, fun hdue hnone => ?_, fun v d ph hdue hnext hsound hd => ⟨fun hlate hdoomed => ?_, fun hlate => ?_⟩,
    ⟨holdRetry_rests, fun c v i hmay hnext hfind hissued => ?_⟩, holdTimeout_rests, fun v hon hfind => ?_⟩
  · rw [eventIssue_due hdue, State.issueSome, hnone]
  · obtain ⟨⟨w, hw, hwissued⟩, hused, hslots, hmem, htime⟩ := State.issue_result (s := s.latchDue.slotCorrect v) e d ph
      (s.latchDue.lateness v d) (v := v) (by rw [State.slotCorrect_gal]; exact State.nextIssue_mem hnext) hdoomed
    rw [State.slotCorrect_gal] at hslots
    refine ⟨_, w, _, (eventIssue_due hdue).trans (congrArg _ (State.issueSome_issues _ hnext hsound hd hlate)), hw, hwissued,
      rfl, rfl, ?_, ?_, ?_, hslots.trans s.latchDue_slots, hmem.trans (State.slotCorrect_mem ..), htime.trans (State.slotCorrect_time ..)⟩
    · rw [State.issueOf, State.slotCorrect_issueSlot]
      rfl
    · rw [State.issueOf, State.slotCorrect_nsLo]
      rfl
    · rw [hused, State.slotCorrect_issueSlot]
      rfl
  · refine ⟨_, (eventIssue_due hdue).trans (congrArg _ (State.issueSome_cancels _ hnext hsound hd hlate)), ?_, ?_⟩
    · exact (State.issueSome_slotsFrom _ e _).eventAt (State.endEvent_eventAt ..)
    · simp
  · have hexec := holdRetry_offers hmay hnext hfind hissued
    refine ⟨fun h => ?_, fun s2 st h => ?_, fun s2 h => ?_⟩
    · rw [hexec]; simp only [h]
    · rw [hexec]; simp only [h]; rfl
    · rw [hexec]; simp only [h]; rfl
  · obtain ⟨t, hexec, hgal, htime⟩ := holdTimeout_ends hon hfind
    refine ⟨t, hexec, ?_, ?_, ?_, ?_⟩
    · rw [State.eventAt, hgal]
      exact State.endEvent_eventAt ..
    · rw [hgal, State.endEvent_events]
      rfl
    · rw [State.slotTag, hgal]
      exact State.endEvent_slotTag_same ..
    · rw [htime, State.endEvent_time]
      rfl

end Sys2Proof.Machine


/-! ## The ten actions (R93, R95) -/

namespace Sys2Proof.Machine

/-! ### What a target makes of the action that fires -/

section

variable {s s1 : State} {e : Fin 4} {act st : Nat} {v : GEvent} {i : Issue} {quiet : Bool} {f : State → GEvent → Issue → Taken}

/-- An action that its target cannot take is held, or times out where the hold entry is occupied (R95). -/
def State.unable (s : State) (v : GEvent) : State :=
  if s.gal.events.any (fun w => w.held && w.engine == v.engine && w.chamber == v.chamber)
  then (s.count GAL_ENG_TMOCNT v.engine.val GAL_ENG_TMOCNT_COUNT).endEvent v stTIMEOUT 0 false
  else s.modEvent v.slot fun w => { w with held := true }

theorem State.fire_unable (h : s.firedEvent e act = some (v, i)) (hf : f s v i = .unable) :
    s.fire e act quiet f = s.unable v := by
  rw [State.fire_some h, hf]
  rfl

theorem State.fire_done (h : s.firedEvent e act = some (v, i)) (hf : f s v i = .done s1 st) :
    s.fire e act quiet f = s1.endEvent v st 0 (quiet && st == stOK) := by
  rw [State.fire_some h, hf]
  rfl

theorem State.fire_open (h : s.firedEvent e act = some (v, i)) (hf : f s v i = .open_ s1) : s.fire e act quiet f = s1 := by
  rw [State.fire_some h, hf]
  rfl

end

/-! ### What each target makes of its action -/

section

variable {s s1 : State} {v : GEvent} {i : Issue}

/-- The entry that a CELL_EVENT writes (R93). -/
def GEvent.fifoEntry (v : GEvent) : FifoEntry := { vec := v.arg 19 16, payload := BitVec.ofNat 16 (v.arg 15 0), ring := none }

theorem State.takeCell_none (h : s.pushFifo (Fin.ofNat 128 (v.arg 30 24)) v.fifoEntry = none) : s.takeCell v = .unable := by
  rw [GEvent.fifoEntry] at h
  rw [State.takeCell, h]

theorem State.takeCell_some (h : s.pushFifo (Fin.ofNat 128 (v.arg 30 24)) v.fifoEntry = some s1) :
    s.takeCell v = .done s1 stOK := by
  rw [GEvent.fifoEntry] at h
  rw [State.takeCell, h]

theorem State.takePush_none (h : s.ringPush v.hring (s.entryBody v v.w3) stOK 1 v.action = none) : s.takePush v = .unable := by
  rw [State.takePush, h]

theorem State.takePush_some (h : s.ringPush v.hring (s.entryBody v v.w3) stOK 1 v.action = some s1) :
    s.takePush v = .done s1 stOK := by
  rw [State.takePush, h]

/-- A queue that no LIST bridge reads, or that is full, takes no edge (R275). -/
theorem State.takeEdge_unable (h : s.bMode (Fin.ofNat 16 (v.arg 30 24 / 6)) ≠ 2 ∨
    32 ≤ (vget (s.br (Fin.ofNat 16 (v.arg 30 24 / 6))).outs (Fin.ofNat 6 (v.arg 30 24))).queue.length) :
    s.takeEdge v i = .unable := by
  rw [State.takeEdge, State.pwmEdge, if_pos (by simpa using h)]

/-- An edge joins the queue of its output (R274). -/
def State.edged (s : State) (v : GEvent) (i : Issue) : State :=
  s.modOut (Fin.ofNat 16 (v.arg 30 24 / 6)) (Fin.ofNat 6 (v.arg 30 24)) fun o =>
    { o with queue := o.queue ++ [(8 * i.tick + i.phase, v.arg 23 23 == 1)] }

theorem State.takeEdge_done (hmode : s.bMode (Fin.ofNat 16 (v.arg 30 24 / 6)) = 2)
    (hroom : (vget (s.br (Fin.ofNat 16 (v.arg 30 24 / 6))).outs (Fin.ofNat 6 (v.arg 30 24))).queue.length < 32) :
    s.takeEdge v i = .done (s.edged v i) stOK := by
  rw [State.takeEdge, State.pwmEdge, if_neg (by simp only [hmode, bne_self_eq_false, Bool.false_or, decide_eq_true_eq]; omega)]
  rfl

/-- A bridge's output changed. -/
theorem State.br_modOut (s : State) (k : Fin 16) (j : Fin 6) (f : POut → POut) :
    vget ((s.modOut k j f).br k).outs j = f (vget (s.br k).outs j) := by
  rw [State.modOut, State.br, State.modBr_bridge, vget_vset_same, vget_vset_same, State.br]

/-- The end of an event leaves the bridges and the groups. -/
theorem State.endEvent_br (s : State) (e : GEvent) (st m : Nat) (quiet : Bool) (k : Fin 16) :
    (s.endEvent e st m quiet).br k = s.br k := by
  rw [State.br, s.endEvent_frame e st m quiet, s.freeSlot_frame e, State.br]

theorem State.endEvent_pg (s : State) (e : GEvent) (st m : Nat) (quiet : Bool) (g : Fin 32) :
    (s.endEvent e st m quiet).pg g = s.pg g := by
  rw [State.pg, s.endEvent_frame e st m quiet, s.freeSlot_frame e, State.pg]

end

/-! ### PWM_LOADALL: the requests reach every group named (R96, R282) -/

/-- What no request of a commit takes back: EN of the groups, requests that wait, and CFAIL. -/
structure State.KeepsReqs (s t : State) : Prop where
  en : ∀ g : Fin 32, t.bit PWM_GCTL g.val PWM_GCTL_EN = s.bit PWM_GCTL g.val PWM_GCTL_EN
  req : ∀ (g : Fin 32) (q : Requester), q ∈ (s.pg g).reqs ++ (s.pg g).late → q ∈ (t.pg g).reqs ++ (t.pg g).late
  cfail : ∀ g : Fin 32, s.bit PWM_GSTAT g.val PWM_GSTAT_CFAIL = true → t.bit PWM_GSTAT g.val PWM_GSTAT_CFAIL = true

section

variable {s t u : State}

theorem State.KeepsReqs.trans (h : s.KeepsReqs t) (k : t.KeepsReqs u) : s.KeepsReqs u where
  en g := (k.en g).trans (h.en g)
  req g q hq := k.req g q (h.req g q hq)
  cfail g hg := k.cfail g (h.cfail g hg)

theorem State.KeepsReqs.refl (s : State) : s.KeepsReqs s := ⟨fun _ => rfl, fun _ _ h => h, fun _ h => h⟩

/-- The groups as they were, and their registers too. -/
theorem State.KeepsReqs.of_same (hpg : t.grp = s.grp) (hctl : ∀ g : Fin 32, t.reg PWM_GCTL g.val = s.reg PWM_GCTL g.val)
    (hstat : ∀ g : Fin 32, t.reg PWM_GSTAT g.val = s.reg PWM_GSTAT g.val) : s.KeepsReqs t where
  en g := by rw [State.bit, State.fld, hctl, State.bit, State.fld]
  req g q hq := by rw [State.pg, hpg]; exact hq
  cfail g hg := by rw [State.bit, State.fld, hstat]; exact hg

theorem PWM_low : ∀ g : Fin 32, PWM_GCTL.addr g.val < 0x30000000 ∧ PWM_GSTAT.addr g.val < 0x30000000 := by decide
theorem PWM_GCTL_ne_GSTAT : ∀ g h : Fin 32, PWM_GCTL.addr g.val ≠ PWM_GSTAT.addr h.val := by decide
theorem PWM_GSTAT_injective : ∀ g h : Fin 32, PWM_GSTAT.addr g.val = PWM_GSTAT.addr h.val → g = h := by decide

theorem State.endEvent_keepsReqs (s : State) (e : GEvent) (st m : Nat) (quiet : Bool) : s.KeepsReqs (s.endEvent e st m quiet) := by
  have hlow : ∀ (f : RegFam) (i : Nat), f.addr i < 0x30000000 → (s.endEvent e st m quiet).reg f i = s.reg f i :=
    fun f i hi => s.endEvent_regsBut e st m quiet f i fun hend => absurd (GEvent.endAddr_high hend) (Nat.not_le.2 hi)
  exact .of_same (by rw [s.endEvent_frame e st m quiet, s.freeSlot_frame e]) (fun g => hlow _ _ (PWM_low g).1)
    fun g => hlow _ _ (PWM_low g).2

/-- A field of PWM_GSTAT beside CFAIL. -/
theorem State.setGstat_keepsReqs (s : State) (g : Fin 32) (F : Fld) (v : Nat) (hF : F.lo ≤ F.hi ∧ F.hi < 32)
    (h : PWM_GSTAT_CFAIL.hi < F.lo ∨ F.hi < PWM_GSTAT_CFAIL.lo) : s.KeepsReqs (s.setFld PWM_GSTAT g.val F v) where
  en k := by
    rw [State.bit, State.fld, reg_setFld_other _ _ _ _ _ _ _ (PWM_GCTL_ne_GSTAT k g), State.bit, State.fld]
  req _ _ hq := hq
  cfail k hk := by
    by_cases hkg : k = g
    · rw [hkg] at hk ⊢
      rwa [bit_setFld_apart _ _ _ _ _ _ (by decide) hF h]
    · rw [State.bit, State.fld, reg_setFld_other _ _ _ _ _ _ _ fun e => hkg (PWM_GSTAT_injective k g e)]
      exact hk

theorem State.flagCfail_keepsReqs (s : State) (g : Fin 32) : s.KeepsReqs (s.flag PWM_GSTAT g.val PWM_GSTAT_CFAIL) where
  en k := by
    rw [State.bit, State.fld, reg_flag_other _ _ _ _ _ _ (PWM_GCTL_ne_GSTAT k g), State.bit, State.fld]
  req _ _ hq := hq
  cfail k hk := by
    by_cases hkg : k = g
    · rw [hkg]
      exact bit_flag_same _ _ _ _ (by decide)
    · rw [State.bit, State.fld, reg_flag_other _ _ _ _ _ _ fun e => hkg (PWM_GSTAT_injective k g e)]
      exact hk

theorem State.modEvent_keepsReqs (s : State) (n : Nat) (f : GEvent → GEvent) : s.KeepsReqs (s.modEvent n f) :=
  .of_same rfl (fun _ => rfl) fun _ => rfl

/-- A group decided for the event of a slot. -/
theorem State.decideFor_slot_keepsReqs (s : State) (g : Fin 32) (status n : Nat) : s.KeepsReqs (s.decideFor g status (.slot n)) := by
  unfold State.decideFor
  dsimp only
  split
  · exact .refl s
  · split
    · exact .refl s
    · split
      · exact s.endEvent_keepsReqs ..
      · exact s.modEvent_keepsReqs ..

/-- A request that joins a group. -/
theorem State.modPg_joins (s : State) (g : Fin 32) (f : PGroup → PGroup) (q : Requester)
    (hf : ∀ p r, r ∈ (f p).reqs ++ (f p).late ↔ r ∈ p.reqs ++ p.late ∨ r = q) :
    s.KeepsReqs (s.modPg g f) ∧ q ∈ ((s.modPg g f).pg g).reqs ++ ((s.modPg g f).pg g).late := by
  have hsame : (s.modPg g f).pg g = f (s.pg g) := vget_vset_same ..
  refine ⟨⟨fun _ => rfl, fun k r hr => ?_, fun _ h => h⟩, ?_⟩
  · by_cases hk : k = g
    · rw [hk] at hr ⊢
      rw [hsame, hf]
      exact .inl hr
    · have hother : (s.modPg g f).pg k = s.pg k := vget_vset_other _ _ hk
      rwa [hother]
  · rw [hsame, hf]
    exact .inr rfl

/-- A request of a slot's event keeps the earlier ones; in an enabled group it waits, a disabled one fails it (R282 to R284). -/
theorem State.requestCommit_slot (s : State) (g : Fin 32) (n : Nat) :
    let t := s.requestCommit g (.slot n)
    s.KeepsReqs t ∧ (s.bit PWM_GCTL g.val PWM_GCTL_EN = true → Requester.slot n ∈ (t.pg g).reqs ++ (t.pg g).late) ∧
      (s.bit PWM_GCTL g.val PWM_GCTL_EN = false → t.bit PWM_GSTAT g.val PWM_GSTAT_CFAIL = true) := by
  intro t
  unfold t State.requestCommit
  split
  · next hoff =>
    have hdec := State.decideFor_slot_keepsReqs (s.flag PWM_GSTAT g.val PWM_GSTAT_CFAIL) g stTIMEOUT n
    refine ⟨(s.flagCfail_keepsReqs g).trans hdec, fun hon => by simp [hon] at hoff, fun _ => hdec.cfail g ?_⟩
    exact bit_flag_same _ _ _ _ (by decide)
  · next hon =>
    extract_lets p inTime
    obtain ⟨hkeep, hjoin⟩ := s.modPg_joins g (fun p =>
      if inTime then { p with reqs := p.reqs ++ [.slot n] } else { p with late := p.late ++ [.slot n] }) (.slot n) fun p r => by
        split
        · simp only [List.mem_append, List.mem_singleton]; tauto
        · simp only [List.mem_append, List.mem_singleton]; tauto
    refine ⟨hkeep.trans (State.setGstat_keepsReqs _ g _ _ (by decide) (by decide)), fun _ => hjoin, fun hoff => ?_⟩
    simp [hoff] at hon

/-- Requests to several groups, one after the other. -/
theorem State.requestCommits (s : State) (n : Nat) (G : Nat → Fin 32) (l : List Nat) :
    let t := l.foldl (fun s g => s.requestCommit (G g) (.slot n)) s
    s.KeepsReqs t ∧ ∀ g ∈ l, (s.bit PWM_GCTL (G g).val PWM_GCTL_EN = true → Requester.slot n ∈ (t.pg (G g)).reqs ++ (t.pg (G g)).late) ∧
      (s.bit PWM_GCTL (G g).val PWM_GCTL_EN = false → t.bit PWM_GSTAT (G g).val PWM_GSTAT_CFAIL = true) := by
  induction l generalizing s with
  | nil => exact ⟨.refl s, fun g hg => nomatch hg⟩
  | cons a l ih =>
    obtain ⟨hkeep, hreq, hfail⟩ := s.requestCommit_slot (G a) n
    obtain ⟨hrest, hall⟩ := ih (s.requestCommit (G a) (.slot n))
    refine ⟨hkeep.trans hrest, fun g hg => ?_⟩
    rcases List.mem_cons.1 hg with rfl | hg
    · exact ⟨fun hon => hrest.req _ _ (hreq hon), fun hoff => hrest.cfail _ (hfail hoff)⟩
    · obtain ⟨hon, hoff⟩ := hall g hg
      rw [hkeep.en] at hon hoff
      exact ⟨hon, hoff⟩

/-- The groups that a PWM_LOADALL names have its requests. -/
theorem pwmLoadall_requests {e : Fin 4} {v : GEvent} {i : Issue} (h : s.firedEvent e 3 = some (v, i)) (hmask : v.arg 7 0 ≠ 0) :
    ∃ t, exec (.pwmLoadall e) s = .next t ∧ ∀ g, g < 8 → bitN (v.arg 7 0) g = true →
      let G := Fin.ofNat 32 (8 * v.arg 9 8 + g)
      (s.bit PWM_GCTL G.val PWM_GCTL_EN = true → Requester.slot v.slot ∈ (t.pg G).reqs ++ (t.pg G).late) ∧
      (s.bit PWM_GCTL G.val PWM_GCTL_EN = false → t.bit PWM_GSTAT G.val PWM_GSTAT_CFAIL = true) := by
  rw [exec_pwmLoadall, execPwmLoadall]
  refine ⟨_, congrArg ok (State.fire_open h (if_neg hmask)), fun g hg hbit => ?_⟩
  exact (State.requestCommits (s.modEvent v.slot fun w => { w with span := some _ }) v.slot
    (fun g => Fin.ofNat 32 (8 * v.arg 9 8 + g)) _).2 g (List.mem_filter.2 ⟨List.mem_range.2 hg, hbit⟩)

end

/-- Settles O20: each command by what its target makes of the action that fires. -/
theorem galleryActions : Obligations.GalleryActions := by
  unfold Obligations.GalleryActions
  intro e s
  refine ⟨fun h => congrArg ok (State.fire_none h ..), fun h => congrArg ok (State.fire_none h ..),
    fun h => congrArg ok (State.fire_none h ..), fun h => congrArg ok (State.fire_none h ..),
    fun h => congrArg ok (State.fire_none h ..), fun h => congrArg ok (State.fire_none h ..),
    fun h => congrArg ok (State.fire_none h ..), fun h => congrArg ok (State.fire_none h ..),
    fun h => congrArg ok (State.fire_none h ..), fun h => congrArg ok (State.fire_none h ..), fun v i => ?_⟩
  intro unable
  refine ⟨nopAction_fired, fun h => ⟨fun hno => ?_, fun s1 hyes => ?_⟩, fun h => ⟨fun hno => ?_, fun hmode hroom => ?_⟩,
    fun h => ⟨fun hnone => ?_, pwmLoadall_requests h⟩, fun h => ?_, fun h => ?_, fun h => ⟨fun hno => ?_, fun s1 hyes => ?_⟩,
    fun h => ⟨fun hno => ?_, fun s1 st hyes => ?_, fun s1 hyes => ?_⟩, fun h => ⟨fun hno => ?_, fun s1 st hyes => ?_⟩, fun h => ?_⟩
  · exact congrArg ok (State.fire_unable h (State.takeCell_none hno))
  · exact congrArg ok (State.fire_done h (State.takeCell_some hyes))
  · exact congrArg ok (State.fire_unable h (State.takeEdge_unable hno))
  · refine ⟨_, congrArg ok (State.fire_done h (State.takeEdge_done hmode hroom)), State.endEvent_eventAt .., ?_⟩
    rw [State.endEvent_br, State.edged, State.br_modOut]
  · exact congrArg ok (State.fire_done h (if_pos hnone))
  · exact congrArg ok (State.fire_done h rfl)
  · exact congrArg ok (State.fire_done h rfl)
  · exact congrArg ok (State.fire_unable h (State.takePush_none hno))
  · exact congrArg ok (State.fire_done h (State.takePush_some hyes))
  · exact congrArg ok (State.fire_unable h hno)
  · exact congrArg ok (State.fire_done h hyes)
  · exact congrArg ok (State.fire_open h hyes)
  · exact congrArg ok (State.fire_unable h hno)
  · exact congrArg ok (State.fire_done h hyes)
  · exact congrArg ok (State.fire_done h rfl)

end Sys2Proof.Machine


/-! ## Ethernet: received frames (R498, R499, R501) -/

namespace Sys2Proof.Machine

section

variable {s : State} {k : Fin 4} {l : List Byte} {ago : Nat}

/-- The length of a frame is one of Ethernet's. -/
abbrev ethLenOk (l : List Byte) : Prop := ¬ (l.length < 64 ∨ 1522 < l.length)

/-- The FCS of a frame is that of its body. -/
abbrev ethFcsOk (l : List Byte) : Prop := frWord l (l.length - 4) = (crc32 (l.take (l.length - 4))).toNat

/-- A pause frame, on a MAC that heeds them (R500). -/
abbrev State.ethPauses (s : State) (k : Fin 4) (l : List Byte) : Prop :=
  s.bit ETH_CFG k.val ETH_CFG_RXPAUSE = true ∧ beNum (l.take 6) = 0x0180C2000001 ∧ beNum ((l.drop 12).take 4) = 0x88080001

theorem ethReceive_down (h : s.macUp k = false) : exec (.ethFrameReceived k l ago) s = .next s := by
  rw [exec_ethFrameReceived, execEthFrameReceived, h]
  rfl

/-- A MAC that is up judges the length, the FCS, the pause and the filter in turn. -/
theorem ethReceive_up (h : s.macUp k = true) : exec (.ethFrameReceived k l ago) s = ok (
    if l.length < 64 ∨ 1522 < l.length then s.count ETH_CNT k.val ETH_CNT_LEN
    else if frWord l (l.length - 4) ≠ (crc32 (l.take (l.length - 4))).toNat then s.count ETH_CNT k.val ETH_CNT_FCS
    else if s.bit ETH_CFG k.val ETH_CFG_RXPAUSE = true ∧ beNum (l.take 6) = 0x0180C2000001 ∧ beNum ((l.drop 12).take 4) = 0x88080001 then
      s.modMac k fun m => { m with
        pause := some (s.tick, beNum ((l.drop 16).take 2) * (512 * 10 ^ (2 - min 2 (s.fld ETH_STAT k.val ETH_STAT_SPEED)))) }
    else if s.macAccepts k l = false then s
    else s.ethStore k (l.take (l.length - 4)) (s.stamp - ago - s.fld ETH_TSLAT k.val ETH_TSLAT_RXLAT)) := by
  rw [exec_ethFrameReceived, execEthFrameReceived, h]
  simp [and_assoc]

theorem ethReceive_len (h : s.macUp k = true) (hlen : ¬ ethLenOk l) :
    exec (.ethFrameReceived k l ago) s = .next (s.count ETH_CNT k.val ETH_CNT_LEN) := by
  rw [ethReceive_up h, if_pos (not_not.1 hlen)]
  rfl

theorem ethReceive_fcs (h : s.macUp k = true) (hlen : ethLenOk l) (hfcs : ¬ ethFcsOk l) :
    exec (.ethFrameReceived k l ago) s = .next (s.count ETH_CNT k.val ETH_CNT_FCS) := by
  rw [ethReceive_up h, if_neg hlen, if_pos hfcs]
  rfl

theorem ethReceive_pause (h : s.macUp k = true) (hlen : ethLenOk l) (hfcs : ethFcsOk l) (hpause : s.ethPauses k l) :
    exec (.ethFrameReceived k l ago) s = .next (s.modMac k fun m => { m with
      pause := some (s.tick, beNum ((l.drop 16).take 2) * (512 * 10 ^ (2 - min 2 (s.fld ETH_STAT k.val ETH_STAT_SPEED)))) }) := by
  rw [ethReceive_up h, if_neg hlen, if_neg (not_not.2 hfcs), if_pos hpause]
  rfl

theorem ethReceive_filtered (h : s.macUp k = true) (hlen : ethLenOk l) (hfcs : ethFcsOk l) (hpause : ¬ s.ethPauses k l)
    (hacc : s.macAccepts k l = false) : exec (.ethFrameReceived k l ago) s = .next s := by
  rw [ethReceive_up h, if_neg hlen, if_neg (not_not.2 hfcs), if_neg hpause, if_pos hacc]
  rfl

theorem ethReceive_stores (h : s.macUp k = true) (hlen : ethLenOk l) (hfcs : ethFcsOk l) (hpause : ¬ s.ethPauses k l)
    (hacc : s.macAccepts k l = true) : exec (.ethFrameReceived k l ago) s =
      .next (s.ethStore k (l.take (l.length - 4)) (s.stamp - ago - s.fld ETH_TSLAT k.val ETH_TSLAT_RXLAT)) := by
  rw [ethReceive_up h, if_neg hlen, if_neg (not_not.2 hfcs), if_neg hpause, if_neg (by simp [hacc])]
  rfl

/-! ### Storing a frame -/

variable {t : Nat}

/-- The ring of a frame's queue. -/
def State.rxRing (s : State) (k : Fin 4) (l : List Byte) : Nat := s.fld ETH_RXQ (8 * k.val + s.rxQueue k l) ETH_RXQ_RING

/-- The queue of a frame has an enabled ring. -/
def State.rxOn (s : State) (k : Fin 4) (l : List Byte) : Prop :=
  s.bit ETH_RXQ (8 * k.val + s.rxQueue k l) ETH_RXQ_EN = true ∧ s.ringRx (s.rxRing k l) = true

/-- The words that head a frame's first entry (R499). -/
def State.rxHead (s : State) (k : Fin 4) (l : List Byte) (t : Nat) : List Word :=
  BitVec.ofNat 32 (l.length + s.rxQueue k l * 2 ^ 16 + b2n (ethTagged l) * 2 ^ 19) :: stampWords t

theorem State.ethStore_eq : s.ethStore k l t =
    if s.bit ETH_RXQ (8 * k.val + s.rxQueue k l) ETH_RXQ_EN && s.ringRx (s.rxRing k l) &&
      (s.bit GAL_RING_CFG (s.rxRing k l) GAL_RING_CFG_AUTO ||
        decide ((framePieces (s.ringEntry (s.rxRing k l)) l).length + s.ringCount (s.rxRing k l) ≤ s.ringDepth (s.rxRing k l)))
    then s.putPieces (s.rxRing k l) (s.rxHead k l t) (framePieces (s.ringEntry (s.rxRing k l)) l)
    else s.count ETH_CNT k.val ETH_CNT_RXDROP := rfl

/-- Without an enabled ring the frame is dropped. -/
theorem State.ethStore_off (h : ¬ s.rxOn k l) : s.ethStore k l t = s.count ETH_CNT k.val ETH_CNT_RXDROP := by
  rw [State.ethStore_eq, if_neg]
  simp only [Bool.and_eq_true]
  exact fun hon => h hon.1

/-- Without room for its entries too. -/
theorem State.ethStore_full (hauto : s.bit GAL_RING_CFG (s.rxRing k l) GAL_RING_CFG_AUTO = false)
    (hroom : s.ringDepth (s.rxRing k l) < (framePieces (s.ringEntry (s.rxRing k l)) l).length + s.ringCount (s.rxRing k l)) :
    s.ethStore k l t = s.count ETH_CNT k.val ETH_CNT_RXDROP := by
  rw [State.ethStore_eq, if_neg]
  simp [hauto, hroom]

/-- A frame that fits one entry is written there, its length first. -/
theorem State.ethStore_one (hon : s.rxOn k l) (hfit : l.length ≤ s.ringEntry (s.rxRing k l) - 16)
    (hfull : s.ringFull (s.rxRing k l) = false) :
    s.ringPush (s.rxRing k l) (s.rxHead k l t ++ packWords l) stOK 0 l.length = some (s.ethStore k l t) := by
  have hcount : 1 + s.ringCount (s.rxRing k l) ≤ s.ringDepth (s.rxRing k l) := by
    simp only [State.ringFull, decide_eq_false_iff_not] at hfull
    omega
  rw [State.ethStore_eq, framePieces, if_pos hfit, if_pos (by simp [hon.1, hon.2, hcount]), State.ringPush_notFull hfull]
  simp [State.putPieces, State.ringPush_notFull hfull]

end

end Sys2Proof.Machine


/-! ## Ethernet: transmit slots (R499, R500) -/

namespace Sys2Proof.Machine

/-! ### What a queue has to send -/

section

variable {s : State} {k : Fin 4} {q : Nat}

/-- A chain that a queue passes spans at least one entry. -/
def Chain.spans : Chain → Prop
  | .bad _ c | .frame _ _ c => 0 < c
  | _ => True

theorem State.readChain_spans (s : State) (n fuel idx lap cnt : Nat) (head : Option (Bool × Nat)) (acc : List Byte) (wrong : Bool) :
    (s.readChain n fuel idx lap cnt head acc wrong).spans := by
  induction fuel generalizing idx lap cnt head acc wrong with
  | zero => trivial
  | succ fuel ih =>
    unfold State.readChain
    split
    · trivial
    · split
      · exact Nat.succ_pos cnt
      · extract_lets ws tr
        split
        · trivial
        · split
          · exact ih ..
          · split
            · exact Nat.succ_pos cnt
            · exact Nat.succ_pos cnt

theorem State.ethHead_spans (s : State) (k : Fin 4) (q : Nat) : (s.ethHead k q).spans := by
  unfold State.ethHead
  extract_lets i n t
  split
  · exact s.readChain_spans ..
  · trivial

/-- The chain in a ring does not turn on the MAC. -/
theorem State.readChain_modMac (s : State) (j : Fin 4) (f : EMac → EMac) (n fuel idx lap cnt : Nat) (head : Option (Bool × Nat))
    (acc : List Byte) (wrong : Bool) :
    (s.modMac j f).readChain n fuel idx lap cnt head acc wrong = s.readChain n fuel idx lap cnt head acc wrong := by
  induction fuel generalizing idx lap cnt head acc wrong with
  | zero => rfl
  | succ fuel ih =>
    unfold State.readChain
    simp only [ih]
    rfl

theorem State.ethHead_modMac (s : State) (j : Fin 4) (f : EMac → EMac) (k : Fin 4) (q : Nat) : (s.modMac j f).ethHead k q = s.ethHead k q := by
  unfold State.ethHead
  simp only [State.readChain_modMac]
  rfl

theorem State.ethHas_modMac (s : State) (j : Fin 4) (f : EMac → EMac) (k : Fin 4) (q : Nat) : (s.modMac j f).ethHas k q = s.ethHas k q := by
  unfold State.ethHas
  rw [State.ethHead_modMac]
  rfl

end

/-! ### Passing a chain -/

section

variable (s : State) (n : Nat)

/-- Passing entries changes the readers of transmit rings alone. -/
theorem State.txPasses_frame (cnt : Nat) : forN cnt s (fun _ s => s.txPass n) = { s with txr := (forN cnt s fun _ s => s.txPass n).txr } := by
  induction cnt with
  | zero => rfl
  | succ cnt ih =>
    simp only [forN, List.range_succ, List.foldl_append, List.foldl_cons, List.foldl_nil] at ih ⊢
    rw [ih]
    rfl

theorem State.txPass_next : ((s.txPass n).txRing n).next = ((s.txRing n).next + 1) % 2 ^ 16 := by
  rw [State.txPass, State.modTxRing, State.txRing, smGet_smSet_same]

/-- Each entry passed moves the reader by one. -/
theorem State.txPasses_next {cnt : Nat} (h : 0 < cnt) :
    ((forN cnt s fun _ s => s.txPass n).txRing n).next = ((s.txRing n).next + cnt) % 2 ^ 16 := by
  induction cnt with
  | zero => omega
  | succ cnt ih =>
    simp only [forN, List.range_succ, List.foldl_append, List.foldl_cons, List.foldl_nil] at ih ⊢
    rw [State.txPass_next]
    rcases Nat.eq_zero_or_pos cnt with rfl | hpos
    · rfl
    · rw [ih hpos, Nat.mod_add_mod, Nat.add_assoc]

/-- The reader and CONS pass a chain; nothing else changes but that register. -/
theorem State.ethPass_frame (cnt : Nat) : s.ethPass n cnt = { s with regs := (s.ethPass n cnt).regs, txr := (s.ethPass n cnt).txr } := by
  rw [State.ethPass, State.txPasses_frame]
  rfl

theorem State.ethPass_regsBut (cnt : Nat) : s.regsBut (s.ethPass n cnt) (· ∈ [GAL_RING_IDX.addr n]) := by
  have hregs : (forN cnt s fun _ s => s.txPass n).regs = s.regs := by rw [State.txPasses_frame]
  exact (State.regsBut.of_regs hregs _).setFld _ _ (by simp)

theorem State.ethPass_next {cnt : Nat} (h : 0 < cnt) : ((s.ethPass n cnt).txRing n).next = ((s.txRing n).next + cnt) % 2 ^ 16 :=
  s.txPasses_next n h

theorem State.ethPass_cons {cnt : Nat} (h : 0 < cnt) :
    (s.ethPass n cnt).fld GAL_RING_IDX n GAL_RING_IDX_CONS = ((s.ethPass n cnt).txRing n).next := by
  rw [s.ethPass_next n h, State.ethPass, fld_setFld_same _ _ _ _ _ (by decide)]
  dsimp only
  rw [s.txPasses_next n h]
  exact Nat.mod_mod _ _

end

/-! ### The outcome of a chain -/

section

variable (s : State) (k : Fin 4) (q idx status t : Nat)

/-- An outcome is a ring entry, or lost. -/
theorem State.ethOutcome_frame : s.RingFrame (s.ethOutcome k q idx status t) := by
  unfold State.ethOutcome
  extract_lets c
  split
  · cases h : s.ringPush c (BitVec.ofNat 32 idx :: stampWords t) status 3 12 with
    | none => rfl
    | some u => exact State.ringPush_frame h
  · rfl

/-- No CONS and no register outside the rings changes. -/
theorem State.ethOutcome_fld (f : RegFam) (i : Nat) (F : Fld)
    (h : (f = GAL_RING_IDX ∧ F = GAL_RING_IDX_CONS) ∨ 0x31040004 ≤ f.addr i) :
    (s.ethOutcome k q idx status t).fld f i F = s.fld f i F := by
  unfold State.ethOutcome
  extract_lets c
  have hc : c < 16384 := Nat.mod_lt _ (by decide)
  split
  · cases hpush : s.ringPush c (BitVec.ofNat 32 idx :: stampWords t) status 3 12 with
    | none => rfl
    | some u =>
      have hregs := State.ringPush_regsBut hpush
      rcases h with ⟨rfl, rfl⟩ | hhigh
      · by_cases hic : i = c
        · rw [hic, Option.getD_some, State.ringPush_eq hpush, State.notifyRing_fld, State.ringPut_cons]
        · refine hregs.fld ?_
          simp only [List.mem_cons, List.not_mem_nil, or_false, GAL_RING_IDX_addr, GAL_RING_CFG_addr]
          omega
      · refine hregs.fld ?_
        simp only [List.mem_cons, List.not_mem_nil, or_false, GAL_RING_IDX_addr, GAL_RING_CFG_addr]
        omega
  · rfl

end

/-! ### One opportunity of a queue -/

section

variable {s : State} {k : Fin 4} {q lead : Nat}

/-- The ring of a transmit queue. -/
def State.txqRing (s : State) (k : Fin 4) (q : Nat) : Nat := s.fld ETH_TXQ (8 * k.val + q) ETH_TXQ_RING

theorem State.txqRing_lt (s : State) (k : Fin 4) (q : Nat) : s.txqRing k q < 16384 := Nat.mod_lt _ (by decide)

/-- An outcome leaves the MACs and the readers of the transmit rings. -/
theorem State.ethOutcome_same (s : State) (k : Fin 4) (q idx status t : Nat) :
    (s.ethOutcome k q idx status t).eth = s.eth ∧ (s.ethOutcome k q idx status t).txr = s.txr := by
  rw [s.ethOutcome_frame k q idx status t]
  exact ⟨rfl, rfl⟩

/-- An entry of another lap is told of, once (R500). -/
theorem State.ethSend_stale (s : State) (k : Fin 4) (q lead : Nat) (h : s.ethHead k q = .stale) :
    (s.ethSend k q lead).eth = s.eth ∧
    ((s.ethSend k q lead).txRing (s.txqRing k q)).told = some (s.txRing (s.txqRing k q)).next := by
  have hsend : s.ethSend k q lead = if (s.txRing (s.txqRing k q)).told == some (s.txRing (s.txqRing k q)).next then s
      else (s.modTxRing (s.txqRing k q) fun t => { t with told := some (s.txRing (s.txqRing k q)).next }).ethOutcome k q
        (s.txRing (s.txqRing k q)).next stSTALE_GEN s.stamp := by
    simp only [State.ethSend, h]
    rfl
  rw [hsend]
  split
  · next htold => exact ⟨rfl, by simpa using htold⟩
  · obtain ⟨heth, htxr⟩ := State.ethOutcome_same (s.modTxRing (s.txqRing k q) fun t =>
      { t with told := some (s.txRing (s.txqRing k q)).next }) k q (s.txRing (s.txqRing k q)).next stSTALE_GEN s.stamp
    refine ⟨heth, ?_⟩
    rw [State.txRing, htxr, State.modTxRing, smGet_smSet_same]

/-- A frame goes onto the line, and its chain is passed; with TS its outcome follows (R499, R500). -/
theorem State.ethSend_frame (s : State) (k : Fin 4) (q lead : Nat) {ts : Bool} {data : List Byte} {cnt : Nat}
    (h : s.ethHead k q = .frame ts data cnt) :
    let t := s.ethSend k q lead
    let u := s.ethPass (s.txqRing k q) cnt
    t.eth = vset s.eth k { s.mac k with line := ethLine data } ∧ t.txr = u.txr ∧
      t.fld GAL_RING_IDX (s.txqRing k q) GAL_RING_IDX_CONS = u.fld GAL_RING_IDX (s.txqRing k q) GAL_RING_IDX_CONS ∧
      (ts = false → t.mem = s.mem) := by
  intro t u
  have hu : u.eth = s.eth ∧ u.mem = s.mem := by
    unfold u
    rw [State.ethPass_frame]
    exact ⟨rfl, rfl⟩
  have hline : (u.modMac k fun m => { m with line := ethLine data }).eth = vset s.eth k { s.mac k with line := ethLine data } := by
    rw [State.modMac, State.mac, hu.1, State.mac]
  have ht : t = if ts then (u.modMac k fun m => { m with line := ethLine data }).ethOutcome k q (s.txRing (s.txqRing k q)).next stOK
      (s.stamp + lead + s.fld ETH_TSLAT k.val ETH_TSLAT_TXLAT) else u.modMac k fun m => { m with line := ethLine data } := by
    simp only [t, State.ethSend, h]
    rfl
  rw [ht]
  split
  · next hts =>
    obtain ⟨heth, htxr⟩ := State.ethOutcome_same (u.modMac k fun m => { m with line := ethLine data }) k q (s.txRing (s.txqRing k q)).next
      stOK (s.stamp + lead + s.fld ETH_TSLAT k.val ETH_TSLAT_TXLAT)
    refine ⟨heth.trans hline, htxr, ?_, fun hno => ?_⟩
    · exact State.ethOutcome_fld _ _ _ _ _ _ _ _ _ (.inl ⟨rfl, rfl⟩)
    · rw [hno] at hts
      cases hts
  · exact ⟨hline, rfl, rfl, fun _ => hu.2⟩

/-- What an opportunity leaves: the MAC but for its line, TIME, and of each kind of chain what R499 and R500 ask. -/
theorem State.ethSend_result (s : State) (k : Fin 4) (q lead : Nat) :
    let n := s.txqRing k q
    let t := s.ethSend k q lead
    let passed (cnt : Nat) : Prop := t.fld GAL_RING_IDX n GAL_RING_IDX_CONS = (t.txRing n).next ∧
      (0 < cnt → (t.txRing n).next = ((s.txRing n).next + cnt) % 2 ^ 16)
    (t.mac k).slot = (s.mac k).slot ∧ (t.mac k).lend = (s.mac k).lend ∧
    (s.ethHead k q = .stale → (t.txRing n).told = some (s.txRing n).next) ∧
    (∀ st cnt, s.ethHead k q = .bad st cnt → passed cnt ∧
      t.fld ETH_CNT k.val ETH_CNT_TXERR = (s.count ETH_CNT k.val ETH_CNT_TXERR).fld ETH_CNT k.val ETH_CNT_TXERR) ∧
    (∀ ts data cnt, s.ethHead k q = .frame ts data cnt → passed cnt ∧ (t.mac k).line = ethLine data ∧ (ts = false → t.mem = s.mem)) := by
  have hring : s.txqRing k q < 16384 := s.txqRing_lt k q
  have hcnt : 0x31040004 ≤ ETH_CNT.addr k.val := by
    rw [RegFam.addr]
    exact Nat.le_trans (by decide : 0x31040004 ≤ ETH_CNT.base) (Nat.le_add_right ..)
  have hidx : ETH_CNT.addr k.val ≠ GAL_RING_IDX.addr (s.txqRing k q) := by
    rw [GAL_RING_IDX_addr]
    omega
  have hspans := s.ethHead_spans k q
  intro n t passed
  cases hhead : s.ethHead k q with
  | none =>
    have ht : t = s := by simp only [t, State.ethSend, hhead]
    rw [ht]
    exact ⟨rfl, rfl, (nomatch ·), fun _ _ h => (nomatch h), fun _ _ _ h => (nomatch h)⟩
  | stale =>
    obtain ⟨heth, htold⟩ := s.ethSend_stale k q lead hhead
    exact ⟨by rw [State.mac, heth, State.mac], by rw [State.mac, heth, State.mac], fun _ => htold, fun _ _ h => (nomatch h),
      fun _ _ _ h => (nomatch h)⟩
  | bad st cnt =>
    rw [hhead] at hspans
    have ht : t = ((s.ethPass n cnt).count ETH_CNT k.val ETH_CNT_TXERR).ethOutcome k q (s.txRing n).next st s.stamp := by
      simp only [t, State.ethSend, hhead]
      rfl
    obtain ⟨heth, htxr⟩ := State.ethOutcome_same ((s.ethPass n cnt).count ETH_CNT k.val ETH_CNT_TXERR) k q (s.txRing n).next st s.stamp
    have hmac : t.eth = s.eth := by
      rw [ht, heth, State.count_eth, State.ethPass_frame]
    have hread : t.txRing n = (s.ethPass n cnt).txRing n := by
      rw [State.txRing, ht, htxr]
      rfl
    refine ⟨by rw [State.mac, hmac, State.mac], by rw [State.mac, hmac, State.mac], (nomatch ·), fun st' cnt' h => ?_,
      fun _ _ _ h => (nomatch h)⟩
    cases h
    refine ⟨⟨?_, fun _ => ?_⟩, ?_⟩
    · rw [hread, ← s.ethPass_cons n hspans, ht, State.ethOutcome_fld _ _ _ _ _ _ _ _ _ (.inl ⟨rfl, rfl⟩), State.fld,
        reg_count_other _ _ _ _ _ _ hidx.symm, State.fld]
    · rw [hread, s.ethPass_next n hspans]
    · have hpass : (s.ethPass n cnt).reg ETH_CNT k.val = s.reg ETH_CNT k.val :=
        s.ethPass_regsBut n cnt _ _ (by simpa using hidx)
      rw [ht, State.ethOutcome_fld _ _ _ _ _ _ _ _ _ (.inr hcnt)]
      simp only [State.fld, State.count, State.setFld, reg_setReg_same, hpass]
  | frame ts data cnt =>
    rw [hhead] at hspans
    obtain ⟨heth, htxr, hcons, hmem⟩ := s.ethSend_frame k q lead hhead
    have hmac : t.mac k = { s.mac k with line := ethLine data } := by
      rw [State.mac, heth, vget_vset_same]
    have hread : t.txRing n = (s.ethPass n cnt).txRing n := by
      rw [State.txRing, htxr, State.txRing]
    refine ⟨by rw [hmac], by rw [hmac], (nomatch ·), fun _ _ h => (nomatch h), fun ts' data' cnt' h => ?_⟩
    cases h
    refine ⟨⟨?_, fun _ => ?_⟩, by rw [hmac], hmem⟩
    · rw [hread, ← s.ethPass_cons n hspans]
      exact hcons
    · rw [hread, s.ethPass_next n hspans]

end

/-! ### The slot of a MAC (R500) -/

section

variable {s : State} {k : Fin 4} {lead : Nat}

/-- The slot entry of a MAC: whether the slot is assigned, and to which queue. -/
def State.slotEntry (s : State) (k : Fin 4) : Nat :=
  (fldAt 4 ((s.mac k).slot % 8)).get (if (s.mac k).slot < 8 then s.reg ETH_SLOTLO k.val else s.reg ETH_SLOTHI k.val)

/-- The queue lent a slot that its own queue has no use for. -/
def State.lentQueue (s : State) (k : Fin 4) : Option Nat :=
  ((List.range 8).map fun i => ((s.mac k).lend + 1 + i) % 8).find? fun q => s.ethHas k q

/-- The MAC moved on to its next slot. -/
def State.slotMoved (s : State) (k : Fin 4) : State := s.modMac k fun m => { m with slot := (m.slot + 1) % 16 }

theorem ethTransmit_rests (h : s.macUp k = false ∨ s.macPaused k = true) : exec (.ethTransmit k lead) s = .next s := by
  rw [exec_ethTransmit, execEthTransmit, if_pos (by simpa using h)]
  rfl

/-- A MAC that may send moves on and serves its own queue, else the one lent the slot. -/
theorem ethTransmit_moves (hup : s.macUp k = true) (hgo : s.macPaused k = false) : exec (.ethTransmit k lead) s = ok (
    if s.slotEntry k / 8 = 1 ∧ s.ethHas k (s.slotEntry k % 8) = true then (s.slotMoved k).ethSend k (s.slotEntry k % 8) lead
    else match s.lentQueue k with
      | some q => ((s.slotMoved k).modMac k fun m => { m with lend := q }).ethSend k q lead
      | none => s.slotMoved k) := by
  rw [exec_ethTransmit, execEthTransmit, if_neg (by simp [hup, hgo])]
  simp only [State.ethHas_modMac, Bool.and_eq_true, decide_eq_true_eq]
  rfl

/-- Two changes of a MAC are one. -/
theorem State.modMac_modMac (s : State) (k : Fin 4) (f g : EMac → EMac) :
    (s.modMac k f).modMac k g = s.modMac k fun m => g (f m) := by
  have hget : (s.modMac k f).mac k = f (s.mac k) := vget_vset_same ..
  rw [State.modMac, hget]
  simp only [State.modMac, vset, Vector.set_set]

theorem ethTransmit_lends {q : Nat} (hup : s.macUp k = true) (hgo : s.macPaused k = false)
    (hno : ¬ (s.slotEntry k / 8 = 1 ∧ s.ethHas k (s.slotEntry k % 8) = true)) (hq : s.lentQueue k = some q) :
    exec (.ethTransmit k lead) s =
      .next ((s.modMac k fun m => { m with slot := (m.slot + 1) % 16, lend := q }).ethSend k q lead) := by
  rw [ethTransmit_moves hup hgo, if_neg hno, hq]
  exact congrArg (fun t : State => ok (t.ethSend k q lead)) (s.modMac_modMac k (fun m => { m with slot := (m.slot + 1) % 16 }) fun m => { m with lend := q })

/-- A queue served from a state that differs from `s` in the MAC's slot and lending. -/
theorem State.ethSend_serves (s : State) (k : Fin 4) (f : EMac → EMac) (q lead : Nat) :
    let n := s.txqRing k q
    let t := (s.modMac k f).ethSend k q lead
    let passed (cnt : Nat) : Prop := t.fld GAL_RING_IDX n GAL_RING_IDX_CONS = (t.txRing n).next ∧
      (0 < cnt → (t.txRing n).next = ((s.txRing n).next + cnt) % 2 ^ 16)
    (t.mac k).slot = (f (s.mac k)).slot ∧ (t.mac k).lend = (f (s.mac k)).lend ∧ t.time = s.time ∧
    (s.ethHead k q = .stale → (t.txRing n).told = some (s.txRing n).next) ∧
    (∀ st cnt, s.ethHead k q = .bad st cnt → passed cnt ∧
      t.fld ETH_CNT k.val ETH_CNT_TXERR = (s.count ETH_CNT k.val ETH_CNT_TXERR).fld ETH_CNT k.val ETH_CNT_TXERR) ∧
    (∀ ts data cnt, s.ethHead k q = .frame ts data cnt → passed cnt ∧ (t.mac k).line = ethLine data ∧ (ts = false → t.mem = s.mem)) := by
  intro n t passed
  obtain ⟨hslot, hlend, hstale, hbad, hframe⟩ := (s.modMac k f).ethSend_result k q lead
  rw [State.ethHead_modMac] at hstale hbad hframe
  have hmac : (s.modMac k f).mac k = f (s.mac k) := vget_vset_same ..
  rw [hmac] at hslot hlend
  exact ⟨hslot, hlend, by simp [t], hstale, hbad, hframe⟩

end

end Sys2Proof.Machine


/-! ## Ethernet: the link and MDIO (R497, R504) -/

namespace Sys2Proof.Machine

section

variable {s : State} {k : Fin 4} {up : Bool} {v : BitVec 2}

theorem ethLinkChange_rests (h : ¬ (s.fabricOn = true ∧ s.bit ETH_CFG k.val ETH_CFG_EN = true)) :
    exec (.ethLinkChange k up v) s = .next s := by
  rw [exec_ethLinkChange, execEthLinkChange, if_pos]
  · rfl
  · rw [Bool.or_eq_true, Bool.not_eq_true', Bool.not_eq_true']
    rw [not_and_or, Bool.not_eq_true, Bool.not_eq_true] at h
    exact h

/-- LINK and SPEED as the PHY shows them. -/
def State.linkShown (s : State) (k : Fin 4) (up : Bool) (v : BitVec 2) : State :=
  (s.setBit ETH_STAT k.val ETH_STAT_LINK up).setFld ETH_STAT k.val ETH_STAT_SPEED v.toNat

theorem ethLinkChange_on (h : s.fabricOn = true ∧ s.bit ETH_CFG k.val ETH_CFG_EN = true) : exec (.ethLinkChange k up v) s =
    .next (if s.bit ETH_STAT k.val ETH_STAT_LINK = up then s.linkShown k up v
      else (s.linkShown k up v).flag ETH_STAT k.val ETH_STAT_LINKEV) := by
  rw [exec_ethLinkChange, execEthLinkChange, if_neg (by simp [h.1, h.2])]
  simp only [beq_iff_eq]
  rfl

theorem State.linkShown_link : (s.linkShown k up v).bit ETH_STAT k.val ETH_STAT_LINK = up :=
  (bit_setFld_apart _ _ _ _ _ _ (by decide) (by decide) (by decide)).trans (bit_setBit_same _ _ _ _ _ (by decide))

theorem State.linkShown_speed : (s.linkShown k up v).fld ETH_STAT k.val ETH_STAT_SPEED = v.toNat :=
  (fld_setFld_same _ _ _ _ _ (by decide)).trans (Nat.mod_eq_of_lt v.isLt)

theorem State.linkShown_ev : (s.linkShown k up v).bit ETH_STAT k.val ETH_STAT_LINKEV = s.bit ETH_STAT k.val ETH_STAT_LINKEV :=
  (bit_setFld_apart _ _ _ _ _ _ (by decide) (by decide) (by decide)).trans
    (bit_setFld_apart _ _ _ _ _ _ (by decide) (by decide) (by decide))

theorem State.linkShown_regs : s.regsSame (s.linkShown k up v) [ETH_STAT.addr k.val] :=
  (s.setFld_frame _ _ _ _ (by simp)).trans (State.setFld_frame _ _ _ _ _ (by simp))

/-- What a change of the link leaves. -/
theorem ethLinkChange_result (h : s.fabricOn = true ∧ s.bit ETH_CFG k.val ETH_CFG_EN = true) :
    ∃ t, exec (.ethLinkChange k up v) s = .next t ∧ t.bit ETH_STAT k.val ETH_STAT_LINK = up ∧
      t.fld ETH_STAT k.val ETH_STAT_SPEED = v.toNat ∧ t.bit ETH_STAT k.val ETH_STAT_LINKEV =
        (s.bit ETH_STAT k.val ETH_STAT_LINKEV || s.bit ETH_STAT k.val ETH_STAT_LINK != up) ∧
      s.regsSame t [ETH_STAT.addr k.val] ∧ t = { s with regs := t.regs } := by
  refine ⟨_, ethLinkChange_on h, ?_⟩
  by_cases hsame : s.bit ETH_STAT k.val ETH_STAT_LINK = up
  · rw [if_pos hsame]
    exact ⟨State.linkShown_link, State.linkShown_speed, by rw [State.linkShown_ev, hsame]; simp, State.linkShown_regs, rfl⟩
  · rw [if_neg hsame]
    refine ⟨?_, ?_, ?_, State.linkShown_regs.trans (State.setFld_frame _ _ _ _ _ (by simp)), rfl⟩
    · exact (bit_setFld_apart _ _ _ _ _ _ (by decide) (by decide) (by decide)).trans State.linkShown_link
    · exact (fld_setFld_apart _ _ _ _ _ _ (by decide) (by decide) (by decide)).trans State.linkShown_speed
    · rw [bit_flag_same _ _ _ _ (by decide), bne_iff_ne.2 hsame, Bool.or_true]

/-! ### MDIO -/

theorem mdioTransaction_admitted {ag : Agent} (v : Word) (h : s.accessStatus ag true (ETH_MDIO.addr 0) = stOK) :
    exec (.mdioTransaction ag v) s = .next (s.writeMdio v) := by
  rw [exec_mdioTransaction, execMdioTransaction, asWrite_ok h]
  rfl

theorem mdioDone_idle (d : Half) (h : s.bit ETH_MDIO 0 ETH_MDIO_BUSY = false) : exec (.mdioDone d) s = .next s := by
  rw [exec_mdioDone, execMdioDone, h]
  rfl

/-- The transaction in progress reads (R497). -/
def State.mdioReads (s : State) : Prop :=
  s.fld ETH_MDIO 0 ETH_MDIO_OP = 2 ∨ (s.fld ETH_MDIO 0 ETH_MDIO_OP = 3 ∧ s.bit ETH_MDIO 0 ETH_MDIO_ST = false)

/-- BUSY cleared. -/
def State.mdioEnded (s : State) : State := s.setBit ETH_MDIO 0 ETH_MDIO_BUSY false

theorem State.mdioReads_iff : (if s.bit ETH_MDIO 0 ETH_MDIO_ST then s.fld ETH_MDIO 0 ETH_MDIO_OP == 2
    else s.fld ETH_MDIO 0 ETH_MDIO_OP == 2 || s.fld ETH_MDIO 0 ETH_MDIO_OP == 3) = true ↔ s.mdioReads := by
  unfold State.mdioReads
  cases hst : s.bit ETH_MDIO 0 ETH_MDIO_ST
  · simp
  · simp

theorem mdioDone_read (d : Half) (h : s.bit ETH_MDIO 0 ETH_MDIO_BUSY = true) (hread : s.mdioReads) :
    exec (.mdioDone d) s = .next (s.mdioEnded.setFld ETH_MDIO 0 ETH_MDIO_DATA d.toNat) := by
  rw [exec_mdioDone, execMdioDone, if_neg (by simp [h])]
  exact congrArg ok (if_pos (State.mdioReads_iff.2 hread))

theorem mdioDone_other (d : Half) (h : s.bit ETH_MDIO 0 ETH_MDIO_BUSY = true) (hread : ¬ s.mdioReads) :
    exec (.mdioDone d) s = .next s.mdioEnded := by
  rw [exec_mdioDone, execMdioDone, if_neg (by simp [h])]
  exact congrArg ok (if_neg fun hr => hread (State.mdioReads_iff.1 hr))

theorem State.mdioEnded_fld {F : Fld} (hF : F.lo ≤ F.hi) (h : F.hi < 31) :
    s.mdioEnded.fld ETH_MDIO 0 F = s.fld ETH_MDIO 0 F :=
  fld_setFld_apart _ _ _ _ _ _ hF (by decide) (.inl h)

theorem State.mdioEnded_busy : s.mdioEnded.bit ETH_MDIO 0 ETH_MDIO_BUSY = false := bit_setBit_same _ _ _ _ _ (by decide)

theorem State.mdioEnded_regs : s.regsSame s.mdioEnded [ETH_MDIO.addr 0] := s.setFld_frame _ _ _ _ (by simp)

end

/-- Settles O55: received frames by the checks in turn, a transmit slot by what its queue has to send, the link and MDIO. -/
theorem ethernetMacs : Obligations.EthernetMacs := by
  unfold Obligations.EthernetMacs
  intro s
  refine ⟨fun k l ago => ?_, fun k lead => ?_, fun k up v => ⟨ethLinkChange_rests, ethLinkChange_result⟩,
    fun ag v hacc => ⟨fun hbusy => ?_, fun hidle => ?_⟩, fun d => ⟨mdioDone_idle d, fun hbusy => ?_⟩⟩
  · refine ⟨ethReceive_down, fun hup => ⟨ethReceive_len hup, ethReceive_fcs hup, ethReceive_pause hup, ethReceive_filtered hup,
      fun hlen hfcs hpause hacc => ⟨fun hoff => ?_, fun _ hauto hroom => ?_, fun hon hfit hfull _ hmem => ?_⟩⟩⟩
    · exact (ethReceive_stores hup hlen hfcs hpause hacc).trans (congrArg _ (State.ethStore_off hoff))
    · exact (ethReceive_stores hup hlen hfcs hpause hacc).trans (congrArg _ (State.ethStore_full hauto hroom))
    · have hpush := State.ethStore_one (t := s.stamp - ago - s.fld ETH_TSLAT k.val ETH_TSLAT_RXLAT) hon hfit hfull
      obtain ⟨hprod, hwords, -, hrest⟩ := State.ringPush_spec hpush hmem
      obtain ⟨j, hj⟩ := s.ringEntry_words (s.rxRing k (l.take (l.length - 4)))
      refine ⟨_, ethReceive_stores hup hlen hfcs hpause hacc, hprod, ?_, ?_, hrest, State.ringPush_time hpush⟩
      · exact hwords 0 (by simp [State.rxHead]) (by omega)
      · exact hwords 1 (by simp [State.rxHead, stampWords]) (by omega)
  · refine ⟨ethTransmit_rests, fun hup hgo => ⟨fun hown hhas => ?_, fun hno => ⟨fun q hq => ?_, fun hnone => ?_⟩⟩⟩
    · refine ⟨_, (ethTransmit_moves hup hgo).trans (congrArg ok (if_pos ⟨hown, hhas⟩)), ?_⟩
      exact s.ethSend_serves k (fun m => { m with slot := (m.slot + 1) % 16 }) _ lead
    · exact ⟨_, ethTransmit_lends hup hgo hno hq,
        s.ethSend_serves k (fun m => { m with slot := (m.slot + 1) % 16, lend := q }) q lead⟩
    · refine (ethTransmit_moves hup hgo).trans (congrArg ok ((if_neg hno).trans ?_))
      rw [show s.lentQueue k = none from hnone]
      rfl
  · rw [mdioTransaction_admitted v hacc, State.writeMdio, if_pos hbusy]
  · rw [mdioTransaction_admitted v hacc, State.writeMdio, if_neg (by simp [hidle])]
  · by_cases hread : s.mdioReads
    · refine ⟨_, mdioDone_read d hbusy hread, ?_, ?_, ?_, State.mdioEnded_regs.trans (State.setFld_frame _ _ _ _ _ (by simp)), rfl⟩
      · exact (bit_setFld_apart _ _ _ _ _ _ (by decide) (by decide) (by decide)).trans State.mdioEnded_busy
      · refine Eq.trans ?_ (if_pos hread).symm
        exact (fld_setFld_same _ _ _ _ _ (by decide)).trans (Nat.mod_eq_of_lt d.isLt)
      · exact (fld_setFld_apart _ _ _ _ _ _ (by decide) (by decide) (by decide)).trans (State.mdioEnded_fld (by decide) (by decide))
    · refine ⟨_, mdioDone_other d hbusy hread, State.mdioEnded_busy, ?_, State.mdioEnded_fld (by decide) (by decide),
        State.mdioEnded_regs, rfl⟩
      exact (State.mdioEnded_fld (by decide) (by decide)).trans (if_neg hread).symm

end Sys2Proof.Machine


/-! ## Aborts: what every part of one keeps (R123, R471)

An abort is a chain of parts: groups, cells, events, peripherals, links. Whatever a part does, it keeps what the parts before it
have ended. -/

namespace Sys2Proof.Machine

/-! ### Registers that show what an abort has ended -/

/-- The registers the parts of an abort rely on, by kind: 1 FAB_ABORT_RES, 2 the status of cells and blocks, 3 PWM_GSTAT, 4 DSM_CFG;
0 for any other. -/
def abortClass (a : Nat) : Nat :=
  let o := a % 0x4000000
  if a = 0x40050104 then 1
  else if 0x30000000 ≤ a then 0
  else if 0x2082000 ≤ o ∧ o < 0x2083000 then 2
  else if 0x2000110 ≤ o ∧ o ≤ 0x20001F0 ∧ o % 32 = 16 then 3
  else if 0x2050000 ≤ o ∧ o < 0x2050200 then 4
  else 0

theorem abortClass_res : abortClass (FAB_ABORT_RES.addr 0) = 1 := by decide
theorem abortClass_cell : ∀ c : Fin 128, abortClass (CELL_STAT.addr c.val) = 2 := by decide
theorem abortClass_pstate : ∀ b : Fin 16, abortClass (BLK_PSTATE.addr b.val) = 2 := by decide
theorem abortClass_map : ∀ b : Fin 16, abortClass (BLK_MAP.addr b.val) = 2 := by decide
theorem abortClass_gstat : ∀ g : Fin 32, abortClass (PWM_GSTAT.addr g.val) = 3 := by decide
theorem abortClass_dsm : ∀ i : Fin 32, abortClass (DSM_CFG.addr i.val) = 4 := by decide

theorem abortClass_gallery {a : Nat} (h : 0x30000000 ≤ a ∧ a < 0x31040000) : abortClass a = 0 := by
  simp only [abortClass]
  rw [if_neg (by omega), if_pos h.1]

/-- The registers of kind `k` are in `t` as in `s`. -/
def State.classRegs (s t : State) (k : Nat) : Prop := s.regsBut t fun a => abortClass a ≠ k

/-- Every register an abort relies on is in `t` as in `s`. -/
def State.abortRegs (s t : State) : Prop := s.regsBut t fun a => abortClass a = 0

section

variable {s t u : State} {f : RegFam} {i k : Nat}

theorem State.classRegs.reg (h : s.classRegs t k) (hf : abortClass (f.addr i) = k) : t.reg f i = s.reg f i :=
  h f i (not_not.2 hf)

theorem State.abortRegs.trans (h : s.abortRegs t) (k : t.abortRegs u) : s.abortRegs u := State.regsBut.trans h k

theorem State.abortRegs.of_regs (h : t.regs = s.regs) : s.abortRegs t := State.regsBut.of_regs h _

theorem State.abortRegs.classRegs (h : s.abortRegs t) (hk : k ≠ 0) : s.classRegs t k :=
  h.mono fun _ ha e => hk (e.symm.trans ha)

theorem State.setReg_classRegs (s : State) (v : Word) (h : abortClass (f.addr i) ≠ k) : s.classRegs (s.setReg f i v) k :=
  s.setReg_regsBut v h

end

/-! ### What has ended -/

/-- A cell without a twin and without other work. -/
abbrev State.plainCell (s : State) (c : Fin 128) : Prop := (vget s.lcell c).twin = none ∧ (vget s.lcell c).work = .none

/-- A RUNNING cell on physical cell `p`. -/
def State.runsOn (s : State) (c p : Fin 128) : Prop := s.physOf c = some p ∧ s.lstate c = 1

/-- A cell stopped by an abort: STOPPED, its physical cell IDLE and its write buffer empty. -/
def State.haltedOn (s : State) (c p : Fin 128) : Prop := s.lstate c = 0 ∧ s.pstate p = 0 ∧ (vget s.phys p).wbuf = []

/-- A group under the abort pattern. -/
def State.abortSet (s : State) (g : Fin 32) : Prop := s.bit PWM_GSTAT g.val PWM_GSTAT_ABORT = true ∧ (s.pg g).abort = true

/-- A delta-sigma input is off. -/
def State.dsmOff (s : State) (i : Nat) : Prop := s.bit DSM_CFG i DSM_CFG_EN = false

/-- Cells run on or have been stopped; a stopped one stays so. -/
structure State.stops (s t : State) : Prop where
  runs : ∀ c p, s.runsOn c p → t.runsOn c p ∨ t.haltedOn c p
  halted : ∀ c p, s.haltedOn c p → t.haltedOn c p

theorem State.stops.trans {s t u : State} (h : s.stops t) (k : t.stops u) : s.stops u where
  runs c p hr := (h.runs c p hr).elim (k.runs c p) fun hh => .inr (k.halted c p hh)
  halted c p hh := k.halted c p (h.halted c p hh)

theorem State.stops.of_same {s t : State} (hregs : s.classRegs t 2) (hwbuf : ∀ p, (vget t.phys p).wbuf = (vget s.phys p).wbuf) :
    s.stops t := by
  have hl (c : Fin 128) : t.lstate c = s.lstate c := by simp only [State.lstate, State.fld, hregs.reg (abortClass_cell c)]
  have hp (p : Fin 128) : t.pstate p = s.pstate p := by
    simp only [State.pstate, State.fld, hregs.reg (abortClass_pstate ⟨p.val / 8, by omega⟩)]
  have hm (c : Fin 128) : t.physOf c = s.physOf c := by
    simp only [State.physOf, hregs.reg (abortClass_map ⟨c.val / 8, by omega⟩)]
  constructor
  · rintro c p ⟨hmap, hrun⟩
    exact .inl ⟨(hm c).trans hmap, (hl c).trans hrun⟩
  · rintro c p ⟨hstop, hidle, hempty⟩
    exact ⟨(hl c).trans hstop, (hp p).trans hidle, (hwbuf p).trans hempty⟩

/-- What the register and the group show stays with them. -/
theorem State.abortSet.of_same {s t : State} {g : Fin 32} (h : s.abortSet g) (hreg : t.reg PWM_GSTAT g.val = s.reg PWM_GSTAT g.val)
    (hgrp : t.pg g = s.pg g) : t.abortSet g := by
  obtain ⟨hflag, hset⟩ := h
  refine ⟨?_, hgrp ▸ hset⟩
  rw [State.bit, State.fld, hreg]
  exact hflag

theorem State.dsmOff.of_same {s t : State} {i : Nat} (h : s.dsmOff i) (hreg : t.reg DSM_CFG i = s.reg DSM_CFG i) : t.dsmOff i := by
  rw [State.dsmOff, State.bit, State.fld, hreg]
  exact h

/-! ### A part of an abort -/

/-- What a part of an abort keeps, apart from cells that run. -/
structure State.AbortBase (s t : State) : Prop where
  galOk : t.galOk
  echoOk : t.echoOk
  owner : t.owner = s.owner
  res : t.reg FAB_ABORT_RES 0 = s.reg FAB_ABORT_RES 0
  plain : ∀ c, s.plainCell c → t.plainCell c
  pattern : ∀ g, s.abortSet g → t.abortSet g
  dsm : ∀ i < 32, s.dsmOff i → t.dsmOff i
  queue : ∀ j, (s.cv j).queue = [] → (t.cv j).queue = []

/-- What a part of an abort keeps; the cells in `C` are those it may stop. -/
structure State.AbortKeeps (C : Fin 128 → Prop) (s t : State) : Prop extends State.AbortBase s t where
  stops : (∀ c, C c → s.plainCell c) → s.stops t

/-- A part of an abort, from a state whose events and sends are sound. -/
def State.AbortStep (C : Fin 128 → Prop) (s t : State) : Prop := s.galOk → s.echoOk → State.AbortKeeps C s t

/-- As `AbortStep`, whatever becomes of the cells. -/
def State.AbortBaseStep (s t : State) : Prop := s.galOk → s.echoOk → s.AbortBase t

section

variable {C : Fin 128 → Prop} {s t u : State}

theorem State.AbortBase.trans (h : s.AbortBase t) (k : t.AbortBase u) : s.AbortBase u where
  galOk := k.galOk
  echoOk := k.echoOk
  owner := k.owner.trans h.owner
  res := k.res.trans h.res
  plain c hc := k.plain c (h.plain c hc)
  pattern g hg := k.pattern g (h.pattern g hg)
  dsm i hi hd := k.dsm i hi (h.dsm i hi hd)
  queue j hj := k.queue j (h.queue j hj)

theorem State.AbortBaseStep.trans (h : s.AbortBaseStep t) (k : t.AbortBaseStep u) : s.AbortBaseStep u := fun hg he =>
  (h hg he).trans (k (h hg he).galOk (h hg he).echoOk)

theorem State.AbortStep.trans (h : State.AbortStep C s t) (k : State.AbortStep C t u) : State.AbortStep C s u := fun hg he => by
  have hst := h hg he
  have htu := k hst.galOk hst.echoOk
  exact ⟨hst.toAbortBase.trans htu.toAbortBase, fun hC => (hst.stops hC).trans (htu.stops fun c hc => hst.plain c (hC c hc))⟩

theorem State.AbortStep.base (h : State.AbortStep C s t) : s.AbortBaseStep t := fun hg he => (h hg he).toAbortBase

theorem State.AbortBaseStep.step (h : s.AbortBaseStep t) (hstops : (∀ c, C c → s.plainCell c) → s.stops t) : State.AbortStep C s t :=
  fun hg he => ⟨h hg he, hstops⟩

/-- What no part of an abort relies on, beside registers and FIFOs. -/
def State.AbortFrame (s t : State) : Prop :=
  t = { s with regs := t.regs, mem := t.mem, ecc := t.ecc, phys := t.phys, sproc := t.sproc, bridge := t.bridge, axis := t.axis,
               pos := t.pos, can := t.can, spi := t.spi, xspi := t.xspi, uart := t.uart, i2c := t.i2c, avs := t.avs,
               gal := { s.gal with notify := t.gal.notify } }

theorem State.AbortFrame.trans (h : s.AbortFrame t) (k : t.AbortFrame u) : s.AbortFrame u := by
  unfold State.AbortFrame at *
  rw [k, h]

theorem State.RingFrame.abort (h : s.RingFrame t) : s.AbortFrame t := by
  unfold State.RingFrame at h
  unfold State.AbortFrame
  rw [h]

/-- A step that leaves the registers and the write buffers an abort relies on. -/
structure State.AbortAside (s t : State) : Prop where
  frame : s.AbortFrame t
  regs : s.abortRegs t
  wbuf : ∀ p, (vget t.phys p).wbuf = (vget s.phys p).wbuf

theorem State.AbortAside.refl (s : State) : s.AbortAside s := ⟨rfl, .of_regs rfl, fun _ => rfl⟩

theorem State.AbortAside.trans (h : s.AbortAside t) (k : t.AbortAside u) : s.AbortAside u :=
  ⟨h.frame.trans k.frame, h.regs.trans k.regs, fun p => (k.wbuf p).trans (h.wbuf p)⟩

theorem State.AbortAside.foldl {α : Type} {f : State → α → State} {l : List α} (hf : ∀ (s : State), ∀ a ∈ l, s.AbortAside (f s a))
    (s : State) : s.AbortAside (l.foldl f s) := by
  induction l generalizing s with
  | nil => exact .refl s
  | cons a l ih =>
    exact (hf s a List.mem_cons_self).trans (ih (fun s b hb => hf s b (List.mem_cons_of_mem a hb)) _)

theorem State.setReg_aside (s : State) {f : RegFam} {i : Nat} (v : Word) (h : abortClass (f.addr i) = 0) :
    s.AbortAside (s.setReg f i v) := ⟨rfl, s.setReg_regsBut v h, fun _ => rfl⟩

theorem State.setFld_aside (s : State) {f : RegFam} {i : Nat} (F : Fld) (v : Nat) (h : abortClass (f.addr i) = 0) :
    s.AbortAside (s.setFld f i F v) := s.setReg_aside _ h

theorem State.AbortAside.setFld {f : RegFam} {i : Nat} (h : s.AbortAside t) (F : Fld) (v : Nat) (hf : abortClass (f.addr i) = 0) :
    s.AbortAside (t.setFld f i F v) := h.trans (t.setFld_aside F v hf)

theorem State.AbortFrame.owner (h : s.AbortFrame t) : t.owner = s.owner := by rw [h]
theorem State.AbortFrame.lcell (h : s.AbortFrame t) : t.lcell = s.lcell := by rw [h]
theorem State.AbortFrame.grp (h : s.AbortFrame t) : t.grp = s.grp := by rw [h]
theorem State.AbortFrame.adc (h : s.AbortFrame t) : t.adc = s.adc := by rw [h]
theorem State.AbortFrame.echo (h : s.AbortFrame t) : t.echo = s.echo := by rw [h]
theorem State.AbortFrame.events (h : s.AbortFrame t) : t.gal.events = s.gal.events := by rw [h]

/-- A step that leaves what an abort relies on, apart from cells. -/
theorem State.AbortFrame.base (hframe : s.AbortFrame t) (hregs : s.regsBut t fun a => abortClass a = 0 ∨ abortClass a = 2) :
    s.AbortBaseStep t := by
  intro hgal hecho
  have hclass {k : Nat} (h0 : k ≠ 0) (h2 : k ≠ 2) : s.classRegs t k := hregs.mono fun a ha e => by omega
  refine ⟨?_, ?_, hframe.owner, (hclass (by decide) (by decide)).reg abortClass_res, ?_, ?_, ?_, ?_⟩
  · rw [State.galOk, hframe.events]
    exact hgal
  · rw [State.echoOk, hframe.echo]
    exact hecho
  · intro c hc
    rw [State.plainCell, hframe.lcell]
    exact hc
  · exact fun g hg => hg.of_same ((hclass (by decide) (by decide)).reg (abortClass_gstat g))
      (by rw [State.pg, hframe.grp, State.pg])
  · exact fun i hi hoff => hoff.of_same ((hclass (by decide) (by decide)).reg (abortClass_dsm ⟨i, hi⟩))
  · intro j hj
    rw [State.cv, hframe.adc]
    exact hj

theorem State.AbortAside.step (h : s.AbortAside t) : State.AbortStep C s t :=
  (h.frame.base (h.regs.mono fun _ ha => .inl ha)).step fun _ => .of_same (h.regs.classRegs (by decide)) h.wbuf

theorem State.AbortStep.refl (s : State) : State.AbortStep C s s := (State.AbortAside.refl s).step

theorem State.AbortStep.foldl {α : Type} {f : State → α → State} {l : List α} (hf : ∀ (s : State), ∀ a ∈ l, State.AbortStep C s (f s a))
    (s : State) : State.AbortStep C s (l.foldl f s) := by
  induction l generalizing s with
  | nil => exact .refl s
  | cons a l ih =>
    exact (hf s a List.mem_cons_self).trans (ih (fun s b hb => hf s b (List.mem_cons_of_mem a hb)) _)

theorem State.AbortStep.ite {c : Prop} [Decidable c] (h : c → State.AbortStep C s t) (k : ¬ c → State.AbortStep C s u) :
    State.AbortStep C s (if c then t else u) := by
  split
  · next hc => exact h hc
  · next hc => exact k hc

end

/-- A property that one part of a chain brings about and every other keeps holds at its end. -/
theorem foldl_reaches {α : Type} {f : State → α → State} {I P : State → Prop} {l : List α} {a : α} (ha : a ∈ l)
    (hI : ∀ s, ∀ b ∈ l, I s → I (f s b)) (hP : ∀ s, ∀ b ∈ l, I s → P s → P (f s b)) (hreach : ∀ s, I s → P (f s a))
    {s : State} (hs : I s) : P (l.foldl f s) := by
  induction l generalizing s with
  | nil => cases ha
  | cons b l ih =>
    have hI' : ∀ s, ∀ c ∈ l, I s → I (f s c) := fun s c hc => hI s c (List.mem_cons_of_mem b hc)
    have hP' : ∀ s, ∀ c ∈ l, I s → P s → P (f s c) := fun s c hc => hP s c (List.mem_cons_of_mem b hc)
    rcases List.mem_cons.1 ha with rfl | ha
    · exact (List.foldlRecOn (motive := fun s => I s ∧ P s) l f ⟨hI s a List.mem_cons_self hs, hreach s hs⟩
        fun s ⟨hs, hp⟩ c hc => ⟨hI' s c hc hs, hP' s c hc hs hp⟩).2
    · exact ih ha hI' hP' (hI s b List.mem_cons_self hs)

end Sys2Proof.Machine


/-! ## Aborts: events, groups and cells (R123, R289, R471) -/

namespace Sys2Proof.Machine

/-! ### Entries of FIFOs leave the write buffers -/

section

variable {s t : State}

theorem Phys.arrive_wbuf (ph : Phys) (e : FifoEntry) : (ph.arrive e).wbuf = ph.wbuf := by
  unfold Phys.arrive
  split <;> rfl

theorem State.modPhys_wbuf (s : State) (p q : Fin 128) {f : Phys → Phys} (hf : ∀ ph, (f ph).wbuf = ph.wbuf) :
    (vget (s.modPhys p f).phys q).wbuf = (vget s.phys q).wbuf := by
  rw [State.modPhys, vget_vset]
  split
  · next h => rw [hf, h]
  · rfl

theorem State.pushFifo_wbuf {c : Fin 128} {e : FifoEntry} (h : s.pushFifo c e = some t) (q : Fin 128) :
    (vget t.phys q).wbuf = (vget s.phys q).wbuf := by
  have harrive : ∀ ph : Phys, (ph.arrive e).wbuf = ph.wbuf := fun ph => ph.arrive_wbuf e
  unfold State.pushFifo at h
  split at h
  · cases h
  · next p _ =>
    split at h
    · cases h
    · split at h
      · cases h
      · simp only [Option.some.injEq] at h
        subst h
        split
        · exact (State.modPhys_wbuf _ _ _ harrive).trans (s.modPhys_wbuf p q harrive)
        · exact s.modPhys_wbuf p q harrive

theorem State.notifySend_wbuf {n : Nat} (h : s.notifySend n = some t) (q : Fin 128) :
    (vget t.phys q).wbuf = (vget s.phys q).wbuf := by
  unfold State.notifySend at h
  extract_lets u at h
  split at h
  · exact State.pushFifo_wbuf h q
  · split at h
    · rw [State.raiseLine_sproc h]
    · cases h
      rfl
  · cases h
    rfl

theorem State.notifyRing_wbuf (s : State) (n : Nat) (q : Fin 128) : (vget (s.notifyRing n).phys q).wbuf = (vget s.phys q).wbuf := by
  unfold State.notifyRing
  split
  · rfl
  · split
    · next h => exact State.notifySend_wbuf h q
    · rfl

theorem State.ringPut_phys (s : State) (n : Nat) (body : List Word) (status kind info : Nat) :
    (s.ringPut n body status kind info).phys = s.phys := by
  have hpoke (a : Nat) (l : List Word) : (s.pokeWords a l).phys = s.phys := by rw [s.pokeWords_frame]
  rw [State.ringPut_eq]
  extract_lets u
  split
  · exact hpoke ..
  · exact hpoke ..

/-- A ring write, with its notification. -/
theorem State.ringPush_aside {n : Nat} {body : List Word} {status kind info : Nat} (hn : n < 16384)
    (h : s.ringPush n body status kind info = some t) : s.AbortAside t where
  frame := (State.ringPush_frame h).abort
  regs := (State.ringPush_regsBut h).mono fun a ha => by
    refine abortClass_gallery ?_
    simp only [List.mem_cons, List.not_mem_nil, or_false, GAL_RING_IDX_addr, GAL_RING_CFG_addr] at ha
    omega
  wbuf q := by rw [State.ringPush_eq h, State.notifyRing_wbuf, State.ringPut_phys]

theorem State.report_wbuf (s : State) (e : GEvent) (status mask : Nat) (q : Fin 128) :
    (vget (s.report e status mask).phys q).wbuf = (vget s.phys q).wbuf := by
  unfold State.report
  extract_lets n w0
  split
  · rfl
  · split
    · next h => exact (State.ringPush_aside e.hring_lt h).wbuf q
    · rfl

theorem State.endEvent_wbuf (s : State) (e : GEvent) (status mask : Nat) (quiet : Bool) (q : Fin 128) :
    (vget (s.endEvent e status mask quiet).phys q).wbuf = (vget s.phys q).wbuf := by
  have hfree : (s.freeSlot e).phys = s.phys := by rw [s.freeSlot_frame e]
  unfold State.endEvent
  extract_lets s1
  split
  · rw [State.report_wbuf, hfree]
  · rw [hfree]

end

/-! ### Events -/

section

variable {C : Fin 128 → Prop} {s t : State}

/-- A step that leaves what an abort relies on, apart from the pending events. -/
theorem State.AbortStep.of_events (hchambers : s.galOk → t.galOk) (h : s.galOk → s.AbortAside { t with gal := s.gal }) :
    State.AbortStep C s t := by
  intro hgal hecho
  obtain ⟨⟨-, hsends, howner, hres, hplain, hpattern, hdsm, hqueue⟩, hstops⟩ := (h hgal).step (C := C) hgal hecho
  exact ⟨⟨hchambers hgal, hsends, howner, hres, hplain, hpattern, hdsm, hqueue⟩, fun hC =>
    ⟨(hstops hC).runs, (hstops hC).halted⟩⟩

theorem State.modEvent_step (s : State) (n : Nat) {f : GEvent → GEvent} (hf : ∀ e, (f e).chamber = e.chamber) :
    State.AbortStep C s (s.modEvent n f) := by
  refine .of_events (fun hgal e he => ?_) fun _ => .refl s
  obtain ⟨w, hw, rfl⟩ := List.mem_map.1 he
  split
  · rw [hf]
    exact hgal w hw
  · exact hgal w hw

theorem State.endEvent_step {e : GEvent} (status mask : Nat) (quiet : Bool) (he : s.galOk → e.chamber < 16) :
    State.AbortStep C s (s.endEvent e status mask quiet) := by
  refine .of_events (fun hgal w hw => ?_) fun hgal => ⟨?_, ?_, fun q => s.endEvent_wbuf e status mask quiet q⟩
  · rw [s.endEvent_events] at hw
    exact hgal w (List.mem_filter.1 hw).1
  · rw [s.endEvent_frame e status mask quiet, s.freeSlot_frame e]
    rfl
  · exact (s.endEvent_regsBut e status mask quiet).mono fun a ha => abortClass_gallery (GEvent.endAddr_range (he hgal) ha)

/-- Events examined in turn. -/
theorem State.eachEvent_step (s : State) (l : List GEvent) {f : GEvent → State → State}
    (hf : ∀ (s : State), ∀ e ∈ s.gal.events, State.AbortStep C s (f e s)) : State.AbortStep C s (s.eachEvent l f) := by
  refine State.AbortStep.foldl (fun s e _ => ?_) s
  split
  · next e' h =>
    exact .ite (fun _ => hf s e' (State.eventAt_some h).1) fun _ => .refl s
  · exact .refl s

theorem State.abortEvents_step (s : State) (hit : GEvent → Bool) : State.AbortStep C s (s.abortEvents hit) :=
  s.eachEvent_step _ fun s e he =>
    .ite (fun _ => s.endEvent_step _ _ _ fun hgal => hgal e he) fun _ => s.modEvent_step _ fun _ => rfl

/-- Where no pending event is hit, nothing changes. -/
theorem State.abortEvents_none (s : State) {hit : GEvent → Bool} (h : ∀ e ∈ s.gal.events, hit e = false) : s.abortEvents hit = s := by
  have hnone : (s.gal.events.filter fun e => hit e && e.span.isNone) = [] := by
    refine List.filter_eq_nil_iff.2 fun e he => ?_
    simp [h e he]
  rw [State.abortEvents, hnone]
  rfl

end

/-! ### Groups -/

section

variable {C : Fin 128 → Prop}

theorem abortClass_bstat : ∀ k : Fin 16, abortClass (PWM_BSTAT.addr k.val) = 0 := by decide

theorem State.flagBstat_aside (s : State) (k : Fin 16) (F : Fld) : s.AbortAside (s.flag PWM_BSTAT k.val F) :=
  s.setFld_aside F _ (abortClass_bstat k)

theorem State.modBr_aside (s : State) (k : Fin 16) (f : Bridge → Bridge) : s.AbortAside (s.modBr k f) :=
  ⟨rfl, .of_regs rfl, fun _ => rfl⟩

theorem State.settleLeg_aside (s : State) (k : Fin 16) (t : Nat) (p : Fin 3) : s.AbortAside (s.settleLeg k t p) := by
  have hflag (c : Bool) (u : State) (F : Fld) : u.AbortAside (if c then u.flag PWM_BSTAT k.val F else u) := by
    split
    · exact u.flagBstat_aside k F
    · exact .refl u
  exact (s.modBr_aside k _).trans ((hflag ..).trans (hflag ..))

theorem State.settleBr_aside (s : State) (k : Fin 16) (t : Nat) : s.AbortAside (s.settleBr k t) :=
  .foldl (fun s p _ => s.settleLeg_aside k t p) s

theorem State.dropQueues_aside (s : State) (k : Fin 16) : s.AbortAside (s.dropQueues k) :=
  (s.modBr_aside k _).setFld _ _ (abortClass_bstat k)

theorem State.patternSet_aside (s : State) (g : Fin 32) : s.AbortAside (s.patternSet g) := by
  refine .foldl (fun s k _ => State.AbortAside.trans ?_ (State.settleBr_aside _ k _)) s
  split
  · exact s.dropQueues_aside k
  · exact .refl s

theorem State.askAll_aside (s : State) (k : Fin 16) (t : Nat) : s.AbortAside (s.askAll k t) := by
  have hout (s : State) (i : Fin 6) (f : POut → POut) : s.AbortAside (s.modOut k i f) := s.modBr_aside k _
  refine .foldl (fun s i _ => ?_) s
  split
  · exact .refl s
  · unfold State.askReq
    extract_lets o last e
    split
    · exact .refl s
    · split
      · split
        · exact hout s i _
        · exact (hout s i _).trans (State.flagBstat_aside _ k _)
      · exact (hout s i _).trans (State.flagBstat_aside _ k _)

theorem State.setMidx_aside (s : State) (k : Fin 16) (m : Nat) : s.AbortAside (s.setMidx k m) :=
  (((s.setFld_aside PWM_BSTAT_MIDX m (abortClass_bstat k)).trans (State.askAll_aside _ k s.nowU))).trans
    (State.settleBr_aside _ k s.nowU)

/-- ABORT set in a group's status and in the group. -/
def State.setAbort (s : State) (g : Fin 32) : State :=
  (s.flag PWM_GSTAT g.val PWM_GSTAT_ABORT).modPg g fun p => { p with abort := true }

theorem State.setAbort_set (s : State) (g : Fin 32) : (s.setAbort g).abortSet g := by
  refine ⟨bit_flag_same s PWM_GSTAT g.val PWM_GSTAT_ABORT (by decide), ?_⟩
  rw [State.pg, State.setAbort, State.modPg, vget_vset_same]

theorem State.setAbort_pg_other (s : State) {g h : Fin 32} (hgh : h ≠ g) : (s.setAbort g).pg h = s.pg h :=
  vget_vset_other _ _ hgh

theorem State.setAbort_regs (s : State) (g : Fin 32) : s.regsBut (s.setAbort g) (· = PWM_GSTAT.addr g.val) :=
  s.setFld_regsBut (A := (· = PWM_GSTAT.addr g.val)) PWM_GSTAT_ABORT (b2n true) rfl

theorem State.setAbort_class (s : State) (g : Fin 32) {k : Nat} (hk : k ≠ 3) : s.classRegs (s.setAbort g) k :=
  (s.setAbort_regs g).mono fun a ha => by
    rw [ha, abortClass_gstat]
    exact hk.symm

theorem State.setAbort_step (s : State) (g : Fin 32) : State.AbortStep C s (s.setAbort g) := by
  refine State.AbortBaseStep.step (fun hgal hecho => ?_) fun _ => .of_same (s.setAbort_class g (by decide)) fun _ => rfl
  refine ⟨hgal, hecho, rfl, (s.setAbort_class g (by decide)).reg abortClass_res, fun _ hc => hc, fun j hj => ?_, fun i hi hoff => ?_,
    fun _ hq => hq⟩
  · by_cases hjg : j = g
    · rw [hjg]
      exact s.setAbort_set g
    · exact hj.of_same (s.setAbort_regs g _ _ fun e => hjg (PWM_GSTAT_injective j g e)) (s.setAbort_pg_other hjg)
  · exact hoff.of_same ((s.setAbort_class g (by decide)).reg (abortClass_dsm ⟨i, hi⟩))

theorem State.abortGroup_step (s : State) (g : Fin 32) : State.AbortStep C s (s.abortGroup g) :=
  (s.setAbort_step g).trans (State.patternSet_aside _ g).step

/-- The group aborted is under the abort pattern. -/
theorem State.abortGroup_set (s : State) (g : Fin 32) : (s.abortGroup g).abortSet g := by
  have hafter := (s.setAbort g).patternSet_aside g
  exact (s.setAbort_set g).of_same ((hafter.regs.classRegs (by decide)).reg (abortClass_gstat g)) (congrArg (vget · g) hafter.frame.grp)

theorem State.abortGroups_step (s : State) (mine : Nat → Bool) : State.AbortStep C s (s.abortGroups mine) :=
  .foldl (fun s g _ => .ite (fun _ => s.abortGroup_step g) fun _ => .refl s) s

theorem State.abortGroups_set {s : State} (hgal : s.galOk) (hecho : s.echoOk) {mine : Nat → Bool} {g : Fin 32} (hg : mine g.val = true) :
    (s.abortGroups mine).abortSet g := by
  have hstep (s : State) (j : Fin 32) : State.AbortStep (fun _ => False) s (if mine j.val then s.abortGroup j else s) :=
    .ite (fun _ => s.abortGroup_step j) fun _ => .refl s
  refine foldl_reaches (I := fun s => s.galOk ∧ s.echoOk) (P := fun s => s.abortSet g) (List.mem_finRange g) ?_ ?_ ?_ ⟨hgal, hecho⟩
  · exact fun s j _ ⟨hgal, hecho⟩ => ⟨(hstep s j hgal hecho).galOk, (hstep s j hgal hecho).echoOk⟩
  · exact fun s j _ ⟨hgal, hecho⟩ hset => (hstep s j hgal hecho).pattern g hset
  · intro s _
    rw [if_pos hg]
    exact s.abortGroup_set g

end

end Sys2Proof.Machine


/-! ## Aborts: cells (R205, R206, R223, R471) -/

namespace Sys2Proof.Machine

/-! ### The status of cells and of physical cells: what each write shows and leaves -/

section

theorem CELL_STAT_addr (n : Nat) : CELL_STAT.addr n =
    0x22082104 + (n / 32 * 0x4000000 + (n % 32 / 8 * 0x400 + n % 32 % 8 * 0x40)) := by
  simp [RegFam.addr, CELL_STAT, dimOff, dimSize]

theorem BLK_PSTATE_addr (n : Nat) : BLK_PSTATE.addr n = 0x22082008 + (n / 4 * 0x4000000 + n % 4 * 0x400) := by
  simp [RegFam.addr, BLK_PSTATE, dimOff, dimSize]

theorem BLK_MAP_addr (n : Nat) : BLK_MAP.addr n = 0x2208200C + (n / 4 * 0x4000000 + n % 4 * 0x400) := by
  simp [RegFam.addr, BLK_MAP, dimOff, dimSize]

theorem CELL_STAT_injective {c d : Nat} (h : CELL_STAT.addr c = CELL_STAT.addr d) : c = d := by
  rw [CELL_STAT_addr, CELL_STAT_addr] at h
  omega

theorem BLK_PSTATE_injective {b d : Nat} (h : BLK_PSTATE.addr b = BLK_PSTATE.addr d) : b = d := by
  rw [BLK_PSTATE_addr, BLK_PSTATE_addr] at h
  omega

theorem CELL_STAT_ne_BLK (c b : Nat) : BLK_PSTATE.addr b ≠ CELL_STAT.addr c ∧ BLK_MAP.addr b ≠ CELL_STAT.addr c ∧
    BLK_MAP.addr b ≠ BLK_PSTATE.addr c := by
  rw [CELL_STAT_addr, BLK_PSTATE_addr, BLK_MAP_addr, BLK_PSTATE_addr]
  omega

variable (s : State) (c d p q : Fin 128) (v n : Nat)

/-- A field of a cell's status leaves the physical cells and the map. -/
theorem State.setCellStat_pstate (F : Fld) : (s.setFld CELL_STAT c.val F v).pstate p = s.pstate p := by
  rw [State.pstate, State.fld, reg_setFld_other _ _ _ _ _ _ _ (CELL_STAT_ne_BLK _ _).1, State.pstate, State.fld]

theorem State.setCellStat_physOf (F : Fld) : (s.setFld CELL_STAT c.val F v).physOf d = s.physOf d := by
  simp only [State.physOf, reg_setFld_other _ _ _ _ _ _ _ (CELL_STAT_ne_BLK _ _).2.1]

@[simp] theorem State.setLstate_lstate : (s.setLstate c v).lstate c = v % 8 := fld_setFld_same _ _ _ _ _ (by decide)
@[simp] theorem State.setLstate_pstate : (s.setLstate c v).pstate p = s.pstate p := s.setCellStat_pstate ..
@[simp] theorem State.setLstate_physOf : (s.setLstate c v).physOf d = s.physOf d := s.setCellStat_physOf ..

theorem State.setLstate_lstate_other {d : Fin 128} (h : d ≠ c) : (s.setLstate c v).lstate d = s.lstate d := by
  rw [State.lstate, State.fld, State.setLstate, reg_setFld_other _ _ _ _ _ _ _ fun e => h (Fin.ext (CELL_STAT_injective e)),
    State.lstate, State.fld]

@[simp] theorem State.evDrop_lstate : (s.evDrop c n).lstate d = s.lstate d := by
  by_cases h : d = c
  · rw [h]
    exact fld_setFld_apart _ _ _ _ _ _ (by decide) (by decide) (by decide)
  · rw [State.lstate, State.fld, State.evDrop, reg_setFld_other _ _ _ _ _ _ _ fun e => h (Fin.ext (CELL_STAT_injective e)),
      State.lstate, State.fld]

@[simp] theorem State.evDrop_pstate : (s.evDrop c n).pstate p = s.pstate p := s.setCellStat_pstate ..
@[simp] theorem State.evDrop_physOf : (s.evDrop c n).physOf d = s.physOf d := s.setCellStat_physOf ..

@[simp] theorem State.setPstate_lstate : (s.setPstate p v).lstate c = s.lstate c := by
  rw [State.lstate, State.fld, State.setPstate, reg_setFld_other _ _ _ _ _ _ _ (CELL_STAT_ne_BLK _ _).1.symm, State.lstate, State.fld]

@[simp] theorem State.setPstate_physOf : (s.setPstate p v).physOf c = s.physOf c := by
  simp only [State.physOf, State.setPstate, reg_setFld_other _ _ _ _ _ _ _ (CELL_STAT_ne_BLK _ _).2.2]

@[simp] theorem State.setPstate_pstate : (s.setPstate p v).pstate p = v % 2 ^ 4 := by
  have hwidth : (fldAt 4 (p.val % 8)).hi + 1 - (fldAt 4 (p.val % 8)).lo = 4 := by simp only [fldAt]; omega
  refine (fld_setFld_same _ _ _ _ _ (by simp only [fldAt]; omega)).trans ?_
  rw [hwidth]

theorem State.setPstate_pstate_other {q : Fin 128} (h : q ≠ p) : (s.setPstate p v).pstate q = s.pstate q := by
  have hval : q.val ≠ p.val := fun e => h (Fin.ext e)
  by_cases hb : q.val / 8 = p.val / 8
  · simp only [State.pstate, State.setPstate, hb]
    exact fld_setFld_apart _ _ _ _ _ _ (by simp only [fldAt]; omega) (by simp only [fldAt]; omega) (by simp only [fldAt]; omega)
  · rw [State.pstate, State.fld, State.setPstate, reg_setFld_other _ _ _ _ _ _ _ fun e => hb (BLK_PSTATE_injective e), State.pstate,
      State.fld]

end

/-! ### A cell stopped -/

/-- What an abort leaves of a physical cell's run. -/
def Phys.aborted (ph : Phys) : Phys := { ph.halt with wbuf := [], fifo := [] }

/-- Physical cell `p` without its run, in state `v`. -/
def State.clearPhys (s : State) (p : Fin 128) (v : Nat) : State := (s.modPhys p Phys.aborted).setPstate p v

/-- Logical cell `c` of physical cell `p` is stopped; `n` entries were discarded. -/
def State.haltCell (s : State) (c p : Fin 128) (n : Nat) : State :=
  ((((s.holdCycle c).clearPhys p 0).evDrop c n).setLstate c 0).modCell c fun l => { l with work := .none, twin := none }

/-- The groups bound to a cell take the abort pattern. -/
def State.abortBound (s : State) (c : Fin 128) : State := (s.boundGroups c).foldl (fun s g => s.abortGroup g) s

section

variable {C : Fin 128 → Prop} {s t : State} {c d p q : Fin 128} {n v : Nat}

/-- An abort of a cell without a twin and without other work. -/
theorem State.abortCell_plain (h : s.plainCell c) : s.abortCell c = match s.physOf c with
    | some p => if s.lstate c = 1 then (s.abortBound c).haltCell c p (vget s.phys p).fifo.length else s.abortBound c
    | none => s.abortBound c := by
  obtain ⟨htwin, hwork⟩ := h
  unfold State.abortCell
  simp only [hwork, htwin]
  cases hp : s.physOf c with
  | none => rfl
  | some p =>
    by_cases hrun : s.lstate c = 1
    · simp only [hrun]
      rfl
    · have hidle : (s.lstate c == 1 || CellWork.none != CellWork.none) = false := by simp [hrun]
      simp only [hidle, if_neg hrun]
      rfl

theorem State.abortBound_step (s : State) (c : Fin 128) : State.AbortStep C s (s.abortBound c) :=
  .foldl (fun s g _ => s.abortGroup_step g) s

/-- The groups aborted leave the cells' registers, and all events. -/
theorem State.abortBound_aside (s : State) (c : Fin 128) :
    s.classRegs (s.abortBound c) 2 ∧ (s.abortBound c).gal.events = s.gal.events := by
  refine List.foldlRecOn (motive := fun t => s.classRegs t 2 ∧ t.gal.events = s.gal.events) _ _ ⟨.refl s _, rfl⟩ ?_
  rintro t ⟨hregs, hevents⟩ g -
  have hpattern := (t.setAbort g).patternSet_aside g
  exact ⟨(State.regsBut.trans hregs (t.setAbort_class g (by decide))).trans (hpattern.regs.classRegs (by decide)),
    hpattern.frame.events.trans hevents⟩

theorem State.classRegs.physOf (h : s.classRegs t 2) : t.physOf c = s.physOf c := by
  simp only [State.physOf, h.reg (abortClass_map ⟨c.val / 8, by omega⟩)]

@[simp] theorem State.clearPhys_lstate : (s.clearPhys p v).lstate c = s.lstate c := State.setPstate_lstate ..
@[simp] theorem State.clearPhys_physOf : (s.clearPhys p v).physOf c = s.physOf c := State.setPstate_physOf ..
theorem State.clearPhys_pstate : (s.clearPhys p v).pstate p = v % 2 ^ 4 := State.setPstate_pstate ..
theorem State.clearPhys_pstate_other (h : q ≠ p) : (s.clearPhys p v).pstate q = s.pstate q := State.setPstate_pstate_other _ _ _ h

theorem State.modCell_lstate (s : State) (c d : Fin 128) (f : LCell → LCell) : (s.modCell c f).lstate d = s.lstate d := rfl
theorem State.modCell_pstate (s : State) (c q : Fin 128) (f : LCell → LCell) : (s.modCell c f).pstate q = s.pstate q := rfl
theorem State.modCell_physOf (s : State) (c d : Fin 128) (f : LCell → LCell) : (s.modCell c f).physOf d = s.physOf d := rfl

theorem State.haltCell_lstate : (s.haltCell c p n).lstate c = 0 := by
  rw [State.haltCell, State.modCell_lstate, State.setLstate_lstate]

theorem State.haltCell_lstate_other (h : d ≠ c) : (s.haltCell c p n).lstate d = s.lstate d := by
  rw [State.haltCell, State.modCell_lstate, State.setLstate_lstate_other _ _ _ h, State.evDrop_lstate, State.clearPhys_lstate,
    State.holdCycle, State.modCell_lstate]

theorem State.haltCell_physOf : (s.haltCell c p n).physOf d = s.physOf d := by
  rw [State.haltCell, State.modCell_physOf, State.setLstate_physOf, State.evDrop_physOf, State.clearPhys_physOf,
    State.holdCycle, State.modCell_physOf]

theorem State.haltCell_pstate : (s.haltCell c p n).pstate p = 0 := by
  rw [State.haltCell, State.modCell_pstate, State.setLstate_pstate, State.evDrop_pstate, State.clearPhys_pstate,
    Nat.zero_mod]

theorem State.haltCell_pstate_other (h : q ≠ p) : (s.haltCell c p n).pstate q = s.pstate q := by
  rw [State.haltCell, State.modCell_pstate, State.setLstate_pstate, State.evDrop_pstate, State.clearPhys_pstate_other h,
    State.holdCycle, State.modCell_pstate]

theorem State.haltCell_phys : (s.haltCell c p n).phys = vset s.phys p (vget s.phys p).aborted := rfl

/-- The cell is stopped, and nothing of its run is left. -/
theorem State.haltCell_halted : (s.haltCell c p n).haltedOn c p ∧ (vget (s.haltCell c p n).phys p).fifo = [] := by
  have hphys : vget (s.haltCell c p n).phys p = (vget s.phys p).aborted := by rw [State.haltCell_phys, vget_vset_same]
  refine ⟨⟨State.haltCell_lstate, State.haltCell_pstate, ?_⟩, ?_⟩
  · rw [hphys]
    rfl
  · rw [hphys]
    rfl

theorem State.haltCell_stops (hp : s.physOf c = some p) : s.stops (s.haltCell c p n) := by
  have hpstate {q : Fin 128} (hq : s.pstate q = 0) : (s.haltCell c p n).pstate q = 0 := by
    by_cases h : q = p
    · rw [h]
      exact State.haltCell_pstate
    · rw [State.haltCell_pstate_other h]
      exact hq
  have hwbuf {q : Fin 128} (hq : (vget s.phys q).wbuf = []) : (vget (s.haltCell c p n).phys q).wbuf = [] := by
    rw [State.haltCell_phys, vget_vset]
    split
    · rfl
    · exact hq
  constructor
  · rintro d q ⟨hmap, hrun⟩
    by_cases h : d = c
    · subst h
      rw [Option.some.inj (hmap.symm.trans hp)]
      exact .inr State.haltCell_halted.1
    · exact .inl ⟨State.haltCell_physOf.trans hmap, (State.haltCell_lstate_other h).trans hrun⟩
  · rintro d q ⟨hstop, hidle, hempty⟩
    refine ⟨?_, hpstate hidle, hwbuf hempty⟩
    by_cases h : d = c
    · rw [h]
      exact State.haltCell_lstate
    · exact (State.haltCell_lstate_other h).trans hstop

/-! ### Any abort of a cell, whatever its work -/

theorem State.AbortBaseStep.refl (s : State) : s.AbortBaseStep s := (State.AbortStep.refl (C := fun _ => False) s).base

/-- A write of a register of cells or blocks. -/
theorem State.setCellReg_base {f : RegFam} {i : Nat} (F : Fld) (v : Nat) (h : abortClass (f.addr i) = 2) :
    s.AbortBaseStep (s.setFld f i F v) :=
  State.AbortFrame.base rfl (s.setFld_regsBut F v (.inr h))

theorem State.setLstate_base (s : State) (c : Fin 128) (v : Nat) : s.AbortBaseStep (s.setLstate c v) :=
  State.setCellReg_base _ _ (abortClass_cell c)

theorem State.evDrop_base (s : State) (c : Fin 128) (n : Nat) : s.AbortBaseStep (s.evDrop c n) :=
  State.setCellReg_base _ _ (abortClass_cell c)

theorem State.mapCell_base (s : State) (c : Fin 128) (p : Option (Fin 128)) : s.AbortBaseStep (s.mapCell c p) :=
  State.setCellReg_base _ _ (abortClass_map ⟨c.val / 8, by omega⟩)

theorem State.modPhys_base (s : State) (p : Fin 128) (f : Phys → Phys) : s.AbortBaseStep (s.modPhys p f) :=
  State.AbortFrame.base rfl (State.regsBut.of_regs (s := s) (t := s.modPhys p f) rfl _)

theorem State.clearPhys_base (s : State) (p : Fin 128) (v : Nat) : s.AbortBaseStep (s.clearPhys p v) :=
  (s.modPhys_base p _).trans (State.setCellReg_base _ _ (abortClass_pstate ⟨p.val / 8, by omega⟩))

theorem State.modCell_base (s : State) (c : Fin 128) {f : LCell → LCell}
    (hf : ∀ l, l.twin = none ∧ l.work = .none → (f l).twin = none ∧ (f l).work = .none) : s.AbortBaseStep (s.modCell c f) := by
  intro hgal hecho
  refine ⟨hgal, hecho, rfl, rfl, fun d hd => ?_, fun _ hg => hg, fun _ _ hi => hi, fun _ hj => hj⟩
  rw [State.plainCell, State.modCell, vget_vset]
  split
  · next h =>
    rw [h] at hd
    exact hf _ hd
  · exact hd

theorem State.holdCycle_base (s : State) (c : Fin 128) : s.AbortBaseStep (s.holdCycle c) :=
  s.modCell_base c (f := fun l => { l with cyc := s.clCycle c, cycAt := s.cellTick }) fun _ h => h

theorem State.haltCell_base (s : State) (c p : Fin 128) (n : Nat) : s.AbortBaseStep (s.haltCell c p n) :=
  ((((s.holdCycle_base c).trans (State.clearPhys_base _ p 0)).trans (State.evDrop_base _ c n)).trans
    (State.setLstate_base _ c 0)).trans (State.modCell_base _ c fun _ _ => ⟨rfl, rfl⟩)

/-- A spare returns to its logical cell. -/
def State.spareBack (s : State) (p l : Nat) : State :=
  ((s.clearPhys (Fin.ofNat 128 p) 2).mapCell (Fin.ofNat 128 l) (some (Fin.ofNat 128 p))).setLstate (Fin.ofNat 128 l) 4

theorem State.spareBack_base (s : State) (p l : Nat) : s.AbortBaseStep (s.spareBack p l) :=
  ((s.clearPhys_base _ 2).trans (State.mapCell_base _ _ _)).trans (State.setLstate_base _ _ 4)

theorem State.abortCell_base (s : State) (c : Fin 128) : s.AbortBaseStep (s.abortCell c) := by
  have h0 : s.AbortBaseStep (s.abortBound c) := (s.abortBound_step (C := fun _ => False) c).base
  unfold State.abortCell
  extract_lets clear s0 back twin
  change s.AbortBaseStep s0 at h0
  split
  · next p po _ _ _ _ _ second _ =>
    extract_lets m s1 s2
    have hback (u : State) (p l : Nat) : u.AbortBaseStep (back u p l) := u.spareBack_base p l
    have h1 : s.AbortBaseStep s1 := ((h0.trans (State.evDrop_base _ c m)).trans (State.mapCell_base _ c none)).trans (hback _ p po)
    have h2 : s.AbortBaseStep s2 := by
      unfold s2
      split
      · next q l _ => exact (h1.trans (State.mapCell_base _ _ none)).trans (hback _ q l)
      · exact h1
    exact (h2.trans (State.setLstate_base _ c 0)).trans (State.modCell_base _ c fun _ h => ⟨h.1, rfl⟩)
  · exact h0
  · next p _ _ =>
    split
    · extract_lets m s1
      clear_value twin
      have h1 : s.AbortBaseStep s1 := h0.trans (State.haltCell_base s0 c p m)
      cases twin with
      | none => exact h1
      | some q => exact (h1.trans (State.clearPhys_base _ (Fin.ofNat 128 q) 0)).trans (State.setLstate_base _ _ 0)
    · exact h0

/-- An abort of a cell keeps what an abort relies on. -/
theorem State.abortCell_step (hc : C c) : State.AbortStep C s (s.abortCell c) := by
  intro hgal hecho
  refine ⟨s.abortCell_base c hgal hecho, fun hC => ?_⟩
  have hbound := ((s.abortBound_step (C := C) c) hgal hecho).stops hC
  rw [State.abortCell_plain (hC c hc)]
  cases hp : s.physOf c with
  | none => exact hbound
  | some p =>
    dsimp only
    split
    · exact hbound.trans (State.haltCell_stops ((s.abortBound_aside c).1.physOf.trans hp))
    · exact hbound

/-! ### Cells stopped in a chain -/

/-- Cell `c` on `p` still runs or has been stopped, in a state whose events, sends and cells are sound. -/
structure State.AbortReady (C : Fin 128 → Prop) (s : State) (c p : Fin 128) : Prop where
  galOk : s.galOk
  echoOk : s.echoOk
  plain : ∀ d, C d → s.plainCell d
  cell : s.runsOn c p ∨ s.haltedOn c p

theorem State.AbortStep.ready (h : State.AbortStep C s t) (hs : State.AbortReady C s c p) : State.AbortReady C t c p := by
  have hk := h hs.galOk hs.echoOk
  refine ⟨hk.galOk, hk.echoOk, fun d hd => hk.plain d (hs.plain d hd), ?_⟩
  exact hs.cell.elim ((hk.stops hs.plain).runs c p) fun hh => .inr ((hk.stops hs.plain).halted c p hh)

theorem State.AbortStep.halted (h : State.AbortStep C s t) (hs : State.AbortReady C s c p) (hh : s.haltedOn c p) : t.haltedOn c p :=
  ((h hs.galOk hs.echoOk).stops hs.plain).halted c p hh

/-- A chain of parts of which one stops the cell where it runs. -/
theorem foldl_halts {α : Type} {f : State → α → State} {l : List α} {a : α} (ha : a ∈ l)
    (hstep : ∀ (s : State), ∀ b ∈ l, State.AbortStep C s (f s b))
    (hreach : ∀ s : State, s.plainCell c → s.galOk → s.echoOk → s.runsOn c p → (f s a).haltedOn c p) (hc : C c)
    (hs : State.AbortReady C s c p) : (l.foldl f s).haltedOn c p := by
  refine foldl_reaches (I := fun s => State.AbortReady C s c p) ha (fun s b hb hs => (hstep s b hb).ready hs)
    (fun s b hb hs hh => (hstep s b hb).halted hs hh) (fun s hs => ?_) hs
  rcases hs.cell with hrun | hh
  · exact hreach s (hs.plain c hc) hs.galOk hs.echoOk hrun
  · exact (hstep s a ha).halted hs hh

theorem State.abortOneCell_step (hc : C c) : State.AbortStep C s (s.abortOneCell c) :=
  (State.abortCell_step hc).trans (State.abortEvents_step _ _)

/-- A RUNNING cell aborted. -/
theorem State.abortCell_halts (hplain : s.plainCell c) (hrun : s.runsOn c p) :
    (s.abortCell c).haltedOn c p ∧ (vget (s.abortCell c).phys p).fifo = [] := by
  obtain ⟨hmap, hstate⟩ := hrun
  rw [State.abortCell_plain hplain, hmap]
  dsimp only
  rw [if_pos hstate]
  exact State.haltCell_halted

theorem State.abortOneCell_halts (hplain : s.plainCell c) (hgal : s.galOk) (hecho : s.echoOk) (hrun : s.runsOn c p) :
    (s.abortOneCell c).haltedOn c p := by
  have hcell := s.abortCell_base c hgal hecho
  have hevents := (s.abortCell c).abortEvents_step (C := fun _ => False) (fun e => e.toCell c.val) hcell.galOk hcell.echoOk
  exact (hevents.stops fun _ h => h.elim).halted c p (State.abortCell_halts hplain hrun).1

/-- Without an event for it the FIFO of an aborted cell stays empty. -/
theorem State.abortOneCell_fifo (hplain : s.plainCell c) (hrun : s.runsOn c p) (hnone : ∀ e ∈ s.gal.events, e.toCell c.val = false) :
    (vget (s.abortOneCell c).phys p).fifo = [] := by
  have hevents : (s.abortCell c).gal.events = s.gal.events := by
    rw [State.abortCell_plain hplain, hrun.1]
    dsimp only
    rw [if_pos hrun.2]
    exact (s.abortBound_aside c).2
  rw [State.abortOneCell, State.abortEvents_none _ (by rwa [hevents])]
  exact (State.abortCell_halts hplain hrun).2

/-! ### Blocks -/

/-- Cell `l` of block `b` aborted with its block. -/
def State.abortBlockCell (s : State) (b l : Nat) : State :=
  let c := Fin.ofNat 128 (8 * b + l)
  if s.lstate c == 1 || s.lstate c == 2 || (vget s.lcell c).work != .none then s.abortOneCell c
  else s.abortEvents fun e => e.toCell c.val

theorem State.abortBlockCell_step {b l : Nat} (hc : C (Fin.ofNat 128 (8 * b + l))) : State.AbortStep C s (s.abortBlockCell b l) :=
  .ite (fun _ => State.abortOneCell_step hc) fun _ => s.abortEvents_step _

theorem State.abortBlock_step {b : Nat} (hC : ∀ l < 8, C (Fin.ofNat 128 (8 * b + l))) : State.AbortStep C s (s.abortBlock b) :=
  .foldl (fun _ l hl => State.abortBlockCell_step (hC l (List.mem_range.1 hl))) s

/-- A RUNNING cell of an aborted block is stopped. -/
theorem State.abortBlock_halts {b : Nat} (hC : ∀ l < 8, C (Fin.ofNat 128 (8 * b + l))) (hb : c.val / 8 = b)
    (hs : State.AbortReady C s c p) : (s.abortBlock b).haltedOn c p := by
  have hcell : Fin.ofNat 128 (8 * b + c.val % 8) = c := by
    apply Fin.ext
    simp only [Fin.ofNat]
    omega
  refine foldl_halts (f := fun s l => s.abortBlockCell b l) (List.mem_range.2 (show c.val % 8 < 8 by omega))
    (fun _ l hl => State.abortBlockCell_step (hC l (List.mem_range.1 hl))) (fun s hplain hgal hecho hrun => ?_)
    (hcell ▸ hC (c.val % 8) (by omega)) hs
  have hone : s.abortBlockCell b (c.val % 8) = s.abortOneCell c := by
    unfold State.abortBlockCell
    rw [hcell]
    exact if_pos (by simp [hrun.2])
  rw [hone]
  exact State.abortOneCell_halts hplain hgal hecho hrun

end

end Sys2Proof.Machine


/-! ## Aborts: peripherals of a region (R263, R333, R357, R379, R554) -/

namespace Sys2Proof.Machine

section

variable {C : Fin 128 → Prop} {s t : State}

/-! ### Entries for bound cells -/

theorem State.evDrop_step (s : State) (c : Fin 128) (n : Nat) : State.AbortStep C s (s.evDrop c n) := by
  refine (s.evDrop_base c n).step fun _ => ⟨fun d p ⟨hmap, hrun⟩ => .inl ⟨?_, ?_⟩, fun d p ⟨hstop, hidle, hempty⟩ => ⟨?_, ?_, hempty⟩⟩
  · rwa [State.evDrop_physOf]
  · rwa [State.evDrop_lstate]
  · rwa [State.evDrop_lstate]
  · rwa [State.evDrop_pstate]

theorem State.pmcCount_step (s : State) (c : Fin 128) (e : Nat) : State.AbortStep C s (s.pmcCount c e) := by
  refine State.AbortBaseStep.step ?_ fun _ => .of_same (State.regsBut.of_regs (s := s) (t := s.pmcCount c e) rfl _) fun _ => rfl
  refine s.modCell_base c fun l hl => ?_
  refine List.foldlRecOn (motive := fun m : LCell => m.twin = none ∧ m.work = .none) _ _ hl fun m hm k _ => ?_
  dsimp only
  split
  · split
    · exact hm
    · exact hm
  · exact hm

theorem State.pushFifo_aside {c : Fin 128} {e : FifoEntry} (h : s.pushFifo c e = some t) : s.AbortAside t where
  frame := by
    unfold State.AbortFrame
    rw [State.pushFifo_phys h]
  regs := .of_regs (by rw [State.pushFifo_phys h])
  wbuf := State.pushFifo_wbuf h

theorem State.notifyCell_step (s : State) (c : Fin 128) (vec payload : Nat) : State.AbortStep C s (s.notifyCell c vec payload) := by
  unfold State.notifyCell
  split
  · next h => exact (State.pushFifo_aside h).step
  · exact .ite (fun _ => s.pmcCount_step c _) fun _ => s.evDrop_step c 1

/-! ### The units of an axis -/

theorem abortClass_axis : ∀ x : Fin 8, abortClass (SSX_STAT.addr x.val) = 0 ∧ abortClass (SSX_CFG.addr x.val) = 0 ∧
    abortClass (AX_CFG.addr x.val) = 0 ∧ abortClass (SPF_CFG.addr x.val) = 0 ∧ abortClass (SH_CFG.addr x.val) = 0 ∧
    abortClass (OPP_CFG.addr x.val) = 0 ∧ abortClass (OPP_STAT.addr x.val) = 0 := by decide

theorem State.modU_aside (s : State) (x : Fin 8) (f : AxisU → AxisU) : s.AbortAside (s.modU x f) := ⟨rfl, .of_regs rfl, fun _ => rfl⟩

theorem State.ssxEntry_step (s : State) (x : Fin 8) : State.AbortStep C s (s.ssxEntry x) := by
  unfold State.ssxEntry
  extract_lets c vec v
  split
  · next h => exact (State.pushFifo_aside h).step
  · exact (s.notifyCell_step c vec v).trans (State.setFld_aside _ _ _ (abortClass_axis x).1).step

theorem State.ssxMaskTo_aside (s : State) (x : Fin 8) (m : Nat) : s.AbortAside (s.ssxMaskTo x m) :=
  (s.setFld_aside SSX_STAT_STATE m (abortClass_axis x).1).trans (State.setMidx_aside _ _ m)

theorem State.ssxGo_step (s : State) (x : Fin 8) (ph m : Nat) : State.AbortStep C s (s.ssxGo x ph m) :=
  (((s.setFld_aside SSX_STAT_PHASE ph (abortClass_axis x).1).trans (State.ssxMaskTo_aside _ x m)).trans
    (State.modU_aside _ x _)).step.trans (State.ssxEntry_step _ x)

theorem State.ssxStop_step (s : State) (x : Fin 8) : State.AbortStep C s (s.ssxStop x) :=
  .ite (fun _ => .refl s) fun _ => (s.modU_aside x _).step.trans (State.ssxGo_step _ x 0 6)

/-- The units of an axis switched off, apart from the player's command. -/
def State.axisOff (s : State) (x : Fin 8) : State :=
  (((((s.setBit SSX_CFG x.val SSX_CFG_EN false).setBit AX_CFG x.val AX_CFG_EN false).setBit SPF_CFG x.val SPF_CFG_EN false).setBit
    SH_CFG x.val SH_CFG_EN false).setBit OPP_CFG x.val OPP_CFG_EN false).setOpp x 0

theorem State.axisOff_aside (s : State) (x : Fin 8) : s.AbortAside (s.axisOff x) := by
  obtain ⟨-, hssx, hax, hspf, hsh, hopp, hstat⟩ := abortClass_axis x
  exact (((((s.setFld_aside SSX_CFG_EN _ hssx).setFld AX_CFG_EN _ hax).setFld SPF_CFG_EN _ hspf).setFld SH_CFG_EN _ hsh).setFld
    OPP_CFG_EN _ hopp).setFld OPP_STAT_STATE 0 hstat

theorem State.axisAbort_step (s : State) (x : Fin 8) : State.AbortStep C s (s.axisAbort x) :=
  ((s.ssxStop_step x).trans (State.axisOff_aside _ x).step).trans
    (State.modU_aside _ x fun u => { u with opp := { u.opp with cmd := none, stop := none } }).step

/-! ### Converters, inputs, comparators and the rest -/

/-- A step that leaves what an abort relies on, apart from converters: their queues may empty. -/
theorem State.AbortStep.of_adc (hqueue : ∀ j, (s.cv j).queue = [] → (t.cv j).queue = []) (h : s.AbortAside { t with adc := s.adc }) :
    State.AbortStep C s t := by
  intro hgal hecho
  obtain ⟨⟨hevents, hsends, howner, hres, hplain, hpattern, hdsm, -⟩, hstops⟩ := h.step (C := C) hgal hecho
  exact ⟨⟨hevents, hsends, howner, hres, hplain, hpattern, hdsm, hqueue⟩, fun hC => ⟨(hstops hC).runs, (hstops hC).halted⟩⟩

theorem abortClass_adc : ∀ j : Fin 16, abortClass (ADC_TRGDROP.addr j.val) = 0 := by decide

theorem State.adcStop_queue (s : State) (j k : Fin 16) : ((s.adcStop j).cv k).queue = if k = j then [] else (s.cv k).queue := by
  rw [State.cv, State.adcStop, State.modAdc, vget_vset]
  split
  · rfl
  · rfl

theorem State.adcStop_step (s : State) (j : Fin 16) : State.AbortStep C s (s.adcStop j) := by
  refine .of_adc (fun k hk => ?_) (s.setFld_aside ADC_TRGDROP_DROPPED _ (abortClass_adc j))
  rw [State.adcStop_queue]
  split
  · rfl
  · exact hk

/-- A delta-sigma input switched off. -/
def State.dsmStop (s : State) (i : Nat) : State := s.setBit DSM_CFG i DSM_CFG_EN false

theorem DSM_CFG_injective : ∀ i j : Fin 32, DSM_CFG.addr i.val = DSM_CFG.addr j.val → i = j := by decide

theorem State.dsmStop_off (s : State) (i : Nat) : (s.dsmStop i).dsmOff i := bit_setBit_same _ _ _ _ _ (by decide)

theorem State.dsmStop_step {i : Nat} (hi : i < 32) : State.AbortStep C s (s.dsmStop i) := by
  have hclass {k : Nat} (hk : k ≠ 4) : s.classRegs (s.dsmStop i) k :=
    s.setReg_classRegs _ (by rw [abortClass_dsm ⟨i, hi⟩]; exact hk.symm)
  refine State.AbortBaseStep.step (fun hgal hecho => ?_) fun _ => .of_same (hclass (by decide)) fun _ => rfl
  refine ⟨hgal, hecho, rfl, (hclass (by decide)).reg abortClass_res, fun _ hc => hc, fun g hg => ?_, fun j hj hoff => ?_,
    fun _ hq => hq⟩
  · exact hg.of_same ((hclass (by decide)).reg (abortClass_gstat g)) rfl
  · by_cases hji : j = i
    · rw [hji]
      exact s.dsmStop_off i
    · refine hoff.of_same (reg_setFld_other _ _ _ _ _ _ _ fun e => hji ?_)
      exact congrArg Fin.val (DSM_CFG_injective ⟨j, hj⟩ ⟨i, hi⟩ e)

/-- A comparator's routes switched off. -/
def State.cmpStop (s : State) (i : Nat) : State :=
  ((s.setBit CMP_ROUTE i CMP_ROUTE_IE false).setBit CMP_ROUTE i CMP_ROUTE_NEV false).setBit CMP_ROUTE i CMP_ROUTE_WAKE false

theorem abortClass_cmp : ∀ i : Fin 64, abortClass (CMP_ROUTE.addr i.val) = 0 := by decide
theorem abortClass_sump : ∀ i : Fin 4, abortClass (SUMP_EVT.addr i.val) = 0 ∧ abortClass (LAN_EVT.addr i.val) = 0 ∧
    abortClass (LAN_IRQ.addr i.val) = 0 := by decide
theorem abortClass_pos : ∀ k : Fin 16, abortClass (POS_CMPCTL.addr k.val) = 0 ∧ abortClass (POS_CFG.addr k.val) = 0 := by decide

theorem State.cmpStop_aside {i : Nat} (hi : i < 64) : s.AbortAside (s.cmpStop i) :=
  ((s.setFld_aside CMP_ROUTE_IE _ (abortClass_cmp ⟨i, hi⟩)).setFld CMP_ROUTE_NEV _ (abortClass_cmp ⟨i, hi⟩)).setFld
    CMP_ROUTE_WAKE _ (abortClass_cmp ⟨i, hi⟩)

theorem State.modPos_aside (s : State) (k : Fin 16) (f : Pos → Pos) : s.AbortAside (s.modPos k f) := ⟨rfl, .of_regs rfl, fun _ => rfl⟩

theorem State.posAbort_aside (s : State) (k : Fin 16) : s.AbortAside (s.posAbort k) :=
  ((s.setFld_aside POS_CMPCTL_EV _ (abortClass_pos k).1).setFld POS_CFG_IE _ (abortClass_pos k).2).trans
    (State.modPos_aside _ k fun p => { p with armed := false, po0 := false, po1 := false, end0 := none, end1 := none })

theorem State.lanAbort_aside {r : Nat} (hr : r < 4) : s.AbortAside (s.lanAbort r) :=
  (s.setReg_aside 0 (abortClass_sump ⟨r, hr⟩).2.1).setFld LAN_IRQ_EN _ (abortClass_sump ⟨r, hr⟩).2.2

/-! ### All of a region -/

/-- The `n` units of region `r` of a kind, those that `mine` admits, each by `f`. -/
def State.eachUnit (s : State) (r n : Nat) (mine : Nat → Bool) (f : State → Nat → State) : State :=
  ((List.range n).map (n * r + ·)).foldl (fun s i => if mine i then f s i else s) s

theorem unit_mem {r n i : Nat} : i ∈ (List.range n).map (n * r + ·) ↔ i / n = r ∧ i < n * (r + 1) := by
  simp only [List.mem_map, List.mem_range]
  constructor
  · rintro ⟨k, hk, rfl⟩
    have hn : 0 < n := by omega
    refine ⟨?_, by rw [Nat.mul_add]; omega⟩
    rw [Nat.mul_add_div hn, Nat.div_eq_of_lt hk, Nat.add_zero]
  · rintro ⟨rfl, hi⟩
    have hn : 0 < n := Nat.pos_of_ne_zero (by rintro rfl; simp at hi)
    exact ⟨i % n, Nat.mod_lt _ hn, Nat.div_add_mod i n⟩

theorem unit_lt {r n i : Nat} (hr : r < 4) (hi : i ∈ (List.range n).map (n * r + ·)) : i < n * 4 :=
  (unit_mem.1 hi).2.trans_le (Nat.mul_le_mul_left n hr)

theorem State.eachUnit_step {r n : Nat} (hr : r < 4) {mine : Nat → Bool} {f : State → Nat → State}
    (hf : ∀ (s : State), ∀ i < n * 4, State.AbortStep C s (f s i)) : State.AbortStep C s (s.eachUnit r n mine f) :=
  .foldl (fun s i hi => .ite (fun _ => hf s i (unit_lt hr hi)) fun _ => .refl s) s

/-- What one unit brings about and every other keeps. -/
theorem State.eachUnit_reaches {r n i : Nat} (hr : r < 4) (hi : i / n = r ∧ i < n * (r + 1)) {mine : Nat → Bool} (hmine : mine i = true)
    {f : State → Nat → State} {P : State → Prop} (hf : ∀ (s : State), ∀ j < n * 4, State.AbortStep (fun _ => False) s (f s j))
    (hkeep : ∀ s t : State, s.AbortBase t → P s → P t) (hreach : ∀ s : State, P (f s i)) (hgal : s.galOk) (hecho : s.echoOk) :
    P (s.eachUnit r n mine f) := by
  have hstep (s : State) (j : Nat) (hj : j ∈ (List.range n).map (n * r + ·)) :
      State.AbortStep (fun _ => False) s (if mine j then f s j else s) :=
    .ite (fun _ => hf s j (unit_lt hr hj)) fun _ => .refl s
  refine foldl_reaches (I := fun s => s.galOk ∧ s.echoOk) (unit_mem.2 hi) ?_ ?_ ?_ ⟨hgal, hecho⟩
  · exact fun s j hj ⟨hgal, hecho⟩ => ⟨(hstep s j hj hgal hecho).galOk, (hstep s j hj hgal hecho).echoOk⟩
  · exact fun s j hj ⟨hgal, hecho⟩ hp => hkeep s _ (hstep s j hj hgal hecho).toAbortBase hp
  · intro s _
    rw [if_pos hmine]
    exact hreach s

/-- The parts of `abortPeriph`: converters, delta-sigma inputs, and the rest. -/
def State.abortAdc (s : State) (r : Nat) (mine : Nat → Nat → Bool) : State :=
  s.eachUnit r 4 (mine 0x03) fun s i => s.adcStop (Fin.ofNat 16 i)

def State.abortDsm (s : State) (r : Nat) (mine : Nat → Nat → Bool) : State := s.eachUnit r 8 (mine 0x06) State.dsmStop

def State.abortRest (s : State) (r : Nat) (mine : Nat → Nat → Bool) : State :=
  (((((s.eachUnit r 16 (mine 0x04) State.cmpStop).eachUnit r 1 (mine 0x08) fun s i => s.setReg SUMP_EVT i 0).eachUnit r 4 (mine 0x05)
    fun s i => s.posAbort (Fin.ofNat 16 i)).eachUnit r 1 (mine 0x09) fun s i => s.lanAbort i)).eachUnit r 2 (mine 0x0A)
    fun s i => s.axisAbort (Fin.ofNat 8 i)

theorem State.abortPeriph_eq (s : State) (r : Nat) (mine : Nat → Nat → Bool) :
    s.abortPeriph r mine = ((s.abortAdc r mine).abortDsm r mine).abortRest r mine := rfl

variable {r : Nat} {mine : Nat → Nat → Bool}

theorem State.abortAdc_step (hr : r < 4) : State.AbortStep C s (s.abortAdc r mine) :=
  State.eachUnit_step hr fun s _ _ => s.adcStop_step _

theorem State.abortDsm_step (hr : r < 4) : State.AbortStep C s (s.abortDsm r mine) :=
  State.eachUnit_step hr fun _ _ hi => State.dsmStop_step hi

theorem State.abortRest_step (hr : r < 4) : State.AbortStep C s (s.abortRest r mine) := by
  refine ((((State.eachUnit_step hr fun s i hi => ?_).trans (State.eachUnit_step hr fun s i hi => ?_)).trans
    (State.eachUnit_step hr fun s i _ => ?_)).trans (State.eachUnit_step hr fun s i hi => ?_)).trans
    (State.eachUnit_step hr fun s i _ => ?_)
  · exact (State.cmpStop_aside hi).step
  · exact (s.setReg_aside 0 (abortClass_sump ⟨i, hi⟩).1).step
  · exact (s.posAbort_aside _).step
  · exact (State.lanAbort_aside hi).step
  · exact s.axisAbort_step _

theorem State.abortPeriph_step (hr : r < 4) : State.AbortStep C s (s.abortPeriph r mine) := by
  rw [State.abortPeriph_eq]
  exact ((State.abortAdc_step hr).trans (State.abortDsm_step hr)).trans (State.abortRest_step hr)

/-- The converters' queues empty. -/
theorem State.abortPeriph_queue (hr : r < 4) (hgal : s.galOk) (hecho : s.echoOk) {j : Fin 16} (hj : j.val / 4 = r)
    (hmine : mine 0x03 j.val = true) : ((s.abortPeriph r mine).cv j).queue = [] := by
  have hadc : ((s.abortAdc r mine).cv j).queue = [] :=
    State.eachUnit_reaches (P := fun s => (s.cv j).queue = []) (i := j.val) hr ⟨hj, by omega⟩ hmine (fun s _ _ => s.adcStop_step _)
      (fun s t h hq => h.queue j hq) (fun s => by rw [State.adcStop_queue, if_pos (by simp)]) hgal hecho
  have h1 := (State.abortAdc_step (C := fun _ => False) (mine := mine) hr) hgal hecho
  have h2 := ((State.abortDsm_step (C := fun _ => False) (mine := mine) hr).trans (State.abortRest_step (mine := mine) hr))
    h1.galOk h1.echoOk
  rw [State.abortPeriph_eq]
  exact h2.queue j hadc

/-- The delta-sigma inputs are off. -/
theorem State.abortPeriph_dsm (hr : r < 4) (hgal : s.galOk) (hecho : s.echoOk) {i : Nat} (hi : i / 8 = r)
    (hmine : mine 0x06 i = true) : (s.abortPeriph r mine).dsmOff i := by
  have h1 := (State.abortAdc_step (C := fun _ => False) (mine := mine) hr) hgal hecho
  have hdsm : ((s.abortAdc r mine).abortDsm r mine).dsmOff i :=
    State.eachUnit_reaches (P := fun s => s.dsmOff i) (i := i) hr ⟨hi, by omega⟩ hmine (fun _ _ hj => State.dsmStop_step hj)
      (fun s t h hoff => h.dsm i (by omega) hoff) (fun s => s.dsmStop_off i) h1.galOk h1.echoOk
  have h2 := (State.abortDsm_step (C := fun _ => False) (mine := mine) hr) h1.galOk h1.echoOk
  rw [State.abortPeriph_eq]
  exact ((State.abortRest_step (C := fun _ => False) hr) h2.galOk h2.echoOk).dsm i (by omega) hdsm

end

end Sys2Proof.Machine


/-! ## Aborts: links (R471, R492) -/

namespace Sys2Proof.Machine

/-! ### CAN controllers and serial ports -/

section

variable {C : Fin 128 → Prop} {s t : State}

theorem abortClass_can : ∀ (k : Fin 8) (b : Fin 3), abortClass (CAN_TXB_RES.addr (txbIdx k b)) = 0 ∧ abortClass (CAN_STAT.addr k.val) = 0 :=
  by decide

theorem CAN_TXB_RES_injective : ∀ (k : Fin 8) (b d : Fin 3), CAN_TXB_RES.addr (txbIdx k b) = CAN_TXB_RES.addr (txbIdx k d) → b = d := by
  decide

theorem CAN_STAT_ne_TXB_RES : ∀ (k : Fin 8) (b : Fin 3), CAN_TXB_RES.addr (txbIdx k b) ≠ CAN_STAT.addr k.val := by decide

/-- A buffer ends where it is pending. -/
def State.txbEndPend (s : State) (k : Fin 8) (b : Fin 3) (status : Nat) : State := if s.txPend k b then s.txbEnd k b status else s

theorem State.txbEndPend_aside (s : State) (k : Fin 8) (b : Fin 3) (status : Nat) : s.AbortAside (s.txbEndPend k b status) := by
  unfold State.txbEndPend
  split
  · exact (s.setReg_aside _ (abortClass_can k b).1).setFld _ _ (abortClass_can k b).2
  · exact .refl s

theorem State.txbEndPend_reg (s : State) (k : Fin 8) (b d : Fin 3) (status : Nat) :
    (s.txbEndPend k b status).reg CAN_TXB_RES (txbIdx k d) =
      if d = b ∧ s.txPend k b = true then CAN_TXB_RES_STATUS.put 0 status else s.reg CAN_TXB_RES (txbIdx k d) := by
  unfold State.txbEndPend
  by_cases hpend : s.txPend k b = true
  · rw [if_pos hpend, State.txbEnd, reg_setFld_other _ _ _ _ _ _ _ (CAN_STAT_ne_TXB_RES k d)]
    by_cases hd : d = b
    · rw [hd, if_pos ⟨rfl, hpend⟩, reg_setReg_same]
    · rw [if_neg (fun h => hd h.1), reg_setReg_other _ _ _ _ _ _ fun e => hd (CAN_TXB_RES_injective k d b e)]
  · rw [if_neg hpend, if_neg (fun h => hpend h.2)]

theorem State.txbEndPend_pend_other (s : State) (k : Fin 8) {b d : Fin 3} (h : d ≠ b) (status : Nat) :
    (s.txbEndPend k b status).txPend k d = s.txPend k d := by
  rw [State.txPend, State.bit, State.fld, State.txbEndPend_reg, if_neg (fun e => h e.1), State.txPend, State.bit, State.fld]

theorem State.canEndAll_eq (s : State) (k : Fin 8) (status : Nat) : s.canEndAll k status =
    ((((s.txbEndPend k 0 status).txbEndPend k 1 status).txbEndPend k 2 status).modCan k fun c => { c with bus := none }) := rfl

theorem State.modCan_aside (s : State) (k : Fin 8) (f : CanCtl → CanCtl) : s.AbortAside (s.modCan k f) := ⟨rfl, .of_regs rfl, fun _ => rfl⟩

theorem State.canEndAll_aside (s : State) (k : Fin 8) (status : Nat) : s.AbortAside (s.canEndAll k status) := by
  rw [State.canEndAll_eq]
  exact (((s.txbEndPend_aside k 0 status).trans (State.txbEndPend_aside _ k 1 status)).trans
    (State.txbEndPend_aside _ k 2 status)).trans (State.modCan_aside _ k _)

/-- Every pending buffer has ended, and no other has changed. -/
theorem State.canEndAll_reg (s : State) (k : Fin 8) (b : Fin 3) (status : Nat) : (s.canEndAll k status).reg CAN_TXB_RES (txbIdx k b) =
    if s.txPend k b = true then CAN_TXB_RES_STATUS.put 0 status else s.reg CAN_TXB_RES (txbIdx k b) := by
  have hpend1 := s.txbEndPend_pend_other k (b := 0) (d := 1) (by decide) status
  have hpend2 := (State.txbEndPend_pend_other (s.txbEndPend k 0 status) k (b := 1) (d := 2) (by decide) status).trans
    (s.txbEndPend_pend_other k (b := 0) (d := 2) (by decide) status)
  rw [State.canEndAll_eq]
  refine (State.txbEndPend_reg _ k 2 b status).trans ?_
  rw [hpend2, State.txbEndPend_reg, hpend1, State.txbEndPend_reg]
  match b with
  | 0 => simp
  | 1 => simp
  | 2 => simp

theorem State.canEndAll_bus (s : State) (k : Fin 8) (status : Nat) : (vget (s.canEndAll k status).can k).bus = none := by
  rw [State.canEndAll_eq, State.modCan, vget_vset_same]

theorem abortClass_serial : (∀ k : Fin 4, abortClass (SPI_STAT.addr k.val) = 0) ∧ abortClass (XSPI_STAT.addr 0) = 0 ∧
    ∀ k : Fin 2, abortClass (UART_STAT.addr k.val) = 0 ∧ abortClass (I2C_STAT.addr k.val) = 0 ∧ abortClass (AVS_RES.addr k.val) = 0 := by
  decide

theorem State.modSpi_aside (s : State) (k : Fin 4) (f : SpiCtl → SpiCtl) : s.AbortAside (s.modSpi k f) := by
  have hstat := abortClass_serial.1 k
  have hspi (v : Vector SpiCtl 4) : s.AbortAside { s with spi := v } := ⟨rfl, .of_regs rfl, fun _ => rfl⟩
  exact (((hspi _).setFld SPI_STAT_TXCNT _ hstat).setFld SPI_STAT_RXCNT _ hstat).setFld SPI_STAT_BUSY _ hstat

theorem State.modUart_aside (s : State) (k : Fin 2) (f : UartCtl → UartCtl) : s.AbortAside (s.modUart k f) := by
  have hstat := (abortClass_serial.2.2 k).1
  have huart (v : Vector UartCtl 2) : s.AbortAside { s with uart := v } := ⟨rfl, .of_regs rfl, fun _ => rfl⟩
  exact (((huart _).setFld UART_STAT_TXCNT _ hstat).setFld UART_STAT_RXCNT _ hstat).setFld UART_STAT_TXBUSY _ hstat

theorem State.xspiAbort_aside (s : State) : s.AbortAside s.xspiAbort := by
  have hstat := abortClass_serial.2.1
  have hxspi (v : XspiCtl) : s.AbortAside { s with xspi := v } := ⟨rfl, .of_regs rfl, fun _ => rfl⟩
  unfold State.xspiAbort
  split
  · exact (((hxspi _).setFld XSPI_STAT_BUSY _ hstat).setFld XSPI_STAT_DONE _ hstat).setFld XSPI_STAT_STATUS _ hstat
  · exact .refl s

theorem State.xspiAbort_ends (s : State) : s.xspiAbort.xspi.cmd = none ∧
    (s.xspi.cmd ≠ none → s.xspiAbort.fld XSPI_STAT 0 XSPI_STAT_STATUS = stABORTED) := by
  unfold State.xspiAbort
  cases hcmd : s.xspi.cmd with
  | none => exact ⟨hcmd, fun h => absurd rfl h⟩
  | some v => exact ⟨rfl, fun _ => fld_setFld_same _ _ _ _ _ (by decide)⟩

theorem State.modI2c_aside (s : State) (k : Fin 2) (f : I2cCtl → I2cCtl) : s.AbortAside (s.modI2c k f) := ⟨rfl, .of_regs rfl, fun _ => rfl⟩

theorem State.i2cAbort_aside (s : State) (k : Fin 2) : s.AbortAside (s.i2cAbort k) :=
  (s.setFld_aside I2C_STAT_BUSY _ (abortClass_serial.2.2 k).2.1).trans (State.modI2c_aside _ k fun _ => { cmd := none, held := false })

theorem State.modAvs_aside (s : State) (k : Fin 2) (f : AvsCtl → AvsCtl) : s.AbortAside (s.modAvs k f) := ⟨rfl, .of_regs rfl, fun _ => rfl⟩

/-- What AVS_RES shows of a request aborted. -/
def avsAborted : Word := AVS_RES_DATA.put (AVS_RES_STATUS.put (AVS_RES_DONE.put 0 1) stABORTED) 0

/-- A request that is not the sequencer's ends. -/
theorem State.avsAbort_some {k : Fin 2} {q : AvsReq} (h : (s.avsc k).req = some q) (hseq : q.seq = false) :
    s.avsAbort k = (s.setReg AVS_RES k.val avsAborted).modAvs k fun c => { c with req := none } := by
  have hno : (decide (q.op = 0) && decide (stABORTED = stOK)) = false := by
    rw [show decide (stABORTED = stOK) = false from by decide, Bool.and_false]
  rw [State.avsAbort, h]
  dsimp only
  rw [hseq, State.avsEnd, h]
  dsimp only
  rw [hseq, hno]
  rfl

theorem State.avsAbort_aside (s : State) (k : Fin 2) : s.AbortAside (s.avsAbort k) := by
  cases h : (s.avsc k).req with
  | none =>
    rw [State.avsAbort, h]
    exact .refl s
  | some q =>
    cases hseq : q.seq with
    | true =>
      rw [State.avsAbort, h]
      simp only [hseq]
      exact .refl s
    | false =>
      rw [State.avsAbort_some h hseq]
      exact (s.setReg_aside _ (abortClass_serial.2.2 k).2.2).trans (State.modAvs_aside _ k _)

theorem State.avsAbort_ends {k : Fin 2} {q : AvsReq} (h : (s.avsc k).req = some q) (hseq : q.seq = false) :
    ((s.avsAbort k).avsc k).req = none ∧ (s.avsAbort k).fld AVS_RES k.val AVS_RES_STATUS = stABORTED := by
  rw [State.avsAbort_some h hseq]
  constructor
  · rw [State.avsc, State.modAvs, vget_vset_same]
  · have hreg : ((s.setReg AVS_RES k.val avsAborted).modAvs k fun c => { c with req := none }).reg AVS_RES k.val = avsAborted :=
      reg_setReg_same ..
    rw [State.fld, hreg]
    decide

end

/-! ### Echo ports -/

section

variable {C : Fin 128 → Prop} {s t : State}

/-- A step that leaves what an abort relies on, apart from the sends of Echo bindings. -/
theorem State.AbortStep.of_echo (hsends : s.echoOk → t.echoOk) (h : s.AbortAside { t with echo := s.echo }) : State.AbortStep C s t := by
  intro hgal hecho
  obtain ⟨⟨hevents, -, howner, hres, hplain, hpattern, hdsm, hqueue⟩, hstops⟩ := h.step (C := C) hgal hecho
  exact ⟨⟨hevents, hsends hecho, howner, hres, hplain, hpattern, hdsm, hqueue⟩, fun hC => ⟨(hstops hC).runs, (hstops hC).halted⟩⟩

theorem State.modSend_step (s : State) (b eseq : Nat) {f : ESend → ESend}
    (hf : s.echoOk → ∀ x ∈ s.echo.sends, (f x).bind < 32 ∧ (f x).ring < 16384) : State.AbortStep C s (s.modSend b eseq f) := by
  refine .of_echo (fun hecho y hy => ?_) (.refl s)
  obtain ⟨x, hx, rfl⟩ := List.mem_map.1 hy
  split
  · exact hf hecho x hx
  · exact hecho x hx

theorem abortClass_echo : ∀ k : Fin 4, abortClass (ECHO_STAT.addr k.val) = 0 := by decide

theorem State.echoOutcome_aside {b : Nat} (hb : b < 32) (eseq status mask : Nat) : s.AbortAside (s.echoOutcome b eseq status mask) := by
  unfold State.echoOutcome
  extract_lets c w0
  split
  · exact .refl s
  · split
    · exact .refl s
    · split
      · next h => exact State.ringPush_aside (Nat.mod_lt _ (by decide)) h
      · exact s.setFld_aside _ _ (abortClass_echo ⟨b / 16 * 2, by omega⟩)

theorem State.echoReport_step {b : Nat} (hb : b < 32) (eseq : Nat) (event : Option (Nat × Nat)) (status mask : Nat) :
    State.AbortStep C s (s.echoReport b eseq event status mask) := by
  unfold State.echoReport
  split
  · split
    · next e he => exact .ite (fun _ => s.endEvent_step _ _ _ fun hgal => hgal e (State.eventAt_some he).1) fun _ => .refl s
    · exact .refl s
  · exact (State.echoOutcome_aside hb eseq status mask).step

theorem State.echoRetire_step (s : State) (b fuel : Nat) : State.AbortStep C s (s.echoRetire b fuel) := by
  induction fuel generalizing s with
  | zero => exact .refl s
  | succ fuel ih =>
    rw [State.echoRetire]
    split
    · next x hx =>
      refine .ite (fun _ => ?_) fun _ => .refl s
      intro hgal hecho
      have hring := (hecho x (List.mem_of_find?_eq_some hx)).2
      have herase : State.AbortStep C s { s with echo := { s.echo with sends := s.echo.sends.erase x } } :=
        .of_echo (fun hecho y hy => hecho y (List.mem_of_mem_erase hy)) (.refl s)
      have hidx : abortClass (GAL_RING_IDX.addr x.ring) = 0 := abortClass_gallery (by rw [GAL_RING_IDX_addr]; omega)
      exact ((herase.trans (State.setFld_aside _ GAL_RING_IDX_CONS _ hidx).step).trans (ih _)) hgal hecho
    · exact .refl s

/-- The outcome of a send whose units are all decided. -/
def State.echoResult (s : State) (x : ESend) : State :=
  (s.modSend x.bind x.eseq fun y => { y with result := some x.multi.outcome }).echoReport x.bind x.eseq x.event
    x.multi.outcome.1 x.multi.outcome.2

theorem State.echoFinish_eq (s : State) (x : ESend) :
    s.echoFinish x = (s.echoResult x).echoRetire x.bind (s.echoResult x).echo.sends.length := rfl

theorem State.echoFinish_step {x : ESend} (hb : x.bind < 32) : State.AbortStep C s (s.echoFinish x) := by
  have hresult : State.AbortStep C s (s.echoResult x) :=
    (s.modSend_step x.bind x.eseq (f := fun y => { y with result := some x.multi.outcome }) fun hecho y hy => hecho y hy).trans
      (State.echoReport_step hb _ _ _ _)
  rw [State.echoFinish_eq]
  exact hresult.trans (State.echoRetire_step _ _ _)

theorem State.echoDecide_step (s : State) (b eseq u status : Nat) : State.AbortStep C s (s.echoDecide b eseq u status) := by
  unfold State.echoDecide
  split
  · exact .refl s
  · next x hx =>
    refine .ite (fun _ => .refl s) fun _ => ?_
    intro hgal hecho
    have hsound := hecho x (List.mem_of_find?_eq_some hx)
    extract_lets y s1
    have h1 : State.AbortStep C s s1 := s.modSend_step b eseq fun _ _ _ => hsound
    split
    · exact (h1.trans (State.echoFinish_step (x := y) hsound.1)) hgal hecho
    · exact h1 hgal hecho

/-- An abort of a port keeps what an abort relies on. -/
theorem State.echoAbort_step (s : State) (k : Nat) (mine : Nat → Bool) : State.AbortStep C s (s.echoAbort k mine) := by
  have hport (f : EPort → EPort) : State.AbortStep C s (s.modEp k f) := .of_echo (fun hecho => hecho) (.refl s)
  refine (hport _).trans (.foldl (fun s x _ => .foldl (fun s u _ => ?_) s) _)
  exact .ite (fun _ => s.echoDecide_step _ _ _ _) fun _ => .refl s

/-! The ports while sends end -/

theorem State.endEvent_echo (s : State) (e : GEvent) (status mask : Nat) (quiet : Bool) :
    (s.endEvent e status mask quiet).echo = s.echo := by
  rw [s.endEvent_frame e status mask quiet, s.freeSlot_frame e]

theorem State.echoReport_echo (s : State) (b eseq : Nat) (event : Option (Nat × Nat)) (status mask : Nat) :
    (s.echoReport b eseq event status mask).echo = s.echo := by
  unfold State.echoReport
  split
  · split
    · split
      · exact s.endEvent_echo ..
      · rfl
    · rfl
  · unfold State.echoOutcome
    extract_lets c w0
    split
    · rfl
    · split
      · rfl
      · split
        · next h => rw [State.ringPush_frame h]
        · rfl

theorem State.echoRetire_port (s : State) (b fuel : Nat) : (s.echoRetire b fuel).echo.port = s.echo.port := by
  induction fuel generalizing s with
  | zero => rfl
  | succ fuel ih =>
    rw [State.echoRetire]
    split
    · split
      · exact ih _
      · rfl
    · rfl

theorem State.echoFinish_port (s : State) (x : ESend) : (s.echoFinish x).echo.port = s.echo.port := by
  rw [State.echoFinish_eq, State.echoRetire_port, State.echoResult, State.echoReport_echo]
  rfl

theorem State.echoDecide_port (s : State) (b eseq u status : Nat) : (s.echoDecide b eseq u status).echo.port = s.echo.port := by
  unfold State.echoDecide
  split
  · rfl
  · split
    · rfl
    · extract_lets y s1
      split
      · exact State.echoFinish_port _ _
      · rfl

/-- A port without the frames of its own that `mine` admits. -/
def State.dropOwn (s : State) (k : Nat) (mine : Nat → Bool) : State :=
  s.modEp k fun p => { p with queue := p.queue.filter fun f =>
    match f.own with
    | some (b, _, _) => !mine (s.fld ECHO_TXB b ECHO_TXB_RING)
    | none => true }

theorem State.echoAbort_port (s : State) (k : Nat) (mine : Nat → Bool) :
    (s.echoAbort k mine).echo.port = (s.dropOwn k mine).echo.port := by
  refine List.foldlRecOn (motive := fun t : State => t.echo.port = (s.dropOwn k mine).echo.port) _ _ rfl fun t ht x _ => ?_
  refine List.foldlRecOn (motive := fun u : State => u.echo.port = (s.dropOwn k mine).echo.port) _ _ ht fun u hu y _ => ?_
  split
  · exact (u.echoDecide_port ..).trans hu
  · exact hu

/-- An aborted port keeps no frame of its own (R471). -/
theorem State.echoAbort_queue (s : State) (k : Nat) : ∀ f ∈ ((s.echoAbort k fun _ => true).ep k).queue, f.own = none := by
  intro f hf
  rw [State.ep, State.echoAbort_port, State.dropOwn, State.modEp, vget_vset_same] at hf
  have hkept := (List.mem_filter.1 hf).2
  cases hown : f.own with
  | none => rfl
  | some x => simp [hown] at hkept

theorem State.abortEvents_echo (s : State) (hit : GEvent → Bool) : (s.abortEvents hit).echo = s.echo := by
  refine List.foldlRecOn (motive := fun t : State => t.echo = s.echo) _ _ rfl fun t ht e _ => ?_
  dsimp only
  split
  · split
    · split
      · exact (t.endEvent_echo ..).trans ht
      · exact ht
    · exact ht
  · exact ht

end

end Sys2Proof.Machine


/-! ## Aborts: a link, a region, a chamber (R471, R531) -/

namespace Sys2Proof.Machine

section

variable {C : Fin 128 → Prop} {s t : State}

/-! ### A link -/

section

variable (s : State) (mine : Nat → Bool)

theorem State.abortLink_can (k : Fin 8) : s.abortLink k.val mine = s.canEndAll k stABORTED := by
  rw [State.abortLink, if_pos k.isLt, Fin.ofNat_val_eq_self]

theorem State.abortLink_eth {n : Nat} (h : 0x08 ≤ n) (hn : n < 0x0C) : s.abortLink n mine = s := by
  rw [State.abortLink, if_neg (by omega), if_pos hn]

theorem State.abortLink_echo (k : Fin 4) : s.abortLink (0x0C + k.val) mine = (s.echoAbort k.val mine).abortEvents (s.toPort k.val) := by
  rw [State.abortLink, if_neg (by omega), if_neg (by omega), if_pos (by omega), Nat.add_sub_cancel_left]

theorem State.abortLink_spi (k : Fin 4) : s.abortLink (0x10 + k.val) mine = s.spiAbort k := by
  rw [State.abortLink, if_neg (by omega), if_neg (by omega), if_neg (by omega), if_pos (by omega), Nat.add_sub_cancel_left,
    Fin.ofNat_val_eq_self]

theorem State.abortLink_xspi : s.abortLink 0x14 mine = s.xspiAbort := rfl

theorem State.abortLink_uart (k : Fin 2) : s.abortLink (0x15 + k.val) mine = s.uartAbort k := by
  rw [State.abortLink, if_neg (by omega), if_neg (by omega), if_neg (by omega), if_neg (by omega), if_neg (by omega), if_pos (by omega),
    Nat.add_sub_cancel_left, Fin.ofNat_val_eq_self]

theorem State.abortLink_i2c (k : Fin 2) : s.abortLink (0x17 + k.val) mine = s.i2cAbort k := by
  rw [State.abortLink, if_neg (by omega), if_neg (by omega), if_neg (by omega), if_neg (by omega), if_neg (by omega), if_neg (by omega),
    if_pos (by omega), Nat.add_sub_cancel_left, Fin.ofNat_val_eq_self]

theorem State.abortLink_avs (k : Fin 2) : s.abortLink (0x19 + k.val) mine = s.avsAbort k := by
  rw [State.abortLink, if_neg (by omega), if_neg (by omega), if_neg (by omega), if_neg (by omega), if_neg (by omega), if_neg (by omega),
    if_neg (by omega), Nat.add_sub_cancel_left, Fin.ofNat_val_eq_self]

theorem State.abortLink_step (n : Nat) : State.AbortStep C s (s.abortLink n mine) := by
  unfold State.abortLink
  refine .ite (fun _ => (s.canEndAll_aside _ _).step) fun _ => .ite (fun _ => .refl s) fun _ => .ite (fun _ => ?_) fun _ =>
    .ite (fun _ => (s.modSpi_aside _ _).step) fun _ => .ite (fun _ => s.xspiAbort_aside.step) fun _ =>
    .ite (fun _ => (s.modUart_aside _ _).step) fun _ => .ite (fun _ => (s.i2cAbort_aside _).step) fun _ => (s.avsAbort_aside _).step
  exact (s.echoAbort_step _ _).trans (State.abortEvents_step _ _)

end

/-! ### A region -/

/-- The blocks of region `r` aborted. -/
def State.abortBlocks (s : State) (r : Nat) : State := (List.range 4).foldl (fun s b => s.abortBlock (4 * r + b)) s

theorem State.abortBlocks_step (s : State) (r : Nat) : State.AbortStep (fun _ => True) s (s.abortBlocks r) :=
  .foldl (fun _ _ _ => State.abortBlock_step fun _ _ => trivial) s

theorem State.abortBlocks_halts {r : Nat} {c p : Fin 128} (hc : c.val / 32 = r) (hs : State.AbortReady (fun _ => True) s c p) :
    (s.abortBlocks r).haltedOn c p := by
  refine foldl_reaches (I := fun s => State.AbortReady (fun _ => True) s c p) (P := fun s => s.haltedOn c p)
    (List.mem_range.2 (show c.val / 8 % 4 < 4 by omega)) ?_ ?_ ?_ hs
  · exact fun s b _ hs => (State.abortBlock_step fun _ _ => trivial).ready hs
  · exact fun s b _ hs hh => (State.abortBlock_step fun _ _ => trivial).halted hs hh
  · exact fun s hs => State.abortBlock_halts (fun _ _ => trivial) (by omega) hs

/-- The groups of a region, and the events for it. -/
def State.abortRegionGroups (s : State) (r : Nat) : State :=
  (s.abortGroups fun g => g / 8 == r).abortEvents fun e => e.toRegion r

theorem State.abortEffect_region (s : State) (r : Nat) :
    s.abortEffect 4 r = ((s.abortRegionGroups r).abortBlocks r).abortPeriph r fun _ _ => true := rfl

theorem State.abortRegionGroups_step (s : State) (r : Nat) : State.AbortStep C s (s.abortRegionGroups r) :=
  (s.abortGroups_step _).trans (State.abortEvents_step _ _)

theorem State.abortRegion_step {r : Nat} (hr : r < 4) : State.AbortStep (fun _ => True) s (s.abortEffect 4 r) := by
  rw [State.abortEffect_region]
  exact ((s.abortRegionGroups_step r).trans (State.abortBlocks_step _ r)).trans (State.abortPeriph_step hr)

section

variable {r : Nat} (hr : r < 4) (hgal : s.galOk) (hecho : s.echoOk)

include hr hgal hecho

theorem State.abortRegion_set {g : Fin 32} (hg : g.val / 8 = r) : (s.abortEffect 4 r).abortSet g := by
  have h1 := (s.abortGroups_step (C := fun _ => True) fun g => g / 8 == r) hgal hecho
  have hset : (s.abortGroups fun g => g / 8 == r).abortSet g := State.abortGroups_set hgal hecho (by simpa using hg)
  rw [State.abortEffect_region, State.abortRegionGroups]
  exact ((((State.abortEvents_step _ _).trans (State.abortBlocks_step _ r)).trans (State.abortPeriph_step hr)) h1.galOk
    h1.echoOk).pattern g hset

theorem State.abortRegion_off {i : Nat} (hi : i / 8 = r) : (s.abortEffect 4 r).dsmOff i := by
  have h1 := ((s.abortRegionGroups_step (C := fun _ => True) r).trans (State.abortBlocks_step _ r)) hgal hecho
  rw [State.abortEffect_region]
  exact State.abortPeriph_dsm hr h1.galOk h1.echoOk hi rfl

theorem State.abortRegion_queue {j : Fin 16} (hj : j.val / 4 = r) : ((s.abortEffect 4 r).cv j).queue = [] := by
  have h1 := ((s.abortRegionGroups_step (C := fun _ => True) r).trans (State.abortBlocks_step _ r)) hgal hecho
  rw [State.abortEffect_region]
  exact State.abortPeriph_queue hr h1.galOk h1.echoOk hj rfl

theorem State.abortRegion_halts {c p : Fin 128} (hc : c.val / 32 = r) (hplain : ∀ d, s.plainCell d) (hrun : s.runsOn c p) :
    (s.abortEffect 4 r).haltedOn c p := by
  have h0 : State.AbortReady (fun _ => True) s c p := ⟨hgal, hecho, fun d _ => hplain d, .inl hrun⟩
  have h1 := (s.abortRegionGroups_step r).ready h0
  have h2 := (State.abortBlocks_step _ r).ready h1
  rw [State.abortEffect_region]
  exact (State.abortPeriph_step hr).halted h2 (State.abortBlocks_halts hc h1)

end

/-! ### A chamber -/

/-- The unit belongs to chamber `c`. -/
def State.mineOf (s : State) (c kind i : Nat) : Bool := s.ownerOf kind i == c

/-- The cells that `mine` admits aborted, where they run or work. -/
def State.chamberCells (s : State) (mine : Nat → Bool) : State :=
  (List.finRange 128).foldl (fun s k =>
    if mine k.val && (s.lstate k == 1 || s.lstate k == 2 || (vget s.lcell k).work != .none) then s.abortOneCell k else s) s

def State.chamberBlocks (s : State) (mine : Nat → Bool) : State :=
  (List.range 16).foldl (fun s b => if mine b then s.abortBlock b else s) s

def State.chamberPeriph (s : State) (mine : Nat → Nat → Bool) : State := (List.range 4).foldl (fun s r => s.abortPeriph r mine) s

/-- The events of a chamber ended. -/
def State.chamberEvents (s : State) (c : Nat) : State :=
  s.eachEvent (s.gal.events.filter (·.chamber == c)) fun e s => s.endEvent e stABORTED 0 false

/-- `n` links from `base` that `mine` admits aborted. -/
def State.chamberLinks (s : State) (mine : Nat → Bool) (n base : Nat) : State :=
  (List.range n).foldl (fun s i => if mine i then s.abortLink (base + i) (fun _ => true) else s) s

def State.chamberPorts (s : State) (c : Nat) : State :=
  (List.range 4).foldl (fun s k => s.echoAbort k fun n => s.ringOwner n == c) s

/-- What follows the groups, the cells and the blocks. -/
def State.chamberRest (s : State) (c : Nat) (mine : Nat → Nat → Bool) : State :=
  (((((s.chamberEvents c).chamberLinks (mine 0x12) 8 0).chamberLinks (mine 0x14) 4 0x10).chamberLinks (mine 0x15) 2 0x15).chamberLinks
    (mine 0x16) 2 0x17).chamberPorts c

theorem State.abortChamber_eq (s : State) (c : Nat) : s.abortChamber c =
    ((((((s.abortGroups (s.mineOf c 0x02)).chamberCells (s.mineOf c 0x01)).chamberBlocks (s.mineOf c 0x0B)).chamberPeriph
      (s.mineOf c)).chamberRest c (s.mineOf c)).abortPins c) := rfl

theorem State.chamberCells_step (s : State) (mine : Nat → Bool) : State.AbortStep (fun _ => True) s (s.chamberCells mine) :=
  .foldl (fun s _ _ => .ite (fun _ => State.abortOneCell_step trivial) fun _ => .refl s) s

theorem State.chamberBlocks_step (s : State) (mine : Nat → Bool) : State.AbortStep (fun _ => True) s (s.chamberBlocks mine) :=
  .foldl (fun s _ _ => .ite (fun _ => State.abortBlock_step fun _ _ => trivial) fun _ => .refl s) s

theorem State.chamberPeriph_step (s : State) (mine : Nat → Nat → Bool) : State.AbortStep C s (s.chamberPeriph mine) :=
  .foldl (fun _ _ hr => State.abortPeriph_step (List.mem_range.1 hr)) s

theorem State.chamberLinks_step (s : State) (mine : Nat → Bool) (n base : Nat) : State.AbortStep C s (s.chamberLinks mine n base) :=
  .foldl (fun s _ _ => .ite (fun _ => s.abortLink_step _ _) fun _ => .refl s) s

theorem State.chamberEvents_step (s : State) (c : Nat) : State.AbortStep C s (s.chamberEvents c) :=
  s.eachEvent_step _ fun s e he => s.endEvent_step stABORTED 0 false fun hgal => hgal e he

theorem State.chamberPorts_step (s : State) (c : Nat) : State.AbortStep C s (s.chamberPorts c) :=
  .foldl (fun s k _ => s.echoAbort_step k _) s

theorem State.chamberRest_step (s : State) (c : Nat) (mine : Nat → Nat → Bool) : State.AbortStep C s (s.chamberRest c mine) :=
  (((((s.chamberEvents_step c).trans (State.chamberLinks_step _ _ _ _)).trans (State.chamberLinks_step _ _ _ _)).trans
    (State.chamberLinks_step _ _ _ _)).trans (State.chamberLinks_step _ _ _ _)).trans (State.chamberPorts_step _ c)

theorem State.abortPins_aside (s : State) (c : Nat) : s.AbortAside (s.abortPins c) := s.setReg_aside _ (by decide)

/-- The parts before the pins, from the peripherals on. -/
theorem State.chamberEnd_step (s : State) (c : Nat) (mine : Nat → Nat → Bool) :
    State.AbortStep C s (((s.chamberPeriph mine).chamberRest c mine).abortPins c) :=
  ((s.chamberPeriph_step mine).trans (State.chamberRest_step _ c mine)).trans (State.abortPins_aside _ c).step

theorem State.abortChamber_step (s : State) (c : Nat) : State.AbortStep (fun _ => True) s (s.abortChamber c) := by
  rw [State.abortChamber_eq]
  exact (((s.abortGroups_step _).trans (State.chamberCells_step _ _)).trans (State.chamberBlocks_step _ _)).trans
    (State.chamberEnd_step _ c _)

theorem State.chamberCells_halts {mine : Nat → Bool} {d p : Fin 128} (hmine : mine d.val = true)
    (hrun : State.AbortReady (fun _ => True) s d p) : (s.chamberCells mine).haltedOn d p := by
  refine foldl_halts (List.mem_finRange d) (fun s _ _ => .ite (fun _ => State.abortOneCell_step trivial) fun _ => .refl s)
    (fun s hplain hgal hecho hrun => ?_) trivial hrun
  rw [if_pos (by simp [hmine, hrun.2])]
  exact State.abortOneCell_halts hplain hgal hecho hrun

theorem bitN_eq_testBit (x i : Nat) : bitN x i = x.testBit i := by
  rw [bitN, Nat.testBit_eq_decide_div_mod_eq]
  rfl

theorem State.pinsOf_owner {c : Nat} (h : t.owner = s.owner) : t.pinsOf c = s.pinsOf c := by
  unfold State.pinsOf State.ownerOf
  rw [h]

theorem State.abortPins_edge {c n : Nat} (hn : n < 16) (hpin : bitN (s.pinsOf c) n = true) :
    bitN ((s.abortPins c).reg GPIO_EDGE 0).toNat n = false := by
  have hmine : (BitVec.ofNat 32 (s.pinsOf c)).getLsbD n = true := by
    rw [BitVec.getLsbD_ofNat, ← bitN_eq_testBit, hpin, Bool.and_true, decide_eq_true (by omega)]
  rw [State.abortPins, reg_setReg_same, bitN_eq_testBit, BitVec.testBit_toNat]
  simp [hmine]

section

variable {c : Nat} (hgal : s.galOk) (hecho : s.echoOk)

include hgal hecho

theorem State.abortChamber_set {g : Fin 32} (hg : s.ownerOf 0x02 g.val = c) : (s.abortChamber c).abortSet g := by
  have h1 := (s.abortGroups_step (C := fun _ => True) (s.mineOf c 0x02)) hgal hecho
  have hset : (s.abortGroups (s.mineOf c 0x02)).abortSet g := State.abortGroups_set hgal hecho (by simpa [State.mineOf] using hg)
  rw [State.abortChamber_eq]
  exact ((((State.chamberCells_step _ _).trans (State.chamberBlocks_step _ _)).trans (State.chamberEnd_step _ c _)) h1.galOk
    h1.echoOk).pattern g hset

theorem State.chamberPeriph_off {mine : Nat → Nat → Bool} {i : Nat} (hi : i < 32) (hmine : mine 0x06 i = true) :
    (s.chamberPeriph mine).dsmOff i := by
  refine foldl_reaches (I := fun s => s.galOk ∧ s.echoOk) (P := fun s => s.dsmOff i) (List.mem_range.2 (show i / 8 < 4 by omega))
    ?_ ?_ ?_ ⟨hgal, hecho⟩
  · intro s r hr ⟨hgal, hecho⟩
    have hstep := (State.abortPeriph_step (C := fun _ => True) (mine := mine) (List.mem_range.1 hr)) hgal hecho
    exact ⟨hstep.galOk, hstep.echoOk⟩
  · intro s r hr ⟨hgal, hecho⟩ hoff
    exact ((State.abortPeriph_step (C := fun _ => True) (List.mem_range.1 hr)) hgal hecho).dsm i hi hoff
  · exact fun s ⟨hgal, hecho⟩ => State.abortPeriph_dsm (by omega) hgal hecho rfl hmine

theorem State.abortChamber_off {i : Nat} (hi : i < 32) (hown : s.ownerOf 0x06 i = c) : (s.abortChamber c).dsmOff i := by
  have h1 := (((s.abortGroups_step (C := fun _ => True) (s.mineOf c 0x02)).trans (State.chamberCells_step _ (s.mineOf c 0x01))).trans
    (State.chamberBlocks_step _ (s.mineOf c 0x0B))) hgal hecho
  have h2 := (State.chamberPeriph_step (C := fun _ => True) _ (s.mineOf c)) h1.galOk h1.echoOk
  have hoff := State.chamberPeriph_off (mine := s.mineOf c) h1.galOk h1.echoOk hi (by simpa [State.mineOf] using hown)
  rw [State.abortChamber_eq]
  exact (((State.chamberRest_step (C := fun _ => True) _ c _).trans (State.abortPins_aside _ c).step) h2.galOk h2.echoOk).dsm i hi hoff

theorem State.abortChamber_halts {d p : Fin 128} (hown : s.ownerOf 0x01 d.val = c) (hplain : ∀ k, s.plainCell k) (hrun : s.runsOn d p) :
    (s.abortChamber c).haltedOn d p := by
  have h0 : State.AbortReady (fun _ => True) s d p := ⟨hgal, hecho, fun k _ => hplain k, .inl hrun⟩
  have h1 := (s.abortGroups_step (s.mineOf c 0x02)).ready h0
  have h2 := (State.chamberCells_step _ (s.mineOf c 0x01)).ready h1
  have hhalt := State.chamberCells_halts (mine := s.mineOf c 0x01) (by simpa [State.mineOf] using hown) h1
  rw [State.abortChamber_eq]
  exact ((State.chamberBlocks_step _ _).trans (State.chamberEnd_step _ c _)).halted h2 hhalt

/-- No pin of the chamber keeps an edge selection (R531). -/
theorem State.abortChamber_pins {n : Nat} (hn : n < 16) (hpin : bitN (s.pinsOf c) n = true) :
    bitN ((s.abortChamber c).reg GPIO_EDGE 0).toNat n = false := by
  have hstep := ((((s.abortGroups_step (C := fun _ => True) (s.mineOf c 0x02)).trans (State.chamberCells_step _ (s.mineOf c 0x01))).trans
    (State.chamberBlocks_step _ (s.mineOf c 0x0B))).trans (State.chamberPeriph_step _ (s.mineOf c))).trans
    (State.chamberRest_step _ c (s.mineOf c))
  rw [← State.pinsOf_owner (hstep hgal hecho).owner] at hpin
  rw [State.abortChamber_eq]
  exact State.abortPins_edge hn hpin

end

end

end Sys2Proof.Machine


/-! ## Aborts: the commands and their completion (R470 to R472) -/

namespace Sys2Proof.Machine

/-! ### FAB_ABORT written -/

section

variable {s : State} {ag : Agent} {t : Half} {kind n : Nat}

theorem abortWord_kind (hk : kind < 8) (n : Nat) : FAB_ABORT_KIND.get (abortWord kind n) = kind := by
  rw [abortWord, Fld.get_put_apart _ _ _ _ (by decide) (by decide) (by decide), Fld.get_put _ _ _ (by decide)]
  exact Nat.mod_eq_of_lt hk

theorem abortWord_target (kind : Nat) (hn : n < 2 ^ 16) : FAB_ABORT_TARGET.get (abortWord kind n) = n := by
  rw [abortWord, Fld.get_put _ _ _ (by decide)]
  exact Nat.mod_eq_of_lt hn

/-- FAB_ABORT_RES shows BUSY. -/
def State.begun (s : State) : State := s.setReg FAB_ABORT_RES 0 (FAB_ABORT_RES_BUSY.put 0 1)

/-- The abort that stands. -/
def State.withAbort (s : State) (a : AbortWork) : State := { s with abort := some a }

/-- The abort of kind `kind` and target `n` begun in `s`. -/
def State.abortWork (s : State) (kind n : Nat) : AbortWork :=
  { kind := kind, target := n, since := s.tick, mask := (abortKind kind).2.1 }

/-- The parts of the abort have acted, and it stands. -/
def State.abortBegun (s : State) (kind n : Nat) : State := (s.begun.abortEffect kind n).withAbort (s.abortWork kind n)

theorem State.writeAbort_full (v : Word) (h : s.abort ≠ none) : s.writeAbort ag v = s.refuse ag stFULL 1 (FAB_ABORT.addr 0) := by
  rw [State.writeAbort, if_pos (Option.isSome_iff_ne_none.2 h)]
  rfl

section

variable (hk : kind < 8) (hn : n < 2 ^ 16) (hidle : s.abort = none)

include hk hn hidle

theorem State.writeAbort_idle : s.writeAbort ag (abortWord kind n) =
    if (abortKind kind).1 ≤ n then s.refuse ag stBAD_TARGET 1 (FAB_ABORT.addr 0)
    else if kind = 5 ∧ n = 0 then s.refuse ag stPERM 1 (FAB_ABORT.addr 0) else s.abortBegun kind n := by
  rw [State.writeAbort, abortWord_kind hk, abortWord_target kind hn, hidle]
  simp only [Bool.and_eq_true, decide_eq_true_eq]
  rfl

theorem State.writeAbort_badTarget (h : (abortKind kind).1 ≤ n) :
    s.writeAbort ag (abortWord kind n) = s.refuse ag stBAD_TARGET 1 (FAB_ABORT.addr 0) := by
  rw [State.writeAbort_idle hk hn hidle, if_pos h]

theorem State.writeAbort_begins (h : n < (abortKind kind).1) (hch : ¬ (kind = 5 ∧ n = 0)) :
    s.writeAbort ag (abortWord kind n) = s.abortBegun kind n := by
  rw [State.writeAbort_idle hk hn hidle, if_neg (Nat.not_le.2 h), if_neg hch]

end

theorem State.writeAbort_chamber0 (hidle : s.abort = none) (hn : n = 0) :
    s.writeAbort ag (abortWord 5 n) = s.refuse ag stPERM 1 (FAB_ABORT.addr 0) := by
  rw [hn, State.writeAbort_idle (by decide) (by decide) hidle, if_neg (by decide), if_pos ⟨rfl, rfl⟩]

/-- The five commands, each with its KIND. -/
def isAbort (ag : Agent) (t : Half) (e : Nat × Instr) : Prop :=
  e ∈ [(1, .abortCell ag t), (2, .abortBlock ag t), (3, .abortLink ag t), (4, .abortRegion ag t), (5, .abortChamber ag t)]

theorem abortCommand_admitted (hacc : s.accessStatus ag true (FAB_ABORT.addr 0) = stOK) {e : Nat × Instr} (he : isAbort ag t e) :
    exec e.2 s = .next (s.writeAbort ag (abortWord e.1 t.toNat)) := by
  simp only [isAbort, List.mem_cons, List.not_mem_nil, or_false] at he
  rcases he with rfl | rfl | rfl | rfl | rfl
  · rw [exec_abortCell, execAbortCell, asWrite_ok hacc, ok]
  · rw [exec_abortBlock, execAbortBlock, asWrite_ok hacc, ok]
  · rw [exec_abortLink, execAbortLink, asWrite_ok hacc, ok]
  · rw [exec_abortRegion, execAbortRegion, asWrite_ok hacc, ok]
  · rw [exec_abortChamber, execAbortChamber, asWrite_ok hacc, ok]

theorem abortCommand_kind {e : Nat × Instr} (he : isAbort ag t e) : e.1 < 8 := by
  simp only [isAbort, List.mem_cons, List.not_mem_nil, or_false] at he
  rcases he with rfl | rfl | rfl | rfl | rfl <;> simp

/-! ### The state in which the parts act -/

theorem State.begun_class (s : State) {k : Nat} (hk : k ≠ 1) : s.classRegs s.begun k :=
  s.setReg_classRegs _ (by rw [abortClass_res]; exact hk.symm)

theorem State.begun_runsOn {c p : Fin 128} (hmap : s.physOf c = some p) (hrun : s.lstate c = 1) : s.begun.runsOn c p := by
  have hclass := s.begun_class (k := 2) (by decide)
  refine ⟨hclass.physOf.trans hmap, ?_⟩
  rw [State.lstate, State.fld, hclass.reg (abortClass_cell c)]
  exact hrun

theorem State.begun_reg {f : RegFam} {i : Nat} (h : abortClass (f.addr i) = 0) : s.begun.reg f i = s.reg f i :=
  (s.begun_class (k := 0) (by decide)).reg h

/-- The access rules allow the write, no abort stands, and events and sends are sound. -/
structure State.AbortFree (s : State) (ag : Agent) : Prop where
  acc : s.accessStatus ag true (FAB_ABORT.addr 0) = stOK
  idle : s.abort = none
  galOk : s.galOk
  echoOk : s.echoOk

/-- `u` shows an abort of kind `kind` and target `n` just begun. -/
def State.abortShown (s u : State) (kind n : Nat) : Prop := u.time = s.time ∧ u.abort = some (s.abortWork kind n) ∧
  u.reg FAB_ABORT_RES 0 = FAB_ABORT_RES_BUSY.put 0 1

/-- An abort that starts: it stands, FAB_ABORT_RES shows BUSY, TIME is untouched. -/
theorem abort_starts {e : Nat × Instr} {C : Fin 128 → Prop} {post : State → Prop} (he : isAbort ag t e)
    (h : s.AbortFree ag)
    (ht : t.toNat < (abortKind e.1).1) (hch : ¬ (e.1 = 5 ∧ t.toNat = 0))
    (hstep : State.AbortStep C s.begun (s.begun.abortEffect e.1 t.toNat)) 
    (hpost : ∀ u a, u = s.begun.abortEffect e.1 t.toNat → post (u.withAbort a)) :
    ∃ u, exec e.2 s = .next u ∧ post u ∧ s.abortShown u e.1 t.toNat := by
  have hres : (s.begun.abortEffect e.1 t.toNat).reg FAB_ABORT_RES 0 = FAB_ABORT_RES_BUSY.put 0 1 :=
    (hstep h.galOk h.echoOk).res.trans (reg_setReg_same ..)
  refine ⟨s.abortBegun e.1 t.toNat, ?_, hpost _ _ rfl, State.abortEffect_time .., rfl, hres⟩
  rw [abortCommand_admitted h.acc he, State.writeAbort_begins (abortCommand_kind he) t.isLt h.idle ht hch]

end

/-! ### ABORT_COMPLETE (R472) -/

section

variable {s : State} {a : AbortWork} {late : Byte}

/-- The status of an abort of which the units `fails` have not finished. -/
def abortStatus (a : AbortWork) (fails : Byte) : Nat := if fails = 0 then stOK else if fails = a.mask then stTIMEOUT else stPARTIAL

/-- The units that have not finished, forced. -/
def State.forced (s : State) (a : AbortWork) (fails : Byte) : State :=
  ((List.range 8).filter (fails.getLsbD ·)).foldl (fun s i => s.forceUnit a.kind a.target i) s

/-- No abort stands any more, and its interrupt is raised. -/
def State.abortCleared (u : State) : State := { u with abort := none, abortIrq := true }

theorem State.abortCleared_reg (u : State) (f : RegFam) (i : Nat) : u.abortCleared.reg f i = u.reg f i := rfl

/-- The end of an abort with its outcome and its length shown, in the state `u`. -/
def State.abortEnded (u : State) (status cycles : Nat) (fails : Byte) : State :=
  ((u.setReg FAB_ABORT_RES 0 (FAB_ABORT_RES_MASK.put (FAB_ABORT_RES_STATUS.put 0 status) fails.toNat)).setReg
    FAB_ABORT_TIME 0 (BitVec.ofNat 32 cycles)).abortCleared

theorem abortComplete_none (h : s.abort = none) : exec (.abortComplete late) s = .next s := by
  rw [exec_abortComplete, execAbortComplete, h]
  rfl

theorem abortComplete_early (h : s.abort = some a) (hfails : late &&& a.mask ≠ 0) (hearly : s.tick < a.since + (abortKind a.kind).2.2) :
    exec (.abortComplete late) s = .next s := by
  rw [exec_abortComplete, execAbortComplete, h]
  dsimp only
  rw [if_pos (by simpa [hearly] using hfails)]
  rfl

theorem abortComplete_ends (h : s.abort = some a) (hdue : late &&& a.mask = 0 ∨ a.since + (abortKind a.kind).2.2 ≤ s.tick) :
    exec (.abortComplete late) s = .next ((s.forced a (late &&& a.mask)).abortEnded (abortStatus a (late &&& a.mask))
      (s.tick - a.since) (late &&& a.mask)) := by
  rw [exec_abortComplete, execAbortComplete, h]
  dsimp only
  rw [if_neg (by simpa [or_iff_not_imp_left] using hdue)]
  rfl

theorem State.forced_none (s : State) (a : AbortWork) : s.forced a 0 = s := by
  have hnone : ((List.range 8).filter ((0 : Byte).getLsbD ·)) = [] := by decide
  rw [State.forced, hnone]
  rfl

theorem State.forced_time (s : State) (a : AbortWork) (fails : Byte) : (s.forced a fails).time = s.time :=
  foldl_time (fun s i => s.forceUnit_time a.kind a.target i) _ s

variable {u : State} {status cycles : Nat} {fails : Byte}

theorem State.abortEnded_res : (u.abortEnded status cycles fails).reg FAB_ABORT_RES 0 =
    FAB_ABORT_RES_MASK.put (FAB_ABORT_RES_STATUS.put 0 status) fails.toNat := by
  rw [State.abortEnded, State.abortCleared_reg, reg_setReg_other _ _ _ _ _ _ (by decide), reg_setReg_same]

theorem State.abortEnded_time : (u.abortEnded status cycles fails).reg FAB_ABORT_TIME 0 = BitVec.ofNat 32 cycles := by
  rw [State.abortEnded, State.abortCleared_reg, reg_setReg_same]

theorem State.abortEnded_regs : u.regsSame (u.abortEnded status cycles fails) [FAB_ABORT_RES.addr 0, FAB_ABORT_TIME.addr 0] := by
  intro f i hf
  rw [State.abortEnded, State.abortCleared_reg]
  exact ((u.setReg_frame _ _ _ (by simp)).trans (State.setReg_frame _ _ _ _ (by simp))) f i hf

/-- A late cell: its physical cell ISOLATED, itself FAULTED. -/
theorem State.forced_cell {c p : Fin 128} (hkind : a.kind = 1) (hc : c.val = a.target) (hp : s.physOf c = some p) :
    (s.forced a 1).lstate c = 3 ∧ (s.forced a 1).pstate p = 5 := by
  have hunit : ((List.range 8).filter ((1 : Byte).getLsbD ·)) = [0] := by decide
  have hcell : s.forced a 1 = (s.isolate c p).setLstate c 3 := by
    have hforce : s.forced a 1 = s.forceCell (Fin.ofNat 128 a.target) := by
      rw [State.forced, hunit, hkind]
      rfl
    rw [hforce, ← hc, Fin.ofNat_val_eq_self, State.forceCell, hp]
  rw [hcell]
  constructor
  · rw [State.setLstate_lstate]
  · rw [State.setLstate_pstate, State.isolate, State.evDrop_pstate, State.setPstate_pstate]
    rfl

end

end Sys2Proof.Machine


/-! ## Aborts: what each kind ends (R471) -/

namespace Sys2Proof.Machine

section

variable {s : State} {ag : Agent} {t : Half}

variable (h : s.AbortFree ag)

include h

/-- An abort of a cell starts. -/
theorem abortCell_starts {c : Fin 128} (hc : t.toNat = c.val) : ∃ u, exec (.abortCell ag t) s = .next u ∧
    (s.plainCell c → ∀ p, s.physOf c = some p → s.lstate c = 1 → u.haltedOn c p ∧
      ((∀ e ∈ s.gal.events, e.toCell c.val = false) → (vget u.phys p).fifo = [])) ∧ s.abortShown u 1 t.toNat := by
  have heffect : s.begun.abortEffect 1 t.toNat = s.begun.abortOneCell c := by
    rw [hc, State.abortEffect, Fin.ofNat_val_eq_self]
  refine abort_starts (e := (1, .abortCell ag t)) (C := (· = c)) (by simp [isAbort]) h (hc ▸ c.isLt) (by simp)
    (heffect ▸ State.abortOneCell_step rfl) fun u a hu => ?_
  rw [heffect] at hu
  intro hplain p hmap hrun
  have hruns := State.begun_runsOn hmap hrun
  have hhalt : u.haltedOn c p := hu ▸ State.abortOneCell_halts (s := s.begun) hplain h.galOk h.echoOk hruns
  exact ⟨hhalt, fun hnone => hu ▸ State.abortOneCell_fifo (s := s.begun) hplain hruns hnone⟩

/-- An abort of a block starts. -/
theorem abortBlock_starts {b : Fin 16} (hb : t.toNat = b.val) : ∃ u, exec (.abortBlock ag t) s = .next u ∧
    ((∀ c : Fin 128, c.val / 8 = b.val → s.plainCell c) → ∀ c : Fin 128, c.val / 8 = b.val →
      ∀ p, s.physOf c = some p → s.lstate c = 1 → u.haltedOn c p) ∧ s.abortShown u 2 t.toNat := by
  have heffect : s.begun.abortEffect 2 t.toNat = s.begun.abortBlock b.val := by rw [hb, State.abortEffect]
  have hcells : ∀ l < 8, (Fin.ofNat 128 (8 * b.val + l)).val / 8 = b.val := by
    intro l hl
    simp only [Fin.ofNat]
    omega
  refine abort_starts (e := (2, .abortBlock ag t)) (C := fun c => c.val / 8 = b.val) (by simp [isAbort]) h (hb ▸ b.isLt) (by simp)
    (heffect ▸ State.abortBlock_step hcells) fun u a hu => ?_
  rw [heffect] at hu
  intro hplain c hc p hmap hrun
  have hhalt : u.haltedOn c p := hu ▸ State.abortBlock_halts (s := s.begun) hcells hc
    ⟨h.galOk, h.echoOk, hplain, .inl (State.begun_runsOn hmap hrun)⟩
  exact hhalt

/-- An abort of a region starts. -/
theorem abortRegion_starts {r : Fin 4} (hr : t.toNat = r.val) : ∃ u, exec (.abortRegion ag t) s = .next u ∧
    ((∀ g : Fin 32, g.val / 8 = r.val → u.abortSet g) ∧ (∀ i, i < 8 → u.dsmOff (8 * r.val + i)) ∧
      (∀ j : Fin 16, j.val / 4 = r.val → (u.cv j).queue = []) ∧
      ((∀ c, s.plainCell c) → ∀ c : Fin 128, c.val / 32 = r.val → ∀ p, s.physOf c = some p → s.lstate c = 1 → u.haltedOn c p)) ∧
    s.abortShown u 4 t.toNat := by
  have hgal : s.begun.galOk := h.galOk
  have hecho : s.begun.echoOk := h.echoOk
  refine abort_starts (e := (4, .abortRegion ag t)) (C := fun _ => True) (by simp [isAbort]) h (hr ▸ r.isLt) (by simp)
    (State.abortRegion_step (hr ▸ r.isLt)) fun u a hu => ?_
  rw [hr] at hu
  have hset {g : Fin 32} (hg : g.val / 8 = r.val) : u.abortSet g := hu ▸ State.abortRegion_set r.isLt hgal hecho hg
  have hoff {i : Nat} (hi : i / 8 = r.val) : u.dsmOff i := hu ▸ State.abortRegion_off r.isLt hgal hecho hi
  have hqueue {j : Fin 16} (hj : j.val / 4 = r.val) : (u.cv j).queue = [] := hu ▸ State.abortRegion_queue r.isLt hgal hecho hj
  have hhalt (hplain : ∀ c, s.plainCell c) {c p : Fin 128} (hc : c.val / 32 = r.val) (hruns : s.begun.runsOn c p) : u.haltedOn c p :=
    hu ▸ State.abortRegion_halts r.isLt hgal hecho hc hplain hruns
  exact ⟨fun g hg => hset hg, fun i hi => hoff (by omega), fun j hj => hqueue hj, fun hplain c hc p hmap hrun =>
    hhalt hplain hc (State.begun_runsOn hmap hrun)⟩

/-- An abort of a chamber starts. -/
theorem abortChamber_starts {c : Fin 16} (hc0 : c ≠ 0) (hc : t.toNat = c.val) : ∃ u, exec (.abortChamber ag t) s = .next u ∧
    ((∀ g : Fin 32, s.ownerOf 0x02 g.val = c.val → u.abortSet g) ∧ (∀ i, i < 32 → s.ownerOf 0x06 i = c.val → u.dsmOff i) ∧
      (∀ n, n < 16 → bitN (s.pinsOf c.val) n = true → bitN (u.reg GPIO_EDGE 0).toNat n = false) ∧
      ((∀ d, s.plainCell d) → ∀ d : Fin 128, s.ownerOf 0x01 d.val = c.val →
        ∀ p, s.physOf d = some p → s.lstate d = 1 → u.haltedOn d p)) ∧ s.abortShown u 5 t.toNat := by
  have heffect : s.begun.abortEffect 5 t.toNat = s.begun.abortChamber c.val := by
    rw [hc]
    rfl
  have hgal : s.begun.galOk := h.galOk
  have hecho : s.begun.echoOk := h.echoOk
  have hpos : ¬ c.val = 0 := fun e => hc0 (Fin.ext e)
  refine abort_starts (e := (5, .abortChamber ag t)) (C := fun _ => True) (by simp [isAbort]) h (hc ▸ c.isLt)
    (by simpa [hc] using hpos) (heffect ▸ State.abortChamber_step _ _) fun u a hu => ?_
  rw [heffect] at hu
  have hset {g : Fin 32} (hg : s.ownerOf 0x02 g.val = c.val) : u.abortSet g :=
    hu ▸ State.abortChamber_set (s := s.begun) hgal hecho hg
  have hoff {i : Nat} (hi : i < 32) (hown : s.ownerOf 0x06 i = c.val) : u.dsmOff i :=
    hu ▸ State.abortChamber_off (s := s.begun) hgal hecho hi hown
  have hpins {n : Nat} (hn : n < 16) (hpin : bitN (s.pinsOf c.val) n = true) : bitN (u.reg GPIO_EDGE 0).toNat n = false :=
    hu ▸ State.abortChamber_pins (s := s.begun) hgal hecho hn hpin
  have hhalt (hplain : ∀ d, s.plainCell d) {d p : Fin 128} (hown : s.ownerOf 0x01 d.val = c.val) (hruns : s.begun.runsOn d p) :
      u.haltedOn d p := hu ▸ State.abortChamber_halts (s := s.begun) hgal hecho hown hplain hruns
  exact ⟨fun g hg => hset hg, fun i hi hown => hoff hi hown, fun n hn hpin => hpins hn hpin, fun hplain d hown p hmap hrun =>
    hhalt hplain hown (State.begun_runsOn hmap hrun)⟩

end

end Sys2Proof.Machine


/-! ## Aborts: an abort of a link, and all of them (R123, R470 to R472) -/

namespace Sys2Proof.Machine

section

variable {s u : State} {ag : Agent} {t : Half} {n : Nat}

/-- Every buffer of an aborted CAN controller has ended, a pending one with ABORTED. -/
theorem State.canAborted (s : State) (k : Fin 8) {b : Nat} (hb : b < 3) : (s.canEndAll k stABORTED).txPend k b = false ∧
    (s.txPend k b = true → (s.canEndAll k stABORTED).fld CAN_TXB_RES (txbIdx k b) CAN_TXB_RES_STATUS = stABORTED) := by
  have hreg := s.canEndAll_reg k ⟨b, hb⟩ stABORTED
  dsimp only at hreg
  rw [State.txPend, State.bit, State.fld, State.fld, hreg]
  by_cases hpend : s.txPend k b = true
  · rw [if_pos hpend]
    exact ⟨by decide, fun _ => by decide⟩
  · rw [if_neg hpend]
    exact ⟨Bool.not_eq_true _ ▸ hpend, fun h => absurd h hpend⟩

theorem State.begun_txPend (s : State) (k : Fin 8) {b : Nat} (hb : b < 3) : s.begun.txPend k b = s.txPend k b := by
  rw [State.txPend, State.bit, State.fld, State.begun_reg (abortClass_can k ⟨b, hb⟩).1, State.txPend, State.bit, State.fld]

/-- What an abort of link `n` has ended in `u`. -/
structure State.linkAborted (s u : State) (n : Nat) : Prop where
  can : ∀ k : Fin 8, n = k.val → (vget u.can k).bus = none ∧ ∀ b, b < 3 → u.txPend k b = false ∧
    (s.txPend k b = true → u.fld CAN_TXB_RES (txbIdx k b) CAN_TXB_RES_STATUS = stABORTED)
  mac : 0x08 ≤ n → n < 0x0C → u.regs = s.begun.regs
  echo : ∀ k : Fin 4, n = 0x0C + k.val → ∀ f ∈ (u.ep k.val).queue, f.own = none
  spi : ∀ k : Fin 4, n = 0x10 + k.val → (vget u.spi k).tx = [] ∧ (vget u.spi k).csLow = false
  xspi : n = 0x14 → u.xspi.cmd = none ∧ (s.xspi.cmd ≠ none → u.fld XSPI_STAT 0 XSPI_STAT_STATUS = stABORTED)
  uart : ∀ k : Fin 2, n = 0x15 + k.val → (vget u.uart k).tx = []
  i2c : ∀ k : Fin 2, n = 0x17 + k.val → (vget u.i2c k).cmd = none ∧ u.bit I2C_STAT k.val I2C_STAT_BUSY = false
  avs : ∀ k : Fin 2, n = 0x19 + k.val → ∀ q, (s.avsc k).req = some q → q.seq = false → (u.avsc k).req = none ∧
    u.fld AVS_RES k.val AVS_RES_STATUS = stABORTED

theorem State.spiAbort_ends (s : State) (k : Fin 4) :
    (vget (s.spiAbort k).spi k).tx = [] ∧ (vget (s.spiAbort k).spi k).csLow = false := by
  have hspi : vget (s.spiAbort k).spi k = { s.spic k with tx := [], csLow := false, wrote := false, partl := false } := vget_vset_same ..
  rw [hspi]
  exact ⟨rfl, rfl⟩

theorem State.uartAbort_ends (s : State) (k : Fin 2) : (vget (s.uartAbort k).uart k).tx = [] := by
  have huart : vget (s.uartAbort k).uart k = { s.uartc k with tx := [] } := vget_vset_same ..
  rw [huart]

theorem State.i2cAbort_ends (s : State) (k : Fin 2) :
    (vget (s.i2cAbort k).i2c k).cmd = none ∧ (s.i2cAbort k).bit I2C_STAT k.val I2C_STAT_BUSY = false := by
  have hi2c : vget (s.i2cAbort k).i2c k = { cmd := none, held := false } := vget_vset_same ..
  rw [hi2c]
  exact ⟨rfl, bit_setBit_same s I2C_STAT k.val I2C_STAT_BUSY false (by decide)⟩

theorem State.abortLink_ends (s : State) (n : Nat) : s.linkAborted (s.begun.abortLink n fun _ => true) n where
  can k hk := by
    rw [hk, State.abortLink_can]
    exact ⟨State.canEndAll_bus .., fun b hb => s.begun_txPend k hb ▸ s.begun.canAborted k hb⟩
  mac h8 h12 := by rw [State.abortLink_eth _ _ h8 h12]
  echo k hk := by
    rw [hk, State.abortLink_echo, State.ep, State.abortEvents_echo]
    exact s.begun.echoAbort_queue k.val
  spi k hk := by
    rw [hk, State.abortLink_spi]
    exact s.begun.spiAbort_ends k
  xspi hn := by
    rw [hn, State.abortLink_xspi]
    exact s.begun.xspiAbort_ends
  uart k hk := by
    rw [hk, State.abortLink_uart]
    exact s.begun.uartAbort_ends k
  i2c k hk := by
    rw [hk, State.abortLink_i2c]
    exact s.begun.i2cAbort_ends k
  avs k hk q hq hseq := by
    rw [hk, State.abortLink_avs]
    exact State.avsAbort_ends (s := s.begun) hq hseq

/-- The abort that stands is no part of what a link shows. -/
theorem State.linkAborted.withAbort (h : s.linkAborted u n) (a : AbortWork) : s.linkAborted (u.withAbort a) n :=
  ⟨h.can, h.mac, h.echo, h.spi, h.xspi, h.uart, h.i2c, h.avs⟩

/-- An abort of a link starts. -/
theorem abortLink_starts (h : s.AbortFree ag) (ht : t.toNat < 0x1B) : ∃ u, exec (.abortLink ag t) s = .next u ∧
    s.linkAborted u t.toNat ∧ s.abortShown u 3 t.toNat := by
  have heffect : s.begun.abortEffect 3 t.toNat = s.begun.abortLink t.toNat fun _ => true := rfl
  refine abort_starts (e := (3, .abortLink ag t)) (C := fun _ => True) (by simp [isAbort]) h ht (by simp)
    (heffect ▸ State.abortLink_step _ _ _) fun u a hu => ?_
  rw [heffect] at hu
  have hends : s.linkAborted u t.toNat := hu ▸ s.abortLink_ends t.toNat
  exact hends.withAbort a

end

/-- What the end of an abort shows. -/
def State.abortOver (s u : State) (a : AbortWork) (fails : Byte) : Prop := u.abort = none ∧ u.abortIrq = true ∧ u.time = s.time ∧
  u.reg FAB_ABORT_RES 0 = FAB_ABORT_RES_MASK.put (FAB_ABORT_RES_STATUS.put 0 (abortStatus a fails)) fails.toNat ∧
  u.reg FAB_ABORT_TIME 0 = BitVec.ofNat 32 (s.tick - a.since)

section

variable {s : State} {a : AbortWork} {late : Byte}

theorem CELL_STAT_apart : ∀ c : Fin 128, CELL_STAT.addr c.val ∉ [FAB_ABORT_RES.addr 0, FAB_ABORT_TIME.addr 0] := by decide

theorem BLK_PSTATE_apart : ∀ b : Fin 16, BLK_PSTATE.addr b.val ∉ [FAB_ABORT_RES.addr 0, FAB_ABORT_TIME.addr 0] := by decide

theorem State.abortEnded_over (fails : Byte) {u : State} (h : u.time = s.time) :
    s.abortOver (u.abortEnded (abortStatus a fails) (s.tick - a.since) fails) a fails :=
  ⟨rfl, rfl, h, State.abortEnded_res, State.abortEnded_time⟩

/-- An abort that ends in time changes nothing but what shows its end. -/
theorem abortComplete_clean (h : s.abort = some a) (hclean : late &&& a.mask = 0) : ∃ t, exec (.abortComplete late) s = .next t ∧
    s.abortOver t a (late &&& a.mask) ∧ s.regsSame t [FAB_ABORT_RES.addr 0, FAB_ABORT_TIME.addr 0] ∧
    t = { s with regs := t.regs, abort := none, abortIrq := true } := by
  have hends := abortComplete_ends h (.inl hclean)
  rw [hclean, State.forced_none] at hends
  rw [hclean]
  exact ⟨_, hends, State.abortEnded_over 0 rfl, State.abortEnded_regs, rfl⟩

/-- At the bound what has not finished is forced; a late cell is FAULTED on an ISOLATED physical cell. -/
theorem abortComplete_late (h : s.abort = some a) (hdue : a.since + (abortKind a.kind).2.2 ≤ s.tick) :
    ∃ t, exec (.abortComplete late) s = .next t ∧ s.abortOver t a (late &&& a.mask) ∧
      (a.kind = 1 → late &&& a.mask = 1 → ∀ (c p : Fin 128), c.val = a.target → s.physOf c = some p →
        t.lstate c = 3 ∧ t.pstate p = 5) := by
  have htime := s.forced_time a (late &&& a.mask)
  refine ⟨_, abortComplete_ends h (.inr hdue), State.abortEnded_over (late &&& a.mask) htime, fun hkind hone c p hc hp => ?_⟩
  have hregs := State.abortEnded_regs (u := s.forced a (late &&& a.mask)) (status := abortStatus a (late &&& a.mask))
    (cycles := s.tick - a.since) (fails := late &&& a.mask)
  obtain ⟨hfaulted, hisolated⟩ := State.forced_cell hkind hc hp
  rw [← hone] at hfaulted hisolated
  constructor
  · rw [State.lstate, State.fld, hregs _ _ (CELL_STAT_apart c)]
    exact hfaulted
  · rw [State.pstate, State.fld, hregs _ _ (BLK_PSTATE_apart ⟨p.val / 8, by omega⟩)]
    exact hisolated

end

/-- Settles O53: an abort is a chain of parts, each of which keeps what the others have ended. -/
theorem aborts : Obligations.Aborts := by
  unfold Obligations.Aborts
  intro s
  refine ⟨fun ag t hacc => ⟨fun e he => ⟨fun hbusy => ?_, fun hidle hbad => ?_⟩, fun hidle h0 => ?_, fun hidle hgal hecho => ?_⟩,
    fun late => ⟨abortComplete_none, fun a ha => ⟨abortComplete_early ha, abortComplete_clean ha, fun _ => abortComplete_late ha⟩⟩⟩
  · exact (abortCommand_admitted hacc he).trans (congrArg _ (State.writeAbort_full _ hbusy))
  · exact (abortCommand_admitted hacc he).trans
      (congrArg _ (State.writeAbort_badTarget (abortCommand_kind he) t.isLt hidle hbad))
  · exact (abortCommand_admitted (e := (5, .abortChamber ag t)) hacc (by simp [isAbort])).trans
      (congrArg _ (State.writeAbort_chamber0 hidle h0))
  · have hfree : s.AbortFree ag := ⟨hacc, hidle, hgal, hecho⟩
    refine ⟨fun c hc => ?_, fun b hb => ?_, fun ht => ?_, fun r hr => ?_, fun c hc0 hc => ?_⟩
    · obtain ⟨u, hexec, hpost, hshown⟩ := abortCell_starts hfree hc
      refine ⟨u, hexec, fun hplain => ⟨fun p hp hrun => ?_, fun p hp hrun => ?_⟩, hshown⟩
      · exact (hpost hplain p hp hrun).1
      · exact (hpost hplain p hp hrun).2
    · obtain ⟨u, hexec, hpost, hshown⟩ := abortBlock_starts hfree hb
      exact ⟨u, hexec, fun hplain _ c hc => hpost hplain c hc, hshown⟩
    · obtain ⟨u, hexec, hends, hshown⟩ := abortLink_starts hfree ht
      exact ⟨u, hexec, ⟨hends.can, hends.mac, hends.echo, hends.spi, hends.xspi, hends.uart, hends.i2c, hends.avs⟩, hshown⟩
    · obtain ⟨u, hexec, ⟨hset, hoff, hqueue, hhalt⟩, hshown⟩ := abortRegion_starts hfree hr
      exact ⟨u, hexec, ⟨hset, hoff, hqueue, fun hplain _ => hhalt hplain⟩, hshown⟩
    · obtain ⟨u, hexec, ⟨hset, hoff, hpins, hhalt⟩, hshown⟩ := abortChamber_starts hfree hc0 hc
      exact ⟨u, hexec, ⟨hset, hoff, hpins, fun hplain _ => hhalt hplain⟩, hshown⟩

end Sys2Proof.Machine
